-- ==== Sys2Proof/Word.lean ====
section
/-! DEFINITION. The word types of the KN2564: bytes, the Dusk cores' words and accumulators, and the 288-bit code word of
Table 08.1 (R232). Registers of the object dictionary are natural numbers bounded by their type (Table 14.3). -/

namespace Sys2Proof

/-- One byte. -/
abbrev Byte := BitVec 8

/-- One 16-bit word of a Dusk core (Table 15.1). -/
abbrev W16 := BitVec 16

/-- One 40-bit accumulator of a Dusk core (Table 15.1). -/
abbrev Acc := BitVec 40

/-- One 288-bit code word of the device code in the layout of Table 08.1 (R232). -/
abbrev CodeWord := BitVec 288

end Sys2Proof
end

