-- ==== Sys2Proof/Machine/Table.lean ====
section
/-! DEFINITION. Sparse tables in one canonical form (keys strictly rising, no entry equal to what an unlisted key reads as), and
the byte, bit and two's complement helpers of the model. -/

namespace Sys2Proof.Machine

/-- The value at key `k`; an unlisted key reads `d k`. -/
def tget {α : Type} (d : Nat → α) : List (Nat × α) → Nat → α
  | [], k => d k
  | (j, v) :: t, k => if j = k then v else tget d t k

/-- The table with the entry `v` at key `k`. -/
def tins {α : Type} (k : Nat) (v : α) : List (Nat × α) → List (Nat × α)
  | [] => [(k, v)]
  | (j, w) :: t => if j < k then (j, w) :: tins k v t else if j = k then (k, v) :: t else (k, v) :: (j, w) :: t

/-- The table with `v` at key `k`: writing what an unlisted key reads as removes the entry. -/
def tput {α : Type} [DecidableEq α] (d : Nat → α) (k : Nat) (v : α) (t : List (Nat × α)) : List (Nat × α) :=
  if v = d k then t.filter fun p => p.1 != k else tins k v t

/-- The canonical form: every key above `lo`, keys strictly rising, no entry at its default. -/
def twfFrom {α : Type} [DecidableEq α] (d : Nat → α) : Nat → List (Nat × α) → Bool
  | _, [] => true
  | lo, (j, v) :: t => decide (lo ≤ j) && decide (v ≠ d j) && twfFrom d (j + 1) t

/-- The canonical form of a sparse table. -/
def twf {α : Type} [DecidableEq α] (d : Nat → α) (t : List (Nat × α)) : Bool := twfFrom d 0 t

/-- Element `i` of a list, `d` outside it. -/
def nth {α : Type} (l : List α) (i : Nat) (d : α) : α := (l[i]?).getD d

/-- A list with element `i` changed (unchanged outside it). -/
def upd {α : Type} (l : List α) (i : Nat) (f : α → α) : List α := l.modify i f

/-- `n` as `k` bytes, least significant first. -/
def leBytes (k n : Nat) : List Byte := (List.range k).map fun i => BitVec.ofNat 8 (n / 256 ^ i)

/-- The number of a little-endian byte string. -/
def ofLe : List Byte → Nat
  | [] => 0
  | b :: t => b.toNat + 256 * ofLe t

/-- Bytes `off` to `off + k - 1` of a byte string. -/
def slice (l : List Byte) (off k : Nat) : List Byte := (l.drop off).take k

/-- The little-endian number in bytes `off` to `off + k - 1`. -/
def leAt (l : List Byte) (off k : Nat) : Nat := ofLe (slice l off k)

/-- Bits [hi:lo] of a number. -/
def bits (n hi lo : Nat) : Nat := n / 2 ^ lo % 2 ^ (hi + 1 - lo)

/-- Bit `i` of a number set to `b`. -/
def putBit (n i : Nat) (b : Bool) : Nat :=
  if b then (if n.testBit i then n else n + 2 ^ i) else (if n.testBit i then n - 2 ^ i else n)

/-- The two's complement number a `w`-bit pattern stands for. -/
def toSigned (w n : Nat) : Int := if n % 2 ^ w < 2 ^ (w - 1) then (n % 2 ^ w : Nat) else (n % 2 ^ w : Nat) - (2 ^ w : Nat)

/-- The `w`-bit two's complement pattern of an integer. -/
def ofSigned (w : Nat) (z : Int) : Nat := (z % (2 ^ w : Nat)).toNat

/-- ⌈a / b⌉. -/
def ceilDiv (a b : Nat) : Nat := (a + b - 1) / b

/-- How many of the first `n` bits of `w` are set. -/
def popCount (n w : Nat) : Nat := ((List.range n).filter fun i => w.testBit i).length

/-- 1 or 0. -/
def b2n (b : Bool) : Nat := if b then 1 else 0

/-- A byte string padded with zeros to at least `k` bytes. -/
def padTo (k : Nat) (l : List Byte) : List Byte := l ++ List.replicate (k - l.length) 0

/-- The bytes of a text. -/
def strBytes (t : String) : List Byte := t.toList.map fun c => BitVec.ofNat 8 c.toNat

/-- TIME80 of an instant in ns as 10 bytes (R30): nanoseconds in bytes 0 to 3, seconds in bytes 4 to 9. -/
def time80 (t : Nat) : List Byte := leBytes 4 (t % 1000000000) ++ leBytes 6 (t / 1000000000)

end Sys2Proof.Machine
end

