-- ==== Sys2Proof/Syntax.lean ====
section
/-! DEFINITION. The commands of the block: one constructor of `Instr` for each of the 309 rows of opcode_table.json, with the
operands the row's rule gives it. An operand `t` is the timebase instant, in ns, at which a time-driven or stamped step falls;
the other commands happen at the present time. Numbers of units are plain naturals; WellFormed.lean bounds them. -/

namespace Sys2Proof

/-- The access classes of Table 14.1 (R410). -/
inductive AccessClass where
  | host | operator | peer | service | watch
  deriving DecidableEq, Repr

/-- Who performs a dictionary operation: the class of its port and, inside a session, the slot (R410, R414). -/
structure Who where
  cls : AccessClass
  slot : Option Nat
  deriving DecidableEq, Repr

/-- An object reference: index, instance and subindex (R418). -/
structure ObjRef where
  index : Nat
  inst : Nat
  sub : Nat
  deriving DecidableEq, Repr

/-- A measurement by a PTP Sync message (R42): the identity it carries, the binary logarithm of its message interval in s, and the offset found
in ns. -/
structure SyncMeasurement where
  master : Nat
  interval : Int
  offset : Int
  deriving DecidableEq, Repr

/-- The data set of a PTP Announce message (R42); `interval` is the binary logarithm of its message interval in s. -/
structure Announce where
  domain : Nat
  priority1 : Nat
  clockClass : Nat
  accuracy : Nat
  variance : Nat
  priority2 : Nat
  identity : Nat
  stepsRemoved : Nat
  utcOffset : Int
  interval : Int
  deriving DecidableEq, Repr

/-- One sample row data header of a KIND 0 packet (R141, R144): picture line, pixel offset, byte length, field. -/
structure Srd where
  line : Nat
  offset : Nat
  length : Nat
  field2 : Bool
  deriving DecidableEq, Repr

/-- One received UDP datagram as the classifier sees it (R130, R132, R136, R137). `overrun` says that an RTP extension or
CSRC list overruns the datagram, `short` that it is shorter than its headers. -/
structure Datagram where
  src : Nat
  dst : Nat
  udp : Nat
  version : Nat
  payloadType : Nat
  ssrc : Nat
  seq : Nat
  extSeq : Nat
  timestamp : Nat
  marker : Bool
  overrun : Bool
  short : Bool
  srds : List Srd
  payload : List Byte
  deriving DecidableEq, Repr

/-- What an Ethernet frame carries (R127, R129): an ARP request names the address asked for and its sender's MAC and IPv4 addresses. -/
inductive EthPayload where
  | fcsError
  | arpRequest (target mac ip : Nat)
  | igmpQuery
  | ptp
  | udp (d : Datagram)
  | other
  deriving DecidableEq, Repr

/-- One received Ethernet frame: its length in bytes and its content. -/
structure EthFrame where
  length : Nat
  body : EthPayload
  deriving DecidableEq, Repr

/-- One received SDI line (R147 to R150): the picture line, if active, its pixel groups, whether its CRC held, the ancillary
packets of its blanking, the ST 352 identifier when the line carries one, and whether it ends the active picture. -/
structure SdiLine where
  line : Option Nat
  data : List Byte
  crcOk : Bool
  anc : List Byte
  payloadId : Option Nat
  lastActive : Bool
  deriving DecidableEq, Repr

/-- The class of a request or flit: the virtual channels of Table 09.6. -/
inductive VC where
  | vc0 | vc1 | vc2 | vc3
  deriving DecidableEq, Repr

/-- Operations of a flit (Table 09.3); `reserved` holds values 6 to 15. -/
inductive FlitOp where
  | read | write | writeMasked | response | status | control
  | reserved (code : Nat)
  deriving DecidableEq, Repr

/-- A flit (R264, Table 09.2) with its two payload code words and, for a write, the address its side word carries. -/
structure Flit where
  vc : VC
  op : FlitOp
  dstRing : Nat
  dstStop : Nat
  srcRing : Nat
  srcStop : Nat
  epoch : Nat
  beat : Nat
  last : Bool
  poison0 : Bool
  poison1 : Bool
  two : Bool
  tag : Nat
  crc : Nat
  word0 : CodeWord
  word1 : CodeWord
  waddr : Option Nat
  deriving DecidableEq, Repr

/-- A request that reaches a PC controller (R200, R205): one 32-byte word. `order` is the age given by the master. -/
structure PcReq where
  addr : Nat
  write : Bool
  mask : Nat
  data : Nat
  poison : Bool
  vc : VC
  master : Nat
  tag : Nat
  deriving DecidableEq, Repr

/-- The kinds of master whose accesses Table 01.4 and Table 10.1 tell apart. -/
inductive MasterKind where
  | stream | raster | move | fabric | scheduler | steward | loader
  deriving DecidableEq, Repr

/-- One access a master hands to its stop (R293): `unit` is the number of the engine, move engine, fabric port or flow that makes it. -/
structure MasterReq where
  kind : MasterKind
  unit : Nat
  write : Bool
  posted : Bool
  masked : Bool
  addr : Nat
  count : Nat
  mirror : Bool
  vc : VC
  tag : Nat
  words : List Nat
  mask : Nat
  deriving DecidableEq, Repr

/-- The port of a block memory that an access uses, port B of raw mode or not, and whether the access falls in the same clock cycle as the
memory's access before it (R323). -/
structure BramPort where
  b : Bool
  same : Bool
  deriving DecidableEq, Repr

/-- The age arbiters (R280 and the text before R281): exchange outputs, slice ports and PC request ports. -/
inductive ArbId where
  | exchange (port : Nat)
  | slice (k : Nat)
  | pc (n : Nat)
  deriving DecidableEq, Repr

/-- Status of a write acknowledgement (Table 09.5). -/
inductive AckStatus where
  | done | asleep | dead | discarded
  deriving DecidableEq, Repr

/-- The answer to a read (R292, R297): words with their poison flags, or a STATUS. -/
inductive ReadAnswer where
  | words (ws : List (Nat × Bool))
  | addressError
  | asleep
  | dead
  deriving DecidableEq, Repr

/-- One flit a fabric write handshake carries, by the signals of Table 11.4: `addr` is WR_ADDR (address bits [39:5]). -/
structure WrFlit where
  addr : Nat
  word0 : Nat
  word1 : Nat
  two : Bool
  last : Bool
  mask : Nat
  poison : Nat
  posted : Bool
  ident : Nat
  deriving DecidableEq, Repr

/-- Kind of access a lane loses (the causes of event 0x2002, Table 13.10, and R391). -/
inductive LossCause where
  | signal | lock | reference
  deriving DecidableEq, Repr

/-- One Skeltia packet as the receiver saw it (R399, R401): SEQ, CHANNEL and LENGTH of its START block, the data blocks, the CRC-32 of its
END block, and whether it came whole, with no block of R401 that breaks it. -/
structure LinkPacket where
  seq : Nat
  channel : Nat
  length : Nat
  payload : List Byte
  crc : Nat
  whole : Bool
  deriving DecidableEq, Repr

/-- Where an OBP frame arrived (Table 14.1). -/
inductive ObpPort where
  | spi
  | mgmt (addr port : Nat)
  | link (k : Nat)
  | service
  deriving DecidableEq, Repr

/-- A datagram at the management port (R411). -/
inductive MgmtBody where
  | arpRequest (target : Nat)
  | udp (dstPort : Nat) (data : List Byte)
  | fragment
  | other
  deriving DecidableEq, Repr

/-- The requester of a lock (R457): a core, or a session of the dictionary. -/
inductive LockParty where
  | core (c : Nat)
  | session (w : Who)
  deriving DecidableEq, Repr

/-- A council message (Table 19.1). -/
structure CouncilMsg where
  magicOk : Bool
  ident : Nat
  state : Nat
  fw : Nat
  profile : Nat
  tbState : Nat
  cadence : Nat
  view : Nat
  frame : Nat
  tSend : Nat
  tEcho : Nat
  tHeld : Nat
  digest : List Byte
  uniqueId : Nat
  deriving DecidableEq, Repr

/-- The header fields of a DATA packet and its content (Table 19.3). -/
structure PeerData where
  flow : Nat
  first : Bool
  last : Bool
  frame : Nat
  offset : Nat
  metaWord : Nat
  data : List Byte
  deriving DecidableEq, Repr

/-- What a checker answers to an injected word (Table 08.2). -/
inductive CheckAnswer where
  | clean
  | corrected (position value : Nat)
  | poison
  | uncorrectable
  deriving DecidableEq, Repr

/-- What a checker answered to the self-test patterns of Table 08.7, in order: its kind and number as event 0x3107 gives them; kind 6 is a
coded block memory. -/
structure CheckReport where
  kind : Nat
  number : Nat
  answers : List CheckAnswer
  deriving DecidableEq, Repr

/-- What Daybreak's training found on a PC (R216): the rates (bit mask) at which it has no working setting, the lane that became dead (0xFF for
none), and the setting chosen for each lane at each rate. -/
structure TrainResult where
  pc : Nat
  bad : Nat
  dead : Nat
  settings : List (List Nat)
  deriving DecidableEq, Repr

/-- The result of one Daybreak step (Tables 17.2 and 17.3). -/
inductive StepResult where
  /-- The step completed. -/
  | ok
  /-- Step 3: FUSE_CHECK reads 0. -/
  | fuseCheckFailed
  /-- Step 4: what these checkers answered; every other checker answered as expected. -/
  | checkers (reports : List CheckReport)
  /-- Step 6: the pins PROFILE[2:0] and ENS_ID[2:0] as sampled. -/
  | profilePins (profile ensId : Nat)
  /-- Step 7: the bytes the flash returned at the first location, and at the last-good location; none where the read failed. -/
  | image (first second : Option (List Byte))
  /-- Step 8: what training found on these PCs; every other PC has a working setting at every rate, the stored one, and no dead lane. -/
  | trained (results : List TrainResult)
  /-- Step 9: the lanes whose transmit PLL failed. -/
  | lanes (failed : List Nat)
  /-- Step 10: the graph images the flash returned, one for each graph entry. -/
  | graphs (images : List (List Byte))
  deriving DecidableEq, Repr

/-- One data access watched by a WATCH patch unit (Table 20.8). -/
structure WatchAccess where
  core : Nat
  addr : Nat
  write : Bool
  deriving DecidableEq, Repr

/-- The commands, in the order of opcode_table.json. -/
inductive Instr where
  -- identity, presence and register writes (chapters 00 and 14)
  | snapshotRead (w : Who)
  | registerWrite (w : Who) (r : ObjRef) (raw : List Byte)
  -- timebase (chapter 02)
  | ptpSync (t port : Nat) (m : SyncMeasurement)
  | ptpAnnounce (t port : Nat) (a : Announce)
  | refInFrame (t format num den : Nat)
  | holdoverTimeout (t : Nat)
  | ptpSourceLost (t port : Nat)
  | refInLost (t : Nat)
  | setTime (w : Who) (sec ns : Nat)
  | frameMark (c n : Nat)
  | schedulerTick (k : Nat)
  | cadenceEnable (w : Who) (c : Nat)
  | cadenceDisable (w : Who) (c : Nat)
  | commitLeadCheck (c n : Nat)
  | slotTableSwap (t : Nat)
  -- graph scheduler (chapter 03)
  | graphLoad (w : Who) (g : Nat)
  | loadCheckDone (g : Nat)
  | armStart (w : Who) (g : Nat)
  | armStop (w : Who) (g : Nat)
  | armSwitch (w : Who) (g : Nat)
  | unload (w : Who) (g : Nat)
  | graphDisarm (w : Who) (g : Nat)
  | handleDefine (w : Who) (i : Nat)
  | handleRelease (w : Who) (i : Nat)
  | operationCompletion (t o tag status : Nat)
  | dispatch (o : Nat)
  | operationStart (t o : Nat)
  | delayListRelease
  | cutoffExpiry
  | overflowListCutoff
  | frameTableScanCutoff (t : Nat)
  | maxRunAbort
  | commitRequest (flow frame stamp : Nat)
  | graphDrained (g : Nat)
  -- admission (chapter 04)
  | admissionRequest (w : Who) (g : Nat)
  | admissionReply (us : Nat)
  | admissionRelease (w : Who) (g : Nat)
  | admissionImpair (g : Nat)
  -- stream engine (chapter 05)
  | portEnable (w : Who) (p : Nat) (on : Bool)
  | ethFrameReceive (t p : Nat) (f : EthFrame)
  | configure (w : Who) (f : Nat)
  | unconfigure (w : Who) (f : Nat)
  | mergeWindowExpiry (t f n : Nat)
  | legTimeout (t f leg : Nat)
  | sdiFrameBegin (t lane : Nat)
  | sdiLineReceive (t lane : Nat) (l : SdiLine)
  | egressLaunch (t f : Nat)
  | egressPacketSend (t p : Nat)
  | sdiRepeatCheck (lane n : Nat)
  | sdiEgressFrame (lane n : Nat)
  -- raster and move engines (chapters 06 and 03)
  | convertComplete (t e corrected : Nat) (storeFault : Bool)
  | abortOrder (t o tag : Nat)
  | abortComplete (t e : Nat)
  | moveOperationComplete (t m : Nat)
  -- frame store (chapter 07)
  | pcRequestAccept (n : Nat) (r : PcReq)
  | pcBurstIssue (n : Nat)
  | rowPrechargeTimeout (n b : Nat)
  | refreshDue (n b : Nat)
  | refreshIssue (n b : Nat)
  | scrubAccess (n : Nat)
  | retrainWindow (n pass : Nat)
  | sweepEnd (n : Nat)
  | sweepRetry (n : Nat)
  | degradedIntervalEnd (t n : Nat)
  | fenceRecord (t n g : Nat)
  | mapWrite (w : Who) (s v : Nat)
  | rateChangeCommand (w : Who) (s r : Nat)
  | rateChangeComplete (t s : Nat) (failed : List Nat)
  | stackThrottle (s : Nat) (temp : Int)
  -- device code (chapter 08)
  | logEntryFree (w : Who) (n mask : Nat)
  | fill (w : Who) (base len : Nat)
  | fillComplete
  | retireRow (w : Who) (a : Nat)
  | retireBank (w : Who) (v : Nat)
  -- rings (chapter 09)
  | masterRequest (g : Nat) (r : MasterReq)
  | flitSend (g dir : Nat)
  | flitReceive (g dir : Nat) (f : Flit)
  | sideWordReceive (g dir side : Nat)
  | acknowledgementReceive (g tag : Nat) (st : AckStatus)
  | readResponseReceive (g tag : Nat) (a : ReadAnswer)
  | arbiterDecision (a : ArbId)
  | starvation (a : ArbId)
  | epochDrainEnd (t : Nat)
  | epochDrainBound (t : Nat)
  | partialTransferTimeout (g dir : Nat) (vc : VC)
  | transferTimeout (g tag : Nat)
  | segmentFault (t k seg dir : Nat)
  | detourEnter (t k : Nat)
  -- scratchpad (chapter 10)
  | sliceBankAccess (k b : Nat)
  | scratchpadScrubAccess (b : Nat)
  | wipeStart (t source : Nat)
  | wipeComplete (t : Nat)
  -- fabric (chapter 11); `addr` and `count` of a read request are RQ_ADDR (address bits [39:5]) and RQ_COUNT (words minus 1)
  | bramRead (m addr : Nat) (port : BramPort)
  | bramWrite (m addr data : Nat) (port : BramPort) (wpoison : Bool)
  | pllLockLoss (p : Nat)
  | pllLock (p khz : Nat)
  | portUpChange (t q : Nat) (up : Bool)
  | descriptorHandshake (q : Nat)
  | parameterHandshake (q : Nat)
  | doneHandshake (t q tag status code : Nat)
  | completionForward (t q : Nat)
  | readRequestHandshake (q addr count : Nat) (mirror : Bool) (ident : Nat)
  | readResponseHandshake (q : Nat)
  | writeFlitHandshake (q : Nat) (f : WrFlit)
  | forcedAbort (t q : Nat)
  -- configuration (chapter 12)
  | fullLoad (w : Who)
  | imageData (w : Who) (offset : Nat) (data : List Byte)
  | streamTimeout (t : Nat)
  | loadFinish (t : Nat) (data : List Byte) (readOk : Bool)
  | partialLoad (w : Who) (n : Nat)
  | armExchange (w : Who) (n : Nat)
  | exchangeDisarm (w : Who) (n : Nat)
  | shadowClear (w : Who) (n : Nat)
  | swapRegionRetire (w : Who) (n : Nat)
  | exchangeComplete (t n : Nat)
  | configScrubRead (t : Nat)
  | repairComplete (t : Nat) (segment : List Byte)
  | readback (w : Who) (f : Nat)
  -- lanes and links (chapter 13)
  | referenceLoss (t j : Nat)
  | txPllLockFail (l : Nat)
  | laneRetire (w : Who) (l : Nat)
  | signalDetected (t l : Nat)
  | bringupTimeout (t l : Nat)
  | laneLoss (t l : Nat) (c : LossCause)
  | anPageReceive (t l : Nat) (valid : Bool)
  | polarityToggle (t l : Nat)
  | sdiRateTry (t l : Nat)
  | boundaryReceive (t l position header block : Nat)
  | deskewComplete (t k skew : Nat)
  | trainBlockReceive (t k block : Nat)
  | fillerRowArrive (k : Nat)
  | marginCheck (l margin : Nat)
  | eqSave (l : Nat) (eq : List Byte)
  | linkEnable (w : Who) (k : Nat) (on : Bool)
  | packetSend (t k : Nat)
  | packetReceive (t k : Nat) (p : LinkPacket)
  | ackSend (k : Nat)
  | ackReceive (k seq : Nat) (crcOk : Bool)
  | nakReceive (k seq : Nat) (crcOk : Bool)
  | replayTimeout (t k : Nat)
  | prbsClear (w : Who) (l : Nat)
  | eyeScan (w : Who) (l : Nat) (raw : List Byte)
  | eyeScanComplete (l errors bits : Nat)
  -- object dictionary (chapter 14)
  | writeFrame (data : List Byte) (whole : Bool)
  | readFrame
  | readStatus
  | mgmtDatagram (t src srcPort : Nat) (b : MgmtBody)
  | obpFrameReceive (t : Nat) (port : ObpPort) (data : List Byte)
  | requestExecute (t : Nat)
  | obpRead (w : Who) (r : ObjRef) (offset len : Nat)
  | obpWrite (w : Who) (r : ObjRef) (offset : Nat) (last : Bool) (data : List Byte)
  | obpInfo (w : Who) (r : ObjRef) (len : Nat)
  | obpOpen (port : ObpPort) (nonce : Nat)
  | obpClose (w : Who)
  | sessionTimeout (t s : Nat)
  | sessionCloseCommand (w : Who) (s : Nat)
  | writeLockClaim (w : Who) (ident : Nat)
  | writeLockRelease (w : Who)
  | notifySend (t s : Nat)
  | mgmtConfigApply
  | profileRecordWrite (w : Who) (p : Nat) (record : List Byte)
  | profileArmSwitch (w : Who)
  | profileDisarm (w : Who)
  | capture (w : Who)
  | erase (w : Who)
  -- Dusk core instructions (chapter 15)
  | duskAdd (c dst a b : Nat)
  | duskSub (c dst a b : Nat)
  | duskAnd (c dst a b : Nat)
  | duskOr (c dst a b : Nat)
  | duskXor (c dst a b : Nat)
  | duskShl (c dst a b : Nat)
  | duskShra (c dst a b : Nat)
  | duskShrl (c dst a b : Nat)
  | duskMov (c dst a : Nat)
  | duskTop (c dst a : Nat)
  | duskFromp (c dst a : Nat)
  | duskMin (c dst a b : Nat)
  | duskMax (c dst a b : Nat)
  | duskAddi (c dst imm : Nat)
  | duskAndi (c dst imm : Nat)
  | duskOri (c dst imm : Nat)
  | duskXori (c dst imm : Nat)
  | duskMovi (c target imm : Nat)
  | duskLd (c d p mode offset : Nat)
  | duskSt (c d p mode offset : Nat)
  | duskMpy (c acc : Nat) (frac : Bool) (dx dy : Nat) (load : Bool)
  | duskMac (c acc : Nat) (frac : Bool) (dx dy : Nat) (load : Bool)
  | duskMsu (c acc : Nat) (frac : Bool) (dx dy : Nat) (load : Bool)
  | duskClr (c acc : Nat) (load : Bool)
  | duskLda (c acc d : Nat)
  | duskLdal (c acc d : Nat)
  | duskMovh (c d acc : Nat)
  | duskMovl (c d acc : Nat)
  | duskAsh (c acc : Nat) (shift : Int)
  | duskNorm (c acc d : Nat)
  | duskExp (c d acc : Nat)
  | duskAdda (c acc : Nat)
  | duskNeg (c acc : Nat)
  | duskAbs (c acc : Nat)
  | duskBranch (c cond d target : Nat)
  | duskCall (c target : Nat)
  | duskRet (c : Nat)
  | duskReti (c : Nat)
  | duskRepeat (c : Nat) (reg : Bool) (d n : Nat)
  | duskBrep (c d last : Nat)
  | duskIn (c d port : Nat)
  | duskOut (c port d : Nat)
  | duskNop (c : Nat)
  | duskIdle (c : Nat)
  | duskEi (c : Nat)
  | duskDi (c : Nat)
  | duskTrap (c : Nat)
  | duskLjmp (c : Nat)
  -- Dusk interrupts, watchdogs, locks, watch programs (chapter 15)
  | interruptEntry (c : Nat)
  | timerExpiry (t : Nat)
  | watchdogKick (t c value : Nat)
  | watchdogWarning (t c : Nat)
  | watchdogExpiry (t c : Nat)
  | lockAcquire (p : LockParty) (n : Nat)
  | lockRelease (p : LockParty) (n : Nat)
  | lockRenew (p : LockParty) (n : Nat)
  | lockClearSuspect (p : LockParty) (n : Nat)
  | leaseExpiry (t n : Nat)
  | watchStart (w : Who)
  | watchStop (w : Who)
  | watchStore (w : Who)
  | mbxGo (addr : Nat)
  | mailboxAnswer
  | raiseData (data : Nat)
  -- power and the Twilight island (chapter 16)
  | tripPortWrite (t value : Nat)
  | wakePortWrite (t : Nat)
  | adcDataRead
  | adcSample (t code : Nat)
  | tripDrainCut (t d : Nat)
  | domainOff (w : Who) (d : Nat)
  | domainOn (w : Who) (d : Nat)
  | drainComplete (t d : Nat)
  | drainAbandon (t d : Nat)
  | standby (w : Who)
  | powerResume (w : Who)
  | nightfall (w : Who)
  | wakePin (t : Nat)
  | wakeTimer (t : Nat)
  -- reset (chapter 17)
  | powerOnReset
  | pinReset
  -- integrity and the event log (chapter 18)
  | latched (w : Who) (mask : Nat)
  | ack (w : Who)
  | clearPinned (w : Who)
  | records (w : Who)
  | logRecordWrite (t : Nat)
  | dropIntervalEnd (t : Nat)
  -- ensembles (chapter 19)
  | councilReceive (t k : Nat) (m : CouncilMsg)
  | join (w : Who)
  | ensembleEnable (w : Who) (on : Bool)
  | planWrite (w : Who) (plan : List Byte)
  | peerDataReceive (t k : Nat) (p : PeerData)
  | peerDataSend (t f : Nat)
  -- life-cycle, debug and service (chapter 20)
  | lifecycleCommit (w : Who) (value : Nat)
  | fuseBlowComplete
  | devDigest (w : Who) (digest : List Byte)
  | serviceKeyDigest (w : Who) (digest : List Byte)
  | imageKey (w : Who) (key : List Byte)
  | tapBypass
  | tapIdcode
  | tapSamplePreload
  | tapExtest
  | tapClamp
  | tapHighz
  | tapSvc (data : List Byte)
  | testLogicReset
  | hello (t : Nat)
  | password (t : Nat) (secret : List Byte)
  | keyx (t rights : Nat) (qt pubkey sig : List Byte)
  | serviceObpRecord (t : Nat) (frame : List Byte)
  | serviceSessionTimeout (t : Nat)
  | serviceEnd (w : Who)
  | debugHalt (t c : Nat)
  | coreResume (t c : Nat)
  | debugStep (t c : Nat)
  | rdReg (c addr : Nat) (take : Bool)
  | wrReg (c addr data : Nat)
  | rdData (c addr : Nat)
  | wrData (c addr data : Nat)
  | wrProg (c addr data : Nat)
  | rdStore (addr : Nat)
  | wrStore (addr data : Nat)
  | debugReset
  | patchBreakHit (u : Nat)
  | patchWatchHit (u : Nat) (a : WatchAccess)
  | termRecord (write take : Bool) (word : Nat)
  | consoleRead (r : ObjRef)
  | consoleWrite (r : ObjRef) (data : List Byte)
  | tamperRecovery
  -- the remaining rows of the table
  | clockLockAchieved (t l : Nat)
  | blockLockAchieved (t l : Nat)
  | wordLockAchieved (t l : Nat) (levelB : Bool)
  | trainingComplete (t l : Nat)
  | adaptationFreeze (l : Nat)
  | adaptationResume (t l : Nat)
  | prbsLock (l : Nat)
  | prbsLockLoss (l : Nat)
  | referencePairReturn (j khz : Nat)
  | mgmtLinkChange (up : Bool)
  | nakPendingExpiry (t k : Nat)
  | stackTemperatureTrip (t s : Nat)
  | domainPowerOnComplete (t d : Nat) (image : List Byte) (results : List TrainResult)
  | daybreakStepComplete (t step : Nat) (r : StepResult)
  | stewardRestartComplete (t : Nat)
  | ptpDelayResp (port : Nat) (delay : Int)
  deriving DecidableEq, Repr

end Sys2Proof
end

