-- ==== Sys2Proof/WellFormed.lean ====
section
/-! DEFINITION. Well-formed commands: every unit number is one of the device (Table 14.4 and the counts of each chapter), every operand
of a Dusk instruction fits its field (Table 15.3). A dictionary operation names its object freely, since the dictionary answers for the
objects that do not exist (R417). -/

namespace Sys2Proof

/-- A core or a session asks for lock `n`: a core's port exists for locks 0 to 63 (Table 15.7). -/
def LockParty.wf (p : LockParty) (n : Nat) : Bool :=
  match p with
  | .core c => decide (c < 2) && decide (n < 64)
  | .session _ => true

/-- The age arbiters there are (Tables 09.13 and 10.4). -/
def ArbId.wf : ArbId → Bool
  | .exchange port => decide (port < 18)
  | .slice k => decide (k < 16)
  | .pc n => decide (n < 128)

/-- A frame arrives on a link only as one of the 256. -/
def ObpPort.wf : ObpPort → Bool
  | .link k => decide (k < 256)
  | _ => true

/-- A flit's fields lie within their widths, and name rings, stops and operations that there are (Tables 09.2, 09.3). -/
def Flit.wf (f : Flit) : Bool :=
  decide (f.dstRing < 16) && decide (f.dstStop < 26) && decide (f.srcRing < 16) && decide (f.srcStop < 26) && decide (f.epoch < 2) &&
  decide (f.beat < 8) && decide (f.tag < 256) && decide (f.crc < 256) &&
  (match f.op with | .reserved n => decide (6 ≤ n) && decide (n < 16) | _ => true) &&
  f.waddr.all fun a => decide (a < 2 ^ 40) && a % 32 == 0

/-- The units a command names exist, and its fields hold its operands.
[DESIGN CHOICE, log 2: safe] -/
def Instr.wf : Instr → Bool
  | .snapshotRead _ => true
  | .registerWrite _ _ _ => true
  | .ptpSync _ port _ => decide (port < 256)
  | .ptpAnnounce _ port _ => decide (port < 256)
  | .refInFrame _ _ _ _ => true
  | .holdoverTimeout _ => true
  | .ptpSourceLost _ port => decide (port < 256)
  | .refInLost _ => true
  | .setTime _ _ _ => true
  | .frameMark c _ => decide (c < 16)
  | .schedulerTick _ => true
  | .cadenceEnable _ _ => true
  | .cadenceDisable _ _ => true
  | .commitLeadCheck c _ => decide (c < 16)
  | .slotTableSwap _ => true
  | .graphLoad _ _ => true
  | .loadCheckDone g => decide (g < 64)
  | .armStart _ _ => true
  | .armStop _ _ => true
  | .armSwitch _ _ => true
  | .unload _ _ => true
  | .graphDisarm _ _ => true
  | .handleDefine _ _ => true
  | .handleRelease _ _ => true
  | .operationCompletion _ o _ _ => decide (o < 608)
  | .dispatch o => decide (o < 608)
  | .operationStart _ o => decide (o < 608)
  | .delayListRelease => true
  | .cutoffExpiry => true
  | .overflowListCutoff => true
  | .frameTableScanCutoff _ => true
  | .maxRunAbort => true
  | .commitRequest flow _ _ => decide (flow < 262144)
  | .graphDrained g => decide (g < 64)
  | .admissionRequest _ _ => true
  | .admissionReply _ => true
  | .admissionRelease _ _ => true
  | .admissionImpair g => decide (g < 64)
  | .portEnable _ _ _ => true
  | .ethFrameReceive _ p _ => decide (p < 256)
  | .configure _ _ => true
  | .unconfigure _ _ => true
  | .mergeWindowExpiry _ f _ => decide (f < 262144)
  | .legTimeout _ f leg => decide (f < 262144) && decide (leg < 2)
  | .sdiFrameBegin _ lane => decide (lane < 256)
  | .sdiLineReceive _ lane _ => decide (lane < 256)
  | .egressLaunch _ f => decide (f < 262144)
  | .egressPacketSend _ p => decide (p < 256)
  | .sdiRepeatCheck lane _ => decide (lane < 256)
  | .sdiEgressFrame lane _ => decide (lane < 256)
  | .convertComplete _ e _ _ => decide (e < 32)
  | .abortOrder _ o _ => decide (o < 608)
  | .abortComplete _ e => decide (e < 32)
  | .moveOperationComplete _ m => decide (m < 64)
  | .pcRequestAccept n _ => decide (n < 128)
  | .pcBurstIssue n => decide (n < 128)
  | .rowPrechargeTimeout n b => decide (n < 128) && decide (b < 64)
  | .refreshDue n b => decide (n < 128) && decide (b < 64)
  | .refreshIssue n b => decide (n < 128) && decide (b < 64)
  | .scrubAccess n => decide (n < 128)
  | .retrainWindow n _ => decide (n < 128)
  | .sweepEnd n => decide (n < 128)
  | .sweepRetry n => decide (n < 128)
  | .degradedIntervalEnd _ n => decide (n < 128)
  | .fenceRecord _ n g => decide (n < 128) && decide (g < 386)
  | .mapWrite _ _ _ => true
  | .rateChangeCommand _ _ _ => true
  | .rateChangeComplete _ s _ => decide (s < 4)
  | .stackThrottle s _ => decide (s < 4)
  | .logEntryFree _ _ _ => true
  | .fill _ _ _ => true
  | .fillComplete => true
  | .retireRow _ _ => true
  | .retireBank _ _ => true
  | .masterRequest g _ => decide (g < 386)
  | .flitSend g dir => decide (g < 384) && decide (dir < 2)
  | .flitReceive g dir f => decide (g < 384) && decide (dir < 2) && f.wf
  | .sideWordReceive g dir w => decide (g < 384) && decide (dir < 2) && decide (w < 2 ^ 72)
  | .acknowledgementReceive g _ _ => decide (g < 386)
  | .readResponseReceive g _ _ => decide (g < 386)
  | .arbiterDecision a => a.wf
  | .starvation a => a.wf
  | .epochDrainEnd _ => true
  | .epochDrainBound _ => true
  | .partialTransferTimeout g dir _ => decide (g < 384) && decide (dir < 2)
  | .transferTimeout g _ => decide (g < 386)
  | .segmentFault _ k seg dir => decide (k < 16) && decide (seg < 24) && decide (dir < 3)
  | .detourEnter _ k => decide (k < 16)
  | .sliceBankAccess k b => decide (k < 16) && decide (b < 32)
  | .scratchpadScrubAccess b => decide (b < 512)
  | .wipeStart _ source => decide (source < 4)
  | .wipeComplete _ => true
  | .bramRead m _ _ => decide (m < 10240)
  | .bramWrite m _ _ _ _ => decide (m < 10240)
  | .pllLockLoss p => decide (p < 48)
  | .pllLock p _ => decide (p < 48)
  | .portUpChange _ q _ => decide (q < 512)
  | .descriptorHandshake q => decide (q < 512)
  | .parameterHandshake q => decide (q < 512)
  | .doneHandshake _ q _ _ _ => decide (q < 512)
  | .completionForward _ q => decide (q < 512)
  | .readRequestHandshake q _ _ _ _ => decide (q < 512)
  | .readResponseHandshake q => decide (q < 512)
  | .writeFlitHandshake q _ => decide (q < 512)
  | .forcedAbort _ q => decide (q < 512)
  | .fullLoad _ => true
  | .imageData _ _ _ => true
  | .streamTimeout _ => true
  | .loadFinish _ _ _ => true
  | .partialLoad _ _ => true
  | .armExchange _ _ => true
  | .exchangeDisarm _ _ => true
  | .shadowClear _ _ => true
  | .swapRegionRetire _ _ => true
  | .exchangeComplete _ n => decide (n < 16)
  | .configScrubRead _ => true
  | .repairComplete _ _ => true
  | .readback _ _ => true
  | .referenceLoss _ j => decide (j < 16)
  | .txPllLockFail l => decide (l < 256)
  | .laneRetire _ _ => true
  | .signalDetected _ l => decide (l < 256)
  | .bringupTimeout _ l => decide (l < 256)
  | .laneLoss _ l _ => decide (l < 256)
  | .anPageReceive _ l _ => decide (l < 256)
  | .polarityToggle _ l => decide (l < 256)
  | .sdiRateTry _ l => decide (l < 256)
  | .boundaryReceive _ l _ _ _ => decide (l < 256)
  | .deskewComplete _ k _ => decide (k < 256)
  | .trainBlockReceive _ k _ => decide (k < 256)
  | .fillerRowArrive k => decide (k < 256)
  | .marginCheck l _ => decide (l < 256)
  | .eqSave l _ => decide (l < 256)
  | .linkEnable _ _ _ => true
  | .packetSend _ k => decide (k < 256)
  | .packetReceive _ k p => decide (k < 256) && decide (p.seq < 65536) && decide (p.channel < 4)
  | .ackSend k => decide (k < 256)
  | .ackReceive k _ _ => decide (k < 256)
  | .nakReceive k _ _ => decide (k < 256)
  | .replayTimeout _ k => decide (k < 256)
  | .prbsClear _ _ => true
  | .eyeScan _ _ _ => true
  | .eyeScanComplete l _ _ => decide (l < 256)
  | .writeFrame _ _ => true
  | .readFrame => true
  | .readStatus => true
  | .mgmtDatagram _ _ _ _ => true
  | .obpFrameReceive _ port _ => port.wf
  | .requestExecute _ => true
  | .obpRead _ _ _ _ => true
  | .obpWrite _ _ _ _ _ => true
  | .obpInfo _ _ _ => true
  | .obpOpen port _ => port.wf
  | .obpClose _ => true
  | .sessionTimeout _ s => decide (s < 64)
  | .sessionCloseCommand _ _ => true
  | .writeLockClaim _ _ => true
  | .writeLockRelease _ => true
  | .notifySend _ s => decide (s < 64)
  | .mgmtConfigApply => true
  | .profileRecordWrite _ _ _ => true
  | .profileArmSwitch _ => true
  | .profileDisarm _ => true
  | .capture _ => true
  | .erase _ => true
  | .duskAdd c dst a b => decide (c < 2) && decide (dst < 8) && decide (a < 8) && decide (b < 8)
  | .duskSub c dst a b => decide (c < 2) && decide (dst < 8) && decide (a < 8) && decide (b < 8)
  | .duskAnd c dst a b => decide (c < 2) && decide (dst < 8) && decide (a < 8) && decide (b < 8)
  | .duskOr c dst a b => decide (c < 2) && decide (dst < 8) && decide (a < 8) && decide (b < 8)
  | .duskXor c dst a b => decide (c < 2) && decide (dst < 8) && decide (a < 8) && decide (b < 8)
  | .duskShl c dst a b => decide (c < 2) && decide (dst < 8) && decide (a < 8) && decide (b < 8)
  | .duskShra c dst a b => decide (c < 2) && decide (dst < 8) && decide (a < 8) && decide (b < 8)
  | .duskShrl c dst a b => decide (c < 2) && decide (dst < 8) && decide (a < 8) && decide (b < 8)
  | .duskMov c dst a => decide (c < 2) && decide (dst < 8) && decide (a < 8)
  | .duskTop c dst a => decide (c < 2) && decide (dst < 8) && decide (a < 8)
  | .duskFromp c dst a => decide (c < 2) && decide (dst < 8) && decide (a < 8)
  | .duskMin c dst a b => decide (c < 2) && decide (dst < 8) && decide (a < 8) && decide (b < 8)
  | .duskMax c dst a b => decide (c < 2) && decide (dst < 8) && decide (a < 8) && decide (b < 8)
  | .duskAddi c dst imm => decide (c < 2) && decide (dst < 8) && decide (imm < 8192)
  | .duskAndi c dst imm => decide (c < 2) && decide (dst < 8) && decide (imm < 8192)
  | .duskOri c dst imm => decide (c < 2) && decide (dst < 8) && decide (imm < 8192)
  | .duskXori c dst imm => decide (c < 2) && decide (dst < 8) && decide (imm < 8192)
  | .duskMovi c target imm => decide (c < 2) && decide (target < 16) && decide (imm < 65536)
  | .duskLd c d p mode offset => decide (c < 2) && decide (d < 8) && decide (p < 4) && decide (mode < 8) && decide (offset < 4096)
  | .duskSt c d p mode offset => decide (c < 2) && decide (d < 8) && decide (p < 4) && decide (mode < 8) && decide (offset < 4096)
  | .duskMpy c acc _ dx dy _ => decide (c < 2) && decide (acc < 2) && decide (dx < 8) && decide (dy < 8)
  | .duskMac c acc _ dx dy _ => decide (c < 2) && decide (acc < 2) && decide (dx < 8) && decide (dy < 8)
  | .duskMsu c acc _ dx dy _ => decide (c < 2) && decide (acc < 2) && decide (dx < 8) && decide (dy < 8)
  | .duskClr c acc _ => decide (c < 2) && decide (acc < 2)
  | .duskLda c acc d => decide (c < 2) && decide (acc < 2) && decide (d < 8)
  | .duskLdal c acc d => decide (c < 2) && decide (acc < 2) && decide (d < 8)
  | .duskMovh c d acc => decide (c < 2) && decide (d < 8) && decide (acc < 2)
  | .duskMovl c d acc => decide (c < 2) && decide (d < 8) && decide (acc < 2)
  | .duskAsh c acc shift => decide (c < 2) && decide (acc < 2) && decide (-32 ≤ shift) && decide (shift ≤ 31)
  | .duskNorm c acc d => decide (c < 2) && decide (acc < 2) && decide (d < 8)
  | .duskExp c d acc => decide (c < 2) && decide (d < 8) && decide (acc < 2)
  | .duskAdda c acc => decide (c < 2) && decide (acc < 2)
  | .duskNeg c acc => decide (c < 2) && decide (acc < 2)
  | .duskAbs c acc => decide (c < 2) && decide (acc < 2)
  | .duskBranch c cond d target => decide (c < 2) && decide (cond < 16) && decide (d < 8) && decide (target < 4096)
  | .duskCall c target => decide (c < 2) && decide (target < 4096)
  | .duskRet c => decide (c < 2)
  | .duskReti c => decide (c < 2)
  | .duskRepeat c _ d n => decide (c < 2) && decide (d < 8) && decide (n < 4096)
  | .duskBrep c d last => decide (c < 2) && decide (d < 8) && decide (last < 4096)
  | .duskIn c d port => decide (c < 2) && decide (d < 8) && decide (port < 1024)
  | .duskOut c port d => decide (c < 2) && decide (port < 1024) && decide (d < 8)
  | .duskNop c => decide (c < 2)
  | .duskIdle c => decide (c < 2)
  | .duskEi c => decide (c < 2)
  | .duskDi c => decide (c < 2)
  | .duskTrap c => decide (c < 2)
  | .duskLjmp c => decide (c < 2)
  | .interruptEntry c => decide (c < 2)
  | .timerExpiry _ => true
  | .watchdogKick _ c _ => decide (c < 2)
  | .watchdogWarning _ c => decide (c < 2)
  | .watchdogExpiry _ c => decide (c < 2)
  | .lockAcquire p n => p.wf n
  | .lockRelease p n => p.wf n
  | .lockRenew p n => p.wf n
  | .lockClearSuspect p n => p.wf n
  | .leaseExpiry _ n => decide (n < 64)
  | .watchStart _ => true
  | .watchStop _ => true
  | .watchStore _ => true
  | .mbxGo _ => true
  | .mailboxAnswer => true
  | .raiseData _ => true
  | .tripPortWrite _ _ => true
  | .wakePortWrite _ => true
  | .adcDataRead => true
  | .adcSample _ _ => true
  | .tripDrainCut _ d => decide (d < 107)
  | .domainOff _ _ => true
  | .domainOn _ _ => true
  | .drainComplete _ d => decide (d < 107)
  | .drainAbandon _ d => decide (d < 107)
  | .standby _ => true
  | .powerResume _ => true
  | .nightfall _ => true
  | .wakePin _ => true
  | .wakeTimer _ => true
  | .powerOnReset => true
  | .pinReset => true
  | .latched _ _ => true
  | .ack _ => true
  | .clearPinned _ => true
  | .records _ => true
  | .logRecordWrite _ => true
  | .dropIntervalEnd _ => true
  | .councilReceive _ k _ => decide (k < 256)
  | .join _ => true
  | .ensembleEnable _ _ => true
  | .planWrite _ _ => true
  | .peerDataReceive _ k _ => decide (k < 256)
  | .peerDataSend _ f => decide (f < 262144)
  | .lifecycleCommit _ _ => true
  | .fuseBlowComplete => true
  | .devDigest _ _ => true
  | .serviceKeyDigest _ _ => true
  | .imageKey _ _ => true
  | .tapBypass => true
  | .tapIdcode => true
  | .tapSamplePreload => true
  | .tapExtest => true
  | .tapClamp => true
  | .tapHighz => true
  | .tapSvc _ => true
  | .testLogicReset => true
  | .hello _ => true
  | .password _ _ => true
  | .keyx _ _ _ _ _ => true
  | .serviceObpRecord _ _ => true
  | .serviceSessionTimeout _ => true
  | .serviceEnd _ => true
  | .debugHalt _ _ => true
  | .coreResume _ _ => true
  | .debugStep _ _ => true
  | .rdReg _ _ _ => true
  | .wrReg _ _ _ => true
  | .rdData _ _ => true
  | .wrData _ _ _ => true
  | .wrProg _ _ _ => true
  | .rdStore _ => true
  | .wrStore _ _ => true
  | .debugReset => true
  | .patchBreakHit u => decide (u < 32)
  | .patchWatchHit u _ => decide (u < 32)
  | .termRecord _ _ _ => true
  | .consoleRead _ => true
  | .consoleWrite _ _ => true
  | .tamperRecovery => true
  | .clockLockAchieved _ l => decide (l < 256)
  | .blockLockAchieved _ l => decide (l < 256)
  | .wordLockAchieved _ l _ => decide (l < 256)
  | .trainingComplete _ l => decide (l < 256)
  | .adaptationFreeze l => decide (l < 256)
  | .adaptationResume _ l => decide (l < 256)
  | .prbsLock l => decide (l < 256)
  | .prbsLockLoss l => decide (l < 256)
  | .referencePairReturn j _ => decide (j < 16)
  | .mgmtLinkChange _ => true
  | .nakPendingExpiry _ k => decide (k < 256)
  | .stackTemperatureTrip _ s => decide (s < 4)
  | .domainPowerOnComplete _ d _ _ => decide (d < 107)
  | .daybreakStepComplete _ step _ => decide (1 ≤ step) && decide (step ≤ 10)
  | .stewardRestartComplete _ => true
  | .ptpDelayResp port _ => decide (port < 256)

end Sys2Proof
end

