-- ==== Sys2Proof/Decode.lean ====
section
/-! DEFINITION. The words of commands. No row of opcode_table.json gives bits, so no table word spells a command. The one instruction
encoding the manual gives is that of the Dusk cores' programs, 24 bits (R446, Table 15.3): its decoder, which refuses reserved classes,
reserved operation values and nonzero reserved fields, and its encoder. -/

namespace Sys2Proof

open Sys2Proof.Machine (bits toSigned ofSigned b2n)

/-- The command a word spells by the bits of opcode_table.json: the table gives none. -/
def decodeTableWord (_nbits _w : Nat) : Option Instr := none

/-! ### Decoding -/

/-- Class 0x0: [19:16] OP, [15:13] DST, [12:10] SRC1, [9:7] SRC2, [6:0] reserved. -/
def duskAlu (c w : Nat) : Option Instr :=
  let dst := bits w 15 13
  let a := bits w 12 10
  let b := bits w 9 7
  if bits w 6 0 ≠ 0 then none
  else match bits w 19 16 with
    | 0 => some (.duskAdd c dst a b)
    | 1 => some (.duskSub c dst a b)
    | 2 => some (.duskAnd c dst a b)
    | 3 => some (.duskOr c dst a b)
    | 4 => some (.duskXor c dst a b)
    | 5 => some (.duskShl c dst a b)
    | 6 => some (.duskShra c dst a b)
    | 7 => some (.duskShrl c dst a b)
    | 8 => some (.duskMov c dst a)
    | 9 => some (.duskTop c dst a)
    | 10 => some (.duskFromp c dst a)
    | 11 => some (.duskMin c dst a b)
    | 12 => some (.duskMax c dst a b)
    | _ => none

/-- Class 0x1: [19:16] OP, [15:13] DST, [12:0] IMM. -/
def duskImmediate (c w : Nat) : Option Instr :=
  let dst := bits w 15 13
  let imm := bits w 12 0
  match bits w 19 16 with
  | 0 => some (.duskAddi c dst imm)
  | 1 => some (.duskAndi c dst imm)
  | 2 => some (.duskOri c dst imm)
  | 3 => some (.duskXori c dst imm)
  | _ => none

/-- Class 0x5: [19:17] OP, [16] ACC, [15] F, [14:12] DX, [11:9] DY, [8] L, [7:0] reserved. -/
def duskMultiply (c w : Nat) : Option Instr :=
  let acc := bits w 16 16
  let f := w.testBit 15
  let dx := bits w 14 12
  let dy := bits w 11 9
  let l := w.testBit 8
  if bits w 7 0 ≠ 0 then none
  else match bits w 19 17 with
    | 0 => some (.duskMpy c acc f dx dy l)
    | 1 => some (.duskMac c acc f dx dy l)
    | 2 => some (.duskMsu c acc f dx dy l)
    | 3 => some (.duskClr c acc l)
    | _ => none

/-- Class 0x6: [19:16] OP, [15] ACC, [14:12] D, [11:6] SHIFT, [5:0] reserved. -/
def duskAccumulator (c w : Nat) : Option Instr :=
  let acc := bits w 15 15
  let d := bits w 14 12
  if bits w 5 0 ≠ 0 then none
  else match bits w 19 16 with
    | 0 => some (.duskLda c acc d)
    | 1 => some (.duskLdal c acc d)
    | 2 => some (.duskMovh c d acc)
    | 3 => some (.duskMovl c d acc)
    | 4 => some (.duskAsh c acc (toSigned 6 (bits w 11 6)))
    | 5 => some (.duskNorm c acc d)
    | 6 => some (.duskExp c d acc)
    | 7 => some (.duskAdda c acc)
    | 8 => some (.duskNeg c acc)
    | 9 => some (.duskAbs c acc)
    | _ => none

/-- Class 0xF: [19:16] OP, [15:0] reserved. -/
def duskMisc (c w : Nat) : Option Instr :=
  if bits w 15 0 ≠ 0 then none
  else match bits w 19 16 with
    | 0 => some (.duskNop c)
    | 1 => some (.duskIdle c)
    | 2 => some (.duskEi c)
    | 3 => some (.duskDi c)
    | 4 => some (.duskTrap c)
    | 5 => some (.duskLjmp c)
    | _ => none

/-- Class 0x9: [19:16] OP, [15:0] reserved. -/
def duskReturn (c w : Nat) : Option Instr :=
  if bits w 15 0 ≠ 0 then none
  else match bits w 19 16 with
    | 0 => some (.duskRet c)
    | 1 => some (.duskReti c)
    | _ => none

/-- Class 0xC: [19] DIR, [18:16] D, [15:6] PORT, [5:0] reserved. -/
def duskInOut (c w : Nat) : Option Instr :=
  if bits w 5 0 ≠ 0 then none
  else if w.testBit 19 then some (.duskOut c (bits w 15 6) (bits w 18 16))
  else some (.duskIn c (bits w 18 16) (bits w 15 6))

/-- The instruction of core `c` that a program word holds (Table 15.3); none for an illegal one. A program word is 32 bits, the
instruction in bits [23:0] and zero above (R445).
[DEDUCED, log 136: unsafe] -/
def duskDecode (c w : Nat) : Option Instr :=
  if 2 ^ 24 ≤ w then none
  else match bits w 23 20 with
    | 0x0 => duskAlu c w
    | 0x1 => duskImmediate c w
    | 0x2 => some (.duskMovi c (bits w 19 16) (bits w 15 0))
    | 0x3 => some (.duskLd c (bits w 19 17) (bits w 16 15) (bits w 14 12) (bits w 11 0))
    | 0x4 => some (.duskSt c (bits w 19 17) (bits w 16 15) (bits w 14 12) (bits w 11 0))
    | 0x5 => duskMultiply c w
    | 0x6 => duskAccumulator c w
    | 0x7 => if w.testBit 12 then none else some (.duskBranch c (bits w 19 16) (bits w 15 13) (bits w 11 0))
    | 0x8 => if bits w 19 12 ≠ 0 then none else some (.duskCall c (bits w 11 0))
    | 0x9 => duskReturn c w
    | 0xA => if bits w 15 12 ≠ 0 then none else some (.duskRepeat c (w.testBit 19) (bits w 18 16) (bits w 11 0))
    | 0xB => if w.testBit 19 || bits w 15 12 != 0 then none else some (.duskBrep c (bits w 18 16) (bits w 11 0))
    | 0xC => duskInOut c w
    | 0xF => duskMisc c w
    | _ => none

/-! ### Encoding -/

/-- A word of a class with its operation in [19:16]. -/
def duskWord (cls op rest : Nat) : Nat := cls * 2 ^ 20 + op * 2 ^ 16 + rest

def duskAluWord (op dst a b : Nat) : Nat := duskWord 0x0 op (dst * 2 ^ 13 + a * 2 ^ 10 + b * 2 ^ 7)

def duskImmediateWord (op dst imm : Nat) : Nat := duskWord 0x1 op (dst * 2 ^ 13 + imm)

def duskMemoryWord (cls d p mode offset : Nat) : Nat := cls * 2 ^ 20 + d * 2 ^ 17 + p * 2 ^ 15 + mode * 2 ^ 12 + offset

def duskMultiplyWord (op acc : Nat) (f : Bool) (dx dy : Nat) (l : Bool) : Nat :=
  0x5 * 2 ^ 20 + op * 2 ^ 17 + acc * 2 ^ 16 + b2n f * 2 ^ 15 + dx * 2 ^ 12 + dy * 2 ^ 9 + b2n l * 2 ^ 8

def duskAccumulatorWord (op acc d : Nat) (shift : Int) : Nat :=
  duskWord 0x6 op (acc * 2 ^ 15 + d * 2 ^ 12 + ofSigned 6 shift * 2 ^ 6)

/-- The word of a Dusk instruction; fields that an operation does not use are zero. None for another command.
[DEDUCED, log 136: unsafe] -/
def duskEncode : Instr → Option Nat
  | .duskAdd _ dst a b => some (duskAluWord 0 dst a b)
  | .duskSub _ dst a b => some (duskAluWord 1 dst a b)
  | .duskAnd _ dst a b => some (duskAluWord 2 dst a b)
  | .duskOr _ dst a b => some (duskAluWord 3 dst a b)
  | .duskXor _ dst a b => some (duskAluWord 4 dst a b)
  | .duskShl _ dst a b => some (duskAluWord 5 dst a b)
  | .duskShra _ dst a b => some (duskAluWord 6 dst a b)
  | .duskShrl _ dst a b => some (duskAluWord 7 dst a b)
  | .duskMov _ dst a => some (duskAluWord 8 dst a 0)
  | .duskTop _ dst a => some (duskAluWord 9 dst a 0)
  | .duskFromp _ dst a => some (duskAluWord 10 dst a 0)
  | .duskMin _ dst a b => some (duskAluWord 11 dst a b)
  | .duskMax _ dst a b => some (duskAluWord 12 dst a b)
  | .duskAddi _ dst imm => some (duskImmediateWord 0 dst imm)
  | .duskAndi _ dst imm => some (duskImmediateWord 1 dst imm)
  | .duskOri _ dst imm => some (duskImmediateWord 2 dst imm)
  | .duskXori _ dst imm => some (duskImmediateWord 3 dst imm)
  | .duskMovi _ target imm => some (duskWord 0x2 target imm)
  | .duskLd _ d p mode offset => some (duskMemoryWord 0x3 d p mode offset)
  | .duskSt _ d p mode offset => some (duskMemoryWord 0x4 d p mode offset)
  | .duskMpy _ acc f dx dy l => some (duskMultiplyWord 0 acc f dx dy l)
  | .duskMac _ acc f dx dy l => some (duskMultiplyWord 1 acc f dx dy l)
  | .duskMsu _ acc f dx dy l => some (duskMultiplyWord 2 acc f dx dy l)
  | .duskClr _ acc l => some (duskMultiplyWord 3 acc false 0 0 l)
  | .duskLda _ acc d => some (duskAccumulatorWord 0 acc d 0)
  | .duskLdal _ acc d => some (duskAccumulatorWord 1 acc d 0)
  | .duskMovh _ d acc => some (duskAccumulatorWord 2 acc d 0)
  | .duskMovl _ d acc => some (duskAccumulatorWord 3 acc d 0)
  | .duskAsh _ acc shift => some (duskAccumulatorWord 4 acc 0 shift)
  | .duskNorm _ acc d => some (duskAccumulatorWord 5 acc d 0)
  | .duskExp _ d acc => some (duskAccumulatorWord 6 acc d 0)
  | .duskAdda _ acc => some (duskAccumulatorWord 7 acc 0 0)
  | .duskNeg _ acc => some (duskAccumulatorWord 8 acc 0 0)
  | .duskAbs _ acc => some (duskAccumulatorWord 9 acc 0 0)
  | .duskBranch _ cond d target => some (duskWord 0x7 cond (d * 2 ^ 13 + target))
  | .duskCall _ target => some (duskWord 0x8 0 target)
  | .duskRet _ => some (duskWord 0x9 0 0)
  | .duskReti _ => some (duskWord 0x9 1 0)
  | .duskRepeat _ reg d n => some (duskWord 0xA (b2n reg * 8 + d) n)
  | .duskBrep _ d last => some (duskWord 0xB d last)
  | .duskIn _ d port => some (duskWord 0xC d (port * 2 ^ 6))
  | .duskOut _ port d => some (duskWord 0xC (8 + d) (port * 2 ^ 6))
  | .duskNop _ => some (duskWord 0xF 0 0)
  | .duskIdle _ => some (duskWord 0xF 1 0)
  | .duskEi _ => some (duskWord 0xF 2 0)
  | .duskDi _ => some (duskWord 0xF 3 0)
  | .duskTrap _ => some (duskWord 0xF 4 0)
  | .duskLjmp _ => some (duskWord 0xF 5 0)
  | _ => none

end Sys2Proof
end

