-- ==== Sys2Proof/Machine/Formats.lean ====
section
/-! DEFINITION. Pixel formats (Tables 06.1 and 06.2, R164 to R167). -/

namespace Sys2Proof.Machine

/-- DEPTH of a format code, in bits. -/
def fmtDepth (f : Nat) : Nat := match f % 4 with | 0 => 8 | 1 => 10 | _ => 12
/-- SAMPLING of a format code: 0 is 4:2:0, 1 is 4:2:2, 2 is 4:4:4. -/
def fmtSampling (f : Nat) : Nat := f / 4 % 4
/-- MODEL of a format code: R'G'B'. -/
def fmtRgb (f : Nat) : Bool := f / 16 % 2 == 1
/-- LAYOUT of a format code: unpacked. -/
def fmtUnpacked (f : Nat) : Bool := f / 32 % 2 == 1

/-- A format code is valid (R164). -/
def fmtValid (f : Nat) : Bool :=
  decide (f < 64) && f % 4 != 3 && fmtSampling f != 3 && !(fmtRgb f && fmtSampling f != 2)

/-- Horizontal coverage of a pixel group (Table 06.2). -/
def fmtCoverH (f : Nat) : Nat :=
  if fmtUnpacked f then (if fmtSampling f == 2 then 1 else 2)
  else match fmtSampling f, f % 4 with
    | 0, 1 => 4
    | 2, 0 => 1
    | 2, 1 => 4
    | _, _ => 2

/-- Vertical coverage of a pixel group (Table 06.2). -/
def fmtCoverV (f : Nat) : Nat := if fmtSampling f == 0 then 2 else 1

/-- Bytes of a pixel group (Table 06.2). -/
def fmtGroup (f : Nat) : Nat :=
  if fmtUnpacked f then (match fmtSampling f with | 0 => 12 | 1 => 8 | _ => 6)
  else match fmtSampling f, f % 4 with
    | 0, 0 => 6
    | 0, 1 => 15
    | 0, _ => 9
    | 1, 0 => 4
    | 1, 1 => 5
    | 1, _ => 6
    | _, 0 => 3
    | _, 1 => 15
    | _, _ => 9

/-- Bytes of one storage row of `w` pixels (R166). -/
def fmtRowBytes (f w : Nat) : Nat := w / fmtCoverH f * fmtGroup f

end Sys2Proof.Machine
end

