-- ==== Sys2Proof/Machine/Pixels.lean ====
section
/-! DEFINITION. Storage rows as samples (R165, R166): where a sample of a pixel group lies, how a row is read and written. -/

namespace Sys2Proof.Machine

/-- Units of a format: width and height in pixels, and samples of one unit (Table 06.2). -/
def unitW (f : Nat) : Nat := if fmtSampling f = 2 then 1 else 2
def unitH (f : Nat) : Nat := if fmtSampling f = 0 then 2 else 1
def unitSamples (f : Nat) : Nat := match fmtSampling f with | 0 => 6 | 1 => 4 | _ => 3

/-- The place in its row of the sample of component `c`, line `dy` of the row, luma column or chroma index `x` (Table 06.2). -/
def sampleIndex (f c dy x : Nat) : Nat :=
  match fmtSampling f with
  | 0 => if c = 0 then 6 * (x / 2) + 2 * dy + x % 2 else 6 * x + 3 + c
  | 1 => if c = 0 then 4 * (x / 2) + 1 + 2 * (x % 2) else 4 * x + 2 * (c - 1)
  | _ => if fmtRgb f then 3 * x + c else 3 * x + (match c with | 0 => 1 | 1 => 0 | _ => 2)

/-- Sample `i` of a storage row: most significant bit first when packed, a little-endian halfword when unpacked (R165). -/
def rowSample (f : Nat) (row : List Byte) (i : Nat) : Nat :=
  let d := fmtDepth f
  if fmtUnpacked f then leAt row (2 * i) 2 % 2 ^ d
  else
    let k := i * d / 8
    let b (j : Nat) : Nat := (nth row (k + j) 0).toNat
    (b 0 * 65536 + b 1 * 256 + b 2) / 2 ^ (24 - i * d % 8 - d) % 2 ^ d

/-- `n` samples as one big-endian number. -/
def packNumber (d : Nat) (l : List Nat) : Nat := l.foldl (fun a x => a * 2 ^ d + x % 2 ^ d) 0

/-- One pixel group's samples as bytes (R165). -/
def packGroup (f : Nat) (l : List Nat) : List Byte :=
  if fmtUnpacked f then l.flatMap fun x => leBytes 2 x
  else (leBytes (fmtGroup f) (packNumber (fmtDepth f) l)).reverse

/-- Samples of one group. -/
def groupSamples (f : Nat) : Nat := fmtCoverH f / unitW f * unitSamples f

/-- The samples of `k` groups from group `g` on, each given by its place in the row, as bytes. -/
def packGroups (f : Nat) (sample : Nat → Nat) (g k : Nat) : List Byte :=
  (List.range k).flatMap fun i =>
    packGroup f ((List.range (groupSamples f)).map fun j => sample ((g + i) * groupSamples f + j))

/-- What sample `i` of a row is: component, line of the row, luma column or chroma index. -/
def sampleAt (f i : Nat) : Nat × Nat × Nat :=
  let n := unitSamples f
  let u := i / n
  let j := i % n
  match fmtSampling f with
  | 0 => if j < 4 then (0, j / 2, 2 * u + j % 2) else (j - 3, 0, u)
  | 1 => if j % 2 = 1 then (0, 0, 2 * u + j / 2) else (1 + j / 2, 0, u)
  | _ => (if fmtRgb f then j else match j with | 0 => 1 | 1 => 0 | _ => 2, 0, u)

end Sys2Proof.Machine
end

