-- ==== Sys2Proof/Machine/Convert.lean ====
section
/-! DEFINITION. The conversion of the raster engines as arithmetic (R162 to R184): the parameter block (Tables 06.9 to 06.12), the
checks of Table 06.15, and the nine stages as functions of component, line and column. -/

namespace Sys2Proof.Machine

/-- The fields of the three header words of a CONVERT parameter block, as numbers (Tables 06.9 to 06.11). -/
structure ConvParams where
  word0 : Nat
  word1 : Nat
  word2 : Nat
  deriving DecidableEq, Repr

namespace ConvParams

def type (p : ConvParams) : Nat := bits p.word0 15 0
def inFormat (p : ConvParams) : Nat := bits p.word0 21 16
def outFormat (p : ConvParams) : Nat := bits p.word0 27 22
def fieldMode (p : ConvParams) : Nat := bits p.word0 29 28
def fieldSelect (p : ConvParams) : Nat := bits p.word0 30 30
def scalerEn (p : ConvParams) : Bool := p.word0.testBit 32
def matrixEn (p : ConvParams) : Bool := p.word0.testBit 33
def lut1dEn (p : ConvParams) : Bool := p.word0.testBit 34
def lut3dEn (p : ConvParams) : Bool := p.word0.testBit 35
def chromaUp (p : ConvParams) : Bool := p.word0.testBit 36
def chromaDown (p : ConvParams) : Bool := p.word0.testBit 37
def clamp (p : ConvParams) : Nat := bits p.word0 39 38
def poisonPolicy (p : ConvParams) : Nat := bits p.word0 41 40
def in1Field2 (p : ConvParams) : Bool := p.word0.testBit 42
def tablesIn2 (p : ConvParams) : Bool := p.word0.testBit 43
def coefOfs (p : ConvParams) : Nat := bits p.word0 63 48
def matrixOfs (p : ConvParams) : Nat := bits p.word0 79 64
def lut1dOfs (p : ConvParams) : Nat := bits p.word0 95 80
def lut3dOfs (p : ConvParams) : Nat := bits p.word0 111 96
def inPitch (p : ConvParams) : Nat := bits p.word0 143 112
def outPitch (p : ConvParams) : Nat := bits p.word0 175 144
def inWidth (p : ConvParams) : Nat := bits p.word0 188 176
def inHeight (p : ConvParams) : Nat := bits p.word0 201 189
def outWidth (p : ConvParams) : Nat := bits p.word0 214 202
def outHeight (p : ConvParams) : Nat := bits p.word0 227 215
def len (p : ConvParams) : Nat := bits p.word0 243 228
def cropX (p : ConvParams) : Nat := bits p.word1 12 0
def cropY (p : ConvParams) : Nat := bits p.word1 25 13
def cropW (p : ConvParams) : Nat := bits p.word1 38 26
def cropH (p : ConvParams) : Nat := bits p.word1 51 39
def posX (p : ConvParams) : Nat := bits p.word1 76 64
def posY (p : ConvParams) : Nat := bits p.word1 89 77
def scaledW (p : ConvParams) : Nat := bits p.word1 102 90
def scaledH (p : ConvParams) : Nat := bits p.word1 115 103
def border (p : ConvParams) (c : Nat) : Nat := bits p.word1 (139 + 12 * c) (128 + 12 * c)
def in2Size (p : ConvParams) : Nat := bits p.word1 195 164
def stepH (p : ConvParams) : Nat := bits p.word2 31 0
def stepV (p : ConvParams) : Nat := bits p.word2 63 32
def initH (p : ConvParams) : Int := toSigned 32 (bits p.word2 95 64)
def initV (p : ConvParams) : Int := toSigned 32 (bits p.word2 127 96)
def initV2 (p : ConvParams) : Int := toSigned 32 (bits p.word2 159 128)

/-- The enabled table sections: offset in bytes and size (Table 06.12). -/
def sections (p : ConvParams) : List (Nat × Nat) :=
  (if p.scalerEn then [(32 * p.coefOfs, 2048)] else []) ++ (if p.matrixEn then [(32 * p.matrixOfs, 32)] else []) ++
  (if p.lut1dEn then [(32 * p.lut1dOfs, 24576)] else []) ++ (if p.lut3dEn then [(32 * p.lut3dOfs, 287520)] else [])

/-- The output region: REGION, or the whole frame when W and H are 0 (stage 3). -/
def region (p : ConvParams) (r : Nat × Nat × Nat × Nat) : Nat × Nat × Nat × Nat :=
  if r.2.2.1 = 0 ∧ r.2.2.2 = 0 then (0, 0, p.outWidth, p.outHeight) else r

/-- Lines a field mode delivers without the scaler (R178, Table 06.5). -/
def delivered (p : ConvParams) : Nat := if p.fieldMode = 3 then p.cropH / 2 else p.cropH

/-- Code 1 of Table 06.15. -/
def ok1 (p : ConvParams) : Bool :=
  p.type == 1 && decide (3 ≤ p.len) && !p.word0.testBit 31 && bits p.word0 47 44 == 0 && bits p.word0 255 244 == 0 &&
  bits p.word1 63 52 == 0 && bits p.word1 127 116 == 0 && bits p.word1 255 196 == 0 && bits p.word2 255 160 == 0 &&
  p.clamp != 3 && p.poisonPolicy != 3

/-- Code 2. -/
def ok2 (p : ConvParams) : Bool := fmtValid p.inFormat && fmtValid p.outFormat

/-- Code 3: R166, R167, R170, R172.
[DESIGN CHOICE, log 245: unsafe] -/
def ok3 (p : ConvParams) (r : Nat × Nat × Nat × Nat) : Bool :=
  let (x, y, w, h) := p.region r
  let i := p.inFormat
  let o := p.outFormat
  let ic := fmtCoverH i
  let oc := fmtCoverH o
  decide (1 ≤ p.inWidth) && decide (p.inWidth ≤ 7680) && decide (1 ≤ p.inHeight) && decide (p.inHeight ≤ 4320) &&
  decide (1 ≤ p.outWidth) && decide (p.outWidth ≤ 7680) && decide (1 ≤ p.outHeight) && decide (p.outHeight ≤ 4320) &&
  p.inWidth % ic == 0 && p.outWidth % oc == 0 && p.inHeight % fmtCoverV i == 0 && p.outHeight % fmtCoverV o == 0 &&
  p.inPitch % 32 == 0 && decide (fmtRowBytes i p.inWidth ≤ p.inPitch) &&
  p.outPitch % 32 == 0 && decide (fmtRowBytes o p.outWidth ≤ p.outPitch) &&
  decide (1 ≤ p.cropW) && decide (1 ≤ p.cropH) && p.cropX % ic == 0 && p.cropW % ic == 0 &&
  decide (p.cropX + p.cropW ≤ p.inWidth) && decide (p.cropY + p.cropH ≤ p.inHeight) &&
  p.cropY % fmtCoverV i == 0 && p.cropH % fmtCoverV i == 0 &&
  decide (p.posX + p.scaledW ≤ w) && decide (p.posY + p.scaledH ≤ h) &&
  x % oc == 0 && w % oc == 0 && p.posX % oc == 0 && p.scaledW % oc == 0 &&
  y % fmtCoverV o == 0 && h % fmtCoverV o == 0 && p.posY % fmtCoverV o == 0 && p.scaledH % fmtCoverV o == 0

/-- Code 4 (R178). -/
def ok4 (p : ConvParams) : Bool :=
  let inRange (n : Nat) : Bool := decide (262144 ≤ n) && decide (n ≤ 134217728)
  if p.scalerEn then inRange p.stepH && inRange p.stepV
  else p.scaledW == p.cropW && p.scaledH == p.delivered

/-- Code 5 (R179). -/
def ok5 (p : ConvParams) (r : Nat × Nat × Nat × Nat) : Bool :=
  let m := p.fieldMode
  (m == 0 || (fmtSampling p.inFormat != 0 && fmtSampling p.outFormat != 0)) &&
  ((m != 1 && m != 2) || (p.scaledH % 2 == 0 && ((p.region r).2.1 + p.posY) % 2 == 0)) &&
  ((m != 1 && m != 3) || (p.cropY % 2 == 0 && p.cropH % 2 == 0)) && (!p.in1Field2 || m == 1)

/-- Code 6 (R184). -/
def ok6 (p : ConvParams) : Bool :=
  p.sections.all fun x => decide (x.1 + x.2 ≤ if p.tablesIn2 then p.in2Size else 32 * p.len)

/-- Code 7 (R186): which of IN0 to IN2 the descriptor marks valid. -/
def ok7 (p : ConvParams) (v0 v1 v2 : Bool) : Bool := v0 && v1 == p.in1Field2 && v2 == p.tablesIn2

/-- The first failing check of Table 06.15, codes 1 to 7, or 0 (R192). -/
def check (p : ConvParams) (r : Nat × Nat × Nat × Nat) (v0 v1 v2 : Bool) : Nat :=
  if !p.ok1 then 1 else if !p.ok2 then 2 else if !p.ok3 r then 3 else if !p.ok4 then 4 else if !p.ok5 r then 5
  else if !p.ok6 then 6 else if !p.ok7 v0 v1 v2 then 7 else 0

/-- P_in and P_out (R187). -/
def pixelsIn (p : ConvParams) : Nat := if p.fieldMode = 3 then p.cropW * p.cropH / 2 else p.cropW * p.cropH
def pixelsOut (p : ConvParams) (r : Nat × Nat × Nat × Nat) : Nat := (p.region r).2.2.1 * (p.region r).2.2.2

/-- B_tab and RUN in ns (R187). -/
def tableBytes (p : ConvParams) : Nat := (p.sections.map Prod.snd).sum
def run (p : ConvParams) (r : Nat × Nat × Nat × Nat) : Nat :=
  ceilDiv (max p.pixelsIn (p.pixelsOut r)) 8 + (ceilDiv p.tableBytes 64 - 1024)

end ConvParams

/-! ### Rounding -/

/-- r(x, s): half toward positive infinity. -/
def rnd (x : Int) (s : Nat) : Int := if s = 0 then x else (x + 2 ^ (s - 1)) / 2 ^ s

/-- sat(x, lo, hi). -/
def sat (x lo hi : Int) : Int := if x < lo then lo else if hi < x then hi else x

/-- sat to I16. -/
def sat16 (x : Int) : Int := sat x (-32768) 32767

/-- An index limited to 0 … n − 1. -/
def clampIdx (i : Int) (n : Nat) : Nat := (sat i 0 ((n : Int) - 1)).toNat

/-- A picture inside the pipeline: component, line, column. -/
abbrev Plane := Nat → Nat → Nat → Int

/-! ### Stages 2 to 8 -/

/-- Vertical chroma up-sampling of `n` chroma rows (Table 06.4). -/
def upV (filtered : Bool) (n : Nat) (c : Nat → Nat → Int) (l x : Nat) : Int :=
  let r := l / 2
  if !filtered then c r x
  else if l % 2 = 0 then rnd (c (clampIdx ((r : Int) - 1) n) x + 3 * c r x) 2
  else rnd (3 * c r x + c (clampIdx ((r : Int) + 1) n) x) 2

/-- Horizontal chroma up-sampling of `n` samples a line (Table 06.4). -/
def upH (filtered : Bool) (n : Nat) (c : Nat → Nat → Int) (l x : Nat) : Int :=
  let m := x / 2
  let at_ (k : Int) : Int := c l (clampIdx ((m : Int) + k) n)
  if x % 2 = 0 ∨ !filtered then c l m else rnd (-(at_ (-1)) + 9 * at_ 0 + 9 * at_ 1 - at_ 2) 4

/-- Stage 2 (R171): the crop window at 4:4:4. -/
def stage2 (p : ConvParams) (src : Plane) : Plane := fun c l x =>
  if c = 0 then src 0 l x
  else
    let v : Nat → Nat → Int := if unitH p.inFormat = 2 then upV p.chromaUp (p.cropH / 2) (src c) else src c
    if unitW p.inFormat = 2 then upH p.chromaUp (p.cropW / 2) v l x else v l x

/-- The lines of the crop window that feed output field `f` (0 or 1), in order (Table 06.5; R144: field 1 holds the even lines). -/
def fieldLine (p : ConvParams) (f j : Nat) : Nat :=
  match p.fieldMode with
  | 1 => 2 * j + f
  | 3 => 2 * j + p.fieldSelect
  | _ => j

/-- How many lines feed a field. -/
def fieldCount (p : ConvParams) : Nat := if p.fieldMode = 1 ∨ p.fieldMode = 3 then p.cropH / 2 else p.cropH

/-- Coefficient `k` of the coefficient section: 12-bit two's complement (Table 06.12). -/
def coef (tab : List Byte) (k : Nat) : Int := toSigned 12 (leAt tab (2 * k) 2 % 4096)

/-- The horizontal pass (R175) of one line. -/
def scaleH (p : ConvParams) (tab : List Byte) (line : Nat → Int) (x : Nat) : Int :=
  let pos : Int := p.initH + (x : Int) * (p.stepH : Int)
  let i := pos / 2 ^ 24
  let ph := (pos / 2 ^ 18 % 64).toNat
  sat16 (rnd ((List.range 10).foldl (fun a t => a + coef tab (10 * ph + t) * line (clampIdx (i - 4 + t) p.cropW)) 0) 10)

/-- Stages 4 and 5: the scaled picture; picture line k is line u of field f when fields are interleaved (R175 to R179). -/
def stage4 (p : ConvParams) (tab : List Byte) (src : Plane) : Plane := fun c k x =>
  let split := p.fieldMode == 1 || p.fieldMode == 2
  let f := if split then k % 2 else 0
  let u := if split then k / 2 else k
  if !p.scalerEn then src c (if p.fieldMode == 3 then fieldLine p f u else k) x
  else
    let pos : Int := (if f = 1 then p.initV2 else p.initV) + (u : Int) * (p.stepV : Int)
    let j := pos / 2 ^ 24
    let q := (pos / 2 ^ 18 % 64).toNat
    sat16 (rnd ((List.range 6).foldl (fun a t =>
      a + coef tab (640 + 6 * q + t) * scaleH p tab (src c (fieldLine p f (clampIdx (j - 2 + t) (fieldCount p)))) x) 0) 10)

/-- Stage 6 (R180). -/
def stage6 (p : ConvParams) (tab : List Byte) (v : Nat → Int) : Nat → Int := fun c =>
  if !p.matrixEn then v c
  else
    let m (k : Nat) : Int := toSigned 16 (leAt tab (2 * (4 * c + k)) 2)
    sat16 (rnd (m 0 * v 0 + m 1 * v 1 + m 2 * v 2 + m 3 * 4096) 13)

/-- Stage 7 (R181, R168). -/
def stage7 (p : ConvParams) (tab : List Byte) (v : Nat → Int) : Nat → Nat := fun c =>
  let i := (sat (v c) 0 4095).toNat
  if p.lut1dEn then leAt tab (2 * (4096 * c + i)) 2 else 16 * i

/-- The tetrahedron of Table 06.6: the corners B and C and the fractions in order. -/
def tetra (fx fy fz : Nat) : (Nat × Nat × Nat) × (Nat × Nat × Nat) × (Nat × Nat × Nat) :=
  if fy ≤ fx ∧ fz ≤ fy then ((1, 0, 0), (1, 1, 0), (fx, fy, fz))
  else if fz ≤ fx ∧ fy < fz then ((1, 0, 0), (1, 0, 1), (fx, fz, fy))
  else if fx < fz ∧ fy ≤ fx then ((0, 0, 1), (1, 0, 1), (fz, fx, fy))
  else if fx < fy ∧ fz ≤ fx then ((0, 1, 0), (1, 1, 0), (fy, fx, fz))
  else if fz ≤ fy ∧ fx < fz then ((0, 1, 0), (0, 1, 1), (fy, fz, fx))
  else ((0, 0, 1), (0, 1, 1), (fz, fy, fx))

/-- Cell and fraction of a component value (R182). -/
def lutCell (v : Nat) : Nat × Nat := if v = 65535 then (31, 2048) else (v / 2048, v % 2048)

/-- Stage 8 (R182). -/
def stage8 (p : ConvParams) (tab : List Byte) (v : Nat → Nat) : Nat → Nat := fun c =>
  if !p.lut3dEn then v c
  else
    let x := lutCell (v 0)
    let y := lutCell (v 1)
    let z := lutCell (v 2)
    let e (d : Nat × Nat × Nat) : Int :=
      ((leAt tab (8 * ((33 * (x.1 + d.1) + (y.1 + d.2.1)) * 33 + (z.1 + d.2.2)) + 2 * c) 2 : Nat) : Int)
    let t := tetra x.2 y.2 z.2
    let a := e (0, 0, 0)
    let b := e t.1
    let k := e t.2.1
    let d := e (1, 1, 1)
    (rnd (2048 * a + t.2.2.1 * (b - a) + t.2.2.2.1 * (k - b) + t.2.2.2.2 * (d - k)) 11).toNat

/-- The tables of an operation: coefficients, matrix, 1-D and 3-D LUT. -/
structure ConvTables where
  coefs : List Byte
  matrix : List Byte
  lut1d : List Byte
  lut3d : List Byte
  deriving DecidableEq, Repr

/-- The picture after stage 8, at the 16-bit scale. -/
def picture (p : ConvParams) (t : ConvTables) (src : Plane) : Plane := fun c k x =>
  let v := fun c => stage4 p t.coefs (stage2 p src) c k x
  ((stage8 p t.lut3d (stage7 p t.lut1d (stage6 p t.matrix v)) c : Nat) : Int)

/-! ### Stage 9 -/

/-- Horizontal chroma down-sampling (Table 06.7). -/
def downH (p : ConvParams) (c : Nat → Nat → Int) (l m : Nat) : Int :=
  let at_ (k : Int) : Int := c l (clampIdx (2 * (m : Int) + k) p.scaledW)
  if p.chromaDown then rnd (at_ (-1) + 2 * at_ 0 + at_ 1) 2 else at_ 0

/-- Vertical chroma down-sampling (Table 06.7). -/
def downV (p : ConvParams) (c : Nat → Nat → Int) (r m : Nat) : Int :=
  let at_ (k : Int) : Int := c (clampIdx (2 * (r : Int) + k) p.scaledH) m
  if p.chromaDown then rnd (at_ (-1) + 3 * at_ 0 + 3 * at_ 1 + at_ 2) 3 else rnd (at_ 0 + at_ 1) 1

/-- The picture in the output's sampling: luma by line and column, chroma by its own row and index (R183). -/
def downSample (p : ConvParams) (pic : Plane) : Plane := fun c l x =>
  if c = 0 then pic 0 l x
  else
    let h : Nat → Nat → Int := if unitW p.outFormat = 2 then downH p (pic c) else pic c
    if unitH p.outFormat = 2 then downV p h l x else h l x

/-- The CLAMP range of a component at depth `d` (Table 06.8). -/
def clampRange (cl d : Nat) (chroma : Bool) : Nat × Nat :=
  let s := 2 ^ (d - 8)
  match cl with
  | 1 => (s, 2 ^ d - 1 - s)
  | 2 => (16 * s, if chroma then 240 * s else 235 * s)
  | _ => (0, 2 ^ d - 1)

/-- Quantise and clamp (R183). -/
def quantise (p : ConvParams) (c : Nat) (v : Int) : Nat :=
  let d := fmtDepth p.outFormat
  let q := min (rnd v (16 - d)).toNat (2 ^ d - 1)
  let r := clampRange p.clamp d (c != 0 && !fmtRgb p.outFormat)
  min (max q r.1) r.2

/-- The output code of component `c` at line `l` (a chroma row for 4:2:0 chroma) and column or chroma index `x` of the region:
picture or border (R172, R173).
[DESIGN CHOICE, log 247: unsafe] -/
def outCode (p : ConvParams) (pic : Plane) (c l x : Nat) : Nat :=
  let uw := if c = 0 then 1 else unitW p.outFormat
  let uh := if c = 0 then 1 else unitH p.outFormat
  let inside := decide (p.posX ≤ x * uw) && decide (x * uw < p.posX + p.scaledW) && decide (p.posY ≤ l * uh) &&
    decide (l * uh < p.posY + p.scaledH)
  if inside then quantise p c (downSample p pic c (l - p.posY / uh) (x - p.posX / uw))
  else p.border c % 2 ^ fmtDepth p.outFormat

/-- The bytes of storage row `r` of the region (counted from its top), all its groups (R174). -/
def outRow (p : ConvParams) (pic : Plane) (w r : Nat) : List Byte :=
  packGroups p.outFormat (fun i =>
    let s := sampleAt p.outFormat i
    outCode p pic s.1 (if s.1 = 0 then r * fmtCoverV p.outFormat + s.2.1 else r) s.2.2) 0 (w / fmtCoverH p.outFormat)

/-! ### Stage 1 -/

/-- Where an input of the crop window is poisoned or not: rows of the window as bytes, none where poison was met. -/
abbrev InRows := List (List (Option Byte))

/-- The neutral value of a component at the 12-bit scale (R189). -/
def neutral (f c : Nat) : Int := if c = 0 ∨ fmtRgb f then 256 else 2048

/-- Stage 1 (R170, R189): the crop window at the 12-bit scale in its own sampling, groups with a poisoned byte neutral. -/
def stage1 (p : ConvParams) (rows : InRows) : Plane := fun c l x =>
  let f := p.inFormat
  let uh := unitH f
  let row := nth rows (if c = 0 then l / uh else l) []
  let i := sampleIndex f c (if c = 0 then l % uh else 0) x
  let g := i / groupSamples f
  let group := (row.drop (g * fmtGroup f)).take (fmtGroup f)
  if group.any Option.isNone then neutral f c
  else ((rowSample f (group.map fun b => b.getD 0) (i - g * groupSamples f) * 2 ^ (12 - fmtDepth f) : Nat) : Int)

end Sys2Proof.Machine
end

