-- ==== Sys2Proof/Config.lean ====
section
/-! DEFINITION. What an implementation fixes and the manual leaves open: opaque constants without a body, so that no proof can
rest on a value of theirs. `freeValue n` is the n-th free value of a run (State.free counts them). -/

namespace Sys2Proof.Config

/-- A value the manual does not state, one for each number `n`.
[DESIGN CHOICE, log 6: safe] -/
opaque freeValue : Nat → Nat

/-- Fuse values (Table 00.1, R487, R314, R355): by name of the fuse group.
[DESIGN CHOICE, log 14: safe] -/
opaque fuseLot : List Byte
opaque fuseWafer : Nat
opaque fuseDieX : Nat
opaque fuseDieY : Nat
opaque fuseTestDate : Nat
/-- [DESIGN CHOICE, log 14: safe] -/
opaque fuseUniqueId : Nat
opaque fuseMacAddr : Nat
opaque fuseSparesUsed : Nat → Nat
opaque fuseRepairMap : Nat → List Byte

/-- Bytes of the scheduler area of the scratchpad that the scheduler's own tables take (Table 10.1, R305). -/
opaque schedTables : Nat

/-- The left column and top line of the input region that a GATHER's parameter header names (R73 gives the field no place).
[DESIGN CHOICE, log 48: safe] -/
opaque gatherOrigin : List Byte → Nat × Nat

/-- The ST 352 payload identifier of a raster (R159 names the standard, whose text the scope leaves out): by SDI rate, cadence and format.
[DESIGN CHOICE, log 217: safe] -/
opaque sdiIdent : Nat → Nat → Nat → Nat

/-- The picture of an SDI raster before its flow has sent a version, by the number of a free value.
[DESIGN CHOICE, log 217: safe] -/
opaque sdiFirst : Nat → List Byte

/-- What the line brings to a receiver, by lane: MARGIN at update `n`, one every 100 µs; the equaliser's coefficients at an instant; the errors of
millisecond `n` that the PRBS checker finds (R396, R406, R408).
[DESIGN CHOICE, log 106: safe, DESIGN CHOICE, log 108: safe] -/
opaque margin : Nat → Nat → Nat
/-- [DESIGN CHOICE, log 106: safe] -/
opaque rxEq : Nat → Nat → Nat
/-- [DESIGN CHOICE, log 108: safe] -/
opaque lineErrors : Nat → Nat → Nat

/-- What a firmware image carries in its half of the store (R487 gives it no layout), by the bytes of the half: its length, its version, its public
key and its signature.
[DESIGN CHOICE, log 166: safe] -/
opaque fwLength : List Byte → Nat
/-- [DESIGN CHOICE, log 166: safe] -/
opaque fwVersion : List Byte → Nat
/-- [DESIGN CHOICE, log 166: safe] -/
opaque fwPublicKey : List Byte → List Byte
/-- [DESIGN CHOICE, log 166: safe] -/
opaque fwSignature : List Byte → List Byte

/-- The public key digest and the minimum firmware version held in fuses (R487).
[DESIGN CHOICE, log 14: safe] -/
opaque fuseFirmwareKey : List Byte
/-- [DESIGN CHOICE, log 14: safe] -/
opaque fuseMinVersion : Nat

/-- ECDSA P-384 verification: key bytes, digest, signature (R487, R542).
[DESIGN CHOICE, log 179: safe] -/
opaque ecdsaVerify : List Byte → List Byte → List Byte → Bool

/-- The shared secret of ECDH on P-384 between the device's ephemeral key number `n` and the other party's public key (R542).
[DESIGN CHOICE, log 179: safe] -/
opaque ecdhSecret : Nat → List Byte → List Byte

/-- AES-256-GCM: key, nonce, associated data, ciphertext and tag; the plaintext when the tag holds (R354, R543).
[DESIGN CHOICE, log 99: safe] -/
opaque gcmOpen : List Byte → List Byte → List Byte → List Byte → Option (List Byte)

/-- AES-256-GCM: key, nonce, associated data and plaintext; the ciphertext with its tag (R543).
[DESIGN CHOICE, log 99: safe] -/
opaque gcmSeal : List Byte → List Byte → List Byte → List Byte → List Byte

/-- The device's ephemeral P-384 point number `n`, 97 bytes (R542). -/
opaque ephemeralPoint : Nat → List Byte

/-- RETURN_KEY_DIGEST, fused by Nerond at final test (R538). -/
opaque returnKeyDigest : List Byte

/-- The measured VIO of a GPIO bank, in mV: the board supplies 1.2 V, 1.5 V or 1.8 V (R330).
[DEDUCED, log 92: unsafe] -/
opaque vioMv : Nat → Nat

/-- What the frames of an image configure, which the manual gives no layout for (R321, R327, R328, R332): by IMAGE_ID and number, the mode of a
block memory, and the shape (Table 11.3) of its raw port A (0) or B (1).
[DESIGN CHOICE, log 89: safe] -/
opaque bramMode : Nat → Nat → Nat
/-- [DESIGN CHOICE, log 89: safe] -/
opaque bramShape : Nat → Nat → Nat → Nat

/-- The VCO of a PLL, above 1.6 GHz, in kHz, and the divider of its output 4p + o, above 2 (R328).
[DESIGN CHOICE, log 89: safe] -/
opaque pllVco : Nat → Nat → Nat
/-- [DESIGN CHOICE, log 89: safe] -/
opaque pllDivider : Nat → Nat → Nat

/-- What drives a clock: global clocks 0 to 31, then 24 regional clocks for each region (R327); and which clock is a port's OPCLK (R332).
[DESIGN CHOICE, log 89: safe] -/
opaque clockDriver : Nat → Nat → Nat
/-- [DESIGN CHOICE, log 89: safe] -/
opaque opclk : Nat → Nat → Nat

/-- The kHz of the signal that the board puts on a clock-capable pin, by bank × 2 + pin (R327).
[DEDUCED, log 229: unsafe] -/
opaque pinKhz : Nat → Nat

/-- Output O5 of a logic element in 6-input mode, for which R319 gives no value.
[DESIGN CHOICE, log 227: safe] -/
opaque elementO5 : BitVec 64 → BitVec 6 → Bool

/-- Where the steward begins to look for a slot for a reservation (R276 names no placement): by epoch and number of the reservation.
[DESIGN CHOICE, log 75: safe] -/
opaque slotStart : Nat → Nat → Nat

/-- What a word of the scheduler's own tables holds (R303 gives no layout): 0 a handle entry, 1 a node's frame table, else an in-flight
entry, with its number.
[DESIGN CHOICE, log 74: safe] -/
opaque schedEntry : Nat → Nat × Nat

/-- CLASS of session slots 56 to 63, which Table 14.1 gives to no class.
[DESIGN CHOICE, log 115: safe] -/
opaque spareSlotClass : Nat → Nat

/-- Which further objects INFO marks PROFILE (R436 names those whose Default is "from profile", and says that others may be), by index × 256
+ subindex.
[DESIGN CHOICE, log 114: safe] -/
opaque profileExtra : Nat → Bool

/-- The device byte address behind a data address of core 1's window 0x8000 to 0xFFFF (R445 names no mapping).
[DESIGN CHOICE, log 144: unsafe] -/
opaque coreWindow : Nat → Nat

/-- Four bytes of the firmware area of the MRAM store, by byte address ÷ 4, until debug writes them.
[DESIGN CHOICE, log 12: unsafe] -/
opaque firmwareStore : Nat → Nat

/-- The patch record of the firmware image with a version (R487, R550): for each FIX unit its number, ADDRESS and patch-RAM word.
[DESIGN CHOICE, log 116: safe] -/
opaque patchRecord : Nat → List (Nat × Nat × Nat)

end Sys2Proof.Config
end

