-- ==== Sys2Proof/Machine/Regs.lean ====
section
/-! DEFINITION. The registers of the object dictionary by the names the manual gives them (index, subindex and width of its
object tables), and the object table: for each index its instances and for each subindex type, access code and range (R413, R417,
R418, Table 14.4). Written from the object tables of chapters 00 to 20. -/

namespace Sys2Proof.Machine

/-- A register of the dictionary: index × 256 + subindex, and its width in bits. -/
structure Reg where
  ref : Nat
  bits : Nat
  deriving DecidableEq, Repr

/-! ### Identity object 0x1000 (Table 00.1) -/
abbrev R.ident_PART : Reg := ⟨0x100001, 0⟩
abbrev R.ident_STEPPING : Reg := ⟨0x100002, 0⟩
abbrev R.ident_PACKAGE : Reg := ⟨0x100003, 0⟩
abbrev R.ident_LOT : Reg := ⟨0x100004, 0⟩
abbrev R.ident_WAFER : Reg := ⟨0x100005, 8⟩
abbrev R.ident_DIE_X : Reg := ⟨0x100006, 8⟩
abbrev R.ident_DIE_Y : Reg := ⟨0x100007, 8⟩
abbrev R.ident_TEST_DATE : Reg := ⟨0x100008, 32⟩
abbrev R.ident_SPEED_BIN : Reg := ⟨0x100009, 8⟩
abbrev R.ident_UNIQUE_ID : Reg := ⟨0x10000A, 64⟩
abbrev R.ident_FUSE_CHECK : Reg := ⟨0x10000B, 8⟩

/-! ### Presence map object 0x1010 (Table 00.2) -/
abbrev R.pres_LANES0 : Reg := ⟨0x101001, 64⟩
abbrev R.pres_LANES1 : Reg := ⟨0x101002, 64⟩
abbrev R.pres_LANES2 : Reg := ⟨0x101003, 64⟩
abbrev R.pres_LANES3 : Reg := ⟨0x101004, 64⟩
abbrev R.pres_PCS0 : Reg := ⟨0x101005, 64⟩
abbrev R.pres_PCS1 : Reg := ⟨0x101006, 64⟩
abbrev R.pres_RASTER : Reg := ⟨0x101007, 32⟩
abbrev R.pres_RINGS : Reg := ⟨0x101008, 16⟩
abbrev R.pres_SWAP : Reg := ⟨0x101009, 16⟩
abbrev R.pres_MOVE : Reg := ⟨0x10100A, 64⟩
abbrev R.pres_DUSK : Reg := ⟨0x10100B, 8⟩
abbrev R.pres_CHANGES : Reg := ⟨0x10100C, 32⟩
abbrev R.pres_SNAPSHOT : Reg := ⟨0x101020, 0⟩

/-! ### Timebase object 0x1300 (Table 02.1) -/
abbrev R.tb_STATE : Reg := ⟨0x130001, 8⟩
abbrev R.tb_SOURCE : Reg := ⟨0x130002, 8⟩
abbrev R.tb_ACTIVE_SOURCE : Reg := ⟨0x130003, 8⟩
abbrev R.tb_NOW : Reg := ⟨0x130004, 80⟩
abbrev R.tb_SET_TIME : Reg := ⟨0x130005, 80⟩
abbrev R.tb_OFFSET : Reg := ⟨0x130006, 64⟩
abbrev R.tb_SLEW_MAX : Reg := ⟨0x130007, 16⟩
abbrev R.tb_HOLDOVER_LIMIT : Reg := ⟨0x130008, 32⟩
abbrev R.tb_TICK_NS : Reg := ⟨0x130009, 16⟩
abbrev R.tb_REFCLK : Reg := ⟨0x13000A, 8⟩
abbrev R.tb_LOCK_LOSSES : Reg := ⟨0x13000B, 32⟩
abbrev R.tb_UTC_OFFSET : Reg := ⟨0x13000C, 16⟩
abbrev R.tb_OTHER_OFFSET : Reg := ⟨0x13000D, 64⟩

/-! ### PTP port object 0x1302 (Table 02.4) -/
abbrev R.ptp_ENABLE : Reg := ⟨0x130201, 8⟩
abbrev R.ptp_DOMAIN : Reg := ⟨0x130202, 8⟩
abbrev R.ptp_PORT_STATE : Reg := ⟨0x130203, 8⟩
abbrev R.ptp_MASTER_ID : Reg := ⟨0x130204, 64⟩
abbrev R.ptp_PATH_DELAY : Reg := ⟨0x130205, 64⟩
abbrev R.ptp_SYNC_LOSSES : Reg := ⟨0x130206, 32⟩

/-! ### REF_IN object 0x1303 (Table 02.5) -/
abbrev R.ref_FORMAT : Reg := ⟨0x130301, 8⟩
abbrev R.ref_CADENCE : Reg := ⟨0x130302, 8⟩
abbrev R.ref_PRESENT : Reg := ⟨0x130303, 8⟩
abbrev R.ref_PHASE_COMP : Reg := ⟨0x130304, 32⟩
abbrev R.ref_LOSSES : Reg := ⟨0x130305, 32⟩
abbrev R.ref_RATE_NUM : Reg := ⟨0x130306, 32⟩
abbrev R.ref_RATE_DEN : Reg := ⟨0x130307, 32⟩

/-! ### Cadence object 0x1301 (Table 02.6) -/
abbrev R.cad_ENABLE : Reg := ⟨0x130101, 8⟩
abbrev R.cad_KIND : Reg := ⟨0x130102, 8⟩
abbrev R.cad_RATE_NUM : Reg := ⟨0x130103, 32⟩
abbrev R.cad_RATE_DEN : Reg := ⟨0x130104, 32⟩
abbrev R.cad_LINES : Reg := ⟨0x130105, 16⟩
abbrev R.cad_INTERLACED : Reg := ⟨0x130106, 8⟩
abbrev R.cad_SAMPLES : Reg := ⟨0x130107, 16⟩
abbrev R.cad_FRAME_NOW : Reg := ⟨0x130108, 64⟩
abbrev R.cad_NEXT_MARK : Reg := ⟨0x130109, 80⟩
abbrev R.cad_USERS : Reg := ⟨0x13010A, 16⟩
abbrev R.cad_PENDING : Reg := ⟨0x13010B, 16⟩

/-! ### Scheduler object 0x5000 (Table 03.15) -/
abbrev R.sched_IN_FLIGHT : Reg := ⟨0x500001, 16⟩
abbrev R.sched_IN_FLIGHT_PEAK : Reg := ⟨0x500002, 16⟩
abbrev R.sched_GUAR_RESERVED : Reg := ⟨0x500003, 16⟩
abbrev R.sched_READY_SUM : Reg := ⟨0x500004, 16⟩
abbrev R.sched_DL0_OCC : Reg := ⟨0x500005, 16⟩
abbrev R.sched_DL1_OCC : Reg := ⟨0x500006, 16⟩
abbrev R.sched_DL2_OCC : Reg := ⟨0x500007, 16⟩
abbrev R.sched_DL3_OCC : Reg := ⟨0x500008, 16⟩
abbrev R.sched_COMMITS : Reg := ⟨0x500009, 64⟩
abbrev R.sched_DEADLINE_MISSES : Reg := ⟨0x50000A, 32⟩
abbrev R.sched_SUBSTITUTIONS : Reg := ⟨0x50000B, 32⟩
abbrev R.sched_FAULTS : Reg := ⟨0x50000C, 32⟩
abbrev R.sched_STALLS : Reg := ⟨0x50000D, 32⟩

/-! ### Handle object 0x5001 (Table 03.16) -/
abbrev R.hdl_HANDLE : Reg := ⟨0x500101, 32⟩
abbrev R.hdl_BASE : Reg := ⟨0x500102, 64⟩
abbrev R.hdl_STRIDE : Reg := ⟨0x500103, 32⟩
abbrev R.hdl_SLOTS : Reg := ⟨0x500104, 8⟩
abbrev R.hdl_SIZE : Reg := ⟨0x500105, 32⟩
abbrev R.hdl_MIRROR_BASE : Reg := ⟨0x500106, 64⟩
abbrev R.hdl_DEFINE : Reg := ⟨0x500107, 8⟩
abbrev R.hdl_USERS : Reg := ⟨0x500108, 16⟩

/-! ### Graph slot object 0x5002 (Table 03.17) -/
abbrev R.slot_STATE : Reg := ⟨0x500201, 8⟩
abbrev R.slot_IMAGE : Reg := ⟨0x500202, 0⟩
abbrev R.slot_LOAD_RESULT : Reg := ⟨0x500203, 16⟩
abbrev R.slot_CADENCE : Reg := ⟨0x500204, 8⟩
abbrev R.slot_CLASS : Reg := ⟨0x500205, 8⟩
abbrev R.slot_NODES : Reg := ⟨0x500206, 16⟩
abbrev R.slot_COMMAND : Reg := ⟨0x500207, 8⟩
abbrev R.slot_TARGET_FRAME : Reg := ⟨0x500208, 64⟩
abbrev R.slot_SWITCH_TO : Reg := ⟨0x500209, 8⟩
abbrev R.slot_FIRST_FRAME : Reg := ⟨0x50020A, 64⟩
abbrev R.slot_LAST_FRAME : Reg := ⟨0x50020B, 64⟩
abbrev R.slot_DIGEST : Reg := ⟨0x50020C, 32⟩

/-! ### Node object 0x5003 (Table 03.18) -/
abbrev R.node_LAST_COMMITTED : Reg := ⟨0x500301, 64⟩
abbrev R.node_META : Reg := ⟨0x500302, 64⟩
abbrev R.node_DEADLINE_MISSES : Reg := ⟨0x500303, 32⟩
abbrev R.node_FAULTS : Reg := ⟨0x500304, 32⟩
abbrev R.node_SUBSTITUTIONS : Reg := ⟨0x500305, 32⟩
abbrev R.node_PENDING : Reg := ⟨0x500306, 8⟩

/-! ### Operator object 0x5100 (Table 03.19) -/
abbrev R.opr_PRESENT : Reg := ⟨0x510001, 8⟩
abbrev R.opr_KIND : Reg := ⟨0x510002, 8⟩
abbrev R.opr_READY_DEPTH : Reg := ⟨0x510003, 16⟩
abbrev R.opr_READY_OCC : Reg := ⟨0x510004, 16⟩
abbrev R.opr_ACTIVE_TAG : Reg := ⟨0x510005, 32⟩
abbrev R.opr_PREFETCH_TAG : Reg := ⟨0x510006, 32⟩
abbrev R.opr_PAUSED : Reg := ⟨0x510007, 8⟩
abbrev R.opr_COMPLETIONS : Reg := ⟨0x510008, 64⟩
abbrev R.opr_FAULTS : Reg := ⟨0x510009, 32⟩
abbrev R.opr_BE_MAX_RUN : Reg := ⟨0x51000A, 32⟩

/-! ### Admission object 0x5200 (Table 04.6) -/
abbrev R.adm_REQUEST : Reg := ⟨0x520001, 8⟩
abbrev R.adm_RELEASE : Reg := ⟨0x520002, 8⟩
abbrev R.adm_BUSY : Reg := ⟨0x520003, 8⟩
abbrev R.adm_REPLY : Reg := ⟨0x520004, 0⟩
abbrev R.adm_ADMITTED : Reg := ⟨0x520005, 8⟩
abbrev R.adm_REFUSALS : Reg := ⟨0x520006, 32⟩
abbrev R.adm_CHECK_MAX : Reg := ⟨0x520007, 32⟩
abbrev R.adm_PC_MIN_HEADROOM : Reg := ⟨0x520008, 32⟩

/-! ### Operator budget object 0x5201 (Table 04.7) -/
abbrev R.opb_GUAR_READY : Reg := ⟨0x520101, 16⟩
abbrev R.opb_LOAD : Reg := ⟨0x520102, 32⟩
abbrev R.opb_BACKLOG : Reg := ⟨0x520103, 32⟩
abbrev R.opb_BE_BLOCK : Reg := ⟨0x520104, 32⟩

/-! ### Slot admission object 0x5202 (Table 04.8) -/
abbrev R.sadm_STATE : Reg := ⟨0x520201, 8⟩
abbrev R.sadm_L : Reg := ⟨0x520202, 32⟩
abbrev R.sadm_ENTRIES : Reg := ⟨0x520203, 16⟩
abbrev R.sadm_REPLY : Reg := ⟨0x520204, 0⟩
abbrev R.sadm_IMPAIRED_BY : Reg := ⟨0x520205, 32⟩

/-! ### PC budget object 0x5203 (Table 04.9) -/
abbrev R.pcb_DEMAND : Reg := ⟨0x520301, 32⟩
abbrev R.pcb_CEILING : Reg := ⟨0x520302, 32⟩

/-! ### Ethernet port object 0x2100 (Table 05.6) -/
abbrev R.eth_ENABLE : Reg := ⟨0x210001, 8⟩
abbrev R.eth_TYPE : Reg := ⟨0x210002, 8⟩
abbrev R.eth_LINK : Reg := ⟨0x210003, 8⟩
abbrev R.eth_MAC_ADDR : Reg := ⟨0x210004, 64⟩
abbrev R.eth_IPV4 : Reg := ⟨0x210005, 32⟩
abbrev R.eth_VLAN : Reg := ⟨0x210006, 16⟩
abbrev R.eth_MAX_FRAME : Reg := ⟨0x210007, 16⟩
abbrev R.eth_PAYLOAD_RATE : Reg := ⟨0x210008, 32⟩
abbrev R.eth_EGRESS_FLOWS : Reg := ⟨0x210009, 16⟩
abbrev R.eth_RX_FRAMES : Reg := ⟨0x21000A, 64⟩
abbrev R.eth_RX_FCS_ERRORS : Reg := ⟨0x21000B, 32⟩
abbrev R.eth_RX_UNMATCHED : Reg := ⟨0x21000C, 32⟩
abbrev R.eth_TX_FRAMES : Reg := ⟨0x21000D, 64⟩
abbrev R.eth_FIFO_OVERFLOWS : Reg := ⟨0x21000E, 32⟩
abbrev R.eth_UP_COUNT : Reg := ⟨0x21000F, 32⟩

/-! ### Flow object 0x2200 (Table 05.7) -/
abbrev R.flow_STATE : Reg := ⟨0x220001, 8⟩
abbrev R.flow_DIR : Reg := ⟨0x220002, 8⟩
abbrev R.flow_KIND : Reg := ⟨0x220003, 8⟩
abbrev R.flow_PORT_A : Reg := ⟨0x220004, 16⟩
abbrev R.flow_PORT_B : Reg := ⟨0x220005, 16⟩
abbrev R.flow_PAIRED : Reg := ⟨0x220006, 8⟩
abbrev R.flow_DEST_ADDR : Reg := ⟨0x220007, 32⟩
abbrev R.flow_SRC_ADDR : Reg := ⟨0x220008, 32⟩
abbrev R.flow_UDP_PORT : Reg := ⟨0x220009, 16⟩
abbrev R.flow_SSRC : Reg := ⟨0x22000A, 32⟩
abbrev R.flow_SSRC_ANY : Reg := ⟨0x22000B, 8⟩
abbrev R.flow_PT : Reg := ⟨0x22000C, 8⟩
abbrev R.flow_HANDLE : Reg := ⟨0x22000D, 32⟩
abbrev R.flow_MERGE_WINDOW : Reg := ⟨0x22000E, 16⟩
abbrev R.flow_LEG_TIMEOUT : Reg := ⟨0x22000F, 16⟩
abbrev R.flow_RTP_OFFSET : Reg := ⟨0x220010, 32⟩
abbrev R.flow_CHANNELS : Reg := ⟨0x220011, 8⟩
abbrev R.flow_ALIGN_OFS : Reg := ⟨0x220012, 32⟩
abbrev R.flow_TR_OFFSET : Reg := ⟨0x220013, 32⟩
abbrev R.flow_PACING : Reg := ⟨0x220014, 8⟩
abbrev R.flow_PACKING : Reg := ⟨0x220015, 8⟩
abbrev R.flow_PACKET_BYTES : Reg := ⟨0x220016, 16⟩
abbrev R.flow_POISON_POLICY : Reg := ⟨0x220017, 8⟩
abbrev R.flow_META_EXT : Reg := ⟨0x220018, 8⟩
abbrev R.flow_DUPLICATES : Reg := ⟨0x220019, 32⟩
abbrev R.flow_LOST : Reg := ⟨0x22001A, 32⟩
abbrev R.flow_BAD_RTP : Reg := ⟨0x22001B, 32⟩
abbrev R.flow_LATE : Reg := ⟨0x22001C, 32⟩
abbrev R.flow_EARLY : Reg := ⟨0x22001D, 32⟩
abbrev R.flow_BOUNDS : Reg := ⟨0x22001E, 32⟩
abbrev R.flow_PAUSED_DROPS : Reg := ⟨0x22001F, 32⟩
abbrev R.flow_POISON_PACKETS : Reg := ⟨0x220020, 32⟩
abbrev R.flow_LATE_LAUNCH : Reg := ⟨0x220021, 32⟩
abbrev R.flow_PACKETS : Reg := ⟨0x220022, 64⟩
abbrev R.flow_FRAMES : Reg := ⟨0x220023, 64⟩
abbrev R.flow_DEST_MAC : Reg := ⟨0x220024, 64⟩
abbrev R.flow_DSCP : Reg := ⟨0x220025, 8⟩
abbrev R.flow_COMMAND : Reg := ⟨0x220026, 8⟩
abbrev R.flow_LEG_STATE : Reg := ⟨0x220027, 8⟩
abbrev R.flow_DESCRIPTOR : Reg := ⟨0x220028, 0⟩

/-! ### SDI lane object 0x2300 (Table 05.8) -/
abbrev R.sdi_RATE : Reg := ⟨0x230001, 8⟩
abbrev R.sdi_PAYLOAD_ID : Reg := ⟨0x230002, 32⟩
abbrev R.sdi_PAYLOAD_ID_EXPECT : Reg := ⟨0x230003, 32⟩
abbrev R.sdi_CRC_POLICY : Reg := ⟨0x230004, 8⟩
abbrev R.sdi_CRC_ERRORS : Reg := ⟨0x230005, 32⟩
abbrev R.sdi_FRAMES_DROPPED : Reg := ⟨0x230006, 32⟩
abbrev R.sdi_ANC_HANDLE : Reg := ⟨0x230007, 32⟩
abbrev R.sdi_REPEATS : Reg := ⟨0x230008, 32⟩

/-! ### Raster engine object 0x6000 (Table 06.16) -/
abbrev R.eng_PRESENT : Reg := ⟨0x600001, 8⟩
abbrev R.eng_STATE : Reg := ⟨0x600002, 8⟩
abbrev R.eng_OPERATIONS : Reg := ⟨0x600003, 64⟩
abbrev R.eng_PIXELS_IN : Reg := ⟨0x600004, 64⟩
abbrev R.eng_PIXELS_OUT : Reg := ⟨0x600005, 64⟩
abbrev R.eng_BUSY_NS : Reg := ⟨0x600006, 64⟩
abbrev R.eng_POISON_WORDS : Reg := ⟨0x600007, 32⟩
abbrev R.eng_MIRROR_READS : Reg := ⟨0x600008, 32⟩
abbrev R.eng_PARAM_FAULTS : Reg := ⟨0x600009, 32⟩
abbrev R.eng_LAST_FAULT : Reg := ⟨0x60000A, 8⟩
abbrev R.eng_LAST_FAULT_NODE : Reg := ⟨0x60000B, 32⟩
abbrev R.eng_TABLE_CORRECTED : Reg := ⟨0x60000C, 32⟩
abbrev R.eng_ABORTS : Reg := ⟨0x60000D, 32⟩

/-! ### Timing set object 0x3003 (Table 07.4) -/
abbrev R.tim_CC_MHZ : Reg := ⟨0x300301, 16⟩
abbrev R.tim_TRCD_RD : Reg := ⟨0x300302, 16⟩
abbrev R.tim_TRCD_WR : Reg := ⟨0x300303, 16⟩
abbrev R.tim_TRP : Reg := ⟨0x300304, 16⟩
abbrev R.tim_TRAS : Reg := ⟨0x300305, 16⟩
abbrev R.tim_TRC : Reg := ⟨0x300306, 16⟩
abbrev R.tim_TRRD_S : Reg := ⟨0x300307, 16⟩
abbrev R.tim_TRRD_L : Reg := ⟨0x300308, 16⟩
abbrev R.tim_TFAW : Reg := ⟨0x300309, 16⟩
abbrev R.tim_TWR : Reg := ⟨0x30030A, 16⟩
abbrev R.tim_TWTR_S : Reg := ⟨0x30030B, 16⟩
abbrev R.tim_TWTR_L : Reg := ⟨0x30030C, 16⟩
abbrev R.tim_TRTW : Reg := ⟨0x30030D, 16⟩
abbrev R.tim_TCCD_L : Reg := ⟨0x30030E, 16⟩
abbrev R.tim_RL : Reg := ⟨0x30030F, 16⟩
abbrev R.tim_WL : Reg := ⟨0x300310, 16⟩
abbrev R.tim_TREFI_PB : Reg := ⟨0x300311, 16⟩
abbrev R.tim_TRFC_PB : Reg := ⟨0x300312, 16⟩
abbrev R.tim_TXS : Reg := ⟨0x300313, 16⟩

/-! ### PC object 0x3000 (Table 07.6) -/
abbrev R.pc_STATE : Reg := ⟨0x300001, 8⟩
abbrev R.pc_PRESENT : Reg := ⟨0x300002, 8⟩
abbrev R.pc_DEAD_LANE : Reg := ⟨0x300003, 8⟩
abbrev R.pc_QUEUE_OCC : Reg := ⟨0x300004, 8⟩
abbrev R.pc_QUEUE_PEAK : Reg := ⟨0x300005, 8⟩
abbrev R.pc_CREDIT_HOLD : Reg := ⟨0x300006, 32⟩
abbrev R.pc_CORRECTED : Reg := ⟨0x300007, 32⟩
abbrev R.pc_DEAD_LANE_CORRECTED : Reg := ⟨0x300008, 32⟩
abbrev R.pc_UNCORRECTABLE : Reg := ⟨0x300009, 32⟩
abbrev R.pc_POISON_WRITES : Reg := ⟨0x30000A, 32⟩
abbrev R.pc_FENCED_WRITES : Reg := ⟨0x30000B, 32⟩
abbrev R.pc_REFRESH_FORCED : Reg := ⟨0x30000C, 32⟩
abbrev R.pc_SWEEPS : Reg := ⟨0x30000D, 32⟩
abbrev R.pc_RETRAIN_FAILS : Reg := ⟨0x30000E, 32⟩
abbrev R.pc_EYE_MIN : Reg := ⟨0x30000F, 8⟩
abbrev R.pc_BURSTS : Reg := ⟨0x300010, 64⟩
abbrev R.pc_BE_THROTTLED : Reg := ⟨0x300011, 32⟩

/-! ### Stack object 0x3001 (Table 07.7) -/
abbrev R.stk_MAP : Reg := ⟨0x300101, 8⟩
abbrev R.stk_RATE : Reg := ⟨0x300102, 8⟩
abbrev R.stk_RATE_CMD : Reg := ⟨0x300103, 8⟩
abbrev R.stk_CHANGING : Reg := ⟨0x300104, 8⟩
abbrev R.stk_TEMP : Reg := ⟨0x300105, 16⟩
abbrev R.stk_THROTTLE_TEMP : Reg := ⟨0x300106, 16⟩
abbrev R.stk_THROTTLED : Reg := ⟨0x300107, 8⟩
abbrev R.stk_RATES_OK : Reg := ⟨0x300108, 8⟩
abbrev R.stk_RATE_CHANGES : Reg := ⟨0x300109, 32⟩

/-! ### Frame store object 0x3002 (Table 07.8) -/
abbrev R.fs_MIRRORED : Reg := ⟨0x300201, 16⟩
abbrev R.fs_STALE_RANGES : Reg := ⟨0x300202, 16⟩
abbrev R.fs_REDIRECTED_READS : Reg := ⟨0x300203, 64⟩
abbrev R.fs_INIT_RANGES : Reg := ⟨0x300204, 0⟩
abbrev R.fs_SWITCHOVERS : Reg := ⟨0x300205, 32⟩
abbrev R.fs_SWITCHOVER_MAX : Reg := ⟨0x300206, 32⟩

/-! ### Log object 0x3100 (Table 08.9) -/
abbrev R.mlog_VALID : Reg := ⟨0x310001, 16⟩
abbrev R.mlog_ENTRY0 : Reg := ⟨0x310002, 0⟩
abbrev R.mlog_ENTRY1 : Reg := ⟨0x310003, 0⟩
abbrev R.mlog_ENTRY2 : Reg := ⟨0x310004, 0⟩
abbrev R.mlog_ENTRY3 : Reg := ⟨0x310005, 0⟩
abbrev R.mlog_ENTRY4 : Reg := ⟨0x310006, 0⟩
abbrev R.mlog_ENTRY5 : Reg := ⟨0x310007, 0⟩
abbrev R.mlog_ENTRY6 : Reg := ⟨0x310008, 0⟩
abbrev R.mlog_ENTRY7 : Reg := ⟨0x310009, 0⟩
abbrev R.mlog_ENTRY8 : Reg := ⟨0x31000A, 0⟩
abbrev R.mlog_ENTRY9 : Reg := ⟨0x31000B, 0⟩
abbrev R.mlog_ENTRY10 : Reg := ⟨0x31000C, 0⟩
abbrev R.mlog_ENTRY11 : Reg := ⟨0x31000D, 0⟩
abbrev R.mlog_ENTRY12 : Reg := ⟨0x31000E, 0⟩
abbrev R.mlog_ENTRY13 : Reg := ⟨0x31000F, 0⟩
abbrev R.mlog_ENTRY14 : Reg := ⟨0x310010, 0⟩
abbrev R.mlog_ENTRY15 : Reg := ⟨0x310011, 0⟩
abbrev R.mlog_OVERFLOW : Reg := ⟨0x310012, 32⟩
abbrev R.mlog_POISON_READS : Reg := ⟨0x310013, 32⟩
abbrev R.mlog_SCRUB_PASSES : Reg := ⟨0x310014, 32⟩
abbrev R.mlog_SCRUB_CORRECTED : Reg := ⟨0x310015, 32⟩
abbrev R.mlog_SCRUB_POISONED : Reg := ⟨0x310016, 32⟩
abbrev R.mlog_SCRUB_PAGES : Reg := ⟨0x310017, 32⟩
abbrev R.mlog_PASS_MS : Reg := ⟨0x310018, 32⟩

/-! ### Code and retirement object 0x3101 (Table 08.10) -/
abbrev R.code_VALID_PAGES : Reg := ⟨0x310101, 32⟩
abbrev R.code_RETIRED_PAGES : Reg := ⟨0x310102, 32⟩
abbrev R.code_FILL : Reg := ⟨0x310103, 0⟩
abbrev R.code_FILL_BUSY : Reg := ⟨0x310104, 8⟩
abbrev R.code_RETIRE_ROW : Reg := ⟨0x310105, 64⟩
abbrev R.code_RETIRE_BANK : Reg := ⟨0x310106, 16⟩
abbrev R.code_RETIREMENTS : Reg := ⟨0x310107, 0⟩
abbrev R.code_SELFTEST : Reg := ⟨0x310108, 32⟩
abbrev R.code_UNCORR_SUPPRESSED : Reg := ⟨0x310109, 32⟩

/-! ### Ring system object 0x4000 (Table 09.10) -/
abbrev R.rsys_EPOCH : Reg := ⟨0x400001, 32⟩
abbrev R.rsys_STAGED : Reg := ⟨0x400002, 32⟩
abbrev R.rsys_DRAINING : Reg := ⟨0x400003, 8⟩
abbrev R.rsys_DRAIN_MAX : Reg := ⟨0x400004, 32⟩
abbrev R.rsys_DRAIN_DISCARDS : Reg := ⟨0x400005, 32⟩
abbrev R.rsys_GUAR_TIMEOUT : Reg := ⟨0x400006, 16⟩
abbrev R.rsys_BE_TIMEOUT : Reg := ⟨0x400007, 16⟩
abbrev R.rsys_RING_CYCLE : Reg := ⟨0x400008, 64⟩

/-! ### Ring object 0x4001 (Table 09.11) -/
abbrev R.ring_PRESENT : Reg := ⟨0x400101, 8⟩
abbrev R.ring_STATE : Reg := ⟨0x400102, 8⟩
abbrev R.ring_FAULT_SEGMENT : Reg := ⟨0x400103, 8⟩
abbrev R.ring_HDR_CRC : Reg := ⟨0x400104, 32⟩
abbrev R.ring_SIDE_CRC : Reg := ⟨0x400105, 32⟩
abbrev R.ring_PAYLOAD_CORRECTED : Reg := ⟨0x400106, 32⟩
abbrev R.ring_PAYLOAD_UNCORRECTABLE : Reg := ⟨0x400107, 32⟩
abbrev R.ring_LOST_TRANSFERS : Reg := ⟨0x400108, 32⟩
abbrev R.ring_SLIPS : Reg := ⟨0x400109, 32⟩
abbrev R.ring_SEG_CRC_LIMIT : Reg := ⟨0x40010A, 16⟩
abbrev R.ring_RESERVED : Reg := ⟨0x40010B, 0⟩
abbrev R.ring_FLITS : Reg := ⟨0x40010C, 64⟩

/-! ### Stop object 0x4002 (Table 09.12) -/
abbrev R.stop_KIND : Reg := ⟨0x400201, 8⟩
abbrev R.stop_UNIT : Reg := ⟨0x400202, 16⟩
abbrev R.stop_STATE : Reg := ⟨0x400203, 8⟩
abbrev R.stop_TABLE_D0 : Reg := ⟨0x400204, 0⟩
abbrev R.stop_TABLE_D1 : Reg := ⟨0x400205, 0⟩
abbrev R.stop_SHADOW_D0 : Reg := ⟨0x400206, 0⟩
abbrev R.stop_SHADOW_D1 : Reg := ⟨0x400207, 0⟩
abbrev R.stop_ABSORBED : Reg := ⟨0x400208, 32⟩
abbrev R.stop_REFUSED : Reg := ⟨0x400209, 32⟩
abbrev R.stop_ADDRESS_ERRORS : Reg := ⟨0x40020A, 32⟩
abbrev R.stop_PARTIAL_DISCARDS : Reg := ⟨0x40020B, 32⟩
abbrev R.stop_VC_PEAK : Reg := ⟨0x40020C, 32⟩

/-! ### Exchange port object 0x4100 (Table 09.13) -/
abbrev R.xp_STATE : Reg := ⟨0x410001, 8⟩
abbrev R.xp_RESERVED_IN : Reg := ⟨0x410002, 16⟩
abbrev R.xp_RESERVED_OUT : Reg := ⟨0x410003, 16⟩
abbrev R.xp_REVOCATIONS : Reg := ⟨0x410004, 32⟩
abbrev R.xp_FLITS : Reg := ⟨0x410005, 64⟩

/-! ### Requester object 0x4101 (Table 09.14) -/
abbrev R.rq_PRIORITY : Reg := ⟨0x410101, 8⟩
abbrev R.rq_STARVED : Reg := ⟨0x410102, 8⟩
abbrev R.rq_STARVE_COUNT : Reg := ⟨0x410103, 32⟩

/-! ### Arbiter object 0x4102 (Table 09.15) -/
abbrev R.arb_STARVE_X : Reg := ⟨0x410201, 16⟩
abbrev R.arb_STARVE_S : Reg := ⟨0x410202, 16⟩
abbrev R.arb_STARVE_P : Reg := ⟨0x410203, 16⟩
abbrev R.arb_REVOCATIONS : Reg := ⟨0x410204, 64⟩
abbrev R.arb_DECISIONS : Reg := ⟨0x410205, 64⟩
abbrev R.arb_STARVE_EVENTS : Reg := ⟨0x410206, 32⟩

/-! ### Scratchpad object 0x3200 (Table 10.3) -/
abbrev R.sp_SCRUB_PASSES : Reg := ⟨0x320001, 32⟩
abbrev R.sp_PASS_US : Reg := ⟨0x320002, 32⟩
abbrev R.sp_WIPES : Reg := ⟨0x320003, 32⟩
abbrev R.sp_LAST_WIPE_CAUSE : Reg := ⟨0x320004, 8⟩
abbrev R.sp_LAST_WIPE_TIME : Reg := ⟨0x320005, 80⟩
abbrev R.sp_BANK_CONFLICTS : Reg := ⟨0x320006, 32⟩
abbrev R.sp_CREDIT_HOLD : Reg := ⟨0x320007, 32⟩
abbrev R.sp_SCHED_FREE : Reg := ⟨0x320008, 32⟩

/-! ### Bank object 0x3201 (Table 10.4) -/
abbrev R.spb_SLICE : Reg := ⟨0x320101, 8⟩
abbrev R.spb_SPARES_USED : Reg := ⟨0x320102, 8⟩
abbrev R.spb_REPAIR_MAP : Reg := ⟨0x320103, 0⟩

/-! ### Fabric object 0x7000 (Table 11.7) -/
abbrev R.fab_REGIONS : Reg := ⟨0x700001, 8⟩
abbrev R.fab_CLUSTERS : Reg := ⟨0x700002, 32⟩
abbrev R.fab_BLOCK_MEMORIES : Reg := ⟨0x700003, 16⟩
abbrev R.fab_SLICES : Reg := ⟨0x700004, 16⟩
abbrev R.fab_PORTS_PRESENT : Reg := ⟨0x700005, 16⟩
abbrev R.fab_BRAM_CORRECTED : Reg := ⟨0x700006, 32⟩
abbrev R.fab_BRAM_UNCORRECTABLE : Reg := ⟨0x700007, 32⟩
abbrev R.fab_BRAM_FAILED : Reg := ⟨0x700008, 16⟩
abbrev R.fab_PORT_MAP : Reg := ⟨0x700009, 0⟩

/-! ### Region object 0x7010 (Table 11.8) -/
abbrev R.reg_KIND : Reg := ⟨0x701001, 8⟩
abbrev R.reg_QUADRANT : Reg := ⟨0x701002, 8⟩
abbrev R.reg_CLUSTERS : Reg := ⟨0x701003, 16⟩
abbrev R.reg_BLOCK_MEMORIES : Reg := ⟨0x701004, 16⟩
abbrev R.reg_SLICES : Reg := ⟨0x701005, 16⟩
abbrev R.reg_FABRIC_STOP : Reg := ⟨0x701006, 16⟩
abbrev R.reg_GPIO_BANK : Reg := ⟨0x701007, 8⟩

/-! ### PLL object 0x7011 (Table 11.9) -/
abbrev R.pll_LOCKED : Reg := ⟨0x701101, 8⟩
abbrev R.pll_REGION : Reg := ⟨0x701102, 8⟩
abbrev R.pll_IN_KHZ : Reg := ⟨0x701103, 32⟩
abbrev R.pll_OUT_KHZ : Reg := ⟨0x701104, 0⟩
abbrev R.pll_LOCK_LOSSES : Reg := ⟨0x701105, 32⟩

/-! ### GPIO bank object 0x7012 (Table 11.10) -/
abbrev R.gpio_VIO_MV : Reg := ⟨0x701201, 16⟩
abbrev R.gpio_LVDS : Reg := ⟨0x701202, 8⟩
abbrev R.gpio_REGION : Reg := ⟨0x701203, 8⟩
abbrev R.gpio_STANDARD : Reg := ⟨0x701204, 8⟩

/-! ### Block memory object 0x7020 (Table 11.11) -/
abbrev R.bm_MODE : Reg := ⟨0x702001, 8⟩
abbrev R.bm_CORRECTED : Reg := ⟨0x702002, 32⟩
abbrev R.bm_UNCORRECTABLE : Reg := ⟨0x702003, 32⟩
abbrev R.bm_SELFTEST_FAIL : Reg := ⟨0x702004, 8⟩
abbrev R.bm_REGION : Reg := ⟨0x702005, 8⟩

/-! ### Operator port object 0x7030 (Table 11.12) -/
abbrev R.port_PRESENT : Reg := ⟨0x703001, 8⟩
abbrev R.port_STOP : Reg := ⟨0x703002, 16⟩
abbrev R.port_SWAP_REGION : Reg := ⟨0x703003, 8⟩
abbrev R.port_OPCLK_KHZ : Reg := ⟨0x703004, 32⟩
abbrev R.port_QUOTA : Reg := ⟨0x703005, 32⟩
abbrev R.port_READS_OUT : Reg := ⟨0x703006, 8⟩
abbrev R.port_WRITES_OUT : Reg := ⟨0x703007, 8⟩
abbrev R.port_BYTES_READ : Reg := ⟨0x703008, 64⟩
abbrev R.port_BYTES_WRITTEN : Reg := ⟨0x703009, 64⟩
abbrev R.port_POISON_WORDS : Reg := ⟨0x70300A, 32⟩
abbrev R.port_LOST : Reg := ⟨0x70300B, 32⟩
abbrev R.port_BAD_COMPLETIONS : Reg := ⟨0x70300C, 32⟩
abbrev R.port_FORCED_ABORTS : Reg := ⟨0x70300D, 32⟩
abbrev R.port_VIOLATIONS : Reg := ⟨0x70300E, 32⟩
abbrev R.port_LAST_VIOLATION : Reg := ⟨0x70300F, 8⟩

/-! ### Configuration loader object 0x7040 (Table 12.10) -/
abbrev R.cfg_FABRIC_STATE : Reg := ⟨0x704001, 8⟩
abbrev R.cfg_IMAGE_ID : Reg := ⟨0x704002, 64⟩
abbrev R.cfg_LOCATION : Reg := ⟨0x704003, 64⟩
abbrev R.cfg_COMMAND : Reg := ⟨0x704004, 8⟩
abbrev R.cfg_IMAGE_DATA : Reg := ⟨0x704005, 0⟩
abbrev R.cfg_LOAD_RESULT : Reg := ⟨0x704006, 8⟩
abbrev R.cfg_LOAD_TARGET : Reg := ⟨0x704007, 8⟩
abbrev R.cfg_BYTES_LOADED : Reg := ⟨0x704008, 32⟩
abbrev R.cfg_LOAD_US : Reg := ⟨0x704009, 32⟩
abbrev R.cfg_KEY_SET : Reg := ⟨0x70400A, 8⟩
abbrev R.cfg_STREAM_TIMEOUT : Reg := ⟨0x70400B, 16⟩
abbrev R.cfg_SOURCE : Reg := ⟨0x70400C, 8⟩

/-! ### Swap region object 0x7041 (Table 12.11) -/
abbrev R.swap_PRESENT : Reg := ⟨0x704101, 8⟩
abbrev R.swap_SHADOW : Reg := ⟨0x704102, 8⟩
abbrev R.swap_LIVE_ID : Reg := ⟨0x704103, 64⟩
abbrev R.swap_SHADOW_ID : Reg := ⟨0x704104, 64⟩
abbrev R.swap_LOCATION : Reg := ⟨0x704105, 64⟩
abbrev R.swap_COMMAND : Reg := ⟨0x704106, 8⟩
abbrev R.swap_CADENCE : Reg := ⟨0x704107, 8⟩
abbrev R.swap_TARGET_FRAME : Reg := ⟨0x704108, 64⟩
abbrev R.swap_ARMED : Reg := ⟨0x704109, 8⟩
abbrev R.swap_LIVE_SOURCE : Reg := ⟨0x70410A, 8⟩
abbrev R.swap_EXCHANGES : Reg := ⟨0x70410B, 32⟩
abbrev R.swap_LAST_EXCHANGE : Reg := ⟨0x70410C, 64⟩
abbrev R.swap_SUSPECT : Reg := ⟨0x70410D, 8⟩
abbrev R.swap_FIRST_FRAME : Reg := ⟨0x70410E, 32⟩

/-! ### Readback object 0x7042 (Table 12.12) -/
abbrev R.rb_FRAME : Reg := ⟨0x704201, 32⟩
abbrev R.rb_DATA : Reg := ⟨0x704202, 0⟩
abbrev R.rb_OUTCOME : Reg := ⟨0x704203, 8⟩

/-! ### Scrubber object 0x7100 (Table 12.13) -/
abbrev R.scr_PASSES : Reg := ⟨0x710001, 32⟩
abbrev R.scr_PASS_US : Reg := ⟨0x710002, 32⟩
abbrev R.scr_PASS_MAX_US : Reg := ⟨0x710003, 32⟩
abbrev R.scr_CORRECTED : Reg := ⟨0x710004, 32⟩
abbrev R.scr_UNCORRECTABLE : Reg := ⟨0x710005, 32⟩
abbrev R.scr_REPAIRED : Reg := ⟨0x710006, 32⟩
abbrev R.scr_UNREPAIRED : Reg := ⟨0x710007, 16⟩
abbrev R.scr_SUSPECT_MAP : Reg := ⟨0x710008, 0⟩
abbrev R.scr_LOG : Reg := ⟨0x710009, 0⟩

/-! ### Lane object 0x2000 (Table 13.7) -/
abbrev R.lane_PRESENT : Reg := ⟨0x200001, 8⟩
abbrev R.lane_MODE : Reg := ⟨0x200002, 8⟩
abbrev R.lane_LINE_RATE : Reg := ⟨0x200003, 32⟩
abbrev R.lane_RATE_DEN : Reg := ⟨0x200004, 16⟩
abbrev R.lane_MODULATION : Reg := ⟨0x200005, 8⟩
abbrev R.lane_TX_REF : Reg := ⟨0x200006, 8⟩
abbrev R.lane_MEDIUM : Reg := ⟨0x200007, 8⟩
abbrev R.lane_AN_ENABLE : Reg := ⟨0x200008, 8⟩
abbrev R.lane_TRAIN_ENABLE : Reg := ⟨0x200009, 8⟩
abbrev R.lane_SDI_AUTO : Reg := ⟨0x20000A, 8⟩
abbrev R.lane_STATE : Reg := ⟨0x20000B, 8⟩
abbrev R.lane_ATTEMPTS : Reg := ⟨0x20000C, 32⟩
abbrev R.lane_RX_INVERTED : Reg := ⟨0x20000D, 8⟩
abbrev R.lane_TX_INVERT : Reg := ⟨0x20000E, 8⟩
abbrev R.lane_GROUP_POS : Reg := ⟨0x20000F, 8⟩
abbrev R.lane_TX_FIR : Reg := ⟨0x200010, 0⟩
abbrev R.lane_RX_EQ : Reg := ⟨0x200011, 0⟩
abbrev R.lane_SAVED_EQ : Reg := ⟨0x200012, 0⟩
abbrev R.lane_MARGIN : Reg := ⟨0x200013, 8⟩
abbrev R.lane_MARGIN_MIN : Reg := ⟨0x200014, 8⟩
abbrev R.lane_FROZEN : Reg := ⟨0x200015, 8⟩
abbrev R.lane_REVERTS : Reg := ⟨0x200016, 32⟩
abbrev R.lane_LOS_COUNT : Reg := ⟨0x200017, 32⟩
abbrev R.lane_UP_COUNT : Reg := ⟨0x200018, 32⟩
abbrev R.lane_TX_STATE : Reg := ⟨0x200019, 8⟩
abbrev R.lane_PRBS_TX : Reg := ⟨0x20001A, 8⟩
abbrev R.lane_PRBS_RX : Reg := ⟨0x20001B, 8⟩
abbrev R.lane_PRBS_LOCK : Reg := ⟨0x20001C, 8⟩
abbrev R.lane_PRBS_ERRORS : Reg := ⟨0x20001D, 64⟩
abbrev R.lane_PRBS_BITS : Reg := ⟨0x20001E, 64⟩
abbrev R.lane_PRBS_CLEAR : Reg := ⟨0x20001F, 8⟩
abbrev R.lane_LOOPBACK : Reg := ⟨0x200020, 8⟩
abbrev R.lane_EYE_SCAN : Reg := ⟨0x200021, 0⟩
abbrev R.lane_HEADER_ERRORS : Reg := ⟨0x200022, 32⟩
abbrev R.lane_FEC_CORRECTED : Reg := ⟨0x200023, 32⟩
abbrev R.lane_RETIRE : Reg := ⟨0x200024, 8⟩

/-! ### Reference pair object 0x2001 (Table 13.8) -/
abbrev R.rp_PRESENT : Reg := ⟨0x200101, 8⟩
abbrev R.rp_FREQ_KHZ : Reg := ⟨0x200102, 32⟩
abbrev R.rp_LOSSES : Reg := ⟨0x200103, 32⟩

/-! ### Skeltia link object 0x2010 (Table 13.9) -/
abbrev R.link_ENABLE : Reg := ⟨0x201001, 8⟩
abbrev R.link_WIDTH : Reg := ⟨0x201002, 8⟩
abbrev R.link_STATE : Reg := ⟨0x201003, 8⟩
abbrev R.link_PARTNER_ID : Reg := ⟨0x201004, 8⟩
abbrev R.link_PARTNER_LINK : Reg := ⟨0x201005, 8⟩
abbrev R.link_CAPACITY : Reg := ⟨0x201006, 32⟩
abbrev R.link_REPLAY_TIMEOUT : Reg := ⟨0x201007, 16⟩
abbrev R.link_SKEW : Reg := ⟨0x201008, 8⟩
abbrev R.link_TX_PACKETS : Reg := ⟨0x201009, 64⟩
abbrev R.link_RX_PACKETS : Reg := ⟨0x20100A, 64⟩
abbrev R.link_REPLAYS : Reg := ⟨0x20100B, 32⟩
abbrev R.link_DUPLICATES : Reg := ⟨0x20100C, 32⟩
abbrev R.link_CRC_ERRORS : Reg := ⟨0x20100D, 32⟩
abbrev R.link_DROPPED : Reg := ⟨0x20100E, 32⟩
abbrev R.link_FILLERS_DELETED : Reg := ⟨0x20100F, 32⟩
abbrev R.link_FILLERS_INSERTED : Reg := ⟨0x201010, 32⟩
abbrev R.link_DOWN_COUNT : Reg := ⟨0x201011, 32⟩

/-! ### Steward object 0x1100 (Table 14.12) -/
abbrev R.stw_FW_VERSION : Reg := ⟨0x110001, 32⟩
abbrev R.stw_FW_IMAGE : Reg := ⟨0x110002, 8⟩
abbrev R.stw_BOOT_COUNT : Reg := ⟨0x110003, 32⟩
abbrev R.stw_UPTIME_MS : Reg := ⟨0x110004, 64⟩
abbrev R.stw_SESSIONS : Reg := ⟨0x110005, 8⟩
abbrev R.stw_LOCK_OWNER : Reg := ⟨0x110006, 32⟩
abbrev R.stw_LOCK_CLAIMS : Reg := ⟨0x110007, 32⟩
abbrev R.stw_REQUESTS : Reg := ⟨0x110008, 64⟩
abbrev R.stw_BUSY_REFUSALS : Reg := ⟨0x110009, 32⟩
abbrev R.stw_QUEUE_PEAK : Reg := ⟨0x11000A, 8⟩
abbrev R.stw_LIMITS : Reg := ⟨0x11000B, 0⟩

/-! ### Management port object 0x1101 (Table 14.13) -/
abbrev R.mgmt_MODE : Reg := ⟨0x110101, 8⟩
abbrev R.mgmt_LINK : Reg := ⟨0x110102, 8⟩
abbrev R.mgmt_MAC_ADDR : Reg := ⟨0x110103, 64⟩
abbrev R.mgmt_IPV4 : Reg := ⟨0x110104, 32⟩
abbrev R.mgmt_NETMASK : Reg := ⟨0x110105, 32⟩
abbrev R.mgmt_GATEWAY : Reg := ⟨0x110106, 32⟩
abbrev R.mgmt_UDP_PORT : Reg := ⟨0x110107, 16⟩
abbrev R.mgmt_ALLOW_ADDR : Reg := ⟨0x110108, 32⟩
abbrev R.mgmt_ALLOW_MASK : Reg := ⟨0x110109, 32⟩
abbrev R.mgmt_VLAN : Reg := ⟨0x11010A, 16⟩
abbrev R.mgmt_RX_FRAMES : Reg := ⟨0x11010B, 64⟩
abbrev R.mgmt_FRAME_ERRORS : Reg := ⟨0x11010C, 32⟩
abbrev R.mgmt_NOT_ALLOWED : Reg := ⟨0x11010D, 32⟩
abbrev R.mgmt_FRAGMENTS : Reg := ⟨0x11010E, 32⟩

/-! ### Session object 0x1102 (Table 14.14) -/
abbrev R.ses_ID : Reg := ⟨0x110201, 32⟩
abbrev R.ses_CLASS : Reg := ⟨0x110202, 8⟩
abbrev R.ses_SOURCE : Reg := ⟨0x110203, 64⟩
abbrev R.ses_HIGH : Reg := ⟨0x110204, 32⟩
abbrev R.ses_TIMEOUT : Reg := ⟨0x110205, 16⟩
abbrev R.ses_IDLE_MS : Reg := ⟨0x110206, 32⟩
abbrev R.ses_EVENT_MASK : Reg := ⟨0x110207, 16⟩
abbrev R.ses_NOTIFY_SEQ : Reg := ⟨0x110208, 32⟩
abbrev R.ses_NOTIFY_DROPPED : Reg := ⟨0x110209, 32⟩
abbrev R.ses_REQUESTS : Reg := ⟨0x11020A, 64⟩
abbrev R.ses_COMMAND : Reg := ⟨0x11020B, 8⟩

/-! ### SPI host port object 0x1103 (Table 14.15) -/
abbrev R.spi_RX_FRAMES : Reg := ⟨0x110301, 64⟩
abbrev R.spi_FRAME_ERRORS : Reg := ⟨0x110302, 32⟩
abbrev R.spi_RX_FULL_DROPS : Reg := ⟨0x110303, 32⟩

/-! ### Profile control object 0x1200 (Table 14.16) -/
abbrev R.prof_ACTIVE : Reg := ⟨0x120001, 8⟩
abbrev R.prof_PINS : Reg := ⟨0x120002, 8⟩
abbrev R.prof_NEXT : Reg := ⟨0x120003, 8⟩
abbrev R.prof_COMMAND : Reg := ⟨0x120004, 8⟩
abbrev R.prof_TARGET : Reg := ⟨0x120005, 8⟩
abbrev R.prof_CADENCE : Reg := ⟨0x120006, 8⟩
abbrev R.prof_TARGET_FRAME : Reg := ⟨0x120007, 64⟩
abbrev R.prof_ARMED : Reg := ⟨0x120008, 8⟩
abbrev R.prof_LAST_RESULT : Reg := ⟨0x120009, 16⟩
abbrev R.prof_SWITCHES : Reg := ⟨0x12000A, 32⟩

/-! ### Stored profile object 0x1201 (Table 14.17) -/
abbrev R.sprof_VALID : Reg := ⟨0x120101, 8⟩
abbrev R.sprof_NAME : Reg := ⟨0x120102, 0⟩
abbrev R.sprof_RECORD : Reg := ⟨0x120103, 0⟩
abbrev R.sprof_LENGTH : Reg := ⟨0x120104, 32⟩
abbrev R.sprof_CRC : Reg := ⟨0x120105, 32⟩
abbrev R.sprof_WRITES : Reg := ⟨0x120106, 32⟩
abbrev R.sprof_GRAPHS : Reg := ⟨0x120107, 8⟩

/-! ### Core object 0x8000 (Table 15.10) -/
abbrev R.core_STATE : Reg := ⟨0x800001, 8⟩
abbrev R.core_PC : Reg := ⟨0x800002, 32⟩
abbrev R.core_CYCLES : Reg := ⟨0x800003, 64⟩
abbrev R.core_FAULTS : Reg := ⟨0x800004, 32⟩
abbrev R.core_LAST_FAULT : Reg := ⟨0x800005, 8⟩
abbrev R.core_LAST_FAULT_PC : Reg := ⟨0x800006, 32⟩
abbrev R.core_WDT_OPEN : Reg := ⟨0x800007, 32⟩
abbrev R.core_WDT_CLOSE : Reg := ⟨0x800008, 32⟩
abbrev R.core_WDT_WARN : Reg := ⟨0x800009, 32⟩
abbrev R.core_WDT_EXPIRIES : Reg := ⟨0x80000A, 32⟩
abbrev R.core_IRQ_LATENCY_MAX : Reg := ⟨0x80000B, 32⟩
abbrev R.core_KICKS : Reg := ⟨0x80000C, 64⟩

/-! ### Watch program object 0x8001 (Table 15.11) -/
abbrev R.wp_IMAGE : Reg := ⟨0x800101, 0⟩
abbrev R.wp_COMMAND : Reg := ⟨0x800102, 8⟩
abbrev R.wp_LOAD_RESULT : Reg := ⟨0x800103, 8⟩
abbrev R.wp_STORED_CRC : Reg := ⟨0x800104, 32⟩
abbrev R.wp_AUTOSTART : Reg := ⟨0x800105, 8⟩
abbrev R.wp_RESTARTS : Reg := ⟨0x800106, 32⟩
abbrev R.wp_MBX_REQUESTS : Reg := ⟨0x800107, 32⟩
abbrev R.wp_MBX_REFUSED : Reg := ⟨0x800108, 32⟩
abbrev R.wp_RAISED : Reg := ⟨0x800109, 32⟩
abbrev R.wp_RAISE_DROPPED : Reg := ⟨0x80010A, 32⟩

/-! ### Lock unit object 0x8100 (Table 15.12) -/
abbrev R.lu_HELD : Reg := ⟨0x810001, 64⟩
abbrev R.lu_SUSPECT : Reg := ⟨0x810002, 64⟩
abbrev R.lu_ACQUIRES : Reg := ⟨0x810003, 64⟩
abbrev R.lu_CONTESTS : Reg := ⟨0x810004, 32⟩
abbrev R.lu_MISUSE : Reg := ⟨0x810005, 32⟩

/-! ### Lock object 0x8101 (Table 15.13) -/
abbrev R.lock_OWNER : Reg := ⟨0x810101, 8⟩
abbrev R.lock_ACQUIRE : Reg := ⟨0x810102, 16⟩
abbrev R.lock_RELEASE : Reg := ⟨0x810103, 8⟩
abbrev R.lock_RENEW : Reg := ⟨0x810104, 8⟩
abbrev R.lock_CLEAR_SUSPECT : Reg := ⟨0x810105, 8⟩
abbrev R.lock_SUSPECT : Reg := ⟨0x810106, 8⟩
abbrev R.lock_LEASE : Reg := ⟨0x810107, 32⟩
abbrev R.lock_REMAINING : Reg := ⟨0x810108, 32⟩
abbrev R.lock_FORCED : Reg := ⟨0x810109, 32⟩

/-! ### Power object 0x8200 (Table 16.6) -/
abbrev R.pow_STATE : Reg := ⟨0x820001, 8⟩
abbrev R.pow_COMMAND : Reg := ⟨0x820002, 8⟩
abbrev R.pow_DRAIN_LIMIT : Reg := ⟨0x820003, 16⟩
abbrev R.pow_WAKE_AFTER : Reg := ⟨0x820004, 32⟩
abbrev R.pow_LAST_WAKE : Reg := ⟨0x820005, 8⟩
abbrev R.pow_LAST_NIGHTFALL : Reg := ⟨0x820006, 8⟩
abbrev R.pow_TRIPS : Reg := ⟨0x820007, 32⟩
abbrev R.pow_LAST_TRIP_CAUSE : Reg := ⟨0x820008, 8⟩
abbrev R.pow_TRIP_RELEASE : Reg := ⟨0x820009, 16⟩
abbrev R.pow_NIGHTS : Reg := ⟨0x82000A, 32⟩
abbrev R.pow_ABANDONED : Reg := ⟨0x82000B, 32⟩

/-! ### ADC channel object 0x8201 (Table 16.7) -/
abbrev R.adc_KIND : Reg := ⟨0x820101, 8⟩
abbrev R.adc_CODE : Reg := ⟨0x820102, 16⟩
abbrev R.adc_VALUE : Reg := ⟨0x820103, 32⟩
abbrev R.adc_MIN : Reg := ⟨0x820104, 32⟩
abbrev R.adc_MAX : Reg := ⟨0x820105, 32⟩
abbrev R.adc_FIFO_DIV : Reg := ⟨0x820106, 16⟩

/-! ### ADC sequencer object 0x8202 (Table 16.8) -/
abbrev R.seq_SEQUENCE : Reg := ⟨0x820201, 0⟩
abbrev R.seq_LENGTH : Reg := ⟨0x820202, 8⟩
abbrev R.seq_OVERRUNS : Reg := ⟨0x820203, 32⟩

/-! ### Domain object 0x8203 (Table 16.9) -/
abbrev R.dom_KIND : Reg := ⟨0x820301, 8⟩
abbrev R.dom_UNIT : Reg := ⟨0x820302, 8⟩
abbrev R.dom_STATE : Reg := ⟨0x820303, 8⟩
abbrev R.dom_COMMAND : Reg := ⟨0x820304, 8⟩
abbrev R.dom_LAST_DRAIN_US : Reg := ⟨0x820305, 32⟩
abbrev R.dom_OFF_COUNT : Reg := ⟨0x820306, 32⟩

/-! ### Integrity object 0x9000 (Table 18.10) -/
abbrev R.integ_STATE : Reg := ⟨0x900001, 8⟩
abbrev R.integ_CONDITIONS : Reg := ⟨0x900002, 32⟩
abbrev R.integ_LATCHED : Reg := ⟨0x900003, 32⟩
abbrev R.integ_PIN_MASK : Reg := ⟨0x900004, 8⟩
abbrev R.integ_ACK : Reg := ⟨0x900005, 8⟩
abbrev R.integ_PINS : Reg := ⟨0x900006, 8⟩
abbrev R.integ_BREACHES : Reg := ⟨0x900007, 32⟩
abbrev R.integ_STATE_CHANGES : Reg := ⟨0x900008, 32⟩

/-! ### Event log object 0x9001 (Table 18.11) -/
abbrev R.log_HEAD : Reg := ⟨0x900101, 32⟩
abbrev R.log_OLDEST : Reg := ⟨0x900102, 32⟩
abbrev R.log_FROM : Reg := ⟨0x900103, 32⟩
abbrev R.log_RECORDS : Reg := ⟨0x900104, 0⟩
abbrev R.log_PINNED : Reg := ⟨0x900105, 0⟩
abbrev R.log_PINNED_COUNT : Reg := ⟨0x900106, 16⟩
abbrev R.log_CLEAR_PINNED : Reg := ⟨0x900107, 8⟩
abbrev R.log_DROPPED : Reg := ⟨0x900108, 32⟩
abbrev R.log_QUEUE_PEAK : Reg := ⟨0x900109, 16⟩
abbrev R.log_WRITES : Reg := ⟨0x90010A, 64⟩

/-! ### Event code object 0x9002 (Table 18.12) -/
abbrev R.ev_CLASS : Reg := ⟨0x900201, 8⟩
abbrev R.ev_RAISED : Reg := ⟨0x900202, 32⟩

/-! ### Ensemble object 0x9100 (Table 19.4) -/
abbrev R.ens_ENABLE : Reg := ⟨0x910001, 8⟩
abbrev R.ens_ENS_ID : Reg := ⟨0x910002, 8⟩
abbrev R.ens_STATE : Reg := ⟨0x910003, 8⟩
abbrev R.ens_LEADER : Reg := ⟨0x910004, 8⟩
abbrev R.ens_VIEW : Reg := ⟨0x910005, 8⟩
abbrev R.ens_COUNCIL_CADENCE : Reg := ⟨0x910006, 8⟩
abbrev R.ens_PLAN : Reg := ⟨0x910007, 0⟩
abbrev R.ens_DIGEST : Reg := ⟨0x910008, 0⟩
abbrev R.ens_COMMON_VERSION : Reg := ⟨0x910009, 16⟩
abbrev R.ens_OFFSET : Reg := ⟨0x91000A, 64⟩
abbrev R.ens_OUT_COUNT : Reg := ⟨0x91000B, 8⟩
abbrev R.ens_COMMAND : Reg := ⟨0x91000C, 8⟩
abbrev R.ens_LEAVES : Reg := ⟨0x91000D, 32⟩
abbrev R.ens_LAST_LEAVE_CAUSE : Reg := ⟨0x91000E, 8⟩
abbrev R.ens_ROUND_TRIP_MAX : Reg := ⟨0x91000F, 16⟩

/-! ### Member object 0x9101 (Table 19.5) -/
abbrev R.mem_IN_VIEW : Reg := ⟨0x910101, 8⟩
abbrev R.mem_STATE : Reg := ⟨0x910102, 8⟩
abbrev R.mem_UNIQUE_ID : Reg := ⟨0x910103, 64⟩
abbrev R.mem_FW_VERSION : Reg := ⟨0x910104, 32⟩
abbrev R.mem_PROFILE : Reg := ⟨0x910105, 8⟩
abbrev R.mem_TB_STATE : Reg := ⟨0x910106, 8⟩
abbrev R.mem_DIGEST_MATCH : Reg := ⟨0x910107, 8⟩
abbrev R.mem_OFFSET : Reg := ⟨0x910108, 64⟩
abbrev R.mem_LINK : Reg := ⟨0x910109, 16⟩
abbrev R.mem_MISSED : Reg := ⟨0x91010A, 32⟩

/-! ### Peer flow object 0x9102 (Table 19.6) -/
abbrev R.pf_LINK : Reg := ⟨0x910201, 16⟩
abbrev R.pf_PARTNER_FLOW : Reg := ⟨0x910202, 32⟩
abbrev R.pf_DUPLICATES : Reg := ⟨0x910203, 32⟩
abbrev R.pf_PACKETS : Reg := ⟨0x910204, 64⟩

/-! ### Life-cycle object 0xA000 (Table 20.10) -/
abbrev R.lc_STATE : Reg := ⟨0xA00001, 8⟩
abbrev R.lc_TARGET : Reg := ⟨0xA00002, 8⟩
abbrev R.lc_COMMIT : Reg := ⟨0xA00003, 32⟩
abbrev R.lc_DEV_DIGEST : Reg := ⟨0xA00004, 0⟩
abbrev R.lc_SERVICE_KEY_DIGEST : Reg := ⟨0xA00005, 0⟩
abbrev R.lc_IMAGE_KEY : Reg := ⟨0xA00006, 0⟩
abbrev R.lc_FUSED : Reg := ⟨0xA00007, 8⟩

/-! ### Debug port object 0xA001 (Table 20.11) -/
abbrev R.dbg_SESSION : Reg := ⟨0xA00101, 8⟩
abbrev R.dbg_RIGHTS : Reg := ⟨0xA00102, 8⟩
abbrev R.dbg_FAILS : Reg := ⟨0xA00103, 32⟩
abbrev R.dbg_LOCKOUT : Reg := ⟨0xA00104, 32⟩
abbrev R.dbg_BAD_RECORDS : Reg := ⟨0xA00105, 32⟩
abbrev R.dbg_BAD_TAGS : Reg := ⟨0xA00106, 32⟩
abbrev R.dbg_TIMEOUT : Reg := ⟨0xA00107, 16⟩
abbrev R.dbg_COMMAND : Reg := ⟨0xA00108, 8⟩
abbrev R.dbg_TRACE : Reg := ⟨0xA00109, 8⟩

/-! ### Tamper object 0xA002 (Table 20.12) -/
abbrev R.tmp_TAMPERS : Reg := ⟨0xA00201, 32⟩
abbrev R.tmp_LAST_SOURCE : Reg := ⟨0xA00202, 8⟩
abbrev R.tmp_LAST_TIME : Reg := ⟨0xA00203, 80⟩

/-! ### Patch unit object 0xA020 (Table 20.13) -/
abbrev R.pu_MODE : Reg := ⟨0xA02001, 8⟩
abbrev R.pu_CORE : Reg := ⟨0xA02002, 8⟩
abbrev R.pu_ADDRESS : Reg := ⟨0xA02003, 32⟩
abbrev R.pu_MASK : Reg := ⟨0xA02004, 16⟩
abbrev R.pu_ACCESS : Reg := ⟨0xA02005, 8⟩
abbrev R.pu_ACTION : Reg := ⟨0xA02006, 8⟩
abbrev R.pu_HITS : Reg := ⟨0xA02007, 32⟩

/-- The types of Table 14.3. -/
inductive Ty where
  | bool | u8 | u16 | u32 | u64 | i8 | i16 | i32 | i64 | time80 | str | enum | domain
  deriving DecidableEq, Repr

/-- The access codes of the object tables (R413). -/
inductive Access where
  | ro | rw | wo | w1c | rc | rs
  deriving DecidableEq, Repr

/-- One subindex of an object: type, access, the range its table states for a written value, and for a DOMAIN the greatest
length and whether the length is fixed (R417). -/
structure Row where
  sub : Nat
  ty : Ty
  acc : Access
  lo : Int
  hi : Int
  maxLen : Nat
  fixed : Bool
  deriving DecidableEq, Repr

/-- An object: its index, how many instances Table 14.4 gives it, its COUNT and its subindices above 0. -/
structure ObjDef where
  index : Nat
  instances : Nat
  count : Nat
  rows : List Row
  deriving DecidableEq, Repr

/-- Table 00.1. -/
def obj_ident : ObjDef := ⟨0x1000, 1, 11, [
  ⟨1, .str, .ro, 0, 0, 64, false⟩, ⟨2, .str, .ro, 0, 0, 64, false⟩, ⟨3, .str, .ro, 0, 0, 64, false⟩,
  ⟨4, .str, .ro, 0, 0, 6, true⟩, ⟨5, .u8, .ro, 0, 255, 0, false⟩, ⟨6, .i8, .ro, -128, 127, 0, false⟩,
  ⟨7, .i8, .ro, -128, 127, 0, false⟩, ⟨8, .u32, .ro, 0, 4294967295, 0, false⟩, ⟨9, .enum, .ro, 0, 255, 0, false⟩,
  ⟨10, .u64, .ro, 0, 18446744073709551615, 0, false⟩, ⟨11, .bool, .ro, 0, 1, 0, false⟩]⟩

/-- Table 00.2. -/
def obj_pres : ObjDef := ⟨0x1010, 1, 32, [
  ⟨1, .u64, .ro, 0, 18446744073709551615, 0, false⟩, ⟨2, .u64, .ro, 0, 18446744073709551615, 0, false⟩,
  ⟨3, .u64, .ro, 0, 18446744073709551615, 0, false⟩, ⟨4, .u64, .ro, 0, 18446744073709551615, 0, false⟩,
  ⟨5, .u64, .ro, 0, 18446744073709551615, 0, false⟩, ⟨6, .u64, .ro, 0, 18446744073709551615, 0, false⟩,
  ⟨7, .u32, .ro, 0, 4294967295, 0, false⟩, ⟨8, .u16, .ro, 0, 65535, 0, false⟩, ⟨9, .u16, .ro, 0, 65535, 0, false⟩,
  ⟨10, .u64, .ro, 0, 18446744073709551615, 0, false⟩, ⟨11, .u8, .ro, 0, 255, 0, false⟩,
  ⟨12, .u32, .ro, 0, 4294967295, 0, false⟩, ⟨32, .domain, .ro, 0, 0, 72, true⟩]⟩

/-- Table 02.1. -/
def obj_tb : ObjDef := ⟨0x1300, 1, 13, [
  ⟨1, .enum, .ro, 0, 255, 0, false⟩, ⟨2, .enum, .rw, 0, 4, 0, false⟩, ⟨3, .enum, .ro, 0, 255, 0, false⟩,
  ⟨4, .time80, .ro, 0, 1208925819614629174706175, 0, false⟩, ⟨5, .time80, .wo, 0, 1208925819614629174706175, 0, false⟩,
  ⟨6, .i64, .ro, -9223372036854775808, 9223372036854775807, 0, false⟩, ⟨7, .u16, .rw, 1, 200, 0, false⟩,
  ⟨8, .u32, .rw, 1, 86400, 0, false⟩, ⟨9, .u16, .rw, 125, 1000, 0, false⟩, ⟨10, .u8, .rw, 0, 15, 0, false⟩,
  ⟨11, .u32, .rc, 0, 4294967295, 0, false⟩, ⟨12, .i16, .rw, -32768, 32767, 0, false⟩,
  ⟨13, .i64, .ro, -9223372036854775808, 9223372036854775807, 0, false⟩]⟩

/-- Table 02.4. -/
def obj_ptp : ObjDef := ⟨0x1302, 256, 6, [
  ⟨1, .bool, .rw, 0, 1, 0, false⟩, ⟨2, .u8, .rw, 0, 255, 0, false⟩, ⟨3, .enum, .ro, 0, 255, 0, false⟩,
  ⟨4, .u64, .ro, 0, 18446744073709551615, 0, false⟩, ⟨5, .i64, .ro, -9223372036854775808, 9223372036854775807, 0, false⟩,
  ⟨6, .u32, .rc, 0, 4294967295, 0, false⟩]⟩

/-- Table 02.5. -/
def obj_ref : ObjDef := ⟨0x1303, 1, 7, [
  ⟨1, .enum, .ro, 0, 255, 0, false⟩, ⟨2, .u8, .rw, 0, 15, 0, false⟩, ⟨3, .bool, .ro, 0, 1, 0, false⟩,
  ⟨4, .i32, .rw, -100000, 100000, 0, false⟩, ⟨5, .u32, .rc, 0, 4294967295, 0, false⟩, ⟨6, .u32, .ro, 0, 4294967295, 0, false⟩,
  ⟨7, .u32, .ro, 0, 4294967295, 0, false⟩]⟩

/-- Table 02.6. -/
def obj_cad : ObjDef := ⟨0x1301, 16, 11, [
  ⟨1, .bool, .rw, 0, 1, 0, false⟩, ⟨2, .enum, .rw, 0, 1, 0, false⟩, ⟨3, .u32, .rw, 1, 240000, 0, false⟩,
  ⟨4, .u32, .rw, 1, 1001, 0, false⟩, ⟨5, .u16, .rw, 0, 8192, 0, false⟩, ⟨6, .bool, .rw, 0, 1, 0, false⟩,
  ⟨7, .u16, .rw, 6, 480, 0, false⟩, ⟨8, .u64, .ro, 0, 18446744073709551615, 0, false⟩,
  ⟨9, .time80, .ro, 0, 1208925819614629174706175, 0, false⟩, ⟨10, .u16, .ro, 0, 65535, 0, false⟩,
  ⟨11, .u16, .ro, 0, 65535, 0, false⟩]⟩

/-- Table 03.15. -/
def obj_sched : ObjDef := ⟨0x5000, 1, 13, [
  ⟨1, .u16, .ro, 0, 65535, 0, false⟩, ⟨2, .u16, .rc, 0, 65535, 0, false⟩, ⟨3, .u16, .ro, 0, 65535, 0, false⟩,
  ⟨4, .u16, .ro, 0, 65535, 0, false⟩, ⟨5, .u16, .ro, 0, 65535, 0, false⟩, ⟨6, .u16, .ro, 0, 65535, 0, false⟩,
  ⟨7, .u16, .ro, 0, 65535, 0, false⟩, ⟨8, .u16, .ro, 0, 65535, 0, false⟩, ⟨9, .u64, .ro, 0, 18446744073709551615, 0, false⟩,
  ⟨10, .u32, .rc, 0, 4294967295, 0, false⟩, ⟨11, .u32, .rc, 0, 4294967295, 0, false⟩, ⟨12, .u32, .rc, 0, 4294967295, 0, false⟩,
  ⟨13, .u32, .rc, 0, 4294967295, 0, false⟩]⟩

/-- Table 03.16. -/
def obj_hdl : ObjDef := ⟨0x5001, 65536, 8, [
  ⟨1, .u32, .ro, 0, 4294967295, 0, false⟩, ⟨2, .u64, .rw, 0, 1099511627775, 0, false⟩,
  ⟨3, .u32, .rw, 0, 4294967295, 0, false⟩, ⟨4, .u8, .rw, 1, 16, 0, false⟩, ⟨5, .u32, .rw, 0, 4294967295, 0, false⟩,
  ⟨6, .u64, .rw, 0, 18446744073709551615, 0, false⟩, ⟨7, .enum, .wo, 1, 2, 0, false⟩, ⟨8, .u16, .ro, 0, 65535, 0, false⟩]⟩

/-- Table 03.17. -/
def obj_slot : ObjDef := ⟨0x5002, 64, 12, [
  ⟨1, .enum, .ro, 0, 255, 0, false⟩, ⟨2, .domain, .wo, 0, 0, 1048576, false⟩, ⟨3, .u16, .ro, 0, 65535, 0, false⟩,
  ⟨4, .u8, .ro, 0, 255, 0, false⟩, ⟨5, .enum, .ro, 0, 255, 0, false⟩, ⟨6, .u16, .ro, 0, 65535, 0, false⟩,
  ⟨7, .enum, .wo, 1, 6, 0, false⟩, ⟨8, .u64, .rw, 0, 18446744073709551615, 0, false⟩, ⟨9, .u8, .rw, 0, 63, 0, false⟩,
  ⟨10, .u64, .ro, 0, 18446744073709551615, 0, false⟩, ⟨11, .u64, .ro, 0, 18446744073709551615, 0, false⟩,
  ⟨12, .u32, .ro, 0, 4294967295, 0, false⟩]⟩

/-- Table 03.18. -/
def obj_node : ObjDef := ⟨0x5003, 1048576, 6, [
  ⟨1, .u64, .ro, 0, 18446744073709551615, 0, false⟩, ⟨2, .u64, .ro, 0, 18446744073709551615, 0, false⟩,
  ⟨3, .u32, .rc, 0, 4294967295, 0, false⟩, ⟨4, .u32, .rc, 0, 4294967295, 0, false⟩, ⟨5, .u32, .rc, 0, 4294967295, 0, false⟩,
  ⟨6, .u8, .ro, 0, 255, 0, false⟩]⟩

/-- Table 03.19. -/
def obj_opr : ObjDef := ⟨0x5100, 608, 10, [
  ⟨1, .bool, .ro, 0, 1, 0, false⟩, ⟨2, .enum, .ro, 0, 255, 0, false⟩, ⟨3, .u16, .rw, 1, 256, 0, false⟩,
  ⟨4, .u16, .ro, 0, 65535, 0, false⟩, ⟨5, .u32, .ro, 0, 4294967295, 0, false⟩, ⟨6, .u32, .ro, 0, 4294967295, 0, false⟩,
  ⟨7, .bool, .ro, 0, 1, 0, false⟩, ⟨8, .u64, .ro, 0, 18446744073709551615, 0, false⟩, ⟨9, .u32, .rc, 0, 4294967295, 0, false⟩,
  ⟨10, .u32, .rw, 0, 4294967295, 0, false⟩]⟩

/-- Table 04.6. -/
def obj_adm : ObjDef := ⟨0x5200, 1, 8, [
  ⟨1, .u8, .wo, 0, 63, 0, false⟩, ⟨2, .u8, .wo, 0, 63, 0, false⟩, ⟨3, .bool, .ro, 0, 1, 0, false⟩,
  ⟨4, .domain, .ro, 0, 0, 32, true⟩, ⟨5, .u8, .ro, 0, 255, 0, false⟩, ⟨6, .u32, .rc, 0, 4294967295, 0, false⟩,
  ⟨7, .u32, .rc, 0, 4294967295, 0, false⟩, ⟨8, .u32, .ro, 0, 4294967295, 0, false⟩]⟩

/-- Table 04.7. -/
def obj_opb : ObjDef := ⟨0x5201, 608, 4, [
  ⟨1, .u16, .ro, 0, 65535, 0, false⟩, ⟨2, .u32, .ro, 0, 4294967295, 0, false⟩, ⟨3, .u32, .ro, 0, 4294967295, 0, false⟩,
  ⟨4, .u32, .ro, 0, 4294967295, 0, false⟩]⟩

/-- Table 04.8. -/
def obj_sadm : ObjDef := ⟨0x5202, 64, 5, [
  ⟨1, .enum, .ro, 0, 255, 0, false⟩, ⟨2, .u32, .ro, 0, 4294967295, 0, false⟩, ⟨3, .u16, .ro, 0, 65535, 0, false⟩,
  ⟨4, .domain, .ro, 0, 0, 32, true⟩, ⟨5, .u32, .ro, 0, 4294967295, 0, false⟩]⟩

/-- Table 04.9. -/
def obj_pcb : ObjDef := ⟨0x5203, 128, 2, [
  ⟨1, .u32, .ro, 0, 4294967295, 0, false⟩, ⟨2, .u32, .ro, 0, 4294967295, 0, false⟩]⟩

/-- Table 05.6. -/
def obj_eth : ObjDef := ⟨0x2100, 256, 15, [
  ⟨1, .bool, .rw, 0, 1, 0, false⟩, ⟨2, .enum, .rw, 0, 8, 0, false⟩, ⟨3, .enum, .ro, 0, 255, 0, false⟩,
  ⟨4, .u64, .rw, 0, 281474976710655, 0, false⟩, ⟨5, .u32, .rw, 0, 4294967295, 0, false⟩, ⟨6, .u16, .rw, 0, 4094, 0, false⟩,
  ⟨7, .u16, .rw, 1518, 9216, 0, false⟩, ⟨8, .u32, .ro, 0, 4294967295, 0, false⟩, ⟨9, .u16, .ro, 0, 65535, 0, false⟩,
  ⟨10, .u64, .ro, 0, 18446744073709551615, 0, false⟩, ⟨11, .u32, .rc, 0, 4294967295, 0, false⟩,
  ⟨12, .u32, .rc, 0, 4294967295, 0, false⟩, ⟨13, .u64, .ro, 0, 18446744073709551615, 0, false⟩,
  ⟨14, .u32, .rc, 0, 4294967295, 0, false⟩, ⟨15, .u32, .rc, 0, 4294967295, 0, false⟩]⟩

/-- Table 05.7. -/
def obj_flow : ObjDef := ⟨0x2200, 262144, 40, [
  ⟨1, .enum, .ro, 0, 255, 0, false⟩, ⟨2, .enum, .rw, 0, 1, 0, false⟩, ⟨3, .enum, .rw, 0, 4, 0, false⟩,
  ⟨4, .u16, .rw, 0, 65535, 0, false⟩, ⟨5, .u16, .rw, 0, 65535, 0, false⟩, ⟨6, .bool, .rw, 0, 1, 0, false⟩,
  ⟨7, .u32, .rw, 0, 4294967295, 0, false⟩, ⟨8, .u32, .rw, 0, 4294967295, 0, false⟩, ⟨9, .u16, .rw, 0, 65535, 0, false⟩,
  ⟨10, .u32, .rw, 0, 4294967295, 0, false⟩, ⟨11, .bool, .rw, 0, 1, 0, false⟩, ⟨12, .u8, .rw, 0, 127, 0, false⟩,
  ⟨13, .u32, .ro, 0, 4294967295, 0, false⟩, ⟨14, .u16, .rw, 10, 2000, 0, false⟩, ⟨15, .u16, .rw, 1, 100, 0, false⟩,
  ⟨16, .i32, .rw, -2147483648, 2147483647, 0, false⟩, ⟨17, .u8, .rw, 1, 64, 0, false⟩,
  ⟨18, .u32, .rw, 0, 4294967295, 0, false⟩, ⟨19, .u32, .rw, 0, 4294967295, 0, false⟩, ⟨20, .enum, .rw, 0, 2, 0, false⟩,
  ⟨21, .enum, .rw, 0, 1, 0, false⟩, ⟨22, .u16, .rw, 180, 8960, 0, false⟩, ⟨23, .enum, .rw, 0, 2, 0, false⟩,
  ⟨24, .u8, .rw, 0, 14, 0, false⟩, ⟨25, .u32, .rc, 0, 4294967295, 0, false⟩, ⟨26, .u32, .rc, 0, 4294967295, 0, false⟩,
  ⟨27, .u32, .rc, 0, 4294967295, 0, false⟩, ⟨28, .u32, .rc, 0, 4294967295, 0, false⟩, ⟨29, .u32, .rc, 0, 4294967295, 0, false⟩,
  ⟨30, .u32, .rc, 0, 4294967295, 0, false⟩, ⟨31, .u32, .rc, 0, 4294967295, 0, false⟩, ⟨32, .u32, .rc, 0, 4294967295, 0, false⟩,
  ⟨33, .u32, .rc, 0, 4294967295, 0, false⟩, ⟨34, .u64, .ro, 0, 18446744073709551615, 0, false⟩,
  ⟨35, .u64, .ro, 0, 18446744073709551615, 0, false⟩, ⟨36, .u64, .rw, 0, 281474976710655, 0, false⟩,
  ⟨37, .u8, .rw, 0, 63, 0, false⟩, ⟨38, .enum, .wo, 1, 2, 0, false⟩, ⟨39, .u8, .ro, 0, 255, 0, false⟩,
  ⟨40, .domain, .ro, 0, 0, 32, true⟩]⟩

/-- Table 05.8. -/
def obj_sdi : ObjDef := ⟨0x2300, 256, 8, [
  ⟨1, .enum, .ro, 0, 255, 0, false⟩, ⟨2, .u32, .ro, 0, 4294967295, 0, false⟩, ⟨3, .u32, .rw, 0, 4294967295, 0, false⟩,
  ⟨4, .enum, .rw, 0, 1, 0, false⟩, ⟨5, .u32, .rc, 0, 4294967295, 0, false⟩, ⟨6, .u32, .rc, 0, 4294967295, 0, false⟩,
  ⟨7, .u32, .rw, 0, 4294967295, 0, false⟩, ⟨8, .u32, .rc, 0, 4294967295, 0, false⟩]⟩

/-- Table 06.16. -/
def obj_eng : ObjDef := ⟨0x6000, 32, 13, [
  ⟨1, .bool, .ro, 0, 1, 0, false⟩, ⟨2, .enum, .ro, 0, 255, 0, false⟩, ⟨3, .u64, .ro, 0, 18446744073709551615, 0, false⟩,
  ⟨4, .u64, .ro, 0, 18446744073709551615, 0, false⟩, ⟨5, .u64, .ro, 0, 18446744073709551615, 0, false⟩,
  ⟨6, .u64, .ro, 0, 18446744073709551615, 0, false⟩, ⟨7, .u32, .rc, 0, 4294967295, 0, false⟩,
  ⟨8, .u32, .rc, 0, 4294967295, 0, false⟩, ⟨9, .u32, .rc, 0, 4294967295, 0, false⟩, ⟨10, .u8, .ro, 0, 255, 0, false⟩,
  ⟨11, .u32, .ro, 0, 4294967295, 0, false⟩, ⟨12, .u32, .rc, 0, 4294967295, 0, false⟩, ⟨13, .u32, .rc, 0, 4294967295, 0, false⟩]⟩

/-- Table 07.4. -/
def obj_tim : ObjDef := ⟨0x3003, 3, 19, [
  ⟨1, .u16, .ro, 0, 65535, 0, false⟩, ⟨2, .u16, .ro, 0, 65535, 0, false⟩, ⟨3, .u16, .ro, 0, 65535, 0, false⟩,
  ⟨4, .u16, .ro, 0, 65535, 0, false⟩, ⟨5, .u16, .ro, 0, 65535, 0, false⟩, ⟨6, .u16, .ro, 0, 65535, 0, false⟩,
  ⟨7, .u16, .ro, 0, 65535, 0, false⟩, ⟨8, .u16, .ro, 0, 65535, 0, false⟩, ⟨9, .u16, .ro, 0, 65535, 0, false⟩,
  ⟨10, .u16, .ro, 0, 65535, 0, false⟩, ⟨11, .u16, .ro, 0, 65535, 0, false⟩, ⟨12, .u16, .ro, 0, 65535, 0, false⟩,
  ⟨13, .u16, .ro, 0, 65535, 0, false⟩, ⟨14, .u16, .ro, 0, 65535, 0, false⟩, ⟨15, .u16, .ro, 0, 65535, 0, false⟩,
  ⟨16, .u16, .ro, 0, 65535, 0, false⟩, ⟨17, .u16, .ro, 0, 65535, 0, false⟩, ⟨18, .u16, .ro, 0, 65535, 0, false⟩,
  ⟨19, .u16, .ro, 0, 65535, 0, false⟩]⟩

/-- Table 07.6. -/
def obj_pc : ObjDef := ⟨0x3000, 128, 17, [
  ⟨1, .enum, .ro, 0, 255, 0, false⟩, ⟨2, .bool, .ro, 0, 1, 0, false⟩, ⟨3, .u8, .ro, 0, 255, 0, false⟩,
  ⟨4, .u8, .ro, 0, 255, 0, false⟩, ⟨5, .u8, .rc, 0, 255, 0, false⟩, ⟨6, .u32, .rc, 0, 4294967295, 0, false⟩,
  ⟨7, .u32, .rc, 0, 4294967295, 0, false⟩, ⟨8, .u32, .rc, 0, 4294967295, 0, false⟩, ⟨9, .u32, .rc, 0, 4294967295, 0, false⟩,
  ⟨10, .u32, .rc, 0, 4294967295, 0, false⟩, ⟨11, .u32, .rc, 0, 4294967295, 0, false⟩, ⟨12, .u32, .rc, 0, 4294967295, 0, false⟩,
  ⟨13, .u32, .ro, 0, 4294967295, 0, false⟩, ⟨14, .u32, .rc, 0, 4294967295, 0, false⟩, ⟨15, .u8, .ro, 0, 255, 0, false⟩,
  ⟨16, .u64, .ro, 0, 18446744073709551615, 0, false⟩, ⟨17, .u32, .rc, 0, 4294967295, 0, false⟩]⟩

/-- Table 07.7. -/
def obj_stk : ObjDef := ⟨0x3001, 4, 9, [
  ⟨1, .enum, .rw, 0, 2, 0, false⟩, ⟨2, .enum, .ro, 0, 255, 0, false⟩, ⟨3, .enum, .wo, 0, 2, 0, false⟩,
  ⟨4, .bool, .ro, 0, 1, 0, false⟩, ⟨5, .i16, .ro, -32768, 32767, 0, false⟩, ⟨6, .i16, .rw, 85, 100, 0, false⟩,
  ⟨7, .bool, .ro, 0, 1, 0, false⟩, ⟨8, .u8, .ro, 0, 255, 0, false⟩, ⟨9, .u32, .rc, 0, 4294967295, 0, false⟩]⟩

/-- Table 07.8. -/
def obj_fs : ObjDef := ⟨0x3002, 1, 6, [
  ⟨1, .u16, .ro, 0, 65535, 0, false⟩, ⟨2, .u16, .ro, 0, 65535, 0, false⟩, ⟨3, .u64, .ro, 0, 18446744073709551615, 0, false⟩,
  ⟨4, .domain, .rw, 0, 0, 256, false⟩, ⟨5, .u32, .rc, 0, 4294967295, 0, false⟩, ⟨6, .u32, .rc, 0, 4294967295, 0, false⟩]⟩

/-- Table 08.9. -/
def obj_mlog : ObjDef := ⟨0x3100, 144, 24, [
  ⟨1, .u16, .w1c, 0, 65535, 0, false⟩, ⟨2, .domain, .ro, 0, 0, 16, true⟩, ⟨3, .domain, .ro, 0, 0, 16, true⟩,
  ⟨4, .domain, .ro, 0, 0, 16, true⟩, ⟨5, .domain, .ro, 0, 0, 16, true⟩, ⟨6, .domain, .ro, 0, 0, 16, true⟩,
  ⟨7, .domain, .ro, 0, 0, 16, true⟩, ⟨8, .domain, .ro, 0, 0, 16, true⟩, ⟨9, .domain, .ro, 0, 0, 16, true⟩,
  ⟨10, .domain, .ro, 0, 0, 16, true⟩, ⟨11, .domain, .ro, 0, 0, 16, true⟩, ⟨12, .domain, .ro, 0, 0, 16, true⟩,
  ⟨13, .domain, .ro, 0, 0, 16, true⟩, ⟨14, .domain, .ro, 0, 0, 16, true⟩, ⟨15, .domain, .ro, 0, 0, 16, true⟩,
  ⟨16, .domain, .ro, 0, 0, 16, true⟩, ⟨17, .domain, .ro, 0, 0, 16, true⟩, ⟨18, .u32, .rc, 0, 4294967295, 0, false⟩,
  ⟨19, .u32, .rc, 0, 4294967295, 0, false⟩, ⟨20, .u32, .ro, 0, 4294967295, 0, false⟩, ⟨21, .u32, .rc, 0, 4294967295, 0, false⟩,
  ⟨22, .u32, .rc, 0, 4294967295, 0, false⟩, ⟨23, .u32, .ro, 0, 4294967295, 0, false⟩, ⟨24, .u32, .ro, 0, 4294967295, 0, false⟩]⟩

/-- Table 08.10. -/
def obj_code : ObjDef := ⟨0x3101, 1, 9, [
  ⟨1, .u32, .ro, 0, 4294967295, 0, false⟩, ⟨2, .u32, .ro, 0, 4294967295, 0, false⟩, ⟨3, .domain, .wo, 0, 0, 16, true⟩,
  ⟨4, .bool, .ro, 0, 1, 0, false⟩, ⟨5, .u64, .wo, 0, 18446744073709551615, 0, false⟩, ⟨6, .u16, .wo, 0, 16383, 0, false⟩,
  ⟨7, .domain, .ro, 0, 0, 524288, false⟩, ⟨8, .u32, .ro, 0, 4294967295, 0, false⟩, ⟨9, .u32, .rc, 0, 4294967295, 0, false⟩]⟩

/-- Table 09.10. -/
def obj_rsys : ObjDef := ⟨0x4000, 1, 8, [
  ⟨1, .u32, .ro, 0, 4294967295, 0, false⟩, ⟨2, .u32, .ro, 0, 4294967295, 0, false⟩, ⟨3, .bool, .ro, 0, 1, 0, false⟩,
  ⟨4, .u32, .rc, 0, 4294967295, 0, false⟩, ⟨5, .u32, .rc, 0, 4294967295, 0, false⟩, ⟨6, .u16, .rw, 4, 1000, 0, false⟩,
  ⟨7, .u16, .rw, 50, 10000, 0, false⟩, ⟨8, .u64, .ro, 0, 18446744073709551615, 0, false⟩]⟩

/-- Table 09.11. -/
def obj_ring : ObjDef := ⟨0x4001, 16, 12, [
  ⟨1, .bool, .ro, 0, 1, 0, false⟩, ⟨2, .enum, .ro, 0, 255, 0, false⟩, ⟨3, .u8, .ro, 0, 255, 0, false⟩,
  ⟨4, .u32, .rc, 0, 4294967295, 0, false⟩, ⟨5, .u32, .rc, 0, 4294967295, 0, false⟩, ⟨6, .u32, .rc, 0, 4294967295, 0, false⟩,
  ⟨7, .u32, .rc, 0, 4294967295, 0, false⟩, ⟨8, .u32, .rc, 0, 4294967295, 0, false⟩, ⟨9, .u32, .rc, 0, 4294967295, 0, false⟩,
  ⟨10, .u16, .rw, 1, 1000, 0, false⟩, ⟨11, .domain, .ro, 0, 0, 96, true⟩,
  ⟨12, .u64, .ro, 0, 18446744073709551615, 0, false⟩]⟩

/-- Table 09.12. -/
def obj_stop : ObjDef := ⟨0x4002, 384, 12, [
  ⟨1, .enum, .ro, 0, 255, 0, false⟩, ⟨2, .u16, .ro, 0, 65535, 0, false⟩, ⟨3, .enum, .ro, 0, 255, 0, false⟩,
  ⟨4, .domain, .ro, 0, 0, 2048, true⟩, ⟨5, .domain, .ro, 0, 0, 2048, true⟩, ⟨6, .domain, .ro, 0, 0, 2048, true⟩,
  ⟨7, .domain, .ro, 0, 0, 2048, true⟩, ⟨8, .u32, .rc, 0, 4294967295, 0, false⟩, ⟨9, .u32, .rc, 0, 4294967295, 0, false⟩,
  ⟨10, .u32, .rc, 0, 4294967295, 0, false⟩, ⟨11, .u32, .rc, 0, 4294967295, 0, false⟩, ⟨12, .u32, .rc, 0, 4294967295, 0, false⟩]⟩

/-- Table 09.13. -/
def obj_xp : ObjDef := ⟨0x4100, 18, 5, [
  ⟨1, .enum, .ro, 0, 255, 0, false⟩, ⟨2, .u16, .ro, 0, 65535, 0, false⟩, ⟨3, .u16, .ro, 0, 65535, 0, false⟩,
  ⟨4, .u32, .rc, 0, 4294967295, 0, false⟩, ⟨5, .u64, .ro, 0, 18446744073709551615, 0, false⟩]⟩

/-- Table 09.14. -/
def obj_rq : ObjDef := ⟨0x4101, 386, 3, [
  ⟨1, .u8, .rw, 0, 7, 0, false⟩, ⟨2, .bool, .rc, 0, 1, 0, false⟩, ⟨3, .u32, .rc, 0, 4294967295, 0, false⟩]⟩

/-- Table 09.15. -/
def obj_arb : ObjDef := ⟨0x4102, 1, 6, [
  ⟨1, .u16, .rw, 1024, 65535, 0, false⟩, ⟨2, .u16, .rw, 1024, 65535, 0, false⟩, ⟨3, .u16, .rw, 1024, 65535, 0, false⟩,
  ⟨4, .u64, .ro, 0, 18446744073709551615, 0, false⟩, ⟨5, .u64, .ro, 0, 18446744073709551615, 0, false⟩,
  ⟨6, .u32, .rc, 0, 4294967295, 0, false⟩]⟩

/-- Table 10.3. -/
def obj_sp : ObjDef := ⟨0x3200, 1, 8, [
  ⟨1, .u32, .ro, 0, 4294967295, 0, false⟩, ⟨2, .u32, .ro, 0, 4294967295, 0, false⟩, ⟨3, .u32, .ro, 0, 4294967295, 0, false⟩,
  ⟨4, .u8, .ro, 0, 255, 0, false⟩, ⟨5, .time80, .ro, 0, 1208925819614629174706175, 0, false⟩,
  ⟨6, .u32, .rc, 0, 4294967295, 0, false⟩, ⟨7, .u32, .rc, 0, 4294967295, 0, false⟩, ⟨8, .u32, .ro, 0, 4294967295, 0, false⟩]⟩

/-- Table 10.4. -/
def obj_spb : ObjDef := ⟨0x3201, 512, 3, [
  ⟨1, .u8, .ro, 0, 255, 0, false⟩, ⟨2, .u8, .ro, 0, 255, 0, false⟩, ⟨3, .domain, .ro, 0, 0, 16, true⟩]⟩

/-- Table 11.7. -/
def obj_fab : ObjDef := ⟨0x7000, 1, 9, [
  ⟨1, .u8, .ro, 0, 255, 0, false⟩, ⟨2, .u32, .ro, 0, 4294967295, 0, false⟩, ⟨3, .u16, .ro, 0, 65535, 0, false⟩,
  ⟨4, .u16, .ro, 0, 65535, 0, false⟩, ⟨5, .u16, .ro, 0, 65535, 0, false⟩, ⟨6, .u32, .rc, 0, 4294967295, 0, false⟩,
  ⟨7, .u32, .rc, 0, 4294967295, 0, false⟩, ⟨8, .u16, .ro, 0, 65535, 0, false⟩, ⟨9, .domain, .ro, 0, 0, 64, true⟩]⟩

/-- Table 11.8. -/
def obj_reg : ObjDef := ⟨0x7010, 96, 7, [
  ⟨1, .enum, .ro, 0, 255, 0, false⟩, ⟨2, .u8, .ro, 0, 255, 0, false⟩, ⟨3, .u16, .ro, 0, 65535, 0, false⟩,
  ⟨4, .u16, .ro, 0, 65535, 0, false⟩, ⟨5, .u16, .ro, 0, 65535, 0, false⟩, ⟨6, .u16, .ro, 0, 65535, 0, false⟩,
  ⟨7, .u8, .ro, 0, 255, 0, false⟩]⟩

/-- Table 11.9. -/
def obj_pll : ObjDef := ⟨0x7011, 48, 5, [
  ⟨1, .bool, .ro, 0, 1, 0, false⟩, ⟨2, .u8, .ro, 0, 255, 0, false⟩, ⟨3, .u32, .ro, 0, 4294967295, 0, false⟩,
  ⟨4, .domain, .ro, 0, 0, 16, true⟩, ⟨5, .u32, .rc, 0, 4294967295, 0, false⟩]⟩

/-- Table 11.10. -/
def obj_gpio : ObjDef := ⟨0x7012, 32, 4, [
  ⟨1, .u16, .ro, 0, 65535, 0, false⟩, ⟨2, .bool, .ro, 0, 1, 0, false⟩, ⟨3, .u8, .ro, 0, 255, 0, false⟩,
  ⟨4, .enum, .ro, 0, 255, 0, false⟩]⟩

/-- Table 11.11. -/
def obj_bm : ObjDef := ⟨0x7020, 10240, 5, [
  ⟨1, .enum, .ro, 0, 255, 0, false⟩, ⟨2, .u32, .rc, 0, 4294967295, 0, false⟩, ⟨3, .u32, .rc, 0, 4294967295, 0, false⟩,
  ⟨4, .bool, .ro, 0, 1, 0, false⟩, ⟨5, .u8, .ro, 0, 255, 0, false⟩]⟩

/-- Table 11.12. -/
def obj_port : ObjDef := ⟨0x7030, 512, 15, [
  ⟨1, .bool, .ro, 0, 1, 0, false⟩, ⟨2, .u16, .ro, 0, 65535, 0, false⟩, ⟨3, .u8, .ro, 0, 255, 0, false⟩,
  ⟨4, .u32, .ro, 0, 4294967295, 0, false⟩, ⟨5, .u32, .ro, 0, 4294967295, 0, false⟩, ⟨6, .u8, .ro, 0, 255, 0, false⟩,
  ⟨7, .u8, .ro, 0, 255, 0, false⟩, ⟨8, .u64, .ro, 0, 18446744073709551615, 0, false⟩,
  ⟨9, .u64, .ro, 0, 18446744073709551615, 0, false⟩, ⟨10, .u32, .rc, 0, 4294967295, 0, false⟩,
  ⟨11, .u32, .rc, 0, 4294967295, 0, false⟩, ⟨12, .u32, .rc, 0, 4294967295, 0, false⟩, ⟨13, .u32, .rc, 0, 4294967295, 0, false⟩,
  ⟨14, .u32, .rc, 0, 4294967295, 0, false⟩, ⟨15, .u8, .ro, 0, 255, 0, false⟩]⟩

/-- Table 12.10. -/
def obj_cfg : ObjDef := ⟨0x7040, 1, 12, [
  ⟨1, .enum, .ro, 0, 255, 0, false⟩, ⟨2, .u64, .ro, 0, 18446744073709551615, 0, false⟩,
  ⟨3, .u64, .rw, 0, 18446744073709551615, 0, false⟩, ⟨4, .enum, .wo, 1, 1, 0, false⟩,
  ⟨5, .domain, .wo, 0, 0, 4294967295, false⟩, ⟨6, .u8, .ro, 0, 255, 0, false⟩, ⟨7, .u8, .ro, 0, 255, 0, false⟩,
  ⟨8, .u32, .ro, 0, 4294967295, 0, false⟩, ⟨9, .u32, .ro, 0, 4294967295, 0, false⟩, ⟨10, .bool, .ro, 0, 1, 0, false⟩,
  ⟨11, .u16, .rw, 100, 10000, 0, false⟩, ⟨12, .enum, .ro, 0, 255, 0, false⟩]⟩

/-- Table 12.11. -/
def obj_swap : ObjDef := ⟨0x7041, 16, 14, [
  ⟨1, .bool, .ro, 0, 1, 0, false⟩, ⟨2, .enum, .ro, 0, 255, 0, false⟩, ⟨3, .u64, .ro, 0, 18446744073709551615, 0, false⟩,
  ⟨4, .u64, .ro, 0, 18446744073709551615, 0, false⟩, ⟨5, .u64, .rw, 0, 18446744073709551615, 0, false⟩,
  ⟨6, .enum, .wo, 1, 5, 0, false⟩, ⟨7, .u8, .rw, 0, 15, 0, false⟩, ⟨8, .u64, .rw, 0, 18446744073709551615, 0, false⟩,
  ⟨9, .bool, .ro, 0, 1, 0, false⟩, ⟨10, .enum, .ro, 0, 255, 0, false⟩, ⟨11, .u32, .ro, 0, 4294967295, 0, false⟩,
  ⟨12, .u64, .ro, 0, 18446744073709551615, 0, false⟩, ⟨13, .bool, .ro, 0, 1, 0, false⟩,
  ⟨14, .u32, .ro, 0, 4294967295, 0, false⟩]⟩

/-- Table 12.12. -/
def obj_rb : ObjDef := ⟨0x7042, 1, 3, [
  ⟨1, .u32, .rw, 0, 229375, 0, false⟩, ⟨2, .domain, .ro, 0, 0, 1024, true⟩, ⟨3, .enum, .ro, 0, 255, 0, false⟩]⟩

/-- Table 12.13. -/
def obj_scr : ObjDef := ⟨0x7100, 1, 9, [
  ⟨1, .u32, .ro, 0, 4294967295, 0, false⟩, ⟨2, .u32, .ro, 0, 4294967295, 0, false⟩, ⟨3, .u32, .rc, 0, 4294967295, 0, false⟩,
  ⟨4, .u32, .rc, 0, 4294967295, 0, false⟩, ⟨5, .u32, .rc, 0, 4294967295, 0, false⟩, ⟨6, .u32, .rc, 0, 4294967295, 0, false⟩,
  ⟨7, .u16, .ro, 0, 65535, 0, false⟩, ⟨8, .domain, .ro, 0, 0, 16, true⟩, ⟨9, .domain, .ro, 0, 0, 128, true⟩]⟩

/-- Table 13.7. -/
def obj_lane : ObjDef := ⟨0x2000, 256, 36, [
  ⟨1, .bool, .ro, 0, 1, 0, false⟩, ⟨2, .enum, .rw, 0, 4, 0, false⟩, ⟨3, .u32, .rw, 0, 4294967295, 0, false⟩,
  ⟨4, .u16, .rw, 1, 1001, 0, false⟩, ⟨5, .enum, .rw, 0, 1, 0, false⟩, ⟨6, .enum, .rw, 0, 1, 0, false⟩,
  ⟨7, .enum, .rw, 0, 2, 0, false⟩, ⟨8, .bool, .rw, 0, 1, 0, false⟩, ⟨9, .bool, .rw, 0, 1, 0, false⟩,
  ⟨10, .bool, .rw, 0, 1, 0, false⟩, ⟨11, .enum, .ro, 0, 255, 0, false⟩, ⟨12, .u32, .ro, 0, 4294967295, 0, false⟩,
  ⟨13, .bool, .ro, 0, 1, 0, false⟩, ⟨14, .bool, .rw, 0, 1, 0, false⟩, ⟨15, .u8, .ro, 0, 255, 0, false⟩,
  ⟨16, .domain, .rw, 0, 0, 4, true⟩, ⟨17, .domain, .ro, 0, 0, 14, true⟩, ⟨18, .domain, .ro, 0, 0, 14, true⟩,
  ⟨19, .u8, .ro, 0, 255, 0, false⟩, ⟨20, .u8, .rw, 0, 255, 0, false⟩, ⟨21, .bool, .ro, 0, 1, 0, false⟩,
  ⟨22, .u32, .rc, 0, 4294967295, 0, false⟩, ⟨23, .u32, .rc, 0, 4294967295, 0, false⟩, ⟨24, .u32, .rc, 0, 4294967295, 0, false⟩,
  ⟨25, .enum, .ro, 0, 255, 0, false⟩, ⟨26, .enum, .rw, 0, 5, 0, false⟩, ⟨27, .enum, .rw, 0, 5, 0, false⟩,
  ⟨28, .bool, .ro, 0, 1, 0, false⟩, ⟨29, .u64, .ro, 0, 18446744073709551615, 0, false⟩,
  ⟨30, .u64, .ro, 0, 18446744073709551615, 0, false⟩, ⟨31, .bool, .wo, 0, 1, 0, false⟩, ⟨32, .enum, .rw, 0, 2, 0, false⟩,
  ⟨33, .domain, .rw, 0, 0, 3, true⟩, ⟨34, .u32, .rc, 0, 4294967295, 0, false⟩, ⟨35, .u32, .rc, 0, 4294967295, 0, false⟩,
  ⟨36, .bool, .wo, 0, 1, 0, false⟩]⟩

/-- Table 13.8. -/
def obj_rp : ObjDef := ⟨0x2001, 16, 3, [
  ⟨1, .bool, .ro, 0, 1, 0, false⟩, ⟨2, .u32, .ro, 0, 4294967295, 0, false⟩, ⟨3, .u32, .rc, 0, 4294967295, 0, false⟩]⟩

/-- Table 13.9. -/
def obj_link : ObjDef := ⟨0x2010, 256, 17, [
  ⟨1, .bool, .rw, 0, 1, 0, false⟩, ⟨2, .u8, .rw, 1, 8, 0, false⟩, ⟨3, .enum, .ro, 0, 255, 0, false⟩,
  ⟨4, .u8, .ro, 0, 255, 0, false⟩, ⟨5, .u8, .ro, 0, 255, 0, false⟩, ⟨6, .u32, .ro, 0, 4294967295, 0, false⟩,
  ⟨7, .u16, .rw, 5, 1000, 0, false⟩, ⟨8, .u8, .ro, 0, 255, 0, false⟩, ⟨9, .u64, .ro, 0, 18446744073709551615, 0, false⟩,
  ⟨10, .u64, .ro, 0, 18446744073709551615, 0, false⟩, ⟨11, .u32, .rc, 0, 4294967295, 0, false⟩,
  ⟨12, .u32, .rc, 0, 4294967295, 0, false⟩, ⟨13, .u32, .rc, 0, 4294967295, 0, false⟩, ⟨14, .u32, .rc, 0, 4294967295, 0, false⟩,
  ⟨15, .u32, .rc, 0, 4294967295, 0, false⟩, ⟨16, .u32, .rc, 0, 4294967295, 0, false⟩, ⟨17, .u32, .rc, 0, 4294967295, 0, false⟩]⟩

/-- Table 14.12. -/
def obj_stw : ObjDef := ⟨0x1100, 1, 11, [
  ⟨1, .u32, .ro, 0, 4294967295, 0, false⟩, ⟨2, .u8, .ro, 0, 255, 0, false⟩, ⟨3, .u32, .ro, 0, 4294967295, 0, false⟩,
  ⟨4, .u64, .ro, 0, 18446744073709551615, 0, false⟩, ⟨5, .u8, .ro, 0, 255, 0, false⟩, ⟨6, .u32, .rw, 0, 4294967295, 0, false⟩,
  ⟨7, .u32, .rc, 0, 4294967295, 0, false⟩, ⟨8, .u64, .ro, 0, 18446744073709551615, 0, false⟩,
  ⟨9, .u32, .rc, 0, 4294967295, 0, false⟩, ⟨10, .u8, .rc, 0, 255, 0, false⟩, ⟨11, .domain, .ro, 0, 0, 4, true⟩]⟩

/-- Table 14.13. -/
def obj_mgmt : ObjDef := ⟨0x1101, 1, 14, [
  ⟨1, .enum, .rw, 0, 1, 0, false⟩, ⟨2, .enum, .ro, 0, 255, 0, false⟩, ⟨3, .u64, .ro, 0, 18446744073709551615, 0, false⟩,
  ⟨4, .u32, .rw, 0, 4294967295, 0, false⟩, ⟨5, .u32, .rw, 0, 4294967295, 0, false⟩, ⟨6, .u32, .rw, 0, 4294967295, 0, false⟩,
  ⟨7, .u16, .rw, 1, 65535, 0, false⟩, ⟨8, .u32, .rw, 0, 4294967295, 0, false⟩, ⟨9, .u32, .rw, 0, 4294967295, 0, false⟩,
  ⟨10, .u16, .rw, 0, 4094, 0, false⟩, ⟨11, .u64, .ro, 0, 18446744073709551615, 0, false⟩,
  ⟨12, .u32, .rc, 0, 4294967295, 0, false⟩, ⟨13, .u32, .rc, 0, 4294967295, 0, false⟩, ⟨14, .u32, .rc, 0, 4294967295, 0, false⟩]⟩

/-- Table 14.14. -/
def obj_ses : ObjDef := ⟨0x1102, 64, 11, [
  ⟨1, .u32, .ro, 0, 4294967295, 0, false⟩, ⟨2, .enum, .ro, 0, 255, 0, false⟩,
  ⟨3, .u64, .ro, 0, 18446744073709551615, 0, false⟩, ⟨4, .u32, .ro, 0, 4294967295, 0, false⟩,
  ⟨5, .u16, .rw, 1, 3600, 0, false⟩, ⟨6, .u32, .ro, 0, 4294967295, 0, false⟩, ⟨7, .u16, .rw, 0, 2046, 0, false⟩,
  ⟨8, .u32, .ro, 0, 4294967295, 0, false⟩, ⟨9, .u32, .rc, 0, 4294967295, 0, false⟩,
  ⟨10, .u64, .ro, 0, 18446744073709551615, 0, false⟩, ⟨11, .enum, .wo, 1, 1, 0, false⟩]⟩

/-- Table 14.15. -/
def obj_spi : ObjDef := ⟨0x1103, 1, 3, [
  ⟨1, .u64, .ro, 0, 18446744073709551615, 0, false⟩, ⟨2, .u32, .rc, 0, 4294967295, 0, false⟩,
  ⟨3, .u32, .rc, 0, 4294967295, 0, false⟩]⟩

/-- Table 14.16. -/
def obj_prof : ObjDef := ⟨0x1200, 1, 10, [
  ⟨1, .u8, .ro, 0, 255, 0, false⟩, ⟨2, .u8, .ro, 0, 255, 0, false⟩, ⟨3, .u8, .rw, 0, 255, 0, false⟩,
  ⟨4, .enum, .wo, 1, 4, 0, false⟩, ⟨5, .u8, .rw, 0, 7, 0, false⟩, ⟨6, .u8, .rw, 0, 15, 0, false⟩,
  ⟨7, .u64, .rw, 0, 18446744073709551615, 0, false⟩, ⟨8, .bool, .ro, 0, 1, 0, false⟩, ⟨9, .u16, .ro, 0, 65535, 0, false⟩,
  ⟨10, .u32, .rc, 0, 4294967295, 0, false⟩]⟩

/-- Table 14.17. -/
def obj_sprof : ObjDef := ⟨0x1201, 8, 7, [
  ⟨1, .bool, .ro, 0, 1, 0, false⟩, ⟨2, .str, .ro, 0, 0, 64, false⟩, ⟨3, .domain, .rw, 0, 0, 262144, false⟩,
  ⟨4, .u32, .ro, 0, 4294967295, 0, false⟩, ⟨5, .u32, .ro, 0, 4294967295, 0, false⟩, ⟨6, .u32, .ro, 0, 4294967295, 0, false⟩,
  ⟨7, .u8, .ro, 0, 255, 0, false⟩]⟩

/-- Table 15.10. -/
def obj_core : ObjDef := ⟨0x8000, 2, 12, [
  ⟨1, .enum, .ro, 0, 255, 0, false⟩, ⟨2, .u32, .ro, 0, 4294967295, 0, false⟩,
  ⟨3, .u64, .ro, 0, 18446744073709551615, 0, false⟩, ⟨4, .u32, .rc, 0, 4294967295, 0, false⟩, ⟨5, .u8, .ro, 0, 255, 0, false⟩,
  ⟨6, .u32, .ro, 0, 4294967295, 0, false⟩, ⟨7, .u32, .rw, 0, 10000000, 0, false⟩, ⟨8, .u32, .rw, 10, 10000000, 0, false⟩,
  ⟨9, .u32, .rw, 0, 4294967295, 0, false⟩, ⟨10, .u32, .rc, 0, 4294967295, 0, false⟩, ⟨11, .u32, .rc, 0, 4294967295, 0, false⟩,
  ⟨12, .u64, .ro, 0, 18446744073709551615, 0, false⟩]⟩

/-- Table 15.11. -/
def obj_wp : ObjDef := ⟨0x8001, 1, 10, [
  ⟨1, .domain, .rw, 0, 0, 16400, false⟩, ⟨2, .enum, .wo, 1, 3, 0, false⟩, ⟨3, .u8, .ro, 0, 255, 0, false⟩,
  ⟨4, .u32, .ro, 0, 4294967295, 0, false⟩, ⟨5, .bool, .rw, 0, 1, 0, false⟩, ⟨6, .u32, .rc, 0, 4294967295, 0, false⟩,
  ⟨7, .u32, .ro, 0, 4294967295, 0, false⟩, ⟨8, .u32, .rc, 0, 4294967295, 0, false⟩, ⟨9, .u32, .rc, 0, 4294967295, 0, false⟩,
  ⟨10, .u32, .rc, 0, 4294967295, 0, false⟩]⟩

/-- Table 15.12. -/
def obj_lu : ObjDef := ⟨0x8100, 1, 5, [
  ⟨1, .u64, .ro, 0, 18446744073709551615, 0, false⟩, ⟨2, .u64, .ro, 0, 18446744073709551615, 0, false⟩,
  ⟨3, .u64, .ro, 0, 18446744073709551615, 0, false⟩, ⟨4, .u32, .rc, 0, 4294967295, 0, false⟩,
  ⟨5, .u32, .rc, 0, 4294967295, 0, false⟩]⟩

/-- Table 15.13. -/
def obj_lock : ObjDef := ⟨0x8101, 64, 9, [
  ⟨1, .u8, .ro, 0, 255, 0, false⟩, ⟨2, .u16, .rs, 0, 65535, 0, false⟩, ⟨3, .bool, .wo, 0, 1, 0, false⟩,
  ⟨4, .bool, .wo, 0, 1, 0, false⟩, ⟨5, .bool, .wo, 0, 1, 0, false⟩, ⟨6, .bool, .ro, 0, 1, 0, false⟩,
  ⟨7, .u32, .rw, 1, 10000000, 0, false⟩, ⟨8, .u32, .ro, 0, 4294967295, 0, false⟩, ⟨9, .u32, .rc, 0, 4294967295, 0, false⟩]⟩

/-- Table 16.6. -/
def obj_pow : ObjDef := ⟨0x8200, 1, 11, [
  ⟨1, .enum, .ro, 0, 255, 0, false⟩, ⟨2, .enum, .wo, 1, 3, 0, false⟩, ⟨3, .u16, .rw, 1, 1000, 0, false⟩,
  ⟨4, .u32, .rw, 0, 31536000, 0, false⟩, ⟨5, .enum, .ro, 0, 255, 0, false⟩, ⟨6, .enum, .ro, 0, 255, 0, false⟩,
  ⟨7, .u32, .ro, 0, 4294967295, 0, false⟩, ⟨8, .u8, .ro, 0, 255, 0, false⟩, ⟨9, .i16, .rw, 40, 100, 0, false⟩,
  ⟨10, .u32, .ro, 0, 4294967295, 0, false⟩, ⟨11, .u32, .rc, 0, 4294967295, 0, false⟩]⟩

/-- Table 16.7. -/
def obj_adc : ObjDef := ⟨0x8201, 40, 6, [
  ⟨1, .enum, .ro, 0, 255, 0, false⟩, ⟨2, .u16, .ro, 0, 65535, 0, false⟩, ⟨3, .i32, .ro, -2147483648, 2147483647, 0, false⟩,
  ⟨4, .i32, .rc, -2147483648, 2147483647, 0, false⟩, ⟨5, .i32, .rc, -2147483648, 2147483647, 0, false⟩,
  ⟨6, .u16, .rw, 0, 1000, 0, false⟩]⟩

/-- Table 16.8. -/
def obj_seq : ObjDef := ⟨0x8202, 1, 3, [
  ⟨1, .domain, .rw, 0, 0, 64, false⟩, ⟨2, .u8, .ro, 0, 255, 0, false⟩, ⟨3, .u32, .rc, 0, 4294967295, 0, false⟩]⟩

/-- Table 16.9. -/
def obj_dom : ObjDef := ⟨0x8203, 107, 6, [
  ⟨1, .enum, .ro, 0, 255, 0, false⟩, ⟨2, .u8, .ro, 0, 255, 0, false⟩, ⟨3, .enum, .ro, 0, 255, 0, false⟩,
  ⟨4, .enum, .wo, 1, 2, 0, false⟩, ⟨5, .u32, .ro, 0, 4294967295, 0, false⟩, ⟨6, .u32, .rc, 0, 4294967295, 0, false⟩]⟩

/-- Table 18.10. -/
def obj_integ : ObjDef := ⟨0x9000, 1, 8, [
  ⟨1, .enum, .ro, 0, 255, 0, false⟩, ⟨2, .u32, .ro, 0, 4294967295, 0, false⟩, ⟨3, .u32, .w1c, 0, 4095, 0, false⟩,
  ⟨4, .u8, .rw, 0, 15, 0, false⟩, ⟨5, .bool, .wo, 0, 1, 0, false⟩, ⟨6, .u8, .ro, 0, 255, 0, false⟩,
  ⟨7, .u32, .rc, 0, 4294967295, 0, false⟩, ⟨8, .u32, .rc, 0, 4294967295, 0, false⟩]⟩

/-- Table 18.11. -/
def obj_log : ObjDef := ⟨0x9001, 1, 10, [
  ⟨1, .u32, .ro, 0, 4294967295, 0, false⟩, ⟨2, .u32, .ro, 0, 4294967295, 0, false⟩, ⟨3, .u32, .rw, 0, 4294967295, 0, false⟩,
  ⟨4, .domain, .ro, 0, 0, 8192, false⟩, ⟨5, .domain, .ro, 0, 0, 8192, false⟩, ⟨6, .u16, .ro, 0, 65535, 0, false⟩,
  ⟨7, .bool, .wo, 0, 1, 0, false⟩, ⟨8, .u32, .rc, 0, 4294967295, 0, false⟩, ⟨9, .u16, .rc, 0, 65535, 0, false⟩,
  ⟨10, .u64, .ro, 0, 18446744073709551615, 0, false⟩]⟩

/-- Table 18.12. -/
def obj_ev : ObjDef := ⟨0x9002, 65536, 2, [
  ⟨1, .u8, .ro, 0, 255, 0, false⟩, ⟨2, .u32, .rc, 0, 4294967295, 0, false⟩]⟩

/-- Table 19.4. -/
def obj_ens : ObjDef := ⟨0x9100, 1, 15, [
  ⟨1, .bool, .rw, 0, 1, 0, false⟩, ⟨2, .u8, .ro, 0, 255, 0, false⟩, ⟨3, .enum, .ro, 0, 255, 0, false⟩,
  ⟨4, .u8, .ro, 0, 255, 0, false⟩, ⟨5, .u8, .ro, 0, 255, 0, false⟩, ⟨6, .u8, .rw, 0, 15, 0, false⟩,
  ⟨7, .domain, .rw, 0, 0, 65536, false⟩, ⟨8, .domain, .ro, 0, 0, 16, true⟩, ⟨9, .u16, .ro, 0, 65535, 0, false⟩,
  ⟨10, .i64, .ro, -9223372036854775808, 9223372036854775807, 0, false⟩, ⟨11, .u8, .ro, 0, 255, 0, false⟩,
  ⟨12, .enum, .wo, 1, 1, 0, false⟩, ⟨13, .u32, .rc, 0, 4294967295, 0, false⟩, ⟨14, .enum, .ro, 0, 255, 0, false⟩,
  ⟨15, .u16, .rw, 1000, 60000, 0, false⟩]⟩

/-- Table 19.5. -/
def obj_mem : ObjDef := ⟨0x9101, 8, 10, [
  ⟨1, .bool, .ro, 0, 1, 0, false⟩, ⟨2, .enum, .ro, 0, 255, 0, false⟩, ⟨3, .u64, .ro, 0, 18446744073709551615, 0, false⟩,
  ⟨4, .u32, .ro, 0, 4294967295, 0, false⟩, ⟨5, .u8, .ro, 0, 255, 0, false⟩, ⟨6, .u8, .ro, 0, 255, 0, false⟩,
  ⟨7, .bool, .ro, 0, 1, 0, false⟩, ⟨8, .i64, .ro, -9223372036854775808, 9223372036854775807, 0, false⟩,
  ⟨9, .u16, .ro, 0, 65535, 0, false⟩, ⟨10, .u32, .rc, 0, 4294967295, 0, false⟩]⟩

/-- Table 19.6. -/
def obj_pf : ObjDef := ⟨0x9102, 262144, 4, [
  ⟨1, .u16, .rw, 0, 65535, 0, false⟩, ⟨2, .u32, .rw, 0, 262143, 0, false⟩, ⟨3, .u32, .rc, 0, 4294967295, 0, false⟩,
  ⟨4, .u64, .ro, 0, 18446744073709551615, 0, false⟩]⟩

/-- Table 20.10. -/
def obj_lc : ObjDef := ⟨0xA000, 1, 7, [
  ⟨1, .enum, .ro, 0, 255, 0, false⟩, ⟨2, .enum, .rw, 0, 4, 0, false⟩, ⟨3, .u32, .wo, 0, 4294967295, 0, false⟩,
  ⟨4, .domain, .wo, 0, 0, 48, true⟩, ⟨5, .domain, .wo, 0, 0, 48, true⟩, ⟨6, .domain, .wo, 0, 0, 32, true⟩,
  ⟨7, .u8, .ro, 0, 255, 0, false⟩]⟩

/-- Table 20.11. -/
def obj_dbg : ObjDef := ⟨0xA001, 1, 9, [
  ⟨1, .enum, .ro, 0, 255, 0, false⟩, ⟨2, .u8, .ro, 0, 255, 0, false⟩, ⟨3, .u32, .ro, 0, 4294967295, 0, false⟩,
  ⟨4, .u32, .ro, 0, 4294967295, 0, false⟩, ⟨5, .u32, .rc, 0, 4294967295, 0, false⟩, ⟨6, .u32, .rc, 0, 4294967295, 0, false⟩,
  ⟨7, .u16, .rw, 10, 3600, 0, false⟩, ⟨8, .enum, .wo, 1, 1, 0, false⟩, ⟨9, .bool, .rw, 0, 1, 0, false⟩]⟩

/-- Table 20.12. -/
def obj_tmp : ObjDef := ⟨0xA002, 1, 3, [
  ⟨1, .u32, .ro, 0, 4294967295, 0, false⟩, ⟨2, .u8, .ro, 0, 255, 0, false⟩,
  ⟨3, .time80, .ro, 0, 1208925819614629174706175, 0, false⟩]⟩

/-- Table 20.13. -/
def obj_pu : ObjDef := ⟨0xA020, 32, 7, [
  ⟨1, .enum, .rw, 0, 3, 0, false⟩, ⟨2, .u8, .rw, 0, 1, 0, false⟩, ⟨3, .u32, .rw, 0, 4294967295, 0, false⟩,
  ⟨4, .u16, .rw, 0, 65535, 0, false⟩, ⟨5, .enum, .rw, 0, 2, 0, false⟩, ⟨6, .enum, .rw, 0, 1, 0, false⟩,
  ⟨7, .u32, .rc, 0, 4294967295, 0, false⟩]⟩

/-- Every object of Table 14.4. -/
def objTable : List ObjDef :=
  [obj_ident, obj_pres, obj_tb, obj_ptp, obj_ref, obj_cad, obj_sched, obj_hdl, obj_slot, obj_node, obj_opr, obj_adm] ++
  [obj_opb, obj_sadm, obj_pcb, obj_eth, obj_flow, obj_sdi, obj_eng, obj_tim, obj_pc, obj_stk, obj_fs, obj_mlog] ++
  [obj_code, obj_rsys, obj_ring, obj_stop, obj_xp, obj_rq, obj_arb, obj_sp, obj_spb, obj_fab, obj_reg, obj_pll] ++
  [obj_gpio, obj_bm, obj_port, obj_cfg, obj_swap, obj_rb, obj_scr, obj_lane, obj_rp, obj_link, obj_stw, obj_mgmt] ++
  [obj_ses, obj_spi, obj_prof, obj_sprof, obj_core, obj_wp, obj_lu, obj_lock, obj_pow, obj_adc, obj_seq, obj_dom] ++
  [obj_integ, obj_log, obj_ev, obj_ens, obj_mem, obj_pf, obj_lc, obj_dbg, obj_tmp, obj_pu]

/-- The defaults of the object tables that are not zero, by `Reg.ref`. A register not listed resets to zero (Default 0, or a
value the tables do not give, log 10). -/
def regDefaults : List (Nat × Nat) := [
  (0x101001, 0xFFFFFFFFFFFFFFFF), (0x101002, 0xFFFFFFFFFFFFFFFF), (0x101003, 0xFFFFFFFFFFFFFFFF),
  (0x101004, 0xFFFFFFFFFFFFFFFF), (0x101005, 0xFFFFFFFFFFFFFFFF), (0x101006, 0xFFFFFFFFFFFFFFFF), (0x101007, 0xFFFFFFFF),
  (0x101008, 0xFFFF), (0x101009, 0xFFFF), (0x10100A, 0xFFFFFFFFFFFFFFFF), (0x10100B, 3), (0x110107, 7201), (0x110205, 60),
  (0x120003, 255), (0x120007, 0xFFFFFFFFFFFFFFFF), (0x120009, 0xFFFF), (0x130007, 100), (0x130008, 60), (0x130009, 250),
  (0x13000C, 37), (0x130107, 48), (0x130202, 127), (0x130307, 1), (0x200001, 1), (0x200004, 1), (0x20000A, 1),
  (0x20000F, 255), (0x200014, 40), (0x201002, 1), (0x201004, 255), (0x201007, 20), (0x210007, 1518), (0x220005, 0xFFFF),
  (0x22000C, 96), (0x22000E, 100), (0x22000F, 10), (0x220011, 2), (0x220015, 1), (0x220016, 1200), (0x220025, 34),
  (0x300002, 1), (0x300003, 255), (0x300106, 95), (0x300108, 7), (0x400006, 8), (0x400007, 100), (0x400101, 1),
  (0x400103, 255), (0x40010A, 16), (0x410201, 20000), (0x410202, 20000), (0x410203, 20000), (0x500004, 9728),
  (0x500208, 0xFFFFFFFFFFFFFFFF), (0x50020B, 0xFFFFFFFFFFFFFFFF), (0x500301, 0xFFFFFFFFFFFFFFFF), (0x510003, 16),
  (0x51000A, 1000), (0x520008, 32745600), (0x520302, 32745600), (0x600001, 1), (0x700001, 96), (0x700002, 204800),
  (0x700003, 10240), (0x700004, 14336), (0x703003, 255), (0x704007, 255), (0x70400B, 1000), (0x704101, 1),
  (0x704108, 0xFFFFFFFFFFFFFFFF), (0x70410C, 0xFFFFFFFFFFFFFFFF), (0x800008, 1000000), (0x800009, 100), (0x810107, 1000),
  (0x820003, 10), (0x820008, 255), (0x820009, 85), (0x820202, 40), (0x900004, 12), (0x910004, 255), (0x91000E, 255),
  (0x91000F, 10000), (0x910102, 4), (0x910105, 255), (0x910109, 0xFFFF), (0x910201, 0xFFFF), (0xA00107, 600),
  (0xA00202, 255), (0xA02002, 1), (0xA02004, 0xFFFF), (0xA02005, 2)]

/-- The default of a register (Table rows' Default column; 0 where none is listed).
[DESIGN CHOICE, log 10: unsafe, DEDUCED, log 113: unsafe] -/
def regDefault (ref : Nat) : Nat :=
  (regDefaults.find? fun p => p.1 == ref).elim 0 Prod.snd

end Sys2Proof.Machine
end

