-- ==== Sys2Proof/Machine/Package.lean ====
section
/-! DEFINITION. The package (chapter 21): what every ball of the FB6080 carries (R555 to R559), the rails with their order, limits and loads
(R561, R562, Tables 21.3 to 21.5), what a valid reference, lane and sync level is, and the thermal bound (R565 to R569).
[DESIGN CHOICE, log 194: unsafe] -/

namespace Sys2Proof.Machine

/-! ### Rails -/

/-- The supplies of Table 21.3. -/
inductive Rail where
  | vcore | vsram | vlaneA | vlaneT | vstackC | vstackQ | vio (b : Nat) | vaux | vnv | vtwi
  deriving DecidableEq, Repr

/-- Nominal voltage in mV (Table 21.3); a bank's VIO is one of the three its image selects. -/
def Rail.nominal (vioMv : Nat) : Rail → Nat
  | .vcore | .vtwi => 750
  | .vsram | .vlaneA => 800
  | .vlaneT | .vstackC => 1100
  | .vstackQ => 400
  | .vio _ => vioMv
  | .vaux | .vnv => 1800

/-- Maximum current in mA (Table 21.3, R561). -/
def Rail.maxCurrent : Rail → Nat
  | .vcore => 320000
  | .vsram => 4000
  | .vlaneA => 83000
  | .vlaneT => 28000
  | .vstackC => 50800
  | .vstackQ => 140000
  | .vio _ => 70
  | .vaux => 1400
  | .vnv => 500
  | .vtwi => 400

/-- Balls of a rail (Table 21.3). -/
def Rail.balls : Rail → Nat
  | .vcore => 1152
  | .vsram => 128
  | .vlaneA => 192
  | .vlaneT => 64
  | .vstackC | .vstackQ => 256
  | .vio _ => 4
  | .vaux => 24
  | .vnv => 8
  | .vtwi => 6

/-- The group of a rail in the power-up order (R562). -/
def Rail.group : Rail → Nat
  | .vtwi => 1
  | .vnv | .vaux => 2
  | .vcore | .vsram => 3
  | .vlaneA | .vstackC => 4
  | .vlaneT | .vstackQ => 5
  | .vio _ => 6

/-- The recommended span in tenths of a millivolt (Table 21.4): 5 % about nominal for VIO, VAUX and VNV, else 3 %. -/
def Rail.recommended (vioMv : Nat) (r : Rail) : Nat × Nat :=
  let n := r.nominal vioMv
  let d := match r with
    | .vio _ | .vaux | .vnv => n * 10 * 5 / 100
    | _ => n * 10 * 3 / 100
  (n * 10 - d, n * 10 + d)

/-- A rail is in range when its voltage, in tenths of a millivolt, lies in its recommended span. -/
def Rail.inRange (vioMv : Nat) (r : Rail) (v : Nat) : Bool :=
  decide ((r.recommended vioMv).1 ≤ v) && decide (v ≤ (r.recommended vioMv).2)

/-- The rail that an ADC channel samples (Table 16.4); a VIO channel that of the highest bank of its half. -/
def Rail.ofChannel (c : Nat) : Option Rail :=
  match c with
  | 24 | 25 => some .vcore
  | 26 => some .vsram
  | 27 => some .vlaneA
  | 28 => some .vlaneT
  | 29 => some .vstackC
  | 30 => some .vstackQ
  | 31 => some (.vio 15)
  | 32 => some (.vio 31)
  | 33 => some .vaux
  | 34 => some .vnv
  | 35 => some .vtwi
  | _ => none

/-- The absolute maximum in mV (Table 21.5). -/
def Rail.absoluteMax : Rail → Nat
  | .vcore | .vtwi => 900
  | .vsram | .vlaneA => 950
  | .vlaneT | .vstackC => 1300
  | .vstackQ => 550
  | .vio _ | .vaux | .vnv => 2100

/-- A power-up order of the rails, each with the times (in ns) at which it begins to rise, passes 10 %, and reaches 90 %, keeps R562: every
group reaches 90 % before the next begins to rise, and every ramp takes 0.2 ms to 20 ms. -/
def powerUpOk (l : List (Rail × Nat × Nat × Nat)) : Bool :=
  l.all (fun x => decide (x.2.2.1 + 200000 ≤ x.2.2.2) && decide (x.2.2.2 ≤ x.2.2.1 + 20000000)) &&
    l.all fun x => l.all fun y => decide (y.1.group ≤ x.1.group) || decide (x.2.2.2 ≤ y.2.1)

/-! ### The ball grid (R555) -/

/-- The letters of a column name: A to Y without I, O, Q, R, S and X. -/
def ballLetters : List Char := "ABCDEFGHJKLMNPTUVWY".toList

/-- The name of column `c`. -/
def columnName (c : Nat) : List Char := [ballLetters.getD (c / 19) 'A', ballLetters.getD (c % 19) 'A']

/-- A position carries a ball unless it lies in one of the four corner fields (R555). -/
def hasBall (c r : Nat) : Bool :=
  decide (c < 80) && decide (1 ≤ r) && decide (r ≤ 80) &&
    !((decide (c < 8) || decide (72 ≤ c)) && (decide (r ≤ 10) || decide (71 ≤ r)))

/-! ### What a ball carries (R556 to R559) -/

/-- The dedicated signals of Table 21.2. -/
inductive PinName where
  | refclk (n : Bool) (j : Nat) | xspiDq (i : Nat) | xspiCk | xspiCsN | xspiDqs | xspiResetN | spiSck | spiCsN | spiMosi | spiMiso
  | tck | tms | tdi | tdo | trstN | profile (i : Nat) | ensId (i : Nat) | resetN | tamperN | wake | evtN (i : Nat)
  | mgmtTx (n : Bool) | mgmtRx (n : Bool) | mgmtRefclk (n : Bool) | refIn | refInRtn | ain (i : Nat) | ainRtn | twiXi | twiXo
  deriving DecidableEq, Repr

/-- What a ball carries: a lane's signal (0 TX_P, 1 TX_N, 2 RX_P, 3 RX_N), a GPIO, a supply, ground, or a dedicated signal. -/
inductive Ball where
  | lane (l sig : Nat)
  | gpio (n : Nat)
  | supply (r : Rail)
  | vss
  | pin (p : PinName)
  deriving DecidableEq, Repr

/-- Column and row of a lane's signal (R556). -/
def laneBall (l sig : Nat) : Nat × Nat :=
  if l < 128 then (8 + l / 2, 1 + sig + l % 2 * 4) else (8 + (l - 128) / 2, 80 - sig - l % 2 * 4)

/-- The lane signal at a position of the lane field. -/
def laneAt (c r : Nat) : Ball :=
  if r ≤ 8 then .lane (2 * (c - 8) + (r - 1) / 4) ((r - 1) % 4) else .lane (128 + 2 * (c - 8) + (80 - r) / 4) ((80 - r) % 4)

/-- What a position of the GPIO field carries (R557): bank `b` in three rows, pins 0 to 7, VIO and VSS, pins 8 to 15. -/
def gpioAt (west : Bool) (o r : Nat) : Ball :=
  let k := (r - 17) / 3
  let b := k / 2 * 4 + k % 2 + (if west then 0 else 2)
  match (r - 17) % 3 with
  | 0 => .gpio (16 * b + o)
  | 1 => if o % 2 = 0 then .supply (.vio b) else .vss
  | _ => .gpio (16 * b + 8 + o)

/-- A row of Table 21.2: `k` balls of one supply, then VSS. -/
def supplyRow (r : Rail) (k o : Nat) : Ball := if o < k then .supply r else .vss

/-- Four reference pairs from pair `j` on. -/
def refclkRow (j o : Nat) : Ball := .pin (.refclk (o % 2 == 1) (j + o / 2))

/-- The west dedicated blocks (Table 21.2) at offset `o` of row `r`. -/
def westAt (r o : Nat) : Ball :=
  match r with
  | 11 => refclkRow 0 o
  | 70 => refclkRow 8 o
  | 13 => .pin (.xspiDq o)
  | 14 => ([.pin .xspiCk, .pin .xspiCsN, .pin .xspiDqs, .pin .xspiResetN, .supply .vaux, .supply .vaux] : List Ball).getD o .vss
  | 15 => ([.pin .spiSck, .pin .spiCsN, .pin .spiMosi, .pin .spiMiso, .supply .vaux, .supply .vaux] : List Ball).getD o .vss
  | 16 => supplyRow .vaux 4 o
  | 65 => ([.pin .tck, .pin .tms, .pin .tdi, .pin .tdo, .pin .trstN, .supply .vaux, .supply .vaux] : List Ball).getD o .vss
  | 66 => if o < 3 then .pin (.profile o) else if o < 6 then .pin (.ensId (o - 3)) else if o = 6 then .supply .vaux else .vss
  | 67 => ([.pin .resetN, .pin .tamperN, .pin .wake, .pin (.evtN 0), .pin (.evtN 1), .supply .vaux] : List Ball).getD o .vss
  | 68 => supplyRow .vaux 4 o
  | _ => .vss

/-- The east dedicated blocks. -/
def eastAt (r o : Nat) : Ball :=
  match r with
  | 11 => refclkRow 4 o
  | 70 => refclkRow 12 o
  | 13 => ([.pin (.mgmtTx false), .pin (.mgmtTx true), .pin (.mgmtRx false), .pin (.mgmtRx true), .pin (.mgmtRefclk false),
      .pin (.mgmtRefclk true)] : List Ball).getD o .vss
  | 14 => ([.pin .refIn, .pin .refInRtn, .vss, .vss] : List Ball).getD o (.supply .vaux)
  | 15 | 16 => supplyRow .vnv 4 o
  | 65 => ([.pin (.ain 0), .pin (.ain 1), .pin (.ain 2), .pin .ainRtn, .pin .twiXi, .pin .twiXo] : List Ball).getD o .vss
  | 66 => supplyRow .vtwi 6 o
  | 67 => supplyRow .vaux 4 o
  | _ => .vss

/-- A position lies in a stack block of the central field (R558). -/
def inStackBlock (c r : Nat) : Bool :=
  ((decide (8 ≤ c) && decide (c ≤ 23)) || (decide (56 ≤ c) && decide (c ≤ 71))) &&
    ((decide (13 ≤ r) && decide (r ≤ 28)) || (decide (53 ≤ r) && decide (r ≤ 68)))

/-- The supplies of the central field (R558). -/
def centreAt (c r : Nat) : Ball :=
  if (c + r) % 2 = 0 then .vss
  else if r = 9 ∨ r = 72 then .supply .vlaneT
  else if r ≤ 12 ∨ 69 ≤ r then .supply .vlaneA
  else if inStackBlock c r then .supply (if c % 2 = 0 then .vstackC else .vstackQ)
  else if 39 ≤ r ∧ r ≤ 42 then .supply .vsram
  else .supply .vcore

/-- What the ball at column `c` and row `r` carries; none where the grid has no ball. -/
def ballAt (c r : Nat) : Option Ball :=
  if !hasBall c r then none
  else some <|
    if 8 ≤ c ∧ c ≤ 71 then (if r ≤ 8 ∨ 73 ≤ r then laneAt c r else centreAt c r)
    else
      let west := decide (c < 8)
      let o := if west then c else c - 72
      if 17 ≤ r ∧ r ≤ 64 then gpioAt west o r else if west then westAt r o else eastAt r o

/-- What boundary scan covers (R539): the GPIO, SPI and xSPI pins and the dedicated control pins, in an order of the model's.
[DESIGN CHOICE, log 287: safe] -/
def scanPins : List Ball :=
  (List.range 512).map Ball.gpio ++ (([.spiSck, .spiCsN, .spiMosi, .spiMiso] ++ (List.range 8).map PinName.xspiDq ++
    [.xspiCk, .xspiCsN, .xspiDqs, .xspiResetN, .resetN, .tamperN, .wake] ++ (List.range 2).map PinName.evtN ++
    (List.range 3).map PinName.profile ++ (List.range 3).map PinName.ensId : List PinName).map Ball.pin)

/-- The GPIO banks that support LVDS (R330). -/
def lvdsBank (b : Nat) : Bool := decide (b < 4) || (decide (28 ≤ b) && decide (b < 32))

/-- The LVDS pair that pin `GPIO[n]` belongs to, and whether it is its P (R557): pair `m` of bank `b` is pins `2m` and `2m + 1`, as number
`8b + m`. -/
def lvdsPair (n : Nat) : Option (Nat × Bool) := if lvdsBank (n / 16) then some (n / 2, n % 2 == 0) else none

/-! ### Levels and the thermal bound (R565 to R569) -/

/-- The die's rise above the lid and a stack's, in thousandths of a degree, at most (R565): total power and the stack's power in W. -/
def dieRise (total : Nat) : Nat := 35 * total
def stackRise (stack total : Nat) : Nat := 250 * stack + 20 * total

/-- The highest lid temperature, in thousandths of a degree, that holds the die sensors at 100 °C and a stack below `throttle` °C. -/
def lidLimit (total stack throttle : Nat) : Nat := min (100000 - dieRise total) (throttle * 1000 - stackRise stack total)

/-- Whether a reference pair's signal is one that R566 accepts: kHz, differential mV peak-to-peak, ppm of stability, jitter in fs RMS. -/
def refclkOk (pam4 : Bool) (khz mv ppm jitter : Nat) : Bool :=
  decide (100000 ≤ khz) && decide (khz ≤ 400000) && decide (200 ≤ mv) && decide (mv ≤ 1200) && decide (ppm ≤ 100) &&
    decide (jitter ≤ if pam4 then 150 else 300)

/-- Whether a received lane signal is present, from whether it was and its differential amplitude in mV (R567). -/
def signalPresent (before : Bool) (mv : Nat) : Bool := if before then decide (50 ≤ mv) else decide (85 < mv)

/-- Whether a sync at REF_IN, its amplitude and DC offset in mV, lies where the device accepts it, and whether PRESENT must stay 0 (R568). -/
def syncAccepted (mv : Nat) (offset : Int) : Bool :=
  decide (150 ≤ mv) && decide (mv ≤ 600) && decide (-1000 ≤ offset) && decide (offset ≤ 1000)
def syncAbsent (mv : Nat) : Bool := decide (mv < 100)

end Sys2Proof.Machine
end

