-- ==== Sys2Proof/Machine/FabricLogic.lean ====
section
/-! DEFINITION. What the designer's logic is made of (chapter 11): logic elements (R319), clusters with their carry chains (R320), arithmetic
slices (R325, R326) and the registers of the pins (R330), as an image configures them and as an edge of their clocks changes them. -/

namespace Sys2Proof.Machine

/-! ### Logic elements (R319) -/

/-- What a flip-flop takes. -/
inductive FfSource where
  | o6 | o5 | sum | direct
  deriving DecidableEq, Repr, Inhabited

/-- A flip-flop: its source, which of its cluster's two clock enables and set/resets it uses, whether that sets or resets it, and its INIT bit. -/
structure FfConfig where
  source : FfSource
  enable : Fin 2
  setReset : Fin 2
  sets : Bool
  init : Bool
  deriving DecidableEq, Repr, Inhabited

/-- A logic element: INIT, the split mode, and its two flip-flops. -/
structure ElementConfig where
  table : BitVec 64
  split : Bool
  ff0 : FfConfig
  ff1 : FfConfig
  deriving DecidableEq, Repr, Inhabited

/-- The inputs of an element: A1 (bit 0) to A6 (bit 5), and the direct inputs of its flip-flops. -/
structure ElementIn where
  a : BitVec 6
  direct0 : Bool
  direct1 : Bool
  deriving DecidableEq, Repr, Inhabited

/-- Output O6: INIT[A], and in split mode, where A6 is held at 1, the function of INIT[63:32]. -/
def ElementConfig.o6 (c : ElementConfig) (i : ElementIn) : Bool :=
  c.table.getLsbD (if c.split then 32 + i.a.toNat % 32 else i.a.toNat)

/-- Output O5: in split mode the function of INIT[31:0]; the rule gives it no value in 6-input mode.
[DESIGN CHOICE, log 227: safe] -/
def ElementConfig.o5 (c : ElementConfig) (i : ElementIn) : Bool :=
  if c.split then c.table.getLsbD (i.a.toNat % 32) else Config.elementO5 c.table i.a

/-- The carry stage: it propagates on O6 and generates from O5. -/
def ElementConfig.carry (c : ElementConfig) (i : ElementIn) (carryIn : Bool) : Bool := if c.o6 i then carryIn else c.o5 i

/-- The carry sum. -/
def ElementConfig.sum (c : ElementConfig) (i : ElementIn) (carryIn : Bool) : Bool := c.o6 i ^^ carryIn

/-- What a flip-flop of an element takes. -/
def ElementConfig.data (c : ElementConfig) (i : ElementIn) (carryIn : Bool) (f : FfConfig) (direct : Bool) : Bool :=
  match f.source with
  | .o6 => c.o6 i
  | .o5 => c.o5 i
  | .sum => c.sum i carryIn
  | .direct => direct

/-! ### Clusters (R320) -/

/-- A cluster: its sixteen elements, and whether its set/reset is asynchronous. -/
structure ClusterConfig where
  elements : Vector ElementConfig 16
  async : Bool
  deriving DecidableEq, Repr, Inhabited

/-- What a cluster shares and receives: two clock enables, two set/resets, and the inputs of its elements. Its one clock is the edge itself. -/
structure ClusterIn where
  enables : BitVec 2
  setResets : BitVec 2
  elements : Vector ElementIn 16
  deriving DecidableEq, Repr, Inhabited

/-- The flip-flops of a cluster, two to an element. -/
abbrev ClusterState := Vector (Bool × Bool) 16

/-- The flip-flops after configuration: their INIT bits. -/
def ClusterConfig.configured (c : ClusterConfig) : ClusterState := c.elements.map fun e => (e.ff0.init, e.ff1.init)

/-- The carry into element `k` of a cluster; after the sixteenth, the carry that leaves it. -/
def ClusterConfig.carryAt (c : ClusterConfig) (i : ClusterIn) (carryIn : Bool) (k : Nat) : Bool :=
  ((c.elements.toList.zip i.elements.toList).take k).foldl (fun x p => p.1.carry p.2 x) carryIn

/-- A flip-flop at an edge of its cluster's clock; set/reset goes before the clock enable.
[DESIGN CHOICE, log 226: unsafe] -/
def FfConfig.edge (f : FfConfig) (i : ClusterIn) (data q : Bool) : Bool :=
  if i.setResets.getLsbD f.setReset then f.sets else if i.enables.getLsbD f.enable then data else q

/-- A flip-flop between edges: an asynchronous set/reset acts at once. -/
def FfConfig.level (f : FfConfig) (async : Bool) (i : ClusterIn) (q : Bool) : Bool := if async && i.setResets.getLsbD f.setReset then f.sets else q

/-- A cluster at an edge of its clock. -/
def ClusterConfig.edge (c : ClusterConfig) (i : ClusterIn) (carryIn : Bool) (s : ClusterState) : ClusterState :=
  Vector.ofFn fun k =>
    let e := c.elements[k]
    let x := i.elements[k]
    let carry := c.carryAt i carryIn k
    (e.ff0.edge i (e.data x carry e.ff0 x.direct0) s[k].1, e.ff1.edge i (e.data x carry e.ff1 x.direct1) s[k].2)

/-- A cluster between edges of its clock. -/
def ClusterConfig.level (c : ClusterConfig) (i : ClusterIn) (s : ClusterState) : ClusterState :=
  Vector.ofFn fun k => (c.elements[k].ff0.level c.async i s[k].1, c.elements[k].ff1.level c.async i s[k].2)

/-! ### Arithmetic slices (R325, R326) -/

/-- The operand A' of a slice (R325): A, A + D or A − D, modulo 2^24. -/
inductive PreAdd where
  | a | aPlusD | aMinusD
  deriving DecidableEq, Repr, Inhabited

def PreAdd.apply (m : PreAdd) (a d : BitVec 24) : BitVec 24 :=
  match m with
  | .a => a
  | .aPlusD => a + d
  | .aMinusD => a - d

/-- Z of a slice (R325): 0, C, P (accumulate), or the P cascade of the slice below. -/
inductive ZSource where
  | zero | c | p | cascade
  deriving DecidableEq, Repr, Inhabited

/-- A slice as the image configures it: video mode, the sign of the product, A', Z, and which of the registers on A, B, D, the product and P are
used. -/
structure SliceConfig where
  video : Bool
  neg : Bool
  preAdd : PreAdd
  z : ZSource
  regA : Bool
  regB : Bool
  regD : Bool
  regM : Bool
  regP : Bool
  deriving DecidableEq, Repr, Inhabited

/-- The inputs of a slice. -/
structure SliceIn where
  a : BitVec 24
  b : BitVec 20
  c : BitVec 64
  d : BitVec 24
  deriving DecidableEq, Repr, Inhabited

/-- The registers of a slice: A, B, D, the product (44 bits, in video mode two of 22) and P.
[DESIGN CHOICE, log 265: unsafe] -/
structure SliceRegs where
  a : BitVec 24 := 0
  b : BitVec 20 := 0
  d : BitVec 24 := 0
  m : BitVec 44 := 0
  p : BitVec 64 := 0
  deriving DecidableEq, Repr

/-- P of a slice in normal mode (R325): Z plus or minus the exact signed product, modulo 2^64.
[DESIGN CHOICE, log 90: unsafe] -/
def sliceNormal (neg : Bool) (product : BitVec 44) (z : BitVec 64) : BitVec 64 :=
  if neg then z - product.signExtend 64 else z + product.signExtend 64

/-- P of a slice in video mode (R326): the lane of Z plus the signed product of its half, modulo 2^32, with no carry between the lanes.
[DESIGN CHOICE, log 90: unsafe] -/
def sliceVideo (product : BitVec 44) (z : BitVec 64) : BitVec 64 :=
  (z.extractLsb' 32 32 + (product.extractLsb' 22 22).signExtend 32) ++ (z.extractLsb' 0 32 + (product.extractLsb' 0 22).signExtend 32)

/-- The product of a slice: A' × B, or in video mode, without the pre-adder, that of each half. -/
def SliceConfig.product (x : SliceConfig) (r : SliceRegs) (i : SliceIn) : BitVec 44 :=
  let a := if x.regA then r.a else i.a
  let b := if x.regB then r.b else i.b
  let d := if x.regD then r.d else i.d
  if x.video then
    ((a.extractLsb' 12 12).signExtend 22 * (b.extractLsb' 10 10).signExtend 22) ++ ((a.extractLsb' 0 12).signExtend 22 * (b.extractLsb' 0 10).signExtend 22)
  else (x.preAdd.apply a d).signExtend 44 * b.signExtend 44

/-- The sum of a slice, given the P cascade of the slice below. -/
def SliceConfig.sum (x : SliceConfig) (r : SliceRegs) (i : SliceIn) (cascade : BitVec 64) : BitVec 64 :=
  let m := if x.regM then r.m else x.product r i
  let z := match x.z with
    | .zero => 0
    | .c => i.c
    | .p => r.p
    | .cascade => cascade
  if x.video then sliceVideo m z else sliceNormal x.neg m z

/-- Output P: its register where the image uses it, else the sum. -/
def SliceConfig.out (x : SliceConfig) (r : SliceRegs) (i : SliceIn) (cascade : BitVec 64) : BitVec 64 := if x.regP then r.p else x.sum r i cascade

/-- A slice at an edge of its clock. -/
def SliceConfig.edge (x : SliceConfig) (r : SliceRegs) (i : SliceIn) (cascade : BitVec 64) : SliceRegs :=
  { a := i.a, b := i.b, d := i.d, m := x.product r i, p := x.sum r i cascade }

/-! ### Pins (R330) -/

/-- The registers of a pin: input and output, and their second halves where a pair runs with DDR registers.
[DESIGN CHOICE, log 265: unsafe] -/
structure PinRegs where
  input : Bool := false
  output : Bool := false
  input2 : Bool := false
  output2 : Bool := false
  deriving DecidableEq, Repr

/-- What an image makes of a pin: its drive strength by number. -/
structure PinConfig where
  drive : Fin 4
  deriving DecidableEq, Repr, Inhabited

/-- What an image makes of a pair: LVDS, DDR registers, and the on-die input termination. -/
structure PairConfig where
  lvds : Bool
  ddr : Bool
  termination : Bool
  deriving DecidableEq, Repr, Inhabited

/-- Drive strengths in mA. -/
def PinConfig.driveMa (x : PinConfig) : Nat := match x.drive with | 0 => 2 | 1 => 4 | 2 => 8 | 3 => 12

end Sys2Proof.Machine

namespace Sys2Proof.Config

open Sys2Proof.Machine

/-- What the frames of an image make of a cluster, a slice, a pin and a pair of pins, and which clock (0 to 31 global, 32 to 55 of the region) a cluster, a slice
and a pin run on, by IMAGE_ID and number (the manual gives the frames no layout).
[DESIGN CHOICE, log 89: safe] -/
opaque cluster : Nat → Nat → ClusterConfig
/-- [DESIGN CHOICE, log 89: safe] -/
opaque slice : Nat → Nat → SliceConfig
/-- [DESIGN CHOICE, log 89: safe] -/
opaque pin : Nat → Nat → PinConfig
/-- [DESIGN CHOICE, log 89: safe] -/
opaque pair : Nat → Nat → PairConfig
/-- [DESIGN CHOICE, log 89: safe] -/
opaque clusterClock : Nat → Nat → Nat
/-- [DESIGN CHOICE, log 89: safe] -/
opaque sliceClock : Nat → Nat → Nat
/-- [DESIGN CHOICE, log 89: safe] -/
opaque pinClock : Nat → Nat → Nat

/-- What the routing brings to a cluster, a slice and a pin at a clock edge, by the number of a free value; and the carry that enters a chain.
[DESIGN CHOICE, log 90: unsafe] -/
opaque clusterIn : Nat → Nat → ClusterIn
/-- [DESIGN CHOICE, log 90: unsafe] -/
opaque sliceIn : Nat → Nat → SliceIn
/-- [DESIGN CHOICE, log 90: unsafe] -/
opaque pinIn : Nat → Nat → Nat
/-- [DESIGN CHOICE, log 90: unsafe] -/
opaque carryStart : Nat → Nat → Bool
/-- [DESIGN CHOICE, log 90: unsafe] -/
opaque cascadeStart : Nat → Nat → BitVec 64

/-- The cluster below a cluster in its column, and the slice below a slice, by number (the manual gives the columns no numbering).
[DESIGN CHOICE, log 255: safe] -/
opaque clusterBelow : Nat → Nat
/-- [DESIGN CHOICE, log 255: safe] -/
opaque sliceBelow : Nat → Nat

end Sys2Proof.Config
end

