-- ==== Sys2Proof/Machine/State.lean ====
section
/-! DEFINITION. The state of the block: everything the manual gives the KN2564, as plain data, and its value right after reset.
The registers of the object dictionary live in the sparse register file `regs` (their defaults are in Machine/Regs.lean), byte
string objects in `doms`; what the manual describes beside the dictionary (queues, buffers, tables, engines) has fields of its
own, grouped by chapter. Every structure's field defaults are its values at reset. -/

namespace Sys2Proof.Machine

/-- Why a command stops the model. -/
inductive Fault where
  /-- A hardware event names a unit number that the part does not have (R2, Table 14.4): raised by the meanings of hardware
  events. Safe: the hardware has no such event. -/
  | noSuchUnit
  deriving DecidableEq, Repr

/-- Why the model gives a command no effect. -/
inductive Refusal where
  /-- The command has no meaning in this model yet: answered by the arms of `exec` only. Safe: the model stops. -/
  | notModelled (mnemonic : String)
  deriving DecidableEq, Repr

/-- The answer to the last dictionary operation, service record or read handshake: whether there was one, its status
(Table 14.8) and the value it returned.
[DEDUCED, log 134: unsafe] -/
structure Reply where
  answered : Bool := false
  status : Nat := 0
  value : List Byte := []
  deriving DecidableEq, Repr

/-- One record of the event log (Table 18.8). -/
structure EvRec where
  seq : Nat
  time : Nat
  code : Nat
  data : Nat
  cls : Nat
  ctx : Nat
  reps : Nat
  extra : Nat
  deriving DecidableEq, Repr

/-- The event log (R510 to R512): queue, MRAM ring and pinned area (each oldest first), the next record number, the times of the
writes of the last second, the drop interval, and the state behind EVT_N[0].
[DEDUCED, log 17: unsafe] -/
structure LogState where
  queue : List EvRec := []
  ring : List EvRec := []
  pinned : List EvRec := []
  nextSeq : Nat := 1
  writes : List Nat := []
  dropStart : Option Nat := none
  dropCount : Nat := 0
  sinceHead : Bool := false
  evt0 : Bool := false
  deriving DecidableEq, Repr

/-- What a commit set may hold (R54, R56). -/
inductive Member where
  | epoch (g : Nat) (add : Bool)
  | exchange (n : Nat)
  | graphStart (g : Nat)
  | graphStop (g : Nat)
  | graphSwitch (g next : Nat)
  | profile (p : Nat)
  deriving DecidableEq, Repr

/-- A commit set (R54): its cadence, target frame, moves so far and members, and whether its commit lead found it ready. -/
structure CommitSet where
  cad : Nat
  target : Nat
  moves : Nat
  ready : Bool
  members : List Member
  deriving DecidableEq, Repr

/-- What the timebase knows of PTP on a port (R44): the island time of its last valid Sync (of its first Announce before one), the Sync
interval in ns, and the island time at which the port's link went down. -/
structure PtpPort where
  heard : Option Nat := none
  interval : Nat := 1000000000
  downAt : Nat := 0
  deriving DecidableEq, Repr

/-- The timebase beyond its objects (chapter 02): the offset still being slewed away and the millionths of a ns already corrected of it, the
lock counters of Table 02.3 for PTP and REF_IN, which sources are usable, the sources that were lost as the active one and have
not been active since (R38), the island time at which HOLDOVER began, the Announce data of the masters heard by port, what is known of PTP by
port, the island time of the last reference frame start and the line period of REF_IN in ns, from what time each cadence makes marks,
the last scheduler tick, and the armed commit sets. -/
structure Timebase where
  slew : Int := 0
  slewRest : Nat := 0
  ptpGood : Nat := 0
  ptpBad : Nat := 0
  refGood : Nat := 0
  refBad : Nat := 0
  ptpUsable : Bool := false
  refUsable : Bool := false
  lost : List Nat := []
  holdStart : Nat := 0
  masters : List (Nat × Announce) := []
  ptp : List (Nat × PtpPort) := []
  refEdge : Nat := 0
  refLine : Nat := 0
  cadFrom : List Nat := List.replicate 16 0
  lastTick : Nat := 0
  sets : List CommitSet := []
  deriving DecidableEq, Repr

/-- Where the device is in its life (chapters 16 and 17). -/
inductive Phase where
  /-- Daybreak is running. -/
  | daybreak
  /-- ACTIVE or one of the power states of 0x8200.1. -/
  | run
  | held
  | dark
  | night
  deriving DecidableEq, Repr

/-- A buffer record of a graph image (Table 03.2). -/
structure BufferRec where
  handle : Nat
  depth : Nat
  kind : Nat
  live : Bool
  producers : Nat
  external : Bool
  width : Nat
  height : Nat
  format : Nat
  size : Nat
  pitch : Nat
  black : Nat
  deriving DecidableEq, Repr, Inhabited

/-- A node record (Table 03.3). Kinds: 0 OP, 1 SOURCE, 2 SINK. -/
structure NodeRec where
  index : Nat
  kind : Nat
  opclass : Nat
  operator : Nat
  flow : Nat
  deadline : Nat
  notBefore : Nat
  maxRun : Nat
  policy : Nat
  fallback : Nat
  edgeFirst : Nat
  inCount : Nat
  outCount : Nat
  paramOfs : Nat
  paramLen : Nat
  deriving DecidableEq, Repr

/-- An edge record (Table 03.4). Maps: 0 SAME, 1 PREVIOUS, 2 CROSS. -/
structure EdgeRec where
  buffer : Nat
  out : Bool
  map : Nat
  back : Nat
  srcCad : Nat
  lag : Nat
  x : Nat
  y : Nat
  w : Nat
  h : Nat
  deriving DecidableEq, Repr

/-- A checked graph image: header fields, records, parameter section and cost declaration (R57; chapter 04). -/
structure Graph where
  cad : Nat := 0
  guaranteed : Bool := true
  bufs : List BufferRec := []
  nodes : List NodeRec := []
  edges : List EdgeRec := []
  params : List Byte := []
  cost : List Byte := []
  crc : Nat := 0
  deriving DecidableEq, Repr

/-- What a version's reads are directed to (R71). -/
inductive Content where
  | own
  | version (handle frame : Nat)
  | black (handle : Nat)
  deriving DecidableEq, Repr

/-- Version states (R64); `expected` is a version whose frame is staged and which no producer has opened yet. -/
inductive VerState where
  | expected | opened | committed | freed
  deriving DecidableEq, Repr

/-- A version of a buffer (R64 to R72): its storage slot, what its reads are directed to, producers still to commit, the producer
that faulted or whose operator is absent (and whether one faulted or was aborted), whether it waits for its turn to commit (R65), commit stamp and metadata word so far (Table 03.8). -/
structure Version where
  handle : Nat
  frame : Nat
  state : VerState
  slot : Option Nat
  content : Content
  left : Nat
  fault : Option (Nat × Bool)
  waiting : Bool
  stamp : Nat
  info : Nat
  deriving DecidableEq, Repr

/-- Operation states (Table 03.11) with the release-pending hold of R93; COMMITTED and RETIRED leave the list at once. -/
inductive OpState where
  | staged | delayed | pendingRelease | ready | prefetched | active | completed
  deriving DecidableEq, Repr

/-- An operation (R76): node ID, frame, deadline and release time, TAG while it holds an in-flight entry, the input metadata of
its descriptor, its completion status and whether an abort has been ordered. -/
structure Oper where
  node : Nat
  frame : Nat
  state : OpState
  guaranteed : Bool
  operator : Nat
  deadline : Nat
  release : Nat
  tag : Nat
  inMeta : Nat
  status : Nat
  aborting : Bool
  deriving DecidableEq, Repr

/-- An entry of a delay list (Table 03.12). -/
structure DlEntry where
  time : Nat
  node : Nat
  frame : Nat
  deriving DecidableEq, Repr

/-- The definition DEFINE latched for a handle (R62, R63). -/
structure HandleDef where
  base : Nat := 0
  stride : Nat := 0
  slots : Nat := 0
  size : Nat := 0
  mirror : Nat := 0
  deriving DecidableEq, Repr

/-- What clears one stale bit (R226): the storage slots that have held a fresh version since it was set, and the frames whose versions were
open then. -/
structure StaleTrack where
  refreshed : List Nat := []
  openBefore : List Nat := []
  deriving DecidableEq, Repr

/-- The stale masks of a mirrored handle (R222, R226): a bit for each stack, and for each set bit (0 to 3 of the primary copy, 4 to 7 of the
mirror) what will clear it. -/
structure MirrorMask where
  primaryStale : Nat := 0
  mirrorStale : Nat := 0
  tracks : List (Nat × StaleTrack) := []
  deriving DecidableEq, Repr

/-- The scheduler beyond its objects (chapter 03); `badHandles` and `badNodes` have met poison in their table entries (R502); `commits` are the
committed versions, the last to commit first (R79, R93); `retry` are the best-effort operations that found DL2 full and wait for the
next tick (R85). -/
structure Sched where
  graphs : List (Nat × Graph) := []
  generation : List (Nat × Nat) := []
  handles : List (Nat × HandleDef) := []
  stale : List (Nat × MirrorMask) := []
  versions : List Version := []
  ops : List Oper := []
  entryGen : List (Nat × Nat) := []
  dl0 : List DlEntry := []
  dl1 : List DlEntry := []
  dl2 : List DlEntry := []
  dl3 : List DlEntry := []
  overflow : List DlEntry := []
  tableOnly : List DlEntry := []
  discarded : Nat := 0
  beyondReserved : Bool := false
  absentRaised : List Nat := []
  loading : List Nat := []
  full : List Nat := []
  badHandles : List Nat := []
  badNodes : List Nat := []
  commits : List (Nat × Nat) := []
  retry : List (Nat × Nat) := []
  waited : List (Nat × Nat) := []
  arrived : List (Nat × Nat × Nat) := []
  deriving DecidableEq, Repr

/-- Admission beyond its objects (chapter 04): the slot under check with the time its REQUEST was written. The reservations of the
admitted graphs follow from their images, so only which slots hold one is kept (0x5202[g].1), the order in which they were
granted (R553), and the admitted slots that a breach event has concerned since (R501). -/
structure Admission where
  checking : Option (Nat × Nat) := none
  granted : List Nat := []
  breached : List Nat := []
  deriving DecidableEq, Repr

/-- A version that a BOUND ingress flow has opened (R135 to R141): where it lies, what of it has been written (byte ranges of a
storage row, sample ranges of row 0 for audio), the ancillary packets held until it is complete, the arrivals of its last packet by
leg, its close, the first instant at which it was closed and complete (R139), whether its commit has been requested, the numbers written to it
(relative to the first), the marker's number, whether event 0x2201 was raised, the numbers that came only out of bounds (R141), and whether a
transfer of it was lost (R297). -/
structure InFrame where
  frame : Nat
  addr : Nat
  buf : BufferRec
  cover : List (Nat × List (Nat × Nat)) := []
  packets : List (Nat × List Byte) := []
  complete : Bool := false
  markers : List (Nat × Nat) := []
  closed : Option Nat := none
  ready : Option Nat := none
  requested : Bool := false
  first : Option Nat := none
  lo : Int := 0
  hi : Int := 0
  count : Nat := 0
  markNum : Option Nat := none
  bounds : Bool := false
  spilled : List Nat := []
  broken : Bool := false
  deriving DecidableEq, Repr

/-- A packet an egress flow has built (R151 to R158, R575): when it is due, its frame, number, timestamp, marker, header extension,
sample row data headers and payload, and which copy of a duplicated flow it is. -/
structure OutPacket where
  due : Nat
  flow : Nat
  frame : Nat
  seq : Nat
  ts : Nat
  marker : Bool
  ext : List Byte
  srds : List Srd
  payload : List Byte
  copy : Nat
  deriving DecidableEq, Repr

/-- The running state of a flow (chapter 05): the slot of the graph that binds it (64 for none); of an ingress flow, the newest frame
opened on the binding, the sequence window, the opened versions, the last arrival on each leg and the marker numbers of the latest
frames; of an egress flow, the next number to send, the newest frame launched, and the last SDI version. -/
structure FlowRun where
  slot : Nat := 64
  newest : Option Nat := none
  seq : Option Nat := none
  written : List Nat := []
  frames : List InFrame := []
  legSeen : List (Nat × Nat) := []
  marks : List (Nat × Nat) := []
  nextSeq : Nat := 0
  lastSdi : Nat := 0
  deriving DecidableEq, Repr

/-- The SDI ingest of a lane (R147 to R150): the frame being received, if it is kept, whether its last active line has come, the frame
interval of the last frame begun, whether the frame has a line CRC error or a wrong payload identifier, whether an identifier came,
whether its content was out of bounds, and its ancillary packets. -/
structure SdiIn where
  frame : Option Nat := none
  ended : Bool := false
  began : Option Nat := none
  crcBad : Bool := false
  idBad : Bool := false
  idSeen : Bool := false
  bounds : Bool := false
  anc : List Byte := []
  deriving DecidableEq, Repr

/-- The raster of an SDI lane (R159, R385): the cadence of its output frames, the picture last sent with its ST 352 identifier and egress
flags, and the frame that the check before it found without a started operation. -/
structure SdiOut where
  cad : Nat := 0
  picture : List Byte := []
  ident : Nat := 0
  flags : Nat := 0
  repeating : Option Nat := none
  deriving DecidableEq, Repr

/-- A frame that a port sends of itself (R129): the answer to an ARP request (the addresses of the port and of the asker), or an IGMPv3
membership report with its groups and the source of each (0 for any). -/
inductive CtlFrame where
  | arpReply (mac ip toMac toIp : Nat)
  | igmpReport (groups : List (Nat × Nat))
  deriving DecidableEq, Repr

/-- The stream engine beyond its objects (chapter 05): running flows, the flows that are not OFF in ascending order, the packets due on
each port and the last one sent, the last frame that a port sent of itself, the bytes in each quad's ingress buffer with the island time
of the last arrival, SDI ingest and the SDI raster by lane. -/
structure Streams where
  flows : List (Nat × FlowRun) := []
  active : List Nat := []
  queues : List (Nat × List OutPacket) := []
  sent : List (Nat × OutPacket) := []
  control : List (Nat × Option CtlFrame) := []
  ingress : List (Nat × (Nat × Nat)) := []
  sdi : List (Nat × SdiIn) := []
  sdiOut : List (Nat × SdiOut) := []
  deriving DecidableEq, Repr

/-- The operation in an operator's active slot as the operator itself knows it (R74): node, frame, TAG, the start, whether an abort
order for it has come and when (R193, R344), whether a write of it was lost (R297), and of a raster operation which inputs have met poison in
reads of its stop (bit 0 IN0, bit 1 IN1; R189), the words that did with the data of their mirror copies, none for the neutral value, and the code
of a fault that is reported once its writes are acknowledged (0 for none; R163). -/
structure RunOp where
  node : Nat
  frame : Nat
  tag : Nat
  start : Nat
  aborting : Bool := false
  abortedAt : Nat := 0
  flagged : Bool := false
  met : Nat := 0
  poison : List (Nat × Option Nat) := []
  fault : Nat := 0
  deriving DecidableEq, Repr

/-- The operators (chapters 06 and 03): the operation each runs, and the times of the internal-store faults of a raster engine (R191). -/
structure Engines where
  running : List (Nat × Option RunOp) := []
  storeFaults : List (Nat × List Nat) := []
  deriving DecidableEq, Repr

/-- A retirement record (R254): a row, or a whole bank. -/
structure Retirement where
  pc : Nat
  bank : Nat
  row : Option Nat
  deriving DecidableEq, Repr

/-- A range an initialisation fill has written with zero words, on the stacks of the mask, except in the pages that the records
retired under the maps of its time (R249). -/
structure FillRange where
  base : Nat
  len : Nat
  mask : Nat
  records : List Retirement
  maps : List Nat
  deriving DecidableEq, Repr

/-- A request entry of a PC controller (R200, R201), oldest first in its list; `scrub` marks the scrubber's access, which waits in its bank
queue without an entry of R200 (R209); `since` is when it came (R219). -/
structure PcEntry where
  req : PcReq
  bank : Nat
  row : Nat
  scrub : Bool := false
  since : Nat := 0
  deriving DecidableEq, Repr

/-- A pending scrub write-back (R247): word address, what is written, and the word as found. -/
structure WriteBack where
  addr : Nat
  word : CodeWord
  poison : Bool
  found : CodeWord
  deriving DecidableEq, Repr

/-- A PC controller beyond its object (chapter 07). `passes` holds, for the lanes 0 to 35 and the command and address lanes (36),
the candidates that passed so far in the sweep; `settings` the candidate each uses at each rate (R216); `failedAt` is when the last failed
sweep ended (R213); `dues` the number of the next refresh instant of a bank, of those from `dueFrom` on (R206); `windows` the number of the
next retraining window (R210); `scrubAt` the last scrub access (R209); `scrubStart` the begin of the present scrub pass (R246). -/
structure PcState where
  entries : List PcEntry := []
  pointer : Nat := 0
  writing : Bool := false
  group : Nat := 0
  sinceBe : Nat := 4
  openRows : List (Nat × Nat) := []
  debts : List (Nat × Nat) := []
  sweeping : Bool := true
  cand : Nat := 0
  passes : List Nat := List.replicate 37 0
  settings : List (List Nat) := List.replicate 3 (List.replicate 37 32)
  chosen : Option (List Nat) := none
  degradedAt : Nat := 0
  errors : Nat := 0
  fencedAt : Nat := 0
  recorded : List Nat := []
  fenceLater : Option Nat := none
  scrubPos : Nat := 0
  scrubStart : Option Nat := none
  writeBack : Option WriteBack := none
  failedAt : Nat := 0
  dues : List (Nat × Nat) := []
  dueFrom : Nat := 0
  windows : Nat := 0
  scrubAt : Option Nat := none
  deriving DecidableEq, Repr

/-- A valid entry of a coded-memory log (Table 08.5), with the number of its first finding, by which the oldest is told (R243). -/
structure LogEntry where
  addr : Nat := 0
  symbol : Nat := 0x3F
  kind : Nat := 0
  scrub : Bool := false
  error : Nat := 0
  syndrome : Nat := 0
  repeats : Nat := 0
  time : Nat := 0
  found : Nat := 0
  deriving DecidableEq, Repr

/-- A fill in progress (R250): base, length, and whether it runs at Daybreak. -/
structure FillJob where
  base : Nat
  len : Nat
  atDaybreak : Bool
  deriving DecidableEq, Repr

/-- The frame store and the coded memory beyond their objects (chapters 07 and 08): the code words by word address (an unlisted word
reads as the fills left it, else it was never written), fills, retirements (MRAM), valid pages as ranges of page numbers, the PC
controllers, the target rate of a change and when it was accepted, the coded-memory logs by instance × 16 + entry with the findings placed so far, when
0x3102 was last raised, and which instances have raised 0x3104; `fillAt` says, by PC, how many of its words in the range a fill in progress has passed
and for how many of them it has made requests (R249). -/
structure Store where
  words : List (Nat × Option CodeWord) := []
  filled : List FillRange := []
  retired : List Retirement := []
  valid : List (Nat × Nat) := []
  fill : Option FillJob := none
  fillAt : List (Nat × (Nat × Nat)) := []
  pcs : List (Nat × PcState) := []
  targetRate : List (Nat × Nat) := []
  changeAt : List (Nat × Nat) := []
  logs : List (Nat × LogEntry) := []
  findings : Nat := 0
  lastUncorr : List (Nat × Nat) := []
  overflowRaised : List Nat := []
  deriving DecidableEq, Repr

/-- The transfer that holds an arbiter's output (R284): its input and virtual channel, at whose head it stands, and the beats that have left
through an exchange output, and the ring cycle in which it was granted. -/
structure Holder where
  arb : ArbId
  input : Nat
  vc : VC
  sent : Nat
  since : Nat
  deriving DecidableEq, Repr

/-- A reservation of the slot tables (R274, R276): whose paths it serves (the operator, or the node that counts by itself), the path's stops,
the slot in which its flits are injected at the first, and the graph slots it is charged to. -/
structure Reservation where
  key : Nat
  src : Nat
  dst : Nat
  slot : Nat
  owners : List Nat
  deriving DecidableEq, Repr

/-- A read request or acknowledged write that a master stop holds until it is answered (R297): its TAG, master, word addresses (of a read those
asked for, of a write those of every copy), when its first flit was injected, the acknowledgements of a write still to come (one for each run of
words written, R222), and of a read whether it is a mirror read, the runs of words still to be answered, the one on its way first, each word with its place and the address of
the copy that serves it (R223), and the words that have come by place. -/
structure HeldTransfer where
  stop : Nat
  tag : Nat
  kind : MasterKind
  unit : Nat
  write : Bool
  vc : VC
  addrs : List Nat
  since : Option Nat := none
  left : Nat := 0
  mirror : Bool := false
  asks : List (List (Nat × Nat)) := []
  got : List (Nat × (Nat × Bool)) := []
  deriving DecidableEq, Repr

/-- A flit in a buffer: the ring cycle in which it came (R274: the cycle in which it crossed the segment that leads there), the fabric port
that injects it (512 for none), the flit, and whether its wait has been counted as a slip (R273). -/
structure Buffered where
  since : Nat
  port : Nat
  flit : Flit
  slipped : Bool := false
  deriving DecidableEq, Repr

/-- An acknowledgement that a target returns in side words (R269): the stop it has come to, the master stop, TAG and status. -/
structure Acknowledge where
  target : Nat
  master : Nat
  tag : Nat
  status : AckStatus
  deriving DecidableEq, Repr

/-- A read that a target has accepted and not yet answered (R267): its stop, the requester, TAG, the response's VC, and the words by address
as they are read (none for poison). -/
structure ReadOut where
  target : Nat
  master : Nat
  tag : Nat
  vc : VC
  addrs : List Nat
  words : List (Nat × Option Nat)
  deriving DecidableEq, Repr

/-- An acknowledged write that has been granted a PC's port and is acknowledged when its last word holds an entry (R204, R269). -/
structure WriteOut where
  target : Nat
  master : Nat
  tag : Nat
  left : Nat
  deriving DecidableEq, Repr

/-- The rings, the exchange and the arbiters beyond their objects (chapter 09). `start` is when the ring-cycle counter began, `cycle` the
cycle it has been counted to where that lies between two nanoseconds. Inputs of stop g are numbered 3g (direction 0), 3g + 1 (direction 1)
and 3g + 2 (injection); the scheduler and the steward, 384 and 385, inject at 3g + 2 too, and 3g is the input of their exchange port; `bufs`
holds the flits of input i on VC n at key 4i + n. `crossing` holds the VC0 flits that cross the exchange by 48 × destination ring + 3 × source
ring + direction of the input they came by, each with the cycle in which it is to be injected. `credits` counts by (2g + direction) × 4 + VC,
`returns` the credits to give back by 4i + n, `passed` by (2g + direction) × 4 + VC the free slots in which a local flit was passed over; by
2g + direction, `sentLast` is the first cycle still to be filled, `out` the flits on the segment direction with their cycles, `side` the side
word of the last cycle, `revokes` the VC of a revocation still to be told, and `waddr` the write address latched from a side word;
`sentAt` the cycles of the flits sent in the last 24. `active` and `shadow` are the slot tables' reservations, `swapAt` the cycle in which
the shadow tables become active, `swappedAt` that of the last swap. `quota` is the wrap and the VC0 flits injected in it by fabric port and direction (2q + direction);
`busy` the source (plus 1) whose transfer is being sent on a segment direction's VC; `held` what master stops wait for; `reading` what
targets have still to answer, `moving` the words granted a PC's port that hold no entry yet and `storing` the writes they belong to;
`holding` the transfers that hold an arbiter's output, `vc0At` by exchange output the cycle after that in which a VC0 beat that was not the last
of its transfer left by it (R284), `starved` the candidates event 0x4101 was raised for (input, VC, stamp), `pointers`
each arbiter's PTR; `holdAt` the cycle after the last one counted in CREDIT_HOLD by stop; `acks` acknowledgements on their way; the times of
event 0x4001 by ring and of header CRC errors by (24k + segment) × 2 + direction; the drain's start and the detours at its commit. -/
structure Rings where
  start : Nat := 0
  cycle : Nat := 0
  bufs : List (Nat × List Buffered) := []
  crossing : List (Nat × List Buffered) := []
  credits : List (Nat × Nat) := []
  returns : List (Nat × Nat) := []
  passed : List (Nat × Nat) := []
  sentLast : List (Nat × Nat) := []
  sentAt : List (Nat × List Nat) := []
  out : List (Nat × List (Nat × Flit)) := []
  side : List (Nat × Nat) := []
  revokes : List (Nat × Option VC) := []
  waddr : List (Nat × Option Nat) := []
  active : List Reservation := []
  shadow : List Reservation := []
  swapAt : Option Nat := none
  swappedAt : Nat := 0
  quota : List (Nat × (Nat × Nat)) := []
  busy : List (Nat × Nat) := []
  held : List HeldTransfer := []
  reading : List ReadOut := []
  moving : List (Nat × List PcReq) := []
  storing : List WriteOut := []
  holding : List Holder := []
  vc0At : List (Nat × Nat) := []
  starved : List (Nat × VC × Nat) := []
  holdAt : List (Nat × Nat) := []
  pointers : List (Nat × Nat) := []
  acks : List Acknowledge := []
  crcRaised : List (Nat × Nat) := []
  segErrors : List (Nat × List Nat) := []
  drainStart : Nat := 0
  oldFaults : List (Nat × Nat) := []
  deriving DecidableEq, Repr

/-- The scratchpad (chapter 10): code words by word number (an unlisted word reads as a flow descriptor or the zero word), request
entries by slice, oldest first, scrub accesses done in the pass, pending write-backs and completed passes by bank, the pass's first scrub
access, the wipe with its causes and its start, when each bank may have its next scrub access, the words of owned areas that met poison and
wait to be rewritten (R502; a flow descriptor's word is the flow's number), and where the parameter copies of the graph slots lie (offset in
the scheduler area and bytes, R61, R305); `recovery` are the tamper sources whose recoveries (R553) the steward has still to do, the oldest
first. -/
structure Scratch where
  words : List (Nat × Option CodeWord) := []
  entries : List (Nat × List PcReq) := []
  scrubRow : List (Nat × Nat) := []
  writeBack : List (Nat × Option WriteBack) := []
  passed : List Nat := []
  passStart : Option Nat := none
  wiping : Bool := false
  wipeCause : Nat := 0
  wipeStart : Nat := 0
  scrubDue : List (Nat × Nat) := []
  rebuild : List Nat := []
  recovery : List Nat := []
  params : List (Nat × (Nat × Nat)) := []
  deriving DecidableEq, Repr

/-- A read request of a fabric port that is not answered yet (R336, R339): the TAG of its operation (0 for none), RQ_ID, address, words,
mirror, the ring tag it was sent with, whether its answer is to be discarded (R345), and whether its operation is guaranteed (R337). -/
structure PortRead where
  tag : Nat
  ident : Nat
  addr : Nat
  count : Nat
  mirror : Bool
  sent : Option Nat := none
  stale : Bool := false
  guaranteed : Bool := false
  deriving DecidableEq, Repr

/-- A write transfer of a fabric port (R340): the TAG of its operation, WR_ID, address, words with their poison bits, the mask of word 0,
whether it is posted, the ring tag it was sent with, whether its acknowledgement is to be discarded, and whether the operation is a guaranteed one
(R337). -/
structure PortWrite where
  tag : Nat
  ident : Nat
  addr : Nat
  words : List (Nat × Bool) := []
  mask : Nat
  posted : Bool
  flits : Nat := 0
  bad : Nat := 0
  sent : Option Nat := none
  stale : Bool := false
  guaranteed : Bool := false
  deriving DecidableEq, Repr

/-- A flit on the read response channel (Table 11.4). -/
structure RsFlit where
  ident : Nat
  word0 : Nat
  word1 : Nat
  two : Bool
  last : Bool
  poison : Nat
  err : Nat
  tag : Nat
  deriving DecidableEq, Repr

/-- An operator port beyond its object (R331 to R345): whether the image declares it, PORT_UP, the cause of its last loss, whether the
descriptor of the active operation has been taken, the parameter words presented and their number, the accepted completion (status
and code), whether poison or a lost write flags it, the reads and writes outstanding, the transfer being written, the response
flits waiting, the last write acknowledgement presented (WA_ID, WA_STATUS), and when event 0x7008 was last raised. -/
structure PortRun where
  declared : Bool := false
  up : Bool := false
  cause : Nat := 0
  taken : Bool := false
  param : Nat := 0
  paramLen : Option Nat := none
  done : Option (Nat × Nat) := none
  flagged : Bool := false
  reads : List PortRead := []
  writes : List PortWrite := []
  cur : Option PortWrite := none
  responses : List RsFlit := []
  ack : Option (Nat × Nat) := none
  raisedAt : Option Nat := none
  deriving DecidableEq, Repr

/-- Pulses that the time port carries (R329): the TB_CLK edge in whose cycle they lie, the MARK bits, and TICK. -/
structure TimePulse where
  edge : Nat
  marks : Nat
  tick : Bool
  deriving DecidableEq, Repr

/-- A place of a block memory that has been written in the memory's present clock cycle (R323): what it held before, and whether port A wrote
it. -/
structure BramWritten where
  place : Nat
  before : Nat
  byA : Bool
  deriving DecidableEq, Repr

/-- The fabric beyond its objects (chapter 11): the operator ports, the words of the block memories by memory × 65,536 + address (code
words in coded mode, bits from 128 on in raw mode; an unlisted one reads as zero), the places written in the present clock cycle of a memory,
when event 0x7006 was last raised, the pulses of the time port, the completions that ports have forwarded and the scheduler has not yet
received (operator, TAG, status), and the logic: the flip-flops of the clusters (those of an unlisted cluster are at their INIT bits), the
registers of the arithmetic slices (an unlisted one holds zeros) and of the pins. -/
structure Fabric where
  ports : List (Nat × PortRun) := []
  bram : List (Nat × Nat) := []
  bramCycle : List (Nat × List BramWritten) := []
  bramRaised : Option Nat := none
  time : List TimePulse := []
  forwarded : List (Nat × Nat × Nat) := []
  clusters : List (Nat × ClusterState) := []
  slices : List (Nat × SliceRegs) := []
  pins : List (Nat × PinRegs) := []
  deriving DecidableEq, Repr

/-- What the model keeps of an image beside its frames (Table 12.3): the source it was loaded from (0x7040.12), whether it was encrypted,
its NONCE, and the ports it declares (bit q; for a swap region's image the four ports of the region). -/
structure ImageInfo where
  source : Nat := 0
  encrypted : Bool := false
  nonce : List Byte := []
  ports : Nat := 0
  deriving DecidableEq, Repr

/-- A load in progress (R356 to R359): its target (16 for full), whether it is streamed and by which source, the island times of its start
and of its last piece, the bytes taken and the first failing check. -/
structure LoadJob where
  target : Nat
  streamed : Bool
  source : Option Nat := none
  start : Nat
  last : Nat
  data : List Byte := []
  bad : Option Nat := none
  deriving DecidableEq, Repr

/-- Configuration beyond its objects (chapter 12): the cells as code words by frame × 32 + word under the present roles (an unlisted word is
the zero word), the load in progress, the live full image, the live and shadow images of the swap regions, the scrubber's position
and the start of its pass, its pending write-back, the repairs queued, the live frames that hold an unrepaired upset, the scrub log
(newest first), the shadow frames found bad between a commit lead and its mark (R361), when the scrubber's next read is due, when event 0x7101
was last raised, the exchanges in progress with their mark, their frame and the IMAGE_ID that goes live, and the swap regions retired
(MRAM). -/
structure ConfigMem where
  cells : List (Nat × Nat) := []
  job : Option LoadJob := none
  full : ImageInfo := {}
  live : List (Nat × ImageInfo) := []
  shadow : List (Nat × ImageInfo) := []
  scrubPos : Nat := 0
  scrubStart : Nat := 0
  writeBack : Option (Nat × List Nat) := none
  repairs : List Nat := []
  suspects : List Nat := []
  log : List (List Byte) := []
  late : List Nat := []
  scrubDue : Nat := 0
  raisedAt : Option Nat := none
  exchanging : List (Nat × (Nat × Nat × Nat)) := []
  retired : List Nat := []
  deriving DecidableEq, Repr
/-- What a lane's bring-up holds beside its object (Tables 13.4 and 13.5): when it entered its state and the island time at which its
polarity or rate was last changed, the SDI rate being tried (R384), whether event 0x2005 has been raised (R390), whether its
auto-negotiation page came first (R381), the bit positions of the BOUNDARY blocks found in MARKER_LOCK (R392), the width code,
identity and link number of its markers, when adaptation resumed with the margin still to check (R398), when the current millisecond of
UP began and whether it is not known-good (R397), when its eye scan began (R408), when RX_EQ was last set and for which update MARGIN was, since when
PRBS bits and errors are not yet in their registers, and of its line: the registers of the generator and of the scrambler, the transmit FIR
coefficients that the partner has set in training, the last words sent and received, the PAM4 levels of the word sent, when event 0x2008 was last
raised, whether a frame of its port is still to come that an uncorrectable code word has spoilt (R379), and whether a signal is present on its
receiver, with its amplitude in mV (R567). -/
structure LaneRun where
  since : Nat := 0
  tried : Nat := 0
  rateIdx : Nat := 0
  warned : Bool := false
  page : Bool := false
  markers : List Nat := []
  width : Nat := 0
  ident : Nat := 0
  link : Nat := 0
  resumed : Option Nat := none
  eqFrom : Nat := 0
  eqBad : Bool := false
  scanAt : Nat := 0
  eqAt : Option Nat := none
  marginAt : Option Nat := none
  prbsFrom : Nat := 0
  prbsReg : Nat := 1
  scrambler : Nat := 0
  fir : List Byte := []
  sent : Nat := 0
  levels : List Nat := []
  heard : Nat := 0
  fecAt : Option Nat := none
  spoilt : Bool := false
  present : Bool := false
  swing : Nat := 0
  deriving DecidableEq, Repr

/-- A packet in the replay buffer of a link (R401, R403): its number, channel and payload, when it was last sent and how often it has been
sent again since a packet was last acknowledged, and whether it is to be sent again. -/
structure SentPacket where
  seq : Nat
  channel : Nat
  payload : List Byte
  sentAt : Nat
  again : Nat
  resend : Bool
  deriving DecidableEq, Repr

/-- The link layer of a Skeltia link (R399 to R405): the packets waiting by channel, the replay buffer in order, the next numbers to
send and to deliver, how many delivered packets no ACK covers yet, since when a NAK is pending, how many consecutive READY blocks
have come (R394), when event 0x2013 was last raised, the blocks waiting to be sent (header and payload), the numbers of the next row and of the next
block of the stream (R387), the TRAIN blocks sent since UP and whether a packet has been (R394), and when the last FILLER row arrived. -/
structure LinkRun where
  council : List (List Byte) := []
  data : List (List Byte) := []
  control : List (List Byte) := []
  replay : List SentPacket := []
  nextSeq : Nat := 0
  expected : Nat := 0
  unacked : Nat := 0
  nakAt : Option Nat := none
  ready : Nat := 0
  raisedAt : Option Nat := none
  line : List (Nat × Nat) := []
  row : Nat := 0
  blocks : Nat := 0
  trains : Nat := 0
  begun : Bool := false
  fillerAt : Option Nat := none
  deriving DecidableEq, Repr

/-- The serial lanes and Skeltia links beyond their objects (chapter 13), with the lanes retired by software (MRAM, R376, R10). -/
structure Lanes where
  retired : List Nat := []
  lanes : List (Nat × LaneRun) := []
  links : List (Nat × LinkRun) := []
  deriving DecidableEq, Repr

/-- A session beyond its object (R427, R428, R431 to R434): the request numbers of its window that count as executed with their cached
responses, the value it writes in pieces, its read latch, the island time of its last request, the events of its next NOTIFY, the
times of the NOTIFY frames of the last second, and whether a CLOSE waits for its response to leave. -/
structure SessRun where
  done : List (Nat × Option (List Byte)) := []
  buffer : Option (ObjRef × List Byte) := none
  latch : Option (ObjRef × List Byte) := none
  lastReq : Nat := 0
  events : List EvRec := []
  sentAt : List Nat := []
  closing : Bool := false
  deriving DecidableEq, Repr

/-- An OPEN the device remembers (R431): class, nonce, source and the ID it gave. -/
structure OpenRec where
  cls : Nat
  nonce : Nat
  source : Nat
  ident : Nat
  deriving DecidableEq, Repr

/-- A request waiting for execution (R423): the port it came by and its bytes; of the console, a line of text (R552). -/
structure Request where
  port : ObpPort
  data : List Byte
  console : Bool := false
  deriving DecidableEq, Repr

/-- The steward's ports beyond their objects (chapter 14): sessions by slot, OPENs remembered (newest first), the open counters of the
slots, one queue per class (0 HOST, 1 OPERATOR, 2 PEER, 3 SERVICE, 4 WATCH), the class served last, the SPI port's request and
outbound frames and RX_FULL, the settings of 0x1101 that wait for a response, when
event 0x1105 was last raised by class, the class that armed a profile switch, and whether requests wait for that switch (R441). -/
structure Steward where
  sessions : List (Nat × SessRun) := []
  opens : List OpenRec := []
  counters : List (Nat × Nat) := []
  queues : List (List Request) := [[], [], [], [], []]
  served : Nat := 3
  spiIn : List (List Byte) := []
  spiOut : List (List Byte) := []
  rxFull : Bool := false
  mgmtWait : List (Nat × Nat) := []
  errorAt : List (Nat × Nat) := []
  armedBy : AccessClass := .host
  switching : Bool := false
  deriving DecidableEq, Repr

/-- The lease of a held lock (R457 to R459): LEASE as it was at the acquire in µs, the island time at which it ends, and what is left of it
while its owner core is halted. -/
structure Lease where
  span : Nat := 0
  ends : Nat := 0
  frozen : Option Nat := none
  deriving DecidableEq, Repr

/-- What the pipeline writes once the next instruction has read its operands (Table 15.4): a loaded register, or a pointer setting by its
port. -/
inductive Late where
  | data (d v : Nat)
  | setting (port v : Nat)
  deriving DecidableEq, Repr

/-- An access of core 1's window that stalls the core until it completes (R444, R445): the TAG of its VC3 transfer, the register a load writes
(none for a store), and the place of the halfword in its word, in bits. -/
structure WindowAccess where
  tag : Nat
  dest : Option Nat
  shift : Nat
  deriving DecidableEq, Repr

/-- A Dusk core (R444 to R456): the registers of Table 15.1, the flags of ST, the REPEAT and block repeats in progress, the call stack
(newest first), the delay slots left with the address after them and whether a RETI ends there, the writes of the pipeline,
interrupts with the time each line became pending, the watchdog and the timer, program and data RAM (each word with its parity bit
above it), the length of the loaded image, the island time at which a debugger halted the core, the halt due at the
next boundary (its cause and unit, Table 20.14), whether the core was IDLE when it halted, the island time and CYCLES at which a STEP began, the
patch units that have matched the instruction about to issue, and the accesses of its window that it waits for.
[DESIGN CHOICE, log 11: unsafe] -/
structure Core where
  d : List Nat := List.replicate 8 0
  p : List Nat := List.replicate 4 0
  ps : List Nat := List.replicate 4 0
  pb : List Nat := List.replicate 4 0
  pl : List Nat := List.replicate 4 0
  a : List Nat := List.replicate 2 0
  pc : Nat := 0
  ie : Bool := false
  sat : Bool := false
  rep : Nat := 0
  lc : List Nat := List.replicate 2 0
  ls : List Nat := List.replicate 2 0
  le : List Nat := List.replicate 2 0
  stack : List Nat := []
  slots : Nat := 0
  target : Nat := 0
  retInt : Bool := false
  late : List Late := []
  irqEn : Nat := 0
  irqPend : Nat := 0
  pendSince : List Nat := List.replicate 16 0
  kickAt : Nat := 0
  warned : Bool := false
  timer : Nat := 0
  timerFrom : Nat := 0
  prog : List (Nat × Nat) := []
  words : Nat := 0
  data : List (Nat × Nat) := []
  haltedAt : Option Nat := none
  haltDue : Option (Nat × Nat) := none
  wasIdle : Bool := false
  stepFrom : Option (Nat × Nat) := none
  met : List Nat := []
  asks : List WindowAccess := []
  deriving DecidableEq, Repr

/-- The Dusk cores and the lock unit beyond their objects (chapter 15): the cores, leases by lock, the recent watchdog expiries of core 0,
the stored watch program (MRAM), the latched k of RAISE_CODE and high half of the time, the times of the raises of the last second,
and the mailbox: its state (Table 15.7), the word address of the request and the response frame that waits to be written in place. -/
structure Dusk where
  core0 : Core := {}
  core1 : Core := {}
  leases : List (Nat × Lease) := []
  expiries : List Nat := []
  stored : Option (List Byte) := none
  raiseCode : Nat := 0
  timeHi : Nat := 0
  raises : List Nat := []
  mbx : Nat := 0
  mbxAddr : Nat := 0
  mbxReply : Option (List Byte) := none
  deriving DecidableEq, Repr


/-- Power and the Twilight island beyond their objects (chapter 16): the domains DRAINING with the island time their drain began; what
runs (0 nothing, 1 entry to STANDBY, 2 Nightfall) with the group of domains it has reached, the power state it left, whether a trip
started it, the domains it has switched off (newest first) and those that STANDBY did, those still to be powered again after an abandonment and the domain
whose drain failed; the stacks in self-refresh with the states of their PCs before it; the wake source held during Nightfall, WAKE_AFTER
as it was at Nightfall and the island time at which the armed wake timer began; the ADC: the list being walked, the place in it, the time of its next conversion,
samples by channel since one was last pushed, the runs of hot and of bad samples, the FIFO (oldest first), the channel last taken,
the channels whose MIN and MAX hold a sample since they were read, and by stack, plus 1, the island time from which TEMP has been at 105 °C or above. -/
structure Power where
  drains : List (Nat × Nat) := []
  doing : Nat := 0
  group : Nat := 0
  leftState : Nat := 0
  trip : Bool := false
  offs : List Nat := []
  slept : List Nat := []
  revive : List Nat := []
  failed : Nat := 0
  refreshing : List Nat := []
  pcWas : List (Nat × Nat) := []
  held : Option Nat := none
  wakeAfter : Nat := 0
  timerFrom : Option Nat := none
  walk : List Nat := List.range 40
  pos : Nat := 0
  adcAt : Nat := 0
  since : List (Nat × Nat) := []
  hot : List (Nat × Nat) := []
  bad : List (Nat × Nat) := []
  fifo : List (Nat × Nat) := []
  chan : Nat := 0
  minSeen : List Nat := []
  maxSeen : List Nat := []
  hotStacks : List (Nat × Nat) := []
  deriving DecidableEq, Repr

/-- Daybreak and the steward's life (chapter 17): the kind of reset and the island time of its start, the steps done, the cause that
will hold the device, whether core 1 restarts or stays stopped, the recent restarts with the cause of the last, their count since
Daybreak and the end of the last; the firmware image areas, the boot selector and
the last-good location of the MRAM store; when step 1 ended, for the reset of the flash (R571); `applying` marks a value entry of a profile being applied (R437, R441). -/
structure Boot where
  kind : Nat := 0
  start : Nat := 0
  done : List Nat := []
  cause : Nat := 0
  restarting : Bool := false
  stopped : Bool := false
  restarts : List Nat := []
  restartCause : Nat := 0
  restartCount : Nat := 0
  restartEnd : Option Nat := none
  lastGood : Nat := 0
  selector : Nat := 0
  flashFrom : Option Nat := none
  applying : Bool := false
  deriving DecidableEq, Repr
/-- The ensemble beyond its objects (chapter 19): the peer flows whose PARTNER_FLOW has been written; by member, the council frame of its
last counting message that takes it into view and of its last counting message (each plus 1), the UNIQUE_IDs seen, T_SEND and
arrival of its last message, and its DIGEST; the links on which event 0x9107 was raised; the valid OFFSET measured since the last
council mark; whether re-synchronisation runs, and the consecutive valid measurements below 100 ns, and within 1,000 ns (R525). -/
structure Ensemble where
  partnerSet : List Nat := []
  councils : Nat := 0
  viewed : List (Nat × Nat) := []
  heard : List (Nat × Nat) := []
  idents : List (Nat × List Nat) := []
  echo : List (Nat × (Nat × Nat)) := []
  digests : List (Nat × List Byte) := []
  duplicates : List Nat := []
  measured : Option Int := none
  resync : Bool := false
  fine : Nat := 0
  close : Nat := 0
  deriving DecidableEq, Repr


/-- A challenge that may still be answered (R542): its number among the device's ephemeral keys, ND and QD. -/
structure Challenge where
  number : Nat
  nd : List Byte
  qd : List Byte
  deriving DecidableEq, Repr

/-- Life-cycle, debug port and service session beyond their objects (chapter 20): the fuse groups of the life-cycle states of which a fuse is blown,
each with whether all of them are (R536), the digests and key held in fuses, the life-cycle state commanded, the number of challenges made and the latest, the island time at which a lockout
ends, the session key with the tagged records counted in each direction, the consecutive tag failures, the time of the last inbound
record, the inbound bytes of the record stream with whether the rest up to a zero byte is to be discarded, TERM_IN and TERM_OUT,
console text still to be sent and the line being received, the patch-RAM words by unit, what debug wrote in the firmware area of the
store (by byte address ÷ 4), and of the TAP its instruction (Table 20.2; IDCODE after Test-Logic-Reset) and the cells of its boundary register.
[DESIGN CHOICE, log 286: unsafe] -/
structure Service where
  groups : List (Nat × Bool) := []
  devDigest : Option (List Byte) := none
  serviceKeyDigest : Option (List Byte) := none
  imageKey : Option (List Byte) := none
  commit : Option Nat := none
  challenges : Nat := 0
  challenge : Option Challenge := none
  lockUntil : Nat := 0
  key : Option (List Byte) := none
  tagsIn : Nat := 0
  tagsOut : Nat := 0
  badTags : Nat := 0
  lastRecord : Nat := 0
  stream : List Byte := []
  skipping : Bool := false
  out : List Byte := []
  termIn : Option Nat := none
  termOut : Option Nat := none
  console : List Byte := []
  line : List Byte := []
  patch : List (Nat × Nat) := []
  store : List (Nat × Nat) := []
  tap : Nat := 0x01
  cells : Nat := 0
  deriving DecidableEq, Repr

/-- The levels that the board brings to the package (chapter 21), as far as the block acts on them: RESET_N and TRST_N, the last code of each ADC
channel that has sampled a rail or the peak of REF_IN (Table 16.4), and the DC offset of REF_IN in mV. No reset changes them.
[DESIGN CHOICE, log 290: unsafe] -/
structure Board where
  resetN : Bool := true
  trstN : Bool := true
  codes : List (Nat × Nat) := []
  refOffset : Int := 0
  deriving DecidableEq, Repr

/-- The state of the block.
[DESIGN CHOICE, log 5: safe, DEDUCED, log 9: unsafe, DEDUCED, log 163: unsafe, DESIGN CHOICE, log 192: unsafe] -/
structure State where
  /-- The timebase, in ns since its epoch (R30, R32); sub-nanosecond fractions are truncated (R33). -/
  now : Nat := 0
  /-- The island counter, in ns since the last power-on reset. -/
  mono : Nat := 0
  /-- Whether the timebase runs (from Daybreak step 6). -/
  tbRun : Bool := false
  /-- How many free values have been taken: the model's own field. -/
  free : Nat := 0
  reply : Reply := {}
  regs : List (Nat × Nat) := []
  doms : List (Nat × List Byte) := []
  log : LogState := {}
  latched : Nat := 0
  conds : Nat := 0
  phase : Phase := .daybreak
  tb : Timebase := {}
  sched : Sched := {}
  adm : Admission := {}
  store : Store := {}
  boot : Boot := {}
  streams : Streams := {}
  rings : Rings := {}
  ens : Ensemble := {}
  engines : Engines := {}
  scratch : Scratch := {}
  lanes : Lanes := {}
  steward : Steward := {}
  dusk : Dusk := {}
  fabric : Fabric := {}
  config : ConfigMem := {}
  service : Service := {}
  power : Power := {}
  board : Board := {}
  /-- The commands waiting, first in, first out. -/
  pending : List Instr := []
  deriving DecidableEq, Repr

/-- A block of register-file entries: values of register `ref` for instances from `i` on, zeros left out. -/
def regBlock (ref : Nat) : Nat → List Nat → List (Nat × Nat)
  | _, [] => []
  | i, v :: t => if v = 0 then regBlock ref (i + 1) t else (ref * 2 ^ 24 + i, v) :: regBlock ref (i + 1) t

/-- The register-file entries at reset: the cadence objects of Table 02.7 (ENABLE, KIND, RATE_NUM, RATE_DEN, LINES). -/
def resetRegs : List (Nat × Nat) :=
  regBlock 0x130101 0 (List.replicate 15 1) ++ regBlock 0x130102 8 [1] ++
  regBlock 0x130103 0 [50, 60000, 25, 30000, 24000, 60, 30, 24, 1000, 100, 120000, 120, 48, 48000, 1, 50] ++
  regBlock 0x130104 0 [1, 1001, 1, 1001, 1001, 1, 1, 1, 1, 1, 1001, 1, 1, 1001, 1, 1] ++
  regBlock 0x130105 0 [1125, 1125, 1125, 1125, 1125, 1125, 1125, 1125, 0, 2250, 2250, 2250, 1125, 1125, 0, 0]

/-- The block right after a power-on reset: Daybreak step 1 runs (R481, R483); every register at its default, the cadence objects as
Table 02.7 says, memories empty, no command waiting.
[DESIGN CHOICE, log 10: unsafe, DESIGN CHOICE, log 11: unsafe, DESIGN CHOICE, log 12: unsafe, DESIGN CHOICE, log 13: unsafe, DEDUCED, log 187: unsafe, DESIGN CHOICE, log 190: unsafe, DESIGN CHOICE, log 194: unsafe] -/
def State.reset : State := { regs := resetRegs }

end Sys2Proof.Machine
end

