-- ==== Sys2Proof/Machine/Ops.lean ====
section
/-! DEFINITION. The operations every family shares: registers of the dictionary, free values, replies, the raising of events
(R508 to R511), and the passing of time. -/

namespace Sys2Proof.Machine

/-! ### Registers -/

/-- The key of register `ref` of instance `i` in the register file. -/
def regKey (ref i : Nat) : Nat := ref * 2 ^ 24 + i % 2 ^ 24

/-- What an unlisted register reads as. -/
def regKeyDefault (k : Nat) : Nat := regDefault (k / 2 ^ 24)

/-- The value of a register. -/
def State.reg (s : State) (r : Reg) (i : Nat := 0) : Nat := tget regKeyDefault s.regs (regKey r.ref i)

/-- A register set to `v`, cut to its width. -/
def State.setReg (s : State) (r : Reg) (i v : Nat) : State :=
  { s with regs := tput regKeyDefault (regKey r.ref i) (v % 2 ^ r.bits) s.regs }

/-- A counter raised by `n`; it wraps at its width (the manual states no saturation for it).
[DEDUCED, log 16: unsafe] -/
def State.add (s : State) (r : Reg) (i n : Nat) : State := s.setReg r i (s.reg r i + n)

/-- A counter raised by 1.
[DEDUCED, log 16: unsafe] -/
def State.inc (s : State) (r : Reg) (i : Nat := 0) : State := s.add r i 1

/-- A peak register raised to `n` if it is below. -/
def State.peak (s : State) (r : Reg) (i n : Nat) : State := if s.reg r i < n then s.setReg r i n else s

/-- The signed value of a register. -/
def State.regI (s : State) (r : Reg) (i : Nat := 0) : Int := toSigned r.bits (s.reg r i)

/-- A register set to a signed value. -/
def State.setRegI (s : State) (r : Reg) (i : Nat) (z : Int) : State := s.setReg r i (ofSigned r.bits z)

/-- Whether a BOOL register reads 1, or another register is not zero. -/
def State.on (s : State) (r : Reg) (i : Nat := 0) : Bool := s.reg r i != 0

/-- The bytes of a DOMAIN or STR object. -/
def State.dom (s : State) (r : Reg) (i : Nat := 0) : List Byte := tget (fun _ => []) s.doms (regKey r.ref i)

/-- A DOMAIN or STR object set to `l`. -/
def State.setDom (s : State) (r : Reg) (i : Nat) (l : List Byte) : State :=
  { s with doms := tput (fun _ => []) (regKey r.ref i) l s.doms }

/-! ### Free values -/

/-- The next free value, bounded to `b`-bit values.
[DESIGN CHOICE, log 6: safe, DESIGN CHOICE, log 52: safe] -/
def State.freeBits (s : State) (b : Nat) : Nat := Config.freeValue s.free % 2 ^ b

/-- The state after one free value has been taken.
[DESIGN CHOICE, log 5: safe] -/
def State.took (s : State) : State := { s with free := s.free + 1 }

/-! ### Replies (Table 14.8) -/

/-- The last dictionary operation is answered with a status. -/
def State.answer (s : State) (status : Nat) : State := { s with reply := { answered := true, status := status, value := [] } }

/-- The last operation is answered OK with a value.
[DEDUCED, log 134: unsafe] -/
def State.answerWith (s : State) (v : List Byte) : State := { s with reply := { answered := true, status := 0, value := v } }

/-- The last operation is not answered at all. -/
def State.silent (s : State) : State := { s with reply := {} }

def State.ok (s : State) : State := s.answer 0
def State.noSuchObject (s : State) : State := s.answer 1
def State.accessDenied (s : State) : State := s.answer 2
def State.typeError (s : State) : State := s.answer 3
def State.domainOrder (s : State) : State := s.answer 4
def State.badValue (s : State) : State := s.answer 5
def State.stateError (s : State) : State := s.answer 6
def State.resource (s : State) : State := s.answer 7

/-! ### Presence map -/

/-- Whether a unit is present: its bit of a presence-map register (R9). -/
def State.presentBit (s : State) (r : Reg) (n : Nat) : Bool := (s.reg r).testBit n

/-- The presence-map register and bit of lane `l` (Table 00.2). -/
def laneBit (l : Nat) : Reg × Nat :=
  (if l < 64 then R.pres_LANES0 else if l < 128 then R.pres_LANES1 else if l < 192 then R.pres_LANES2 else R.pres_LANES3, l % 64)

/-- The presence-map register and bit of PC index `n`. -/
def pcBit (n : Nat) : Reg × Nat := (if n < 64 then R.pres_PCS0 else R.pres_PCS1, n % 64)

def State.lanePresent (s : State) (l : Nat) : Bool := s.presentBit (laneBit l).1 (laneBit l).2
def State.pcPresent (s : State) (n : Nat) : Bool := s.presentBit (pcBit n).1 (pcBit n).2
def State.ringPresent (s : State) (k : Nat) : Bool := s.presentBit R.pres_RINGS k
def State.swapPresent (s : State) (n : Nat) : Bool := s.presentBit R.pres_SWAP n
def State.enginePresent (s : State) (e : Nat) : Bool := s.presentBit R.pres_RASTER e
def State.movePresent (s : State) (m : Nat) : Bool := s.presentBit R.pres_MOVE m

/-! ### Events (R508 to R511) -/

/-- The codes of class FAULT (Table 18.7). -/
def faultEvents : List Nat := [0x1010, 0x1301, 0x2002, 0x2006, 0x2009, 0x2012, 0x2014, 0x2102, 0x2203, 0x3001, 0x3003, 0x3004,
  0x3005, 0x4007, 0x4008, 0x6005, 0x7001, 0x7006, 0x7007, 0x8101, 0x8207, 0x9005]

/-- The codes of class ON_AIR (Table 18.7). -/
def onAirEvents : List Nat := [0x1002, 0x1007, 0x1008, 0x1302, 0x1303, 0x2202, 0x2205, 0x2206, 0x2207, 0x2301, 0x2302, 0x2303,
  0x3008, 0x3102, 0x3103, 0x4002, 0x4003, 0x5010, 0x5013, 0x5014, 0x5020, 0x5032, 0x6001, 0x6002, 0x7102, 0x7104, 0x8001, 0x8002,
  0x8203]

/-- The codes of class BREACH (Table 18.7, R501). -/
def breachEvents : List Nat := [0x2103, 0x4004, 0x4006, 0x5011, 0x5012, 0x5015, 0x5016, 0x5017, 0x5018, 0x7105]

/-- The class of an event code (Table 18.7): 0 NOTICE, 1 FAULT, 2 ON_AIR, 3 BREACH. -/
def eventClass (code : Nat) : Nat :=
  if faultEvents.contains code then 1 else if onAirEvents.contains code then 2 else if breachEvents.contains code then 3 else 0

/-- The power state field of an event record's CONTEXT (Table 18.8). -/
def State.contextPower (s : State) : Nat :=
  match s.phase with
  | .run => match s.reg R.pow_STATE with
    | 0 => 0
    | 4 => 2
    | _ => 1
  | .night => 3
  | _ => 4

/-- CONTEXT of an event record (Table 18.8). -/
def State.context (s : State) : Nat :=
  s.contextPower + b2n (!s.tbRun) * 8 + b2n (s.reg R.tb_STATE != 2) * 16

/-- TIME of an event record: the timebase while it runs, else the island counter (Table 18.8). -/
def State.stamp (s : State) : Nat := if s.tbRun then s.now else s.mono

/-- The latched conditions a raise sets (Table 18.4): NO_COPY, SCRUB_LATE, BREACH. -/
def raiseLatches (code : Nat) : Nat :=
  (if code == 0x3008 then 64 else 0) + (if code == 0x7105 then 128 else 0) + (if breachEvents.contains code then 16 else 0)

/-- A raise meets the queue (R510): it merges with a queued record of its CODE and DATA, joins the queue, displaces the newest
NOTICE record of a full queue, or is dropped. The flag says whether a record was dropped. -/
def enqueue (q : List EvRec) (r : EvRec) : List EvRec × Bool :=
  match q.findIdx? (fun e => e.code == r.code && e.data == r.data) with
  | some i => (upd q i fun e => { e with reps := min (e.reps + 1) 0xFFFF }, false)
  | none =>
    if q.length < 1024 then (q ++ [r], false)
    else if r.cls == 0 then (q, true)
    else
      let k := (q.reverse.findIdx? fun e => e.cls == 0)
      match k with
      | none => (q, true)
      | some j => (q.eraseIdx (q.length - 1 - j) ++ [r], true)

/-- A dropped record is counted, and opens a drop interval when none runs (R510). -/
def State.countDrop (s : State) : State :=
  let s := s.inc R.log_DROPPED
  { s with log := { s.log with dropCount := s.log.dropCount + 1, dropStart := some (s.log.dropStart.getD s.mono) } }

/-- The record queue. -/
def State.setQueue (s : State) (q : List EvRec) : State := { s with log := { s.log with queue := q } }

/-- The conditions a raise latches (Table 18.4). -/
def State.latch (s : State) (m : Nat) : State := { s with latched := s.latched ||| m }

/-- A record joins the queue (R510). -/
def State.queueRecord (s : State) (r : EvRec) : State :=
  let q := enqueue s.log.queue r
  let s := (s.setQueue q.1).peak R.log_QUEUE_PEAK 0 q.1.length
  if q.2 then s.countDrop else s

/-- RAISED, and BREACHES for the codes of class BREACH (R508, R501). -/
def State.countRaise (s : State) (code : Nat) : State :=
  let s := s.inc R.ev_RAISED code
  if breachEvents.contains code then s.inc R.integ_BREACHES else s

/-- Event `code` is raised with its data and EXTRA fields (R508 to R510, R501). -/
def State.raiseX (s : State) (code data extra : Nat) : State :=
  let s := s.countRaise code
  (s.latch (raiseLatches code)).queueRecord ⟨0, s.stamp, code, data % 2 ^ 32, eventClass code, s.context, 0, extra⟩

/-- Event `code` is raised with its data. -/
def State.raise (s : State) (code data : Nat) : State := s.raiseX code data 0

/-- A presence-map change (R11, R13): the bits clear, CHANGES rises by one, event 0x1010. A bit already clear changes nothing. -/
def State.absent (s : State) (r : Reg) (n : Nat) : State :=
  if s.presentBit r n then
    let s := s.setReg r 0 (putBit (s.reg r) n false)
    let s := s.inc R.pres_CHANGES
    s.raise 0x1010 (s.reg R.pres_CHANGES)
  else s

/-! ### Time -/

/-- One turn of the seconds field (R30, R32), in ns: times are taken modulo 2^48 s. -/
def timeSpan : Nat := 2 ^ 48 * 1000000000

/-- A time with a duration added (R32): the device does not saturate. -/
def shiftTime (t : Nat) (d : Int) : Nat := (((t : Int) + d) % (timeSpan : Int)).toNat

/-- What is left of an offset after `c` ns of correction toward zero. -/
def slewed (off : Int) (c : Nat) : Int := if off ≥ 0 then max 0 (off - (c : Int)) else min 0 (off + (c : Int))

/-! ### The board (chapter 21) -/

/-- The nominal voltage of a GPIO bank group in µV: the highest bank's.
[PRESUMED, log 161: unsafe] -/
def vioNominal (lo hi : Nat) : Nat :=
  let mv := ((List.range 32).filter fun b => decide (lo ≤ b) && decide (b ≤ hi)).foldl (fun m b => max m (Config.vioMv b)) 0
  if 1650 ≤ mv then 1800000 else if 1350 ≤ mv then 1500000 else 1200000

/-- The rail of an ADC channel is in range (Table 21.4), as its last sample found it; one that has not been sampled is.
[DESIGN CHOICE, log 290: unsafe] -/
def State.channelOk (s : State) (c : Nat) : Bool :=
  match Rail.ofChannel c, s.board.codes.find? fun p => p.1 == c with
  | some r, some (_, code) => r.inRange ((if c = 31 then vioNominal 0 15 else vioNominal 16 31) / 1000) (20000 * code / 4096)
  | _, _ => true

/-- Every rail is in range (R562). -/
def State.railsOk (s : State) : Bool := (List.range 12).all fun i => s.channelOk (24 + i)

/-- The MRAM store accepts writes: VNV, VAUX and VTWI are in range (R563). -/
def State.storeAccepts (s : State) : Bool := [33, 34, 35].all s.channelOk

/-- The amplitude of the sync at REF_IN in mV, as channel 36 last found its peak (R568); 300 where it has not been sampled.
[DESIGN CHOICE, log 290: unsafe] -/
def State.syncMv (s : State) : Nat := ((s.board.codes.find? fun p => p.1 == 36).map fun p => 2000 * p.2 / 4096).getD 300

/-- An ADC sample of a rail or of REF_IN is the level the board brings. -/
def State.boardSample (s : State) (c code : Nat) : State :=
  if 24 ≤ c ∧ c ≤ 36 then { s with board := { s.board with codes := (c, code) :: s.board.codes.filter fun p => p.1 != c } } else s

/-! ### Fuse groups (R536) -/

/-- The fuse group of state `v` is blown, wholly or in part. -/
def Service.setGroup (x : Service) (v : Nat) (whole : Bool) : Service := { x with groups := (v, whole) :: x.groups.filter fun p => p.1 != v }

/-- The latest state of Table 20.1 whose fuse group is wholly blown; BLANK with none. -/
def Service.lifecycle (x : Service) : Nat := ([4, 3, 2, 1].find? fun v => x.groups.contains (v, true)).getD 0

/-! ### Time -/

/-- Time passes to instant `t` of the timebase (of the island counter while the timebase does not run); never backwards. The
offset being slewed shrinks by SLEW_MAX parts per million of the time that passes (R39), `slewRest` carrying the millionths of a ns.
[DEDUCED, log 7: unsafe, DEDUCED, log 8: unsafe, DEDUCED, log 9: unsafe, DESIGN CHOICE, log 189: unsafe] -/
def State.advanceTo (s : State) (t : Nat) : State :=
  if s.tbRun then
    let d := t - s.now
    let c := s.tb.slewRest + d * s.reg R.tb_SLEW_MAX
    let left := slewed s.tb.slew (c / 1000000)
    { s with now := (s.now + d) % timeSpan, mono := s.mono + d,
             tb := { s.tb with slew := left, slewRest := if left = 0 then 0 else c % 1000000 } }
  else { s with mono := s.mono + (t - s.mono) }

/-- Island time passes until instant `t`, if it has not come.
[DEDUCED, log 7: unsafe, DEDUCED, log 8: unsafe, DESIGN CHOICE, log 189: unsafe] -/
def State.waitUntil (s : State) (t : Nat) : State := s.advanceTo ((if s.tbRun then s.now else s.mono) + (t - s.mono))

/-- The data path runs: the device is ACTIVE or in a state it entered from there, or a restart of its steward has left it DARK (R493). -/
def State.dataRuns (s : State) : Bool := s.phase == .run || (s.phase == .dark && s.boot.done.contains 10)

/-- Every element of a list applied in order. -/
def State.each {α : Type} (s : State) (l : List α) (f : State → α → State) : State := l.foldl f s

end Sys2Proof.Machine
end

