-- ==== Sys2Proof/Machine/Topology.lean ====
section
/-! DEFINITION. Where the units of the device lie: the stops of the Meridian rings (Table 09.1, R260, R261), the units and stops of
each power domain (Table 16.1), and the paths of flits (R263). -/

namespace Sys2Proof.Machine

/-- The kinds of stop (0x4002[g].1). -/
inductive StopKind where
  | exchange | store | quad | raster | fabric | slice
  deriving DecidableEq, Repr

/-- KIND of 0x4002. -/
def StopKind.code : StopKind → Nat
  | .exchange => 0 | .store => 1 | .quad => 2 | .raster => 3 | .fabric => 4 | .slice => 5

/-- The kind and unit of stop `g` (Table 09.1). -/
def stopUnit (g : Nat) : StopKind × Nat :=
  let k := g / 24
  match g % 24 with
  | 0 => (.exchange, k)
  | 1 => (.store, 2 * k)
  | 2 => (.store, 2 * k + 1)
  | 3 => (.quad, 4 * k)
  | 4 => (.fabric, 8 * k)
  | 5 => (.fabric, 8 * k + 1)
  | 6 => (.store, 32 + 2 * k)
  | 7 => (.store, 32 + 2 * k + 1)
  | 8 => (.quad, 4 * k + 1)
  | 9 => (.raster, 2 * k)
  | 10 => (.fabric, 8 * k + 2)
  | 11 => (.fabric, 8 * k + 3)
  | 12 => (.slice, k)
  | 13 => (.store, 64 + 2 * k)
  | 14 => (.store, 64 + 2 * k + 1)
  | 15 => (.quad, 4 * k + 2)
  | 16 => (.fabric, 8 * k + 4)
  | 17 => (.fabric, 8 * k + 5)
  | 18 => (.store, 96 + 2 * k)
  | 19 => (.store, 96 + 2 * k + 1)
  | 20 => (.quad, 4 * k + 3)
  | 21 => (.raster, 2 * k + 1)
  | 22 => (.fabric, 8 * k + 6)
  | _ => (.fabric, 8 * k + 7)

/-- Whether stop `g` is a master stop: a stop through which masters reach memory (R261, R225), the scheduler or the steward. -/
def isMaster (g : Nat) : Bool :=
  decide (384 ≤ g) || match (stopUnit g).1 with
    | .exchange | .store => false
    | _ => true

/-- A master stop whose ring is not fenced; the scheduler and the steward are master stops too. -/
def State.isMasterStop (s : State) (g : Nat) : Bool := isMaster g && (decide (384 ≤ g) || s.ringPresent (g / 24))

/-- The identity of the stop of PC index `n`: ring (n mod 32) / 2. -/
def pcStop (n : Nat) : Nat :=
  n % 32 / 2 * 24 + (match n / 32 with | 0 => 1 | 1 => 6 | 2 => 13 | _ => 18) + n % 2

/-- The PCs of stack `k`. -/
def stackPcs (k : Nat) : List Nat := (List.range 32).map fun p => 32 * k + p

/-- The identity of the stop of lane quad `q`. -/
def quadStop (q : Nat) : Nat := q / 4 * 24 + (match q % 4 with | 0 => 3 | 1 => 8 | 2 => 15 | _ => 20)

/-- The identity of the stop of raster engine `e`. -/
def rasterStop (e : Nat) : Nat := e / 2 * 24 + (if e % 2 = 0 then 9 else 21)

/-- The identity of fabric stop `f`. -/
def fabricStop (f : Nat) : Nat :=
  f / 8 * 24 + (match f % 8 with | 0 => 4 | 1 => 5 | 2 => 10 | 3 => 11 | 4 => 16 | 5 => 17 | 6 => 22 | _ => 23)

/-- The identity of the stop of scratchpad slice `k`, where move engines 4k to 4k + 3 sit too. -/
def sliceStop (k : Nat) : Nat := k * 24 + 12

/-- The stop of operator `o` (Table 03.7: raster engines 0 to 31, move engines 32 to 95, fabric ports 96 to 607). -/
def operatorStop (o : Nat) : Nat :=
  if o < 32 then rasterStop o else if o < 96 then sliceStop ((o - 32) / 4) else fabricStop ((o - 96) / 4)

/-- The quadrant whose fabric stops lie on ring `k` (R318). -/
def ringQuadrant (k : Nat) : Nat := k / 8 * 2 + k % 2

/-- The quadrant of fabric port `q` of 0 to 511: that of its stop's ring (R261, R318). -/
def portQuadrant (q : Nat) : Nat := ringQuadrant (q / 32)

/-- The power domain of stop `g`: that of its unit where Table 16.1 gives it one, else the steward's, which the exchange, the scratchpad with the move
engines and the ring stops of the stream-engine blocks belong to (R464). -/
def stopDomain (g : Nat) : Nat :=
  let u := stopUnit g
  match u.1 with
  | .store => u.2 / 32
  | .raster => 68 + u.2
  | .fabric => 100 + ringQuadrant (g / 24)
  | _ => 105

/-- The ring stops of power domain `d` (Table 16.1). -/
def domainStops (d : Nat) : List Nat := (List.range 384).filter fun g => stopDomain g == d

/-- The segments from stop `a` to stop `b` of one ring and the direction taken (R263): segment s joins stops s and s + 1. -/
def ringPath (a b : Nat) : Nat × List Nat :=
  let d0 := (b + 24 - a) % 24
  let d1 := (a + 24 - b) % 24
  if d0 ≤ d1 then (0, (List.range d0).map fun i => (a + i) % 24)
  else (1, (List.range d1).map fun i => (a + 23 - i) % 24)

/-- A transfer holds the port of the target of stop `g`. -/
def Holder.atPort (g : Nat) (h : Holder) : Bool :=
  h.input / 3 == g && match h.arb with
    | .exchange _ => false
    | _ => true

/-- A stop takes a state of Table 09.8: 0 ACTIVE, 1 DRAINING, 2 ASLEEP, 3 DEAD; a change raises event 0x400A (R290). A transfer that holds the
target's port and no entries is not accepted (R291): in another state than ACTIVE it holds the port no more. -/
def State.setStop (s : State) (g st : Nat) : State :=
  if s.reg R.stop_STATE g = st then s
  else
    let s : State := if st = 0 then s else { s with rings := { s.rings with holding := s.rings.holding.filter fun h => !h.atPort g } }
    (s.setReg R.stop_STATE g st).raise 0x400A (g + st * 2 ^ 12)

end Sys2Proof.Machine
end

