-- ==== Sys2Proof/Machine/Access.lean ====
section
/-! DEFINITION. Who may do what to an object (R413 to R418, R486, R491): the checks of Table 14.8 that every write passes before
the object's own rules, in its order. -/

namespace Sys2Proof.Machine

/-- The object with an index. -/
def findObj (index : Nat) : Option ObjDef := objTable.find? fun o => o.index == index

/-- The subindex of an object; subindex 0 is COUNT, the highest subindex present (R16). -/
def ObjDef.row (o : ObjDef) (sub : Nat) : Option Row :=
  if sub = 0 then some ⟨0, .u8, .ro, 0, 255, 0, false⟩ else o.rows.find? fun r => r.sub == sub

/-- The row of a subindex in an instance: the window of core 1's watchdog is RO (R456). -/
def Row.ofInstance (row : Row) (index inst : Nat) : Row :=
  if index = 0x8000 ∧ inst = 1 ∧ 7 ≤ row.sub ∧ row.sub ≤ 9 then { row with acc := .ro } else row

/-- The row an object reference names, if Table 14.4 and the object's table have it (R418). -/
def findRow (r : ObjRef) : Option Row :=
  match findObj r.index with
  | some o => if r.inst < o.instances then (o.row r.sub).map (·.ofInstance r.index r.inst) else none
  | none => none

/-- The access codes that permit a read, and a write (R413). -/
def Access.readable : Access → Bool
  | .ro | .rw | .rc | .rs => true
  | _ => false

def Access.writable : Access → Bool
  | .rw | .wo | .w1c => true
  | _ => false

/-- IMAGE_DATA, the stream of R356. -/
def isImageData (index sub : Nat) : Bool := index == 0x7040 && sub == 5

/-- The write rights of Table 14.2; PEER's own session instance is R414's. -/
def classWrites (c : AccessClass) (index sub : Nat) : Bool :=
  match c with
  | .host => !isImageData index sub
  | .service => true
  | .operator => index / 0x1000 != 0xA
  | .peer => isImageData index sub || index / 0x100 == 0x91 || index == 0x1102
  | .watch => (decide (0x8000 ≤ index) && decide (index ≤ 0x82FF)) || index / 0x100 == 0x90

/-- R414: what may write object 0x1102; `close` says that the value is one that COMMAND takes, CLOSE. -/
def sessionWriteOk (w : Who) (inst sub : Nat) (close : Bool) : Bool :=
  w.slot == some inst || (sub == 11 && close && (w.cls == .host || w.cls == .service))

/-- The write lock is held, and not by the session of `w`, of class HOST, OPERATOR or PEER (R416). -/
def State.lockForeign (s : State) (w : Who) : Bool :=
  match w.slot with
  | none => false
  | some n =>
    s.on R.stw_LOCK_OWNER && s.reg R.stw_LOCK_OWNER != s.reg R.ses_ID n && (w.cls == .host || w.cls == .operator || w.cls == .peer)

/-- R416: the write lock stops a write by another session of class HOST, OPERATOR or PEER, COMMAND = CLOSE excepted. A write to LOCK_OWNER is judged
by its value. -/
def State.lockBlocks (s : State) (w : Who) (index inst sub : Nat) (close : Bool) : Bool :=
  s.lockForeign w && !(index == 0x1102 && (w.slot == some inst || (sub == 11 && close))) && !(index == 0x1100 && sub == 6)

/-- The ID of the session of `w`; 0 outside one. -/
def State.ownId (s : State) (w : Who) : Nat := match w.slot with | some n => s.reg R.ses_ID n | none => 0

/-- R416: a write to LOCK_OWNER that is no claim, by another session of class HOST, OPERATOR or PEER, while the lock is held.
[DEDUCED, log 121: unsafe] -/
def State.lockDenied (s : State) (w : Who) (ident : Nat) : Bool := s.lockForeign w && (ident == 0 || ident != s.ownId w)

/-- Whether the steward serves the port of `w` at all (R491, R486, R488, R493, R494, R546): between Daybreak step 5 and NIGHT, while core 1
runs; in HELD on the SPI and debug ports only; over the management port from step 6, and not with an IPV4 of 0. -/
def State.dictUp (s : State) (w : Who) : Bool :=
  !s.boot.restarting && !s.boot.stopped && s.dusk.core1.haltedAt.isNone && (w.cls != .operator || s.on R.mgmt_IPV4) && match s.phase with
    | .run => s.boot.done.contains 5
    | .daybreak => s.boot.done.contains 5 && (w.cls != .operator || s.boot.done.contains 6)
    | .held => w.cls == .host || w.cls == .service
    | _ => false

/-- Whether the steward executes an operation of `w` now: from the commit lead of a profile switch until its last entry has applied, those of
WATCH and the entries themselves only (R441). -/
def State.dictAnswers (s : State) (w : Who) : Bool :=
  s.dictUp w && (!s.steward.switching || s.boot.applying || w.cls == .watch)

/-- Whether the device's state refuses every write of this class with STATE: Daybreak (R491), HELD (R486), NIGHTFALL (R471);
an entry of a profile is applied all the same (R437). -/
def State.writesClosed (s : State) (w : Who) : Bool :=
  !s.boot.applying && match s.phase with
  | .run => s.reg R.pow_STATE == 4 && w.cls != .watch
  | .held => w.cls != .service
  | _ => true

/-- Whether the device's state refuses a read with STATE: NIGHTFALL for all but WATCH (R471), HELD for all but class SERVICE and the
objects R486 names. -/
def State.readsClosed (s : State) (w : Who) (index : Nat) : Bool :=
  match s.phase with
  | .run => s.reg R.pow_STATE == 4 && w.cls != .watch
  | .held => w.cls != .service && !([0x1000, 0x1010, 0x1100, 0x9001, 0x9002].contains index)
  | _ => false

/-- Whether the device's state refuses an OPEN with STATE: NIGHTFALL (R471). In HELD a session may open, for the READs that R486 lets the SPI port
make need one.
[DEDUCED, log 278: unsafe] -/
def State.opensClosed (s : State) (w : Who) : Bool := s.phase != .held && s.readsClosed w 0

/-- Whether the device's state refuses another operation than READ, WRITE and OPEN with STATE: NIGHTFALL for all but WATCH (R471), HELD for all but
class SERVICE (R486). -/
def State.othersClosed (s : State) (w : Who) : Bool := s.readsClosed w 0

/-- A read of an object by `w`, checked in the order of Table 14.8; `k` is the read itself.
[DEDUCED, log 4: unsafe] -/
def State.readAs (s : State) (w : Who) (r : ObjRef) (k : State → Row → State) : State :=
  if !s.dictAnswers w then s.silent
  else match findRow r with
    | none => s.noSuchObject
    | some row =>
      if !row.acc.readable then s.accessDenied
      else if s.readsClosed w r.index then s.stateError
      else k s row

/-- A write by `w`, checked in the order of Table 14.8, rows 1 to 6: `okTy` says that the value has the length of the object's type, `inOrder`
that a piece comes in its turn, `okVal` that the value lies in the range the object's table states; `k` is the write itself with the object's
own rules.
[DEDUCED, log 111: unsafe] -/
def State.writeOrdered (s : State) (w : Who) (r : Reg) (inst : Nat) (okTy inOrder okVal : Bool) (k : State → State) : State :=
  let index := r.ref / 256
  let sub := r.ref % 256
  if !s.dictAnswers w then s.silent
  else match findRow ⟨index, inst, sub⟩ with
    | none => s.noSuchObject
    | some row =>
      if !row.acc.writable || !classWrites w.cls index sub || (index == 0x1102 && !sessionWriteOk w inst sub (okTy && okVal)) ||
          s.lockBlocks w index inst sub (okTy && okVal) then s.accessDenied
      else if !okTy then s.typeError
      else if !inOrder then s.domainOrder
      else if !okVal then s.badValue
      else if s.writesClosed w then s.stateError
      else k s

/-- A write of a whole value. -/
def State.writeChecked (s : State) (w : Who) (r : Reg) (inst : Nat) (okTy okVal : Bool) (k : State → State) : State :=
  s.writeOrdered w r inst okTy true okVal k

/-- A write of a value whose length is right.
[DEDUCED, log 4: unsafe, DEDUCED, log 111: unsafe] -/
def State.writeAs (s : State) (w : Who) (r : Reg) (inst : Nat) (okVal : Bool) (k : State → State) : State :=
  s.writeChecked w r inst true okVal k

/-- A write whose value is a number, checked against the range of its table row. -/
def State.writeNum (s : State) (w : Who) (r : Reg) (inst : Nat) (v : Int) (k : State → State) : State :=
  let ok := match findRow ⟨r.ref / 256, inst, r.ref % 256⟩ with
    | some row => decide (row.lo ≤ v) && decide (v ≤ row.hi)
    | none => true
  s.writeAs w r inst ok k

end Sys2Proof.Machine
end

