-- ==== Sys2Proof/Machine/Cadence.lean ====
section
/-! DEFINITION. Cadences: where frame marks fall (R48, R50), which frame an instant belongs to (R52), the arming of commit sets
(R54, R55). -/

namespace Sys2Proof.Machine

/-- Frame mark `n` of cadence `c`, in ns (R48; R50 for SAMPLE cadences). -/
def State.markTime (s : State) (c n : Nat) : Nat :=
  if s.reg R.cad_KIND c = 0 then ceilDiv (n * s.reg R.cad_RATE_DEN c * 1000000000) (s.reg R.cad_RATE_NUM c)
  else ceilDiv (n * s.reg R.cad_SAMPLES c * 62500) 3

/-- The frame of cadence `c` that contains instant `t` (R48, R52). -/
def State.frameAt (s : State) (c t : Nat) : Nat :=
  if s.reg R.cad_KIND c = 0 then t * s.reg R.cad_RATE_NUM c / (s.reg R.cad_RATE_DEN c * 1000000000)
  else t * 3 / (s.reg R.cad_SAMPLES c * 62500)

/-- The shorter of a cadence's two frame periods, P of chapter 04. -/
def State.period (s : State) (c : Nat) : Nat :=
  if s.reg R.cad_KIND c = 0 then s.reg R.cad_RATE_DEN c * 1000000000 / s.reg R.cad_RATE_NUM c
  else s.reg R.cad_SAMPLES c * 62500 / 3

/-- The first frame whose mark is not before `t`. -/
def State.firstMarkFrom (s : State) (c t : Nat) : Nat :=
  let n := s.frameAt c t
  if t ≤ s.markTime c n then n else n + 1

/-- Line tick `l` of frame `n` (R49). -/
def State.lineTick (s : State) (c n l : Nat) : Nat :=
  ceilDiv ((n * s.reg R.cad_LINES c + l) * s.reg R.cad_RATE_DEN c * 1000000000) (s.reg R.cad_RATE_NUM c * s.reg R.cad_LINES c)

/-- The start of the second field of frame `n` (R49): line tick ⌈LINES / 2⌉ of an INTERLACED cadence with line ticks. -/
def State.secondField (s : State) (c n : Nat) : Option Nat :=
  if s.on R.cad_INTERLACED c ∧ s.reg R.cad_LINES c ≠ 0 then some (s.lineTick c n (ceilDiv (s.reg R.cad_LINES c) 2)) else none

/-- The instant from which cadence `c` makes marks (R41, R51).
[DEDUCED, log 25: unsafe] -/
def State.cadStart (s : State) (c : Nat) : Nat := nth s.tb.cadFrom c 0

/-- The next mark of cadence `c` to be made. -/
def State.nextMark (s : State) (c : Nat) : Nat := s.firstMarkFrom c (s.cadStart c)

/-- The commit lead of R54, 100 µs. -/
def commitLead : Nat := 100000

/-- The first mark of a cadence whose commit lead has not passed (R55). -/
def State.firstArmable (s : State) (c : Nat) : Nat :=
  s.firstMarkFrom c (max (s.now + commitLead) (s.cadStart c))

/-- The frame an arming for `target` uses: "next" (all ones), a target whose lead has passed and one before the cadence's first
mark go to the first armable mark (R55). -/
def State.armFrame (s : State) (c target : Nat) : Nat := if target = 2 ^ 64 - 1 then s.firstArmable c else max target (s.firstArmable c)

/-- A member joins the commit set of its cadence and target, or opens one (R54). A set that its commit lead has already found ready has to be
checked again with the new member, which may come at that very instant. -/
def State.armMember (s : State) (c target : Nat) (m : Member) : State :=
  let sets := s.tb.sets
  let sets :=
    match sets.findIdx? (fun x => x.cad == c && x.target == target) with
    | some i => upd sets i fun x => { x with ready := false, members := x.members ++ [m] }
    | none => sets ++ [⟨c, target, 0, false, [m]⟩]
  { s with tb := { s.tb with sets := sets } }

/-- The members that satisfy `p` leave their sets; a set left empty goes. -/
def State.dropMembers (s : State) (p : Member → Bool) : State :=
  let sets := s.tb.sets.map fun x => { x with members := x.members.filter fun m => !p m }
  { s with tb := { s.tb with sets := sets.filter fun x => !x.members.isEmpty } }

/-- Every armed member. -/
def State.armed (s : State) : List Member := s.tb.sets.flatMap CommitSet.members

/-- How many commit sets are armed on a cadence (PENDING, Table 02.6). -/
def State.pendingSets (s : State) (c : Nat) : Nat := (s.tb.sets.filter fun x => x.cad == c).length

/-- A graph member names a slot as the one it starts, stops or switches from (R94). -/
def Member.from (m : Member) (g : Nat) : Bool :=
  match m with
  | .graphStart a => a == g
  | .graphStop a => a == g
  | .graphSwitch a _ => a == g
  | _ => false

/-- A graph member names a slot in any role (R94). -/
def Member.names (m : Member) (g : Nat) : Bool := m.from g || (match m with | .graphSwitch _ b => b == g | _ => false)

/-- The slot a member starts. -/
def Member.starts (m : Member) : Option Nat :=
  match m with
  | .graphStart a => some a
  | .graphSwitch _ b => some b
  | _ => none

/-- The slot a member stops. -/
def Member.stops (m : Member) : Option Nat :=
  match m with
  | .graphStop a => some a
  | .graphSwitch a _ => some a
  | _ => none

/-! ### The time port (R329) -/

/-- The first edge of TB_CLK at or after an instant: 250 MHz.
[DEDUCED, log 228: unsafe] -/
def tbEdge (t : Nat) : Nat := ceilDiv t 4 * 4

/-- The edge of TB_CLK whose cycle the timebase is in.
[DEDUCED, log 228: unsafe] -/
def State.tbClk (s : State) : Nat := s.now / 4 * 4

/-- Pulses of the time port for an instant: on the MARK bits `marks`, and on TICK; those of one cycle stand together. A pulse is kept until its
cycle has passed. -/
def State.pulse (s : State) (t marks : Nat) (tick : Bool) : State :=
  let live := s.fabric.time.filter fun p => decide (s.tbClk ≤ p.edge) && p.edge != tbEdge t
  let same := s.fabric.time.find? fun p => p.edge == tbEdge t
  let p : TimePulse := { edge := tbEdge t, marks := same.elim 0 TimePulse.marks ||| marks, tick := same.elim false TimePulse.tick || tick }
  { s with fabric := { s.fabric with time := p :: live } }

/-- What is known of PTP on port `p`. -/
def State.ptpPort (s : State) (p : Nat) : PtpPort := tget (fun _ => {}) s.tb.ptp p

def State.onPtp (s : State) (p : Nat) (u : PtpPort → PtpPort) : State :=
  { s with tb := { s.tb with ptp := tput (fun _ => {}) p (u (s.ptpPort p)) s.tb.ptp } }

end Sys2Proof.Machine
end

