-- ==== Sys2Proof/Machine/Crc.lean ====
section
/-! DEFINITION. The cyclic redundancy checks of the manual: CRC-32 with the IEEE 802.3 polynomial (frames, images, records) and the
CRC-8 of flit headers (R265). -/

namespace Sys2Proof.Machine

/-- One bit of the reflected CRC-32. -/
def crc32Bit (c : Nat) : Nat := if c % 2 = 1 then (c / 2) ^^^ 0xEDB88320 else c / 2

/-- One byte of the CRC-32. -/
def crc32Byte (c : Nat) (b : Byte) : Nat :=
  crc32Bit (crc32Bit (crc32Bit (crc32Bit (crc32Bit (crc32Bit (crc32Bit (crc32Bit (c ^^^ b.toNat))))))))

/-- CRC-32 (IEEE 802.3): reflected, initial value and final exclusive-or all ones. -/
def crc32 (l : List Byte) : Nat := (l.foldl crc32Byte 0xFFFFFFFF) ^^^ 0xFFFFFFFF

/-- A byte string with `k` bytes from `off` on taken as zero. -/
def zeroed (l : List Byte) (off k : Nat) : List Byte := l.take off ++ List.replicate (min k (l.length - off)) 0 ++ l.drop (off + k)

/-- Whether the CRC-32 in the four bytes at `off` holds over the whole string with those bytes taken as zero. -/
def crcHolds (l : List Byte) (off : Nat) : Bool := crc32 (zeroed l off 4) == leAt l off 4

/-- One bit, most significant first, of the CRC with polynomial x^8 + x^2 + x + 1. -/
def crc8Bit (c : Nat) (b : Bool) : Nat :=
  let top := (c / 128 % 2 == 1) != b
  let c := c * 2 % 256
  if top then c ^^^ 0x07 else c

/-- CRC-8 over the `n` low bits of `w`, bit n − 1 first, from an initial value. -/
def crc8 (init n w : Nat) : Nat := (List.range n).foldl (fun c i => crc8Bit c (w.testBit (n - 1 - i))) init

end Sys2Proof.Machine
end

