-- ==== Sys2Proof/Machine/GraphImage.lean ====
section
/-! DEFINITION. Graph images: how the bytes are read (Tables 03.1 to 03.4) and the load checks of Table 03.6 in their order (R57 to
R60, R59, R66, R70, R73). -/

namespace Sys2Proof.Machine

/-- A buffer record from its 32 bytes (Table 03.2). -/
def parseBuffer (r : List Byte) : BufferRec :=
  let n := ofLe r
  ⟨bits n 31 0, bits n 36 32, bits n 39 37, n.testBit 40, bits n 46 41 + 1, n.testBit 47, bits n 76 64, bits n 89 77, bits n 95 90,
    bits n 127 96, bits n 159 128, bits n 191 160⟩

/-- A node record from its 32 bytes (Table 03.3). -/
def parseNode (r : List Byte) : NodeRec :=
  let n := ofLe r
  ⟨bits n 13 0, bits n 19 16, bits n 23 20, bits n 35 24, bits n 53 36, bits n 95 64, bits n 127 96, bits n 151 128, bits n 153 152,
    bits n 167 154, bits n 184 168, bits n 186 185, bits n 187 187, bits n 215 192, bits n 231 216⟩

/-- An edge record from its 16 bytes (Table 03.4). -/
def parseEdge (r : List Byte) : EdgeRec :=
  let n := ofLe r
  ⟨bits n 11 0, n.testBit 16, bits n 18 17, bits n 23 20, bits n 27 24, bits n 63 32, bits n 76 64, bits n 89 77, bits n 102 90,
    bits n 115 103⟩

/-- `k` records of `size` bytes from offset `off`. -/
def records (l : List Byte) (off size k : Nat) : List (List Byte) := (List.range k).map fun i => slice l (off + size * i) size

/-- The graph an image describes. -/
def parseGraph (l : List Byte) : Graph :=
  { cad := leAt l 14 1
    guaranteed := leAt l 15 1 == 0
    bufs := (records l (leAt l 16 4) 32 (leAt l 12 2)).map parseBuffer
    nodes := (records l (leAt l 20 4) 32 (leAt l 6 2)).map parseNode
    edges := (records l (leAt l 24 4) 16 (leAt l 8 4)).map parseEdge
    params := slice l (leAt l 28 4) (leAt l 32 4)
    cost := slice l (leAt l 36 4) (leAt l 40 4)
    crc := leAt l 60 4 }

/-- The records used where an index lies outside its list. -/
def noBuffer : BufferRec := ⟨0, 0, 0, false, 0, false, 0, 0, 0, 0, 0, 0⟩
def noNode : NodeRec := ⟨0, 0, 0, 0, 0, 0, 0, 0, 0, 0, 0, 0, 0, 0, 0⟩
def noEdge : EdgeRec := ⟨0, false, 0, 0, 0, 0, 0, 0, 0, 0⟩

def Graph.buf (g : Graph) (i : Nat) : BufferRec := nth g.bufs i noBuffer
def Graph.node (g : Graph) (i : Nat) : NodeRec := nth g.nodes i noNode

/-- The input edges of a node: the first IN_COUNT records from EDGE_FIRST (Table 03.3). -/
def Graph.inputs (g : Graph) (v : NodeRec) : List EdgeRec := (g.edges.drop v.edgeFirst).take v.inCount

/-- The output edge of a node, after its inputs. -/
def Graph.output (g : Graph) (v : NodeRec) : Option EdgeRec := if v.outCount = 0 then none else g.edges[v.edgeFirst + v.inCount]?

/-- The nodes that produce buffer `b` of the graph. -/
def Graph.producersOf (g : Graph) (b : Nat) : List NodeRec :=
  g.nodes.filter fun v => match g.output v with | some e => e.buffer == b | none => false

/-- The edges of a node, inputs and output. -/
def Graph.nodeEdges (g : Graph) (v : NodeRec) : List EdgeRec := g.inputs v ++ (g.output v).toList

/-! ### The checks of Table 03.6 -/

/-- Check 1: magic, format, lengths, CRC, offsets and sections. -/
def check1 (l : List Byte) : Bool :=
  let inside (off len : Nat) : Bool := off % 32 == 0 && decide (off + len ≤ l.length)
  decide (64 ≤ l.length) && leAt l 0 4 == 0x6B677266 && leAt l 4 2 == 1 && leAt l 44 4 == l.length && crcHolds l 60 &&
  inside (leAt l 16 4) (32 * leAt l 12 2) && inside (leAt l 20 4) (32 * leAt l 6 2) && inside (leAt l 24 4) (16 * leAt l 8 4) &&
  inside (leAt l 28 4) (leAt l 32 4) && inside (leAt l 36 4) (leAt l 40 4)

/-- A buffer record's fields are in range and its reserved bits zero (check 2). -/
def bufferFieldsOk (r : List Byte) : Bool :=
  let n := ofLe r
  let b := parseBuffer r
  bits n 63 48 == 0 && bits n 255 192 == 0 && decide (2 ≤ b.depth) && decide (b.depth ≤ 16) && decide (b.kind ≤ 3) &&
  b.size % 32 == 0 &&
  (if b.kind == 0 then decide (1 ≤ b.width) && decide (1 ≤ b.height) && fmtValid b.format else b.width == 0 && b.height == 0)

/-- The least PARAM_LEN of an opclass, in words (check 2, R73). -/
def paramMin (opclass : Nat) : Nat := match opclass with
  | 0 => 3
  | 1 => 1
  | 2 => 1
  | 3 => 2
  | _ => 0

/-- A node record's fields are in range and its reserved bits zero (check 2, R73). -/
def nodeFieldsOk (g : Graph) (i : Nat) (r : List Byte) : Bool :=
  let n := ofLe r
  let v := parseNode r
  let op := v.kind == 0
  v.index == i && bits n 15 14 == 0 && bits n 63 54 == 0 && bits n 191 188 == 0 && bits n 255 232 == 0 && decide (v.kind ≤ 2) &&
  (!op || (decide (v.opclass ≤ 4) && decide (1 ≤ v.maxRun))) && decide (v.policy ≤ 2) && (v.policy != 2 || v.kind == 1) &&
  decide (v.edgeFirst + v.inCount + v.outCount ≤ g.edges.length) && decide (32 * (v.paramOfs + v.paramLen) ≤ g.params.length) &&
  (!op || decide (paramMin v.opclass ≤ v.paramLen))

/-- An edge record's fields are in range and its reserved bits zero (check 2). -/
def edgeFieldsOk (g : Graph) (r : List Byte) : Bool :=
  let n := ofLe r
  let e := parseEdge r
  bits n 15 12 == 0 && bits n 19 19 == 0 && bits n 31 28 == 0 && bits n 127 116 == 0 && e.map != 3 &&
  decide (e.buffer < g.bufs.length) && (e.map != 1 || decide (1 ≤ e.back))

/-- Check 2: every field in range, no reserved bit set. -/
def check2 (l : List Byte) (g : Graph) : Bool :=
  decide (1 ≤ g.nodes.length) && decide (g.nodes.length ≤ 16384) && decide (g.edges.length ≤ 65536) &&
  decide (1 ≤ g.bufs.length) && decide (g.bufs.length ≤ 4096) && decide (g.cad ≤ 15) && decide (leAt l 15 1 ≤ 1) &&
  leAt l 48 12 == 0 &&
  (records l (leAt l 16 4) 32 (leAt l 12 2)).all bufferFieldsOk &&
  ((records l (leAt l 20 4) 32 (leAt l 6 2)).zipIdx.all fun p => nodeFieldsOk g p.2 p.1) &&
  (records l (leAt l 24 4) 16 (leAt l 8 4)).all (edgeFieldsOk g)

/-- Whether `v` reads, through a SAME edge, a buffer that one of `us` writes. -/
def Graph.sameFrom (g : Graph) (v : NodeRec) (us : List NodeRec) : Bool :=
  (g.inputs v).any fun e => e.map == 0 && us.any fun u => match g.output u with | some o => o.buffer == e.buffer | none => false

/-- Check 3: no cycle of SAME edges; nodes that read none of the rest leave until none can. -/
def Graph.acyclic (g : Graph) : Nat → List NodeRec → Bool
  | 0, rest => rest.isEmpty
  | k + 1, rest => rest.isEmpty || (let next := rest.filter fun v => g.sameFrom v rest
    if next.length = rest.length then false else g.acyclic k next)

/-- Check 4: the edge counts of Table 03.5 and the directions and maps of a node's edges. -/
def Graph.edgeCountsOk (g : Graph) (v : NodeRec) : Bool :=
  let counts : Bool := match v.kind, v.opclass with
    | 1, _ => v.inCount == 0 && v.outCount == 1 && (match g.output v with | some o => (g.buf o.buffer).live | none => false)
    | 2, _ => v.inCount == 1 && v.outCount == 0
    | _, 3 => v.inCount == 0 && v.outCount == 1
    | _, 1 => v.inCount == 1 && v.outCount == 1
    | _, 2 => v.inCount == 1 && v.outCount == 1
    | _, 0 => decide (1 ≤ v.inCount) && decide (v.inCount ≤ 3) && v.outCount == 1
    | _, _ => decide (v.inCount ≤ 3) && decide (v.outCount ≤ 1)
  counts && (g.inputs v).all (fun e => !e.out) && (match g.output v with | some o => o.out && o.map == 0 | none => true)

/-- Whether operator `o` is present (0x5100.1). -/
def State.operatorPresent (s : State) (o : Nat) : Bool :=
  if o < 32 then s.enginePresent o else if o < 96 then s.movePresent (o - 32) else if o < 608 then s.on R.port_PRESENT (o - 96)
  else false

/-- Whether operator `o` executes an opclass (Table 03.7). -/
def operatorRuns (o cls : Nat) : Bool :=
  if o < 32 then cls == 0 else if o < 96 then cls == 1 || cls == 2 || cls == 3 else if o < 608 then cls == 4 else false

/-- Whether `h` is a defined handle with these SLOTS and SIZE (R62, check 6). -/
def State.handleIs (s : State) (h slots size : Nat) : Bool :=
  h != 0 && s.reg R.hdl_HANDLE (h % 65536) == h &&
    (let d := tget (fun _ => {}) s.sched.handles (h % 65536); d.slots == slots && d.size == size)

/-- Check 7: producer counts of a buffer. -/
def Graph.producersOk (g : Graph) (i : Nat) (b : BufferRec) : Bool :=
  let ps := g.producersOf i
  let sources := ps.filter fun v => v.kind == 1
  ps.length == (if b.external then 0 else b.producers) && (!b.live || ps.all fun v => v.kind == 1) && decide (sources.length ≤ 1)

/-- The region of an output edge: the whole frame when W and H are 0. -/
def EdgeRec.region (e : EdgeRec) (b : BufferRec) : Nat × Nat × Nat × Nat :=
  if e.w = 0 ∧ e.h = 0 then (0, 0, b.width, b.height) else (e.x, e.y, e.w, e.h)

/-- Two regions share a pixel. -/
def regionsMeet (p q : Nat × Nat × Nat × Nat) : Bool :=
  decide (p.1 < q.1 + q.2.2.1) && decide (q.1 < p.1 + p.2.2.1) && decide (p.2.1 < q.2.1 + q.2.2.2) && decide (q.2.1 < p.2.1 + p.2.2.2)

/-- No two regions of a list meet. -/
def regionsApart : List (Nat × Nat × Nat × Nat) → Bool
  | [] => true
  | p :: t => t.all (fun q => !regionsMeet p q) && regionsApart t

/-- Check 8: regions well formed, inside the frame, apart, and covering it; one producer for a buffer that is not video. -/
def Graph.regionsOk (g : Graph) (i : Nat) (b : BufferRec) : Bool :=
  let ps := g.producersOf i
  let outs := ps.filterMap g.output
  let wellFormed := outs.all fun e => if e.w = 0 ∧ e.h = 0 then e.x == 0 && e.y == 0 else e.w != 0 && e.h != 0
  if b.kind != 0 then wellFormed && decide (ps.length ≤ 1)
  else
    let rs := outs.map fun e => e.region b
    wellFormed && (b.external || ps.isEmpty ||
      (rs.all (fun r => decide (r.1 + r.2.2.1 ≤ b.width) && decide (r.2.1 + r.2.2.2 ≤ b.height)) && regionsApart rs &&
        (rs.map fun r => r.2.2.1 * r.2.2.2).sum == b.width * b.height))

/-- The handle is one of an older generation of its entry (R62). -/
def State.handleStale (s : State) (h : Nat) : Bool := h != 0 && decide (h / 65536 < tget (fun _ => 0) s.sched.generation (h % 65536))

/-- Check 11: the BLACK_HANDLEs that R70 requires are defined, of one slot and of the buffer's SIZE. -/
def State.blackOk (s : State) (g : Graph) (i : Nat) (b : BufferRec) : Bool :=
  let readBack := g.nodes.any fun v => (g.inputs v).any fun e => e.buffer == i && (e.map == 1 || e.map == 2)
  let required := !(g.producersOf i).isEmpty || readBack
  !required || (b.black != 0 && s.handleIs b.black 1 b.size)

/-- Check 11, second part: the FALLBACK node of POLICY 2 is a SOURCE of the same FORMAT, WIDTH and HEIGHT. -/
def Graph.fallbackOk (g : Graph) (v : NodeRec) : Bool :=
  v.policy != 2 ||
    (decide (v.fallback < g.nodes.length) &&
      (let u := g.node v.fallback
       u.kind == 1 && (match g.output v, g.output u with
        | some a, some b =>
          let x := g.buf a.buffer
          let y := g.buf b.buffer
          x.format == y.format && x.width == y.width && x.height == y.height
        | _, _ => false)))

/-- A flow counts as configured for a direction (R133). -/
def State.flowConfigured (s : State) (f dir : Nat) : Bool := s.reg R.flow_STATE f != 0 && s.reg R.flow_DIR f == dir

/-- Check 12: the flow of a SOURCE or SINK is configured for its direction. -/
def State.flowOk (s : State) (v : NodeRec) : Bool := v.kind == 0 || s.flowConfigured v.flow (v.kind - 1)

/-- The first failed load check in the order of Table 03.6, or 0 (R60). -/
def State.loadCheck (s : State) (slot : Nat) (l : List Byte) : Nat :=
  let g := parseGraph l
  if !check1 l then 1
  else if !check2 l g then 2
  else if !g.acyclic g.nodes.length g.nodes then 3
  else if !g.nodes.all g.edgeCountsOk then 4
  else if !g.nodes.all (fun v => v.kind != 0 || (s.operatorPresent v.operator && operatorRuns v.operator v.opclass)) then 5
  else if !g.bufs.all (fun b => s.handleIs b.handle b.depth b.size && !s.handleStale b.black) then 6
  else if !g.bufs.zipIdx.all (fun p => g.producersOk p.2 p.1) then 7
  else if !g.bufs.zipIdx.all (fun p => g.regionsOk p.2 p.1) then 8
  else if !g.nodes.all (fun v => (g.inputs v).all fun e => e.map != 1 || decide (e.back < (g.buf e.buffer).depth)) then 9
  else if !(s.on R.cad_ENABLE g.cad && g.nodes.all fun v => (g.inputs v).all fun e => e.map != 2 || s.on R.cad_ENABLE e.srcCad) then 10
  else if !(g.bufs.zipIdx.all (fun p => s.blackOk g p.2 p.1) && g.nodes.all g.fallbackOk) then 11
  else if !g.nodes.all s.flowOk then 12
  else if s.reg R.slot_STATE slot != 0 then 13
  else 0

/-- The handles a graph names: its buffers' and their black handles, each once. -/
def Graph.handlesNamed (g : Graph) : List Nat :=
  ((g.bufs.map BufferRec.handle ++ g.bufs.map BufferRec.black).filter fun h => h != 0).eraseDups

end Sys2Proof.Machine
end

