-- ==== Sys2Proof/Machine/StreamState.lean ====
section
/-! DEFINITION. The running state of flows, and what the scheduler's opening, commit and substitution of a live version does to it
(R135, R137, R140). -/

namespace Sys2Proof.Machine

/-- The running state of flow `f`. -/
def State.flowRun (s : State) (f : Nat) : FlowRun := tget (fun _ => {}) s.streams.flows f

def State.onFlow (s : State) (f : Nat) (u : FlowRun → FlowRun) : State :=
  { s with streams := { s.streams with flows := tput (fun _ => {}) f (u (s.flowRun f)) s.streams.flows } }

/-- The opened version of flow `f` for frame `n`. -/
def State.inFrame? (s : State) (f n : Nat) : Option InFrame := (s.flowRun f).frames.find? fun v => v.frame == n

def State.onInFrame (s : State) (f n : Nat) (u : InFrame → InFrame) : State :=
  s.onFlow f fun r => { r with frames := r.frames.map fun v => if v.frame == n then u v else v }

/-- A flow opens its version of frame `n` of buffer `b` at an address (R135). -/
def State.flowOpened (s : State) (f n addr : Nat) (b : BufferRec) : State :=
  s.onFlow f fun r => { r with newest := some (max n (r.newest.getD 0)), frames := r.frames ++ [{ frame := n, addr := addr, buf := b }] }

/-- The frame was closed and complete at an instant (R139). -/
def InFrame.readyBy (v : InFrame) (t : Nat) : Bool := v.ready.elim false fun r => decide (r ≤ t)

/-- The buffer of the version that flow `f` has open for frame `n` (R144 to R146): after a switch it is the draining graph's. -/
def State.openBuffer (s : State) (f n : Nat) : Option BufferRec := (s.inFrame? f n).map InFrame.buf

/-- A flow's version is no longer open. -/
def State.dropInFrame (s : State) (f n : Nat) : State :=
  s.onFlow f fun r => { r with frames := r.frames.filter fun v => !(v.frame == n) }

/-- A flow's version of frame `n` has committed. -/
def State.flowCommitted (s : State) (f n : Nat) : State :=
  match s.inFrame? f n with
  | some _ => (s.dropInFrame f n).inc R.flow_FRAMES f
  | none => s

/-- An opened version is substituted at its cut-off (R137, R140): LOST counts the gaps between the numbers written, event 0x2202. -/
def State.flowSubstituted (s : State) (f n : Nat) : State :=
  match s.inFrame? f n with
  | some v =>
    let s := s.dropInFrame f n
    let s := if v.count = 0 then s else s.add R.flow_LOST f ((v.hi - v.lo + 1).toNat - v.count)
    s.raise 0x2202 f
  | none => s

end Sys2Proof.Machine
end

