-- ==== Sys2Proof/Machine/Scheduler.lean ====
section
/-! DEFINITION. The graph scheduler's machinery (chapter 03): versions and their commits (R64 to R72), operations (R76 to R79),
ready lists and dispatch (R80 to R82), delay lists (R83 to R85), substitution (R86, R87), faults (R89 to R91) and back-pressure
(R92, R93). -/

namespace Sys2Proof.Machine

/-! ### Looking things up -/

/-- The graph of a slot. -/
def State.graph (s : State) (g : Nat) : Graph := tget (fun _ => {}) s.sched.graphs g

/-- Slot and node record of a node ID (R58). -/
def slotOf (id : Nat) : Nat := id / 16384 % 64
def State.nodeRec (s : State) (id : Nat) : NodeRec := (s.graph (slotOf id)).node (id % 16384)

/-- The output edge and buffer of a node. -/
def State.outBuffer (s : State) (id : Nat) : Option (EdgeRec × BufferRec) :=
  let g := s.graph (slotOf id)
  (g.output (g.node (id % 16384))).map fun e => (e, g.buf e.buffer)

/-- The latched definition of a handle. -/
def State.handleDef (s : State) (h : Nat) : HandleDef := tget (fun _ => {}) s.sched.handles (h % 65536)

/-- The version of a handle's frame. -/
def State.version? (s : State) (h f : Nat) : Option Version := s.sched.versions.find? fun v => v.handle == h && v.frame == f

/-- Every version changed. -/
def State.mapVersions (s : State) (u : Version → Version) : State :=
  { s with sched := { s.sched with versions := s.sched.versions.map u } }

/-- A version changed. -/
def State.onVersion (s : State) (h f : Nat) (u : Version → Version) : State :=
  s.mapVersions fun v => if v.handle == h && v.frame == f then u v else v

/-- A slot is RUNNING, or RUNNING or DRAINING. -/
def State.running (s : State) (g : Nat) : Bool := s.reg R.slot_STATE g == 2
def State.live (s : State) (g : Nat) : Bool := s.reg R.slot_STATE g == 2 || s.reg R.slot_STATE g == 3

/-- Every graph slot. -/
def allSlots : List Nat := List.range 64

/-- The data field of the scheduler's events (R101). -/
def nodeEventData (id frame : Nat) : Nat := id % 2 ^ 20 + frame % 4096 * 2 ^ 20

/-- A breach event is raised: of the admitted graphs it concerns, R22 is no longer promised (R501, R123). -/
def State.breach (s : State) (code data : Nat) (concerns : Nat → Bool) : State :=
  let s := s.raise code data
  let l := allSlots.filter fun g => s.on R.sadm_STATE g && concerns g && !s.adm.breached.contains g
  { s with adm := { s.adm with breached := s.adm.breached ++ l } }

/-- A breach event of a node concerns its graph. -/
def State.breachNode (s : State) (code id f : Nat) : State := s.breach code (nodeEventData id f) fun g => g == slotOf id

/-- A breach event of the delay lists or of the in-flight table concerns every guaranteed graph admitted. -/
def State.breachLists (s : State) (code data : Nat) : State := s.breach code data fun g => (s.graph g).guaranteed

/-- Whether R22 is promised of the graph of a slot (R123, R501): its admission is ADMITTED, and no breach event has concerned it since. -/
def State.promised (s : State) (g : Nat) : Bool := s.reg R.sadm_STATE g == 1 && !s.adm.breached.contains g

/-- The storage slot a version's reads are directed to: its handle's slot address, after aliasing (R71). -/
def State.slotAddr (s : State) (h j : Nat) : Nat := (s.handleDef h).base + j * (s.handleDef h).stride

/-- The lowest-numbered free storage slot of a handle (R64). -/
def State.freeSlot (s : State) (h : Nat) : Option Nat :=
  (List.range (s.handleDef h).slots).find? fun j =>
    !s.sched.versions.any fun v => v.handle == h && v.slot == some j && (v.state == .opened || v.state == .committed)

/-! ### What an edge reads (R68 to R70) -/

/-- Whether a graph RUNNING now will still stage frame `f` of a buffer with handle `h`. -/
def State.willProduce (s : State) (h f : Nat) : Bool :=
  allSlots.any fun g =>
    let G := s.graph g
    s.running g && G.bufs.any (fun b => b.handle == h && !b.external) && decide (s.reg R.slot_FIRST_FRAME g ≤ f) &&
      decide (s.cadStart G.cad ≤ s.markTime G.cad f)

/-- What an input edge of frame `n` reads. -/
inductive Reads where
  | version (handle frame : Nat)
  | black (handle : Nat)
  deriving DecidableEq, Repr

/-- The version an input edge reads in frame `n` of a graph on cadence `c` (R68 to R70): the black handle where its frame never had a
committed version and will have none, and where the version is already freed, of which R70 says nothing. An edge without a black handle
waits for its version.
[DESIGN CHOICE, log 202: unsafe] -/
def State.edgeReads (s : State) (g : Graph) (e : EdgeRec) (n : Nat) : Reads :=
  let b := g.buf e.buffer
  let m : Option Nat :=
    match e.map with
    | 0 => some n
    | 1 => if e.back ≤ n then some (n - e.back) else none
    | _ => if e.lag ≤ s.markTime g.cad n then some (s.frameAt e.srcCad (s.markTime g.cad n - e.lag)) else none
  match m with
  | none => .black b.black
  | some f =>
    let has := match s.version? b.handle f with
      | some v => v.state != .freed
      | none => s.willProduce b.handle f
    if has || b.black == 0 then .version b.handle f else .black b.black

/-- The input can be read: its version is committed, or it reads the black handle. -/
def State.inputReady (s : State) (g : Graph) (e : EdgeRec) (n : Nat) : Bool :=
  match s.edgeReads g e n with
  | .black _ => true
  | .version h f => (s.version? h f).elim false fun v => v.state == .committed

/-- The address an input edge's reads are directed to (R71, Table 03.9), for an input that is ready: such a version is committed, and it or
what it aliases holds a slot. -/
def State.inputAddr (s : State) (g : Graph) (e : EdgeRec) (n : Nat) : Nat :=
  match s.edgeReads g e n with
  | .black h => s.slotAddr h 0
  | .version h f => match s.version? h f with
    | none => s.slotAddr h 0
    | some v => match v.content with
      | .own => s.slotAddr h (v.slot.getD 0)
      | .black h2 => s.slotAddr h2 0
      | .version h2 f2 => s.slotAddr h2 (((s.version? h2 f2).bind Version.slot).getD 0)

/-- The metadata bits an input contributes (R70, R72, Table 03.9): those of its version, or DERIVED_SUBST for a black read. -/
def State.inputMeta (s : State) (g : Graph) (e : EdgeRec) (n : Nat) : Nat :=
  match s.edgeReads g e n with
  | .black _ => 8
  | .version h f => (s.version? h f).elim 0 fun v => v.info % 256

/-- The DERIVED bits an output takes from the OR of its inputs' metadata bits (R72). -/
def derivedBits (m : Nat) : Nat :=
  b2n (m.testBit 0 || m.testBit 3) * 8 + b2n (m.testBit 4 || m.testBit 5) * 32 + b2n (m.testBit 6 || m.testBit 7) * 128

/-! ### Operations -/

/-- The operations of a node that are not retired (PENDING of 0x5003). -/
def State.nodeOps (s : State) (id : Nat) : List Oper := s.sched.ops.filter fun o => o.node == id

/-- An operation changed. -/
def State.onOp (s : State) (id f : Nat) (u : Oper → Oper) : State :=
  { s with sched := { s.sched with ops := s.sched.ops.map fun o => if o.node == id && o.frame == f then u o else o } }

/-- An operation retires. -/
def State.dropOp (s : State) (id f : Nat) : State :=
  { s with sched := { s.sched with ops := s.sched.ops.filter fun o => !(o.node == id && o.frame == f) } }

/-- The ready operations of an operator. -/
def State.readyOps (s : State) (o : Nat) : List Oper := s.sched.ops.filter fun x => x.operator == o && x.state == .ready

/-- READY_OCC of an operator. -/
def State.readyOcc (s : State) (o : Nat) : Nat := (s.readyOps o).length

/-- The operation in an operator's prefetch slot, and the one the scheduler holds ACTIVE. -/
def State.prefetched? (s : State) (o : Nat) : Option Oper := s.sched.ops.find? fun x => x.operator == o && x.state == .prefetched
def State.active? (s : State) (o : Nat) : Option Oper :=
  s.sched.ops.find? fun x => x.operator == o && (x.state == .active)

/-- The order of a ready list (R80). -/
def readyBefore (a b : Oper) : Bool :=
  if a.guaranteed != b.guaranteed then a.guaranteed
  else if a.deadline != b.deadline then decide (a.deadline < b.deadline)
  else if a.node != b.node then decide (a.node < b.node)
  else decide (a.frame < b.frame)

/-- An operation put in its place of a list sorted by `readyBefore`. -/
def insertReady (x : Oper) : List Oper → List Oper
  | [] => [x]
  | y :: t => if readyBefore x y then x :: y :: t else y :: insertReady x t

/-- A ready list in its order. -/
def sortReady (l : List Oper) : List Oper := l.foldr insertReady []

/-- TAG as an operation's descriptor carries it (Table 03.9): in-flight entry, generation, the OR of the input versions' metadata. -/
def Oper.fullTag (o : Oper) : Nat := o.tag + o.inMeta % 256 * 2 ^ 16

/-- Operations that hold an in-flight entry. -/
def State.entriesHeld (s : State) : List Oper := s.sched.ops.filter fun o => o.tag != 0

/-- IN_FLIGHT. -/
def State.inFlight (s : State) : Nat := s.entriesHeld.length

/-- The lowest free in-flight entry.
[DEDUCED, log 39: unsafe] -/
def State.freeEntry (s : State) : Option Nat :=
  (List.range 1024).find? fun e => !s.sched.ops.any fun o => o.tag != 0 && o.tag % 1024 == e

/-- Whether an entry is available to a class (R82). -/
def State.entryFor (s : State) (guaranteed : Bool) : Bool :=
  s.freeEntry.isSome &&
    (guaranteed || decide ((s.entriesHeld.filter fun o => !o.guaranteed).length < 1024 - s.reg R.sched_GUAR_RESERVED))

/-- An operation takes the lowest free entry: its TAG, the entry's next generation (63 is followed by 1, R82), the peak, and event
0x5018 once per frame mark when a guaranteed operation goes beyond GUAR_RESERVED.
[DEDUCED, log 39: unsafe] -/
def State.takeEntry (s : State) (id f : Nat) (guaranteed : Bool) : State :=
  match s.freeEntry with
  | none => s
  | some e =>
    let gen := tget (fun _ => 0) s.sched.entryGen e % 63 + 1
    let s := { s with sched := { s.sched with entryGen := tput (fun _ => 0) e gen s.sched.entryGen } }
    let s := s.onOp id f fun o => { o with tag := e + gen * 1024 }
    let s := s.peak R.sched_IN_FLIGHT_PEAK 0 s.inFlight
    let held : Nat := (s.entriesHeld.filter fun (o : Oper) => o.guaranteed).length
    if guaranteed && decide (s.reg R.sched_GUAR_RESERVED < held) && !s.sched.beyondReserved then
      let s := { s with sched := { s.sched with beyondReserved := true } }
      s.breachLists 0x5018 s.inFlight
    else s

/-! ### Delay lists -/

/-- The order of a delay list (R83). -/
def dlBefore (a b : DlEntry) : Bool :=
  if a.time != b.time then decide (a.time < b.time)
  else if a.node != b.node then decide (a.node < b.node)
  else decide (a.frame < b.frame)

/-- An entry put in its place of a delay list. -/
def dlInsert (x : DlEntry) : List DlEntry → List DlEntry
  | [] => [x]
  | y :: t => if dlBefore x y then x :: y :: t else y :: dlInsert x t

/-- An entry taken out of a delay list. -/
def dlRemove (id f : Nat) (l : List DlEntry) : List DlEntry := l.filter fun x => !(x.node == id && x.frame == f)

/-- The occupancy registers of the delay lists (0x5000.5 to .8). -/
def State.dlOccupancy (s : State) : List Nat :=
  [s.sched.dl0.length, s.sched.dl1.length, s.sched.dl2.length, s.sched.dl3.length]

/-- A cut-off enters DL0; a full DL0 sends it to the overflow list, a full overflow list to the node frame table alone (R84, R85).
The events of R85 are raised for guaranteed insertions.
[DESIGN CHOICE, log 239: unsafe] -/
def State.insertCutoff (s : State) (x : DlEntry) (guaranteed : Bool) : State :=
  let ev (s : State) : State := if guaranteed then s.breachLists 0x5017 0 else s
  if s.sched.dl0.length < 4096 then { s with sched := { s.sched with dl0 := dlInsert x s.sched.dl0 } }
  else
    let s := ev s
    if s.sched.overflow.length < 256 then { s with sched := { s.sched with overflow := dlInsert x s.sched.overflow } }
    else
      let s := ev s
      { s with sched := { s.sched with tableOnly := dlInsert x s.sched.tableOnly } }

/-- A cut-off leaves whichever list holds it. -/
def State.removeCutoff (s : State) (id f : Nat) : State :=
  let r := dlRemove id f
  { s with sched := { s.sched with dl0 := r s.sched.dl0, overflow := r s.sched.overflow, tableOnly := r s.sched.tableOnly } }

/-! ### Freeing storage (R67) -/

/-- Condition 1: an operation that reads the version through a SAME or PREVIOUS edge has not retired. -/
def State.readPending (s : State) (h f : Nat) : Bool :=
  allSlots.any fun g =>
    s.live g &&
      (let G := s.graph g
       G.nodes.any fun v => (G.inputs v).any fun e =>
         (G.buf e.buffer).handle == h && e.map != 2 &&
           (let n := if e.map == 1 then f + e.back else f
            (s.sched.ops.any fun o => o.node == g * 16384 + v.index && o.frame == n) ||
              (s.running g && decide (s.reg R.slot_FIRST_FRAME g ≤ n) && decide (s.cadStart G.cad ≤ s.markTime G.cad n))))

/-- Condition 4: a CROSS edge of a RUNNING graph can still map a future frame onto the version (R69): a mark to come lies LAG after an
instant of its frame.
[DEDUCED, log 44: unsafe] -/
def State.crossPending (s : State) (h f : Nat) : Bool :=
  allSlots.any fun g =>
    s.live g &&
      (let G := s.graph g
       G.nodes.any fun v => (G.inputs v).any fun e =>
         (G.buf e.buffer).handle == h && e.map == 2 &&
           ((s.sched.ops.any fun o => o.node == g * 16384 + v.index && s.edgeReads G e o.frame == .version h f) ||
            (s.running g &&
              (let n := max (s.nextMark G.cad) (s.firstMarkFrom G.cad (s.markTime e.srcCad f + e.lag))
               decide (s.markTime G.cad n < s.markTime e.srcCad (f + 1) + e.lag)))))

/-- Condition 3: the most recent committed version of a handle whose content is its own. -/
def State.lastOwn (s : State) (h : Nat) : Option Version :=
  s.sched.versions.foldl (fun best v =>
    if v.handle == h && v.state == .committed && v.content == .own then
      match best with
      | none => some v
      | some b => if b.frame < v.frame then some v else best
    else best) none

/-- A staged SOURCE version of the same frame may yet take the version as its FALLBACK (R86).
[DESIGN CHOICE, log 238: unsafe] -/
def State.fallbackPending (s : State) (h f : Nat) : Bool :=
  s.sched.ops.any fun o =>
    let v := s.nodeRec o.node
    o.frame == f && v.kind == 1 && v.policy == 2 &&
      (s.outBuffer (slotOf o.node * 16384 + v.fallback)).elim false fun b => b.2.handle == h

/-- Whether a committed version may be freed (R67).
[DEDUCED, log 44: unsafe] -/
def State.freeable (s : State) (v : Version) : Bool :=
  v.state == .committed && !s.readPending v.handle v.frame && !s.crossPending v.handle v.frame && !s.fallbackPending v.handle v.frame &&
    !(s.sched.versions.any fun w => w.state == .committed && w.content == .version v.handle v.frame) &&
    !(v.content == .own && (s.lastOwn v.handle).elim false fun b => b.frame == v.frame)

/-- Every version R67 frees is freed; alias versions first, so that what they alias can follow. -/
def State.freeVersions (s : State) : State :=
  let pass (s : State) (own : Bool) : State :=
    let ids := (s.sched.versions.filter fun v => (v.content == .own) == own && s.freeable v).map fun v => (v.handle, v.frame)
    s.mapVersions fun v => if ids.contains (v.handle, v.frame) then { v with state := .freed, slot := none } else v
  pass (pass s false) true

/-! ### Stale masks of mirrored handles (R222, R226) -/

/-- The masks of a handle index. -/
def State.staleMask (s : State) (i : Nat) : MirrorMask := tget (fun _ => {}) s.sched.stale i

/-- Frames of a handle whose versions are open. -/
def State.openFrames (s : State) (i : Nat) : List Nat :=
  (s.sched.versions.filter fun v => v.handle % 65536 == i && v.state == .opened).map Version.frame

/-- The stale bits of a mask, the mirror's above the primary's. -/
def MirrorMask.bits (m : MirrorMask) : Nat := m.primaryStale % 16 + m.mirrorStale % 16 * 16

/-- Stale bits set in the masks of handle index `i` (R222): what will clear each of them begins anew. -/
def State.setStale (s : State) (i primary mirror : Nat) : State :=
  let m := s.staleMask i
  let set := primary % 16 + mirror % 16 * 16
  let fresh : StaleTrack := ⟨[], s.openFrames i⟩
  let tracks := ((List.range 8).filter fun b => set.testBit b).foldl (fun t b => tput (fun _ => {}) b fresh t) m.tracks
  { s with sched := { s.sched with
    stale := tput (fun _ => {}) i ⟨m.primaryStale ||| primary % 16, m.mirrorStale ||| mirror % 16, tracks⟩ s.sched.stale } }

/-- Every stale bit of handle index `i` clears; event 0x3007 where one was set (R226). -/
def State.clearStale (s : State) (i : Nat) : State :=
  let had := (s.staleMask i).bits != 0
  let s : State := { s with sched := { s.sched with stale := tput (fun _ => {}) i {} s.sched.stale } }
  if had then s.raise 0x3007 i else s

/-- The bits of a mask after storage slot `j` of `slots` has held a committed version of frame `f` with content of its own: a bit whose every
slot has held one opened after it was set clears (R226). -/
def MirrorMask.refresh (m : MirrorMask) (slots j f : Nat) : MirrorMask :=
  ((List.range 8).filter fun b => m.bits.testBit b).foldl (fun m b =>
    let t := tget (fun _ => {}) m.tracks b
    if t.openBefore.contains f then m
    else
      let t : StaleTrack := { t with refreshed := if t.refreshed.contains j then t.refreshed else j :: t.refreshed }
      if (List.range slots).all fun k => t.refreshed.contains k then
        { primaryStale := putBit m.primaryStale b false, mirrorStale := if b < 4 then m.mirrorStale else putBit m.mirrorStale (b - 4) false,
          tracks := tput (fun _ => {}) b {} m.tracks }
      else { m with tracks := tput (fun _ => {}) b t m.tracks }) m

/-- Version `f` of handle `h` has committed: the stale bits it refreshes follow; when both masks are clear again event 0x3007 is raised
(R226). -/
def State.refreshStale (s : State) (h f : Nat) : State :=
  let i := h % 65536
  let m := s.staleMask i
  match s.version? h f with
  | some v =>
    match v.slot with
    | some j =>
      if m.bits = 0 ∨ v.content ≠ .own then s
      else
        let m := m.refresh (s.handleDef h).slots j f
        if m.bits = 0 then s.clearStale i else { s with sched := { s.sched with stale := tput (fun _ => {}) i m s.sched.stale } }
    | none => s
  | none => s

/-! ### Commits (R65, R66, R72, R78) -/

/-- Whether a version is committed and not freed. -/
def State.isCommitted (s : State) (h f : Nat) : Bool := (s.version? h f).elim false fun v => v.state == .committed

/-- A version commits: counted, its metadata held by its producers' node objects; a SOURCE operation commits and retires with its version.
[DEDUCED, log 35: unsafe] -/
def State.commitVersion (s : State) (h f : Nat) : State :=
  let s := s.onVersion h f fun v => { v with state := .committed, waiting := false }
  let s : State := { s with sched := { s.sched with commits := (h, f) :: s.sched.commits.filter fun p => s.isCommitted p.1 p.2 } }
  let s := (s.inc R.sched_COMMITS).refreshStale h f
  let info := (s.version? h f).elim 0 Version.info
  s.each allSlots fun s g =>
    let G := s.graph g
    if s.live g && G.bufs.any (fun b => b.handle == h && !b.external) then
      s.each G.nodes fun s v =>
        match G.output v with
        | some e =>
          if (G.buf e.buffer).handle == h then
            let id := g * 16384 + v.index
            let s := s.setReg R.node_META id info
            if v.kind = 1 then (s.dropOp id f).setReg R.node_LAST_COMMITTED id f else s
          else s
        | none => s
    else s

/-- A version that still has its storage: committed, with content of its own, and not freed.
[DEDUCED, log 36: unsafe] -/
def State.holdsContent (s : State) (h f : Nat) : Bool := (s.version? h f).elim false fun v => v.state == .committed && v.content == .own

/-- What a substitution of frame `f` of the node's buffer carries (R86), with its SUBST_KIND and SOURCE_FRAME.
[DEDUCED, log 36: unsafe] -/
def State.substContent (s : State) (id f : Nat) : Content × Nat × Nat :=
  let v := s.nodeRec id
  let g := s.graph (slotOf id)
  match s.outBuffer id with
  | none => (.own, 1, f)
  | some (_, b) =>
    let black : Content × Nat × Nat := (.black b.black, 1, f)
    match v.policy with
    | 0 =>
      match s.sched.versions.foldl (fun best w =>
          if w.handle == b.handle && w.state == .committed && w.content == .own && decide (w.frame < f) then
            match best with
            | none => some w
            | some (x : Version) => if x.frame < w.frame then some w else best
          else best) none with
      | some w => (.version b.handle w.frame, 0, w.frame)
      | none => black
    | 2 =>
      match s.outBuffer (slotOf id * 16384 + v.fallback) with
      | none => black
      | some (_, fb) =>
        match s.version? fb.handle f with
        | some w =>
          if (w.state == .committed || w.state == .freed) && decide (w.stamp < s.markTime g.cad f + v.deadline) then
            match w.content with
            | .own => if s.holdsContent fb.handle f then (.version fb.handle f, 2, f) else black
            | .version h2 f2 => if s.holdsContent h2 f2 then (.version h2 f2, 2, f2) else black
            | .black h2 => (.black h2, 2, f)
          else black
        | none => black
    | _ => black

/-- A version becomes a substitution under its node's POLICY and commits (R86): its slot returns to the free set, it aliases the
content chosen, SUBSTITUTED and SUBST_KIND are set, SUBSTITUTIONS rise and event 0x5010 is raised.
[DEDUCED, log 37: unsafe] -/
def State.substitute (s : State) (id f stamp : Nat) (faulted : Bool) : State :=
  match s.outBuffer id with
  | none => s
  | some (_, b) =>
    let (c, kind, src) := s.substContent id f
    let s := s.onVersion b.handle f fun v =>
      { v with slot := none, content := c, stamp := stamp,
               info := 1 + kind * 2 + v.info % 256 / 8 % 2 * 8 + v.info / 32 % 2 * 32 + b2n faulted * 64 + v.info / 128 % 2 * 128 +
                 src % 2 ^ 32 * 2 ^ 16 }
    let s := s.commitVersion b.handle f
    let s := (s.inc R.sched_SUBSTITUTIONS).inc R.node_SUBSTITUTIONS id
    s.raise 0x5010 (nodeEventData id f)

/-- The version is beyond any further change: committed or freed (R64). -/
def Version.isPast (v : Version) : Bool := v.state == .committed || v.state == .freed

/-- A substitution of frame `f` of a node's buffer is decided, stamped `stamp` (R77, R86, R87): it commits in its turn (R65). A version commits
once (R64), so one that is committed already stays as it is. -/
def State.decideSubst (s : State) (id f stamp : Nat) : State :=
  match s.outBuffer id with
  | none => s
  | some (_, b) => s.onVersion b.handle f fun v =>
      if v.isPast then v else { v with left := 0, waiting := true, stamp := stamp, fault := some (v.fault.getD (id, false)) }

/-- A version no producer of which is still to finish (R66); for a faulted shared version, whose other producers have all reached
COMPLETED (R89). -/
def State.versionDone (s : State) (v : Version) : Bool :=
  v.left == 0 ||
    (v.fault.isSome && s.sched.ops.all fun o =>
      match s.outBuffer o.node with
      | some (_, b) => !(b.handle == v.handle && o.frame == v.frame) || o.state == .completed
      | none => true)

/-- The stamp of a frame that was closed and complete before a cut-off, whose request the scheduler has yet to see (R87, R122, R139). -/
def State.inTime (s : State) (flow f cut : Nat) : Option Nat :=
  (s.inFrame? flow f).bind fun x => x.ready.filter fun t => decide (t < cut)

/-- Version `w` of SOURCE node `id`, not committed yet, is certain to commit with a stamp strictly earlier than `cut` (R86, R87): it waits with such
a stamp, its own cut-off comes before, or its frame arrived in time. -/
def State.commitsBefore (s : State) (w : Version) (id cut : Nat) : Bool :=
  !w.isPast &&
    (if w.waiting then decide (w.stamp < cut)
     else
       let n := s.nodeRec id
       let own := s.markTime (s.graph (slotOf id)).cad w.frame + n.deadline
       (s.sched.ops.any fun o => o.node == id && o.frame == w.frame) &&
         (decide (own < cut) || (s.inTime n.flow w.frame (min own cut)).isSome))

/-- Whether a substitution of version `v` still waits for the version its FALLBACK node brings (R86): one that is to commit with a stamp
strictly earlier than the cut-off, whenever the scheduler processes it.
[DESIGN CHOICE, log 238: unsafe] -/
def State.awaitsFallback (s : State) (v : Version) : Bool :=
  match v.fault with
  | none => false
  | some (id, _) =>
    let n := s.nodeRec id
    let fb := slotOf id * 16384 + n.fallback
    n.policy == 2 && (match s.outBuffer fb with
      | none => false
      | some (_, b) => (s.version? b.handle v.frame).elim false fun w =>
          s.commitsBefore w fb (s.markTime (s.graph (slotOf id)).cad v.frame + n.deadline))

/-- A Nightfall that a trip started is under way: no substitution is committed and no output frame is completed (R473). -/
def State.tripping (s : State) : Bool := s.power.doing == 2 && s.power.trip

/-- Whether a version may commit now: done, and every lower version of its buffer committed (R65).
[DEDUCED, log 35: unsafe, DEDUCED, log 50: unsafe] -/
def State.versionReady (s : State) (v : Version) : Bool :=
  v.waiting && s.versionDone v && !s.awaitsFallback v && !(v.fault.isSome && s.tripping) &&
    !(s.sched.versions.any fun w => w.handle == v.handle && !w.isPast && decide (w.frame < v.frame))

/-- The DERIVED bits that the producers in COMPLETED bring to a version (R72). -/
def State.derivedOf (s : State) (v : Version) : Nat :=
  s.sched.ops.foldl (fun m o => match s.outBuffer o.node with
    | some (_, b) => if b.handle == v.handle && o.frame == v.frame && o.state == .completed then m ||| derivedBits o.inMeta else m
    | none => m) 0

/-- A waiting version commits, as its producers left it or as a substitution for the producer that faulted (R89), with the DERIVED bits of
every producer (R72). -/
def State.settleVersion (s : State) (v : Version) : State :=
  match v.fault with
  | some (id, faulted) =>
    (s.onVersion v.handle v.frame fun w => { w with info := w.info ||| s.derivedOf v }).substitute id v.frame v.stamp faulted
  | none => s.commitVersion v.handle v.frame

/-- An operation in COMPLETED commits and retires (R78, R91): LAST_COMMITTED, the deadline, its part of the output version unless that has
committed already (R64); a substitution that is decided keeps its stamp (R77). -/
def State.commitOp (s : State) (o : Oper) : State :=
  let s := s.setReg R.node_LAST_COMMITTED o.node o.frame
  let s : State := if o.guaranteed && decide (o.deadline < s.now) then
      ((s.inc R.sched_DEADLINE_MISSES).inc R.node_DEADLINE_MISSES o.node).breachNode 0x5011 o.node o.frame
    else s
  let s : State := match s.outBuffer o.node with
    | none => s
    | some (_, b) => s.onVersion b.handle o.frame fun v =>
        if v.isPast then v else
        { v with left := v.left - 1, waiting := true, stamp := if v.left = 0 then v.stamp else s.now,
                 fault := if o.status < 2 then v.fault else some (v.fault.elim (o.node, o.status != 4) fun p => (p.1, p.2 || o.status != 4)),
                 info := (v.info ||| derivedBits o.inMeta) ||| (if o.status == 1 then 16 else 0) }
  (s.dropOp o.node o.frame).freeVersions

/-- The operation may commit: it is COMPLETED and its node has none of a lower frame (R78). -/
def State.commitReady (s : State) (o : Oper) : Bool :=
  o.state == .completed && !(s.sched.ops.any fun x => x.node == o.node && decide (x.frame < o.frame))

/-! ### Leaving STAGED (R79, R85, R90, R93) -/

/-- Work of an absent operator is substituted as it reaches READY, with event 0x5020 once per node (R90); `status` is 3 for an operation
that is aborted, and 4 for one that is only substituted, whose version is not FAULTED (Table 03.8).
[DEDUCED, log 37: unsafe] -/
def State.substituteAbsent (s : State) (o : Oper) (status : Nat) : State :=
  let s : State := if s.sched.absentRaised.contains o.node then s
    else ({ s with sched := { s.sched with absentRaised := o.node :: s.sched.absentRaised } }).raise 0x5020
      (nodeEventData o.node o.frame)
  s.onOp o.node o.frame fun x => { x with state := .completed, status := status }

/-- How many entries of an operator's ready list a best-effort operation may find (R114). -/
def State.beRoom (s : State) (o : Nat) : Bool :=
  decide (((s.readyOps o).filter fun x => !x.guaranteed).length < s.reg R.opr_READY_DEPTH o - s.reg R.opb_GUAR_READY o)

/-- Whether the last input of an operation to commit is a live one (R93): of the versions it reads, the one last in commit order. -/
def State.liveReleased (s : State) (o : Oper) : Bool :=
  let g := s.graph (slotOf o.node)
  let ins := (g.inputs (g.node (o.node % 16384))).filterMap fun e =>
    match s.edgeReads g e o.frame with
    | .version h f => some ((h, f), (g.buf e.buffer).live)
    | .black _ => none
  match s.sched.commits.find? fun p => ins.any fun i => i.1 == p with
  | some p => ins.any fun i => i.1 == p && i.2
  | none => false

/-- The operation needs a table entry that met poison (R502). -/
def State.needsBad (s : State) (o : Oper) : Bool :=
  let g := s.graph (slotOf o.node)
  s.sched.badNodes.contains o.node ||
    (g.nodeEdges (g.node (o.node % 16384))).any fun e => s.sched.badHandles.contains ((g.buf e.buffer).handle % 65536)

/-- An operation reaches READY: one that needs a poisoned table entry is substituted under its node's POLICY (R502); a SINK takes an in-flight entry and starts when one is free; an OP enters its operator's ready
list, is held release-pending when the list is full (event 0x5015 for one released by a live input, R93), and is substituted
when its operator is absent (R90). -/
def State.toReady (s : State) (o : Oper) (fromStaged : Bool) : State :=
  let v := s.nodeRec o.node
  if s.needsBad o then s.onOp o.node o.frame fun x => { x with state := .completed, status := 4 }
  else if v.kind != 0 then
    let s := s.onOp o.node o.frame fun x => { x with state := .ready }
    if s.entryFor o.guaranteed then (s.takeEntry o.node o.frame o.guaranteed).onOp o.node o.frame fun x => { x with state := .active }
    else s
  else if !s.operatorPresent o.operator then s.substituteAbsent o 4
  else if s.readyOcc o.operator < s.reg R.opr_READY_DEPTH o.operator then
    let s := s.onOp o.node o.frame fun x => { x with state := .ready }
    if s.readyOcc o.operator = s.reg R.opr_READY_DEPTH o.operator && !s.sched.full.contains o.operator then
      { s with sched := { s.sched with full := o.operator :: s.sched.full } }
    else s
  else
    let live := fromStaged && s.liveReleased o
    let s := s.onOp o.node o.frame fun x => { x with state := .pendingRelease }
    if live then s.breachNode 0x5015 o.node o.frame else s

/-- An operation whose inputs are all committed leaves STAGED (R79): to its delay list before its release time (R85 when the list
is full), else to READY. A best-effort operation without room in its ready list (R114) stays, and one that finds DL2 full waits for
the next tick (R85). -/
def State.leaveStaged (s : State) (o : Oper) : State :=
  if s.now < o.release then
    let x : DlEntry := ⟨o.release, o.node, o.frame⟩
    if o.guaranteed then
      if s.sched.dl1.length < 4096 then
        ({ s with sched := { s.sched with dl1 := dlInsert x s.sched.dl1 } }).onOp o.node o.frame fun y => { y with state := .delayed }
      else (s.breachLists 0x5017 1).toReady o true
    else if s.sched.dl2.length < 4096 then
      ({ s with sched := { s.sched with dl2 := dlInsert x s.sched.dl2 } }).onOp o.node o.frame fun y => { y with state := .delayed }
    else { s with sched := { s.sched with retry := (o.node, o.frame) :: s.sched.retry } }
  else s.toReady o true

/-- A staged operation whose inputs are all committed and that does not wait for the next tick (R79, R85). -/
def State.inputsReady (s : State) (o : Oper) : Bool :=
  let g := s.graph (slotOf o.node)
  let v := g.node (o.node % 16384)
  o.state == .staged && v.kind != 1 && (g.inputs v).all (fun e => s.inputReady g e o.frame) &&
    (o.guaranteed || !s.sched.retry.contains (o.node, o.frame))

/-- No room in its ready list keeps the operation STAGED (R114). -/
def State.lacksRoom (s : State) (o : Oper) : Bool :=
  !o.guaranteed && decide (o.release ≤ s.now) && (s.nodeRec o.node).kind == 0 && !s.beRoom o.operator && s.operatorPresent o.operator

/-- Whether a staged operation can leave STAGED now. -/
def State.stagedReady (s : State) (o : Oper) : Bool := s.inputsReady o && !s.lacksRoom o

/-- A release-pending operation whose list has room again (R93), for a best-effort one also under R114. -/
def State.pendingReady (s : State) (o : Oper) : Bool :=
  o.state == .pendingRelease && decide (s.readyOcc o.operator < s.reg R.opr_READY_DEPTH o.operator) &&
    (o.guaranteed || s.beRoom o.operator)

/-- A SINK operation that waits for an in-flight entry and finds one. -/
def State.sinkReady (s : State) (o : Oper) : Bool :=
  o.state == .ready && (s.nodeRec o.node).kind == 2 && s.entryFor o.guaranteed

/-- The operation first in the order of `before` among those that satisfy `p`. -/
def firstOp (p : Oper → Bool) (before : Oper → Oper → Bool) (l : List Oper) : Option Oper :=
  l.foldl (fun best o => if p o then match best with
    | none => some o
    | some b => if before o b then some o else best
    else best) none

/-- Lower node ID first, then lower frame (R79, Table 03.13). -/
def nodeBefore (a b : Oper) : Bool := decide (a.node < b.node) || (a.node == b.node && decide (a.frame < b.frame))

/-- A staged operation that has waited for room in its ready list (R114). -/
def State.hasWaited (s : State) (o : Oper) : Bool := s.sched.waited.contains (o.node, o.frame)

/-- The staged operation that is released next: those that waited for room in ready order (R114), and then the others in node order (R79).
[DEDUCED, log 33: unsafe] -/
def State.nextStaged (s : State) : Option Oper :=
  match firstOp (fun o => s.stagedReady o && s.hasWaited o) readyBefore s.sched.ops with
  | some o => some o
  | none => firstOp s.stagedReady nodeBefore s.sched.ops

/-- One thing the scheduler does next of itself: a version commits (R65), an operation commits (R78), a release-pending one enters its list in
ready order as an entry frees up (R93), a staged operation is released (R79, R114), a SINK takes an entry.
[DEDUCED, log 32: unsafe] -/
def State.schedStep (s : State) : Option State :=
  match s.sched.versions.find? s.versionReady with
  | some v => some ((s.settleVersion v).freeVersions)
  | none =>
    match firstOp s.commitReady nodeBefore s.sched.ops with
    | some o => some (s.commitOp o)
    | none =>
      match firstOp s.pendingReady readyBefore s.sched.ops with
      | some o => some (s.toReady o false)
      | none =>
        match s.nextStaged with
        | some o => some (s.leaveStaged o)
        | none =>
          match firstOp s.sinkReady readyBefore s.sched.ops with
          | some o => some (s.toReady o false)
          | none => none

/-- The scheduler runs until nothing more follows, at most `k` steps. -/
def State.schedRun : Nat → State → State
  | 0, s => s
  | k + 1, s => match s.schedStep with
    | none => s
    | some t => State.schedRun k t

/-! ### Back-pressure (R92) -/

/-- Whether producer operator `p`, or a SOURCE flow, feeds operator `o`: a node of a resident graph writes a buffer that a node
bound to `o` reads. -/
def State.feeds (s : State) (isProducer : NodeRec → Bool) (g o : Nat) : Bool :=
  let G := s.graph g
  G.nodes.any fun v => isProducer v &&
    (match G.output v with
     | none => false
     | some e =>
       let h := (G.buf e.buffer).handle
       allSlots.any fun g2 =>
         s.live g2 &&
           (let G2 := s.graph g2
            G2.nodes.any fun u => u.kind == 0 && u.operator == o && (G2.inputs u).any fun x => (G2.buf x.buffer).handle == h))

/-- A SOURCE flow of a best-effort graph that feeds a full list is PAUSED; every other flow of a live graph is not (R88, R92, Table 05.3). -/
def State.refreshFlows (s : State) : State :=
  s.each allSlots fun s g =>
    let G := s.graph g
    if s.live g then
      s.each G.nodes fun s v =>
        if v.kind == 1 && (s.flowRun v.flow).slot == g && decide (2 ≤ s.reg R.flow_STATE v.flow) then
          s.setReg R.flow_STATE v.flow
            (if !G.guaranteed && s.sched.full.any (fun o => s.feeds (fun u => u.index == v.index) g o) then 3 else 2)
        else s
    else s

/-- A full list's pause ends at four free entries (R92; all of them for a list shorter than that); PAUSED of the move engines and
fabric ports, and the pause of the SOURCE flows of best-effort graphs, follow. -/
def State.refreshPauses (s : State) : State :=
  let full := s.sched.full.filter fun o =>
    decide (s.reg R.opr_READY_DEPTH o - s.readyOcc o < min 4 (s.reg R.opr_READY_DEPTH o))
  if full.isEmpty && s.sched.full.isEmpty then s
  else
    let s := { s with sched := { s.sched with full := full } }
    let s := s.each (List.range 576) fun s i =>
      let p := i + 32
      s.setReg R.opr_PAUSED p (b2n (allSlots.any fun g => s.live g && full.any fun o => s.feeds (fun v => v.kind == 0 && v.operator == p) g o))
    s.refreshFlows

/-- Which operations wait for room in their ready lists (R114). -/
def State.noteWaiting (s : State) : State :=
  { s with sched := { s.sched with
    waited := (s.sched.ops.filter fun o => s.inputsReady o && s.lacksRoom o).map fun o => (o.node, o.frame) } }

/-- The scheduler runs to rest after a change, and back-pressure follows. Each operation takes at most five of its steps and each
version one.
[DEDUCED, log 32: unsafe] -/
def State.schedule (s : State) : State :=
  (State.schedRun (5 * s.sched.ops.length + s.sched.versions.length + 8) s).noteWaiting.refreshPauses

/-! ### Staging (R76, R77, R84, R88) -/

/-- A SOURCE's version opens at its mark, in the lowest free slot; without one the frame is an ingest overflow (R88, R135). A PAUSED
flow opens nothing. -/
def State.openLive (s : State) (id f : Nat) : State :=
  match s.outBuffer id with
  | none => s
  | some (_, b) =>
    if s.reg R.flow_STATE (s.nodeRec id).flow != 2 || !((s.version? b.handle f).any fun v => v.state == .expected) then s
    else match s.freeSlot b.handle with
      | some j =>
        let s := s.onVersion b.handle f fun v => { v with state := .opened, slot := some j }
        s.flowOpened (s.nodeRec id).flow f (s.slotAddr b.handle j) b
      | none => s.breachNode 0x5016 id f

/-- An operation of frame `f` has still to retire among the producers of handle `h`. -/
def State.beingMade (s : State) (h f : Nat) : Bool :=
  s.sched.ops.any fun o => o.frame == f && (s.outBuffer o.node).elim false fun b => b.2.handle == h

/-- The version a node writes in frame `f` is known from the frame's staging on. A frame number that is staged again after a backward step begins a
new version, and the committed or freed one of that number is gone (R64).
[DESIGN CHOICE, log 267: unsafe] -/
def State.expectVersion (s : State) (g : Nat) (v : NodeRec) (f : Nat) : State :=
  let G := s.graph g
  match G.output v with
  | none => s
  | some e =>
    let b := G.buf e.buffer
    let old := (s.version? b.handle f).elim false fun w => w.isPast && !s.beingMade b.handle f
    let s : State := if old then { s with sched := { s.sched with versions := s.sched.versions.filter fun w => !(w.handle == b.handle && w.frame == f) } } else s
    if (s.version? b.handle f).isSome then s
    else
      let w : Version := ⟨b.handle, f, .expected, none, .own, b.producers, none, false, 0, f % 2 ^ 32 * 2 ^ 16⟩
      { s with sched := { s.sched with versions := s.sched.versions ++ [w] } }

/-- Node `v` of slot `g` is staged for frame `f` (R76); a fifth pending operation is an overrun (R77).
[DEDUCED, log 50: unsafe] -/
def State.stageNode (s : State) (g f : Nat) (v : NodeRec) : State :=
  let G := s.graph g
  let id := g * 16384 + v.index
  let t := s.markTime G.cad f
  let s := s.expectVersion g v f
  if 4 ≤ (s.nodeOps id).length then
    (s.breachNode 0x5012 id f).decideSubst id f s.now
  else
    let o : Oper := ⟨id, f, .staged, G.guaranteed, if v.kind == 0 then v.operator else 4096, t + v.deadline, t + v.notBefore, 0, 0, 0, false⟩
    let s := { s with sched := { s.sched with ops := s.sched.ops ++ [o] } }
    if v.kind == 1 then (s.openLive id f).insertCutoff ⟨t + v.deadline, id, f⟩ G.guaranteed else s

/-- Frame `f` of a RUNNING graph is staged, in ascending node ID (R76). -/
def State.stageGraph (s : State) (g f : Nat) : State := s.each (s.graph g).nodes fun s v => s.stageNode g f v

/-! ### Live commits and cut-offs (R53, R84, R87, R140) -/

/-- The SOURCE node of a live graph that a flow feeds. -/
def State.sourceOf (s : State) (flow f : Nat) : Option Nat :=
  (allSlots.flatMap fun g => if s.live g then
      ((s.graph g).nodes.filter fun v => v.kind == 1 && v.flow == flow).map fun v => g * 16384 + v.index else []).find? fun id =>
    s.sched.ops.any fun o => o.node == id && o.frame == f

/-- A SOURCE version commits with its content and its stamp in its turn, and its cut-off goes (R84). -/
def State.commitSource (s : State) (id h flow f stamp : Nat) : State :=
  let s := s.onVersion h f fun v => { v with left := 0, waiting := true, stamp := stamp }
  ((s.removeCutoff id f).flowCommitted flow f).schedule

/-- A commit request of the stream engine (R17, R84, R87, R139): accepted when the frame was closed and complete at the stamp, its version is
still open, and the stamp is strictly earlier than the cut-off; then the version commits under R65 with that stamp. Otherwise nothing changes.
The flag says which. -/
def State.commitRequest (s : State) (flow f stamp : Nat) : State × Bool :=
  match s.sourceOf flow f with
  | none => (s, false)
  | some id =>
    match s.outBuffer id, s.inFrame? flow f with
    | some (_, b), some x =>
      let cut := s.markTime (s.graph (slotOf id)).cad f + (s.nodeRec id).deadline
      match s.version? b.handle f with
      | some v =>
        if v.state == .opened && !v.waiting && x.readyBy stamp && decide (stamp < cut) then
          (s.commitSource id b.handle flow f stamp, true)
        else (s, false)
      | none => (s, false)
    | _, _ => (s, false)

/-- A cut-off is processed (R86, R87, R140): the SOURCE version is committed as a substitution stamped with the cut-off, unless its frame
arrived in time: the outcome is fixed by the stamps alone. In a Nightfall that a trip started there is none (R473). -/
def State.processCutoff (s : State) (x : DlEntry) : State :=
  match s.outBuffer x.node with
  | none => s.removeCutoff x.node x.frame
  | some (_, b) =>
    let s := s.removeCutoff x.node x.frame
    let flow := (s.nodeRec x.node).flow
    match s.version? b.handle x.frame with
    | none => s
    | some v =>
      if v.isPast || v.waiting then s.schedule
      else match s.inTime flow x.frame x.time with
        | some t => s.commitSource x.node b.handle flow x.frame t
        | none => if s.tripping then s.schedule else ((s.decideSubst x.node x.frame x.time).flowSubstituted flow x.frame).schedule

/-! ### Operators (R74, R75, R80, R81, R89, R90) -/

/-- Whether the output version of an operation can take a slot: it is open already, or a slot is free. -/
def State.outputRoom (s : State) (o : Oper) : Bool :=
  match s.outBuffer o.node with
  | none => true
  | some (_, b) => match s.version? b.handle o.frame with
    | some v => v.state != .expected || (s.freeSlot b.handle).isSome
    | none => false

/-- An operation is dispatched: its output version opens, it takes an entry, its descriptor's input metadata is fixed. -/
def State.dispatchOp (s : State) (o : Oper) : State :=
  let g := s.graph (slotOf o.node)
  let v := g.node (o.node % 16384)
  let m := (g.inputs v).foldl (fun a e => a ||| s.inputMeta g e o.frame) 0
  let s : State := match s.outBuffer o.node with
    | none => s
    | some (_, b) => match s.version? b.handle o.frame, s.freeSlot b.handle with
      | some w, some j => if w.state == .expected then s.onVersion b.handle o.frame fun w => { w with state := .opened, slot := some j } else s
      | _, _ => s
  let s := s.onOp o.node o.frame fun x => { x with state := .prefetched, inMeta := m }
  s.takeEntry o.node o.frame o.guaranteed

/-- A prefetched best-effort operation returns to READY: its slot and entry are released (R81). -/
def State.displace (s : State) (o : Oper) : State :=
  let s : State := match s.outBuffer o.node with
    | none => s
    | some (_, b) =>
      let others := s.sched.ops.any fun x => !(x.node == o.node) && x.frame == o.frame &&
        (x.state == .prefetched || x.state == .active || x.state == .completed) &&
        (match s.outBuffer x.node with | some (_, c) => c.handle == b.handle | none => false)
      if others then s
      else s.onVersion b.handle o.frame fun w => if w.left == b.producers then { w with state := .expected, slot := none } else w
  s.onOp o.node o.frame fun x => { x with state := .ready, tag := 0 }

/-- The dispatch scan of R80: the first operation in list order that meets the three conditions; pass-overs for want of a slot
count in STALLS. -/
def State.dispatchScan (s : State) : List Oper → State
  | [] => s
  | o :: t =>
    if !s.outputRoom o then (s.inc R.sched_STALLS).dispatchScan t
    else if !s.entryFor o.guaranteed || (!o.guaranteed && s.on R.opr_PAUSED o.operator) then s.dispatchScan t
    else s.dispatchOp o

/-- Dispatch to operator `o` (R80, R81). -/
def State.dispatch (s : State) (o : Nat) : State :=
  let list := sortReady (s.readyOps o)
  match s.prefetched? o with
  | none => (s.dispatchScan list).schedule
  | some p =>
    match list with
    | x :: _ => if x.guaranteed && !p.guaranteed then ((s.displace p).dispatchScan (sortReady ((s.displace p).readyOps o))).schedule else s
    | [] => s

/-- The operation in an operator's own active slot. -/
def State.runOp (s : State) (o : Nat) : Option RunOp := tget (fun _ => none) s.engines.running o

/-- An operator's active slot changed. -/
def State.setRun (s : State) (o : Nat) (r : Option RunOp) : State :=
  { s with engines := { s.engines with running := tput (fun _ => none) o r s.engines.running } }

/-- The prefetched operation starts when the active slot is empty; its MAX_RUN timer is armed in DL3, unless that is full (R74, R85).
[DESIGN CHOICE, log 239: unsafe] -/
def State.startOp (s : State) (o : Nat) : State :=
  match s.runOp o, s.prefetched? o with
  | none, some p =>
    let s := s.onOp p.node p.frame fun x => { x with state := .active }
    let s := s.setRun o (some { node := p.node, frame := p.frame, tag := p.tag, start := s.now })
    if s.sched.dl3.length < 4096 then
      { s with sched := { s.sched with dl3 := dlInsert ⟨s.now + (s.nodeRec p.node).maxRun * 1000, p.node, p.frame⟩ s.sched.dl3 } }
    else if p.guaranteed then s.breachLists 0x5017 3 else s
  | _, _ => s

/-- The ACTIVE operation of operator `o` whose descriptor carries a TAG (R75). -/
def State.tagged? (s : State) (o tag : Nat) : Option Oper :=
  s.sched.ops.find? fun x => x.operator == o && x.state == .active && x.fullTag == tag

/-- A completion arrives from operator `o` (R75, R89): accepted when its TAG names an ACTIVE operation of that operator, else
discarded, counted, with event 0x5021. -/
def State.complete (s : State) (o tag status : Nat) : State :=
  match s.tagged? o tag with
  | none => ({ s with sched := { s.sched with discarded := s.sched.discarded + 1 } }).raise 0x5021 tag
  | some x =>
    let s := s.inc R.opr_COMPLETIONS o
    let s := { s with sched := { s.sched with dl3 := dlRemove x.node x.frame s.sched.dl3 } }
    let s : State := if status < 2 then s else
      (((s.inc R.opr_FAULTS o).inc R.sched_FAULTS).inc R.node_FAULTS x.node).raise (if status == 2 then 0x5013 else 0x5014)
        (nodeEventData x.node x.frame)
    (s.onOp x.node x.frame fun y => { y with state := .completed, status := status, aborting := false }).schedule

/-- TAG as the descriptor of a running operation carries it (Table 03.9), with the metadata fixed at its dispatch.
[DEDUCED, log 86: unsafe] -/
def State.fullTag (s : State) (r : RunOp) : Nat :=
  (s.sched.ops.find? fun x => x.node == r.node && x.frame == r.frame).elim r.tag Oper.fullTag

/-- A completion of operator `o` is processed. The operator's active slot is then empty where it still holds the operation named, and keeps the next
one, which may have started since the report (R74). -/
def State.completed (s : State) (o tag status : Nat) : State :=
  let named := (s.tagged? o tag).any fun x => (s.runOp o).any fun r => r.node == x.node && r.frame == x.frame
  (if named then s.setRun o none else s).complete o tag status

/-- The instant of a command that may tie with a completion (Table 03.13): another completion, or what may fence an operator. A flit has no time of
its own. -/
def State.mayTie (s : State) : Instr → Option Nat
  | .operationCompletion t _ _ _ => some t
  | .portUpChange t _ _ => some t
  | .segmentFault t _ _ _ => some t
  | .convertComplete t _ _ _ => some t
  | .drainComplete t _ => some t
  | .tripDrainCut t _ => some t
  | .frameMark c n => some (s.markTime c n)
  | .flitReceive _ _ _ => some s.now
  | _ => none

/-- The next such command of the queue, whatever stands before it, falls in the present scheduler cycle, one nanosecond long (Table 03.13).
[DEDUCED, log 204: unsafe] -/
def State.tieNext (s : State) : Bool :=
  (s.pending.filterMap s.mayTie).head?.elim false fun t => (s.advanceTo t).mono == s.mono

/-- A completion put in its place of a list in ascending order of in-flight entries. -/
def insertArrived (x : Nat × Nat × Nat) : List (Nat × Nat × Nat) → List (Nat × Nat × Nat)
  | [] => [x]
  | y :: t => if x.2.1 % 1024 < y.2.1 % 1024 then x :: y :: t else y :: insertArrived x t

/-- The completions of a scheduler cycle are processed once all its completions and fences have come, in ascending in-flight entry number
(Table 03.13). -/
def State.takeArrived (s : State) : State :=
  if s.tieNext then s
  else State.each { s with sched := { s.sched with arrived := [] } } s.sched.arrived fun s x => s.completed x.1 x.2.1 x.2.2

/-- An operator becomes absent: its ACTIVE and PREFETCHED operations are aborted without waiting for ABORTED (R90). -/
def State.operatorGone (s : State) (o : Nat) : State :=
  let gone := s.sched.ops.filter fun x => x.operator == o && (x.state == .active || x.state == .prefetched || x.state == .ready)
  let s := s.each gone fun s x =>
    let s := { s with sched := { s.sched with dl3 := dlRemove x.node x.frame s.sched.dl3 } }
    s.substituteAbsent x (if x.state == .ready then 4 else 3)
  (s.setRun o none).schedule

/-! ### Graph slots (R94, R96, R97) -/

/-- A graph is stopped at frame mark `n`: it stages no frame from `n` on and drains (R96). What this frees is freed once every graph of the instant
has started. -/
def State.stopGraph (s : State) (g n : Nat) : State :=
  (s.setReg R.slot_STATE g 3).setReg R.slot_LAST_FRAME g (n - 1)

/-- A graph starts at frame mark `n` (R96): its flows become BOUND (Table 05.3). -/
def State.startGraph (s : State) (g n : Nat) : State :=
  let s := ((s.setReg R.slot_STATE g 2).setReg R.slot_FIRST_FRAME g n).setReg R.slot_LAST_FRAME g (2 ^ 64 - 1)
  { s with sched := { s.sched with absentRaised := s.sched.absentRaised.filter fun id => slotOf id != g } }

end Sys2Proof.Machine
end

