-- ==== Sys2Proof/Machine/Flows.lean ====
section
/-! DEFINITION. Ethernet ports and flow queues (R126 to R134, R155, R574): port types, the classifier's rules, CONFIGURE, binding, the
egress load check of R155 and the packets of R575. -/

namespace Sys2Proof.Machine

/-- A port type of Table 05.1: lanes, line rate in kb/s, PAM4, payload rate in kB/s. -/
structure PortType where
  lanes : Nat
  rate : Nat
  pam4 : Bool
  payload : Nat
  deriving DecidableEq, Repr

/-- Table 05.1; TYPE 0 and the values above 8 name no port. -/
def portType (t : Nat) : Option PortType := match t with
  | 1 => some ⟨1, 10312500, false, 1250000⟩
  | 2 => some ⟨1, 25781250, false, 3125000⟩
  | 3 => some ⟨1, 25781250, false, 3125000⟩
  | 4 => some ⟨1, 53125000, true, 6250000⟩
  | 5 => some ⟨4, 25781250, false, 12500000⟩
  | 6 => some ⟨2, 53125000, true, 12500000⟩
  | 7 => some ⟨4, 53125000, true, 25000000⟩
  | 8 => some ⟨8, 53125000, true, 50000000⟩
  | _ => none

/-- A port type works under RS-FEC (Table 05.1). -/
def portFec (t : Nat) : Bool := decide (3 ≤ t) && decide (t ≤ 8)

/-- A port type and MEDIUM of a PHY with auto-negotiation and link training (R380): the -KR types on a backplane, the -CR types on copper. -/
def portTrains (t medium : Nat) : Bool :=
  match medium with
  | 1 => decide (1 ≤ t) && decide (t ≤ 7)
  | 2 => decide (2 ≤ t) && decide (t ≤ 7)
  | _ => false

/-! ### Lanes -/

def State.laneRun (s : State) (l : Nat) : LaneRun := tget (fun _ => {}) s.lanes.lanes l

def State.onLane (s : State) (l : Nat) (u : LaneRun → LaneRun) : State :=
  { s with lanes := { s.lanes with lanes := tput (fun _ => {}) l (u (s.laneRun l)) s.lanes.lanes } }

/-! ### Ports -/

/-- Lane `p` is the first lane of a port (R126). -/
def State.isPort (s : State) (p : Nat) : Bool := decide (p < 256) && (portType (s.reg R.eth_TYPE p)).isSome

/-- The lanes of port `p`. -/
def State.portLanes (s : State) (p : Nat) : List Nat :=
  match portType (s.reg R.eth_TYPE p) with
  | some x => (List.range x.lanes).map fun i => p + i
  | none => []

/-- Payload rate of a port, in kB/s (Table 05.1). -/
def State.portRate (s : State) (p : Nat) : Nat := ((portType (s.reg R.eth_TYPE p)).map PortType.payload).getD 0

/-- The ports flow `f` names. -/
def State.flowPorts (s : State) (f : Nat) : List Nat :=
  if s.on R.flow_PAIRED f then [s.reg R.flow_PORT_A f, s.reg R.flow_PORT_B f] else [s.reg R.flow_PORT_A f]

/-- A peer flow (R530). -/
def State.isPeer (s : State) (f : Nat) : Bool := s.reg R.pf_LINK f != 0xFFFF

/-- Flow `f` names a port. -/
def State.namesPort (s : State) (p f : Nat) : Bool :=
  !s.isPeer f && s.reg R.flow_KIND f != 4 && (s.flowPorts f).contains p

/-- The flows that are not OFF and name port `p`. -/
def State.flowsOn (s : State) (p : Nat) : List Nat := s.streams.active.filter (s.namesPort p)

/-- The egress flows of E on port `p` (R155). -/
def State.egressOn (s : State) (p : Nat) : List Nat := (s.flowsOn p).filter fun f => s.reg R.flow_DIR f == 1

/-- The SDI flow of a direction that lane `l` serves (R147). -/
def State.sdiFlow (s : State) (l dir : Nat) : Option Nat :=
  s.streams.active.find? fun f => s.reg R.flow_KIND f == 4 && !s.isPeer f && s.reg R.flow_PORT_A f == l && s.reg R.flow_DIR f == dir

/-! ### Packets of a field (R575) -/

/-- The payload of each packet: PACKET_BYTES in whole units. -/
def State.payloadBytes (s : State) (f gb : Nat) : Nat :=
  let unit := if s.reg R.flow_PACKING f = 1 then 180 else gb
  s.reg R.flow_PACKET_BYTES f / unit * unit

/-- Where a packet that starts at byte `pos` of a field's `total` bytes (rows of `rb`) ends, with `room` bytes and `n` more sample row
data headers. -/
def packetEnd (total rb : Nat) : Nat → Nat → Nat → Nat
  | 0, _, pos => pos
  | n + 1, room, pos =>
    if room = 0 ∨ total ≤ pos then pos
    else
      let take := min room ((pos / rb + 1) * rb - pos)
      packetEnd total rb n (room - take) (pos + take)

/-- The packets of a field: start and end of each. -/
def fieldPackets (total rb payload : Nat) : Nat → Nat → List (Nat × Nat)
  | 0, _ => []
  | k + 1, pos =>
    if total ≤ pos then []
    else
      let e := packetEnd total rb 3 payload pos
      (pos, e) :: fieldPackets total rb payload k e

/-- The packets of a field of `total` bytes; none shorter than the room left. -/
def packetsOf (total rb payload : Nat) : List (Nat × Nat) := if rb = 0 ∨ payload = 0 then [] else fieldPackets total rb payload total 0

/-- The fields of a picture: interlaced pictures of one-line groups have two.
[DESIGN CHOICE, log 244: unsafe] -/
def State.fieldsOf (s : State) (c fmt : Nat) : Nat := if s.on R.cad_INTERLACED c ∧ fmtCoverV fmt = 1 then 2 else 1

/-- Rows of field `i` of `k` among `rows`. -/
def fieldRows (rows k i : Nat) : List Nat := (List.range rows).filter fun r => r % k == i

/-! ### The load bound of R155 -/

/-- A cadence's period as an exact ratio, in ns. -/
def State.periodRatio (s : State) (c : Nat) : Nat × Nat :=
  if s.reg R.cad_KIND c = 0 then (s.reg R.cad_RATE_DEN c * 1000000000, s.reg R.cad_RATE_NUM c)
  else (s.reg R.cad_SAMPLES c * 62500, 3)

/-- R_ACT of a type N flow as a ratio; 1 otherwise (R154). -/
def State.rAct (s : State) (f c height : Nat) : Nat × Nat :=
  if s.reg R.flow_PACING f = 0 ∧ s.reg R.cad_LINES c ≠ 0 then (height, s.reg R.cad_LINES c) else (1, 1)

/-- C_MAX of ST 2110-21 for a field of `npk` packets in `p.1 / p.2` ns with `r.1 / r.2` of it active.
[PRESUMED, log 54: unsafe] -/
def State.cMax (s : State) (f npk : Nat) (p r : Nat × Nat) : Nat :=
  if s.reg R.flow_PACING f = 2 then max 16 (npk * p.2 * 1000000000 / (21600 * p.1))
  else max 4 (npk * p.2 * 1000000000 * r.2 / (43200 * r.1 * p.1))

/-- Bytes on the wire of the longest packet of a flow on a port, beside its payload: Ethernet, IPv4, UDP and RTP headers with preamble,
check sequence and gap, and the payload header of the kind.
[PRESUMED, log 54: unsafe] -/
def State.wireBytes (s : State) (f p : Nat) : Nat :=
  s.reg R.flow_PACKET_BYTES f + 78 + (match s.reg R.flow_KIND f with | 0 => 20 | 3 => 8 | _ => 0) + (if s.on R.eth_VLAN p then 4 else 0)

/-- A delay of `e` further packets of `bytes` at `rate` kB/s stays within (C_MAX − 1) × TRS of a video flow on picture `b`. -/
def State.withinBound (s : State) (f : Nat) (b : BufferRec) (c e bytes rate : Nat) : Bool :=
  let rb := fmtRowBytes b.format b.width
  let k := s.fieldsOf c b.format
  let p := s.periodRatio c
  let r := s.rAct f c b.height
  (List.range k).all fun i =>
    let npk := max 1 (packetsOf ((fieldRows (b.height / fmtCoverV b.format) k i).length * rb) rb (s.payloadBytes f (fmtGroup b.format))).length
    let cm := s.cMax f npk (p.1, p.2 * k) r
    decide (e * bytes * 1000000 * (p.2 * k * r.2 * npk) ≤ (cm - 1) * p.1 * r.1 * rate)

/-- The buffer record a BOUND flow is bound to. -/
def State.boundBuffer (s : State) (f : Nat) : Option BufferRec :=
  (s.graph (s.flowRun f).slot).bufs.find? fun b => b.handle == s.reg R.flow_HANDLE f

/-- The load check of R155 on the ports of the flows `binds` (a flow with the picture and cadence it will have) and of a flow being
configured. -/
def State.egressOk (s : State) (binds : List (Nat × BufferRec × Nat)) (extra : Option Nat) : Bool :=
  let more := extra.toList
  let ports := ((binds.map Prod.fst ++ more).flatMap s.flowPorts).eraseDups
  ports.all fun p =>
    let group := s.egressOn p ++ more.filter fun f => (s.flowPorts f).contains p
    let bytes := (group.map fun f => s.wireBytes f p).foldl max 0
    s.portRate p == 0 || group.all fun f =>
      let got := match binds.find? fun x => x.1 == f with
        | some x => some (x.2.1, x.2.2)
        | none => if s.reg R.flow_STATE f == 2 && s.reg R.flow_KIND f == 0 then
            (s.boundBuffer f).map fun b => (b, (s.graph (s.flowRun f).slot).cad) else none
      match got with
      | some (b, c) => s.reg R.flow_KIND f != 0 || s.withinBound f b c (group.length - 1) bytes (s.portRate p)
      | none => true

/-! ### Configuration (R131, R133, R530, R574) -/

/-- Two ingress flows have equal classifier keys on a common port (R131). -/
def State.sameKey (s : State) (f g : Nat) : Bool :=
  (s.flowPorts f).any (fun p => (s.flowPorts g).contains p) && s.reg R.flow_DEST_ADDR f == s.reg R.flow_DEST_ADDR g &&
  s.reg R.flow_UDP_PORT f == s.reg R.flow_UDP_PORT g && s.reg R.flow_SSRC_ANY f == s.reg R.flow_SSRC_ANY g &&
  (s.on R.flow_SSRC_ANY f || s.reg R.flow_SSRC f == s.reg R.flow_SSRC g)

/-- A flow that has a classifier rule. -/
def State.hasRule (s : State) (f : Nat) : Bool := !s.isPeer f && s.reg R.flow_DIR f == 0 && s.reg R.flow_KIND f != 4

/-! ### What a port sends of itself (R129) -/

/-- Port `p` sends a frame of its own. -/
def State.sendControl (s : State) (p : Nat) (c : CtlFrame) : State :=
  State.inc { s with streams := { s.streams with control := tput (fun _ => none) p (some c) s.streams.control } } R.eth_TX_FRAMES p

/-- An IPv4 multicast group. -/
def multicast (a : Nat) : Bool := a / 2 ^ 28 == 14

/-- The groups of the flows `fs`, each with its source filter. -/
def State.groupsOf (s : State) (fs : List Nat) : List (Nat × Nat) :=
  ((fs.filter fun f => s.hasRule f && multicast (s.reg R.flow_DEST_ADDR f)).map fun f =>
    (s.reg R.flow_DEST_ADDR f, s.reg R.flow_SRC_ADDR f)).eraseDups

/-- A membership report for the groups of `fs` leaves port `p`, if there are any and its link is UP.
[DEDUCED, log 63: unsafe] -/
def State.reportGroups (s : State) (p : Nat) (fs : List Nat) : State :=
  if s.on R.eth_LINK p && !(s.groupsOf fs).isEmpty then s.sendControl p (.igmpReport (s.groupsOf fs)) else s

/-- The values under which CONFIGURE is not refused with BAD_VALUE (R131, R530, R574). -/
def State.configureValues (s : State) (f : Nat) : Bool :=
  if s.isPeer f then decide (s.reg R.flow_KIND f ≤ 3) && s.ens.partnerSet.contains f
  else
    let a := s.reg R.flow_PORT_A f
    let b := s.reg R.flow_PORT_B f
    let ports := if s.reg R.flow_KIND f = 4 then decide (a < 256) && !s.on R.flow_PAIRED f
      else s.isPort a && (!s.on R.flow_PAIRED f || (b != 0xFFFF && b != a && s.isPort b))
    ports && (!s.hasRule f || s.streams.active.all fun g => g == f || !s.hasRule g || !s.sameKey f g)

/-- CONFIGURE finds a limit reached (R131, R147, R155, R530). -/
def State.configureFull (s : State) (f : Nat) : Bool :=
  if s.isPeer f then !s.on R.link_ENABLE (s.reg R.pf_LINK f)
  else (s.hasRule f && decide (262144 ≤ (s.streams.active.filter s.hasRule).length)) ||
    (s.reg R.flow_KIND f == 4 && (s.sdiFlow (s.reg R.flow_PORT_A f) (s.reg R.flow_DIR f)).isSome) ||
    (s.reg R.flow_DIR f == 1 && s.reg R.flow_KIND f != 4 && !s.egressOk [] (some f))

/-- A number joins an ascending list. -/
def insertNat (x : Nat) : List Nat → List Nat
  | [] => [x]
  | y :: t => if x < y then x :: y :: t else if x = y then y :: t else y :: insertNat x t

/-- EGRESS_FLOWS of the ports of flow `f` follows (Table 05.6). -/
def State.countEgress (s : State) (f : Nat) : State :=
  s.each ((s.flowPorts f).filter fun p => p < 256) fun s p => s.setReg R.eth_EGRESS_FLOWS p (s.egressOn p).length

/-- COMMAND = CONFIGURE of flow `f` (R133): its ports report the group it receives (R129). -/
def opConfigure (w : Who) (f : Nat) (s : State) : State :=
  s.writeAs w R.flow_COMMAND f (s.configureValues f) fun s =>
    if s.on R.flow_STATE f then s.stateError
    else if s.configureFull f then s.resource
    else
      let s := s.setReg R.flow_STATE f 1
      let s := { s with streams := { s.streams with active := insertNat f s.streams.active } }
      ((s.countEgress f).each (s.flowPorts f) fun s p => s.reportGroups p [f]).ok

/-- The raster of an SDI lane. -/
def State.sdiOut (s : State) (l : Nat) : SdiOut := tget (fun _ => {}) s.streams.sdiOut l

def State.onSdiOut (s : State) (l : Nat) (u : SdiOut → SdiOut) : State :=
  { s with streams := { s.streams with sdiOut := tput (fun _ => {}) l (u (s.sdiOut l)) s.streams.sdiOut } }

/-- The transmitter of an SDI lane is squelched (R385): its raster ends. -/
def State.squelch (s : State) (l : Nat) : State := (s.setReg R.lane_TX_STATE l 0).onSdiOut l fun _ => {}

/-- COMMAND = UNCONFIGURE of flow `f` (R133, R385): an SDI transmitter is squelched. -/
def opUnconfigure (w : Who) (f : Nat) (s : State) : State :=
  s.writeAs w R.flow_COMMAND f true fun s =>
    if s.reg R.flow_STATE f ≠ 1 then s.stateError
    else
      let s := s.setReg R.flow_STATE f 0
      let s := { s with streams := { s.streams with active := s.streams.active.filter fun g => g != f } }
      let s := if s.reg R.flow_KIND f = 4 ∧ s.reg R.flow_DIR f = 1 then s.squelch (s.reg R.flow_PORT_A f) else s
      (s.countEgress f).ok

/-! ### Binding (R133, R134, R137, R142) -/

/-- The flows of a graph with their node, direction and buffer. -/
def Graph.flowNodes (g : Graph) : List (NodeRec × Nat × BufferRec) :=
  g.nodes.filterMap fun v =>
    match v.kind with
    | 1 => (g.output v).map fun e => (v, 0, g.buf e.buffer)
    | 2 => (g.inputs v).head?.map fun e => (v, 1, g.buf e.buffer)
    | _ => none

/-- The flows of a graph that starts in slot `g` become BOUND; from CONFIGURED, with an empty window and both legs DOWN. -/
def State.bindFlows (s : State) (g : Nat) : State :=
  s.each (s.graph g).flowNodes fun s x =>
    let f := x.1.flow
    if s.flowConfigured f x.2.1 then
      let fresh := s.reg R.flow_STATE f = 1
      let s := ((s.setReg R.flow_STATE f 2).setReg R.flow_HANDLE f x.2.2.handle)
      let s := s.onFlow f fun r =>
        if fresh then { slot := g, nextSeq := r.nextSeq, lastSdi := r.lastSdi } else { r with slot := g }
      let s := if fresh then s.setReg R.flow_LEG_STATE f 0 else s
      if s.reg R.flow_KIND f = 4 ∧ x.2.1 = 1 ∧ !s.isPeer f ∧ s.reg R.lane_MODE (s.reg R.flow_PORT_A f) = 2 then
        (s.setReg R.lane_TX_STATE (s.reg R.flow_PORT_A f) 1).onSdiOut (s.reg R.flow_PORT_A f) fun r => { r with cad := (s.graph g).cad }
      else s
    else s

/-- Another RUNNING or DRAINING graph that names flow `f` in a direction, and the buffer it names it for. -/
def State.otherBinder (s : State) (g f dir : Nat) : Option (Nat × BufferRec) :=
  allSlots.findSome? fun k =>
    if k != g && s.live k then ((s.graph k).flowNodes.find? fun x => x.1.flow == f && x.2.1 == dir).map fun x => (k, x.2.2) else none

/-- The graph of slot `g` has retired its last operation (R133, R134): a flow bound to it passes to another graph that still names it, and
else returns to CONFIGURED. -/
def State.unbindFlows (s : State) (g : Nat) : State :=
  s.each (s.graph g).flowNodes fun s x =>
    let f := x.1.flow
    if 2 ≤ s.reg R.flow_STATE f ∧ (s.flowRun f).slot = g then match s.otherBinder g f x.2.1 with
    | some y => (s.setReg R.flow_HANDLE f y.2.handle).onFlow f fun r => { r with slot := y.1 }
    | none =>
      let s := ((s.setReg R.flow_STATE f 1).setReg R.flow_HANDLE f 0).setReg R.flow_LEG_STATE f 0
      s.onFlow f fun r => { nextSeq := r.nextSeq, lastSdi := r.lastSdi }
    else s

/-- The descriptor of a flow (Table 05.4); that of a flow that is OFF is zero, as the fields' resets and R308 leave it.
[DEDUCED, log 65: unsafe] -/
def State.flowDescriptor (s : State) (f : Nat) : List Byte :=
  if s.reg R.flow_STATE f = 0 then leBytes 32 0 else
  let r := s.flowRun f
  let cad := if 2 ≤ s.reg R.flow_STATE f then (s.graph r.slot).cad else 0
  leBytes 16 (s.reg R.flow_STATE f + s.reg R.flow_DIR f * 2 ^ 3 + s.reg R.flow_KIND f * 2 ^ 4 + s.reg R.flow_PAIRED f * 2 ^ 7 +
    s.reg R.flow_PORT_A f % 256 * 2 ^ 8 + b2n (s.on R.flow_PAIRED f) * (s.reg R.flow_PORT_B f % 256) * 2 ^ 16 +
    s.reg R.flow_DEST_ADDR f * 2 ^ 24 + s.reg R.flow_UDP_PORT f * 2 ^ 56 + s.reg R.flow_SSRC f * 2 ^ 72 + s.reg R.flow_SSRC_ANY f * 2 ^ 104 + s.reg R.flow_PT f * 2 ^ 105 +
    cad * 2 ^ 112 + s.reg R.flow_LEG_STATE f * 2 ^ 116) ++
  leBytes 4 (s.reg R.flow_HANDLE f) ++ leBytes 4 (if s.reg R.flow_DIR f = 0 then r.seq.getD 0 else r.nextSeq) ++ leBytes 4 (r.newest.getD 0) ++
  leBytes 4 0

end Sys2Proof.Machine
end

