-- ==== Sys2Proof/Machine/Code.lean ====
section
/-! DEFINITION. The device code (R229 to R239): arithmetic of GF(2^8), encoding, syndromes and the decoding procedure of R233. -/

namespace Sys2Proof.Machine

/-- Multiplication by α = 0x02 in GF(2^8) over x^8 + x^4 + x^3 + x^2 + 1 (R229). -/
def gfDouble (a : Nat) : Nat := if a < 128 then 2 * a else (2 * a - 256) ^^^ 0x1D

/-- The product over the eight bits of `b`, most significant first. -/
def gfMulFrom (a b : Nat) : Nat → Nat
  | 0 => 0
  | k + 1 => (gfDouble (gfMulFrom a (b / 2) k)) ^^^ (if b % 2 = 1 then a else 0)

/-- The product of two field elements. -/
def gfMul (a b : Nat) : Nat := gfMulFrom a b 8

/-- α^n. -/
def gfPow : Nat → Nat
  | 0 => 1
  | n + 1 => gfDouble (gfPow n)

/-- Symbol at code position `j` of a code word in the layout of Table 08.1 (R230, R232). -/
def symbolAt (w : CodeWord) (j : Nat) : Nat :=
  let bit := if j < 4 then 256 + 8 * j else 8 * (j - 4)
  w.toNat / 2 ^ bit % 256

/-- The code word with `e` added to the symbol at position `j`. -/
def addSymbol (w : CodeWord) (j e : Nat) : CodeWord :=
  let bit := if j < 4 then 256 + 8 * j else 8 * (j - 4)
  w ^^^ BitVec.ofNat 288 (e * 2 ^ bit)

/-- Syndrome S_k by Horner's rule over positions 35 to 0. -/
def syndrome (w : CodeWord) (k : Nat) : Nat :=
  (List.range 36).foldl (fun a i => gfMul a (gfPow k) ^^^ symbolAt w (35 - i)) 0

/-- One step of the division by g(x): the four remainder symbols, most significant first, after one more data symbol. -/
def encodeStep (r : Nat × Nat × Nat × Nat) (d : Nat) : Nat × Nat × Nat × Nat :=
  let f := r.1 ^^^ d
  (r.2.1 ^^^ gfMul f 0x0F, r.2.2.1 ^^^ gfMul f 0x36, r.2.2.2 ^^^ gfMul f 0x78, gfMul f 0x40)

/-- The code word of 32 data bytes given as a number, byte 0 least significant (R231). -/
def encodeWord (d : Nat) : CodeWord :=
  let d := d % 2 ^ 256
  let r := (List.range 32).foldl (fun r i => encodeStep r (d / 2 ^ (8 * (31 - i)) % 256)) (0, 0, 0, 0)
  BitVec.ofNat 288 (d + (r.2.2.2 + r.2.2.1 * 2 ^ 8 + r.2.1 * 2 ^ 16 + r.1 * 2 ^ 24) * 2 ^ 256)

/-- The canonical poison word (R238). -/
def poisonWord : CodeWord := BitVec.ofNat 288 (0x01070E08 * 2 ^ 256)

/-- The data of a code word. -/
def dataOf (w : CodeWord) : Nat := w.toNat % 2 ^ 256

/-- The outcomes of Table 08.2; a correction carries its position and error value. -/
inductive Decoded where
  | clean (data : Nat)
  | corrected (data position error : Nat)
  | poison
  | uncorrectable
  deriving DecidableEq, Repr

/-- The code position of DQ lane `l` (Table 08.3). -/
def laneSymbol (l : Nat) : Nat := if l < 32 then l + 4 else l - 32

/-- The decoding procedure of R233; `dead` is the code position of the PC's dead lane, if it has one. -/
def decodeWord (w : CodeWord) (dead : Option Nat) : Decoded :=
  let s0 := syndrome w 0
  let s1 := syndrome w 1
  let s2 := syndrome w 2
  let s3 := syndrome w 3
  if s0 = 0 ∧ s1 = 0 ∧ s2 = 0 ∧ s3 = 0 then .clean (dataOf w)
  else if s0 = 0 ∧ s1 = 0 ∧ s2 = 0 then .poison
  else
    let single := decide (s0 ≠ 0 ∧ s1 ≠ 0 ∧ s2 ≠ 0 ∧ s3 ≠ 0) && gfMul s1 s1 == gfMul s0 s2 && gfMul s2 s2 == gfMul s1 s3
    if single then
      match (List.range 36).find? fun j => gfMul s0 (gfPow j) == s1 with
      | some j => .corrected (dataOf (addSymbol w j s0)) j s0
      | none => .uncorrectable
    else
      match dead with
      | some d => if s1 = gfMul s0 (gfPow d) ∧ s2 = gfMul s1 (gfPow d) then .poison else .uncorrectable
      | none => .uncorrectable

/-! ### Self-test (R257) -/

/-- Pattern 1 of Table 08.7: data bytes 0x00 to 0x1F in order, with their check symbols. -/
def testPattern : CodeWord := encodeWord ((List.range 32).map fun i => i * 256 ^ i).sum

/-- The words of Table 08.7 in order, pattern 2 once for each position, and what a checker must answer to each. -/
def selfTestPatterns : List (CodeWord × CheckAnswer) :=
  (testPattern, .clean) :: ((List.range 36).map fun j => (addSymbol testPattern j 0x80, .corrected j 0x80)) ++
  [(addSymbol (addSymbol testPattern 4 0xFF) 35 0xFF, .uncorrectable),
   (addSymbol (addSymbol (addSymbol testPattern 0 0x01) 17 0x01) 35 0x01, .uncorrectable),
   (poisonWord, .poison), (addSymbol poisonWord 20 0x01, .uncorrectable)]

/-- The answer of a decoding, as the self-test compares it. -/
def Decoded.answer : Decoded → CheckAnswer
  | .clean _ => .clean
  | .corrected _ j e => .corrected j e
  | .poison => .poison
  | .uncorrectable => .uncorrectable

/-- A checker passes only if it returns every expected outcome, position and value (R257). -/
def checkerPasses (r : CheckReport) : Bool := r.answers == selfTestPatterns.map Prod.snd

/-- The four syndromes packed as a log entry holds them (Table 08.5). -/
def syndromeField (w : CodeWord) : Nat := syndrome w 0 + syndrome w 1 * 2 ^ 8 + syndrome w 2 * 2 ^ 16 + syndrome w 3 * 2 ^ 24

end Sys2Proof.Machine
end

