-- ==== Sys2Proof/Machine/Transport.lean ====
section
/-! DEFINITION. How flits move (chapter 09): their bits and CRC (R264, R265), ring cycles (R274), directions (R263, R299), the buffers of stops
and of the exchange (R270), and the responses and acknowledgements of targets. -/

namespace Sys2Proof.Machine

/-! ### Headers -/

def vcCode : VC → Nat
  | .vc0 => 0 | .vc1 => 1 | .vc2 => 2 | .vc3 => 3

def opCode : FlitOp → Nat
  | .read => 0 | .write => 1 | .writeMasked => 2 | .response => 3 | .status => 4 | .control => 5 | .reserved n => n % 16

/-- ACK_STATUS (Table 09.5). -/
def ackCode : AckStatus → Nat
  | .done => 0 | .asleep => 1 | .dead => 2 | .discarded => 3

/-- Bits [39:0] of a header (Table 09.2). -/
def headerBits (f : Flit) : Nat :=
  vcCode f.vc + opCode f.op * 2 ^ 2 + f.dstRing % 16 * 2 ^ 6 + f.dstStop % 32 * 2 ^ 10 + f.srcRing % 16 * 2 ^ 15 + f.srcStop % 32 * 2 ^ 19 +
  f.epoch % 2 * 2 ^ 24 + f.beat % 8 * 2 ^ 25 + b2n f.last * 2 ^ 28 + b2n f.poison0 * 2 ^ 29 + b2n f.poison1 * 2 ^ 30 + b2n f.two * 2 ^ 31 +
  f.tag % 256 * 2 ^ 32

/-- CRC-8 of the `n` low bits of `w`, bit 0 first, from 0 (R265). -/
def crc8From0 (n w : Nat) : Nat := (List.range n).foldl (fun c i => crc8Bit c (w.testBit i)) 0

def flitCrc (f : Flit) : Nat := crc8From0 40 (headerBits f)

/-- A stop that changes a header field recomputes the CRC (R265). -/
def withCrc (f : Flit) : Flit := { f with crc := flitCrc f }

/-- The 624 bits of a flit (R264): the header, payload word 0, payload word 1. -/
def flitBits (f : Flit) : Nat := headerBits f + f.crc % 256 * 2 ^ 40 + f.word0.toNat * 2 ^ 48 + f.word1.toNat * 2 ^ 336

/-- The virtual channel and the operation of a code (Tables 09.2, 09.3). -/
def vcOf (n : Nat) : VC := nth [.vc0, .vc1, .vc2, .vc3] n .vc0
def opOf (n : Nat) : FlitOp := nth [.read, .write, .writeMasked, .response, .status, .control] n (.reserved n)

/-- The flit that 624 bits spell, with its write address from the side word beside it (R264, Table 09.2). -/
def flitOfBits (w : Nat) (waddr : Option Nat) : Flit :=
  { vc := vcOf (bits w 1 0), op := opOf (bits w 5 2), dstRing := bits w 9 6, dstStop := bits w 14 10, srcRing := bits w 18 15,
    srcStop := bits w 23 19, epoch := bits w 24 24, beat := bits w 27 25, last := w.testBit 28, poison0 := w.testBit 29,
    poison1 := w.testBit 30, two := w.testBit 31, tag := bits w 39 32, crc := bits w 47 40,
    word0 := BitVec.ofNat 288 (w / 2 ^ 48), word1 := BitVec.ofNat 288 (w / 2 ^ 336), waddr := waddr }

/-- The stop a header's ring and stop fields name: 384 the scheduler, 385 the steward and the configuration port (R260). -/
def stopIdentity (ring stop : Nat) : Nat := if stop = 24 then 384 else if stop = 25 then 385 else ring * 24 + stop

def flitDst (f : Flit) : Nat := stopIdentity f.dstRing f.dstStop
def flitSrc (f : Flit) : Nat := stopIdentity f.srcRing f.srcStop

/-- Ring and stop fields of an identity. -/
def ringField (g : Nat) : Nat := if g < 384 then g / 24 else 0
def stopField (g : Nat) : Nat := if g < 384 then g % 24 else g - 360

/-- A flit of one beat or of a transfer, from stop `a` to stop `b`, before injection stamps it. -/
def mkFlit (a b : Nat) (vc : VC) (op : FlitOp) (tag beat : Nat) (last : Bool) (w0 : CodeWord) (w1 : Option CodeWord)
    (p0 p1 : Bool) (waddr : Option Nat) : Flit :=
  { vc := vc, op := op, dstRing := ringField b, dstStop := stopField b, srcRing := ringField a, srcStop := stopField a, epoch := 0,
    beat := beat, last := last, poison0 := p0, poison1 := p1, two := w1.isSome, tag := tag, crc := 0, word0 := w0,
    word1 := w1.getD 0, waddr := waddr }

/-- The code word of a data word, or canonical poison. -/
def wordOrPoison : Option Nat → CodeWord
  | some d => encodeWord d
  | none => poisonWord

/-- The flits of a transfer of words from beat `i` on, two to a flit; addresses for writes. -/
def wordFlits (a b : Nat) (vc : VC) (op : FlitOp) (tag : Nat) : Nat → List (Option Nat × Option Nat) → List Flit
  | _, [] => []
  | i, [x] => [mkFlit a b vc op tag i true (wordOrPoison x.1) none x.1.isNone false x.2]
  | i, x :: y :: t =>
    mkFlit a b vc op tag i t.isEmpty (wordOrPoison x.1) (some (wordOrPoison y.1)) x.1.isNone y.1.isNone x.2 ::
      wordFlits a b vc op tag (i + 1) t

/-- The VC of the answer to a request (Table 09.6). -/
def answerVc : VC → VC
  | .vc0 => .vc0
  | .vc3 => .vc3
  | _ => .vc2

/-! ### Ring cycles (R274) -/

/-- The ring-cycle counter: 2 to the nanosecond, and between nanoseconds as far as it has been counted.
[DEDUCED, log 76: unsafe] -/
def State.ringCycle (s : State) : Nat := max (2 * (s.mono - s.rings.start)) s.rings.cycle
/-- [DEDUCED, log 76: unsafe] -/
def State.ringSlot (s : State) : Nat := s.ringCycle % 1024

/-- Time passes until ring cycle `c`. -/
def State.waitCycle (s : State) (c : Nat) : State :=
  let s := s.waitUntil (s.rings.start + c / 2)
  { s with rings := { s.rings with cycle := max s.rings.cycle c } }

/-! ### Directions -/

/-- The stop of `g`'s ring toward which a flit for `dst` goes. -/
def ringTarget (g dst : Nat) : Nat := if dst < 384 ∧ dst / 24 = g / 24 then dst % 24 else 0

/-- The direct path of a flit from stop `g` crosses segment `seg`. -/
def crosses (g dst seg : Nat) : Bool := (ringPath (g % 24) (ringTarget g dst)).2.contains seg

/-- The direction a flit takes from stop `g` when segment `fault` of its ring carries nothing (R263, R299). -/
def directionUnder (g dst fault : Nat) : Nat :=
  let d := (ringPath (g % 24) (ringTarget g dst)).1
  if crosses g dst fault then 1 - d else d

/-- The faulty segment of a ring in DETOUR; 0xFF where there is none. -/
def State.detourSegment (s : State) (k : Nat) : Nat := if s.reg R.ring_STATE k = 1 then s.reg R.ring_FAULT_SEGMENT k else 0xFF

def State.direction (s : State) (g dst : Nat) : Nat := directionUnder g dst (s.detourSegment (g / 24))

/-- The flit is diverted (R299). -/
def State.diverted (s : State) (g dst : Nat) : Bool := crosses g dst (s.detourSegment (g / 24))

/-- A flit of an epoch before the current one (R287). -/
def State.oldEpoch (s : State) (f : Flit) : Bool := f.epoch % 2 != s.reg R.rsys_EPOCH % 2

/-- The direction toward `dst` while the segment that carried nothing at the last commit was the ring's only one (R289). -/
def State.oldDirection (s : State) (g dst : Nat) : Nat := directionUnder g dst (tget (fun _ => 0xFF) s.rings.oldFaults (g / 24))

/-- The direction a flit takes from stop `g`: during a drain by its own epoch (R289), but never onto a faulty segment (R299). -/
def State.flitDirection (s : State) (g : Nat) (f : Flit) : Nat :=
  if s.on R.rsys_DRAINING && s.oldEpoch f && !s.diverted g (flitDst f) then s.oldDirection g (flitDst f) else s.direction g (flitDst f)

/-- A flit travels as a detour flit on the ring of stop `g` (R299): its path from where it enters the ring would cross the faulty segment. -/
def State.detourFlit (s : State) (g : Nat) (f : Flit) : Bool :=
  s.diverted (if flitSrc f < 384 ∧ flitSrc f / 24 = g / 24 then flitSrc f else g / 24 * 24) (flitDst f)

/-- A flit at stop `g` leaves the ring by the exchange (R279). -/
def leavesRing (g : Nat) (f : Flit) : Bool := decide (384 ≤ g) || (g % 24 == 0 && (decide (384 ≤ flitDst f) || flitDst f / 24 != g / 24))

/-- The segment that leaves stop `g` in a direction. -/
def segmentOut (g dir : Nat) : Nat := if dir = 0 then g % 24 else (g % 24 + 23) % 24

/-- The segment by which flits of direction `dir` reach stop `g`, and the stop they come from. -/
def segmentIn (g dir : Nat) : Nat := if dir = 0 then (g % 24 + 23) % 24 else g % 24
def neighbour (g dir : Nat) : Nat := g / 24 * 24 + (if dir = 0 then (g % 24 + 23) % 24 else (g % 24 + 1) % 24)

/-! ### Buffers -/

def allVcs : List VC := [.vc0, .vc1, .vc2, .vc3]

/-- Input numbers: direction 0, direction 1, injection. -/
def inputOf (g dir : Nat) : Nat := 3 * g + dir

def State.buffer (s : State) (input : Nat) (vc : VC) : List Buffered := tget (fun _ => []) s.rings.bufs (4 * input + vcCode vc)

/-- Flits wait at the ring stop of quad `q` for a slot on the ring. -/
def State.ingressHeld (s : State) (q : Nat) : Bool := allVcs.any fun vc => !(s.buffer (inputOf (quadStop q) 2) vc).isEmpty

/-- Bytes in the ingress buffer of quad `q` (R160): what it held when it was last looked at, less a flit of 64 bytes for each ring cycle
since, unless flits wait for a slot on the ring.
[DEDUCED, log 64: unsafe] -/
def State.ingressFill (s : State) (q : Nat) : Nat :=
  let x := tget (fun _ => (0, 0)) s.streams.ingress q
  if s.ingressHeld q then x.1 else x.1 - 128 * (s.mono - x.2)

/-- `n` bytes enter the ingress buffer of quad `q`. -/
def State.ingressEnter (s : State) (q n : Nat) : State :=
  { s with streams := { s.streams with ingress := tput (fun _ => (0, 0)) q (s.ingressFill q + n, s.mono) s.streams.ingress } }

/-- The injection buffer of a stop is about to change: at a lane quad the ingress buffer has drained as far as it could until now (R160). -/
def State.ingressUntil (s : State) (input : Nat) : State :=
  match stopUnit (input / 3) with
  | (.quad, q) => if input % 3 = 2 ∧ input < 1152 then s.ingressEnter q 0 else s
  | _ => s

def State.setBuffer (s : State) (input : Nat) (vc : VC) (l : List Buffered) : State :=
  let s := s.ingressUntil input
  { s with rings := { s.rings with bufs := tput (fun _ => []) (4 * input + vcCode vc) l s.rings.bufs } }

/-- A credit for a VC of an input is to be returned (R270). -/
def State.returnCredit (s : State) (input : Nat) (vc : VC) (n : Nat) : State :=
  let k := 4 * input + vcCode vc
  { s with rings := { s.rings with returns := tput (fun _ => 0) k (tget (fun _ => 0) s.rings.returns k + n) s.rings.returns } }

/-- The peak occupancy of stop `g`'s buffers (0x4002.12). -/
def State.vcPeak (s : State) (g : Nat) (vc : VC) (n : Nat) : State :=
  let i := 8 * vcCode vc
  let old := s.reg R.stop_VC_PEAK g
  if g < 384 ∧ bits old (i + 7) i < n then s.setReg R.stop_VC_PEAK g (old - bits old (i + 7) i * 2 ^ i + min n 255 * 2 ^ i) else s

/-- An input by which flits come from a master or a target, not over a segment: injection, and the exchange ports of the scheduler and the
steward. -/
def localInput (input : Nat) : Bool := input % 3 == 2 || decide (1152 ≤ input)

/-- A flit that came in ring cycle `c` joins a buffer. -/
def State.pushFlit (s : State) (input port c : Nat) (f : Flit) : State :=
  let l := s.buffer input f.vc ++ [{ since := c, port := port, flit := f }]
  let s := s.setBuffer input f.vc l
  if localInput input then s else s.vcPeak (input / 3) f.vc l.length

/-- The transfer at the head of a buffer, as far as it has come: up to its last flit, or to the first of another. -/
def headRun : List Buffered → List Buffered
  | [] => []
  | b :: t => if b.flit.last || (t.head?.any fun c => c.flit.beat == 0) then [b] else b :: headRun t

/-- A transfer has come whole. -/
def runWhole (l : List Buffered) : Bool := l.getLast?.any fun b => b.flit.last

/-- The part of a transfer at the end of a buffer whose last flit has not come. -/
def openTail (l : List Buffered) : List Buffered := (l.reverse.takeWhile fun b => !b.flit.last).reverse

/-- The candidate at the head of an input's VC is gone: it starves no more (R286). -/
def State.unstarve (s : State) (input : Nat) (vc : VC) : State :=
  { s with rings := { s.rings with starved := s.rings.starved.filter fun m => !(m.1 == input && m.2.1 == vc) } }

/-- `n` flits leave the head of a buffer; the credits of a segment's input go back (R270). -/
def State.popFlits (s : State) (input : Nat) (vc : VC) (n : Nat) : State :=
  let s := (s.setBuffer input vc ((s.buffer input vc).drop n)).unstarve input vc
  if localInput input then s else s.returnCredit input vc n

/-- The number of an arbiter in tables: exchange outputs, slices, PCs. -/
def arbKey : ArbId → Nat
  | .exchange k => k
  | .slice k => 32 + k
  | .pc n => 64 + n

/-! ### Sending -/

/-- Exchange output of a destination (R279). -/
def exchangeOutput (dst : Nat) : Nat := if dst < 384 then dst / 24 else dst - 368

/-- A held transfer's first flit sets out: its time limit begins (R297). -/
def State.startHeld (s : State) (g tag : Nat) : State :=
  { s with rings := { s.rings with held := s.rings.held.map fun h =>
    if h.stop == g && h.tag == tag && h.since.isNone then { h with since := some s.mono } else h } }

/-- A flit is handed to stop `g` for injection, by fabric port `port` (512 for none). The exchange port of a fenced ring answers for the ring's
stops (R300), and a flit for the stop's own target needs no segment. -/
def State.inject (s : State) (g port : Nat) (f : Flit) : State :=
  let at_ := if g < 384 ∧ !s.ringPresent (g / 24) then g / 24 * 24 else g
  let s := if flitDst f = g ∧ flitSrc f = g then s.startHeld g f.tag else s
  s.pushFlit (inputOf at_ 2) port s.ringCycle f

def State.injectAll (s : State) (g port : Nat) (l : List Flit) : State := s.each l fun s f => s.inject g port f

/-! ### Answers of targets (R267, R269) -/

/-- Where an acknowledgement that has come to stop `g` goes on from: one for another ring crosses the exchange (R269). -/
def State.ackPlace (s : State) (g master : Nat) : Nat :=
  let out := decide (384 ≤ g) || g % 24 == 0 || !s.ringPresent (g / 24)
  if out && (decide (384 ≤ master) || master / 24 != g / 24) then (if master < 384 then master / 24 * 24 else master) else g

/-- The direction by which an acknowledgement leaves stop `g`: back along the path of the write (R263, R269). -/
def State.ackDirection (s : State) (g master : Nat) : Nat :=
  let a := if master < 384 ∧ master / 24 = g / 24 then master else g / 24 * 24
  1 - s.direction a g

/-- An acknowledgement sets out (R269), or goes on from stop `target`. -/
def State.sendMasterAck (s : State) (target master tag : Nat) (st : AckStatus) : State :=
  if tag = 0 then s
  else { s with rings := { s.rings with acks := s.rings.acks ++ [⟨s.ackPlace target master, master, tag, st⟩] } }

/-- A STATUS flit answers a request: 1 ADDRESS_ERROR, 2 ASLEEP, 3 DEAD (Table 09.3). -/
def State.sendStatus (s : State) (g master tag : Nat) (vc : VC) (code : Nat) : State :=
  s.inject g 512 (mkFlit g master vc .status tag 0 true (encodeWord code) none false false none)

/-- A RESPONSE carries words, none for poison (R267). -/
def State.sendResponse (s : State) (g master tag : Nat) (vc : VC) (ws : List (Option Nat)) : State :=
  s.injectAll g 512 (wordFlits g master vc .response tag 0 (ws.map fun w => (w, none)))

/-- The word at an address has been read for a requester: the response leaves when its last word has come. -/
def State.respond (s : State) (g master tag a : Nat) (w : Option Nat) : State :=
  match s.rings.reading.find? fun r => r.target == g && r.master == master && r.tag == tag && r.addrs.contains a with
  | none => s
  | some r =>
    let ws := r.words ++ [(a, w)]
    let rest := s.rings.reading.erase r
    if ws.length < r.addrs.length then { s with rings := { s.rings with reading := { r with words := ws } :: rest } }
    else
      ({ s with rings := { s.rings with reading := rest } }).sendResponse g master tag r.vc
        (r.addrs.map fun x => (ws.find? fun p : Nat × Option Nat => p.1 == x).bind Prod.snd)

/-! ### Read requests (Table 09.4) -/

/-- A request word: device address, words, mirror. -/
def requestWord (a n : Nat) (mirror : Bool) : Nat := a / 32 % 2 ^ 35 + (n - 1) % 16 * 2 ^ 35 + b2n mirror * 2 ^ 39 + 2 ^ 40

/-- The request of a word, if present: address, words, mirror. -/
def requestOf (w : Nat) : Option (Nat × Nat × Bool) :=
  if w.testBit 40 then some (w % 2 ^ 35 * 32, bits w 38 35 + 1, w.testBit 39) else none

end Sys2Proof.Machine
end

