-- ==== Sys2Proof/Machine/Memory.lean ====
section
/-! DEFINITION. The frame store as its masters see it: the address maps (Table 07.2, R197), code words, decoding with its counts and
logs (R233, R243, R259), never-written words (R253), masked writes (R205), fencing (R214, R215) and mirroring (R222 to R226). -/

namespace Sys2Proof.Machine

/-! ### Address maps -/

/-- Where a word lies (R197): stack, PC of the stack, SID × 16 + bank, row, column. -/
structure Location where
  stack : Nat
  pc : Nat
  bank : Nat
  row : Nat
  col : Nat
  deriving DecidableEq, Repr

/-- The PC index n of a location (R195). -/
def Location.index (x : Location) : Nat := x.stack * 32 + x.pc

/-- The location of address `a` under a map (Table 07.2): 0 A, 1 B, 2 C. -/
def locateIn (map a : Nat) : Location :=
  let stack := bits a 7 6
  match map with
  | 0 => ⟨stack, 2 * bits a 11 8 + bits a 5 5, bits a 22 21 * 16 + bits a 20 17, bits a 35 23 + bits a 37 36 * 2 ^ 13, bits a 16 12⟩
  | 1 => ⟨stack, 2 * bits a 35 32 + bits a 5 5, bits a 18 17 * 16 + bits a 16 13, bits a 31 19 + bits a 37 36 * 2 ^ 13, bits a 12 8⟩
  | _ => ⟨stack, 2 * bits a 35 32 + bits a 31 31, bits a 17 16 * 16 + bits a 15 12, bits a 30 18 + bits a 37 36 * 2 ^ 13,
      bits a 5 5 + 2 * bits a 11 8⟩

/-- The address of a location under a map: the inverse of `locateIn`. -/
def addressIn (map : Nat) (x : Location) : Nat :=
  let ch := x.pc / 2
  let p0 := x.pc % 2
  let bk := x.bank % 16
  let sid := x.bank / 16
  let lo := x.row % 2 ^ 13
  let hi := x.row / 2 ^ 13
  match map with
  | 0 => x.stack * 2 ^ 6 + p0 * 2 ^ 5 + ch * 2 ^ 8 + x.col * 2 ^ 12 + bk * 2 ^ 17 + sid * 2 ^ 21 + lo * 2 ^ 23 + hi * 2 ^ 36
  | 1 => x.stack * 2 ^ 6 + p0 * 2 ^ 5 + x.col * 2 ^ 8 + bk * 2 ^ 13 + sid * 2 ^ 17 + lo * 2 ^ 19 + ch * 2 ^ 32 + hi * 2 ^ 36
  | _ => x.stack * 2 ^ 6 + x.col % 2 * 2 ^ 5 + x.col / 2 * 2 ^ 8 + bk * 2 ^ 12 + sid * 2 ^ 16 + lo * 2 ^ 18 + p0 * 2 ^ 31 +
      ch * 2 ^ 32 + hi * 2 ^ 36

/-- The end of the frame store (R63). -/
def frameStoreEnd : Nat := 0x3000000000

/-- The location of an address under the map of its stack. -/
def State.locate (s : State) (a : Nat) : Location := locateIn (s.reg R.stk_MAP (bits a 7 6)) a

/-- How many x < `n` with x < 2^`k` have the masked bits of `v`: a count by the bits from the top. -/
def countBelow : Nat → Nat → Nat → Nat → Nat
  | 0, n, _, _ => if n = 0 then 0 else 1
  | k + 1, n, m, v =>
    if n = 0 then 0
    else if 2 ^ (k + 1) ≤ n then 2 ^ ((List.range (k + 1)).filter fun i => !m.testBit i).length
    else
      let h := 2 ^ k
      (if m.testBit k && v.testBit k then 0 else countBelow k (min n h) m v) +
        (if m.testBit k && !v.testBit k then 0 else countBelow k (n - h) m v)

/-- The bits of a word address that its PC fixes, under the map of the PC's stack: mask and value over address bits [37:5]. -/
def State.pcPattern (s : State) (n : Nat) : Nat × Nat :=
  let stack := n / 32
  let ch := n % 32 / 2
  let p0 := n % 2
  match s.reg R.stk_MAP stack with
  | 0 => (0b1111111 , p0 + stack * 2 + ch * 8)
  | 1 => (0b111 + 15 * 2 ^ 27, p0 + stack * 2 + ch * 2 ^ 27)
  | _ => (0b110 + 2 ^ 26 + 15 * 2 ^ 27, stack * 2 + p0 * 2 ^ 26 + ch * 2 ^ 27)

/-- How many words of a range of device addresses lie on PC `n`. -/
def State.wordsOnPc (s : State) (base len n : Nat) : Nat :=
  let (m, v) := s.pcPattern n
  countBelow 33 ((base + len) / 32) m v - countBelow 33 (base / 32) m v

/-! ### Retired and valid pages (R245, R252, R255) -/

/-- Whether a page holds a retired row, or a row of a retired bank, under a map. -/
def recordInPage (map : Nat) (r : Retirement) (page : Nat) : Bool :=
  let x := locateIn map (page * 2 ^ 17)
  let rowOk (y : Location) : Bool := match r.row with | none => true | some k => y.row == k
  let ch := r.pc % 32 / 2
  match map with
  | 0 => x.bank == r.bank && rowOk x
  | 1 => x.pc / 2 == ch && x.bank / 16 == r.bank / 16 && rowOk x
  | _ => x.pc == r.pc % 32 && x.bank / 32 == r.bank / 32 && rowOk x

/-- A page is retired by some record, under the maps given for the four stacks. -/
def pageRetiredBy (rs : List Retirement) (maps : List Nat) (page : Nat) : Bool :=
  rs.any fun r => recordInPage (nth maps (r.pc / 32) 0) r page

/-- The maps of the four stacks. -/
def State.maps (s : State) : List Nat := (List.range 4).map fun i => s.reg R.stk_MAP i

/-- A page is retired under the current maps (R255). -/
def State.pageRetired (s : State) (page : Nat) : Bool := pageRetiredBy s.store.retired s.maps page

/-- A page is scrubbed: valid and not retired (R245). -/
def State.pageScrubbed (s : State) (page : Nat) : Bool :=
  (s.store.valid.any fun r => decide (r.1 ≤ page) && decide (page < r.1 + r.2)) && !s.pageRetired page

/-! ### Code words -/

/-- What an unlisted word holds: zero words where a fill wrote it, nothing where nothing has (R249, R253).
[DESIGN CHOICE, log 71: safe] -/
def storeDefault (filled : List FillRange) (w : Nat) : Option CodeWord :=
  if filled.any fun r =>
      decide (r.base ≤ w * 32) && decide (w * 32 < r.base + r.len) && r.mask.testBit (bits (w * 32) 7 6) &&
        !pageRetiredBy r.records r.maps (w * 32 / 2 ^ 17)
  then some 0 else none

/-- The code word at an address; none where nothing has been written.
[DESIGN CHOICE, log 71: safe] -/
def State.codeWord (s : State) (a : Nat) : Option CodeWord := tget (storeDefault s.store.filled) s.store.words (a / 32)

/-- A code word stored at an address. -/
def State.putCodeWord (s : State) (a : Nat) (c : CodeWord) : State :=
  { s with store := { s.store with words := tput (storeDefault s.store.filled) (a / 32) (some c) s.store.words } }

/-- The controller of PC `n`. -/
def State.pcState (s : State) (n : Nat) : PcState := tget (fun _ => {}) s.store.pcs n

/-- The controller of PC `n` changed. -/
def State.onPc (s : State) (n : Nat) (f : PcState → PcState) : State :=
  { s with store := { s.store with pcs := tput (fun _ => {}) n (f (s.pcState n)) s.store.pcs } }

/-- A PC is fenced. -/
def State.pcFenced (s : State) (n : Nat) : Bool := s.reg R.pc_STATE n == 2

/-- The code position of a PC's dead lane. -/
def State.deadSymbol (s : State) (n : Nat) : Option Nat :=
  if s.reg R.pc_DEAD_LANE n = 0xFF then none else some (laneSymbol (s.reg R.pc_DEAD_LANE n))

/-! ### Logs (R243, R259) -/

def State.logEntry (s : State) (n e : Nat) : LogEntry := tget (fun _ => {}) s.store.logs (n * 16 + e)

def State.putLogEntry (s : State) (n e : Nat) (x : LogEntry) : State :=
  let s := s.setReg R.mlog_VALID n (putBit (s.reg R.mlog_VALID n) e true)
  { s with store := { s.store with logs := tput (fun _ => {}) (n * 16 + e) x s.store.logs } }

/-- A finding takes its place in the log of instance `n` (R243). -/
def State.logFinding (s : State) (n : Nat) (x : LogEntry) : State :=
  let x := { x with found := s.store.findings }
  let s : State := { s with store := { s.store with findings := s.store.findings + 1 } }
  let valid := s.reg R.mlog_VALID n
  let live := (List.range 16).filter fun e => valid.testBit e
  match live.find? fun e => (s.logEntry n e).addr == x.addr with
  | some e =>
    let y := s.logEntry n e
    s.putLogEntry n e { y with repeats := min (y.repeats + 1) 0xFFFF, kind := max y.kind x.kind }
  | none =>
    match (List.range 16).find? fun e => !valid.testBit e with
    | some e => s.putLogEntry n e x
    | none =>
      let oldest := (live.filter fun e => (s.logEntry n e).kind == 0).foldl (fun (b : Option Nat) e =>
        match b with
        | none => some e
        | some f => if (s.logEntry n e).found < (s.logEntry n f).found then some e else b) none
      match oldest with
      | some e => s.putLogEntry n e x
      | none =>
        let s := s.inc R.mlog_OVERFLOW n
        if s.store.overflowRaised.contains n then s
        else ({ s with store := { s.store with overflowRaised := n :: s.store.overflowRaised } }).raise 0x3104 n

/-- Event 0x3102, at most once per millisecond for each instance (R259). -/
def State.raiseUncorrectable (s : State) (n : Nat) : State :=
  match s.store.lastUncorr.find? fun p => p.1 == n with
  | some p =>
    if s.mono < p.2 + 1000000 then s.inc R.code_UNCORR_SUPPRESSED
    else ({ s with store := { s.store with lastUncorr := (n, s.mono) :: s.store.lastUncorr.filter fun q => q.1 != n } }).raise 0x3102 n
  | none => ({ s with store := { s.store with lastUncorr := (n, s.mono) :: s.store.lastUncorr } }).raise 0x3102 n

/-- A log entry for a finding on word `c` at address `a`; the time kept is that of the first finding, in ns, and its number is given when it is
placed. -/
def State.finding (s : State) (a : Nat) (c : CodeWord) (kind symbol error : Nat) (scrub : Bool) : LogEntry :=
  ⟨a / 32 * 32, symbol, kind, scrub, error, syndromeField c, 0, s.stamp, 0⟩

/-! ### Mirrored ranges (R221 to R226) -/

/-- The bytes of a handle's range (R221). -/
def HandleDef.span (d : HandleDef) : Nat := (d.slots - 1) * d.stride + d.size

/-- The mirrored handle whose primary range holds address `a`, and whether `a` lies in its mirror range instead. -/
def State.mirrorRange (s : State) (a : Nat) : Option (Nat × HandleDef) :=
  (s.sched.handles.find? fun p => p.2.mirror != 0 && decide (p.2.base ≤ a) && decide (a < p.2.base + p.2.span))

/-- A copy at address `a` is usable for a read through stop `g` (R223, R225): its PC's fence is not recorded there, its stack is not
CHANGING, and its stack's stale bit is clear. -/
def State.copyUsable (s : State) (g a stale : Nat) : Bool :=
  let n := (s.locate a).index
  !(s.pcFenced n && (s.pcState n).recorded.contains g) && !s.on R.stk_CHANGING (bits a 7 6) && !stale.testBit (bits a 7 6)

/-! ### The frame-store counter (R206, R210) -/

/-- The frame-store counter runs: training has completed (R216). -/
def State.storeRuns (s : State) : Bool := s.boot.done.contains 8

/-- The frame-store counter, in ns since training completed; it starts together with the ring-cycle counter (R206, R260). -/
def State.storeTime (s : State) : Nat := s.mono - s.rings.start

/-- Time passes until the frame-store counter reaches `t`. -/
def State.waitStore (s : State) (t : Nat) : State := s.waitUntil (s.rings.start + t)

/-- The instant, modulo 51,200 ns, at which PC `n` opens its retraining window (R210). -/
def windowOffset (n : Nat) : Nat := 400 * (4 * (n % 32) + n / 32)

/-- How far PC `n` is into its retraining window's period. -/
def State.windowPhase (s : State) (n : Nat) : Nat := (s.storeTime + 51200 - windowOffset n % 51200) % 51200

/-- PC `n` is in its retraining window (R210). -/
def State.inWindow (s : State) (n : Nat) : Bool := s.storeRuns && decide (s.windowPhase n < 512) && decide (windowOffset n ≤ s.storeTime)

/-- A burst or refresh of PC `n` waits until its retraining window has closed (R210). -/
def State.afterWindow (s : State) (n : Nat) : State :=
  if s.inWindow n then s.waitUntil (s.mono + (512 - s.windowPhase n)) else s

/-! ### Stages of a rate change (Table 07.5) -/

/-- How long the rate change of stack `k` has run. -/
def State.changeTime (s : State) (k : Nat) : Nat := s.mono - tget (fun _ => 0) s.store.changeAt k

/-- Stack `k` is in self-refresh within a rate change: entry at 4 µs, exit at 25 µs. -/
def State.changeRefresh (s : State) (k : Nat) : Bool :=
  s.on R.stk_CHANGING k && decide (4000 ≤ s.changeTime k) && decide (s.changeTime k < 25000)

/-- Stack `k` issues no command: from the entry at 4 µs until the interface checks end at 28 µs. -/
def State.changeHolds (s : State) (k : Nat) : Bool :=
  s.on R.stk_CHANGING k && decide (4000 ≤ s.changeTime k) && decide (s.changeTime k < 28000)

/-- Stack `k` serves guaranteed requests alone: from 2 µs to the entry. -/
def State.changeGuaranteed (s : State) (k : Nat) : Bool :=
  s.on R.stk_CHANGING k && decide (2000 ≤ s.changeTime k) && decide (s.changeTime k < 4000)

/-- STATE of PC `n` as it reads: SELF_REFRESH within a rate change too. -/
def State.pcStateView (s : State) (n : Nat) : Nat := if s.changeRefresh (n / 32) && !s.pcFenced n then 3 else s.reg R.pc_STATE n

/-! ### Fencing (R204, R214, R215, R225, R226) -/

/-- How far round the stacks a handle's mirror copy lies from its primary (R221). -/
def HandleDef.shift (d : HandleDef) : Nat := (d.mirror + 256 - d.base % 256) % 256 / 64

/-- The copies on stack `k` have become unusable on the PCs `pcs`: event 0x3008 for each range with a word there whose other copy may be out
of date (R226). -/
def State.raiseNoCopy (s : State) (k : Nat) (pcs : List Nat) : State :=
  s.each s.sched.handles fun s p =>
    let d := p.2
    let m := s.staleMask p.1
    let lies (base : Nat) : Bool := pcs.any fun n => s.wordsOnPc base d.span n != 0
    if d.mirror != 0 && ((m.mirrorStale.testBit ((k + d.shift) % 4) && lies d.base) ||
        (m.primaryStale.testBit ((k + 4 - d.shift) % 4) && lies d.mirror))
    then s.raise 0x3008 p.1 else s

/-- A word of an acknowledged write holds an entry, or has been absorbed by a fenced PC: after the last the acknowledgement sets out (R204,
R215, R269). -/
def State.wordStored (s : State) (n : Nat) (r : PcReq) : State :=
  match s.rings.storing.find? fun w => w.target == pcStop n && w.master == r.master && w.tag == r.tag with
  | none => s
  | some w =>
    let rest := s.rings.storing.erase w
    if 1 < w.left then { s with rings := { s.rings with storing := { w with left := w.left - 1 } :: rest } }
    else ({ s with rings := { s.rings with storing := rest } }).sendMasterAck w.target w.master w.tag (if s.pcFenced n then .dead else .done)

/-- A fenced PC's stop answers a read with poison and absorbs a write (R215). -/
def State.fencedAnswer (s : State) (n : Nat) (r : PcReq) : State :=
  if r.write then s.inc R.pc_FENCED_WRITES n else s.respond (pcStop n) r.master r.tag r.addr none

/-- The words granted PC `n`'s port that hold no entry yet. -/
def State.movingTo (s : State) (n : Nat) : List PcReq := tget (fun _ => []) s.rings.moving n

def State.setMoving (s : State) (n : Nat) (l : List PcReq) : State :=
  { s with rings := { s.rings with moving := tput (fun _ => []) n l s.rings.moving } }

/-- What a fence leaves of PC `n` (R215, R225, Table 04.9): absent, its ceiling 0, the fence stamped and no stop recorded; every queued
request is answered as its stop answers from now on, and nothing is queued. -/
def State.shutPc (s : State) (n : Nat) : State :=
  let queued := ((s.pcState n).entries.filter fun e => !e.scrub).map PcEntry.req
  let moving := s.movingTo n
  let s := (((s.setReg R.pc_STATE n 2).setReg R.pc_PRESENT n 0).setReg R.pcb_CEILING n 0).setReg R.pc_QUEUE_OCC n 0
  let s := (s.onPc n fun p => { p with fencedAt := s.mono, recorded := [], sweeping := false, writeBack := none, entries := [] }).setMoving n []
  let s := s.each queued fun s r => s.fencedAnswer n r
  s.each moving fun s r =>
    let s := s.fencedAnswer n r
    if r.write then s.wordStored n r else s

/-- PC `n` is fenced with a cause (R215): its presence bit clears, its ceiling goes to 0, events 0x1010 and 0x3003 are raised. A fence
decided while the stack is CHANGING waits for the change (R219). -/
def State.fencePc (s : State) (n cause : Nat) : State :=
  if s.pcFenced n then s
  else if s.on R.stk_CHANGING (n / 32) then s.onPc n fun p => { p with fenceLater := some cause }
  else
    let s := (s.shutPc n).absent (pcBit n).1 (pcBit n).2
    let s := (s.raise 0x3003 (n + cause * 256)).setStop (pcStop n) 3
    s.raiseNoCopy (n / 32) [n]

/-- A corrected error on a DEGRADED PC counts against the limit of R214.
[DEDUCED, log 70: unsafe] -/
def State.countDegraded (s : State) (n : Nat) : State :=
  if s.reg R.pc_STATE n = 1 then
    let s := s.onPc n fun p => { p with errors := p.errors + 1 }
    if 1000 < (s.pcState n).errors then s.fencePc n 3 else s
  else s

/-! ### One copy of one word -/

/-- The code word a read of PC `n` finds: what is stored, or a free value where nothing has been written (R253). -/
def State.fetchWord (s : State) (a : Nat) : State × CodeWord :=
  match s.codeWord a with
  | some c => (s, c)
  | none => (s.took, BitVec.ofNat 288 (s.freeBits 288))

/-- A word read by a PC's checker on behalf of a master, with its counts, log and fencing (R213, R214, R233, R243): the data, or none
for poison. -/
def State.checkWord (s : State) (n a : Nat) (c : CodeWord) : State × Option Nat :=
  match decodeWord c (s.deadSymbol n) with
  | .clean d => (s, some d)
  | .corrected d j e =>
    if s.deadSymbol n = some j then (s.inc R.pc_DEAD_LANE_CORRECTED n, some d)
    else (((s.inc R.pc_CORRECTED n).logFinding n (s.finding a c 0 j e false)).countDegraded n, some d)
  | .poison => (s.inc R.mlog_POISON_READS n, none)
  | .uncorrectable =>
    let s := (s.inc R.pc_UNCORRECTABLE n).logFinding n (s.finding a c 1 0x3F 0 false)
    let s := s.raiseUncorrectable n
    (if s.reg R.pc_STATE n = 1 then s.fencePc n 2 else s, none)

/-- One copy read at its PC as it stands: poison from a fenced PC (R215). -/
def State.readNow (s : State) (a : Nat) : State × Option Nat :=
  let n := (s.locate a).index
  if s.pcFenced n then (s, none)
  else
    let (s, c) := s.fetchWord a
    (s.inc R.pc_BURSTS n).checkWord n a c

/-- The bytes of `new` where the mask has a 1, those of `old` elsewhere. -/
def mergeBytes (mask old new : Nat) : Nat :=
  (List.range 32).foldl (fun acc i => acc + (if mask.testBit i then new / 256 ^ i % 256 else old / 256 ^ i % 256) * 256 ^ i) 0

/-- Every byte of a word. -/
def fullMask : Nat := 2 ^ 32 - 1

/-- Marks the mask of a WRITE_MASKED, whatever bytes it names (R307). -/
def maskedWrite : Nat := 2 ^ 32

/-- A pending scrub write-back to the word is cancelled, waiting in the bank queue or not (R248). -/
def State.cancelWriteBack (s : State) (n a : Nat) : State :=
  match (s.pcState n).writeBack with
  | some w =>
    if w.addr == a / 32 * 32 then
      s.onPc n fun p => { p with writeBack := none, entries := p.entries.filter fun e => !(e.scrub && e.req.write) }
    else s
  | none => s

/-- One copy written at its PC as it stands (R205, R215, R240): absorbed by a fenced PC; merged under the mask; poison when the data is poison or
a masked write finds the word uncorrectable or poisoned. -/
def State.writeNow (s : State) (a data mask : Nat) (poison : Bool) : State :=
  let n := (s.locate a).index
  if s.pcFenced n then s.inc R.pc_FENCED_WRITES n
  else
    let s := (s.inc R.pc_BURSTS n).cancelWriteBack n a
    if poison then s.putCodeWord a poisonWord
    else if mask % 2 ^ 32 = fullMask then s.putCodeWord a (encodeWord data)
    else
      let (s, c) := s.fetchWord a
      let (s, old) := (s.inc R.pc_BURSTS n).checkWord n a c
      match old with
      | some d => s.putCodeWord a (encodeWord (mergeBytes mask d data))
      | none => (s.inc R.pc_POISON_WRITES n).putCodeWord a poisonWord

/-! ### Queued requests (R200, R201, R204) -/

/-- The entries of R200 in use: the scrubber's access takes none (R209). -/
def PcState.used (p : PcState) : Nat := (p.entries.filter fun e => !e.scrub).length

/-- QUEUE_OCC follows the entries in use. -/
def State.pcOcc (s : State) (n : Nat) : State :=
  let k := (s.pcState n).used
  (s.setReg R.pc_QUEUE_OCC n k).peak R.pc_QUEUE_PEAK n k

/-- A queued request of PC `n` is done: a write, or a read whose word goes to its requester. -/
def State.doEntry (s : State) (n : Nat) (r : PcReq) : State :=
  if r.write then s.writeNow r.addr r.data r.mask r.poison
  else match s.readNow r.addr with
    | (s, d) => s.respond (pcStop n) r.master r.tag r.addr d

/-- The requests of PC `n` that satisfy `p` are served in their order, before an access that came later (R201, R204). -/
def State.serveFirst (s : State) (n : Nat) (p : PcReq → Bool) : State :=
  let first (e : PcEntry) : Bool := !e.scrub && p e.req
  let l := (s.pcState n).entries.filter first
  if l.isEmpty then s
  else ((s.onPc n fun x => { x with entries := x.entries.filter fun e => !first e }).pcOcc n).each l fun s e => s.doEntry n e.req

/-- The requests queued for a word come before an access of a master that is served at once (R201, R204).
[DESIGN CHOICE, log 249: unsafe] -/
def State.serveWord (s : State) (a : Nat) : State :=
  s.serveFirst (s.locate a).index fun r => r.addr / 32 == a / 32

/-- One copy read by a master, after the requests queued for its word (R204). -/
def State.readCopy (s : State) (a : Nat) : State × Option Nat := (s.serveWord a).readNow a

/-- One copy written by a master, after the requests queued for its word (R204). -/
def State.writeCopy (s : State) (a data mask : Nat) (poison : Bool) : State := (s.serveWord a).writeNow a data mask poison

/-! ### What a master reads and writes -/

/-- A master's write of one word: both copies of a mirrored word; a copy on a CHANGING stack is left out and marked stale (R222). -/
def State.writeWord (s : State) (a data mask : Nat) (poison : Bool) : State :=
  match s.mirrorRange a with
  | none => s.writeCopy a data mask poison
  | some (i, d) =>
    let m := a - d.base + d.mirror
    let s := if s.on R.stk_CHANGING (bits a 7 6) then s.setStale i (2 ^ bits a 7 6) 0 else s.writeCopy a data mask poison
    if s.on R.stk_CHANGING (bits m 7 6) then s.setStale i 0 (2 ^ bits m 7 6) else s.writeCopy m data mask poison

/-- A master's read of one word through stop `g` (R223): the first usable copy, counted in REDIRECTED_READS when it is the mirror. -/
def State.readWord (s : State) (g a : Nat) : State × Option Nat :=
  match s.mirrorRange a with
  | none => s.readCopy a
  | some (i, d) =>
    let m := a - d.base + d.mirror
    if s.copyUsable g a (s.staleMask i).primaryStale then s.readCopy a
    else if s.copyUsable g m (s.staleMask i).mirrorStale then (s.inc R.fs_REDIRECTED_READS).readCopy m
    else (s, none)

/-- A mirror read through stop `g` (R224). -/
def State.readMirror (s : State) (g a : Nat) : State × Option Nat :=
  match s.mirrorRange a with
  | none => (s, none)
  | some (i, d) =>
    let m := a - d.base + d.mirror
    if s.copyUsable g m (s.staleMask i).mirrorStale then s.readCopy m else (s, none)

/-- Bytes written from address `a` on, word by word: `put` writes the word at an address with its data and byte mask. -/
def State.spreadBytes (s : State) (put : State → Nat → Nat → Nat → State) (a : Nat) (l : List Byte) : State :=
  let first := a / 32
  let last := (a + l.length - 1) / 32
  if l.isEmpty then s
  else s.each (List.range (last + 1 - first)) fun s k =>
    let w := (first + k) * 32
    let lo := max a w
    let hi := min (a + l.length) (w + 32)
    let piece := slice l (lo - a) (hi - lo)
    let mask := (2 ^ (hi - lo) - 1) * 2 ^ (lo - w)
    put s w (ofLe piece * 256 ^ (lo - w)) mask

/-- Bytes written to the frame store from address `a` on. -/
def State.writeBytes (s : State) (a : Nat) (l : List Byte) : State := s.spreadBytes (fun s w data mask => s.writeWord w data mask false) a l

/-- `k` words read through stop `g` from address `a` on: each its data, or none for poison. -/
def State.readWords (s : State) (g : Nat) : Nat → Nat → State × List (Option Nat)
  | _, 0 => (s, [])
  | a, k + 1 =>
    let (s, d) := s.readWord g a
    let (s, ds) := s.readWords g (a + 32) k
    (s, d :: ds)

/-- STALE_RANGES and MIRRORED of 0x3002. -/
def State.staleRanges (s : State) : Nat := (s.sched.stale.filter fun p => p.2.primaryStale != 0 || p.2.mirrorStale != 0).length
def State.mirroredRanges (s : State) : Nat := (s.sched.handles.filter fun p => p.2.mirror != 0).length

end Sys2Proof.Machine
end

