-- ==== Sys2Proof/Machine/Admission.lean ====
section
/-! DEFINITION. Admission (chapter 04): cost declarations, the resource models of R109 to R117, the delivery bound of R118, the check in
the order of Table 04.4, grants, releases and impairments. Offsets are in ns from the frame mark. -/

namespace Sys2Proof.Machine

/-! ### Node costs (R106, R107) -/

/-- RUN_NS and the peak rates of a node, in kB/s (Table 04.2). -/
structure NodeCost where
  run : Nat := 0
  in0 : Nat := 0
  in1 : Nat := 0
  in2 : Nat := 0
  out : Nat := 0
  deriving DecidableEq, Repr

/-- Bytes of node cost record `i`. -/
def Graph.costRecord (g : Graph) (i : Nat) : List Byte := slice g.cost (32 + 32 * i) 32

/-- The declared cost of node `i`. -/
def Graph.declared (g : Graph) (i : Nat) : NodeCost :=
  let n := ofLe (g.costRecord i)
  ⟨bits n 63 32, bits n 95 64, bits n 127 96, bits n 159 128, bits n 191 160⟩

/-- R106 for the header. -/
def Graph.costHeaderOk (g : Graph) : Bool :=
  leAt g.cost 0 2 == 1 && leAt g.cost 2 2 == g.nodes.length && g.cost.length == 32 + 32 * g.nodes.length

/-- L_MAX of the declaration. -/
def Graph.lMax (g : Graph) : Nat := leAt g.cost 4 4

/-- R106 for record `i`: its NODE is its position. -/
def Graph.costRecordOk (g : Graph) (i : Nat) : Bool := bits (ofLe (g.costRecord i)) 13 0 == i

/-- The header words of node `v`'s parameter block in the image. -/
def Graph.convParams (g : Graph) (v : NodeRec) : ConvParams :=
  ⟨leAt g.params (32 * v.paramOfs) 32, leAt g.params (32 * v.paramOfs + 32) 32, leAt g.params (32 * v.paramOfs + 64) 32⟩

/-- The engine model of R187 and R188, with the figures as the block gives them, also where an engine would refuse it. -/
def convCost (p : ConvParams) (r : Nat × Nat × Nat × Nat) : NodeCost :=
  let big := max p.pixelsIn (p.pixelsOut r)
  let peak (f n : Nat) : Nat := ceilDiv (8000000 * fmtGroup f * n) (fmtCoverH f * fmtCoverV f * big)
  let in0 := peak p.inFormat p.pixelsIn
  { run := p.run r
    in0 := if p.in1Field2 then ceilDiv in0 2 else in0
    in1 := if p.in1Field2 then ceilDiv in0 2 else 0
    in2 := if p.tablesIn2 then ceilDiv (p.tableBytes * 1000000) (p.run r) else 0
    out := peak p.outFormat (p.pixelsOut r) }

/-- Bytes an output edge covers in its buffer. -/
def edgeBytes (b : BufferRec) (e : EdgeRec) : Nat :=
  if b.kind != 0 || (e.w == 0 && e.h == 0) then b.size
  else ceilDiv e.h (fmtCoverV b.format) * fmtRowBytes b.format e.w

/-- The move engines' model: 80 GB/s over the bytes written, of a COPY the whole version (R73, Table 03.7). -/
def moveCost (v : NodeRec) (b : BufferRec) (e : EdgeRec) : NodeCost :=
  { run := ceilDiv (if v.opclass = 1 then b.size else edgeBytes b e) 80, in0 := if v.opclass = 3 then 0 else 80000000, out := 80000000 }

/-- The larger of two costs, figure by figure. -/
def NodeCost.larger (a b : NodeCost) : NodeCost :=
  ⟨max a.run b.run, max a.in0 b.in0, max a.in1 b.in1, max a.in2 b.in2, max a.out b.out⟩

/-- The cost of a node under R107. -/
def Graph.nodeCost (g : Graph) (v : NodeRec) : NodeCost :=
  let d := g.declared v.index
  if v.kind != 0 then d
  else match g.output v with
    | none => d
    | some e =>
      let b := g.buf e.buffer
      if v.opclass = 0 then d.larger (convCost (g.convParams v) (e.x, e.y, e.w, e.h))
      else if v.opclass ≤ 3 then d.larger (moveCost v b e)
      else d

/-! ### Demands (R109 to R112) -/

/-- A resource whose demand is summed: a PC, a ring segment in one direction (ring + 16 × direction + 256 × segment), an exchange port in
one direction (port + 16 × direction), an Ethernet port, a Skeltia link. -/
inductive Res where
  | pc (n : Nat)
  | segment (k : Nat)
  | exchange (k : Nat)
  | port (p : Nat)
  | link (k : Nat)
  deriving DecidableEq, Repr

/-- Words of a handle's slots at `base` on PC `n`. -/
def State.slotWords (s : State) (base : Nat) (d : HandleDef) (n : Nat) : Nat :=
  ((List.range d.slots).map fun j => s.wordsOnPc (base + j * d.stride) d.size n).sum

/-- The PCs that hold words of the copy at `base`, with how many. -/
def State.shares (s : State) (base : Nat) (d : HandleDef) : List (Nat × Nat) :=
  ((List.range 128).map fun n => (n, s.slotWords base d n)).filter fun p => p.2 != 0

/-- The slots a path from stop `a` to stop `b` takes on the segments and exchange ports it uses (R110, R111). -/
def pathDemand (a b k : Nat) : List (Res × Nat) :=
  let leg (x y : Nat) : List (Res × Nat) :=
    let p := ringPath (x % 24) (y % 24)
    p.2.map fun i => (Res.segment (x / 24 + 16 * p.1 + 256 * i), k)
  if a / 24 = b / 24 then leg a b
  else leg a (a / 24 * 24) ++ [(Res.exchange (a / 24), k), (Res.exchange (b / 24 + 16), k)] ++ leg (b / 24 * 24) b

/-- The paths of one copy of an edge at `rate`, moved between stop `g` and the PCs, with the slots they take (R110): of a write its data, of
a read the data and, the other way, its requests. -/
def State.copyPaths (s : State) (g rate : Nat) (write : Bool) (base : Nat) (d : HandleDef) : List (Nat × Nat × Nat) :=
  let sh := s.shares base d
  let total := (sh.map Prod.snd).sum
  sh.flatMap fun p =>
    let r := ceilDiv (rate * p.2) total
    if r = 0 then []
    else if write then [(g, pcStop p.1, ceilDiv r 125000)]
    else [(pcStop p.1, g, ceilDiv r 125000), (g, pcStop p.1, ceilDiv r 2000000)]

/-- One copy's demand of an edge at `rate` on the PCs (R109). -/
def State.copyLoad (s : State) (rate base : Nat) (d : HandleDef) : List (Res × Nat) :=
  let sh := s.shares base d
  let total := (sh.map Prod.snd).sum
  (sh.map fun p => (Res.pc p.1, ceilDiv (rate * p.2) total)).filter fun x => x.2 != 0

/-- The copies of a buffer: its primary, and its mirror if it has one. -/
def State.copyBases (s : State) (b : BufferRec) : List Nat :=
  let d := s.handleDef b.handle
  d.base :: if d.mirror = 0 then [] else [d.mirror]

/-- An edge's paths to both copies of its buffer. -/
def State.edgePaths (s : State) (g rate : Nat) (write : Bool) (b : BufferRec) : List (Nat × Nat × Nat) :=
  (s.copyBases b).flatMap fun base => s.copyPaths g rate write base (s.handleDef b.handle)

/-- An edge's demand on the PCs of both copies. -/
def State.edgeLoad (s : State) (rate : Nat) (b : BufferRec) : List (Res × Nat) :=
  (s.copyBases b).flatMap fun base => s.copyLoad rate base (s.handleDef b.handle)

/-- The stop a node's transfers start from or end at: its operator's, or that of its flow's quad or link; of a PAIRED flow, the quad of
PORT_A, for the rule names one stop of a flow.
[DESIGN CHOICE, log 205: unsafe] -/
def State.nodeStop (s : State) (v : NodeRec) : Nat :=
  if v.kind = 0 then operatorStop v.operator
  else if s.isPeer v.flow then quadStop (s.reg R.pf_LINK v.flow / 4)
  else quadStop (s.reg R.flow_PORT_A v.flow / 4)

/-- A node under the models: its graph slot, record, cost, period, concurrency, demands, and the paths they travel. -/
structure NodeModel where
  slot : Nat
  rec_ : NodeRec
  cost : NodeCost
  period : Nat
  conc : Nat
  demands : List (Res × Nat)
  paths : List (Nat × Nat × Nat)

/-- A node's edges with their rates: the rate, whether it is written, and the buffer. -/
def Graph.nodeRates (g : Graph) (v : NodeRec) (k : NodeCost) : List (Nat × Bool × BufferRec) :=
  ((g.inputs v).zipIdx.map fun p => (nth [k.in0, k.in1, k.in2] p.2 0, false, g.buf p.1.buffer)) ++
    ((g.output v).toList.map fun e => (k.out, true, g.buf e.buffer))

/-- The paths of a node's edges (R110). -/
def State.nodePaths (s : State) (g : Graph) (v : NodeRec) (k : NodeCost) : List (Nat × Nat × Nat) :=
  (g.nodeRates v k).flatMap fun e => s.edgePaths (s.nodeStop v) e.1 e.2.1 e.2.2

/-- The demands of a node. -/
def State.nodeDemand (s : State) (g : Graph) (v : NodeRec) (k : NodeCost) : List (Res × Nat) :=
  let wire := if v.kind = 1 then k.out else k.in0
  let ports := if v.kind = 0 then []
    else if s.isPeer v.flow then [(Res.link (s.reg R.pf_LINK v.flow), wire)]
    else if s.reg R.flow_KIND v.flow = 4 then []
    else (s.flowPorts v.flow).map fun p => (Res.port p, wire)
  (g.nodeRates v k).flatMap (fun e => s.edgeLoad e.1 e.2.2) ++
    (s.nodePaths g v k).flatMap (fun x => pathDemand x.1 x.2.1 x.2.2) ++ ports

/-- The models of a slot's nodes. -/
def State.models (s : State) (slot : Nat) : List NodeModel :=
  let g := s.graph slot
  let p := s.period g.cad
  g.nodes.map fun v =>
    let k := g.nodeCost v
    ⟨slot, v, k, p, v.deadline / p + 1, s.nodeDemand g v k, s.nodePaths g v k⟩

/-- Whose demand counts once: an operator, or a SOURCE or SINK by itself (R109). -/
def NodeModel.key (m : NodeModel) : Nat :=
  if m.rec_.kind = 0 then m.rec_.operator else 4096 + m.slot * 16384 + m.rec_.index

def NodeModel.demandOn (m : NodeModel) (r : Res) : Nat := ((m.demands.filter fun p => p.1 == r).map Prod.snd).sum

/-- The demand of all models on a resource: the largest of each key, summed. -/
def totalOn (ms : List NodeModel) (r : Res) : Nat :=
  ((ms.map NodeModel.key).eraseDups.map fun k =>
    ((ms.filter fun m => m.key == k).map fun m => m.demandOn r).foldl max 0).sum

/-- Demands on a port or link are summed node by node (R112, R533). -/
def wireTotal (ms : List NodeModel) (r : Res) : Nat := (ms.map fun m => m.demandOn r).sum

/-- The models of the OP nodes bound to operator `o`. -/
def onOperator (ms : List NodeModel) (o : Nat) : List NodeModel := ms.filter fun m => m.rec_.kind == 0 && m.rec_.operator == o

/-- Frames per second of a slot's cadence, as a ratio. -/
def State.frameRate (s : State) (slot : Nat) : Nat × Nat :=
  let c := (s.graph slot).cad
  if s.reg R.cad_KIND c = 0 then (s.reg R.cad_RATE_NUM c, s.reg R.cad_RATE_DEN c) else (48000, s.reg R.cad_SAMPLES c)

/-- Load, backlog and GUAR_READY of an operator (R113, R114). -/
def State.operatorLoad (s : State) (ms : List NodeModel) (o : Nat) : Nat :=
  ((onOperator ms o).map fun m => ceilDiv (m.cost.run * (s.frameRate m.slot).1) (s.frameRate m.slot).2).sum
def operatorBacklog (ms : List NodeModel) (o : Nat) : Nat := ((onOperator ms o).map fun m => m.conc * m.cost.run).sum
def operatorReady (ms : List NodeModel) (o : Nat) : Nat := ((onOperator ms o).map NodeModel.conc).sum

/-- B(o): BE_MAX_RUN in ns when a loaded best-effort graph binds a node to `o` (R113). -/
def State.beBlock (s : State) (o : Nat) : Nat :=
  if allSlots.any fun g => s.on R.slot_STATE g && !(s.graph g).guaranteed &&
      (s.graph g).nodes.any fun v => v.kind == 0 && v.operator == o
  then s.reg R.opr_BE_MAX_RUN o * 1000 else 0

/-- In-flight entries charged (R115). -/
def inFlightCharge (ms : List NodeModel) : Nat := ((ms.filter fun m => m.rec_.kind != 1).map NodeModel.conc).sum

/-- Delay-list charges (R116): lists 0, 1 and 3. -/
def delayCharge (ms : List NodeModel) (list : Nat) : Nat :=
  match list with
  | 0 => ((ms.filter fun m => m.rec_.kind == 1).map NodeModel.conc).sum
  | 1 => ((ms.filter fun m => m.rec_.notBefore != 0).map NodeModel.conc).sum
  | _ => ((ms.filter fun m => m.rec_.kind == 0).map fun m => m.rec_.operator).eraseDups.length

/-! ### The delivery bound (R118) -/

/-- The commit offsets so far, model by model. -/
abbrev Offsets := List Int

/-- The handle of a model's output buffer. -/
def State.outHandle (s : State) (m : NodeModel) : Option Nat :=
  let g := s.graph m.slot
  (g.output m.rec_).map fun e => (g.buf e.buffer).handle

/-- The latest commit offset among the producers of buffer `b` of a slot: those of its own graph, and of an EXTERNAL buffer those of every graph that
may produce it; 0 where no guaranteed node does. -/
def State.producerOffset (s : State) (ms : List NodeModel) (off : Offsets) (slot : Nat) (b : BufferRec) : Int :=
  let l := (ms.zip off).filterMap fun p => if s.outHandle p.1 == some b.handle && (b.external || p.1.slot == slot) then some p.2 else none
  match l with
  | [] => 0
  | x :: t => t.foldl max x

/-- The commit offset of an input edge. -/
def State.inputOffset (s : State) (ms : List NodeModel) (off : Offsets) (m : NodeModel) (e : EdgeRec) : Int :=
  let x := s.producerOffset ms off m.slot ((s.graph m.slot).buf e.buffer)
  match e.map with
  | 0 => x
  | 1 => x - (e.back * m.period : Nat)
  | _ => max 0 (x - (e.lag : Nat))

/-- One evaluation of a node: commit(v), or egress(v) for a SINK; a of a node without inputs is 0.
[DESIGN CHOICE, log 207: unsafe] -/
def State.nodeOffset (s : State) (ms : List NodeModel) (off : Offsets) (m : NodeModel) : Int :=
  let v := m.rec_
  if v.kind = 1 then ((v.deadline + s.reg R.tb_TICK_NS + 16 + delayCharge ms 0 + delayCharge ms 3 : Nat) : Int)
  else
    let g := s.graph m.slot
    let ins := (g.inputs v).map fun e => s.inputOffset ms off m e
    let a := match ins with | [] => 0 | x :: t => t.foldl max x
    let j := (ms.filter fun x => (s.graph x.slot).cad == g.cad).length
    let start : Int := a + ((4 + j + 40 + 1 : Nat) : Int)
    if v.kind = 0 then start + (s.beBlock v.operator : Int) + (operatorBacklog ms v.operator : Int) - (m.cost.run : Int) +
      (m.cost.run : Int) + 20
    else start + 50000

/-- The evaluation repeated until producers have come before consumers everywhere. Nodes in a cycle closed by PREVIOUS edges have no such
order; they are evaluated from 0 on, once for each node of the graphs and once more, and what stands then counts.
[DESIGN CHOICE, log 208: unsafe] -/
def State.offsetsFrom (s : State) (ms : List NodeModel) : Nat → Offsets → Offsets
  | 0, off => off
  | k + 1, off =>
    let next := ms.map fun m => s.nodeOffset ms off m
    if next = off then off else s.offsetsFrom ms k next

def State.offsets (s : State) (ms : List NodeModel) : Offsets := s.offsetsFrom ms (ms.length + 1) (List.replicate ms.length 0)

/-- L of a slot (R118): its sinks' bounds, rounded up to a whole microsecond. -/
def deliveryBound (ms : List NodeModel) (off : Offsets) (slot : Nat) : Nat :=
  let bounds := (ms.zip off).filterMap fun p =>
    if p.1.slot == slot && p.1.rec_.kind == 2 then some (p.2 + ((2000 * p.1.conc : Nat) : Int)) else none
  ceilDiv (bounds.foldl max 0).toNat 1000 * 1000

/-- The hold time H of buffer `b` of a slot (R117): its producers' next own version, and the retirement of every reader; a CROSS reader counts
with LAG and one period of the producer's cadence more. An OP retires 4 scheduler cycles of 1 ns after its commit (Table 03.14), a SINK at its egress
start plus P.
[DESIGN CHOICE, log 206: unsafe, DEDUCED, log 268: unsafe] -/
def State.holdTime (s : State) (ms : List NodeModel) (off : Offsets) (slot : Nat) (b : BufferRec) : Int :=
  let p := s.period (s.graph slot).cad
  let own := (p : Int) + s.producerOffset ms off slot b
  let readers := (ms.zip off).flatMap fun x =>
    let g := s.graph x.1.slot
    (g.inputs x.1.rec_).filterMap fun e =>
      if (g.buf e.buffer).handle == b.handle then
        let r := x.2 + (if x.1.rec_.kind = 2 then (x.1.period : Int) else 4)
        some (match e.map with
          | 0 => r
          | 1 => r + ((e.back * p : Nat) : Int)
          | _ => r + ((e.lag + p : Nat) : Int))
      else none
  readers.foldl max own

/-! ### Units used (R120 code 3, R124) -/

/-- Positions in SNAPSHOT, counting from byte 4 (Table 00.3). -/
def lanePos (l : Nat) : Nat := 32 + l
def pcPos (n : Nat) : Nat := 288 + n
def rasterPos (e : Nat) : Nat := 416 + e
def ringPos (k : Nat) : Nat := 448 + k
def movePos (m : Nat) : Nat := 480 + m

/-- Whether the unit at a position is present. -/
def State.posPresent (s : State) (i : Nat) : Bool :=
  if i < 32 then s.presentBit R.pres_DUSK i
  else if i < 288 then s.lanePresent (i - 32)
  else if i < 416 then s.pcPresent (i - 288)
  else if i < 448 then s.enginePresent (i - 416)
  else if i < 464 then s.ringPresent (i - 448)
  else if i < 480 then s.swapPresent (i - 464)
  else s.movePresent (i - 480)

/-- The units node `v` names or uses: its operator, the lanes of its ports, the PCs of its buffers (of the unmirrored ones only for
R124) and the rings on its paths. -/
def State.nodeUnits (s : State) (g : Graph) (v : NodeRec) (mirrored : Bool) : List Nat :=
  let stop := s.nodeStop v
  let op := if v.kind ≠ 0 then [] else if v.operator < 32 then [rasterPos v.operator]
    else if v.operator < 96 then [movePos (v.operator - 32)] else []
  let lanes := if v.kind = 0 then []
    else if s.isPeer v.flow then (List.range (s.reg R.link_WIDTH (s.reg R.pf_LINK v.flow))).map fun i => lanePos (s.reg R.pf_LINK v.flow + i)
    else if s.reg R.flow_KIND v.flow = 4 then [lanePos (s.reg R.flow_PORT_A v.flow)]
    else ((s.flowPorts v.flow).flatMap s.portLanes).map lanePos
  let pcs := (g.nodeEdges v).flatMap fun e =>
    let d := s.handleDef (g.buf e.buffer).handle
    let ps := (s.shares d.base d).map Prod.fst ++ if d.mirror = 0 then [] else (s.shares d.mirror d).map Prod.fst
    (if mirrored || d.mirror == 0 then ps.map pcPos else []) ++ (ps.map fun n => ringPos (pcStop n / 24))
  op ++ lanes ++ pcs ++ [ringPos (stop / 24)]

/-- The power domain of the unit at a position is OFF or DRAINING (R466). -/
def State.posOff (s : State) (i : Nat) : Bool :=
  let off (d : Nat) : Bool := s.reg R.dom_STATE d == 1 || s.reg R.dom_STATE d == 2
  if i < 32 then false
  else if i < 288 then off (4 + (i - 32) / 4)
  else if i < 416 then off ((i - 288) / 32)
  else if i < 448 then off (68 + (i - 416))
  else false

/-- The quadrant of a fabric port that is an operator is OFF or DRAINING (R466). -/
def State.portOff (s : State) (o : Nat) : Bool :=
  decide (96 ≤ o) && (s.reg R.dom_STATE (100 + portQuadrant (o - 96)) == 1 || s.reg R.dom_STATE (100 + portQuadrant (o - 96)) == 2)

/-- The lowest position of an absent unit that slot `slot` uses; for admission, of one whose domain is OFF or DRAINING too (R466). -/
def State.absentUnit (s : State) (slot : Nat) (mirrored : Bool) : Option Nat :=
  let g := s.graph slot
  ((g.nodes.flatMap fun v => s.nodeUnits g v mirrored).filter fun i => !s.posPresent i || (mirrored && s.posOff i)).foldl
    (fun best i => match best with | none => some i | some b => some (min b i)) none

/-! ### The check (R120) -/

/-- A refusal: code, INSTANCE, DEMAND, CAPACITY. -/
structure Refused where
  code : Nat
  instance_ : Nat := 0
  demand : Nat := 0
  capacity : Nat := 0
  deriving DecidableEq, Repr

/-- The slots that hold an admission. -/
def State.admittedSlots (s : State) : List Nat := allSlots.filter fun g => s.on R.sadm_STATE g

/-- The first of a list of keys whose demand exceeds its capacity. -/
def firstOver (code : Nat) (l : List (Nat × Nat × Nat)) : Option Refused :=
  (l.find? fun x => decide (x.2.2 < x.2.1)).map fun x => ⟨code, x.1, x.2.1, x.2.2⟩

/-- Checks 6 to 13: the ceiling of a PC is the one its stack's rate gives it (R108, R220), and links count with the ports (R533).
[DEDUCED, log 210: unsafe] -/
def State.resourceChecks (s : State) (ms : List NodeModel) : Option Refused :=
  firstOver 6 ((List.range 256).map fun p => (p, wireTotal ms (.port p), s.portRate p * 9 / 10)) <|>
  firstOver 6 ((List.range 256).map fun k => (k, wireTotal ms (.link k), s.reg R.link_CAPACITY k * 9 / 10)) <|>
  firstOver 7 (((List.range 128).filter s.pcPresent).map fun n => (n, totalOn ms (.pc n), s.reg R.pcb_CEILING n)) <|>
  firstOver 8 ((List.range 6144).map fun k => (k, totalOn ms (.segment k), 921)) <|>
  firstOver 9 ((List.range 32).map fun k => (k, totalOn ms (.exchange k), 921)) <|>
  firstOver 10 ((List.range 608).map fun o => (o, s.operatorLoad ms o, 900000000)) <|>
  firstOver 11 ((List.range 608).filterMap fun o =>
    if operatorReady ms o = 0 then none else some (o, operatorReady ms o, s.reg R.opr_READY_DEPTH o - 4)) <|>
  firstOver 12 [(0, inFlightCharge ms, 1024)] <|>
  firstOver 13 ([0, 1, 3].map fun l => (l, delayCharge ms l, 4096))

/-- Checks 14 to 16. -/
def State.timingChecks (s : State) (ms : List NodeModel) (off : Offsets) (slot : Nat) : Option Refused :=
  let g := s.graph slot
  let p := s.period g.cad
  let depths := g.bufs.zipIdx.filterMap fun b =>
    if b.1.external || (g.producersOf b.2).isEmpty then none
    else some (b.2, ((s.holdTime ms off slot b.1) / (p : Int) + 2).toNat, b.1.depth)
  let deadlines := (ms.zip off).flatMap fun x =>
    let id := x.1.slot * 16384 + x.1.rec_.index
    let d : Nat := x.1.rec_.deadline
    (if d < 4 * x.1.period then [] else [⟨15, id, d, 4 * x.1.period⟩]) ++
      if x.1.rec_.kind = 0 ∧ Int.ofNat d < x.2 then [(⟨15, id, x.2.toNat, d⟩ : Refused)] else []
  firstOver 14 depths <|> deadlines.head? <|>
  (if g.lMax = 0 then none else firstOver 16 [(0, deliveryBound ms off slot, g.lMax)])

/-- The admission check of a slot: the granted L, or the first refusal of Table 04.4.
[DESIGN CHOICE, log 52: safe] -/
def State.admissionCheck (s : State) (slot : Nat) : Refused ⊕ Nat :=
  let g := s.graph slot
  if s.reg R.slot_STATE slot ≠ 1 ∨ !g.guaranteed ∨ s.on R.sadm_STATE slot then .inl ⟨1, slot, 0, 0⟩
  else if !g.costHeaderOk then .inl ⟨2, 2 ^ 32 - 1, 0, 0⟩
  else match (List.range g.nodes.length).find? fun i => !g.costRecordOk i with
    | some i => .inl ⟨2, i, 0, 0⟩
    | none =>
      match s.absentUnit slot true with
      | some i => .inl ⟨3, i, 0, 0⟩
      | none =>
        if g.nodes.any fun v => v.kind == 0 && (!s.operatorPresent v.operator || s.portOff v.operator) then .inl ⟨3, s.freeBits 32, 0, 0⟩
        else match g.nodes.find? fun v => v.kind != 0 && s.isPeer v.flow && s.reg R.ens_STATE != 2 with
          | some v => .inl ⟨4, v.flow, 0, 0⟩
          | none =>
            let p := s.period g.cad
            match g.nodes.find? fun v => v.kind == 1 && !(decide (0 < v.deadline) && decide (v.deadline < 3 * p)) with
            | some v => .inl ⟨5, v.index, v.deadline, 3 * p⟩
            | none =>
              let ms := ((slot :: s.admittedSlots).mergeSort).flatMap s.models
              match s.resourceChecks ms with
              | some r => .inl r
              | none =>
                let off := s.offsets ms
                match s.timingChecks ms off slot with
                | some r => .inl r
                | none => .inr (deliveryBound ms off slot)

/-! ### Granting and releasing -/

/-- Every register that follows the admitted graphs (Tables 04.6 to 04.9, 03.15, 02.6). -/
def State.refreshAdmission (s : State) : State :=
  let gs := s.admittedSlots
  let ms := gs.flatMap s.models
  let s := (s.setReg R.adm_ADMITTED 0 gs.length).setReg R.sched_GUAR_RESERVED 0 (inFlightCharge ms)
  let s := s.each (List.range 608) fun s o =>
    ((s.setReg R.opb_GUAR_READY o (operatorReady ms o)).setReg R.opb_LOAD o (s.operatorLoad ms o)).setReg R.opb_BACKLOG o
      (operatorBacklog ms o)
  let s := s.each (List.range 128) fun s n => s.setReg R.pcb_DEMAND n (totalOn ms (.pc n))
  s.each (List.range 16) fun s c => s.setReg R.cad_USERS c (gs.filter fun g => (s.graph g).cad == c).length

/-- PC_MIN_HEADROOM (Table 04.6). -/
def State.pcHeadroom (s : State) : Nat :=
  let l := ((List.range 128).filter s.pcPresent).map fun n => s.reg R.pcb_CEILING n - s.reg R.pcb_DEMAND n
  match l with
  | [] => 0
  | x :: t => t.foldl min x

/-- The reply record (Table 04.5). -/
def replyRecord (slot us l : Nat) (r : Refused) : List Byte :=
  leBytes 2 r.code ++ leBytes 1 slot ++ [0] ++ leBytes 4 l ++ leBytes 4 r.instance_ ++ leBytes 8 r.demand ++ leBytes 8 r.capacity ++
    leBytes 4 us

/-- A ring epoch member joins the commit set of a cadence (R105, R288): STAGED reads the epoch to come.
[DEDUCED, log 53: unsafe] -/
def State.armEpoch (s : State) (c target g : Nat) (add : Bool) : State :=
  (s.armMember c target (.epoch g add)).setReg R.rsys_STAGED 0 (s.reg R.rsys_EPOCH + 1)

/-- A graph admitted while its start is armed adds its epoch to that commit set (R105). -/
def State.joinEpoch (s : State) (g : Nat) : State :=
  match s.tb.sets.find? fun x => x.members.any fun m => m.starts == some g with
  | some x => s.armEpoch x.cad x.target g true
  | none => s

/-- A write of a slot to REQUEST (R102). -/
def opAdmissionRequest (w : Who) (g : Nat) (s : State) : State :=
  s.writeAs w R.adm_REQUEST 0 (decide (g < 64)) fun s =>
    if s.on R.adm_BUSY then s.stateError
    else ({ s with adm := { s.adm with checking := some (g, s.mono) } }.setReg R.adm_BUSY 0 1).ok

/-- The check ends after `us` µs (R103, R120); it pauses while core 1 is halted (R546).
[DESIGN CHOICE, log 51: safe] -/
def opAdmissionReply (us : Nat) (s : State) : State :=
  match s.adm.checking.filter fun _ => s.dusk.core1.haltedAt.isNone with
  | none => s
  | some (g, _) =>
    let r := s.admissionCheck g
    let s := ({ s with adm := { s.adm with checking := none } }.setReg R.adm_BUSY 0 (b2n !s.scratch.recovery.isEmpty)).peak R.adm_CHECK_MAX 0 us
    let rec_ := match r with
      | .inl x => replyRecord g us 0 x
      | .inr l => replyRecord g us l ⟨0, 0, 0, 0⟩
    let s := (s.setDom R.adm_REPLY 0 rec_).setDom R.sadm_REPLY g rec_
    match r with
    | .inl x =>
      let s := s.inc R.adm_REFUSALS
      let s := if x.code = 3 then s.took else s
      s.raise 0x5031 (g + x.code * 256)
    | .inr l =>
      let s := (s.setReg R.sadm_STATE g 1).setReg R.sadm_L g l
      let s := s.setReg R.sadm_ENTRIES g (inFlightCharge (s.models g))
      let s := s.joinEpoch g
      let s : State := { s with adm := { s.adm with granted := s.adm.granted.erase g ++ [g], breached := s.adm.breached.erase g } }
      s.refreshAdmission.raise 0x5030 g

/-- The admission of slot `g` is released (R104, R105): its reservations go, and an epoch at the first armable mark removes them from the
slot tables.
[DEDUCED, log 53: unsafe] -/
def State.releaseAdmission (s : State) (g : Nat) : State :=
  let c := (s.graph g).cad
  let s := (((s.setReg R.sadm_STATE g 0).setReg R.sadm_L g 0).setReg R.sadm_ENTRIES g 0).setReg R.sadm_IMPAIRED_BY g 0
  let s := s.refreshAdmission
  (s.armEpoch c (s.armFrame c (2 ^ 64 - 1)) g false).raise 0x5033 g

/-- A write of a slot to RELEASE (R104); a slot that holds no admission has none to release.
[DESIGN CHOICE, log 209: unsafe] -/
def opAdmissionRelease (w : Who) (g : Nat) (s : State) : State :=
  s.writeAs w R.adm_RELEASE 0 (decide (g < 64)) fun s =>
    if !s.on R.sadm_STATE g || s.live g then s.stateError else (s.releaseAdmission g).ok

/-- The admission of slot `g` becomes IMPAIRED by a unit at position `i` (R124). -/
def State.impair (s : State) (g i : Nat) : State :=
  if s.reg R.sadm_STATE g = 1 then ((s.setReg R.sadm_STATE g 2).setReg R.sadm_IMPAIRED_BY g i).raise 0x5032 g else s

/-- The steward finds that an admission uses an absent unit (R124). -/
def opAdmissionImpair (g : Nat) (s : State) : State :=
  match s.absentUnit g false with
  | some i => s.impair g i
  | none => s

end Sys2Proof.Machine
end

