-- ==== Sys2Proof/Machine/Cores.lean ====
section
/-! DEFINITION. The Dusk cores as a whole: their registers and states, the lease timers of the locks they own (R459, R548), halts
(R545), and the interrupt lines of core 0 (R452, Table 15.5). -/

namespace Sys2Proof.Machine

/-- Core `c`. -/
def State.core (s : State) (c : Nat) : Core := if c = 0 then s.dusk.core0 else s.dusk.core1

def State.onCore (s : State) (c : Nat) (u : Core → Core) : State :=
  if c = 0 then { s with dusk := { s.dusk with core0 := u s.dusk.core0 } }
  else { s with dusk := { s.dusk with core1 := u s.dusk.core1 } }

/-- STATE of core `c` becomes `v` (Table 15.10); a change on core 0 raises event 0x8003 (R460). -/
def State.coreState (s : State) (c v : Nat) : State :=
  if s.reg R.core_STATE c = v then s
  else
    let s := s.setReg R.core_STATE c v
    if c = 0 then s.raise 0x8003 v else s

/-- Core `c` is RUNNING. -/
def State.coreRuns (s : State) (c : Nat) : Bool := s.reg R.core_STATE c == 1

/-! ### Leases -/

def State.lease (s : State) (n : Nat) : Lease := tget (fun _ => {}) s.dusk.leases n

def State.setLease (s : State) (n : Nat) (l : Lease) : State :=
  { s with dusk := { s.dusk with leases := tput (fun _ => {}) n l s.dusk.leases } }

/-- What is left of the lease of lock `n`, in ns. -/
def State.leaseLeft (s : State) (n : Nat) : Nat :=
  match (s.lease n).frozen with
  | some r => r
  | none => (s.lease n).ends - s.mono

/-- Time runs on, or stops, for the leases of an owner core: they are frozen while it is halted (R459, R548). -/
def State.freezeLeases (s : State) (who : Nat) : State :=
  s.each (List.range 64) fun s n => if s.reg R.lock_OWNER n = who then s.setLease n { s.lease n with frozen := some (s.leaseLeft n) } else s

def State.thawLeases (s : State) (who : Nat) : State :=
  s.each (List.range 64) fun s n => if s.reg R.lock_OWNER n = who then s.setLease n { s.lease n with ends := s.mono + s.leaseLeft n, frozen := none } else s

/-! ### Halt (R545) -/

/-- A boundary at which R452 would take an interrupt: not before a delay slot, not inside a REPEAT, and not while an
access of the window stalls the core.
[DEDUCED, log 137: unsafe] -/
def Core.atBoundary (k : Core) : Bool := k.slots == 0 && k.rep == 0 && k.asks.isEmpty

/-- A STEP of core `c` ends: at least the time of the cycles it has executed has passed (R547), at 400 MHz. -/
def State.endStep (s : State) (c : Nat) : State :=
  match (s.core c).stepFrom with
  | none => s
  | some (t, n) => (s.waitUntil (t + (s.reg R.core_CYCLES c - n) * 5 / 2)).onCore c fun k => { k with stepFrom := none }

/-- A core halts: its leases freeze (R548), event 0xA004 with the cause and unit. -/
def State.haltCore (s : State) (c cause unit : Nat) : State :=
  let s := s.endStep c
  let idle := s.reg R.core_STATE c == 2
  let s := s.onCore c fun k => { k with haltedAt := some s.mono, haltDue := none, wasIdle := idle }
  ((s.freezeLeases (c + 1)).coreState c 4).raise 0xA004 (c + cause * 16 + unit * 256)

/-- A halt that is due happens at the next boundary. -/
def State.haltIfDue (s : State) (c : Nat) : State :=
  match (s.core c).haltDue with
  | some (cause, unit) => if s.coreRuns c && (s.core c).atBoundary then s.haltCore c cause unit else s
  | none => s

/-- A halt is due at the next boundary. -/
def State.haltLater (s : State) (c cause unit : Nat) : State := s.onCore c fun k => { k with haltDue := some (cause, unit) }

/-- A halt at the next boundary, at once if the core is at one. -/
def State.haltSoon (s : State) (c cause unit : Nat) : State :=
  if (s.core c).atBoundary then s.haltCore c cause unit else s.haltLater c cause unit

/-! ### Interrupt lines -/

/-- An IDLE core runs on once an enabled line is pending (R452); a STEP over its IDLE ends there. -/
def State.wakeIdle (s : State) (c : Nat) : State :=
  if s.reg R.core_STATE c = 2 ∧ (s.core c).irqPend &&& (s.core c).irqEn ≠ 0 then (s.coreState c 1).haltIfDue c else s

/-- Line `n` of a core becomes pending. -/
def State.raiseCoreLine (s : State) (c n : Nat) : State :=
  let s : State := if (s.core c).irqPend.testBit n then s else
    s.onCore c fun k => { k with irqPend := putBit k.irqPend n true, pendSince := upd k.pendSince n fun _ => s.mono }
  s.wakeIdle c

/-- Line `n` of core 0 becomes pending (Table 15.5). -/
def State.raiseLine (s : State) (n : Nat) : State := s.raiseCoreLine 0 n

/-- Line `n` of core 0 is no longer pending.
[DEDUCED, log 150: unsafe] -/
def State.clearLine (s : State) (n : Nat) : State := s.onCore 0 fun k => { k with irqPend := putBit k.irqPend n false }

end Sys2Proof.Machine
end

