-- ==== Sys2Proof/Machine/Locks.lean ====
section
/-! DEFINITION. The lock unit (R457 to R459): owners, leases, suspect flags, for the cores and the sessions; and the
end of an access of core 1's window. -/

namespace Sys2Proof.Machine

/-- The owner ID of a party; a session outside any slot has none.
[DEDUCED, log 153: unsafe] -/
def ownerId : LockParty → Option Nat
  | .core c => some (c + 1)
  | .session w => w.slot.map fun n => 16 + n

/-- The acquire word of Table 15.8. -/
def lockWord (owner suspect : Nat) (granted : Bool) : Nat := owner + suspect * 2 ^ 14 + b2n granted * 2 ^ 15

/-- The owner of lock `n` is a core that a debugger has halted (R459). -/
def State.ownerHalted (s : State) (n : Nat) : Bool :=
  [0, 1].any fun c => s.reg R.lock_OWNER n == c + 1 && (s.core c).haltedAt.isSome

/-- The lease timer of lock `n` starts at `span` µs; it stands still while the owner core is halted. -/
def State.runLease (s : State) (n span : Nat) : State :=
  s.setLease n (if s.ownerHalted n then { span := span, frozen := some (span * 1000) } else { span := span, ends := s.mono + span * 1000 })

/-- The lease timer of lock `n` starts at LEASE, as it stands at the acquire. -/
def State.startLease (s : State) (n : Nat) : State := s.runLease n (s.reg R.lock_LEASE n)

/-- RENEW restarts the lease timer of lock `n` (R458); a LEASE written since applies at the next acquire (R459).
[DEDUCED, log 264: unsafe] -/
def State.renewLease (s : State) (n : Nat) : State := s.runLease n (s.lease n).span

/-- An acquire read of lock `n` by owner ID `who`: the state after it and the word it returns (R457). -/
def State.lockTake (s : State) (n who : Nat) : State × Nat :=
  if s.reg R.lock_OWNER n = 0 then
    let s := ((s.setReg R.lock_OWNER n who).setReg R.lu_HELD 0 (putBit (s.reg R.lu_HELD) n true)).inc R.lu_ACQUIRES
    (s.startLease n, lockWord who (s.reg R.lock_SUSPECT n) true)
  else (s.inc R.lu_CONTESTS, lockWord (s.reg R.lock_OWNER n) (s.reg R.lock_SUSPECT n) false)

/-- Lock `n` becomes free; line 6 of core 0 is raised (R458). -/
def State.lockFree (s : State) (n : Nat) : State :=
  let s := (s.setReg R.lock_OWNER n 0).setReg R.lu_HELD 0 (putBit (s.reg R.lu_HELD) n false)
  (s.setLease n {}).raiseLine 6

/-- Lock `n` is released forcibly, with its cause (R459). -/
def State.lockForce (s : State) (n cause : Nat) : State :=
  let s := (s.setReg R.lock_SUSPECT n 1).setReg R.lu_SUSPECT 0 (putBit (s.reg R.lu_SUSPECT) n true)
  ((s.inc R.lock_FORCED n).lockFree n).raise 0x8101 (n + cause * 256)

/-- Every lock of an owner is released forcibly.
[DEDUCED, log 147: unsafe] -/
def State.lockForceAll (s : State) (who cause : Nat) : State :=
  s.each (List.range 64) fun s n => if s.reg R.lock_OWNER n = who then s.lockForce n cause else s

/-- The suspect flag of lock `n` clears. -/
def State.lockTrust (s : State) (n : Nat) : State :=
  (s.setReg R.lock_SUSPECT n 0).setReg R.lu_SUSPECT 0 (putBit (s.reg R.lu_SUSPECT) n false)

/-- What the owner of lock `n` does to it; another core's access is counted in MISUSE and ignored, another session's refused (R458). -/
def State.lockAct (s : State) (p : LockParty) (n : Nat) (r : Reg) (act : State → State) : State :=
  match p with
  | .core c => if s.coreRuns c then (if s.reg R.lock_OWNER n = c + 1 then act s else s.inc R.lu_MISUSE) else s
  | .session w => s.writeAs w r n true fun s =>
      if ownerId p = some (s.reg R.lock_OWNER n) then (act s).ok else s.stateError

/-- An acquire read of lock `n` (R457).
[DEDUCED, log 153: unsafe] -/
def opLockAcquire (p : LockParty) (n : Nat) (s : State) : State :=
  match p with
  | .core c => if s.coreRuns c then (match s.lockTake n (c + 1) with | (s, v) => s.answerWith (leBytes 2 v)) else s
  | .session w => s.readAs w ⟨0x8101, n, 2⟩ fun s _ =>
      match ownerId p with
      | some who => (match s.lockTake n who with | (s, v) => s.answerWith (leBytes 2 v))
      | none => s.stateError

def opLockRelease (p : LockParty) (n : Nat) (s : State) : State := s.lockAct p n R.lock_RELEASE fun s => s.lockFree n

def opLockRenew (p : LockParty) (n : Nat) (s : State) : State := s.lockAct p n R.lock_RENEW fun s => s.renewLease n

def opLockClearSuspect (p : LockParty) (n : Nat) (s : State) : State := s.lockAct p n R.lock_CLEAR_SUSPECT fun s => s.lockTrust n

/-- The lease of lock `n` reaches zero (R459). -/
def opLeaseExpiry (t n : Nat) (s : State) : State :=
  let s := s.advanceTo t
  if s.on R.lock_OWNER n && (s.lease n).frozen.isNone && decide ((s.lease n).ends ≤ s.mono) then s.lockForce n 1 else s

/-! ### Core 1's window (R444, R445) -/

/-- An access of core 1's window completes: a loaded halfword reaches its register as a load's does (Table 15.4), a free value where the access
brought none, and a halt that waited for it happens.
[DESIGN CHOICE, log 144: unsafe] -/
def State.windowDone (s : State) (tag : Nat) (word : Option Nat) : State :=
  match s.dusk.core1.asks.find? fun x => x.tag == tag with
  | none => s
  | some x =>
    let late (v : Nat) (s : State) : State := match x.dest with
      | some d => s.onCore 1 fun k => { k with late := k.late ++ [.data d v] }
      | none => s
    let s := s.onCore 1 fun k => { k with asks := k.asks.erase x }
    let s := match word with
      | some w => late (w / 2 ^ x.shift % 2 ^ 16) s
      | none => late (s.freeBits 16) s.took
    s.haltIfDue 1

end Sys2Proof.Machine
end

