-- ==== Sys2Proof/Machine/Sessions.lean ====
section
/-! DEFINITION. Sessions of the dictionary (R414, R416, R431, R433): opening, closing, the write lock; and the restart of the steward
(R493, R494), which closes them all. -/

namespace Sys2Proof.Machine

/-- The slots of each class (Table 14.1): 0 HOST, 1 OPERATOR, 2 PEER, 3 SERVICE.
[DESIGN CHOICE, log 115: safe] -/
def classSlots : Nat → List Nat
  | 0 => List.range 4
  | 1 => (List.range 32).map (4 + ·)
  | 2 => (List.range 16).map (36 + ·)
  | 3 => (List.range 4).map (52 + ·)
  | _ => []

/-- CLASS of a slot (Table 14.14); slots 56 to 63 belong to none. -/
def slotClass (n : Nat) : Option Nat :=
  if n < 4 then some 0 else if n < 36 then some 1 else if n < 52 then some 2 else if n < 56 then some 3 else none

/-- The number of an access class. -/
def classCode : AccessClass → Nat
  | .host => 0 | .operator => 1 | .peer => 2 | .service => 3 | .watch => 4

/-- The class of a port (Table 14.1). -/
def portClass : ObpPort → AccessClass
  | .spi => .host
  | .mgmt _ _ => .operator
  | .link _ => .peer
  | .service => .service

def State.sess (s : State) (n : Nat) : SessRun := tget (fun _ => {}) s.steward.sessions n

def State.onSess (s : State) (n : Nat) (u : SessRun → SessRun) : State :=
  { s with steward := { s.steward with sessions := tput (fun _ => {}) n (u (s.sess n)) s.steward.sessions } }

/-- SOURCE of a session opened on a port (Table 14.14, R431). -/
def State.sourceOfPort (s : State) : ObpPort → Nat
  | .mgmt a p => a + p * 2 ^ 32
  | .link k => k + s.reg R.link_PARTNER_ID k * 2 ^ 8
  | _ => 0

/-- LOCK_OWNER changes, with event 0x1103 (R416). -/
def State.setWriteLock (s : State) (n ident : Nat) : State :=
  (s.setReg R.stw_LOCK_OWNER 0 ident).raise 0x1103 (n + b2n (ident != 0) * 256)

/-- The session of slot `n` closes with a cause of Table 14.19: its locks are released, its write lock, cache, latch, write buffer and
subscription are gone, event 0x1102 (R433, R459). -/
def State.closeSession (s : State) (n cause : Nat) : State :=
  if s.reg R.ses_ID n = 0 then s
  else
    let s := s.lockForceAll (16 + n) 2
    let s : State := if s.reg R.stw_LOCK_OWNER = s.reg R.ses_ID n then s.setWriteLock n 0 else s
    let s := ((s.setReg R.ses_ID n 0).setReg R.ses_SOURCE n 0).setReg R.ses_EVENT_MASK n 0
    let s := (s.onSess n fun _ => {}).setReg R.stw_SESSIONS 0 (s.reg R.stw_SESSIONS - 1)
    s.raise 0x1102 (n + cause * 256)

/-- Every session of a class closes. -/
def State.closeClass (s : State) (cls cause : Nat) : State := s.each (classSlots cls) fun s n => s.closeSession n cause

/-- The PEER sessions bound to link `k` close as it goes DOWN (R433). -/
def State.closeLinkSessions (s : State) (k : Nat) : State :=
  s.each (classSlots 2) fun s n => if s.reg R.ses_SOURCE n % 256 = k then s.closeSession n 3 else s

/-- The slot open with an ID. -/
def State.slotOfId (s : State) (ident : Nat) : Option Nat :=
  (List.range 56).find? fun n => ident != 0 && s.reg R.ses_ID n == ident

/-- The open counter of a slot at its next OPEN: 1 to 65,535, without 0 (R431). -/
def State.nextCounter (s : State) (n : Nat) : Nat :=
  let c := tget (fun _ => 0) s.steward.counters n
  if c = 65535 then 1 else c + 1

/-- The request numbers that count as executed at OPEN (R432): the window below HIGH = 0. -/
def openWindow : List (Nat × Option (List Byte)) := (List.range 64).map fun i => ((2 ^ 32 - i) % 2 ^ 32, none)

/-- A session opens in a free slot for a source, with its ID (R431). -/
def State.openSlot (s : State) (n cls nonce source : Nat) : State :=
  let c := s.nextCounter n
  let ident := s.reg R.stw_BOOT_COUNT % 1024 * 2 ^ 22 + c * 2 ^ 6 + n
  let s := { s with steward := { s.steward with
    counters := tput (fun _ => 0) n c s.steward.counters,
    opens := ({ cls := cls, nonce := nonce, source := source, ident := ident } : OpenRec) ::
      ((s.steward.opens.filter fun o : OpenRec => o.cls == cls).take 63 ++ s.steward.opens.filter fun o : OpenRec => o.cls != cls) } }
  let s := ((s.setReg R.ses_ID n ident).setReg R.ses_SOURCE n source).setReg R.ses_HIGH n 0
  let s := ((s.setReg R.ses_TIMEOUT n 60).setReg R.ses_NOTIFY_SEQ n 0).setReg R.ses_REQUESTS n 0
  let s := s.onSess n fun _ => { done := openWindow, lastReq := s.mono }
  ((s.inc R.stw_SESSIONS).raise 0x1101 (n + cls * 256)).answerWith (leBytes 4 ident)

/-- The slot in which the session of an earlier OPEN with this nonce from this source is still open (R431). -/
def State.sameOpen (s : State) (cls nonce source : Nat) : Option Nat :=
  (s.steward.opens.filter fun o => o.cls == cls && o.nonce == nonce && o.source == source).findSome? fun o => s.slotOfId o.ident

/-- An OPEN on a port that carries sessions (R431, R486, R491): a link must be UP, a service session open. -/
def opObpOpen (port : ObpPort) (nonce : Nat) (s : State) : State :=
  let cls := portClass port
  let up := match port with
    | .link k => s.reg R.link_STATE k == 2
    | .service => s.on R.dbg_SESSION
    | _ => true
  if !s.dictAnswers ⟨cls, none⟩ || !up then s.silent
  else if s.opensClosed ⟨cls, none⟩ then s.stateError
  else
    let source := s.sourceOfPort port
    match s.sameOpen (classCode cls) nonce source with
    | some n => s.answerWith (leBytes 4 (s.reg R.ses_ID n))
    | none =>
      match (classSlots (classCode cls)).find? fun n => !s.on R.ses_ID n with
      | some n => s.openSlot n (classCode cls) nonce source
      | none => s.resource

/-- A CLOSE operation: the session closes once its response has left (R433); outside a session there is none to close. -/
def State.markClose (s : State) (w : Who) : State :=
  match w.slot with
  | some n => if s.on R.ses_ID n then (s.onSess n fun x => { x with closing := true }).ok else s.stateError
  | none => s.stateError

/-- A session whose CLOSE has been answered closes. -/
def State.finishClose (s : State) (w : Who) : State :=
  match w.slot with
  | some n => if (s.sess n).closing then s.closeSession n 0 else s
  | none => s

def opObpClose (w : Who) (s : State) : State :=
  if !s.dictAnswers w then s.silent
  else if s.othersClosed w then s.stateError
  else (s.markClose w).finishClose w

/-- No request for TIMEOUT seconds (R433); the timers stand still while core 1 is halted (R546). -/
def opSessionTimeout (t n : Nat) (s : State) : State :=
  let s := s.advanceTo t
  if s.dusk.core1.haltedAt.isNone && decide ((s.sess n).lastReq + s.reg R.ses_TIMEOUT n * 1000000000 ≤ s.mono) then
    s.closeSession n 1
  else s

/-- COMMAND = CLOSE of the session in slot `n` (R414, R433).
[DEDUCED, log 122: unsafe] -/
def opSessionCloseCommand (w : Who) (n : Nat) (s : State) : State :=
  s.writeAs w R.ses_COMMAND n true fun s =>
    if !s.on R.ses_ID n then s.stateError
    else (s.closeSession n (if w.slot = some n then 0 else 2)).ok

/-- A session claims the write lock with its own ID (R416).
[DEDUCED, log 121: unsafe] -/
def opWriteLockClaim (w : Who) (ident : Nat) (s : State) : State :=
  if s.dictAnswers w && s.lockDenied w ident then s.accessDenied
  else s.writeAs w R.stw_LOCK_OWNER 0 (ident != 0 && ident == s.ownId w) fun s =>
    if s.reg R.stw_LOCK_OWNER = ident then s.ok
    else if s.on R.stw_LOCK_OWNER then s.stateError
    else ((s.setWriteLock (w.slot.getD 0) ident).inc R.stw_LOCK_CLAIMS).ok

/-- The owner releases the write lock by writing 0 (R416).
[DEDUCED, log 121: unsafe] -/
def opWriteLockRelease (w : Who) (s : State) : State :=
  if s.dictAnswers w && s.lockDenied w 0 then s.accessDenied
  else s.writeAs w R.stw_LOCK_OWNER 0 true fun s =>
    if !s.on R.stw_LOCK_OWNER then s.ok
    else if s.reg R.stw_LOCK_OWNER ≠ s.ownId w then s.accessDenied
    else (s.setWriteLock (w.slot.getD 0) 0).ok

/-! ### Restart of the steward (R454, R456, R493, R494) -/

/-- What the steward keeps in core 1 is lost: its queues, ports and sessions; the admission check in progress too (R493).
[DEDUCED, log 123: unsafe] -/
def State.dropSteward (s : State) : State :=
  let s : State := { s with dusk := { s.dusk with mbx := 0, mbxReply := none } }
  let s := s.each (List.range 56) fun s n => s.closeSession n 4
  let w : Steward := { s.steward with queues := [[], [], [], [], []], spiIn := [], spiOut := [], rxFull := false }
  let s : State := { s with steward := { w with mgmtWait := [], opens := [], switching := false } }
  State.setReg { s with adm := { s.adm with checking := none } } R.adm_BUSY 0 (b2n !s.scratch.recovery.isEmpty)

/-- Core 1 is reset and the steward restarts (R493), with cause 0 fault or 1 watchdog; a third restart within 60 s of the first of three
does not begin, and core 1 stays STOPPED (R494).
[DEDUCED, log 123: unsafe] -/
def State.stewardRestart (s : State) (cause : Nat) : State :=
  let s := (s.lockForceAll 2 0).onCore 1 fun k => { prog := k.prog }
  let s := (s.setReg R.core_STATE 1 0).dropSteward
  let recent := s.boot.restarts.filter fun t => decide (s.mono < t + 60000000000)
  if 2 ≤ recent.length then
    { s with boot := { s.boot with stopped := true, restarting := false } }.raise 0x1008 0
  else
    { s with boot := { s.boot with restarting := true, restartCause := cause, restarts := s.mono :: recent,
                                   restartCount := s.boot.restartCount + 1, restartEnd := none } }

/-- Core `c` begins to run from its first instruction: its watchdog window opens. -/
def State.startCore (s : State) (c entry : Nat) : State :=
  (s.onCore c fun k => { k with pc := entry, kickAt := s.mono, warned := false, timerFrom := s.mono }).coreState c 1

/-- Milliseconds since the reset. -/
def State.sinceReset (s : State) : Nat := (s.mono - s.boot.start) / 1000000 % 4096

end Sys2Proof.Machine
end

