-- ==== Sys2Proof/Machine/Scratch.lean ====
section
/-! DEFINITION. The scratchpad as a memory (R302 to R305, R307 to R312): where a word lies, its code word, checked reads, writes, the
reactions to poison in the owned areas (R502, Table 18.3), the entries of its slices, the end of a wipe, and the parameter copies of the
scheduler area (R61, R305). -/

namespace Sys2Proof.Machine

/-- The scratchpad's first address, and its secure region's offset (Table 10.1). -/
def scratchBase : Nat := 0x4000000000
def secureOfs : Nat := 0x3F00000

/-- Bank within its slice, slice, and row of the word at offset `o` (R302). -/
def scratchBank (o : Nat) : Nat := bits o 9 5
def scratchSlice (o : Nat) : Nat := bits o 13 10
def scratchRow (o : Nat) : Nat := bits o 25 14

/-- The offset of row `r` of global bank `b`. -/
def scratchOffset (b r : Nat) : Nat := r * 2 ^ 14 + b / 32 * 2 ^ 10 + b % 32 * 2 ^ 5

/-- What an unlisted word holds: in the first area the descriptor of its flow (Table 05.4), elsewhere the zero word (R308). -/
def State.scratchOwn (s : State) (w : Nat) : CodeWord :=
  if w < 2 ^ 18 then encodeWord (ofLe (s.flowDescriptor w)) else 0

/-- The code word of word `w` of the scratchpad.
[DEDUCED, log 72: unsafe] -/
def State.scratchWord (s : State) (w : Nat) : CodeWord := (tget (fun _ => none) s.scratch.words w).getD (s.scratchOwn w)

/-- A code word stored in word `w`. -/
def State.putScratch (s : State) (w : Nat) (c : CodeWord) : State :=
  let v : Option CodeWord := if c = s.scratchOwn w then none else some c
  { s with scratch := { s.scratch with words := tput (fun _ => none) w v s.scratch.words } }

/-- The areas of event 0x9005 (R502): 0 flow descriptor, 1 handle or frame table, 3 parameter copy, 4 steward store, 5 secure region;
none for the general area. -/
def State.ownedArea (s : State) (w : Nat) : Option Nat :=
  let o := w * 32
  if o < 0x800000 then some 0
  else if o < 0x2800000 then
    some (if s.scratch.params.any fun p => decide (0x800000 + p.2.1 ≤ o) && decide (o < 0x800000 + p.2.1 + p.2.2) then 3 else 1)
  else if o < 0x3000000 then some 4
  else if o < 0x3F00000 then none
  else some 5

/-- Word `w` read by its slice's checker (R233, R243, R309): the data, or none for poison. -/
def State.scratchRead (s : State) (w : Nat) : State × Option Nat :=
  let c := s.scratchWord w
  let n := 128 + scratchSlice (w * 32)
  let a := scratchBase + w * 32
  match decodeWord c none with
  | .clean d => (s, some d)
  | .corrected d j e => (s.logFinding n (s.finding a c 0 j e false), some d)
  | .poison => (s.inc R.mlog_POISON_READS n, none)
  | .uncorrectable => ((s.logFinding n (s.finding a c 1 0x3F 0 false)).raiseUncorrectable n, none)

/-- A pending scrub write-back of word `w` is cancelled: a master's write to it has been queued (R248, R309). -/
def State.cancelPadWrite (s : State) (w : Nat) : State :=
  { s with scratch := { s.scratch with writeBack := s.scratch.writeBack.filter fun p => p.2.elim true fun b => b.addr != w * 32 } }

/-- Word `w` written under a byte mask (R307): a WRITE_MASKED is merged, and one over poison writes poison. -/
def State.scratchWrite (s : State) (w data mask : Nat) (poison : Bool) : State :=
  let s := s.cancelPadWrite w
  if poison then s.putScratch w poisonWord
  else if mask = fullMask then s.putScratch w (encodeWord data)
  else match s.scratchRead w with
    | (s, some d) => s.putScratch w (encodeWord (mergeBytes mask d data))
    | (s, none) => s.putScratch w poisonWord

/-! ### Poison in owned areas (R502) -/

/-- Word `w` is to be rewritten by its owner (R502). -/
def State.toRebuild (s : State) (w : Nat) : State :=
  { s with scratch := { s.scratch with rebuild := w :: s.scratch.rebuild.filter fun x => x != w } }

/-- The owners have rewritten the words that satisfy `p`: the poison is gone, and the words read as the model shows their areas. -/
def State.rewriteWords (s : State) (p : Nat → Bool) : State :=
  let l := s.scratch.rebuild.filter p
  { s with scratch := { s.scratch with rebuild := s.scratch.rebuild.filter fun w => !p w
                                       words := s.scratch.words.filter fun x => !l.contains x.1 } }

/-- BUSY reads 1 while an admission check runs and from a wipe to the end of its recovery (R553). -/
def State.showBusy (s : State) : State := s.setReg R.adm_BUSY 0 (b2n (s.adm.checking.isSome || !s.scratch.recovery.isEmpty))

/-- The steward has a recovery to do after tamper source `source` (R553). -/
def State.toRecover (s : State) (source : Nat) : State :=
  State.showBusy { s with scratch := { s.scratch with recovery := s.scratch.recovery ++ [source] } }

/-- The reaction of Table 18.3 to poison in word `w` of the scheduler's tables.
[DEDUCED, log 20: unsafe, DESIGN CHOICE, log 74: safe] -/
def State.schedPoison (s : State) (w : Nat) : State :=
  let s := s.toRebuild w
  match Config.schedEntry w with
  | (0, i) => ({ s with sched := { s.sched with badHandles := i % 65536 :: s.sched.badHandles } }).raise 0x9005 1
  | (1, id) => ({ s with sched := { s.sched with badNodes := id % 2 ^ 20 :: s.sched.badNodes } }).raise 0x9005 1
  | (_, e) =>
    let s := s.raise 0x9005 2
    match s.sched.ops.find? fun o => o.tag != 0 && o.tag % 1024 == e % 1024 with
    | none => s
    | some o =>
      if o.state == .active then s.onOp o.node o.frame fun x => { x with aborting := true }
      else (s.onOp o.node o.frame fun x => { x with state := .completed, status := 3 }).schedule

/-- Word `w` of the scratchpad returned poison: its area's reaction, with event 0x9005; the steward's restart writes its working store anew.
[DEDUCED, log 20: unsafe, DEDUCED, log 65: unsafe] -/
def State.ownedPoison (s : State) (w : Nat) : State :=
  match s.ownedArea w with
  | some 0 =>
    let s := s.onFlow w fun x => { x with frames := x.frames.map fun v => { v with complete := false, broken := true } }
    (s.toRebuild w).raise 0x9005 0
  | some 1 => s.schedPoison w
  | some 4 => (((s.toRebuild w).rewriteWords fun x => x == w).raise 0x9005 4).stewardRestart 0
  | some 5 => ((s.toRebuild w).toRecover 15).raise 0x9005 5
  | some a => s.raise 0x9005 a
  | none => s

/-! ### The entries of a slice (R306, R307) -/

def State.sliceEntries (s : State) (k : Nat) : List PcReq := tget (fun _ => []) s.scratch.entries k

def State.setSliceEntries (s : State) (k : Nat) (l : List PcReq) : State :=
  { s with scratch := { s.scratch with entries := tput (fun _ => []) k l s.scratch.entries } }

/-- Word number of a request, and whether it lies in the secure region. -/
def padWord (r : PcReq) : Nat := (r.addr - scratchBase) / 32
def padSecure (r : PcReq) : Bool := decide (secureOfs ≤ padWord r * 32)

/-- A slice has room for `n` more words of a class (R306): 64 entries, 48 for best-effort words. -/
def State.sliceRoom (s : State) (k n : Nat) (vc : VC) : Bool :=
  decide ((s.sliceEntries k).length + n ≤ if vc = .vc3 then 64 else 48)

/-- The slice cycles an access occupies its bank for: two for a WRITE_MASKED (R307). -/
def padCycles (r : PcReq) : Nat := if r.write ∧ r.mask ≠ fullMask then 2 else 1

/-- The entries of slice `k` that wait for its bank `b`. -/
def State.bankEntries (s : State) (k b : Nat) : List PcReq := (s.sliceEntries k).filter fun r => scratchBank (padWord r * 32) == b

/-- An entry leaves slice `k`, and `n` others that wait for its bank wait on for the cycles of its access (R307). -/
def State.leavePad (s : State) (k : Nat) (r : PcReq) (n : Nat) : State :=
  (s.setSliceEntries k ((s.sliceEntries k).erase r)).add R.sp_BANK_CONFLICTS 0 (n * padCycles r)

/-- A read entry served: its word goes to the requester, and poison has its area's reaction. -/
def State.padRead (s : State) (k : Nat) (r : PcReq) : State × Option Nat :=
  match s.scratchRead (padWord r) with
  | (s, some d) => (s.respond (sliceStop k) r.master r.tag r.addr (some d), some d)
  | (s, none) => ((s.respond (sliceStop k) r.master r.tag r.addr none).ownedPoison (padWord r), none)

/-- A wipe ends (R311 to R313): every word of the secure region is the zero word; WIPES, the record, event 0x3201; the steward has its recovery
to do (R553). -/
def State.endWipe (s : State) : State :=
  let s := s.waitUntil (s.scratch.wipeStart + 64)
  let cause := s.scratch.wipeCause
  let source := if cause % 4 = 0 then 15 else s.reg R.tmp_LAST_SOURCE % 16
  let s : State := { s with scratch := { s.scratch with
    words := s.scratch.words.filter (fun p => decide (p.1 < secureOfs / 32)), wiping := false } }
  let s := match s.service.commit with
    | some v => { s with service := s.service.setGroup v false }
    | none => s
  ((((s.toRecover source).inc R.sp_WIPES).setReg R.sp_LAST_WIPE_CAUSE 0 cause).setReg R.sp_LAST_WIPE_TIME 0 s.stamp).raise 0x3201 cause

/-- What comes before an access at once to word `w`: a secure word waits until the wipe has ended (R312), and the entries that wait for the bank
go first, the oldest first (R307).
[DESIGN CHOICE, log 249: unsafe] -/
def State.padFirst (s : State) (w : Nat) : State :=
  let k := scratchSlice (w * 32)
  let b := scratchBank (w * 32)
  let s := if s.scratch.wiping && decide (secureOfs ≤ w * 32) then s.endWipe else s
  s.each ((s.bankEntries k b).filter fun r => !(s.scratch.wiping && padSecure r)) fun s r =>
    let s := s.leavePad k r (s.bankEntries k b).length
    if r.write then s.scratchWrite (padWord r) r.data r.mask r.poison else (s.padRead k r).1

/-- Word `w` read at once by a master (R307). -/
def State.padReadNow (s : State) (w : Nat) : State × Option Nat := (s.padFirst w).scratchRead w

/-- Word `w` written at once by a master (R307). -/
def State.padWriteNow (s : State) (w data mask : Nat) (poison : Bool) : State := (s.padFirst w).scratchWrite w data mask poison

/-! ### Parameter copies (R61, R305) -/

/-- Bytes of the scheduler area that its tables leave free for parameter copies. -/
def paramRoom : Nat := 0x2000000 - Config.schedTables

/-- The bytes a copy of `n` bytes takes: whole words. -/
def copyBytes (n : Nat) : Nat := ceilDiv n 32 * 32

/-- The end of the copy that overlaps [x, x + n), if one does. -/
def overlapEnd (l : List (Nat × (Nat × Nat))) (x n : Nat) : Option Nat :=
  (l.find? fun p => decide (p.2.1 < x + n) && decide (x < p.2.1 + p.2.2)).map fun p => p.2.1 + p.2.2

/-- The lowest free place for `n` bytes, tried at most `k` times.
[DEDUCED, log 40: unsafe] -/
def placeCopy (l : List (Nat × (Nat × Nat))) (n : Nat) : Nat → Nat → Option Nat
  | 0, _ => none
  | k + 1, x =>
    match overlapEnd l x n with
    | none => if x + n ≤ paramRoom then some x else none
    | some e => placeCopy l n k e

/-- Where a parameter section of `n` bytes would go; an empty one needs no room.
[DEDUCED, log 40: unsafe] -/
def State.paramPlace (s : State) (n : Nat) : Option Nat :=
  if n = 0 then some 0 else placeCopy s.scratch.params (copyBytes n) 65 0

/-- SCHED_FREE (Table 10.3). -/
def State.schedFree (s : State) : Nat := paramRoom - (s.scratch.params.map fun p => p.2.2).sum

/-- Room for `n` bytes at offset `x` of the scheduler area is taken for slot `g`. -/
def State.takeParams (s : State) (g x n : Nat) : State :=
  { s with scratch := { s.scratch with params := tput (fun _ => (0, 0)) g (x, copyBytes n) s.scratch.params } }

/-- The parameter section of slot `g` is written to its copy. -/
def State.putParams (s : State) (g : Nat) (l : List Byte) : State :=
  s.each (List.range (copyBytes l.length / 32)) fun s i =>
    s.padWriteNow ((0x800000 + (tget (fun _ => (0, 0)) s.scratch.params g).1) / 32 + i) (leAt l (32 * i) 32) fullMask false

/-- The copy of slot `g` is given up. -/
def State.dropParams (s : State) (g : Nat) : State :=
  { s with scratch := { s.scratch with params := tput (fun _ => (0, 0)) g (0, 0) s.scratch.params } }

/-- The address of a node's parameter block (PARAM of Table 03.9). -/
def State.paramAddr (s : State) (id : Nat) : Nat :=
  scratchBase + 0x800000 + (tget (fun _ => (0, 0)) s.scratch.params (slotOf id)).1 + 32 * (s.nodeRec id).paramOfs

/-- `k` words of a parameter block from word `i` on; poison raises event 0x9005 for the parameter copy (R502) and gives none. -/
def State.readParams (s : State) (id : Nat) : Nat → Nat → State × Option (List Byte)
  | _, 0 => (s, some [])
  | i, k + 1 =>
    match s.padReadNow ((s.paramAddr id - scratchBase) / 32 + i) with
    | (s, none) => (s.raise 0x9005 3, none)
    | (s, some d) =>
      match s.readParams id (i + 1) k with
      | (s, some l) => (s, some (leBytes 32 d ++ l))
      | (s, none) => (s, none)

end Sys2Proof.Machine
end

