-- ==== Sys2Proof/Machine/Timebase.lean ====
section
/-! DEFINITION. The timebase (chapter 02): sources, lock states, corrections, the PTP slave and REF_IN, the cadence switches. Offsets
are timebase minus source. -/

namespace Sys2Proof.Machine

/-! ### Lock states and steps -/

/-- The timebase enters a lock state (R35): event 0x1301, and LOCK_LOSSES on leaving LOCKED. -/
def State.setLock (s : State) (new : Nat) : State :=
  let old := s.reg R.tb_STATE
  if old = new then s
  else
    let s := if old = 2 then s.inc R.tb_LOCK_LOSSES else s
    (s.setReg R.tb_STATE 0 new).raise 0x1301 (old + new * 256)

/-- SHADOW of swap region `n` becomes `v` (Table 12.8), with event 0x7012. -/
def State.shadowState (s : State) (n v : Nat) : State :=
  let s := if v = 0 ∨ v = 1 then s.setReg R.swap_SHADOW_ID n 0 else s
  if s.reg R.swap_SHADOW n = v then s else (s.setReg R.swap_SHADOW n v).raise 0x7012 (n + v * 16)

/-- What a cancelled member leaves behind (R54): its unit is no longer armed, and what was staged for it is discarded: a STAGED shadow is EMPTY
again, as is the next epoch.
[DEDUCED, log 195: unsafe] -/
def Member.cancel (m : Member) (s : State) : State :=
  match m with
  | .exchange n =>
    let s := s.setReg R.swap_ARMED n 0
    if s.reg R.swap_SHADOW n = 2 then s.shadowState n 0 else s
  | .profile _ => State.setReg { s with steward := { s.steward with switching := false } } R.prof_ARMED 0 0
  | .epoch _ _ => if s.armed.any (fun x => match x with | .epoch _ _ => true | _ => false) then s else s.setReg R.rsys_STAGED 0 0
  | _ => s

/-- A commit set is cancelled (R54): its members are discarded, event 0x1307. -/
def State.cancelSet (s : State) (x : CommitSet) : State :=
  let s := { s with tb := { s.tb with sets := s.tb.sets.filter fun y => !(y.cad == x.cad && y.target == x.target) } }
  let s := s.each x.members fun s m => m.cancel s
  s.raise 0x1307 x.cad

/-- A best-effort graph is stopped at the write or step, as though ARM_STOP had taken effect (R97, R573): event 0x5002 for the stop, and event
0x5003. The last frame it has staged is the one before the next mark of its cadence.
[DEDUCED, log 46: unsafe] -/
def State.stopBestEffort (s : State) (g : Nat) : State :=
  if s.running g && s.reg R.slot_CLASS g == 1 then
    ((s.stopGraph g (s.nextMark (s.graph g).cad)).raise 0x5002 (g + 0x3F * 256)).raise 0x5003 g
  else s

/-- The step of event 0x1305 in µs, rounded toward zero (R40). -/
def stepMicros (d : Int) : Nat := ofSigned 16 (Int.tdiv d 1000)

/-- The time steps to `new` (R40, R41, R97): event 0x1305, every pending set cancelled, cadences resume at their first mark at or after
the new time, RUNNING best-effort graphs stop. -/
def State.stepTime (s : State) (new : Nat) : State :=
  let new : Nat := new % timeSpan
  let d : Int := Int.ofNat new - Int.ofNat s.now
  let s := s.raise 0x1305 (stepMicros d)
  let s := s.each s.tb.sets fun s x => s.cancelSet x
  let s := s.each allSlots fun s g => s.stopBestEffort g
  let s : State := { s with now := new, tb := { s.tb with slew := 0, slewRest := 0, cadFrom := List.replicate 16 new, lastTick := 0 } }
  s.freeVersions.schedule

/-! ### Sources -/

/-- The sources SOURCE selects, preferred first: 1 PTP, 2 REF_IN. -/
def sourcesOf (source : Nat) : List Nat := match source with
  | 1 => [1]
  | 2 => [2]
  | 3 => [1, 2]
  | 4 => [2, 1]
  | _ => []

def State.sources (s : State) : List Nat := sourcesOf (s.reg R.tb_SOURCE)

/-- The preferred source. -/
def State.preferred (s : State) : Nat := s.sources.headD 0

/-- The cadence aligned to REF_IN runs at the detected rate (R46). -/
def State.refMatches (s : State) : Bool :=
  let c := s.reg R.ref_CADENCE
  s.reg R.cad_KIND c == 0 && s.reg R.cad_RATE_NUM c * s.reg R.ref_RATE_DEN == s.reg R.ref_RATE_NUM * s.reg R.cad_RATE_DEN c

/-- Whether a source is usable. -/
def State.usable (s : State) (x : Nat) : Bool := if x = 1 then s.tb.ptpUsable else s.tb.refUsable && s.refMatches

/-- Consecutive measurements inside the lock limit, and outside the unlock limit, of a source. -/
def State.goods (s : State) (x : Nat) : Nat := if x = 1 then s.tb.ptpGood else s.tb.refGood
def State.bads (s : State) (x : Nat) : Nat := if x = 1 then s.tb.ptpBad else s.tb.refBad

/-- The LOCKED limit of Table 02.3, in ns. -/
def lockLimit (x : Nat) : Nat := if x = 1 then 100 else 20

/-- A measurement counts against Table 02.3, and its source becomes usable. -/
def State.countMeasure (s : State) (x : Nat) (off : Int) : State :=
  let good := if off.natAbs < lockLimit x then s.goods x + 1 else 0
  let bad := if 1000 < off.natAbs then s.bads x + 1 else 0
  if x = 1 then { s with tb := { s.tb with ptpGood := good, ptpBad := bad, ptpUsable := true } }
  else { s with tb := { s.tb with refGood := good, refBad := bad, refUsable := true } }

/-- A source is lost: not usable, its counters restart. -/
def State.unuse (s : State) (x : Nat) : State :=
  if x = 1 then { s with tb := { s.tb with ptpGood := 0, ptpBad := 0, ptpUsable := false } }
  else { s with tb := { s.tb with refGood := 0, refBad := 0, refUsable := false } }

/-- The offset is removed by slewing (R39). -/
def State.slewBy (s : State) (off : Int) : State := { s with tb := { s.tb with slew := off, slewRest := 0 } }

/-- A measured offset (timebase minus source) is removed: by slewing while a graph is admitted (R39), else by a step of the whole offset
(R40, R32). -/
def State.correct (s : State) (off : Int) : State :=
  if s.on R.adm_ADMITTED ∨ off = 0 then s.slewBy off else s.stepTime (shiftTime s.now (-off))

/-- The timebase enters ACQUIRING with a measured offset (R35, R40). -/
def State.acquire (s : State) (off : Int) : State := (s.setLock 1).correct off

/-- The lock state after a measurement of the active source (Table 02.2). -/
def State.judge (s : State) (x : Nat) (off : Int) : State :=
  match s.reg R.tb_STATE with
  | 1 =>
    let s := s.correct off
    if 16 ≤ s.goods x then s.setLock 2 else s
  | 2 => if 4 ≤ s.bads x then s.acquire off else s.correct off
  | _ => s.acquire off

/-- `x` becomes the active source, and is no longer a source that was lost. -/
def State.activate (s : State) (x : Nat) : State :=
  let s := s.setReg R.tb_ACTIVE_SOURCE 0 x
  { s with tb := { s.tb with lost := s.tb.lost.filter fun y => y != x } }

/-- The active source switches: event 0x1304 (R38). -/
def State.switchSource (s : State) (x : Nat) : State := (s.activate x).raise 0x1304 x

/-- The whole seconds of an offset, rounded to the nearest. -/
def wholeSeconds (off : Int) : Int := (off + 500000000) / 1000000000

/-- While REF_IN is active, PTP as the other source gives the seconds (R46): the timebase steps by the whole seconds of its offset, which R39
forbids while a graph is admitted.
[DEDUCED, log 196: unsafe] -/
def State.takeSeconds (s : State) (off : Int) : State :=
  let k := wholeSeconds off
  if s.on R.adm_ADMITTED ∨ k = 0 then s else s.stepTime (shiftTime s.now (-(k * 1000000000)))

/-- The preferred source may take over from the fallback (R38): at once, or once it has met its LOCKED criterion if it was lost. -/
def State.mayReturn (s : State) (x : Nat) : Bool := s.preferred == x && (!s.tb.lost.contains x || decide (16 ≤ s.goods x))

/-- A measurement of source `x` (R35 to R40). While re-synchronisation to an ensemble runs, it disciplines nothing and changes no state
(R525).
[DEDUCED, log 24: unsafe, DEDUCED, log 170: unsafe] -/
def State.measure (s : State) (x : Nat) (off : Int) : State :=
  if !s.sources.contains x then s
  else
    let s := s.countMeasure x off
    let a := s.reg R.tb_ACTIVE_SOURCE
    if s.ens.resync then (if a = x then s.setRegI R.tb_OFFSET 0 off else s)
    else if a = 0 then ((s.activate x).setRegI R.tb_OFFSET 0 off).judge x off
    else if a = x then (s.setRegI R.tb_OFFSET 0 off).judge x off
    else if s.mayReturn x then ((s.switchSource x).setRegI R.tb_OFFSET 0 off).judge x off
    else
      let s := if s.preferred = x then s else s.setRegI R.tb_OTHER_OFFSET 0 (-off)
      if x = 1 then s.takeSeconds off else s

/-- The source that takes over when `x` is lost (R38): a usable other one, the preferred source only by its LOCKED criterion if it was lost. -/
def State.successor (s : State) (x : Nat) : Option Nat :=
  s.sources.find? fun y => y != x && s.usable y && (s.preferred != y || s.mayReturn y)

/-- Source `x` is usable no more: where it is the active one, the usable fallback takes over (R38), else HOLDOVER follows.
[DEDUCED, log 197: unsafe] -/
def State.handOver (s : State) (x : Nat) : State :=
  let s := s.unuse x
  if s.reg R.tb_ACTIVE_SOURCE ≠ x then s
  else match s.successor x with
    | some y => s.switchSource y
    | none =>
      let s := s.setReg R.tb_ACTIVE_SOURCE 0 0
      if s.reg R.tb_STATE = 1 ∨ s.reg R.tb_STATE = 2 then
        let s := s.setLock 3
        { s with tb := { s.tb with holdStart := s.mono } }
      else s

/-- Source `x` is lost: as the active one it has to meet its LOCKED criterion before it returns as the preferred one (R38). -/
def State.loseSource (s : State) (x : Nat) : State :=
  let s : State := if s.reg R.tb_ACTIVE_SOURCE = x then { s with tb := { s.tb with lost := x :: s.tb.lost.filter fun y => y != x } } else s
  s.handOver x

/-! ### PTP (R42 to R44) -/

/-- The default best master comparison of IEEE 1588 on the data sets: smaller is better. -/
def announceRank (a : Announce) : List Nat :=
  [a.priority1, a.clockClass, a.accuracy, a.variance, a.priority2, a.identity, a.stepsRemoved]

/-- Lexicographic order of equally long lists. -/
def lexLess : List Nat → List Nat → Bool
  | a :: s, b :: t => decide (a < b) || (a == b && lexLess s t)
  | _, _ => false

/-- The better of two masters, with their ports; the lower port of equal ones. -/
def betterMaster (p q : Nat × Announce) : Nat × Announce :=
  if lexLess (announceRank p.2 ++ [p.1]) (announceRank q.2 ++ [q.1]) then p else q

/-- The best of a list of masters. -/
def bestOf (l : List (Nat × Announce)) : Option (Nat × Announce) :=
  l.foldl (fun b p => some (match b with | none => p | some q => betterMaster p q)) none

/-- The best master of all those heard on enabled ports (R42, R43).
[DEDUCED, log 22: unsafe] -/
def State.bestMaster (s : State) : Option (Nat × Announce) := bestOf (s.tb.masters.filter fun p => s.on R.ptp_ENABLE p.1)

/-- The enabled port whose master is best.
[DEDUCED, log 22: unsafe] -/
def State.bestPort (s : State) : Option Nat := s.bestMaster.map Prod.fst

/-- The best master heard on port `p`. -/
def State.portMaster (s : State) (p : Nat) : Option Announce := (bestOf (s.tb.masters.filter fun x => x.1 == p)).map Prod.snd

/-- PORT_STATE of port `p`: DISABLED, LISTENING without a master, the best port UNCALIBRATED until the timebase is locked to it and
then SLAVE, the others PASSIVE (slave-only). -/
def State.ptpPortState (s : State) (p : Nat) : Nat :=
  if !s.on R.ptp_ENABLE p then 0
  else if !s.tb.masters.any (fun x => x.1 == p) then 1
  else if s.bestPort == some p then (if s.reg R.tb_STATE = 2 ∧ s.reg R.tb_ACTIVE_SOURCE = 1 then 3 else 2)
  else 4

/-- PORT_STATE of every port that is enabled or has a master follows. -/
def State.ptpStates (s : State) : State :=
  s.each (List.range 256) fun s p => s.setReg R.ptp_PORT_STATE p (s.ptpPortState p)

/-- A Sync measurement on a port (R42): that of the best master counts, at an interval of 2^−7 s to 2^0 s.
[DEDUCED, log 22: unsafe, DEDUCED, log 198: unsafe, DESIGN CHOICE, log 266: unsafe] -/
def opPtpSync (t port : Nat) (m : SyncMeasurement) (s : State) : State :=
  let s := s.advanceTo t
  if m.interval < -7 ∨ 0 < m.interval ∨ (s.bestMaster.map fun p => (p.1, p.2.identity)) ≠ some (port, m.master) then s
  else
    let s := s.onPtp port fun p => { p with heard := some s.mono, interval := 1000000000 / 2 ^ m.interval.natAbs }
    (s.measure 1 m.offset).ptpStates

/-- The masters heard, with the data set of one of them replaced. -/
def hearMaster (ms : List (Nat × Announce)) (port : Nat) (a : Announce) : List (Nat × Announce) :=
  (ms.filter fun p => !(p.1 == port && p.2.identity == a.identity)) ++ [(port, a)]

/-- A valid Announce on a port (R42): of the port's domain, at an interval of 2^−3 s to 2^1 s. Each master heard is kept, and the best of all
is followed; UTC_OFFSET is overwritten while PTP is the active source.
[DEDUCED, log 198: unsafe] -/
def opPtpAnnounce (t port : Nat) (a : Announce) (s : State) : State :=
  let s := s.advanceTo t
  if !s.on R.ptp_ENABLE port || s.reg R.ptp_DOMAIN port != a.domain || decide (a.interval < -3) || decide (1 < a.interval) then s
  else
    let s := { s with tb := { s.tb with masters := hearMaster s.tb.masters port a } }
    let s := s.onPtp port fun p => { p with heard := some (p.heard.getD s.mono) }
    let s := s.setReg R.ptp_MASTER_ID port (((s.portMaster port).map Announce.identity).getD 0)
    let s : State := if s.reg R.tb_ACTIVE_SOURCE == 1 && s.bestMaster == some (port, a) then s.setRegI R.tb_UTC_OFFSET 0 a.utcOffset else s
    s.ptpStates

/-- A Delay_Resp updates PATH_DELAY of its port (R42). -/
def opPtpDelayResp (port : Nat) (delay : Int) (s : State) : State :=
  if s.on R.ptp_ENABLE port then s.setRegI R.ptp_PATH_DELAY port delay else s

/-- Port `p` is lost as the active PTP source (R44): 10 µs after its link went down, or with the link up after three Sync intervals without
a Sync. -/
def State.ptpLost (s : State) (p : Nat) : Bool :=
  let x := s.ptpPort p
  if s.on R.eth_LINK p then decide (x.heard.getD 0 + 3 * x.interval ≤ s.mono) else decide (x.downAt + 10000 ≤ s.mono)

/-- The active PTP port is lost (R44): the port of the best master, also while PTP is the monitored source.
[DEDUCED, log 237: unsafe] -/
def opPtpSourceLost (t port : Nat) (s : State) : State :=
  let s := s.advanceTo t
  if s.bestPort == some port && s.tb.ptpUsable && s.ptpLost port then
    let s := { s with tb := { s.tb with masters := s.tb.masters.filter fun p => p.1 != port } }
    let s := s.onPtp port fun p => { p with heard := none }
    let s := (s.inc R.ptp_SYNC_LOSSES port).raise 0x1302 port
    (s.loseSource 1).ptpStates
  else s

/-- ENABLE of PTP port `p` is written (R43): a fifth enable is refused. -/
def State.ptpEnable (s : State) (p : Nat) (on : Bool) : State :=
  let others := (List.range 256).filter fun q => q != p && s.on R.ptp_ENABLE q
  if on && decide (4 ≤ others.length) then s.resource
  else
    let s := s.setReg R.ptp_ENABLE p (b2n on)
    let s : State := if on then s else
      let was := s.tb.ptpUsable && s.tb.masters.any fun x => x.1 == p
      let s := { s with tb := { s.tb with masters := s.tb.masters.filter fun x => x.1 != p } }
      if was && s.bestPort.isNone then s.loseSource 1 else s
    s.ptpStates.ok

/-! ### REF_IN (R45 to R47) -/

/-- The rates at which REF_IN accepts a format (R45).
[DEDUCED, log 23: unsafe] -/
def refRates (format : Nat) : List (Nat × Nat) :=
  match format with
  | 1 => [(50, 1)]
  | 2 => [(60000, 1001)]
  | 3 => [(24000, 1001), (24, 1), (25, 1), (30000, 1001), (30, 1), (48000, 1001), (48, 1), (50, 1), (60000, 1001), (60, 1)]
  | 4 => [(24000, 1001), (24, 1), (25, 1), (30000, 1001), (30, 1), (50, 1), (60000, 1001), (60, 1)]
  | _ => []

/-- The phase of the frame marks of cadence `c` against a reference frame start at `t`, offset by PHASE_COMP: the smallest offset that aligns
them, timebase minus reference (R46). PHASE_COMP is subtracted from the time of the reference frame start, and of two marks equally far
the earlier is taken.
[DEDUCED, log 24: unsafe, DEDUCED, log 199: unsafe] -/
def State.refPhase (s : State) (c t : Nat) : Int :=
  let want : Int := (t : Int) - s.regI R.ref_PHASE_COMP
  let n := s.frameAt c want.toNat
  let before : Int := want - (s.markTime c n : Int)
  let after : Int := want - (s.markTime c (n + 1) : Int)
  if before.natAbs ≤ after.natAbs then before else after

/-- The line period of an accepted reference in ns (R45): between two sync edges.
[DEDUCED, log 200: unsafe] -/
def refLinePeriod (format num den : Nat) : Nat := match format with
  | 1 => 64000
  | 2 => 63556
  | 3 => den * 1000000000 / (num * 1125)
  | _ => den * 1000000000 / (num * 750)

/-- REF_IN is lost (R47): PRESENT clears, event 0x1303, and the source is lost. -/
def State.refLost (s : State) : State :=
  if s.on R.ref_PRESENT then
    let s := ((s.setReg R.ref_PRESENT 0 0).inc R.ref_LOSSES).raise 0x1303 0
    (s.loseSource 2).ptpStates
  else s

/-- A reference frame start on REF_IN (R45, R46): of a signal that REF_IN does not accept, by its format, rate or level
(R568), the reference is missing; at a rate that is not
that of the cadence, REF_IN is not usable.
[DEDUCED, log 23: unsafe, DEDUCED, log 200: unsafe, DESIGN CHOICE, log 290: unsafe] -/
def opRefInFrame (t format num den : Nat) (s : State) : State :=
  let s := s.advanceTo t
  if !(refRates format).contains (num, den) || !syncAccepted s.syncMv s.board.refOffset then (s.refLost.setReg R.ref_FORMAT 0 0).setReg R.ref_RATE_NUM 0 0
  else
    let s := (((s.setReg R.ref_FORMAT 0 format).setReg R.ref_PRESENT 0 1).setReg R.ref_RATE_NUM 0 num).setReg R.ref_RATE_DEN 0 den
    let s : State := { s with tb := { s.tb with refEdge := s.mono, refLine := refLinePeriod format num den } }
    (if s.refMatches then s.measure 2 (s.refPhase (s.reg R.ref_CADENCE) s.now) else s.loseSource 2).ptpStates

/-- REF_IN is lost 10 µs after the expected time of the first missing sync edge (R47), which lies one line after an edge received.
[DEDUCED, log 200: unsafe] -/
def opRefInLost (t : Nat) (s : State) : State :=
  let s := s.advanceTo t
  if s.tb.refEdge + s.tb.refLine + 10000 ≤ s.mono then s.refLost else s

/-- HOLDOVER has lasted HOLDOVER_LIMIT (Table 02.2), by the island counter, which no step of the time moves. -/
def opHoldoverTimeout (t : Nat) (s : State) : State :=
  let s := s.advanceTo t
  if s.reg R.tb_STATE = 3 ∧ s.tb.holdStart + s.reg R.tb_HOLDOVER_LIMIT * 1000000000 ≤ s.mono then s.setLock 0 else s

/-! ### Writes -/

/-- The preferred source takes over from an active fallback whenever it is usable (R38): event 0x1304. -/
def State.preferUsable (s : State) : State :=
  let p := s.preferred
  if s.on R.tb_ACTIVE_SOURCE && s.reg R.tb_ACTIVE_SOURCE != p && s.usable p && s.mayReturn p then s.switchSource p else s

/-- SOURCE is written: a source no longer selected hands over to another, and its counts restart; 0 returns to FREERUN (Table 02.2,
R35). The source that is now preferred becomes active if it is usable (R38). -/
def State.writeSource (s : State) (v : Nat) : State :=
  let s := s.setReg R.tb_SOURCE 0 v
  let s := s.each ([1, 2].filter fun x => !(sourcesOf v).contains x) fun s x => s.unuse x
  if v = 0 then ((s.setReg R.tb_ACTIVE_SOURCE 0 0).setLock 0).ptpStates
  else
    let a := s.reg R.tb_ACTIVE_SOURCE
    (if a = 0 ∨ (sourcesOf v).contains a then s else s.handOver a).preferUsable.ptpStates

/-- A write to SET_TIME (R31, R39, R40).
[DEDUCED, log 21: unsafe] -/
def opSetTime (w : Who) (sec ns : Nat) (s : State) : State :=
  s.writeAs w R.tb_SET_TIME 0 (decide (ns < 1000000000) && decide (sec < 2 ^ 48)) fun s =>
    if s.on R.adm_ADMITTED then s.stateError else (s.stepTime (sec * 1000000000 + ns)).ok

/-- ENABLE of cadence `c` is written 1 (R51). -/
def opCadenceEnable (w : Who) (c : Nat) (s : State) : State :=
  s.writeAs w R.cad_ENABLE c true fun s =>
    if s.on R.cad_ENABLE c then s.ok
    else
      let s := s.setReg R.cad_ENABLE c 1
      { s with tb := { s.tb with cadFrom := upd s.tb.cadFrom c fun _ => s.now + 100000 } }.ok

/-- ENABLE of cadence `c` is written 0 (R51, R573). -/
def opCadenceDisable (w : Who) (c : Nat) (s : State) : State :=
  s.writeAs w R.cad_ENABLE c true fun s =>
    if !s.on R.cad_ENABLE c then s.ok
    else if s.on R.cad_USERS c || s.pendingSets c != 0 then s.stateError
    else
      let s := s.setReg R.cad_ENABLE c 0
      let s := s.each allSlots fun s g => if s.reg R.slot_CADENCE g == c then s.stopBestEffort g else s
      s.freeVersions.schedule.ok

/-- A scheduler tick falls (R50): the time of delay-list releases is the last tick, TICK pulses on the time port (R329), and the insertions that
found DL2 full are retried (R85). -/
def opSchedulerTick (k : Nat) (s : State) : State :=
  let t := k * s.reg R.tb_TICK_NS
  if t < s.now then s
  else
    let s := s.advanceTo t
    let s := State.pulse { s with tb := { s.tb with lastTick := t } } t 0 true
    if s.sched.retry.isEmpty then s else State.schedule { s with sched := { s.sched with retry := [] } }

end Sys2Proof.Machine
end

