-- ==== Sys2Proof/Machine/Graphs.lean ====
section
/-! DEFINITION. The commands of the graph scheduler (chapter 03): loading and unloading graphs, arming, handles, completions, dispatch,
the delay lists and cut-offs, commit requests and drains. -/

namespace Sys2Proof.Machine

/-! ### Slots (R60, R94, R305) -/

/-- The handles a loaded graph names gain or lose a user (Table 03.16). -/
def State.countUsers (s : State) (g : Graph) (add : Bool) : State :=
  s.each g.handlesNamed fun s h =>
    let i := h % 65536
    s.setReg R.hdl_USERS i (if add then s.reg R.hdl_USERS i + 1 else s.reg R.hdl_USERS i - 1)

/-- COMMAND = LOAD of slot `g` (R60, R305). -/
def opGraphLoad (w : Who) (g : Nat) (s : State) : State :=
  s.writeAs w R.slot_COMMAND g true fun s =>
    if s.on R.slot_STATE g || s.sched.loading.contains g then s.stateError
    else
      let n := leAt (s.dom R.slot_IMAGE g) 32 4
      match s.paramPlace n with
      | none => s.resource
      | some x =>
        let s := (s.takeParams g x n).setReg R.slot_LOAD_RESULT g 0xFFFF
        { s with sched := { s.sched with loading := g :: s.sched.loading } }.ok

/-- The load check of slot `g` ends (R60): LOADED, or EMPTY with the code of the first failed check and event 0x5001. -/
def opLoadCheckDone (g : Nat) (s : State) : State :=
  if !s.sched.loading.contains g then s
  else
    let image := s.dom R.slot_IMAGE g
    let s := { s with sched := { s.sched with loading := s.sched.loading.filter fun x => x != g } }
    match s.loadCheck g image with
    | 0 =>
      let G := parseGraph image
      let s := { s with sched := { s.sched with graphs := tput (fun _ => {}) g G s.sched.graphs } }
      let s := ((s.setReg R.slot_STATE g 1).setReg R.slot_LOAD_RESULT g 0).setReg R.slot_CADENCE g G.cad
      let s := ((s.setReg R.slot_CLASS g (b2n (!G.guaranteed))).setReg R.slot_NODES g G.nodes.length).setReg R.slot_DIGEST g G.crc
      (s.countUsers G true).putParams g G.params
    | code => ((s.dropParams g).setReg R.slot_LOAD_RESULT g code).raise 0x5001 (g + code * 256)

/-- An armed member names slot `g` in any role (R94). -/
def State.named (s : State) (g : Nat) : Bool := s.armed.any fun m => m.names g

/-- A graph member is armed for slot `g`'s TARGET_FRAME, with the epoch of the admitted graph it starts (R55, R94, R105): the reply is the
frame used, which TARGET_FRAME then holds. -/
def State.armGraph (s : State) (g : Nat) (m : Member) : State :=
  let c := s.reg R.slot_CADENCE g
  let f := s.armFrame c (s.reg R.slot_TARGET_FRAME g)
  let s := match m.starts with
    | some b => if s.on R.sadm_STATE b then s.armEpoch c f b true else s
    | none => s
  ((s.armMember c f m).setReg R.slot_TARGET_FRAME g f).answerWith (leBytes 8 f)

/-- R100: an OP node's MAX_RUN above BE_MAX_RUN of its operator. -/
def State.runsTooLong (s : State) (g : Nat) : Bool :=
  !(s.graph g).guaranteed && (s.graph g).nodes.any fun v => v.kind == 0 && decide (s.reg R.opr_BE_MAX_RUN v.operator < v.maxRun)

/-- Worst-case DL0 and DL3 entries of a best-effort graph (R116). -/
def Graph.bestEffortCharge (g : Graph) : Nat × Nat :=
  (4 * (g.nodes.filter fun v => v.kind == 1).length, ((g.nodes.filter fun v => v.kind == 0).map NodeRec.operator).eraseDups.length)

/-- R116 for ARM_START of slot `g`: DL0 and DL3 hold the guaranteed charges and every RUNNING best-effort graph's. -/
def State.delayRoom (s : State) (g : Nat) : Bool :=
  let ms := s.admittedSlots.flatMap s.models
  let be := (g :: allSlots.filter fun x => s.running x && !(s.graph x).guaranteed).map fun x => (s.graph x).bestEffortCharge
  (s.graph g).guaranteed ||
    (decide (delayCharge ms 0 + (be.map Prod.fst).sum ≤ 4096) && decide (delayCharge ms 3 + (be.map Prod.snd).sum ≤ 4096))

/-- COMMAND = ARM_START of slot `g` (R94, R100, R116, R573). -/
def opArmStart (w : Who) (g : Nat) (s : State) : State :=
  s.writeAs w R.slot_COMMAND g true fun s =>
    if s.reg R.slot_STATE g ≠ 1 ∨ s.named g ∨ !s.on R.cad_ENABLE (s.reg R.slot_CADENCE g) ∨ s.runsTooLong g then s.stateError
    else if !s.delayRoom g then s.resource
    else s.armGraph g (.graphStart g)

/-- Another RUNNING graph, or one being started, reads a buffer of slot `g` as EXTERNAL (R95). -/
def State.readElsewhere (s : State) (g : Nat) : Bool :=
  let made := ((s.graph g).bufs.filter fun b => !b.external).map BufferRec.handle
  allSlots.any fun x => x != g && (s.running x || s.armed.any fun m => m.starts == some x) &&
    (s.graph x).bufs.any fun b => b.external && made.contains b.handle

/-- COMMAND = ARM_STOP of slot `g` (R94, R95, R573). -/
def opArmStop (w : Who) (g : Nat) (s : State) : State :=
  s.writeAs w R.slot_COMMAND g true fun s =>
    if s.reg R.slot_STATE g ≠ 2 ∨ s.named g ∨ !s.on R.cad_ENABLE (s.reg R.slot_CADENCE g) ∨ s.readElsewhere g then s.stateError
    else s.armGraph g (.graphStop g)

/-- COMMAND = ARM_SWITCH of slot `g` to SWITCH_TO (R94, R573). -/
def opArmSwitch (w : Who) (g : Nat) (s : State) : State :=
  s.writeAs w R.slot_COMMAND g true fun s =>
    let b := s.reg R.slot_SWITCH_TO g
    if s.reg R.slot_STATE g ≠ 2 ∨ b = g ∨ s.named g ∨ s.named b ∨ !s.on R.cad_ENABLE (s.reg R.slot_CADENCE g) then s.stateError
    else s.armGraph g (.graphSwitch g b)

/-- COMMAND = UNLOAD of slot `g` (R94, R104, R305): its admission goes first.
[DEDUCED, log 45: unsafe] -/
def opUnload (w : Who) (g : Nat) (s : State) : State :=
  s.writeAs w R.slot_COMMAND g true fun s =>
    if s.reg R.slot_STATE g ≠ 1 then s.stateError
    else
      let s := if s.on R.sadm_STATE g then s.releaseAdmission g else s
      let s := ((s.countUsers (s.graph g) false).dropParams g).setReg R.slot_STATE g 0
      { s with sched := { s.sched with graphs := tput (fun _ => {}) g {} s.sched.graphs } }.ok

/-- COMMAND = DISARM of slot `g` (R94): the member goes, with the epoch that R105 added for the slot it starts. -/
def opGraphDisarm (w : Who) (g : Nat) (s : State) : State :=
  s.writeAs w R.slot_COMMAND g true fun s =>
    if s.sched.loading.contains g then s.stateError
    else match s.armed.find? fun m => m.from g with
      | none => s.stateError
      | some m =>
        let s := s.dropMembers fun x => x == m || (match m.starts with | some b => x == .epoch b true | none => false)
        ((Member.epoch 0 true).cancel s).ok

/-! ### Handles (R62, R63, R99, R221, R256, R304) -/

/-- The byte intervals of a definition: its slots, and its mirror range.
[DEDUCED, log 41: unsafe] -/
def HandleDef.intervals (d : HandleDef) : List (Nat × Nat) :=
  ((List.range d.slots).map fun j => (d.base + j * d.stride, d.base + j * d.stride + d.size)) ++
    if d.mirror = 0 then [] else [(d.mirror, d.mirror + d.span)]

/-- Two interval lists share a byte. -/
def intervalsMeet (a b : List (Nat × Nat)) : Bool := a.any fun x => b.any fun y => decide (x.1 < y.2) && decide (y.1 < x.2)

/-- A byte interval overlaps a retired page (R256). -/
def State.intervalRetired (s : State) (x : Nat × Nat) : Bool :=
  (List.range (ceilDiv x.2 (2 ^ 17) - x.1 / 2 ^ 17)).any fun k => s.pageRetired (x.1 / 2 ^ 17 + k)

/-- The values of a DEFINE that R63, R221, R256 and R304 accept.
[DEDUCED, log 41: unsafe, DEDUCED, log 42: unsafe] -/
def State.defineOk (s : State) (i : Nat) (d : HandleDef) : Bool :=
  let own := (List.range d.slots).map fun j => (d.base + j * d.stride, d.base + j * d.stride + d.size)
  let others := (s.sched.handles.filter fun p => p.1 != i && p.2.slots != 0).flatMap fun p => p.2.intervals
  decide (1 ≤ d.slots) && decide (d.slots ≤ 16) && d.size != 0 && d.base % 32 == 0 && d.stride % 32 == 0 &&
  (d.slots == 1 || decide (d.size ≤ d.stride)) && decide (d.base + d.span ≤ frameStoreEnd) && !intervalsMeet own others &&
  !s.intervalRetired (d.base, d.base + d.span) &&
  (d.mirror == 0 ||
    (decide (d.mirror + d.span ≤ frameStoreEnd) && ((d.mirror + 256 - d.base % 256) % 256) % 64 == 0 &&
      (d.mirror + 256 - d.base % 256) % 256 != 0 && !intervalsMeet [(d.mirror, d.mirror + d.span)] (others ++ [(d.base, d.base + d.span)]) &&
      !s.intervalRetired (d.mirror, d.mirror + d.span)))

/-- The definition written to subindices .2 to .6 of entry `i`.
[DEDUCED, log 42: unsafe] -/
def State.writtenDef (s : State) (i : Nat) : HandleDef :=
  ⟨s.reg R.hdl_BASE i, s.reg R.hdl_STRIDE i, s.reg R.hdl_SLOTS i, s.reg R.hdl_SIZE i, s.reg R.hdl_MIRROR_BASE i⟩

/-- What remains of the handle that entry `i` held: its versions go. -/
def State.forgetHandle (s : State) (i : Nat) : State :=
  { s with sched := { s.sched with versions := s.sched.versions.filter fun v => v.handle % 65536 != i } }

/-- DEFINE = 1 of entry `i` (R62, R63). -/
def opHandleDefine (w : Who) (i : Nat) (s : State) : State :=
  s.writeAs w R.hdl_DEFINE i (s.defineOk i (s.writtenDef i)) fun s =>
    let d := s.writtenDef i
    let gen := tget (fun _ => 0) s.sched.generation i
    let mirrored := (s.sched.handles.filter fun p => p.1 != i && p.2.mirror != 0).length
    if s.on R.hdl_USERS i then s.stateError
    else if 65535 ≤ gen ∨ (d.mirror ≠ 0 ∧ 1024 ≤ mirrored) then s.resource
    else
      let s := ((s.forgetHandle i).clearStale i).setReg R.hdl_HANDLE i ((gen + 1) * 65536 + i)
      { s with sched := { s.sched with generation := tput (fun _ => 0) i (gen + 1) s.sched.generation
                                       handles := tput (fun _ => {}) i d s.sched.handles } }.ok

/-- DEFINE = 2 of entry `i` (R62, R99). -/
def opHandleRelease (w : Who) (i : Nat) (s : State) : State :=
  s.writeAs w R.hdl_DEFINE i true fun s =>
    if !s.on R.hdl_HANDLE i || s.on R.hdl_USERS i then s.stateError
    else
      let s := (s.forgetHandle i).setReg R.hdl_HANDLE i 0
      { s with sched := { s.sched with handles := tput (fun _ => {}) i {} s.sched.handles, stale := tput (fun _ => {}) i {} s.sched.stale } }.ok

/-! ### Completions and dispatch -/

/-- The scheduler receives a completion from operator `o` (R75, R89), which is processed with the others of its cycle (Table 03.13). Of a fabric
port it receives what the port has forwarded (R336).
[DEDUCED, log 258: unsafe] -/
def opOperationCompletion (t o tag status : Nat) (s : State) : State :=
  let s := s.advanceTo t
  let x := (o, tag, status)
  if decide (96 ≤ o) && !s.fabric.forwarded.contains x then s
  else
    let s : State := { s with fabric := { s.fabric with forwarded := s.fabric.forwarded.erase x } }
    State.takeArrived { s with sched := { s.sched with arrived := insertArrived x s.sched.arrived } }

/-- Dispatch to operator `o` (R80). -/
def opDispatch (o : Nat) (s : State) : State := s.dispatch o

/-! ### Delay lists and cut-offs (R83, R85, R87, R89) -/

/-- The time of the last scheduler tick. -/
def State.tickTime (s : State) : Nat := s.tb.lastTick

/-- The first entry of a list that is due at the last tick. -/
def State.dueHead (s : State) (l : List DlEntry) : Option DlEntry :=
  match l with
  | x :: _ => if x.time ≤ s.tickTime then some x else none
  | [] => none

/-- The tick at which a delay-list entry falls due (R83). -/
def State.dueTick (s : State) (x : DlEntry) : Nat := ceilDiv x.time (s.reg R.tb_TICK_NS)

/-- The delay-list entry released next, with the number of its list (R83): of the ticks with releases left, the earliest comes first; at one
tick DL0, then DL3, then DL1, then DL2.
[DEDUCED, log 203: unsafe] -/
def State.nextRelease (s : State) : Option (Nat × DlEntry) :=
  [(0, s.dueHead s.sched.dl0), (3, s.dueHead s.sched.dl3), (1, s.dueHead s.sched.dl1), (2, s.dueHead s.sched.dl2)].foldl (fun best p =>
    match best, p.2 with
    | none, some x => some (p.1, x)
    | some b, some x => if s.dueTick x < s.dueTick b.2 then some (p.1, x) else best
    | _, none => best) none

/-- A due DL0 cut-off is processed in its turn (R83, R87). -/
def opCutoffExpiry (s : State) : State :=
  match s.nextRelease with
  | some (0, x) => s.processCutoff x
  | _ => s

/-- The due head of the overflow list is processed (R85). -/
def opOverflowListCutoff (s : State) : State :=
  match s.dueHead s.sched.overflow with
  | some x => s.processCutoff x
  | none => s

/-- The scan of the node frame table processes a cut-off held only there, at or after its time (R85). -/
def opFrameTableScanCutoff (t : Nat) (s : State) : State :=
  let s := s.advanceTo t
  match s.sched.tableOnly with
  | x :: _ => if x.time ≤ s.now then s.processCutoff x else s
  | [] => s

/-- A due DL3 timer orders its operator to abandon the operation, in its turn (R83, R89). -/
def opMaxRunAbort (s : State) : State :=
  match s.nextRelease with
  | some (3, x) =>
    let s := { s with sched := { s.sched with dl3 := dlRemove x.node x.frame s.sched.dl3 } }
    s.onOp x.node x.frame fun o => if o.state == .active then { o with aborting := true } else o
  | _ => s

/-- A due operation leaves its delay list for READY. -/
def State.releaseDelayed (s : State) (x : DlEntry) : State :=
  let s := { s with sched := { s.sched with dl1 := dlRemove x.node x.frame s.sched.dl1, dl2 := dlRemove x.node x.frame s.sched.dl2 } }
  match s.sched.ops.find? fun o => o.node == x.node && o.frame == x.frame with
  | some o => (s.toReady o false).schedule
  | none => s

/-- A best-effort operation may enter its ready list (R114). -/
def State.mayEnter (s : State) (x : DlEntry) : Bool :=
  let v := s.nodeRec x.node
  v.kind != 0 || s.beRoom v.operator || !s.operatorPresent v.operator

/-- A due DL1 or DL2 entry is released in its turn (R83). A best-effort operation without room in its ready list goes back to STAGED (R114). -/
def opDelayListRelease (s : State) : State :=
  match s.nextRelease with
  | some (1, x) => s.releaseDelayed x
  | some (2, x) =>
    if s.mayEnter x then s.releaseDelayed x
    else
      let s := { s with sched := { s.sched with dl2 := dlRemove x.node x.frame s.sched.dl2, waited := (x.node, x.frame) :: s.sched.waited } }
      s.onOp x.node x.frame fun o => { o with state := .staged }
  | _ => s

/-! ### Commit requests and drains -/

/-- A commit request reaches the scheduler (R84, R87): the answer is 1 when it is accepted, 0 when it is refused. -/
def opCommitRequest (flow frame stamp : Nat) (s : State) : State :=
  match s.commitRequest flow frame stamp with
  | (s, ok) => s.answerWith (leBytes 1 (b2n ok))

/-- The last operation of a DRAINING graph has retired (R96): the slot is LOADED again, its flows CONFIGURED, event 0x5003.
[DEDUCED, log 46: unsafe] -/
def opGraphDrained (g : Nat) (s : State) : State :=
  if s.reg R.slot_STATE g ≠ 3 || s.sched.ops.any fun o => slotOf o.node == g then s
  else ((((s.setReg R.slot_STATE g 1).unbindFlows g).refreshFlows).freeVersions).raise 0x5003 g

end Sys2Proof.Machine
end

