-- ==== Sys2Proof/Machine/Slices.lean ====
section
/-! DEFINITION. The commands of the scratchpad slices (chapter 10): bank accesses, scrubbing, and wipes of the secure region. -/

namespace Sys2Proof.Machine

/-! ### Bank accesses (R306, R307, R310, R312) -/

/-- Bank `b` of slice `k` serves its oldest entry (R307): the read data is the answer, status 7 for poison. During a wipe the secure entries
wait (R312).
[DESIGN CHOICE, log 85: unsafe] -/
def opSliceBankAccess (k b : Nat) (s : State) : State :=
  let s := s.silent
  let mine := s.bankEntries k b
  match mine.find? fun r => !(s.scratch.wiping && padSecure r) with
  | none => s
  | some r =>
    let s := s.leavePad k r (mine.length - 1)
    if r.write then s.scratchWrite (padWord r) r.data r.mask r.poison
    else match s.padRead k r with
      | (s, some d) => s.answerWith (leBytes 32 d)
      | (s, none) => s.resource

/-! ### Scrubbing (R309) -/

/-- Global bank `b` has scrubbed its last row; when every bank has, the pass is complete. -/
def State.bankPassed (s : State) (b : Nat) : State :=
  let l := b :: s.scratch.passed.filter fun x => x != b
  if l.length < 512 then { s with scratch := { s.scratch with passed := l } }
  else
    let s := (s.inc R.sp_SCRUB_PASSES).setReg R.sp_PASS_US 0 ((s.mono - s.scratch.passStart.getD s.mono) / 1000)
    { s with scratch := { s.scratch with passed := [], passStart := some s.mono } }

def State.setWriteBack (s : State) (b : Nat) (w : Option WriteBack) : State :=
  { s with scratch := { s.scratch with writeBack := tput (fun _ => none) b w s.scratch.writeBack } }

/-- The next scrub access of a bank comes 1,024 slice cycles, of 1 ns, after the last (R309). -/
def State.nextPadScrub (s : State) (b : Nat) : State :=
  let s := s.waitUntil (tget (fun _ => 0) s.scratch.scrubDue b)
  { s with scratch := { s.scratch with scrubDue := tput (fun _ => 0) b (s.mono + 1024) s.scratch.scrubDue } }

/-- One scrub access of global bank `b` (R309, R247): a pending write-back, else a read of its next row; only while ACTIVE, and not while the
bank is being wiped (R312). The entries that wait for the bank wait one cycle more (R307). -/
def opScratchpadScrubAccess (b : Nat) (s : State) : State :=
  let n := 128 + b / 32
  if !s.dataRuns ∨ s.on R.pow_STATE ∨ s.scratch.wiping then s
  else
    let s := s.nextPadScrub b
    let s : State := { s with scratch := { s.scratch with passStart := some (s.scratch.passStart.getD s.mono) } }
    let s := s.add R.sp_BANK_CONFLICTS 0 (s.bankEntries (b / 32) (b % 32)).length
    match tget (fun _ => none) s.scratch.writeBack b with
    | some w =>
      let s := (s.setWriteBack b none).putScratch (w.addr / 32) w.word
      let a := scratchBase + w.addr
      if w.poison then ((s.inc R.mlog_SCRUB_POISONED n).logFinding n (s.finding a w.found 2 0x3F 0 true)).raiseX 0x3103 n (a / 32)
      else s.inc R.mlog_SCRUB_CORRECTED n
    | none =>
      let row := tget (fun _ => 0) s.scratch.scrubRow b
      let w := scratchOffset b row / 32
      let a := scratchBase + w * 32
      let c := s.scratchWord w
      let s : State := { s with scratch := { s.scratch with scrubRow := tput (fun _ => 0) b ((row + 1) % 4096) s.scratch.scrubRow } }
      let s : State := match decodeWord c none with
        | .clean _ => s
        | .poison => s.inc R.mlog_POISON_READS n
        | .corrected d j e => (s.logFinding n (s.finding a c 0 j e true)).setWriteBack b (some ⟨w * 32, encodeWord d, false, c⟩)
        | .uncorrectable => (s.logFinding n (s.finding a c 1 0x3F 0 true)).setWriteBack b (some ⟨w * 32, poisonWord, true, c⟩)
      if row = 4095 then s.bankPassed b else s

/-! ### Wipes (R311 to R313) -/

/-- A trigger (0 TAMPER_N, 1 sensor, 2 life-cycle) starts a wipe, or adds its cause to the one in progress; in NIGHT the scratchpad holds nothing. -/
def State.wipe (s : State) (cause : Nat) : State :=
  if s.phase = .night then s
  else
    let causes := (if s.scratch.wiping then s.scratch.wipeCause else 0) ||| 2 ^ cause
    { s with scratch := { s.scratch with wiping := true, wipeCause := causes, wipeStart := if s.scratch.wiping then s.scratch.wipeStart else s.mono,
                                         writeBack := s.scratch.writeBack.filter fun p => p.2.elim true fun w => decide (w.addr < secureOfs) } }

/-- The wipe completes, after 64 slice cycles at least (R311). -/
def opWipeComplete (t : Nat) (s : State) : State :=
  let s := s.advanceTo t
  if !s.scratch.wiping then s else s.endWipe

end Sys2Proof.Machine
end

