-- ==== Sys2Proof/Machine/Ingress.lean ====
section
/-! DEFINITION. Ingress of the stream engine (R129 to R150, R160): the classifier, frame assignment, the sequence window, storage,
completion and close, the ST 2022-7 legs, SDI ingest. -/

namespace Sys2Proof.Machine

/-! ### Arithmetic of media clocks and sequence numbers -/

/-- The media clock value of an instant at 90 kHz (R136). -/
def mediaClock (t : Nat) : Nat := t * 90000 / 1000000000 % 2 ^ 32

/-- Sample tick `m` (R50). -/
def sampleTick (m : Nat) : Nat := ceilDiv (m * 62500) 3

/-- The first sample tick at or after `t`. -/
def sampleFrom (t : Nat) : Nat := if t = 0 then 0 else 3 * (t - 1) / 62500 + 1

/-- H of R136 on cadence `c`. -/
def State.halfFrame (s : State) (c : Nat) : Nat :=
  let p := s.periodRatio c
  ceilDiv (90000 * p.1) (2 * p.2 * 1000000000)

/-- The frame a timestamp of a 90 kHz kind names near the present time (R136): the lower of two; else whether it lies behind. -/
def State.frameOfStamp (s : State) (c ts : Nat) (ofs : Int) : Option Nat × Bool :=
  let n0 := s.frameAt c s.now
  let d (n : Nat) : Int := toSigned 32 (ofSigned 32 ((ts : Int) - ofs - (mediaClock (s.markTime c n) : Int)))
  let h : Int := (s.halfFrame c : Nat)
  let p := s.periodRatio c
  let q : Int := (d n0 * (1000000000 * p.2 : Nat)) / ((90000 * p.1 : Nat) : Int)
  let cands := ([q - 1, q, q + 1, q + 2].map fun k => (n0 : Int) + k).filter fun k => decide (0 ≤ k)
  ((cands.map Int.toNat).find? fun n => decide (-h ≤ d n) && decide (d n < h), decide (d n0 < 0))

/-- The sample tick of a 48 kHz kind's first sample: the tick nearest the present time with these low 32 bits (R136). -/
def State.tickOfStamp (s : State) (ts : Nat) (ofs : Int) : Nat :=
  let m0 : Nat := (s.now * 6 + 62500) / 125000
  let want := ofSigned 32 ((ts : Int) - ofs)
  let k : Int := toSigned 32 (ofSigned 32 ((want : Int) - (m0 : Int)))
  ((m0 : Int) + k).toNat

/-- A 16-bit sequence number extended to the 32-bit value nearest SEQ, the smaller of two (R137). -/
def extendSeq (seq : Option Nat) (n16 : Nat) : Nat :=
  match seq with
  | none => n16
  | some q =>
    let k : Int := (n16 : Int) - (q % 65536 : Nat)
    let k : Int := if 32768 ≤ k then k - 65536 else if k < -32768 then k + 65536 else k
    ofSigned 32 ((q : Int) + k)

/-- Where a number lies against the sequence window (R137). -/
inductive WindowPos where
  | first | above | fill | duplicate | below
  deriving DecidableEq, Repr

def FlowRun.position (r : FlowRun) (n : Nat) : WindowPos :=
  match r.seq with
  | none => .first
  | some q =>
    let ahead := ofSigned 32 ((n : Int) - (q : Int))
    if ahead ≠ 0 ∧ ahead < 2 ^ 31 then .above
    else if ofSigned 32 ((q : Int) - (n : Int)) < 1024 then (if r.written.contains n then .duplicate else .fill)
    else .below

/-- The number is written: it moves the window when above SEQ.
[DEDUCED, log 66: unsafe] -/
def FlowRun.accept (r : FlowRun) (n : Nat) : FlowRun :=
  let q := match r.position n with
    | .first | .above => n
    | _ => r.seq.getD n
  { r with seq := some q, written := (n :: r.written).filter fun x => decide (ofSigned 32 ((q : Int) - (x : Int)) < 1024) }

/-- The number is written to a version: the version's lowest and highest numbers and their count (R137); what a leg brought out of bounds has then
come correctly (R141). -/
def InFrame.number (v : InFrame) (n : Nat) : InFrame :=
  let b := v.first.getD n
  let d : Int := toSigned 32 (ofSigned 32 ((n : Int) - (b : Int)))
  { v with first := some b, lo := min v.lo d, hi := max v.hi d, count := v.count + 1, spilled := v.spilled.filter fun x => x != n }

/-- A range joins a list of disjoint ascending ranges [start, end); ranges that touch merge. -/
def addRange : Nat × Nat → List (Nat × Nat) → List (Nat × Nat)
  | r, [] => [r]
  | r, x :: t =>
    if r.2 < x.1 then r :: x :: t
    else if x.2 < r.1 then x :: addRange r t
    else addRange (min r.1 x.1, max r.2 x.2) t

/-- Whether [start, end) meets a listed range. -/
def meetsRange (r : Nat × Nat) (l : List (Nat × Nat)) : Bool := l.any fun x => decide (r.1 < x.2) && decide (x.1 < r.2)

def InFrame.row (v : InFrame) (r : Nat) : List (Nat × Nat) := tget (fun _ => []) v.cover r

def InFrame.addCover (v : InFrame) (row : Nat) (r : Nat × Nat) : InFrame :=
  { v with cover := tput (fun _ => []) row (addRange r (v.row row)) v.cover }

/-! ### Commit and close (R138, R139) -/

/-- The engine's close and commit request for version `n` of flow `f`: once its last packet has arrived on every leg that counts, it
closes; once it is closed and complete, the request is sent, stamped now. -/
def State.evaluate (s : State) (f n : Nat) : State :=
  match s.inFrame? f n with
  | none => s
  | some v =>
    let counting := [0, 1].filter fun l => s.on R.flow_PAIRED f && (s.reg R.flow_LEG_STATE f).testBit l
    let closes := !v.markers.isEmpty && (!s.on R.flow_PAIRED f || counting.all fun l => v.markers.any fun m => m.1 == l)
    let closed : Option Nat := if v.closed.isNone && closes then some s.now else v.closed
    let s := s.onInFrame f n fun v => { v with closed := closed }
    if closed.isSome && v.complete && !v.requested then
      ((s.onInFrame f n fun v => { v with requested := true, ready := some s.now }).commitRequest f n s.now).1
    else s

/-- The last packet of version `n` arrives on a leg. -/
def State.lastArrived (s : State) (f n leg : Nat) : State :=
  (s.onInFrame f n fun v =>
    if v.markers.any fun m => m.1 == leg then v else { v with markers := v.markers ++ [(leg, s.now)] }).evaluate f n

/-- A leg goes UP at its packet (R142). -/
def State.legSeen (s : State) (f leg : Nat) : State :=
  let s := s.onFlow f fun r => { r with legSeen := (leg, s.now) :: r.legSeen.filter fun p => p.1 != leg }
  if (s.reg R.flow_LEG_STATE f).testBit leg then s
  else (s.setReg R.flow_LEG_STATE f (putBit (s.reg R.flow_LEG_STATE f) leg true)).raise 0x2204 (f + leg * 2 ^ 18)

/-- A leg goes DOWN (R142): it stops counting for the closes awaited. -/
def State.legDown (s : State) (f leg : Nat) : State :=
  if !(s.reg R.flow_LEG_STATE f).testBit leg then s
  else
    let s := (s.setReg R.flow_LEG_STATE f (putBit (s.reg R.flow_LEG_STATE f) leg false)).raise 0x2203 (f + leg * 2 ^ 18)
    s.each ((s.flowRun f).frames.filter fun v => !v.markers.isEmpty) fun s v => s.evaluate f v.frame

/-- A paired ingress flow that is BOUND or PAUSED. -/
def State.legged (s : State) (f : Nat) : Bool :=
  s.on R.flow_PAIRED f && s.reg R.flow_DIR f == 0 && decide (2 ≤ s.reg R.flow_STATE f) && !s.isPeer f

/-- MERGE_WINDOW after the first arrival of the last packet, the version closes (R139). -/
def opMergeWindowExpiry (t f n : Nat) (s : State) : State :=
  let s := s.advanceTo t
  match s.inFrame? f n with
  | none => s
  | some v =>
    match v.markers with
    | [] => s
    | m :: ms =>
      let first := (ms.map Prod.snd).foldl min m.2
      if v.closed.isNone && decide (first + s.reg R.flow_MERGE_WINDOW f * 1000 ≤ s.now) then
        (s.onInFrame f n fun v => { v with closed := some s.now }).evaluate f n
      else s

/-- LEG_TIMEOUT without a packet of the flow on a leg (R142). -/
def opLegTimeout (t f leg : Nat) (s : State) : State :=
  let s := s.advanceTo t
  if s.legged f && (s.flowRun f).legSeen.any fun p => p.1 == leg && decide (p.2 + s.reg R.flow_LEG_TIMEOUT f * 1000000 ≤ s.now) then
    s.legDown f leg
  else s

/-- LINK of port `p` follows its lanes (R128, R382): UP exactly while the port is enabled and every lane of it is UP. A port that comes UP
reports its groups (R129). -/
def State.portRefresh (s : State) (p : Nat) : State :=
  let lanes := s.portLanes p
  let up := s.on R.eth_ENABLE p && !lanes.isEmpty && lanes.all fun l => s.reg R.lane_STATE l == 11
  if up && !s.on R.eth_LINK p then (((s.setReg R.eth_LINK p 1).inc R.eth_UP_COUNT p).raise 0x2101 p).reportGroups p (s.flowsOn p)
  else if !up && s.on R.eth_LINK p then
    let s := (s.setReg R.eth_LINK p 0).raise 0x2102 p
    let s := s.onPtp p fun x => { x with downAt := s.mono }
    s.each ((s.flowsOn p).filter s.legged) fun s f =>
      let s := if s.reg R.flow_PORT_A f = p then s.legDown f 0 else s
      if s.reg R.flow_PORT_B f = p then s.legDown f 1 else s
  else s

/-! ### Video (R138, R141, R144) -/

/-- A version's write is out of bounds (R141): counted, event 0x2201 once per frame. -/
def State.outOfBounds (s : State) (f n : Nat) : State :=
  let s := s.inc R.flow_BOUNDS f
  match s.inFrame? f n with
  | some v => if v.bounds then s else (s.onInFrame f n fun v => { v with bounds := true }).raise 0x2201 f
  | none => s

/-- Packet number `num` of version `n` is out of bounds: the version cannot become complete unless the other leg brings the packet within them
(R141). -/
def State.spill (s : State) (f n num : Nat) : State :=
  let s := s.outOfBounds f n
  if (s.flowRun f).written.contains num then s
  else s.onInFrame f n fun v => { v with spilled := num :: v.spilled.filter fun x => x != num }

/-- Nothing keeps a version from becoming complete: no write was lost (R297), and no packet was out of bounds on every leg (R141). -/
def InFrame.sound (v : InFrame) : Bool := !v.broken && v.spilled.isEmpty

/-- Where a sample row data header writes in picture `b`: storage row, byte offset and length; none out of bounds (R141, R144).
[DEDUCED, log 55: unsafe] -/
def placeRow (b : BufferRec) (d : Srd) : Option (Nat × Nat × Nat) :=
  let gb := fmtGroup b.format
  let cw := fmtCoverH b.format
  let uh := fmtCoverV b.format
  let o := d.offset / cw * gb
  if d.line < b.height ∧ d.line % uh = 0 ∧ d.offset % cw = 0 ∧ d.length % gb = 0 ∧ o + d.length ≤ fmtRowBytes b.format b.width ∧
      d.line / uh * b.pitch + o + d.length ≤ b.size then
    some (d.line / uh, o, d.length)
  else none

/-- Every header of a packet placed, or none.
[DEDUCED, log 55: unsafe] -/
def placeRows (b : BufferRec) : List Srd → Option (List (Nat × Nat × Nat))
  | [] => some []
  | d :: t => match placeRow b d, placeRows b t with
    | some x, some l => some (x :: l)
    | _, _ => none

/-- Zeros from byte `lo` to byte `hi` of a slot. -/
def State.zeroFill (s : State) (addr lo hi : Nat) : State := s.writeBytes (addr + lo) (List.replicate (hi - lo) 0)

/-- A complete picture's padding is written as zero (R144). -/
def State.padPicture (s : State) (addr : Nat) (b : BufferRec) : State :=
  let rb := fmtRowBytes b.format b.width
  let rows := b.height / fmtCoverV b.format
  let s := s.each (List.range rows) fun s r => s.zeroFill addr (r * b.pitch + rb) (r * b.pitch + b.pitch)
  s.zeroFill addr (rows * b.pitch) b.size

/-- Every row of a picture has been written across its width. -/
def InFrame.pictureFull (v : InFrame) (b : BufferRec) : Bool :=
  (List.range (b.height / fmtCoverV b.format)).all fun r => v.row r == [(0, fmtRowBytes b.format b.width)]

/-- Placed pieces of a packet are written. -/
def State.writePlaced (s : State) (f n : Nat) (b : BufferRec) : List (Nat × Nat × Nat) → List Byte → State
  | [], _ => s
  | (r, o, k) :: t, data =>
    let s : State := match s.inFrame? f n with
      | some v => if k = 0 then s else (s.writeBytes (v.addr + r * b.pitch + o) (data.take k)).onInFrame f n fun v => v.addCover r (o, o + k)
      | none => s
    s.writePlaced f n b t (data.drop k)

/-- A picture that has become complete is padded and marked. -/
def State.finishPicture (s : State) (f n : Nat) (b : BufferRec) : State :=
  match s.inFrame? f n with
  | some v => if !v.complete && v.sound && v.pictureFull b then (s.padPicture v.addr b).onInFrame f n fun v => { v with complete := true } else s
  | none => s

/-- A packet ends its version (R138): the marker of the second field. On a cadence that is not interlaced a PsF sender marks both of its
segments and a progressive one the picture's last packet, so that there the marker on the last storage row counts too.
[DEDUCED, log 211: unsafe] -/
def lastPacket (inter : Bool) (b : BufferRec) (d : Datagram) : Bool :=
  d.marker && (match d.srds.getLast? with
    | some x => x.field2 || (!inter && x.line / fmtCoverV b.format + 1 == b.height / fmtCoverV b.format)
    | none => false)

/-- A KIND 0 packet for the open version `n` (R137 to R144). The last packet's copy closes the version on its leg even where its number
lies below the window (R139). -/
def State.ingestVideo (s : State) (f n leg : Nat) (b : BufferRec) (d : Datagram) : State :=
  let last := lastPacket (s.on R.cad_INTERLACED (s.graph (s.flowRun f).slot).cad) b d
  let num := d.extSeq % 65536 * 65536 + d.seq % 65536
  match (s.flowRun f).position num with
  | .duplicate =>
    let s := s.inc R.flow_DUPLICATES f
    if last then s.lastArrived f n leg else s
  | .below =>
    let s := s.inc R.flow_LATE f
    if last then s.lastArrived f n leg else s
  | _ =>
    match placeRows b d.srds with
    | none => s.spill f n num
    | some places =>
      let s := (s.onFlow f fun r => r.accept num).onInFrame f n fun v => v.number num
      let s := (s.inc R.flow_PACKETS f).writePlaced f n b places d.payload
      let s := s.finishPicture f n b
      if last then s.lastArrived f n leg else s.evaluate f n

/-! ### Audio (R136, R145) -/

/-- Sample ticks of frame `n`: the first and how many. -/
def State.frameSamples (s : State) (c n : Nat) : Nat × Nat :=
  let a := sampleFrom (s.markTime c n)
  (a, sampleFrom (s.markTime c (n + 1)) - a)

/-- Bytes of a sample and samples of a packet, from its length: 1 ms or 125 µs of L16 or L24 (KIND 1) or AES3 subframes (KIND 2).
[DEDUCED, log 272: unsafe] -/
def audioShape (kind ch len : Nat) : Option (Nat × Nat) :=
  (if kind = 1 then [(2, 48), (3, 48), (2, 6), (3, 6)] else [(4, 48), (4, 6)]).find? fun p => p.1 * p.2 * ch == len

/-- The stored word of a sample: sign-extended from its big-endian bytes, or the four bytes as received. -/
def audioWord (kind : Nat) (l : List Byte) : List Byte :=
  if kind = 1 then leBytes 4 (ofSigned 32 (toSigned (8 * l.length) (ofLe l.reverse))) else l

/-- A complete audio version's header, and zeros after the last sample (R145). -/
def State.finishAudio (s : State) (f n ch : Nat) (b : BufferRec) (first count : Nat) : State :=
  match s.inFrame? f n with
  | some v =>
    if !v.complete && v.sound && v.row 0 == [(0, count)] then
      let head := leBytes 8 first ++ leBytes 2 count ++ leBytes 1 ch ++ List.replicate 21 0
      ((s.writeBytes v.addr head).zeroFill v.addr (32 + 4 * ch * count) b.size).onInFrame f n fun v => { v with complete := true }
    else s
  | none => s

/-- Samples from tick `m` on, for the frame `n` of those that are in it. -/
def State.writeSamples (s : State) (f c n num : Nat) (kind ch size m : Nat) (data : List Byte) : State :=
  let fs := s.frameSamples c n
  let total := data.length / (size * ch)
  let lo := max m fs.1
  let hi := min (m + total) (fs.1 + fs.2)
  match s.inFrame? f n with
    | none => s
    | some v =>
      let words := (List.range ((hi - lo) * ch)).flatMap fun i => audioWord kind (slice data (((lo - m) * ch + i) * size) size)
      let s := s.writeBytes (v.addr + 32 + 4 * ch * (lo - fs.1)) words
      let s := s.onInFrame f n fun v => (v.addCover 0 (lo - fs.1, hi - fs.1)).number num
      let was := v.complete
      let s := s.finishAudio f n ch v.buf fs.1 fs.2
      match s.inFrame? f n with
      | some v => if v.complete && !was then s.onInFrame f n fun v => { v with markNum := some num } else s
      | none => s

/-- A packet, or `k` samples of one, of frame `n` whose version is not open: EARLY or LATE (R136); EARLY where the binding has opened none.
[DEDUCED, log 212: unsafe, DESIGN CHOICE, log 240: unsafe] -/
def State.notOpen (s : State) (f n k : Nat) : State :=
  match (s.flowRun f).newest with
  | some m => if n ≤ m then s.add R.flow_LATE f k else s.add R.flow_EARLY f k
  | none => s.add R.flow_EARLY f k

/-- The packet `num` of an audio flow brought version `n` to complete. -/
def State.isLastOf (s : State) (f n num : Nat) : Bool := (s.inFrame? f n).elim false fun v => v.markNum == some num

/-- The last packet's arrivals on a leg, for the versions it completed. -/
def State.audioArrived (s : State) (f leg num : Nat) (opened : List Nat) : State :=
  s.each opened fun s n => if s.isLastOf f n num then s.lastArrived f n leg else s

/-- A KIND 1 or 2 packet: each of its samples belongs to the frame of its tick (R136). A packet whose length fits no packet time of its
channels, or whose frame does not fit its version, is out of bounds (R141). -/
def State.ingestAudio (s : State) (f leg : Nat) (d : Datagram) : State :=
  let kind := s.reg R.flow_KIND f
  let ch := s.reg R.flow_CHANNELS f
  let c := (s.graph (s.flowRun f).slot).cad
  let m := s.tickOfStamp d.timestamp (s.regI R.flow_RTP_OFFSET f)
  match audioShape kind ch d.payload.length with
  | none =>
    let n := s.frameAt c (sampleTick m)
    if (s.inFrame? f n).isSome then s.spill f n (extendSeq (s.flowRun f).seq (d.seq % 65536)) else s.notOpen f n 1
  | some (size, k) =>
    let all := (List.range k).map fun i => s.frameAt c (sampleTick (m + i))
    let fs := all.eraseDups
    let opened := fs.filter fun n => (s.inFrame? f n).isSome
    let s := s.each (fs.filter fun n => (s.inFrame? f n).isNone) fun s n => s.notOpen f n (all.count n)
    if opened.isEmpty then s
    else
      let num := extendSeq (s.flowRun f).seq (d.seq % 65536)
      match (s.flowRun f).position num with
      | .duplicate => (s.inc R.flow_DUPLICATES f).audioArrived f leg num opened
      | .below => (s.inc R.flow_LATE f).audioArrived f leg num opened
      | _ =>
        match opened.find? fun n => (s.openBuffer f n).any fun b => decide (b.size < 32 + 4 * ch * (s.frameSamples c n).2) with
        | some n => s.spill f n num
        | none =>
          let s := (s.onFlow f fun r => r.accept num).inc R.flow_PACKETS f
          (s.each opened fun s n => s.writeSamples f c n num kind ch size m d.payload).audioArrived f leg num opened

/-! ### Ancillary data (R138, R146) -/

/-- The length of the ancillary packet at the head of a string: a 32-bit header, then ten-bit words with its data count, padded. -/
def ancLength (l : List Byte) : Nat :=
  let w := ofLe (slice l 4 4).reverse
  4 + ceilDiv (10 * (4 + w / 4 % 256)) 32 * 4

/-- The ancillary packets of a string. -/
def ancSplit : Nat → List Byte → List (List Byte)
  | 0, _ => []
  | k + 1, l => if l.length < 8 then [] else l.take (ancLength l) :: ancSplit k (l.drop (ancLength l))

/-- A version of ancillary packets in the layout of R146.
[DEDUCED, log 59: unsafe] -/
def ancVersion (data : List Byte) (size : Nat) : List Byte :=
  let l := leBytes 2 (ancSplit data.length data).length ++ leBytes 4 data.length ++ List.replicate 26 0 ++ data
  padTo size l

/-- A version whose every number from FIRST to the marker has come is written and complete (R138). -/
def State.finishAnc (s : State) (f n : Nat) (b : BufferRec) : State :=
  match s.inFrame? f n with
  | none => s
  | some v =>
    match v.markNum with
    | none => s
    | some lastMk =>
      let before := ((s.flowRun f).marks.find? fun p => p.1 + 1 == n).map fun p => (p.2 + 1) % 2 ^ 32
      let first := before.getD (ofSigned 32 (((v.first.getD lastMk : Nat) : Int) + v.lo))
      let k := ofSigned 32 ((lastMk : Int) - (first : Int)) + 1
      let nums := (List.range (min k (v.packets.length + 1))).map fun i => (first + i) % 2 ^ 32
      let parts := nums.filterMap fun x => (v.packets.find? fun p => p.1 == x).map Prod.snd
      if !v.complete && v.sound && parts.length == k then
        (s.writeBytes v.addr (ancVersion parts.flatten b.size)).onInFrame f n fun v => { v with complete := true }
      else s

/-- A KIND 3 packet for the open version `n`. -/
def State.ingestAnc (s : State) (f n leg : Nat) (b : BufferRec) (d : Datagram) : State :=
  let num := extendSeq (s.flowRun f).seq (d.seq % 65536)
  match (s.flowRun f).position num with
  | .duplicate =>
    let s := s.inc R.flow_DUPLICATES f
    if d.marker then s.lastArrived f n leg else s
  | .below =>
    let s := s.inc R.flow_LATE f
    if d.marker then s.lastArrived f n leg else s
  | _ =>
    let held := match s.inFrame? f n with | some v => (v.packets.map fun p => p.2.length).sum | none => 0
    if b.size < 32 + held + d.payload.length then s.spill f n num
    else
      let s := (s.onFlow f fun r => r.accept num).inc R.flow_PACKETS f
      let s := s.onInFrame f n fun v =>
        { v.number num with packets := v.packets ++ [(num, d.payload)], markNum := if d.marker then some num else v.markNum }
      let s := if d.marker then s.onFlow f fun r => { r with marks := (n, num) :: r.marks.take 7 } else s
      let s := s.finishAnc f n b
      if d.marker then s.lastArrived f n leg else s.evaluate f n

/-! ### Datagrams and frames (R127 to R132, R136, R160) -/

/-- The datagram is one of R132, or a KIND 0 packet with no sample row data header or with more than three (R144).
[DESIGN CHOICE, log 215: unsafe] -/
def State.badRtp (s : State) (f : Nat) (d : Datagram) : Bool :=
  d.version != 2 || d.payloadType != s.reg R.flow_PT f || d.short || d.overrun ||
    (s.reg R.flow_KIND f == 0 && (d.srds.isEmpty || decide (3 < d.srds.length) ||
      decide (d.payload.length < (d.srds.map Srd.length).sum)))

/-- A datagram matched to flow `f` on a port: of a CONFIGURED or PAUSED flow it is counted in PAUSED_DROPS alone.
[DESIGN CHOICE, log 214: unsafe] -/
def State.ingest (s : State) (p f : Nat) (d : Datagram) : State :=
  let leg := if s.on R.flow_PAIRED f ∧ p = s.reg R.flow_PORT_B f then 1 else 0
  let s := if s.legged f then s.legSeen f leg else s
  if s.reg R.flow_STATE f ≠ 2 then s.inc R.flow_PAUSED_DROPS f
  else if s.badRtp f d then s.inc R.flow_BAD_RTP f
  else
    let kind := s.reg R.flow_KIND f
    if kind = 1 ∨ kind = 2 then s.ingestAudio f leg d
    else
      let c := (s.graph (s.flowRun f).slot).cad
      match s.frameOfStamp c d.timestamp (s.regI R.flow_RTP_OFFSET f) with
      | (none, behind) => if behind then s.inc R.flow_LATE f else s.inc R.flow_EARLY f
      | (some n, _) => match s.openBuffer f n with
        | none => s.notOpen f n 1
        | some b => if kind = 0 then s.ingestVideo f n leg b d else s.ingestAnc f n leg b d

/-- The classifier's two lookups (R130). -/
def State.classify (s : State) (p : Nat) (d : Datagram) : Option Nat :=
  let rules := (s.flowsOn p).filter fun f =>
    s.hasRule f && s.reg R.flow_DEST_ADDR f == d.dst && s.reg R.flow_UDP_PORT f == d.udp &&
      (!s.on R.flow_SRC_ADDR f || s.reg R.flow_SRC_ADDR f == d.src)
  (rules.find? fun f => !s.on R.flow_SSRC_ANY f && s.reg R.flow_SSRC f == d.ssrc) <|> rules.find? fun f => s.on R.flow_SSRC_ANY f

/-- What a good frame on port `p` is (R129, R130). -/
def State.ethBody (s : State) (p : Nat) : EthPayload → State
  | .arpRequest target mac ip =>
    if target = s.reg R.eth_IPV4 p then s.sendControl p (.arpReply (s.reg R.eth_MAC_ADDR p) (s.reg R.eth_IPV4 p) mac ip)
    else s.inc R.eth_RX_UNMATCHED p
  | .igmpQuery => s.reportGroups p (s.flowsOn p)
  | .ptp => if s.on R.ptp_ENABLE p then s else s.inc R.eth_RX_UNMATCHED p
  | .udp d => match s.classify p d with
    | some f => s.ingest p f d
    | none => s.inc R.eth_RX_UNMATCHED p
  | _ => s.inc R.eth_RX_UNMATCHED p

/-- An uncorrectable code word has spoilt the frame that comes to port `p` (R379). -/
def State.portSpoilt (s : State) (p : Nat) : Bool := (s.portLanes p).any fun l => (s.laneRun l).spoilt

/-- The spoilt frame of port `p` has come. -/
def State.clearSpoilt (s : State) (p : Nat) : State :=
  s.each ((s.portLanes p).filter fun l => (s.laneRun l).spoilt) fun s l => s.onLane l fun r => { r with spoilt := false }

/-- A received Ethernet frame (R127, R129, R130, R160, R379); one that is too long, too short or in error is discarded.
[DEDUCED, log 62: unsafe, DEDUCED, log 63: unsafe, DEDUCED, log 64: unsafe, DESIGN CHOICE, log 213: unsafe, DEDUCED, log 273: unsafe,
DESIGN CHOICE, log 283: unsafe] -/
def opEthFrameReceive (t p : Nat) (fr : EthFrame) (s : State) : State :=
  let s := s.advanceTo t
  if !s.on R.eth_LINK p then s
  else
    let spoilt := s.portSpoilt p
    let s := (s.clearSpoilt p).inc R.eth_RX_FRAMES p
    if spoilt = true ∨ fr.body = .fcsError ∨ s.reg R.eth_MAX_FRAME p < fr.length ∨ fr.length < 64 then s.inc R.eth_RX_FCS_ERRORS p
    else if 524288 < s.ingressFill (p / 4) + fr.length then (s.inc R.eth_FIFO_OVERFLOWS p).breach 0x2103 p fun g =>
      (s.graph g).flowNodes.any fun x => (s.flowPorts x.1.flow).contains p
    else (s.ingressEnter (p / 4) fr.length).ethBody p fr.body

/-! ### SDI (R147 to R150) -/

def State.sdiIn (s : State) (l : Nat) : SdiIn := tget (fun _ => {}) s.streams.sdi l

def State.onSdi (s : State) (l : Nat) (u : SdiIn → SdiIn) : State :=
  { s with streams := { s.streams with sdi := tput (fun _ => {}) l (u (s.sdiIn l)) s.streams.sdi } }

/-- A lane in SDI mode (R147). -/
def State.sdiMode (s : State) (l : Nat) : Bool := s.reg R.lane_MODE l == 2

/-- An SDI frame begins on a lane (R148): it is kept when it is the first in its frame interval and the flow's version is open. -/
def opSdiFrameBegin (t l : Nat) (s : State) : State :=
  let s := s.advanceTo t
  if !s.sdiMode l then s
  else
    let s := s.onSdi l fun r => { began := r.began }
    match s.sdiFlow l 0 with
    | none => s
    | some f =>
      if s.reg R.flow_STATE f ≠ 2 then s
      else
        let n := s.frameAt (s.graph (s.flowRun f).slot).cad s.now
        if (s.sdiIn l).began = some n then (s.inc R.sdi_FRAMES_DROPPED l).raise 0x2303 l
        else s.onSdi l fun r => { r with frame := if (s.inFrame? f n).isSome then some n else none, began := some n }

/-- The payload identifier is not the one expected, once per frame (R150). -/
def State.sdiIdBad (s : State) (l : Nat) : State :=
  if (s.sdiIn l).idBad then s else (s.onSdi l fun r => { r with idBad := true }).raise 0x2301 l

/-- The definition that ANC_HANDLE names, where it names one. -/
def State.ancHandle (s : State) (l : Nat) : Option HandleDef :=
  let h := s.reg R.sdi_ANC_HANDLE l
  let d := s.handleDef h
  if h = 0 ∨ s.reg R.hdl_HANDLE (h % 65536) ≠ h ∨ d.slots = 0 then none else some d

/-- The ancillary packets of a frame go to ANC_HANDLE (R147): its slot n mod SLOTS.
[DEDUCED, log 59: unsafe] -/
def State.sdiAnc (s : State) (l n : Nat) : State :=
  match s.ancHandle l with
  | some d => s.writeBytes (d.base + n % d.slots * d.stride) (ancVersion (s.sdiIn l).anc d.size)
  | none => s

/-- The frame that a lane receives is discarded (R149, R150). -/
def State.sdiSpoilt (s : State) (l : Nat) : Bool :=
  (s.sdiIn l).idBad || ((s.sdiIn l).crcBad && s.reg R.sdi_CRC_POLICY l == 0)

/-- The last active line of version `n` (R148 to R150): it closes, or its frame is discarded. -/
def State.sdiClose (s : State) (l f n : Nat) : State :=
  if s.sdiSpoilt l then s.onInFrame f n fun v => { v with requested := true }
  else
    let s : State := match s.openBuffer f n with
      | some b => if (s.sdiIn l).crcBad then s.onVersion b.handle n fun v => { v with info := v.info ||| 16 } else s
      | none => s
    (s.sdiAnc l n).lastArrived f n 0

/-- The last active line of a frame, kept or not: an identifier that has not come is absent (R150). -/
def State.sdiFrameEnd (s : State) (l : Nat) : State :=
  let s := if s.on R.sdi_PAYLOAD_ID_EXPECT l && !(s.sdiIn l).idSeen then s.sdiIdBad l else s
  let s := s.onSdi l fun r => { r with ended := true }
  match s.sdiFlow l 0, (s.sdiIn l).frame with
  | some f, some n => s.sdiClose l f n
  | _, _ => s

/-- The identifier that a line carries (R150). -/
def State.sdiIdent (s : State) (l : Nat) : Option Nat → State
  | some v =>
    let s := (s.setReg R.sdi_PAYLOAD_ID l v).onSdi l fun r => { r with idSeen := true }
    if s.on R.sdi_PAYLOAD_ID_EXPECT l && v != s.reg R.sdi_PAYLOAD_ID_EXPECT l then s.sdiIdBad l else s
  | none => s

/-- A line whose CRC failed: counted, event 0x2302 once per frame (R149). -/
def State.sdiCrc (s : State) (l : Nat) (crcOk : Bool) : State :=
  if crcOk then s
  else
    let s := s.inc R.sdi_CRC_ERRORS l
    if (s.sdiIn l).crcBad then s else (s.onSdi l fun r => { r with crcBad := true }).raise 0x2302 l

/-- Content of the frame that lane `l` receives is out of bounds: counted, event 0x2201 once per frame, the lines after the version's commit among
them (R141, R161). -/
def State.sdiBounds (s : State) (l f : Nat) : State :=
  let s := s.inc R.flow_BOUNDS f
  if (s.sdiIn l).bounds then s else (s.onSdi l fun r => { r with bounds := true }).raise 0x2201 f

/-- The pixel groups of picture line `k` of version `n` (R144, R147). A line out of bounds has no other leg: its version cannot become complete
(R141).
[DEDUCED, log 269: unsafe] -/
def State.sdiPixels (s : State) (l f n : Nat) (line : Option Nat) (data : List Byte) : State :=
  match line, s.openBuffer f n with
  | some k, some b => match placeRow b ⟨k, 0, data.length, false⟩ with
    | some p => ((s.writePlaced f n b [p] data).inc R.flow_PACKETS f).finishPicture f n b
    | none => (s.sdiBounds l f).onInFrame f n fun v => { v with spilled := 2 ^ 32 :: v.spilled }
  | _, _ => s

/-- The ancillary packets of a line join those of its frame, as far as SIZE of ANC_HANDLE holds them (R141); after the last active line they are
stored with the others (R147). -/
def State.sdiAncLine (s : State) (l f n : Nat) (anc : List Byte) : State :=
  let s := (ancSplit anc.length anc).foldl (fun s p =>
    if (s.ancHandle l).any fun d => decide (d.size < 32 + (s.sdiIn l).anc.length + p.length) then s.sdiBounds l f
    else s.onSdi l fun r => { r with anc := r.anc ++ p }) s
  if (s.sdiIn l).ended && !anc.isEmpty && !s.sdiSpoilt l then s.sdiAnc l n else s

/-- An SDI line (R144, R147, R149, R150). -/
def opSdiLineReceive (t l : Nat) (x : SdiLine) (s : State) : State :=
  let s := s.advanceTo t
  if !s.sdiMode l then s
  else
    let s := (s.sdiIdent l x.payloadId).sdiCrc l x.crcOk
    let s : State := match s.sdiFlow l 0, (s.sdiIn l).frame with
      | some f, some n => (s.sdiAncLine l f n x.anc).sdiPixels l f n x.line x.data
      | _, _ => s
    if x.lastActive then s.sdiFrameEnd l else s

end Sys2Proof.Machine
end

