-- ==== Sys2Proof/Machine/Egress.lean ====
section
/-! DEFINITION. Egress of the stream engine (R151 to R159, R575): launches, packets, poison policies, the header extension, sending in
due-time order, and SDI egress. -/

namespace Sys2Proof.Machine

/-! ### SINK operations -/

/-- The operations of SINK nodes of flow `f` that have started, lowest frame first. -/
def State.sinkOps (s : State) (f : Nat) : List Oper :=
  s.sched.ops.filter fun o => o.state == .active && (let v := s.nodeRec o.node; v.kind == 2 && v.flow == f)

/-- The buffer that a SINK operation reads. -/
def State.sinkBuffer (s : State) (o : Oper) : Option BufferRec :=
  let g := s.graph (slotOf o.node)
  (g.inputs (g.node (o.node % 16384))).head?.map fun e => g.buf e.buffer

/-- The SINK operation of flow `f` that is sent next, once it has started: that of the lowest frame still to be sent, whichever graph it
belongs to (R96); none in a Nightfall that a trip started (R473). -/
def State.toLaunch (s : State) (f : Nat) : Option Oper :=
  (firstOp (fun o => (let v := s.nodeRec o.node; v.kind == 2 && v.flow == f) && o.state != .completed)
    (fun a b => decide (a.frame < b.frame)) s.sched.ops).filter fun o => o.state == .active && !s.tripping

/-- That operation with the buffer it reads. -/
def State.launchable (s : State) (f : Nat) : Option (Oper × BufferRec) :=
  (s.toLaunch f).bind fun o => (s.sinkBuffer o).map fun b => (o, b)

/-- The SINK operation of frame `n` of flow `f` is finished: the version has been read (R67, R78).
[DEDUCED, log 34: unsafe] -/
def State.endSink (s : State) (f n : Nat) (flagged : Bool) : State :=
  match (s.sinkOps f).find? fun o => o.frame == n with
  | some o => (s.onOp o.node n fun x => { x with state := .completed, status := b2n flagged }).schedule
  | none => s

/-- The address that a SINK operation reads, and the metadata word of its version. -/
def State.sinkInput (s : State) (o : Oper) : Nat × Nat :=
  let g := s.graph (slotOf o.node)
  match (g.inputs (g.node (o.node % 16384))).head? with
  | none => (0, 0)
  | some e => (s.inputAddr g e o.frame, match s.edgeReads g e o.frame with
    | .version h f => (s.version? h f).elim 0 Version.info
    | .black _ => 8)

/-! ### Reading under POISON_POLICY (R157) -/

/-- One word: from the primary copy, or the mirror under MIRROR; the flag says that poison was met. -/
def State.egressWord (s : State) (g policy a : Nat) : State × Option Nat × Bool :=
  match s.readWord g a with
  | (s, some d) => (s, some d, false)
  | (s, none) => if policy = 0 then (match s.readMirror g a with | (s, d) => (s, d, true)) else (s, none, true)

/-- `k` words: each byte, none where no copy is clean, with the flag of its word. -/
def State.egressWords (s : State) (g policy : Nat) : Nat → Nat → State × List (Option Byte × Bool)
  | _, 0 => (s, [])
  | a, k + 1 =>
    let (s, d, p) := s.egressWord g policy a
    let (s, t) := s.egressWords g policy (a + 32) k
    (s, (match d with | some v => (leBytes 32 v).map fun b => (some b, p) | none => List.replicate 32 (none, p)) ++ t)

/-- `n` bytes from address `a` on, each with the flag of its word. -/
def State.egressMarked (s : State) (g policy a n : Nat) : State × List (Option Byte × Bool) :=
  let first := a / 32 * 32
  let (s, l) := s.egressWords g policy first (if n = 0 then 0 else ceilDiv (a + n - first) 32)
  (s, (l.drop (a - first)).take n)

/-- `n` bytes from address `a` on: bytes, none where no copy is clean, and whether poison was met. -/
def State.egressSpan (s : State) (g policy a n : Nat) : State × List (Option Byte) × Bool :=
  let (s, l) := s.egressMarked g policy a n
  (s, l.map Prod.fst, l.any Prod.snd)

/-- The black pixel group of a format (R157). -/
def blackGroup (f : Nat) : List Byte :=
  let u := 2 ^ (fmtDepth f - 8)
  packGroup f ((List.range (groupSamples f)).map fun j => if (sampleAt f j).1 = 0 ∨ fmtRgb f then 16 * u else 128 * u)

/-- A payload of `n` bytes of black groups. -/
def blackBytes (f n : Nat) : List Byte := ((List.replicate (n / fmtGroup f) (blackGroup f)).flatten)

/-! ### Frames into packets -/

/-- One packet before it is queued: due time, timestamp, marker, headers, the byte spans of the version it carries (offset in the
slot, length), its bytes with their poison flags where planning has read them already, and whether planning met poison that no byte
of it shows. -/
structure PacketPlan where
  due : Nat
  ts : Nat
  marker : Bool
  srds : List Srd
  spans : List (Nat × Nat)
  got : Option (List (Option Byte × Bool)) := none
  met : Bool := false
  deriving DecidableEq, Repr

/-- The pieces of bytes `a` to `b` of a field: field row, first byte and length, line by line. -/
def fieldPieces (rb : Nat) : Nat → Nat → Nat → List (Nat × Nat × Nat)
  | 0, _, _ => []
  | k + 1, a, b =>
    if b ≤ a then []
    else
      let n := min (b - a) ((a / rb + 1) * rb - a)
      (a / rb, a % rb, n) :: fieldPieces rb k (a + n) b

/-- The RTP timestamp of a 90 kHz kind (R153). -/
def State.egressStamp (s : State) (f tn : Nat) : Nat :=
  if s.reg R.flow_ALIGN_OFS f = 0 then mediaClock tn else mediaClock (tn + s.reg R.flow_ALIGN_OFS f - s.reg R.flow_TR_OFFSET f)

/-- The packets of field `i` of `k` of a picture (R154, R575); half of an odd frame interval is rounded down.
[DESIGN CHOICE, log 241: unsafe] -/
def State.videoField (s : State) (f c n launch i k : Nat) (b : BufferRec) : List PacketPlan :=
  let tn := s.markTime c n
  let tf := s.markTime c (n + 1) - tn
  let rb := fmtRowBytes b.format b.width
  let rows := fieldRows (b.height / fmtCoverV b.format) k i
  let pks := packetsOf (rows.length * rb) rb (s.payloadBytes f (fmtGroup b.format))
  let r := s.rAct f c b.height
  pks.zipIdx.map fun p =>
    let pieces := fieldPieces rb 3 p.1.1 p.1.2
    { due := launch + i * (tf / k) + ceilDiv (p.2 * tf * r.1) (k * r.2 * pks.length)
      ts := s.egressStamp f tn
      marker := p.2 + 1 == pks.length
      srds := pieces.map fun x =>
        ⟨nth rows x.1 0 * fmtCoverV b.format, x.2.1 / fmtGroup b.format * fmtCoverH b.format, x.2.2, i == 1⟩
      spans := pieces.map fun x => (nth rows x.1 0 * b.pitch + x.2.1, x.2.2) }

/-- The packets of an audio frame: 1 ms or 125 µs of samples each, as PACKET_BYTES allows, the last with what remains (R145); every packet
has the timestamp of its frame (R153).
[DEDUCED, log 57: unsafe, DEDUCED, log 216: unsafe] -/
def State.audioPlans (s : State) (f c n launch : Nat) : List PacketPlan :=
  let ch := s.reg R.flow_CHANNELS f
  let size := if s.reg R.flow_KIND f = 1 then 3 else 4
  let k := if 48 * size * ch ≤ s.reg R.flow_PACKET_BYTES f then 48 else 6
  let fs := s.frameSamples c n
  let tn := s.markTime c n
  (List.range (ceilDiv fs.2 k)).map fun j =>
    let m := fs.1 + j * k
    { due := launch + (sampleTick m - tn)
      ts := (if s.reg R.flow_ALIGN_OFS f = 0 then sampleFrom tn
        else sampleFrom (tn + s.reg R.flow_ALIGN_OFS f - s.reg R.flow_TR_OFFSET f)) % 2 ^ 32
      marker := false
      srds := []
      spans := [(32 + 4 * ch * (j * k), 4 * ch * min k (fs.2 - j * k))] }

/-- Whole ancillary packets of lengths `l` gathered up to `room` bytes a packet: offset and length of each.
[DEDUCED, log 58: unsafe] -/
def ancGroups (room : Nat) : List Nat → Nat → Nat → List (Nat × Nat)
  | [], a, n => [(a, n)]
  | x :: t, a, n => if 0 < n ∧ room < n + x then (a, n) :: ancGroups room t (a + n) x else ancGroups room t a (n + x)

/-- A sample word of a version on the wire: three bytes of L24 most significant first, or the subframe as stored. -/
def wireSamples (kind : Nat) : Nat → List Byte → List Byte
  | 0, _ => []
  | k + 1, l => (if kind = 1 then (l.take 3).reverse else l.take 4) ++ wireSamples kind k (l.drop 4)

/-- The spans of a plan read one after the other. -/
def State.readSpans (s : State) (g policy base : Nat) : List (Nat × Nat) → State × List (Option Byte) × Bool
  | [] => (s, [], false)
  | x :: t =>
    let (s, l, p) := s.egressSpan g policy (base + x.1) x.2
    let (s, m, q) := s.readSpans g policy base t
    (s, l ++ m, p || q)

/-- The payload of a packet from what was read; with a poisoned word, what R157 puts in its place.
[DEDUCED, log 57: unsafe] -/
def State.egressPayload (s : State) (f fmt : Nat) (l : List (Option Byte)) : List Byte :=
  let clean := l.all Option.isSome
  let raw := l.map fun b => b.getD 0
  match s.reg R.flow_KIND f with
  | 0 => if clean then raw else blackBytes fmt l.length
  | 3 => if clean then raw else []
  | k => if clean then wireSamples k (l.length / 4) raw else List.replicate (l.length / 4 * if k = 1 then 3 else 4) 0

/-- The frame being packetised: the state, packets so far (newest first) and whether poison was met. -/
structure Packing where
  s : State
  out : List OutPacket
  met : Bool

/-- One planned packet is read, numbered and added, unless DROP leaves it out (R157). -/
def Packing.add (k : Packing) (g f n base fmt : Nat) (x : PacketPlan) : Packing :=
  let policy := k.s.reg R.flow_POISON_POLICY f
  let (s, l, met) := match x.got with
    | some l => (k.s, l.map Prod.fst, x.met || l.any Prod.snd)
    | none => k.s.readSpans g policy base x.spans
  let seq := (s.flowRun f).nextSeq
  let s := s.onFlow f fun r => { r with nextSeq := (r.nextSeq + 1) % 2 ^ 32 }
  let s := if met then s.inc R.flow_POISON_PACKETS f else s
  if met && policy == 2 then ⟨s, k.out, true⟩
  else ⟨s, ⟨x.due, f, n, seq, x.ts, x.marker, [], x.srds, s.egressPayload f fmt l, 0⟩ :: k.out, k.met || met⟩

/-- The RTP header extension of META_EXT (R156): the one-byte form, padded to whole words. -/
def State.metaExt (s : State) (f n info flags : Nat) : List Byte :=
  let id := s.reg R.flow_META_EXT f
  if id = 0 then []
  else
    [0xBE, 0xDE, 0, 5, BitVec.ofNat 8 (id * 16 + 15)] ++ leBytes 8 info ++ leBytes 4 n ++ leBytes 1 flags ++
      leBytes 1 (s.reg R.ens_ENS_ID) ++ [0, 0, 0, 0, 0]

/-- The packets of an ancillary frame, from the bytes of the version's header and of its packets; a poisoned header leaves one packet, and
poison met in a clean header flags the first.
[DEDUCED, log 58: unsafe] -/
def State.ancPlans (s : State) (f launch tn : Nat) (head data : List (Option Byte × Bool)) : List PacketPlan :=
  let mk (got : List (Option Byte × Bool)) (last : Bool) : PacketPlan := ⟨launch, s.egressStamp f tn, last, [], [], some got, false⟩
  if head.all fun b => b.1.isSome then
    let raw := data.map fun b => b.1.getD 0
    let gs := ancGroups (s.reg R.flow_PACKET_BYTES f) ((ancSplit raw.length raw).map List.length) 0 0
    gs.zipIdx.map fun p =>
      { mk ((data.drop p.1.1).take p.1.2) (p.2 + 1 == gs.length) with
        met := p.2 == 0 && head.any Prod.snd }
  else [mk head true]

/-- The plans of a frame of flow `f`, by kind. -/
def State.framePlans (s : State) (g f c n launch base : Nat) (b : BufferRec) : State × List PacketPlan :=
  match s.reg R.flow_KIND f with
  | 0 =>
    let k := s.fieldsOf c b.format
    (s, (List.range k).flatMap fun i => s.videoField f c n launch i k b)
  | 3 =>
    let (s, h) := s.egressMarked g (s.reg R.flow_POISON_POLICY f) base 32
    let len := min (leAt (h.map fun x => x.1.getD 0) 2 4) (b.size - 32)
    let (s, l) := s.egressMarked g (s.reg R.flow_POISON_POLICY f) (base + 32) len
    (s, s.ancPlans f launch (s.markTime c n) h l)
  | _ => (s, s.audioPlans f c n launch)

/-- Packets join the queue of port `p`. -/
def State.queuePackets (s : State) (p : Nat) (l : List OutPacket) : State :=
  { s with streams := { s.streams with queues := tput (fun _ => []) p (tget (fun _ => []) s.streams.queues p ++ l) s.streams.queues } }

/-- The SINK operation `o` of flow `f` is launched now (R151): its packets are built and queued on the flow's ports.
The version has then been read to its last byte, and the operation retires (R67).
[DEDUCED, log 34: unsafe, DESIGN CHOICE, log 205: unsafe, DEDUCED, log 271: unsafe] -/
def State.launch (s : State) (f : Nat) (o : Oper) (b : BufferRec) : State :=
  let c := (s.graph (slotOf o.node)).cad
  let n := o.frame
  let want := s.markTime c n + s.reg R.flow_ALIGN_OFS f
  let late := s.on R.flow_ALIGN_OFS f && decide (want < s.now)
  let s := if late then (s.inc R.flow_LATE_LAUNCH f).raise 0x2205 f else s
  let g := quadStop (s.reg R.flow_PORT_A f / 4)
  let (base, info) := s.sinkInput o
  let (s, plans) := s.framePlans g f c n s.now base b
  let k := plans.foldl (fun (k : Packing) x => k.add g f n base b.format x) ⟨s, [], false⟩
  let s := k.s
  let s := if k.met then s.raise 0x2206 f else s
  let ext := s.metaExt f n info (b2n k.met + b2n late * 2)
  let out := match k.out.reverse with
    | [] => []
    | x :: t => { x with ext := ext } :: t
  let ports := s.flowPorts f
  let s := s.each ports.zipIdx fun s p => s.queuePackets p.1 (out.map fun x => { x with copy := p.2 })
  ((s.onFlow f fun r => { r with newest := some n }).inc R.flow_FRAMES f).endSink f n k.met

/-- The launch instant of an egress frame (R151): with ALIGN_OFS nonzero, not before t_n + ALIGN_OFS. -/
def opEgressLaunch (t f : Nat) (s : State) : State :=
  let s := s.advanceTo t
  if s.reg R.flow_STATE f ≠ 2 ∨ s.reg R.flow_DIR f ≠ 1 ∨ s.reg R.flow_KIND f = 4 ∨ s.isPeer f then s
  else match s.launchable f with
    | none => s
    | some (o, b) =>
      let c := (s.graph (slotOf o.node)).cad
      if s.on R.flow_ALIGN_OFS f && decide (s.now < s.markTime c o.frame + s.reg R.flow_ALIGN_OFS f) then s
      else s.launch f o b

/-! ### Sending (R155) -/

/-- The packet of a queue that is sent next: earliest due, then lower flow.
[DEDUCED, log 61: unsafe] -/
def nextPacket (l : List OutPacket) : Option OutPacket :=
  l.foldl (fun best x => match best with
    | none => some x
    | some b => if x.due < b.due ∨ (x.due = b.due ∧ x.flow < b.flow) then some x else best) none

/-- A due packet leaves port `p` (R155, R158): on a port that is DOWN it is lost, and the other copy goes on.
[DEDUCED, log 61: unsafe, DEDUCED, log 270: unsafe] -/
def opEgressPacketSend (t p : Nat) (s : State) : State :=
  let s := s.advanceTo t
  let q := tget (fun _ => []) s.streams.queues p
  match nextPacket q with
  | none => s
  | some x =>
    if s.now < x.due then s
    else
      let s := { s with streams := { s.streams with queues := tput (fun _ => []) p (q.erase x) s.streams.queues } }
      let s : State := if s.on R.eth_LINK p then
          ({ s with streams := { s.streams with sent := (p, x) :: s.streams.sent.filter fun y => y.1 != p } }).inc R.eth_TX_FRAMES p
        else s
      if x.copy = 0 then s.inc R.flow_PACKETS x.flow else s

/-! ### SDI egress (R159, R385) -/

/-- Lane `l` sends the raster of flow `f`: while it is BOUND, and from then on until UNCONFIGURE (R159, R385). -/
def State.rasterOn (s : State) (l f : Nat) : Bool :=
  s.sdiMode l && (s.reg R.flow_STATE f == 2 || s.on R.lane_TX_STATE l)

/-- The cadence of a raster: that of the graph that binds its flow, or did last. -/
def State.rasterCadence (s : State) (l f : Nat) : Nat :=
  if s.reg R.flow_STATE f = 2 then (s.graph (s.flowRun f).slot).cad else (s.sdiOut l).cad

/-- 50 µs before output frame `n`: with no SINK operation of the frame started, the last version is to be sent again (R159).
[DEDUCED, log 60: unsafe] -/
def opSdiRepeatCheck (l n : Nat) (s : State) : State :=
  match s.sdiFlow l 1 with
  | none => s
  | some f =>
    if !s.rasterOn l f then s
    else
      let s := s.advanceTo (s.markTime (s.rasterCadence l f) n + s.reg R.flow_ALIGN_OFS f - 50000)
      if (s.sinkOps f).any fun o => o.frame == n then s
      else ((s.onSdiOut l fun r => { r with repeating := some n }).inc R.sdi_REPEATS l).raise 0x2207 l

/-- The rows of the picture of a SINK operation, as sent: black where poison stands.
[DESIGN CHOICE, log 243: unsafe] -/
def State.sdiPicture (s : State) (f l base : Nat) (b : BufferRec) : State × List Byte × Bool :=
  let rb := fmtRowBytes b.format b.width
  let spans := (List.range (b.height / fmtCoverV b.format)).map fun r => (r * b.pitch, rb)
  let (s, bs, met) := s.readSpans (quadStop (l / 4)) (s.reg R.flow_POISON_POLICY f) base spans
  let black := blackGroup b.format
  (s, bs.zipIdx.map fun x => x.1.getD (nth black (x.2 % fmtGroup b.format) 0), met)

/-- The version of SINK operation `o` goes out as frame `n` of lane `l`, with its payload identifier. The picture is the command's answer.
[DESIGN CHOICE, log 217: safe] -/
def State.sdiSend (s : State) (l f n : Nat) (o : Oper) (b : BufferRec) : State :=
  let c := s.rasterCadence l f
  let (s, pic, met) := s.sdiPicture f l (s.sinkInput o).1 b
  let s : State := if met then (s.inc R.flow_POISON_PACKETS f).raise 0x2206 f else s
  let s := (s.onFlow f fun r => { r with lastSdi := n }).inc R.flow_FRAMES f
  let s := s.onSdiOut l fun _ => ⟨c, pic, Config.sdiIdent (s.reg R.lane_LINE_RATE l) c b.format, b2n met, none⟩
  (s.endSink f n met).answerWith pic

/-- The last version sent goes out again, with bit 2 of the egress flags; before there is one, a picture that the manual does not state.
[DESIGN CHOICE, log 217: safe] -/
def State.sdiAgain (s : State) (l : Nat) : State :=
  let s : State := if (s.sdiOut l).picture.isEmpty then (s.onSdiOut l fun r => { r with picture := Config.sdiFirst s.free }).took else s
  let s := s.onSdiOut l fun r => { r with flags := r.flags % 2 + 4, repeating := none }
  s.answerWith (s.sdiOut l).picture

/-- Output frame `n` begins its first line on lane `l` (R159): the started SINK operation's version is sent and read, or the last version
goes out again. The operations of frames that have gone by end unsent.
[DEDUCED, log 60: unsafe] -/
def opSdiEgressFrame (l n : Nat) (s : State) : State :=
  let s := s.silent
  match s.sdiFlow l 1 with
  | none => s
  | some f =>
    if !s.rasterOn l f then s
    else
      let s := s.advanceTo (s.markTime (s.rasterCadence l f) n + s.reg R.flow_ALIGN_OFS f)
      let gone (o : Oper) : Bool := decide (o.frame < n) || (o.frame == n && (s.sdiOut l).repeating == some n)
      let s := s.each ((s.sinkOps f).filter gone) fun s o => s.endSink f o.frame false
      match ((s.sinkOps f).find? fun o => o.frame == n && !s.tripping).bind fun o => (s.sinkBuffer o).map fun b => (o, b) with
      | some (o, b) => s.sdiSend l f n o b
      | none => s.sdiAgain l

end Sys2Proof.Machine
end

