-- ==== Sys2Proof/Machine/EnsembleView.lean ====
section
/-! DEFINITION. Partners of an ensemble and the view (R519, R520, R522, R529). -/

namespace Sys2Proof.Machine

/-- The device takes part in an ensemble (R518). -/
def State.ensembled (s : State) : Bool := s.on R.ens_ENABLE

def State.onEns (s : State) (u : Ensemble → Ensemble) : State := { s with ens := u s.ens }

/-- Skeltia link `k` is UP. -/
def State.linkUp (s : State) (k : Nat) : Bool := s.reg R.link_STATE k == 2

/-- Whether an ENS_ID may be a partner: not the device's own, and not one from which two devices have spoken (R520). -/
def State.partnerOk (s : State) (m : Nat) : Bool :=
  decide (m < 8) && m != s.reg R.ens_ENS_ID && decide ((tget (fun _ => []) s.ens.idents m).length ≤ 1)

/-- The UP links to the device's own ENS_ID, or to one from which two devices have spoken: event 0x9107 once for each (R520). -/
def State.duplicateIds (s : State) : State :=
  s.each ((List.range 256).filter fun k => s.linkUp k && decide (s.reg R.link_PARTNER_ID k < 8) && !s.partnerOk (s.reg R.link_PARTNER_ID k) &&
    !s.ens.duplicates.contains k) fun s k =>
    (s.onEns fun e => { e with duplicates := k :: e.duplicates }).raise 0x9107 (k + s.reg R.link_PARTNER_ID k * 256)

/-- The link used toward member `m` (R519). -/
def State.partnerLink (s : State) (m : Nat) : Option Nat :=
  if s.partnerOk m then (List.range 256).find? fun k => s.linkUp k && s.reg R.link_PARTNER_ID k == m else none

/-- The present council frame. -/
def State.councilFrame (s : State) : Nat := s.frameAt (s.reg R.ens_COUNCIL_CADENCE) s.now

/-- Member `m` is in view (R522, R529). -/
def State.inView (s : State) (m : Nat) : Bool :=
  m == s.reg R.ens_ENS_ID ||
    (match tget (fun _ => 0) s.ens.viewed m with
     | 0 => false
     | f + 1 => decide (s.ens.councils < f + 3) && decide (0x0100 ≤ s.reg R.mem_FW_VERSION m / 65536) && (s.partnerLink m).isSome)

/-- The members in view. -/
def State.members (s : State) : List Nat := (List.range 8).filter s.inView

/-- FW_VERSION of member `m`, the device's own included. -/
def State.memberVersion (s : State) (m : Nat) : Nat :=
  if m = s.reg R.ens_ENS_ID then s.reg R.stw_FW_VERSION else s.reg R.mem_FW_VERSION m

/-- VIEW, IN_VIEW, LINK and COMMON_VERSION follow, with events 0x9103, 0x9107 and 0x9108. -/
def State.refreshView (s : State) : State :=
  if !s.ensembled then s
  else
    let s := s.duplicateIds
    let ms := s.members
    let v := (ms.map fun m => 2 ^ m).sum
    let s := s.each (List.range 8) fun s m =>
      (s.setReg R.mem_IN_VIEW m (b2n (ms.contains m))).setReg R.mem_LINK m ((s.partnerLink m).getD 0xFFFF)
    let s : State := if s.reg R.ens_VIEW = v then s else (s.setReg R.ens_VIEW 0 v).raise 0x9103 v
    let low := (ms.map fun m => s.memberVersion m / 65536).foldl min 0xFFFF
    let old := s.reg R.ens_COMMON_VERSION
    let s := s.setReg R.ens_COMMON_VERSION 0 low
    if low < old then s.raise 0x9108 low else s

end Sys2Proof.Machine
end

