-- ==== Sys2Proof/Machine/LineCode.lean ====
section
/-! DEFINITION. The line of a lane as blocks and symbols: PAM4 levels (Table 13.1), the scrambler (R386), the rows of a link (R387), the
control blocks of Table 13.3, the packet check (R399) and the test sequences (R406). -/

namespace Sys2Proof.Machine

/-- PAM4 level of two consecutive bits, the first as the more significant (Table 13.1). -/
def pam4Level (first second : Bool) : Nat := if first then (if second then 2 else 3) else (if second then 1 else 0)

/-- The two bits of a PAM4 level. -/
def pam4Bits (level : Nat) : Bool × Bool := (decide (2 ≤ level), level == 1 || level == 2)

/-- The 33 levels of a line word, the first sent first. -/
def lineLevels (w : Nat) : List Nat := (List.range 33).map fun i => pam4Level (w.testBit (2 * i)) (w.testBit (2 * i + 1))

/-! ### The block stream (R386, R387) -/

/-- One bit through the scrambler 1 + x^39 + x^58, whose register holds the last 58 bits sent, the newest in bit 0. -/
def scrambleBit (reg : Nat) (b : Bool) : Nat × Bool :=
  let x := b != (reg.testBit 38 != reg.testBit 57)
  ((reg * 2 + x.toNat) % 2 ^ 58, x)

/-- One bit back through it: the register holds the last 58 bits received. -/
def descrambleBit (reg : Nat) (x : Bool) : Nat × Bool := ((reg * 2 + x.toNat) % 2 ^ 58, x != (reg.testBit 38 != reg.testBit 57))

/-- The 64 bits of a block through the scrambler, bit 0 first. -/
def scrambleBlock (reg b : Nat) : Nat × Nat :=
  (List.range 64).foldl (fun p i => let q := scrambleBit p.1 (b.testBit i); (q.1, p.2 + q.2.toNat * 2 ^ i)) (reg, 0)

/-- A block on the line, 66 bits with the first sent in bit 0: the header, then the payload. -/
def lineWord (header payload : Nat) : Nat := header / 2 % 2 + header % 2 * 2 + payload % 2 ^ 64 * 4

/-- What TX_INVERT does to the bits of a line word: in NRZ all are complemented, in PAM4 the first bit of each pair (R392). -/
def invertWord (pam4 : Bool) (w : Nat) : Nat := w ^^^ (if pam4 then (4 ^ 33 - 1) / 3 else 2 ^ 66 - 1)

/-- What block `i` of a lane is: BOUNDARY, FILLER, or a block of the link stream (R387, Table 13.3). -/
inductive BlockPlace where
  | boundary | filler | stream
  deriving DecidableEq, Repr

def blockPlace (i : Nat) : BlockPlace :=
  if i % 16384 = 0 then .boundary else if i % 4096 = 2048 then .filler else .stream

/-- The logical lane that carries block `i` of the stream of a link of width `w` (R387). -/
def rowLane (w i : Nat) : Nat := i % w

/-- Time of `n` blocks at a lane rate in kb/s, in whole ns, rounded up. -/
def blocksNs (n rate : Nat) : Nat := (n * 66 * 1000000 + rate - 1) / rate

/-! ### Control blocks (Table 13.3) -/

/-- The CRC-8 of a control block: over bytes 0 to 6, each least significant bit first (R386, R265). -/
def blockCrc (b : Nat) : Nat := (List.range 56).foldl (fun c i => crc8Bit c (b.testBit i)) 0

/-- A control block of a type with bytes 1 to 6 given as one number, byte 1 lowest. -/
def ctrlBlock (ty rest : Nat) : Nat :=
  let b := ty % 256 + rest % 2 ^ 48 * 256
  b + blockCrc b * 2 ^ 56

def boundaryBlock (position width ens link : Nat) : Nat :=
  ctrlBlock 0x2D (0x3C + 0xC3 * 2 ^ 8 + 0x5A * 2 ^ 16 + (position % 8 + width % 4 * 16) * 2 ^ 24 + ens % 8 * 2 ^ 32 + link % 256 * 2 ^ 40)

def fillerBlock : Nat := ctrlBlock 0x33 0
def idleBlock : Nat := ctrlBlock 0x1E 0

/-- TRAIN with state 0 LOCKING, 1 READY or 2 UP. -/
def trainBlock (st ens width link : Nat) : Nat :=
  ctrlBlock 0x4B (st % 256 + ens % 8 * 2 ^ 8 + width % 256 * 2 ^ 16 + link % 256 * 2 ^ 24)

def startBlock (seq channel len : Nat) : Nat := ctrlBlock 0x78 (seq % 65536 + channel % 4 * 2 ^ 16 + len % 65536 * 2 ^ 24)
def endBlock (crc : Nat) : Nat := ctrlBlock 0x87 (crc % 2 ^ 32)
def ackBlock (seq : Nat) : Nat := ctrlBlock 0x55 (seq % 65536)
def nakBlock (seq : Nat) : Nat := ctrlBlock 0x66 (seq % 65536)

/-- The CRC-32 of a packet: bytes 0 to 6 of its START block, then the payload (R399). -/
def packetCrc (seq channel : Nat) (payload : List Byte) : Nat :=
  crc32 (leBytes 7 (startBlock seq channel (payload.length / 8)) ++ payload)

/-- A packet as it goes out: START, the data blocks, END (R399). -/
def packetBlocks (seq channel : Nat) (payload : List Byte) : List Byte :=
  leBytes 8 (startBlock seq channel (payload.length / 8)) ++ payload ++ leBytes 8 (endBlock (packetCrc seq channel payload))

/-- The bytes of a packet as blocks: START and END are control blocks, header 10, the others data blocks, header 01. -/
def packetLine (l : List Byte) : List (Nat × Nat) :=
  let n := l.length / 8
  (List.range n).map fun i => (if i = 0 ∨ i + 1 = n then 2 else 1, leAt l (8 * i) 8)

/-! ### Test sequences (R406) -/

/-- The two taps of a sequence of PRBS_TX and PRBS_RX. -/
def prbsTaps : Nat → Nat × Nat
  | 1 => (7, 6)
  | 2 => (9, 5)
  | 3 => (15, 14)
  | 4 => (23, 18)
  | 5 => (31, 28)
  | _ => (0, 0)

/-- The next bit of a sequence and the register after it; the register holds the last bits sent, the newest in bit 0. -/
def prbsNext (k reg : Nat) : Nat × Bool :=
  let x := reg.testBit ((prbsTaps k).1 - 1) != reg.testBit ((prbsTaps k).2 - 1)
  ((reg * 2 + x.toNat) % 2 ^ (prbsTaps k).1, x)

/-- The next 66 bits of a sequence, the first in bit 0. -/
def prbsWord (k reg : Nat) : Nat × Nat :=
  (List.range 66).foldl (fun p i => let q := prbsNext k p.1; (q.1, p.2 + q.2.toNat * 2 ^ i)) (reg, 0)

/-! ### Ethernet (R388) -/

/-- What the transmitter of a lane in Ethernet mode sends: auto-negotiation pages, training frames, the PCS; on a lane that carries no pages while
its port negotiates, what no rule says. -/
inductive TxPattern where
  | anPages | besidePages | trainingFrames | pcs
  deriving DecidableEq, Repr

end Sys2Proof.Machine

namespace Sys2Proof.Config

open Sys2Proof.Machine

/-- A word of a pattern, by lane and the number of a free value.
[DESIGN CHOICE, log 285: safe] -/
opaque phyWord : TxPattern → Nat → Nat → Nat

end Sys2Proof.Config
end

