-- ==== Sys2Proof/Machine/Lanes.lean ====
section
/-! DEFINITION. Serial lanes (R374 to R398, R406 to R408): references, bring-up and its losses, adaptation, test tools; the enable of
ports and links (R128, R399, R405). The state of a Skeltia link follows its lanes, so its going down stands here. -/

namespace Sys2Proof.Machine

def State.linkRun (s : State) (k : Nat) : LinkRun := tget (fun _ => {}) s.lanes.links k

def State.onLink (s : State) (k : Nat) (u : LinkRun → LinkRun) : State :=
  { s with lanes := { s.lanes with links := tput (fun _ => {}) k (u (s.linkRun k)) s.lanes.links } }

/-- STATE of a lane (Table 13.4). -/
def State.laneState (s : State) (l : Nat) : Nat := s.reg R.lane_STATE l

/-- The lane enters a state now; training begins with the coefficients of TX_FIR. -/
def State.laneTo (s : State) (l st : Nat) : State :=
  (s.setReg R.lane_STATE l st).onLane l fun r =>
    { r with since := s.mono, tried := s.mono, rateIdx := if st = 5 then 0 else r.rateIdx, fir := [], spoilt := false }

/-! ### Groups -/

/-- The lanes of Skeltia link `k`: WIDTH lanes from `k` on. -/
def State.linkLanes (s : State) (k : Nat) : List Nat := (List.range (s.reg R.link_WIDTH k)).map fun i => k + i

/-- The first lanes of the groups that could hold lane `l`. -/
def groupStarts (l : Nat) : List Nat := [l, l - l % 2, l - l % 4, l - l % 8]

/-- The enabled link to which lane `l` belongs. -/
def State.linkOf (s : State) (l : Nat) : Option Nat :=
  (groupStarts l).find? fun k => s.on R.link_ENABLE k && (s.linkLanes k).contains l

/-- The enabled port to which lane `l` belongs. -/
def State.portOf (s : State) (l : Nat) : Option Nat :=
  (groupStarts l).find? fun p => s.on R.eth_ENABLE p && (s.portLanes p).contains l

/-- The bonded group of lane `l`: its port, its link, or the lane alone. -/
def State.laneGroup (s : State) (l : Nat) : List Nat :=
  match s.linkOf l, s.portOf l with
  | some k, _ => s.linkLanes k
  | none, some p => s.portLanes p
  | none, none => [l]

/-! ### Leaving a state -/

/-- A 48-bit counter raised by `n`, saturating. -/
def State.add48 (s : State) (r : Reg) (l n : Nat) : State := s.setReg r l (min (s.reg r l + n) (2 ^ 48 - 1))

/-- The ten SDI rates in the order they are tried (R384). -/
def sdiRates : List (Nat × Nat) :=
  [1485000, 2970000, 5940000, 11880000, 23760000].flatMap fun r => [(r, 1), (r, 1001)]

/-- The rate at which the receiver of lane `l` works or is tried, with its divisor (R384). -/
def State.rxRate (s : State) (l : Nat) : Nat × Nat :=
  if s.reg R.lane_MODE l = 2 ∧ s.on R.lane_SDI_AUTO l then (sdiRates[(s.laneRun l).rateIdx]?).getD (1485000, 1)
  else (s.reg R.lane_LINE_RATE l, s.reg R.lane_RATE_DEN l)

/-- Near-end loopback: the receiver hears the lane's own transmitter (R407). -/
def State.looped (s : State) (l : Nat) : Bool := s.reg R.lane_LOOPBACK l == 1

/-- The sequence that comes in may be the one selected: in near-end loopback it is the generator's, in its own polarity (R407). -/
def State.prbsHeard (s : State) (l : Nat) : Bool :=
  !s.looped l || (s.reg R.lane_PRBS_TX l == s.reg R.lane_PRBS_RX l && s.reg R.lane_TX_INVERT l == s.reg R.lane_RX_INVERTED l)

/-- The bits that a locked checker has counted and its registers do not hold yet, and the errors among them (R406): the line's, by the millisecond;
a checker that hears its own lane's generator finds none. -/
def State.prbsBits (s : State) (l : Nat) : Nat := (s.mono - (s.laneRun l).prbsFrom) * (s.rxRate l).1 / ((s.rxRate l).2 * 1000000)
/-- [DESIGN CHOICE, log 108: safe] -/
def State.prbsErrors (s : State) (l : Nat) : Nat :=
  let m := (s.laneRun l).prbsFrom / 1000000
  if s.looped l && s.prbsHeard l then 0
  else min (s.prbsBits l) ((List.range (s.mono / 1000000 - m)).map fun i => Config.lineErrors l (m + 1 + i)).sum

/-- The counts so far go into the registers, with at least `bits_` bits and `errors` errors more. -/
def State.holdPrbs (s : State) (l bits_ errors : Nat) : State :=
  if s.on R.lane_PRBS_LOCK l then
    ((s.add48 R.lane_PRBS_BITS l (max bits_ (s.prbsBits l))).add48 R.lane_PRBS_ERRORS l (s.prbsErrors l + errors)).onLane l fun r =>
      { r with prbsFrom := s.mono }
  else s

/-- The checker of a lane ends its lock (R406). -/
def State.endPrbs (s : State) (l bits_ errors : Nat) : State :=
  if s.on R.lane_PRBS_LOCK l then (s.holdPrbs l bits_ errors).setReg R.lane_PRBS_LOCK l 0 else s

/-- A lane that is not OFF or FENCED goes to state `st` (OFF, or SIGNAL_DETECT) and what its bring-up held is forgotten; from UP, event
0x2002 with the cause (R391). RATE of an SDI lane reads 0 again.
[DEDUCED, log 100: unsafe, DEDUCED, log 234: unsafe] -/
def State.dropLane (s : State) (l cause st : Nat) : State :=
  if s.laneState l = 0 ∨ s.laneState l = 12 then s
  else
    let s : State := if s.laneState l = 11 then s.raise 0x2002 (l + cause * 256) else s
    let s := ((s.setReg R.lane_GROUP_POS l 0xFF).setReg R.lane_FROZEN l 0).endPrbs l 0 0
    let s : State := if s.reg R.lane_MODE l = 2 then s.setReg R.sdi_RATE l 0 else s
    let s := s.onLane l fun r => { r with page := false, markers := [], resumed := none }
    s.laneTo l st

/-- A Skeltia link that is not DOWN goes DOWN with a cause (R405): its lanes return to SIGNAL_DETECT, its packets are dropped and counted,
events 0x2012 and 0x2014; its PEER sessions close (R433), and the view follows (R522).
[DEDUCED, log 101: unsafe, DEDUCED, log 104: unsafe] -/
def State.linkDown (s : State) (k cause : Nat) : State :=
  if s.reg R.link_STATE k = 0 then s
  else
    let s := s.each (s.linkLanes k) fun s l => s.dropLane l (if cause = 1 then 4 else 3) 1
    let r := s.linkRun k
    let n := r.replay.length + r.council.length + r.data.length + r.control.length
    let s := (((s.onLink k fun r => { raisedAt := r.raisedAt, row := r.row }).setReg R.link_STATE k 0).inc R.link_DOWN_COUNT k).add R.link_DROPPED k n
    let s := s.raise 0x2012 (k + cause * 256)
    let s : State := if n = 0 then s else s.raise 0x2014 (k + min n 0xFFFF * 256)
    (s.closeLinkSessions k).refreshView

/-- STATE of link `k` follows its lanes: it goes DOWN when one leaves UP; below UP it is TRAINING while all of them are past LISTENING. -/
def State.linkFollow (s : State) (k : Nat) : State :=
  let ls := s.linkLanes k
  if s.linkUp k then (if ls.all fun l => s.laneState l == 11 then s else s.linkDown k 0)
  else s.setReg R.link_STATE k (b2n (s.on R.link_ENABLE k && ls.all fun l => decide (5 ≤ s.laneState l) && decide (s.laneState l < 12)))

/-- What depends on lane `l` follows: LINK of its port, STATE of its link. -/
def State.laneFollow (s : State) (l : Nat) : State :=
  let s : State := match s.portOf l with | some p => s.portRefresh p | none => s
  match s.linkOf l with | some k => s.linkFollow k | none => s

/-- Lane `l` returns to SIGNAL_DETECT with a cause, and takes the lanes of its group with it (R389, R391). -/
def State.laneReturn (s : State) (l cause : Nat) : State :=
  let g := s.laneGroup l
  let s := s.dropLane l cause 1
  (s.each (g.filter fun x => x != l) fun s x => s.dropLane x 3 1).laneFollow l

/-- The quad of lane `l` is powered (Table 16.1); at Daybreak, from step 9 on (Table 17.2). -/
def State.lanePowered (s : State) (l : Nat) : Bool :=
  s.reg R.dom_STATE (4 + l / 4) == 0 && (s.phase != .daybreak || s.boot.done.contains 8)

/-- A present, powered lane starts its bring-up; outside SDI mode its transmitter sends (R388). -/
def State.laneStart (s : State) (l : Nat) : State :=
  if s.lanePresent l && s.lanePowered l && s.laneState l != 12 then
    let s : State := if s.reg R.lane_MODE l = 2 then s else s.setReg R.lane_TX_STATE l 1
    s.laneTo l 1
  else s

/-- A lane stops: it reads OFF, and a transmitter that is not SDI's is squelched. -/
def State.laneStop (s : State) (l cause : Nat) : State :=
  let s := s.dropLane l cause 0
  if s.reg R.lane_MODE l = 2 then s else s.setReg R.lane_TX_STATE l 0

/-- The receiver adapts its equaliser, or holds it frozen: in every state from CDR_LOCK onward (R396). -/
def State.adapting (s : State) (l : Nat) : Bool := decide (5 ≤ s.laneState l) && decide (s.laneState l ≤ 11)

/-- RX_EQ: the coefficients at work, of a receiver that adapts the line's.
[DESIGN CHOICE, log 106: safe] -/
def State.rxEq (s : State) (l : Nat) : List Byte :=
  if s.adapting l && !s.on R.lane_FROZEN l && (s.laneRun l).eqAt != some s.mono then leBytes 14 (Config.rxEq l s.mono)
  else padTo 14 (s.dom R.lane_RX_EQ l)

/-- Coefficients are loaded, or held. -/
def State.setEq (s : State) (l : Nat) (eq : List Byte) : State := (s.setDom R.lane_RX_EQ l eq).onLane l fun r => { r with eqAt := some s.mono }

/-- MARGIN of a receiver at work is the estimate of the last update, one every 100 µs (R408).
[DESIGN CHOICE, log 106: safe] -/
def State.margin (s : State) (l : Nat) : Nat :=
  if s.adapting l && (s.laneRun l).marginAt != some (s.mono / 100000) then Config.margin l (s.mono / 100000) % 256 else s.reg R.lane_MARGIN l

/-- A lane reaches UP: ATTEMPTS clears, its current coefficients are saved, event 0x2001 (R390, R397). -/
def State.laneUp (s : State) (l : Nat) : State :=
  let eq := s.rxEq l
  let s := ((s.setEq l eq).setDom R.lane_SAVED_EQ l eq).setReg R.lane_ATTEMPTS l 0
  let s := (s.laneTo l 11).onLane l fun r => { r with warned := false, eqFrom := s.mono, eqBad := s.on R.lane_FROZEN l }
  (s.inc R.lane_UP_COUNT l).raise 0x2001 l

/-! ### References and fences (R375, R376) -/

/-- A reference pair is lost: the lanes clocked from it leave UP (R375, R391).
[DESIGN CHOICE, log 109: safe] -/
def opReferenceLoss (t j : Nat) (s : State) : State :=
  let s := s.advanceTo t
  if !s.on R.rp_PRESENT j then s
  else
    let s := ((s.setReg R.rp_PRESENT j 0).inc R.rp_LOSSES j).setReg R.rp_FREQ_KHZ j (s.freeBits 32)
    let s := s.took.raise 0x2009 j
    s.each ((List.range 16).map fun i => 16 * j + i) fun s l =>
      if s.reg R.lane_TX_REF l = 0 ∧ s.reg R.lane_MODE l ≠ 0 ∧ 3 ≤ s.laneState l ∧ s.laneState l ≤ 11 then s.laneReturn l 2 else s

/-- A lost pair is back within 100 MHz to 400 MHz (R375).
[DESIGN CHOICE, log 109: safe] -/
def opReferencePairReturn (j khz : Nat) (s : State) : State :=
  if s.on R.rp_PRESENT j || decide (khz < 100000) || decide (400000 < khz) then s
  else (s.setReg R.rp_PRESENT j 1).setReg R.rp_FREQ_KHZ j khz

/-- Lane `l` leaves service: UP ends with a cause, its group falls, its presence bit clears and STATE reads FENCED (R376, R9). -/
def State.laneGone (s : State) (l cause : Nat) : State :=
  if s.lanePresent l then
    let g := s.laneGroup l
    let s := s.dropLane l cause 1
    let s := (s.laneTo l 12).setReg R.lane_PRESENT l 0
    let s := s.absent (laneBit l).1 (laneBit l).2
    (s.each (g.filter fun x => x != l) fun s x => s.dropLane x 3 1).laneFollow l
  else s

/-- The transmit PLL fails its third attempt on a present reference (R376). -/
def opTxPllLockFail (l : Nat) (s : State) : State :=
  let refOk := s.reg R.lane_TX_REF l == 1 || s.on R.rp_PRESENT (l / 16)
  if refOk && s.lanePresent l then (s.laneGone l 1).raise 0x2006 l else s

/-- A write of 1 to RETIRE (R376, R10). -/
def opLaneRetire (w : Who) (l : Nat) (s : State) : State :=
  s.writeAs w R.lane_RETIRE l true fun s =>
    let s : State := { s with lanes := { s.lanes with retired := insertNat l s.lanes.retired } }
    (s.laneGone l 4).ok

/-! ### Bring-up (R381 to R394) -/

/-- The PHY of lane `l` has auto-negotiation and training (R380).
[DEDUCED, log 235: safe] -/
def State.laneTrains (s : State) (l : Nat) : Bool :=
  s.reg R.lane_MODE l == 1 && (s.portOf l).any fun p => portTrains (s.reg R.eth_TYPE p) (s.reg R.lane_MEDIUM l)

/-- Lane `l` negotiates, and trains. -/
def State.laneAn (s : State) (l : Nat) : Bool := s.laneTrains l && s.on R.lane_AN_ENABLE l
def State.laneTraining (s : State) (l : Nat) : Bool := s.laneTrains l && s.on R.lane_TRAIN_ENABLE l

/-- The state after auto-negotiation: TRAINING when enabled on a PHY that has it, else CDR_LOCK (R380). -/
def State.afterAn (s : State) (l : Nat) : Nat := if s.laneTraining l then 4 else 5

/-- The signal on lane `l`'s receiver has an amplitude in mV, by which it is present or absent (R567). -/
def State.hearSignal (s : State) (l mv : Nat) : State := s.onLane l fun r => { r with swing := mv, present := signalPresent r.present mv }

/-- Signal has been present for 4 µs (R388): in SIGNAL_DETECT counted from its entry; its amplitude is above the detect threshold (R567).
[DEDUCED, log 232: unsafe, DESIGN CHOICE, log 291: safe] -/
def opSignalDetected (t l : Nat) (s : State) : State :=
  let s := s.advanceTo t
  let s := s.took.hearSignal l (86 + s.freeBits 11)
  if (s.laneState l = 1 ∧ (s.laneRun l).since + 4000 ≤ s.mono) ∨ s.laneState l = 2 then
    (s.laneTo l (if s.laneAn l then 3 else s.afterAn l)).laneFollow l
  else s

/-- A page of the port's PHY on its first or last lane: the negotiation succeeds for the group (R380, R381). -/
def opAnPageReceive (t l : Nat) (valid : Bool) (s : State) : State :=
  let s := s.advanceTo t
  let g := s.laneGroup l
  if valid && s.laneState l == 3 && (g.head? == some l || g.getLast? == some l) then
    let s := s.onLane l fun r => { r with page := true }
    s.each (g.filter fun x => s.laneState x == 3) fun s x => s.laneTo x (s.afterAn x)
  else s

/-- Link training is finished (R380); the polarity it read from the training frame marker is the line's (R382).
[DESIGN CHOICE, log 233: safe] -/
def opTrainingComplete (t l : Nat) (s : State) : State :=
  let s := s.advanceTo t
  if s.laneState l = 4 then ((s.setReg R.lane_RX_INVERTED l (s.freeBits 1)).took).laneTo l 5 else s

/-- Clock lock (Table 13.4). -/
def opClockLockAchieved (t l : Nat) (s : State) : State :=
  let s := s.advanceTo t
  if s.laneState l = 5 then
    match s.reg R.lane_MODE l with
    | 1 => s.laneTo l 6
    | 2 => s.laneTo l 7
    | 3 => s.laneTo l 8
    | _ => s.laneUp l
  else s

/-- No block lock after 1 ms: the receive polarity is inverted (R382). -/
def opPolarityToggle (t l : Nat) (s : State) : State :=
  let s := s.advanceTo t
  if s.laneState l = 6 ∧ (s.laneRun l).tried + 1000000 ≤ s.mono then
    (s.setReg R.lane_RX_INVERTED l (1 - s.reg R.lane_RX_INVERTED l)).onLane l fun r => { r with tried := s.mono }
  else s

/-- The group has block, FEC and alignment lock with its polarity found: every lane goes UP, and LINK with them (R382, R128). -/
def opBlockLockAchieved (t l : Nat) (s : State) : State :=
  let s := s.advanceTo t
  let g := s.laneGroup l
  if g.all fun x => s.laneState x == 6 then (s.each g fun s x => s.laneUp x).laneFollow l else s

/-- 1 ms without lock: the receiver tries the next SDI rate (R384). -/
def opSdiRateTry (t l : Nat) (s : State) : State :=
  let s := s.advanceTo t
  if s.laneState l = 5 ∧ s.reg R.lane_MODE l = 2 ∧ s.on R.lane_SDI_AUTO l ∧ (s.laneRun l).rateIdx < 9 ∧
      (s.laneRun l).tried + 1000000 ≤ s.mono then
    s.onLane l fun r => { r with rateIdx := r.rateIdx + 1, tried := s.mono }
  else s

/-- RATE of 0x2300 for a line rate: at 3G the level found, A or B-DL (R383). -/
def sdiRateCode (rate : Nat) (levelB : Bool) : Nat :=
  if rate = 1485000 then 1 else if rate = 2970000 then (if levelB then 3 else 2)
  else if rate = 5940000 then 4 else if rate = 11880000 then 5 else 6

/-- The words of an SDI lane are aligned: its rate and level are reported, and it is UP (R383). -/
def opWordLockAchieved (t l : Nat) (levelB : Bool) (s : State) : State :=
  let s := s.advanceTo t
  if s.laneState l = 7 then
    ((s.setReg R.sdi_RATE l (sdiRateCode (s.rxRate l).1 levelB)).setReg R.lane_RX_INVERTED l 0).laneUp l
  else s

/-- Timeout of a state, in ns (Table 13.5). -/
def State.laneTimeout (s : State) (l : Nat) : Nat :=
  match s.laneState l with
  | 3 => 500000000
  | 4 => if s.reg R.lane_MODULATION l = 1 then 3000000000 else 500000000
  | 5 => if s.reg R.lane_MODE l = 2 ∧ s.on R.lane_SDI_AUTO l then 10000000 else 1000000
  | 8 | 9 => 1000000
  | _ => 10000000

/-- When the state of lane `l` began, for a group state when the group's first lane entered it (R389). -/
def State.stateBegan (s : State) (l : Nat) : Nat :=
  let own := (s.laneRun l).since
  if [3, 6, 9, 10].contains (s.laneState l) then
    (((s.laneGroup l).filter fun x => s.laneState x == s.laneState l).map fun x => (s.laneRun x).since).foldl min own
  else own

/-- ATTEMPTS rises; event 0x2005 once when it reaches 100 (R390). -/
def State.laneAttempt (s : State) (l : Nat) : State :=
  let s := s.inc R.lane_ATTEMPTS l
  if 100 ≤ s.reg R.lane_ATTEMPTS l ∧ !(s.laneRun l).warned then
    (s.onLane l fun r => { r with warned := true }).raise 0x2005 l
  else s

/-- A bring-up state times out (R389, R390, Table 13.5). -/
def opBringupTimeout (t l : Nat) (s : State) : State :=
  let s := s.advanceTo t
  let st := s.laneState l
  if st = 0 ∨ 11 ≤ st ∨ s.mono < s.stateBegan l + s.laneTimeout l then s
  else
    let s : State := if st ≤ 2 then s.laneTo l 2 else s.laneReturn l 3
    (s.laneAttempt l).raise 0x2003 (l + st * 256)

/-- A lane loses signal, its amplitude below 50 mV (R567), or lock or its reference (R391).
[DESIGN CHOICE, log 291: safe] -/
def opLaneLoss (t l : Nat) (c : LossCause) (s : State) : State :=
  let s := s.advanceTo t
  if 3 ≤ s.laneState l ∧ s.laneState l ≤ 11 then
    match c with
    | .signal => ((s.took.hearSignal l (s.freeBits 11 % 50)).inc R.lane_LOS_COUNT l).laneReturn l 0
    | .lock => s.laneReturn l 1
    | .reference => s.laneReturn l 2
  else s

/-! ### Markers, deskew and handshake (R386, R392 to R394) -/

/-- Byte `i` of a block. -/
def blockByte (b i : Nat) : Nat := b / 256 ^ i % 256

/-- A control block of a type with a correct CRC-8. -/
def controlBlock (ty header b : Nat) : Bool := header == 2 && blockByte b 0 == ty && blockByte b 7 == blockCrc b

/-- A BOUNDARY block (Table 13.3). -/
def isBoundary (header b : Nat) : Bool :=
  controlBlock 0x2D header b && blockByte b 1 == 0x3C && blockByte b 2 == 0xC3 && blockByte b 3 == 0x5A

/-- A BOUNDARY as received on a pair of a modulation: the block restored, and whether the pair is inverted (R392). -/
def boundarySeen (pam4 : Bool) (header b : Nat) : Option (Nat × Bool) :=
  if isBoundary header b then some (b, false)
  else
    let restored := if pam4 then b ^^^ 0x5555555555555555 else (2 ^ 64 - 1) ^^^ b
    if header == (if pam4 then 0 else 1) && isBoundary 2 restored then some (restored, true) else none

/-- A BOUNDARY is found at a bit position of the received stream (R392): two at one alignment, 16,384 blocks apart, lock the lane. One
received inverted turns the polarity, and the search goes on at its alignment alone. -/
def opBoundaryReceive (t l position header block : Nat) (s : State) : State :=
  let s := s.advanceTo t
  if s.laneState l ≠ 8 then s
  else match boundarySeen (s.reg R.lane_MODULATION l == 1) header block with
    | none => s
    | some (b, inverted) =>
      let s : State := if inverted then s.setReg R.lane_RX_INVERTED l (1 - s.reg R.lane_RX_INVERTED l) else s
      let seen := (s.laneRun l).markers.filter fun m => decide (position ≤ m + 16384 * 66)
      let second := seen.contains (position - 16384 * 66) && decide (16384 * 66 ≤ position)
      let s := s.onLane l fun r => { r with
        markers := if inverted then [position] else seen ++ [position],
        width := blockByte b 4 / 16 % 4, ident := blockByte b 5 % 8, link := blockByte b 6 }
      if second then ((s.setReg R.lane_GROUP_POS l (blockByte b 4 % 8)).laneTo l 9).laneFollow l else s

/-- The width code of a link (Table 13.3). -/
def widthCode (w : Nat) : Nat := match w with | 1 => 0 | 2 => 1 | 4 => 2 | _ => 3

/-- The markers of a link's lanes agree with one another and with its width, and their positions are complete (R393). -/
def State.markersAgree (s : State) (k : Nat) : Bool :=
  let ls := s.linkLanes k
  let r := s.laneRun k
  (List.range ls.length).all (fun i => ls.any fun l => s.reg R.lane_GROUP_POS l == i) &&
  ls.all fun l => (s.laneRun l).width == widthCode ls.length && (s.laneRun l).ident == r.ident && (s.laneRun l).link == r.link

/-- Every lane of the group has MARKER_LOCK, and the group aligns (R393). -/
def opDeskewComplete (t k skew : Nat) (s : State) : State :=
  let s := s.advanceTo t
  let ls := s.linkLanes k
  if s.on R.link_ENABLE k && ls.all (fun l => s.laneState l == 9) && s.markersAgree k && decide (skew ≤ 64) then
    let s := (s.setReg R.link_SKEW k skew).onLink k fun r => { r with ready := 0 }
    (s.each ls fun s l => s.laneTo l 10).linkFollow k
  else s

/-- The link reaches UP (R394): numbers start at 0, the partner is recorded, event 0x2011. -/
def State.linkRise (s : State) (k : Nat) : State :=
  let r := s.laneRun k
  let s := s.each (s.linkLanes k) fun s l => s.laneUp l
  let s := s.onLink k fun x => { council := x.council, data := x.data, control := x.control, raisedAt := x.raisedAt, row := x.row, fillerAt := x.fillerAt }
  let s := ((s.setReg R.link_STATE k 2).setReg R.link_PARTNER_ID k r.ident).setReg R.link_PARTNER_LINK k r.link
  (s.raise 0x2011 (k + r.ident * 256)).refreshView

/-- Time in which a link sends 4 READY blocks of a lane (R394). -/
def State.handshakeNs (s : State) (k : Nat) : Nat := blocksNs 4 (s.reg R.lane_LINE_RATE k)

/-- A control block of a known type with a correct CRC-8 (Table 13.3); another is a block error (R386). -/
def blockKnown (b : Nat) : Bool := [0x2D, 0x33, 0x1E, 0x4B, 0x78, 0x87, 0x55, 0x66].any fun ty => controlBlock ty 2 b

/-- A block error of link `k` is counted on the lane that brought the block, which the commands do not name.
[DESIGN CHOICE, log 263: safe] -/
def State.blockError (s : State) (k : Nat) : State := s.took.inc R.lane_HEADER_ERRORS (k + s.freeBits 8 % max 1 (s.reg R.link_WIDTH k))

/-- A TRAIN block in HANDSHAKE (R394): the fourth in a row with READY or UP and the link's own width takes the link UP, once it has itself
sent 4 READY blocks. -/
def opTrainBlockReceive (t k block : Nat) (s : State) : State :=
  let s := s.advanceTo t
  if s.on R.link_ENABLE k && (s.linkLanes k).all fun l => s.laneState l == 10 then
    let ok := controlBlock 0x4B 2 block && (blockByte block 1 == 1 || blockByte block 1 == 2) &&
      blockByte block 3 == widthCode (s.reg R.link_WIDTH k)
    let s : State := if blockKnown block then s else s.blockError k
    let s := s.onLink k fun r => { r with ready := if ok then r.ready + 1 else 0 }
    if 4 ≤ (s.linkRun k).ready ∧ (s.laneRun k).since + s.handshakeNs k ≤ s.mono then s.linkRise k else s
  else s

/-- The least time between two FILLER rows, 4,096 blocks of a partner whose reference is at most 200 ppm above the local one (R387, R395). -/
def fillerNs (rate : Nat) : Nat := 4096 * 66 * 1000000 * 10000 / (rate * 10002)

/-- A FILLER row reaches the elastic buffer (R395); how many rows it holds is the clocks', a free value of 0 to 16.
[DESIGN CHOICE, log 107: safe] -/
def opFillerRowArrive (k : Nat) (s : State) : State :=
  if (s.linkLanes k).all fun l => decide (10 ≤ s.laneState l) && decide (s.laneState l ≤ 11) then
    let s := s.waitUntil ((s.linkRun k).fillerAt.elim 0 fun t => t + fillerNs (s.reg R.lane_LINE_RATE k))
    let s := s.onLink k fun r => { r with fillerAt := some s.mono }
    let rows := Config.freeValue s.free % 17
    let s := s.took
    if 12 < rows then s.inc R.link_FILLERS_DELETED k else if rows < 4 then s.inc R.link_FILLERS_INSERTED k else s
  else s

/-! ### Adaptation (R396 to R398) -/

/-- Adaptation freezes (R396): the coefficients it has found are held. -/
def opAdaptationFreeze (l : Nat) (s : State) : State :=
  if s.adapting l && !s.on R.lane_FROZEN l then
    let s := (s.setEq l (s.rxEq l)).setReg R.lane_FROZEN l 1
    s.onLane l fun r => { r with eqBad := true, resumed := none }
  else s

def opAdaptationResume (t l : Nat) (s : State) : State :=
  let s := s.advanceTo t
  if s.adapting l && s.on R.lane_FROZEN l then
    (s.setReg R.lane_FROZEN l 0).onLane l fun r => { r with resumed := some s.mono }
  else s

/-- The margin is read 4 µs after adaptation resumes: a low one loads SAVED_EQ, event 0x2004 (R398). -/
def opMarginCheck (l margin : Nat) (s : State) : State :=
  match (s.laneRun l).resumed with
  | none => s
  | some t =>
    let s := s.waitUntil (t + 4000)
    let s := (s.setReg R.lane_MARGIN l margin).onLane l fun r => { r with resumed := none, marginAt := some (s.mono / 100000) }
    if margin < s.reg R.lane_MARGIN_MIN l then
      let s := s.onLane l fun r => { r with eqBad := true }
      ((s.setEq l (s.dom R.lane_SAVED_EQ l)).inc R.lane_REVERTS l).raise 0x2004 l
    else s

/-- The margin of update `i`.
[DESIGN CHOICE, log 106: safe] -/
def State.marginAt (s : State) (l i : Nat) : Nat :=
  if (s.laneRun l).marginAt = some i then s.reg R.lane_MARGIN l else Config.margin l i % 256

/-- MARGIN stayed at or above MARGIN_MIN throughout the millisecond from `t` on: at the update in force when it begins and at those within it. -/
def State.marginStayed (s : State) (l t : Nat) : Bool :=
  (List.range ((t + 999999) / 100000 + 1 - t / 100000)).all fun i => decide (s.reg R.lane_MARGIN_MIN l ≤ s.marginAt l (t / 100000 + i))

/-- A millisecond of UP ends (R397): a known-good one saves the coefficients.
[DESIGN CHOICE, log 106: safe] -/
def opEqSave (l : Nat) (eq : List Byte) (s : State) : State :=
  if s.laneState l = 11 then
    let s := s.waitUntil ((s.laneRun l).eqFrom + 1000000)
    let good := !(s.laneRun l).eqBad && !s.on R.lane_FROZEN l && s.marginStayed l (s.mono - 1000000)
    let s := s.onLane l fun r => { r with
      eqFrom := r.eqFrom + (s.mono - r.eqFrom) / 1000000 * 1000000, eqBad := s.on R.lane_FROZEN l }
    if good then (s.setEq l eq).setDom R.lane_SAVED_EQ l eq else s
  else s

/-! ### Test tools (R406, R408) -/

def opPrbsClear (w : Who) (l : Nat) (s : State) : State :=
  s.writeAs w R.lane_PRBS_CLEAR l true fun s =>
    (((s.setReg R.lane_PRBS_BITS l 0).setReg R.lane_PRBS_ERRORS l 0).onLane l fun r => { r with prbsFrom := s.mono }).ok

/-- The checker locks after 64 error-free bits; only in TEST mode with a sequence selected. -/
def opPrbsLock (l : Nat) (s : State) : State :=
  if s.reg R.lane_MODE l = 4 ∧ s.laneState l = 11 ∧ s.on R.lane_PRBS_RX l ∧ !s.on R.lane_PRBS_LOCK l ∧ s.prbsHeard l then
    (s.setReg R.lane_PRBS_LOCK l 1).onLane l fun r => { r with prbsFrom := s.mono }
  else s

/-- The checker loses lock after more than 256 errors in 1,024 bits (R406). -/
def opPrbsLockLoss (l : Nat) (s : State) : State := if s.looped l && s.prbsHeard l then s else s.endPrbs l 257 257

/-- LOOPBACK is written (R407). -/
def State.setLoopback (s : State) (l v : Nat) : State := ((s.holdPrbs l 0 0).setReg R.lane_LOOPBACK l v).ok

/-- PRBS_TX is written: the generator starts with the sequence chosen, at a place of it that the rule does not give.
[DESIGN CHOICE, log 284: safe] -/
def State.setPrbsTx (s : State) (l v : Nat) : State :=
  let seed := 1 + s.freeBits 32 % (2 ^ (prbsTaps v).1 - 1)
  (((s.took.holdPrbs l 0 0).setReg R.lane_PRBS_TX l v).onLane l fun r => { r with prbsReg := seed }).ok

/-- PRBS_RX is written: the checker starts over with the sequence chosen. -/
def State.setPrbsRx (s : State) (l v : Nat) : State := ((s.endPrbs l 0 0).setReg R.lane_PRBS_RX l v).ok

/-- A write to EYE_SCAN starts a point (R408). -/
def opEyeScan (w : Who) (l : Nat) (raw : List Byte) (s : State) : State :=
  let phase := toSigned 8 (leAt raw 0 1)
  let dwell := leAt raw 2 1
  let ok := decide (-32 ≤ phase) && decide (phase ≤ 31) && leAt raw 1 1 != 128 && decide (10 ≤ dwell) && decide (dwell ≤ 40)
  s.writeChecked w R.lane_EYE_SCAN l (raw.length == 3) ok fun s =>
    ((s.setDom R.lane_EYE_SCAN l (raw ++ List.replicate 17 0)).onLane l fun r => { r with scanAt := s.mono }).ok

/-- The dwell ends, so many bits after the write, or after the lane has entered UP (R408).
[DEDUCED, log 262: unsafe] -/
def opEyeScanComplete (l errors bits_ : Nat) (s : State) : State :=
  let x := s.dom R.lane_EYE_SCAN l
  if s.laneState l = 11 ∧ x.length = 20 ∧ leAt x 19 1 = 0 then
    let s := s.waitUntil (max (s.laneRun l).scanAt (s.laneRun l).since + ceilDiv (2 ^ leAt x 2 1 * 1000000 * (s.rxRate l).2) (s.rxRate l).1)
    s.setDom R.lane_EYE_SCAN l (x.take 3 ++ leBytes 8 errors ++ leBytes 8 bits_ ++ [1])
  else s

/-! ### Configuration (R377, R378, R407) -/

/-- Whether a lane belongs to an enabled port or link, or an SDI flow that is not OFF (R377). -/
def State.laneBusy (s : State) (l : Nat) : Bool :=
  (s.portOf l).isSome || (s.linkOf l).isSome || (s.sdiFlow l 0).isSome || (s.sdiFlow l 1).isSome

/-- The combinations of Tables 13.1 and 13.2. -/
def laneCombination (mode rate den mod ref : Nat) : Bool :=
  let nrz := mod == 0
  match mode with
  | 0 => (den == 1 || den == 1001) && (if nrz then decide (1250000 ≤ rate) && decide (rate ≤ 28125000)
      else decide (20000000 ≤ rate) && decide (rate ≤ 56250000))
  | 1 => den == 1 && ref == 0 && (if nrz then rate == 10312500 || rate == 25781250 else rate == 53125000)
  | 2 => nrz && ref == 1 && (den == 1 || den == 1001) && [1485000, 2970000, 5940000, 11880000, 23760000].contains rate
  | 3 => den == 1 && (if nrz then decide (10312500 ≤ rate) && decide (rate ≤ 28125000)
      else decide (20000000 ≤ rate) && decide (rate ≤ 56250000))
  | 4 => (den == 1 || den == 1001) && (if nrz then decide (1250000 ≤ rate) && decide (rate ≤ 28125000)
      else decide (20000000 ≤ rate) && decide (rate ≤ 56250000))
  | _ => false

/-- Whether lane `l` with subindex `sub` at `v` is a permitted combination (R377). -/
def State.laneValueOk (s : State) (l sub v : Nat) : Bool :=
  let pick (r : Reg) := if r.ref % 256 = sub then v else s.reg r l
  laneCombination (pick R.lane_MODE) (pick R.lane_LINE_RATE) (pick R.lane_RATE_DEN) (pick R.lane_MODULATION) (pick R.lane_TX_REF)

/-- MODE is written (Table 13.4, R390). -/
def State.setLaneMode (s : State) (l v : Nat) : State :=
  let s := s.laneStop l 4
  let s := ((s.setReg R.lane_MODE l v).setReg R.lane_ATTEMPTS l 0).setReg R.lane_RX_INVERTED l 0
  let s := s.setReg R.lane_TX_STATE l 0
  if v = 2 ∨ v = 4 then s.laneStart l else s

/-- TX_FIR: four signed coefficients whose magnitudes sum to at most 64 (R378). -/
def firOk (b : List Byte) : Bool := decide ((b.map fun x => (toSigned 8 x.toNat).natAbs).sum ≤ 64)

/-! ### Ports and links -/

/-- A write to ENABLE of port `p` (R128); a port of TYPE 8 needs MEDIUM 0 (R380).
[DEDUCED, log 100: unsafe, DEDUCED, log 235: safe] -/
def opPortEnable (w : Who) (p : Nat) (on : Bool) (s : State) : State :=
  s.writeAs w R.eth_ENABLE p true fun s =>
    if s.on R.eth_ENABLE p == on then s.ok
    else if on then
      match portType (s.reg R.eth_TYPE p) with
      | none => s.resource
      | some ty =>
        let ls := s.portLanes p
        if ls.all fun l => s.lanePresent l && s.reg R.lane_MODE l == 1 && s.reg R.lane_LINE_RATE l == ty.rate && (s.portOf l).isNone &&
            (ty.lanes != 8 || s.reg R.lane_MEDIUM l == 0) then
          ((s.setReg R.eth_ENABLE p 1).each ls fun s l => s.laneStart l).ok
        else s.resource
    else
      let ls := s.portLanes p
      let s := s.each ls fun s l => s.laneStop l 4
      let s := s.setReg R.eth_ENABLE p 0
      (s.portRefresh p).ok

/-- CAPACITY of a link (R400), in kB/s.
[DEDUCED, log 103: unsafe] -/
def linkCapacity (w rate : Nat) : Nat := w * rate * 64 * 16379 * 256 / (66 * 16384 * 258 * 8)

/-- A write to ENABLE of link `k` (R399, R405).
[DEDUCED, log 101: unsafe, DEDUCED, log 102: unsafe, DEDUCED, log 103: unsafe] -/
def opLinkEnable (w : Who) (k : Nat) (on : Bool) (s : State) : State :=
  s.writeAs w R.link_ENABLE k true fun s =>
    if s.on R.link_ENABLE k == on then s.ok
    else
      let ls := s.linkLanes k
      if on then
        let rate := s.reg R.lane_LINE_RATE k
        if ls.all fun l => s.lanePresent l && s.reg R.lane_MODE l == 3 && s.reg R.lane_LINE_RATE l == rate && (s.linkOf l).isNone then
          let s := (s.setReg R.link_ENABLE k 1).setReg R.link_CAPACITY k (linkCapacity ls.length rate)
          (s.each ls fun s l => s.laneStart l).ok
        else s.resource
      else
        let s := (s.linkDown k 1).setReg R.link_ENABLE k 0
        let s := s.each ls fun s l => s.dropLane l 4 1
        ((s.setReg R.link_STATE k 0).setReg R.link_CAPACITY k 0).ok

/-! ### Power (R464, R469) -/

/-- Lanes leave UP together with cause 4 (command), and then their ports and links go DOWN (R469). -/
def State.lanesOff (s : State) (ls : List Nat) : State := (s.each ls fun s l => s.laneStop l 4).each ls State.laneFollow

/-- The lanes of quad `q` lose power: they read OFF. -/
def State.quadOff (s : State) (q : Nat) : State := s.lanesOff ((List.range 4).map fun i => 4 * q + i)

/-- Lanes of enabled ports and links and of SDI flows start again when their quad is powered (R470). -/
def State.quadOn (s : State) (q : Nat) : State :=
  s.each ((List.range 4).map fun i => 4 * q + i) fun s l =>
    if s.laneBusy l then s.laneStart l else s

end Sys2Proof.Machine
end

