-- ==== Sys2Proof/Machine/Links.lean ====
section
/-! DEFINITION. The link layer of a Skeltia link (R399 to R405): channels, replay, duplicates, acknowledgements. The block a command
sends is its reply: START, data and END blocks for a packet (payload bytes of each block), the ACK or NAK block; a delivered packet is
the reply 0x01 with CHANNEL and payload. -/

namespace Sys2Proof.Machine

/-- A packet payload: padded with zeros to a multiple of 8 bytes (R399, R422). -/
def packetPayload (l : List Byte) : List Byte := padTo (ceilDiv l.length 8 * 8) l

/-- A packet joins its channel on link `k`; a link that is DOWN takes none. -/
def State.queuePacket (s : State) (k channel : Nat) (l : List Byte) : State :=
  if s.linkUp k then
    let p := packetPayload l
    s.onLink k fun r => match channel with
      | 0 => { r with control := r.control ++ [p] }
      | 1 => { r with council := r.council ++ [p] }
      | _ => { r with data := r.data ++ [p] }
  else s

/-- The next packet by channel precedence: COUNCIL, DATA, CONTROL (R399). -/
def LinkRun.nextPacket (r : LinkRun) : Option (Nat × List Byte × LinkRun) :=
  match r.council, r.data, r.control with
  | p :: t, _, _ => some (1, p, { r with council := t })
  | [], p :: t, _ => some (2, p, { r with data := t })
  | [], [], p :: t => some (0, p, { r with control := t })
  | [], [], [] => none

/-- Bytes the replay buffer holds. -/
def LinkRun.held (r : LinkRun) : Nat := (r.replay.map fun p => p.payload.length).sum

/-- A council message as it leaves (R521): T_SEND is now, T_HELD the time since the arrival of the message it echoes. Until then the
model keeps that arrival in the place of T_SEND.
[DEDUCED, log 174: unsafe] -/
def State.stampCouncil (s : State) (channel : Nat) (l : List Byte) : List Byte :=
  if channel ≠ 1 then l
  else
    let arrival := leAt l 20 4 + leAt l 24 6 * 1000000000
    let held := if (slice l 32 10).all (fun b => b == 0) then 0 else (s.mono - arrival) % 2 ^ 32
    l.take 20 ++ time80 s.now ++ slice l 30 14 ++ leBytes 4 held ++ l.drop 48

/-- Blocks that a command sends join those waiting for the rows of link `k` (R387, R399); an ACK or NAK goes ahead of them (Table 13.3). -/
def State.streamOut (s : State) (k : Nat) (l : List (Nat × Nat)) (first : Bool) : State :=
  s.onLink k fun r => { r with line := if first then l ++ r.line else r.line ++ l }

/-- A packet leaves: its blocks are the answer, and wait for their rows. -/
def State.packetOut (s : State) (k : Nat) (l : List Byte) : State := (s.streamOut k (packetLine l) false).answerWith l

/-- An ACK or NAK block leaves. -/
def State.blockOut (s : State) (k b : Nat) : State := (s.streamOut k [(2, b)] true).answerWith (leBytes 8 b)

/-- Event 0x2013, at most once per ms per link. -/
def State.raiseReplay (s : State) (k : Nat) : State :=
  if (s.linkRun k).raisedAt.any fun t => decide (s.mono < t + 1000000) then s
  else (s.onLink k fun r => { r with raisedAt := some s.mono }).raise 0x2013 k

/-- The packet at position `i` of the replay buffer is sent again (R403): counted, and the eighth time takes the link DOWN. -/
def State.sendAgain (s : State) (k i : Nat) : State :=
  match (s.linkRun k).replay[i]? with
  | none => s
  | some p =>
    let p : SentPacket := { p with sentAt := s.mono, again := p.again + 1, resend := false }
    let s := s.onLink k fun r => { r with replay := upd r.replay i fun _ => p }
    let s := (s.inc R.link_REPLAYS k).raiseReplay k
    let s := s.packetOut k (packetBlocks p.seq p.channel (s.stampCouncil p.channel p.payload))
    if 8 ≤ p.again then s.linkDown k 2 else s

/-- The link starts its next packet: one to be sent again first, else the next of its channels while the replay buffer has room (R399,
R401). -/
def opPacketSend (t k : Nat) (s : State) : State :=
  let s := (s.advanceTo t).silent
  let r := s.linkRun k
  if !s.linkUp k then s
  else match r.replay.findIdx? fun p => p.resend with
    | some i => s.sendAgain k i
    | none =>
      match r.nextPacket with
      | none => s
      | some (c, p, r) =>
        if 256 ≤ r.replay.length ∨ 524288 < r.held + p.length then s
        else
          let sent : SentPacket := ⟨r.nextSeq, c, p, s.mono, 0, false⟩
          let s := s.onLink k fun _ => { r with replay := r.replay ++ [sent], nextSeq := (r.nextSeq + 1) % 65536, begun := true }
          (s.inc R.link_TX_PACKETS k).packetOut k (packetBlocks sent.seq c (s.stampCouncil c p))

/-- NAK(expected) leaves, unless one is pending (R401). -/
def State.sendNak (s : State) (k : Nat) : State :=
  if (s.linkRun k).nakAt.isSome then s
  else (s.onLink k fun r => { r with nakAt := some s.mono }).blockOut k (nakBlock (s.linkRun k).expected)

/-- ACK(expected − 1) leaves (R402). -/
def State.sendAck (s : State) (k : Nat) : State :=
  (s.onLink k fun r => { r with unacked := 0 }).blockOut k (ackBlock ((s.linkRun k).expected + 65535))

/-- END block, CRC-32 and length of a packet are good (R399, R401). -/
def packetGood (p : LinkPacket) : Bool :=
  p.whole && decide (1 ≤ p.length) && decide (p.length ≤ 256) && p.payload.length == 8 * p.length &&
    p.crc == packetCrc p.seq p.channel p.payload

/-- A packet is received (R401, R404): delivered once and in order, discarded as bad, as a duplicate, or because one was lost before
it.
[DEDUCED, log 105: unsafe, DEDUCED, log 110: unsafe] -/
def opPacketReceive (t k : Nat) (p : LinkPacket) (s : State) : State :=
  let s := (s.advanceTo t).silent
  if !s.linkUp k then s
  else
    let e := (s.linkRun k).expected
    let d := (p.seq + 65536 - e) % 65536
    if d = 0 then
      let s := s.onLink k fun r => { r with nakAt := none }
      if packetGood p then
        let s := s.onLink k fun r => { r with expected := (r.expected + 1) % 65536, unacked := r.unacked + 1 }
        if p.channel = 3 then s.inc R.link_CRC_ERRORS k
        else (s.inc R.link_RX_PACKETS k).answerWith ([0x01] ++ leBytes 1 p.channel ++ p.payload)
      else (s.inc R.link_CRC_ERRORS k).sendNak k
    else if 32768 ≤ d then (s.inc R.link_DUPLICATES k).sendAck k
    else s.sendNak k

/-- The receiver acknowledges what it has delivered (R402). -/
def opAckSend (k : Nat) (s : State) : State :=
  if s.linkUp k && (s.linkRun k).unacked != 0 then s.sendAck k else s.silent

/-- Whether an ACK of `n` covers packet `q`: every packet up to and including `n`. -/
def ackCovers (n q : Nat) : Bool := decide ((n + 65536 - q) % 65536 < 32768)

/-- An ACK frees the packets it covers (R402); one that fails its CRC-8 is ignored as a block error. -/
def opAckReceive (k seq : Nat) (crcOk : Bool) (s : State) : State :=
  if !s.linkUp k then s
  else if !crcOk then s.blockError k
  else
    let r := s.linkRun k
    let left := r.replay.filter fun p => !ackCovers seq p.seq
    if left.length = r.replay.length then s
    else s.onLink k fun r => { r with replay := left.map fun p => { p with again := 0 } }

/-- A NAK has every packet from the named one on sent again (R403); it is ignored while the first of them still waits for that. -/
def opNakReceive (k seq : Nat) (crcOk : Bool) (s : State) : State :=
  if !s.linkUp k then s
  else if !crcOk then s.blockError k
  else
    let r := s.linkRun k
    match r.replay.findIdx? fun p => p.seq == seq with
    | none => s
    | some i => s.onLink k fun r => { r with replay := r.replay.take i ++ (r.replay.drop i).map fun p => { p with resend := true } }

/-- The oldest unacknowledged packet has gone REPLAY_TIMEOUT since it was sent: the sender sends again from it (R403). -/
def opReplayTimeout (t k : Nat) (s : State) : State :=
  let s := (s.advanceTo t).silent
  if !s.linkUp k then s
  else match (s.linkRun k).replay with
    | [] => s
    | p :: _ =>
      if s.mono < p.sentAt + s.reg R.link_REPLAY_TIMEOUT k * 1000 then s
      else (s.onLink k fun r => { r with replay := r.replay.map fun p => { p with resend := true } }).sendAgain k 0

/-- A pending NAK lapses after REPLAY_TIMEOUT (R401). -/
def opNakPendingExpiry (t k : Nat) (s : State) : State :=
  let s := s.advanceTo t
  if (s.linkRun k).nakAt.any fun a => decide (a + s.reg R.link_REPLAY_TIMEOUT k * 1000 ≤ s.mono) then
    s.onLink k fun r => { r with nakAt := none }
  else s

end Sys2Proof.Machine
end

