-- ==== Sys2Proof/Machine/Ensemble.lean ====
section
/-! DEFINITION. Ensembles (chapter 19): council messages, the leader and its time, agreement, states, leaving; peer flows. -/

namespace Sys2Proof.Machine

/-- DIGEST (R526). -/
def State.planDigest (s : State) : List Byte := (sha384 (s.dom R.ens_PLAN)).take 16

/-- STATE of the ensemble becomes `v`: event 0x9101. -/
def State.ensTo (s : State) (v : Nat) : State :=
  let old := s.reg R.ens_STATE
  if old = v then s else (s.setReg R.ens_STATE 0 v).raise 0x9101 (old + v * 16)

/-- LEADER becomes `v`: event 0x9102.
[DEDUCED, log 169: unsafe] -/
def State.leaderTo (s : State) (v : Nat) : State :=
  if s.reg R.ens_LEADER = v then s else (s.setReg R.ens_LEADER 0 v).raise 0x9102 v

/-- Whether the graph of a slot names a peer flow. -/
def State.namesPeer (s : State) (g : Nat) : Bool := (s.graph g).nodes.any fun v => v.kind != 0 && s.isPeer v.flow

/-- The device leaves the ensemble (R534): SOLO, event 0x9105, admissions that name a peer flow IMPAIRED. -/
def State.leave (s : State) (cause : Nat) : State :=
  let s := (s.onEns fun e => { e with resync := false, fine := 0, close := 0, measured := none }).setReg R.ens_OUT_COUNT 0 0
  let s := ((s.ensTo 0).inc R.ens_LEAVES).setReg R.ens_LAST_LEAVE_CAUSE 0 cause
  let s := s.raise 0x9105 cause
  s.each (s.admittedSlots.filter s.namesPeer) fun s g => (s.impair g 0xFFFFFFFF).setReg R.sadm_IMPAIRED_BY g 0xFFFFFFFF

/-! ### Time (R524, R525) -/

/-- The offset from the leader is removed: by slewing while a graph is admitted, else by a step. Corrected offsets are timebase minus source. -/
def State.discipline (s : State) (off : Int) : State := s.correct (-off)

/-- OUT_COUNT after a council mark: the fourth in a row leaves the ensemble.
[DEDUCED, log 167: unsafe] -/
def State.countOut (s : State) (out : Bool) : State :=
  let n := if out then s.reg R.ens_OUT_COUNT + 1 else 0
  let s := s.setReg R.ens_OUT_COUNT 0 n
  if 4 ≤ n then s.leave 0 else s

/-- A valid OFFSET from the leader (R525).
[DEDUCED, log 167: unsafe] -/
def State.offsetMeasured (s : State) (off : Int) : State :=
  let far := decide (1000 < off.natAbs)
  let first := s.ens.measured.isNone
  let s := (s.setRegI R.ens_OFFSET 0 off).onEns fun e => { e with measured := some off, close := if far then 0 else e.close + 1 }
  if !s.ens.resync then
    if far then
      let s := ((s.onEns fun e => { e with resync := true, fine := 0 }).setReg R.ens_OUT_COUNT 0 0).raise 0x9104 (stepMicros off)
      s.discipline off
    else s
  else
    let s : State := if first then s.countOut far else s
    if !s.ens.resync then s
    else
      let fine := if off.natAbs < 100 then s.ens.fine + 1 else 0
      let s := (s.onEns fun e => { e with fine := fine, resync := decide (fine < 4) }).discipline off
      s

/-! ### Agreement (R527) -/

/-- STATE, DIGEST and TB_STATE of a member, the device's own included. -/
def State.memberState (s : State) (m : Nat) : Nat := if m = s.reg R.ens_ENS_ID then s.reg R.ens_STATE else s.reg R.mem_STATE m
def State.memberDigest (s : State) (m : Nat) : List Byte :=
  if m = s.reg R.ens_ENS_ID then s.planDigest else tget (fun _ => []) s.ens.digests m
def State.memberTb (s : State) (m : Nat) : Nat := if m = s.reg R.ens_ENS_ID then s.reg R.tb_STATE else s.reg R.mem_TB_STATE m

/-- The leader by the view (R523). -/
def State.chooseLeader (s : State) : Nat :=
  let ms := s.members
  ((ms.find? fun m => s.memberTb m == 2).getD (ms.headD 0xFF))

/-- The device is in the majority. -/
def State.inMajority (s : State) : Bool :=
  let ms := s.members.filter fun m => decide (1 ≤ s.memberState m) && decide (s.memberState m ≤ 3)
  let size (m : Nat) : Nat := (ms.filter fun x => s.memberDigest x == s.memberDigest m).length
  let top := (ms.map size).foldl max 0
  let tops := ms.filter fun m => size m == top
  let leader := s.reg R.ens_LEADER
  let chosen := if tops.contains leader then leader else tops.headD 0xFF
  s.memberDigest chosen == s.planDigest

/-- MEMBER or HOLD by the majority. -/
def State.agree (s : State) : State := s.ensTo (if s.inMajority then 2 else 3)

/-- JOINING ends once two consecutive valid offsets lie within 1,000 ns, or on the leader itself; MEMBER and HOLD follow the majority. -/
def State.ensState (s : State) : State :=
  match s.reg R.ens_STATE with
  | 1 => if 2 ≤ s.ens.close ∨ s.reg R.ens_LEADER = s.reg R.ens_ENS_ID then s.agree else s
  | 2 => s.agree
  | 3 => s.agree
  | _ => s

/-! ### Council messages (R521, R522) -/

/-- A council message for member `m` (Table 19.1), with the island time at which the message it echoes arrived where
T_SEND will stand.
[DEDUCED, log 174: unsafe] -/
def State.councilBytes (s : State) (m : Nat) : List Byte :=
  let e := tget (fun _ => (0, 0)) s.ens.echo m
  leBytes 2 0x6B65 ++ [1] ++ leBytes 1 (s.reg R.ens_ENS_ID + s.reg R.ens_STATE * 16) ++ leBytes 4 (s.reg R.stw_FW_VERSION) ++
    leBytes 1 (s.reg R.prof_ACTIVE) ++ leBytes 1 (s.reg R.tb_STATE) ++ leBytes 1 (s.reg R.ens_COUNCIL_CADENCE) ++
    leBytes 1 (s.reg R.ens_VIEW) ++ leBytes 8 s.councilFrame ++ time80 e.2 ++ [0, 0] ++ time80 e.1 ++ [0, 0] ++ leBytes 4 0 ++
    s.planDigest ++ leBytes 8 (s.reg R.ident_UNIQUE_ID) ++ leBytes 8 0

/-- One message to each partner. -/
def State.councilSend (s : State) : State :=
  s.each (List.range 8) fun s m => match s.partnerLink m with
    | some k => s.queuePacket k 1 (s.councilBytes m)
    | none => s

/-- What happens at a mark of COUNCIL_CADENCE: missed messages, the measurement that did not come, the view, the leader, the states, and
the messages.
[DEDUCED, log 168: unsafe, DEDUCED, log 169: unsafe] -/
def State.councilMark (s : State) : State :=
  let s := s.onEns fun e => { e with councils := e.councils + 1 }
  if !s.on R.ens_ENABLE then s
  else
    let s := s.each (List.range 8) fun s m =>
      if m != s.reg R.ens_ENS_ID && decide (tget (fun _ => 0) s.ens.heard m < s.ens.councils) then s.inc R.mem_MISSED m else s
    let s : State := if s.ens.resync && s.ens.measured.isNone then s.countOut true else s
    let s := s.onEns fun e => { e with measured := none }
    let s := s.refreshView
    let s := s.leaderTo s.chooseLeader
    let s : State := if s.reg R.ens_LEADER = s.reg R.ens_ENS_ID then
      (s.setReg R.ens_OFFSET 0 0).onEns fun e => { e with resync := false }
      else s.setReg R.ens_OFFSET 0 (s.reg R.mem_OFFSET (s.reg R.ens_LEADER))
    s.ensState.councilSend

/-- What a valid message says of its sender (Table 19.5).
[DEDUCED, log 172: unsafe] -/
def State.heardFrom (s : State) (m : Nat) (x : CouncilMsg) : State :=
  let s := ((s.setReg R.mem_STATE m x.state).setReg R.mem_UNIQUE_ID m x.uniqueId).setReg R.mem_FW_VERSION m x.fw
  let s := ((s.setReg R.mem_PROFILE m x.profile).setReg R.mem_TB_STATE m x.tbState).setReg R.mem_DIGEST_MATCH m (b2n (x.digest == s.planDigest))
  s.onEns fun e => { e with digests := tput (fun _ => []) m x.digest e.digests, echo := tput (fun _ => (0, 0)) m (x.tSend, s.mono) e.echo }

/-- A counting message: it is heard in the present council frame, one of those that the council marks count, and takes its sender into view by its
STATE (R522). -/
def State.counted (s : State) (m : Nat) (x : CouncilMsg) : State :=
  let f := s.ens.councils + 1
  let view := decide (1 ≤ x.state) && decide (x.state ≤ 3)
  s.onEns fun e => { e with heard := tput (fun _ => 0) m f e.heard, viewed := if view then tput (fun _ => 0) m f e.viewed else e.viewed }

/-- The measurement of a counting message (R524). -/
def State.councilMeasure (s : State) (m : Nat) (x : CouncilMsg) : State :=
  let rt : Int := (s.now : Int) - x.tEcho - x.tHeld
  if x.tEcho = 0 ∨ rt < 0 ∨ (s.reg R.ens_ROUND_TRIP_MAX : Int) < rt then s
  else
    let off : Int := (x.tSend : Int) - s.now + rt / 2
    let s := s.setRegI R.mem_OFFSET m off
    if m ≠ s.reg R.ens_LEADER then s
    else if s.on R.ens_STATE then s.offsetMeasured off
    else s.setRegI R.ens_OFFSET 0 off

/-- A council message arrives on link `k` (R520, R522, R524).
[DEDUCED, log 110: unsafe, DEDUCED, log 172: unsafe, DEDUCED, log 175: unsafe] -/
def opCouncilReceive (t k : Nat) (x : CouncilMsg) (s : State) : State :=
  let s := s.advanceTo t
  let m := x.ident % 8
  let own := s.reg R.ens_ENS_ID
  if !s.on R.ens_ENABLE || !s.linkUp k then s
  else if s.reg R.link_PARTNER_ID k = own ∨ !x.magicOk ∨ m = own then s
  else
    let ids := tget (fun _ => []) s.ens.idents m
    let s := s.onEns fun e => { e with idents := tput (fun _ => []) m (if ids.contains x.uniqueId then ids else ids ++ [x.uniqueId]) e.idents }
    if !s.partnerOk m then s.refreshView
    else
      let s := s.heardFrom m x
      let cur := s.councilFrame
      if x.cadence = s.reg R.ens_COUNCIL_CADENCE ∧ (x.frame = cur ∨ x.frame + 1 = cur) then
        ((s.counted m x).refreshView).councilMeasure m x
      else s

/-! ### JOIN, ENABLE, PLAN -/

/-- The device begins to join. -/
def State.beginJoin (s : State) : State := ((s.onEns fun e => { e with close := 0, measured := none }).ensTo 1).refreshView

/-- COMMAND = JOIN: from SOLO with ENABLE 1 (Table 19.2).
[DEDUCED, log 171: unsafe] -/
def opJoin (w : Who) (s : State) : State :=
  s.writeAs w R.ens_COMMAND 0 true fun s =>
    if s.on R.ens_ENABLE && s.reg R.ens_STATE == 0 then s.beginJoin.ok else s.stateError

/-- ENABLE is written (R518, R534).
[DEDUCED, log 171: unsafe] -/
def State.setEnsEnable (s : State) (on : Bool) : State :=
  if s.on R.ens_ENABLE == on then s
  else if on then (s.setReg R.ens_ENABLE 0 1).beginJoin
  else
    let s : State := if s.on R.ens_STATE then s.leave 1 else s
    let s := s.setReg R.ens_ENABLE 0 0
    let s : State := if s.on R.ens_VIEW then (s.setReg R.ens_VIEW 0 0).raise 0x9103 0 else s
    let s := s.each (List.range 8) fun s m => s.setReg R.mem_IN_VIEW m 0
    (s.leaderTo 0xFF).setReg R.ens_OFFSET 0 0

def opEnsembleEnable (w : Who) (on : Bool) (s : State) : State := s.writeAs w R.ens_ENABLE 0 true fun s => (s.setEnsEnable on).ok

/-- PLAN is written whole (R526). -/
def State.setPlan (s : State) (plan : List Byte) : State :=
  let s := s.setDom R.ens_PLAN 0 plan
  s.each (List.range 8) fun s m =>
    if s.reg R.mem_STATE m = 4 then s else s.setReg R.mem_DIGEST_MATCH m (b2n (tget (fun _ => []) s.ens.digests m == s.planDigest))

def opPlanWrite (w : Who) (plan : List Byte) (s : State) : State :=
  s.writeAs w R.ens_PLAN 0 true fun s => if 65536 < plan.length then s.resource else (s.setPlan plan).ok

/-! ### Peer flows (R531 to R533) -/

/-- The full number of a frame with these low 32 bits, nearest to `near`. -/
def fullFrame (near low : Nat) : Nat :=
  let base := near / 2 ^ 32 * 2 ^ 32 + low % 2 ^ 32
  if base + 2 ^ 31 < near then base + 2 ^ 32 else if near + 2 ^ 31 < base ∧ 2 ^ 32 ≤ base then base - 2 ^ 32 else base

/-- A packet of an open version is written; the version is complete, and its commit requested, with the last byte of SIZE. -/
def State.peerWrite (s : State) (f n : Nat) (b : BufferRec) (v : InFrame) (p : PeerData) : State :=
  let r := (p.offset, p.offset + p.data.length)
  if b.size < r.2 ∨ p.offset % 32 ≠ 0 then s.outOfBounds f n
  else if meetsRange r (v.row 0) then s.inc R.pf_DUPLICATES f
  else
    let s := (s.writeBytes (v.addr + p.offset) p.data).onInFrame f n fun v => v.addCover 0 r
    let s := (s.inc R.pf_PACKETS f).inc R.flow_PACKETS f
    let s : State := if p.first then s.onVersion b.handle n fun x => { x with info := x.info ||| derivedBits p.metaWord } else s
    match s.inFrame? f n with
    | some v =>
      if v.row 0 == [(0, b.size)] then
        (s.onInFrame f n fun v => { v with complete := true, closed := some s.now }).evaluate f n
      else s
    | none => s

/-- A DATA packet arrives on link `k` (R532).
[DEDUCED, log 175: unsafe] -/
def opPeerDataReceive (t k : Nat) (p : PeerData) (s : State) : State :=
  let s := s.advanceTo t
  let f := p.flow
  if s.reg R.pf_LINK f ≠ k ∨ s.reg R.flow_DIR f ≠ 0 ∨ s.reg R.flow_STATE f = 0 ∨ !s.linkUp k then s
  else if s.reg R.flow_STATE f ≠ 2 then s.inc R.flow_PAUSED_DROPS f
  else
    let n := fullFrame ((s.flowRun f).newest.getD 0) p.frame
    match s.inFrame? f n with
    | some v => s.peerWrite f n v.buf v p
    | none => s.notOpen f n 1

/-- What a poisoned span of a sent version carries (R157, DROP taken as BLACK): black groups of a picture, else zeros.
[DEDUCED, log 173: unsafe] -/
def State.peerSpan (s : State) (f fmt o : Nat) (l : List (Option Byte)) : List Byte :=
  if l.all Option.isSome then l.map fun b => b.getD 0
  else if s.reg R.flow_KIND f = 0 then
    let gb := fmtGroup fmt
    ((blackBytes fmt ((ceilDiv l.length gb + 2) * gb)).drop (o % gb)).take l.length
  else List.replicate l.length 0

/-- One DATA packet of a version: `i` counts packets of up to 2,016 bytes (Table 19.3). -/
def State.peerPacket (s : State) (f k n base info i : Nat) (b : BufferRec) : State :=
  let o := 2016 * i
  let len := min 2016 (b.size - o)
  let policy := s.reg R.flow_POISON_POLICY f
  match s.egressSpan (quadStop (k / 4)) policy (base + o) len with
  | (s, l, met) =>
    let head := leBytes 4 (s.reg R.pf_PARTNER_FLOW f + b2n (i == 0) * 2 ^ 24 + b2n (decide (b.size ≤ o + len)) * 2 ^ 25) ++
      leBytes 4 n ++ leBytes 4 o ++ leBytes 8 (if i = 0 then info else 0) ++ leBytes 12 0
    let s : State := if met then s.inc R.flow_POISON_PACKETS f else s
    ((s.queuePacket k 2 (head ++ s.peerSpan f b.format o l)).inc R.pf_PACKETS f).inc R.flow_PACKETS f

/-- An egress peer flow sends the version of its started SINK operation as DATA packets on its link (R531). -/
def opPeerDataSend (t f : Nat) (s : State) : State :=
  let s := s.advanceTo t
  if s.reg R.flow_STATE f ≠ 2 ∨ s.reg R.flow_DIR f ≠ 1 ∨ !s.isPeer f then s
  else match s.launchable f with
    | some (o, b) =>
      let k := s.reg R.pf_LINK f
      let x := s.sinkInput o
      let before := s.reg R.flow_POISON_PACKETS f
      let s := s.each (List.range (ceilDiv b.size 2016)) fun s i => s.peerPacket f k o.frame x.1 x.2 i b
      let met := s.reg R.flow_POISON_PACKETS f != before
      let s : State := if met then s.raise 0x2206 f else s
      (s.inc R.flow_FRAMES f).endSink f o.frame met
    | none => s

end Sys2Proof.Machine
end

