-- ==== Sys2Proof/Machine/Console.lean ====
section
/-! DEFINITION. The virtual terminal's outgoing text (R551, R552): lines in ASCII, four bytes to a word of TERM_OUT. -/

namespace Sys2Proof.Machine

/-- ASCII codes of a string. -/
def ascii (t : String) : List Byte := t.toList.map fun c => BitVec.ofNat 8 c.toNat

/-- A hex digit. -/
def hexDigit (n : Nat) : Byte := BitVec.ofNat 8 (if n < 10 then 48 + n else 87 + n)

/-- A number in hex digits, at least one. -/
def hexOf : Nat → Nat → List Byte
  | 0, n => [hexDigit (n % 16)]
  | k + 1, n => if n < 16 then [hexDigit n] else hexOf k (n / 16) ++ [hexDigit (n % 16)]

/-- The bytes of a value in hex, in order. -/
def hexBytes (l : List Byte) : List Byte := l.flatMap fun b => [hexDigit (b.toNat / 16), hexDigit (b.toNat % 16)]

/-- TERM_OUT takes the next four bytes of text when it is empty and core 1 runs. -/
def State.fillTermOut (s : State) : State :=
  let x := s.service
  if x.termOut.isSome || x.console.isEmpty || !s.coreRuns 1 then s
  else { s with service := { x with termOut := some (leAt (x.console ++ [0, 0, 0, 0]) 0 4), console := x.console.drop 4 } }

/-- A line of console text, ended with 0x0A. -/
def State.say (s : State) (l : List Byte) : State :=
  State.fillTermOut { s with service := { s.service with console := s.service.console ++ l ++ [0x0A] } }

/-- A logged event on the console while TRACE is set. -/
def State.traceEvent (s : State) (r : EvRec) : State :=
  if s.on R.dbg_TRACE && s.coreRuns 1 then
    s.say (ascii "e " ++ hexOf 8 r.seq ++ ascii " " ++ hexOf 8 r.code ++ ascii " " ++ hexOf 8 r.data)
  else s

end Sys2Proof.Machine
end

