-- ==== Sys2Proof/Machine/Log.lean ====
section
/-! DEFINITION. The event log (R509 to R512), the latched conditions and the pins' acknowledgement (R504, R513), notifications as events are
logged (R434). -/

namespace Sys2Proof.Machine

def State.onLog (s : State) (u : LogState → LogState) : State := { s with log := u s.log }

/-- An event record, 32 bytes (Table 18.8). -/
def recordBytesOf (r : EvRec) : List Byte :=
  leBytes 4 r.seq ++ time80 r.time ++ leBytes 2 r.code ++ leBytes 4 r.data ++ leBytes 1 r.cls ++ leBytes 1 r.ctx ++ leBytes 2 r.reps ++
    leBytes 8 r.extra

/-- RECORDS: up to 256 records of the ring with SEQ from FROM on (R512). -/
def State.recordsValue (s : State) : List Byte :=
  ((s.log.ring.filter fun r => decide (s.reg R.log_FROM ≤ r.seq)).take 256).flatMap recordBytesOf

/-- PINNED. -/
def State.pinnedValue (s : State) : List Byte := s.log.pinned.flatMap recordBytesOf

/-- A read of RECORDS (R512). -/
def opRecords (w : Who) (s : State) : State :=
  s.readAs w ⟨0x9001, 0, 4⟩ fun s _ => s.answerWith s.recordsValue

/-- A write to LATCHED (R504). -/
def opLatched (w : Who) (mask : Nat) (s : State) : State :=
  s.writeAs w R.integ_LATCHED 0 (decide (mask < 4096)) fun s => State.ok { s with latched := s.latched ^^^ (s.latched &&& mask) }

/-- A write of 1 to ACK (R513): EVT_N[0] is released unless an event was logged since the last read of HEAD. -/
def opAck (w : Who) (s : State) : State :=
  s.writeAs w R.integ_ACK 0 true fun s => (if s.log.sinceHead then s else s.onLog fun l => { l with evt0 := false }).ok

/-- A write of 1 to CLEAR_PINNED (R511). -/
def opClearPinned (w : Who) (s : State) : State :=
  s.writeAs w R.log_CLEAR_PINNED 0 true fun s => (s.onLog fun l => { l with pinned := [] }).ok

/-- Whether an event drives EVT_N[0] when it is logged: its class bit of PIN_MASK (R513); in NIGHT, a WATCH event of class 1 to 3
(Table 18.9). -/
def State.drivesPin (s : State) (r : EvRec) : Bool :=
  if s.phase = .night then r.cls != 0 && r.code / 256 == 0x80 else (s.reg R.integ_PIN_MASK).testBit r.cls

/-- The pinned area takes a record of class ON_AIR or BREACH; event 0x9004 when it becomes full (R511). -/
def State.pinRecord (s : State) (r : EvRec) : State :=
  if 2 ≤ r.cls ∧ s.log.pinned.length < 256 then
    let s := s.onLog fun l => { l with pinned := l.pinned ++ [r] }
    if s.log.pinned.length = 256 then s.raise 0x9004 0 else s
  else s

/-- The event records a NOTIFY of slot `n` holds: 64, or what the largest frame of its port takes (R420, Table 14.1).
[DEDUCED, log 127: unsafe] -/
def notifyRoom (n : Nat) : Nat := if slotClass n = some 1 then 45 else if slotClass n = some 2 then 63 else 64

/-- A logged event joins the next NOTIFY of each session whose EVENT_MASK names it, while that has room (R434). -/
def State.notifySessions (s : State) (r : EvRec) : State :=
  s.each (List.range 56) fun s n =>
    if s.on R.ses_ID n && (s.reg R.ses_EVENT_MASK n).testBit (r.code / 4096) then
      if (s.sess n).events.length < notifyRoom n then s.onSess n fun x => { x with events := x.events ++ [r] }
      else s.inc R.ses_NOTIFY_DROPPED n
    else s

/-- Records written within the second before now.
[DEDUCED, log 15: unsafe] -/
def State.recentWrites (s : State) : List Nat := s.log.writes.filter fun t => decide (s.mono < t + 1000000000)

/-- Record `r` is written to the log with the next SEQ: the ring, the pinned area, the pin, the notifications and the console.
[DEDUCED, log 17: unsafe] -/
def State.writeRecord (s : State) (r : EvRec) : State :=
  let r := { r with seq := s.log.nextSeq }
  let drives := s.drivesPin r
  let recent := s.recentWrites
  let s := s.onLog fun l =>
    { l with ring := (l.ring ++ [r]).drop (l.ring.length + 1 - 65536), nextSeq := (l.nextSeq + 1) % 2 ^ 32,
             writes := recent ++ [s.mono], sinceHead := l.sinceHead || drives, evt0 := l.evt0 || drives }
  let s := s.inc R.log_WRITES
  let s : State := if r.cls = 2 then { s with latched := s.latched ||| 2048 } else s
  ((s.pinRecord r).notifySessions r).traceEvent r

/-- The oldest queued record is written to the log (R510), unless 4,000 were written in the second before, or core 1 is halted (R546), or the
store accepts no writes (R563).
[DEDUCED, log 15: unsafe, DEDUCED, log 289: unsafe] -/
def opLogRecordWrite (t : Nat) (s : State) : State :=
  let s := s.advanceTo t
  match s.log.queue with
  | [] => s
  | r :: rest =>
    if 4000 ≤ s.recentWrites.length ∨ !s.storeAccepts ∨ (s.dusk.core1.haltedAt.isSome ∧ s.phase ≠ .night) then s
    else (s.onLog fun l => { l with queue := rest }).writeRecord r

/-- A drop interval ends one second after its first drop: event 0x9003 (R510). -/
def opDropIntervalEnd (t : Nat) (s : State) : State :=
  let s := s.advanceTo t
  match s.log.dropStart with
  | none => s
  | some b =>
    if s.mono < b + 1000000000 then s
    else (s.onLog fun l => { l with dropStart := none, dropCount := 0 }).raise 0x9003 (min s.log.dropCount 0xFFFF)

end Sys2Proof.Machine
end

