-- ==== Sys2Proof/Machine/Image.lean ====
section
/-! DEFINITION. Fabric images (Tables 12.3 and 12.4, R351 to R354): their header, segments and block memory records, with the checks of
codes 1, 2, 6, 7 and 8 of Table 12.7. -/

namespace Sys2Proof.Machine

/-! ### Frame numbers (R348, R350, R317) -/

/-- Column 0, 1, 10 or 11. -/
def edgeColumn (c : Nat) : Bool := decide (c < 2) || decide (9 < c)

/-- Live frames and shadow frames (Table 12.1). -/
def liveFrames : Nat := 210944
def allFrames : Nat := 229376
def swapFrames : Nat := 1152

/-- Frames of clock region `r`, and its first live frame. -/
def regionFrames (r : Nat) : Nat := if edgeColumn (r % 12) then 1536 else 2304
def regionFirst (r : Nat) : Nat := 14336 + ((List.range r).map regionFrames).sum

/-- The clock region of swap region `n`, its first live frame and its first shadow frame. -/
def swapClockRegion (n : Nat) : Nat := n / 2 * 12 + (if n % 2 = 0 then 2 else 6)
def swapFirst (n : Nat) : Nat := regionFirst (swapClockRegion n)
def shadowFirst (n : Nat) : Nat := liveFrames + swapFrames * n

/-- The clock region of a live frame; 96 for the global frames. -/
def frameRegion (f : Nat) : Nat :=
  if f < 14336 then 96 else ((List.range 96).find? fun r => decide (f < regionFirst r + regionFrames r)).getD 96

/-- The swap region a live frame belongs to. -/
def frameSwap (f : Nat) : Option Nat := (List.range 16).find? fun n => decide (swapFirst n ≤ f) && decide (f < swapFirst n + swapFrames)

/-! ### The header (Table 12.3) -/

/-- Every byte of a stretch is zero. -/
def zeroBytes (l : List Byte) (off k : Nat) : Bool := (slice l off k).all fun b => b == 0

structure ImageHead where
  kind : Nat
  target : Nat
  segments : Nat
  encrypted : Bool
  imageId : Nat
  baseId : Nat
  nonce : List Byte
  len : Nat
  initLen : Nat
  ports : Nat
  gpio : List Byte
  deriving DecidableEq, Repr

def imageHead (h : List Byte) : ImageHead :=
  { kind := leAt h 6 1, target := leAt h 7 1, segments := leAt h 8 2, encrypted := leAt h 10 1 == 1, imageId := leAt h 12 8,
    baseId := leAt h 20 8, nonce := slice h 28 8, len := leAt h 36 4, initLen := leAt h 40 4, ports := leAt h 64 64, gpio := slice h 128 32 }

/-- Bytes of a block memory record. -/
def recordBytes : Nat := 32 + 4608 + 16

/-- Check 1 for a target (16 for full): MAGIC, FORMAT, KIND, TARGET, SEGMENTS, IMAGE_LEN within what its parts can take, reserved bits.
[DEDUCED, log 95: unsafe] -/
def headWrong (target : Nat) (h : List Byte) : Bool :=
  let x := imageHead h
  let full := decide (target = 16)
  leAt h 0 4 != 0x6B636667 || leAt h 4 2 != 1 || x.kind != (if full then 0 else 1) || x.target != (if full then 0xFF else target) ||
  x.segments != (if full then 3296 else 18) || decide (1 < leAt h 10 1) || x.imageId == 0 || (full && x.baseId != 0) ||
  (!full && x.initLen != 0) || x.initLen % recordBytes != 0 || decide (x.len < 256 + 48 * x.segments + x.initLen) ||
  decide (256 + 73776 * x.segments + x.initLen < x.len) || x.gpio.any (fun b => decide (4 < b.toNat)) ||
  !zeroBytes h 11 1 || !zeroBytes h 44 20 || !zeroBytes h 160 80

/-- The IV of the header, a segment or a record: NONCE and a 32-bit word (R354). -/
def imageIv (nonce : List Byte) (n : Nat) : List Byte := nonce ++ leBytes 4 n

/-- Check 2: the header's tag or CRC. -/
def headTagOk (key : List Byte) (h : List Byte) : Bool :=
  if (imageHead h).encrypted then (Config.gcmOpen key (imageIv (slice h 28 8) 0xFFFFFFFF) (h.take 240) (slice h 240 16)).isSome
  else crc32 (h.take 240) == leAt h 240 4 && zeroBytes h 244 12

/-! ### Segments and records (Table 12.4, R351 to R354) -/

/-- What the bytes so far give. -/
inductive Parsed (α : Type) where
  | more
  | bad (code : Nat)
  | good (a : α) (rest : List Byte)
  deriving DecidableEq, Repr

/-- The entry of FRAME_MAP for frame `k` of a segment. -/
def mapEntry (h : List Byte) (k : Nat) : Nat := bits (leAt h 8 16) (2 * k + 1) (2 * k)

/-- The content of a segment or record with its tag checked (code 7), decrypted where the image is encrypted. -/
def openContent (enc : Bool) (key nonce seg : List Byte) : Option (List Byte) :=
  let n := seg.length - 16
  if enc then Config.gcmOpen key (imageIv nonce (leAt seg 0 4)) (seg.take 32) (seg.drop 32)
  else if crc32 (seg.take n) = leAt seg n 4 ∧ zeroBytes seg (n + 4) 12 then some (slice seg 32 (n - 32)) else none

/-- `k` code words of 36 bytes. -/
def codeWords (l : List Byte) (k : Nat) : List Nat := (List.range k).map fun i => leAt l (36 * i) 36

/-- Code words that are all CLEAN (code 8). -/
def allClean (l : List Nat) : Bool := l.all fun w => match decodeWord (BitVec.ofNat 288 w) none with
  | .clean _ => true
  | _ => false

/-- The frames of a segment, number and 32 words: carried, zero, or a repeat of the one before. -/
def expandFrames (h content : List Byte) (base : Nat) : Nat → Nat → Nat → List Nat → List (Nat × List Nat)
  | _, 0, _, _ => []
  | k, n + 1, c, prev =>
    let (c, ws) := match mapEntry h k with
      | 0 => (c + 1, codeWords (content.drop (1152 * c)) 32)
      | 1 => (c, List.replicate 32 0)
      | _ => (c, prev)
    (base + k, ws) :: expandFrames h content base (k + 1) n c ws

/-- One segment that must have INDEX `index`: its frames. -/
def parseSegment (enc : Bool) (key nonce : List Byte) (index : Nat) (l : List Byte) : Parsed (List (Nat × List Nat)) :=
  if l.length < 32 then .more
  else
    let carried := leAt l 4 2
    let entries := (List.range 64).map (mapEntry l)
    if leAt l 0 4 ≠ index ∨ carried ≠ entries.countP (fun e => e == 0) ∨ entries.contains 3 ∨ entries.head? = some 2 ∨
        !zeroBytes l 6 2 ∨ !zeroBytes l 24 8 then .bad 6
    else
      let n := 32 + 1152 * carried + 16
      if l.length < n then .more
      else match openContent enc key nonce (l.take n) with
        | none => .bad 7
        | some content =>
          if enc && !allClean (codeWords content (32 * carried)) then .bad 8
          else .good (expandFrames l content (64 * index) 0 64 0 (List.replicate 32 0)) (l.drop n)

/-- `n` consecutive segments from INDEX `index` on. -/
def parseSegments (enc : Bool) (key nonce : List Byte) : Nat → Nat → List Byte → Parsed (List (Nat × List Nat))
  | _, 0, l => .good [] l
  | i, n + 1, l =>
    match parseSegment enc key nonce i l with
    | .more => .more
    | .bad c => .bad c
    | .good a rest =>
      match parseSegments enc key nonce (i + 1) n rest with
      | .more => .more
      | .bad c => .bad c
      | .good b rest => .good (a ++ b) rest

/-- Block memory `m` lies in a swap region. -/
def memoryInSwap (m : Nat) : Bool :=
  (List.range 16).any fun n =>
    let first := ((List.range (swapClockRegion n)).map fun r => if edgeColumn (r % 12) then 80 else 120).sum
    decide (first ≤ m) && decide (m < first + 60)

/-- `n` block memory records of memories from `first` on, in ascending order (R353, Table 12.7): memory and content.
[DEDUCED, log 230: unsafe] -/
def parseRecords (enc : Bool) (key nonce : List Byte) (image : Nat) : Nat → Nat → List Byte → Parsed (List (Nat × List Byte))
  | _, 0, l => .good [] l
  | first, n + 1, l =>
    if l.length < recordBytes then .more
    else
      let m := leAt l 0 4 - 0x80000000
      if leAt l 0 4 < 0x80000000 ∨ m < first ∨ 10240 ≤ m ∨ memoryInSwap m ∨ leAt l 4 2 ≠ 1 ∨ !zeroBytes l 6 26 then .bad 6
      else match openContent enc key nonce (l.take recordBytes) with
        | none => .bad 7
        | some content =>
          if enc && Config.bramMode image m % 3 == 1 && !allClean (codeWords content 128) then .bad 8
          else match parseRecords enc key nonce image (m + 1) n (l.drop recordBytes) with
            | .more => .more
            | .bad c => .bad c
            | .good rs rest => .good ((m, content) :: rs) rest

/-- A whole image: header, frames, records. -/
structure Image where
  head : ImageHead
  frames : List (Nat × List Nat)
  records : List (Nat × List Byte)

/-- The part of an image after its header, for a target. -/
def parseBody (key : List Byte) (target : Nat) (x : ImageHead) (l : List Byte) : Parsed Image :=
  match parseSegments x.encrypted key x.nonce (if target = 16 then 0 else swapFirst target / 64) x.segments l with
  | .more => .more
  | .bad c => .bad c
  | .good frames rest =>
    match parseRecords x.encrypted key x.nonce x.imageId 0 (x.initLen / recordBytes) rest with
    | .more => .more
    | .bad c => .bad c
    | .good records rest =>
      if l.length - rest.length + 256 ≠ x.len then .bad 1 else .good ⟨x, frames, records⟩ rest

end Sys2Proof.Machine
end

