-- ==== Sys2Proof/Machine/AddressMap.lean ====
section
/-! DEFINITION. What a master may reach (R26 to R28, R303, R341) and what becomes of an access that the address map does not permit (R27,
R293); the configuration frames at their addresses (R349); checked reads and writes of the engines. -/

namespace Sys2Proof.Machine

/-! ### Configuration frames as memory (R349) -/

/-- The configuration port's first address, and its end (R349). -/
def configBase : Nat := 0x4800000000
def configEnd : Nat := 0x480E000000

/-- Word `w` of a frame, by its present role. -/
def State.cell (s : State) (f w : Nat) : Nat := tget (fun _ => 0) s.config.cells (f * 32 + w)

def State.putCell (s : State) (f w v : Nat) : State :=
  { s with config := { s.config with cells := tput (fun _ => 0) (f * 32 + w) v s.config.cells } }

/-- A frame has been written: a pending write-back or repair of it is cancelled (R370). A finding stands (R503). -/
def State.frameWritten (s : State) (f : Nat) : State :=
  let wb := match s.config.writeBack with | some b => if b.1 = f then none else some b | none => none
  { s with config := { s.config with writeBack := wb, repairs := s.config.repairs.filter fun x => x != f,
                                     late := s.config.late.filter fun x => x != f } }

/-- Frame `f` has defined content: a configured fabric's live frame, a shadow that is STAGED or PREVIOUS (R358, Table 12.8). -/
def State.frameValid (s : State) (f : Nat) : Bool :=
  if liveFrames ≤ f then decide (2 ≤ s.reg R.swap_SHADOW ((f - liveFrames) / swapFrames)) else s.reg R.cfg_FABRIC_STATE == 2

/-- The data of the configuration word at an address; none for poison, a free value in a frame without defined content.
[DESIGN CHOICE, log 97: safe] -/
def State.configRead (s : State) (a : Nat) : State × Option Nat :=
  let w := (a - configBase) / 32
  if !s.frameValid (w / 32) then (s.took, some (s.freeBits 256))
  else match decodeWord (BitVec.ofNat 288 (s.cell (w / 32) (w % 32))) none with
    | .clean d | .corrected d _ _ => (s, some d)
    | _ => (s, none)

/-- A configuration word written under a byte mask; poison writes canonical poison. -/
def State.configWrite (s : State) (a data mask : Nat) (poison : Bool) : State :=
  let w := (a - configBase) / 32
  let put (s : State) (v : CodeWord) : State := (s.putCell (w / 32) (w % 32) v.toNat).frameWritten (w / 32)
  if poison then put s poisonWord
  else if mask % 2 ^ 32 = fullMask then put s (encodeWord data)
  else match s.configRead a with
    | (s, some d) => put s (encodeWord (mergeBytes mask d data))
    | (s, none) => put s poisonWord

/-! ### Permission (Tables 01.4 and 10.1, R28, R341) -/

/-- `a` lies in the parameter block of an operation (R334). -/
def State.inParameters (s : State) (r : Option RunOp) (a : Nat) : Bool :=
  match r with
  | some r => decide (s.paramAddr r.node ≤ a) && decide (a < s.paramAddr r.node + 32 * (s.nodeRec r.node).paramLen)
  | none => false

/-- The operation of an engine; a fabric port's read channel cannot reach the scheduler area (R334). -/
def State.masterOp (s : State) (kind : MasterKind) (u : Nat) : Option RunOp :=
  match kind with
  | .raster => s.runOp u
  | .move => s.runOp (32 + u)
  | _ => none

/-- What a master may reach (Tables 01.4 and 10.1, R28, R341). A raster engine with an operation reads its block by LEN alone, and so may
read on in the scheduler area (R185).
[DEDUCED, log 218: unsafe] -/
def State.mayAccess (s : State) (kind : MasterKind) (u : Nat) (write mirror : Bool) (a : Nat) : Bool :=
  if a < frameStoreEnd then true
  else if a < scratchBase then false
  else if a < scratchBase + 0x800000 then kind == .stream || (kind == .steward && !write)
  else if a < scratchBase + 0x2800000 then
    kind == .scheduler || (kind == .steward && !write) ||
      (!write && !mirror && ((kind == .raster && (s.runOp u).isSome) || s.inParameters (s.masterOp kind u) a))
  else if a < scratchBase + 0x3000000 then kind == .steward
  else if a < scratchBase + secureOfs then !mirror && (kind == .fabric || kind == .move || kind == .steward)
  else if a < scratchBase + 0x4000000 then kind == .steward
  else if configBase ≤ a ∧ a < configEnd then kind == .steward || kind == .loader
  else false

/-- An access that the map does not permit reaches no memory: a write is counted at its stop, and event 0x4009 is raised (R27, R293). The
event's master kind has no code in the spec.
[DESIGN CHOICE, log 79: safe, DEDUCED, log 80: unsafe] -/
def State.addressError (s : State) (g : Nat) (write : Bool) : State :=
  let s := if write && decide (g < 384) then s.inc R.stop_ADDRESS_ERRORS g else s
  s.took.raise 0x4009 (g + s.freeBits 3 * 512)

/-! ### Checked accesses of engines (R27, R185) -/

/-- One word read by a master at stop `g`; none for poison, for an address error too.
[DEDUCED, log 219: unsafe] -/
def State.masterRead (s : State) (g : Nat) (kind : MasterKind) (u : Nat) (mirror : Bool) (a : Nat) : State × Option Nat :=
  if !s.mayAccess kind u false mirror a then (s.addressError g false, none)
  else if a < frameStoreEnd then (if mirror then s.readMirror g a else s.readWord g a)
  else if configBase ≤ a then s.configRead a
  else match s.padReadNow ((a - scratchBase) / 32) with
    | (s, some d) => (s, some d)
    | (s, none) => (s.ownedPoison ((a - scratchBase) / 32), none)

/-- One word written by a master at stop `g`. -/
def State.masterWrite (s : State) (g : Nat) (kind : MasterKind) (u a data mask : Nat) (poison : Bool) : State :=
  if !s.mayAccess kind u true false a then s.addressError g true
  else if a < frameStoreEnd then s.writeWord a data mask poison
  else if configBase ≤ a then s.configWrite a data mask poison
  else s.padWriteNow ((a - scratchBase) / 32) data mask poison

/-- `k` words read by a master from address `a` on. -/
def State.masterReads (s : State) (g : Nat) (kind : MasterKind) (u : Nat) : Nat → Nat → State × List (Option Nat)
  | _, 0 => (s, [])
  | a, k + 1 =>
    let (s, d) := s.masterRead g kind u false a
    let (s, ds) := s.masterReads g kind u (a + 32) k
    (s, d :: ds)

/-- Bytes written by a master from address `a` on. -/
def State.masterBytes (s : State) (g : Nat) (kind : MasterKind) (u a : Nat) (l : List Byte) : State :=
  s.spreadBytes (fun s w data mask => s.masterWrite g kind u w data mask false) a l

end Sys2Proof.Machine
end

