-- ==== Sys2Proof/Machine/Raster.lean ====
section
/-! DEFINITION. The raster and move engines (chapter 06; R73): OPERATION_START with the checks of R192, CONVERT_COMPLETE with its reads,
poison policy and writes, aborts, and the move engines' COPY, GATHER and FILL. An engine reports to the scheduler by a completion, which
OPERATION_COMPLETION delivers; the engine's commands answer with the status and code they report. -/

namespace Sys2Proof.Machine

/-! ### Descriptors (Table 03.9) -/

/-- The output slot of an operation, while its version is OPEN (R64, R17). -/
def State.outAddr (s : State) (id f : Nat) : Option Nat :=
  match s.outBuffer id with
  | none => none
  | some (_, b) => match s.version? b.handle f with
    | some v => if v.state == .opened then v.slot.map fun j => s.slotAddr b.handle j else none
    | none => none

def State.inAddrs (s : State) (id f : Nat) : List Nat :=
  let g := s.graph (slotOf id)
  (g.inputs (g.node (id % 16384))).map fun e => s.inputAddr g e f

/-- REGION of the descriptor. -/
def State.outRegion (s : State) (id : Nat) : Nat × Nat × Nat × Nat :=
  match s.outBuffer id with
  | some (e, _) => (e.x, e.y, e.w, e.h)
  | none => (0, 0, 0, 0)

/-! ### Reading pictures (R170, R189) -/

/-- The reads of an operation so far: the state, the inputs that met poison (bit 0 IN0, bit 1 IN1), and whether a FAULT policy has
stopped it. -/
structure ReadRun where
  s : State
  met : Nat
  stopped : Bool

/-- An input word has returned poison under a POISON_POLICY (R189): 0 MIRROR, 1 NEUTRAL, 2 FAULT. A word that is answered with an address error
is taken as a poisoned one that has no mirror (R27).
[DEDUCED, log 219: unsafe] -/
def ReadRun.poisoned (r : ReadRun) (e policy inp a : Nat) : ReadRun × Option Nat :=
  let s := r.s.inc R.eng_POISON_WORDS e
  let met := putBit r.met inp true
  if policy = 2 then (⟨s, met, true⟩, none)
  else if policy = 0 ∧ a < frameStoreEnd then
    match (s.inc R.eng_MIRROR_READS e).readMirror (rasterStop e) a with
    | (s, d) => (⟨s, met, false⟩, d)
  else (⟨s, met, false⟩, none)

/-- What a word that met poison in a read of the engine's stop has become: the data of its mirror copy, or none for the neutral value (R189). -/
def State.metWord (s : State) (e a : Nat) : Option (Option Nat) :=
  (s.runOp e).bind fun r => (r.poison.find? fun p : Nat × Option Nat => p.1 == a).map Prod.snd

/-- One input word under a POISON_POLICY; one that has met poison before stays as it was taken. -/
def ReadRun.word (r : ReadRun) (e policy inp a : Nat) : ReadRun × Option Nat :=
  if r.stopped then (r, none)
  else match r.s.metWord e a with
  | some d => (r, d)
  | none => match r.s.masterRead (rasterStop e) .raster e false a with
    | (s, some d) => (⟨s, r.met, false⟩, some d)
    | (s, none) => (ReadRun.mk s r.met false).poisoned e policy inp a

/-- `k` words from address `a` on, as bytes; none where poison stands. -/
def ReadRun.words (r : ReadRun) (e policy inp : Nat) : Nat → Nat → ReadRun × List (Option Byte)
  | _, 0 => (r, [])
  | a, k + 1 =>
    let (r, d) := r.word e policy inp a
    let (r, t) := r.words e policy inp (a + 32) k
    (r, (match d with | some v => (leBytes 32 v).map some | none => List.replicate 32 none) ++ t)

/-- `n` bytes from address `a` on. -/
def ReadRun.span (r : ReadRun) (e policy inp a n : Nat) : ReadRun × List (Option Byte) :=
  let first := a / 32 * 32
  let (r, l) := r.words e policy inp first (ceilDiv (a + n - first) 32)
  (r, (l.drop (a - first)).take n)

/-- Whether storage row `k` of the crop window is read: in mode SINGLE only the selected field (R187). -/
def rowRead (p : ConvParams) (k : Nat) : Bool := p.fieldMode != 3 || k % 2 == p.fieldSelect

/-- The rows of the crop window from row `k` on (R170); field 2 comes from IN1 under IN1_FIELD2 (R179). -/
def ReadRun.rows (r : ReadRun) (e : Nat) (p : ConvParams) (ins : List Nat) : Nat → Nat → ReadRun × InRows
  | _, 0 => (r, [])
  | k, n + 1 =>
    let f := p.inFormat
    let inp := if p.in1Field2 && k % 2 == 1 then 1 else 0
    let a := nth ins inp 0 + (p.cropY / unitH f + k) * p.inPitch + p.cropX / fmtCoverH f * fmtGroup f
    let (r, row) := if rowRead p k then r.span e p.poisonPolicy inp a (p.cropW / fmtCoverH f * fmtGroup f) else (r, [])
    let (r, t) := r.rows e p ins (k + 1) n
    (r, row :: t)

/-! ### Tables (R184, R190) -/

/-- A section of `n` bytes at offset `o` of the parameter block or of IN2's slot, read wherever it lies under R27 (R185); none when a word of
it is poison or is answered with an address error.
[DEDUCED, log 67: unsafe, DEDUCED, log 219: unsafe] -/
def State.readSection (s : State) (e id : Nat) (p : ConvParams) (in2 o n : Nat) : State × Option (List Byte) :=
  let base := if p.tablesIn2 then in2 else s.paramAddr id
  match s.masterReads (rasterStop e) .raster e (base + o) (n / 32) with
  | (s, ws) => (s, if ws.any Option.isNone then none else some (ws.flatMap fun w => leBytes 32 (w.getD 0)))

/-- The enabled sections, one after the other; a disabled one is empty. -/
def State.readTables (s : State) (e id : Nat) (p : ConvParams) (in2 : Nat) : State × Option ConvTables :=
  let get (s : State) (en : Bool) (o n : Nat) : State × Option (List Byte) :=
    if en then s.readSection e id p in2 (32 * o) n else (s, some [])
  let (s, a) := get s p.scalerEn p.coefOfs 2048
  let (s, b) := get s p.matrixEn p.matrixOfs 32
  let (s, c) := get s p.lut1dEn p.lut1dOfs 24576
  let (s, d) := get s p.lut3dEn p.lut3dOfs 287520
  match a, b, c, d with
  | some a, some b, some c, some d => (s, some ⟨a, b, c, d⟩)
  | _, _, _, _ => (s, none)

/-! ### Writing the output (R174) -/

/-- The rows of the output region written by engine `e`, and the pitch beyond them where the region reaches the right edge; R27 applies. -/
def State.writeRegion (s : State) (e : Nat) (p : ConvParams) (pic : Plane) (out : Nat) (r : Nat × Nat × Nat × Nat) : State :=
  let (x, y, w, h) := p.region r
  let f := p.outFormat
  let uh := unitH f
  s.each (List.range (h / uh)) fun s k =>
    let row := out + (y / uh + k) * p.outPitch
    let s := s.masterBytes (rasterStop e) .raster e (row + x / fmtCoverH f * fmtGroup f) (outRow p pic w k)
    if x + w = p.outWidth then
      let n := fmtRowBytes f p.outWidth
      s.masterBytes (rasterStop e) .raster e (row + n) (List.replicate (p.outPitch - n) 0)
    else s

/-! ### Faults (R191, R192, R194) -/

/-- The operation of engine `e` leaves it: STATE, OPERATIONS and BUSY_NS follow. -/
def State.engineDone (s : State) (e : Nat) (r : RunOp) : State :=
  (((s.setRun e none).setReg R.eng_STATE e 0).inc R.eng_OPERATIONS e).add R.eng_BUSY_NS e (s.now - r.start)

/-- An operation that met poison under MIRROR or NEUTRAL, in the inputs of `met`, ends: event 0x6002 (R194). -/
def State.metEvent (s : State) (e met : Nat) : State := if met = 0 then s else s.raise 0x6002 (e + met * 256)

/-- A fault of code 1 to 8 (Table 06.15): recorded, event 0x6001, status FAULT answered.
[DEDUCED, log 68: unsafe] -/
def State.engineFault (s : State) (e code : Nat) (r : RunOp) : State :=
  let s := (s.setReg R.eng_LAST_FAULT e code).setReg R.eng_LAST_FAULT_NODE e r.node
  let s : State := if code ≤ 7 then s.inc R.eng_PARAM_FAULTS e else s
  (((s.metEvent e r.met).raise 0x6001 (e + code * 256)).engineDone e r).answerWith (leBytes 1 2 ++ leBytes 1 code)

/-- Engine `e` is fenced: its presence bit clears, event 0x6005, and its operator is gone (R191, R90).
[DEDUCED, log 38: unsafe] -/
def State.fenceEngine (s : State) (e : Nat) : State :=
  if s.enginePresent e then
    (((((s.absent R.pres_RASTER e).setReg R.eng_PRESENT e 0).setReg R.eng_STATE e 3).raise 0x6005 e).operatorGone e).setStop (rasterStop e) 3
  else s

/-- An uncorrectable error in an internal store (code 9): event 0x6003, and the fence at the third within 1 s (R191): the FAULT that the
engine reports in that cycle is discarded, and R90 applies (Table 03.13).
[DEDUCED, log 38: unsafe] -/
def State.storeFault (s : State) (e : Nat) (r : RunOp) : State :=
  let s := (((s.setReg R.eng_LAST_FAULT e 9).setReg R.eng_LAST_FAULT_NODE e r.node).metEvent e r.met).raise 0x6003 e
  let recent := (tget (fun _ => []) s.engines.storeFaults e).filter fun t => decide (s.mono < t + 1000000000)
  let times := s.mono :: recent
  let s := { s with engines := { s.engines with storeFaults := tput (fun _ => []) e times s.engines.storeFaults } }
  let s := s.engineDone e r
  let tag := s.fullTag r
  if 3 ≤ times.length ∧ s.enginePresent e then (s.fenceEngine e).complete e tag 2
  else s.answerWith (leBytes 1 2 ++ leBytes 1 9)

/-- The header words of an operation's parameter block. -/
def convParams (l : List Byte) : ConvParams := ⟨leAt l 0 32, leAt l 32 32, leAt l 64 32⟩

/-- The prefetched operation of operator `o` starts (R74); a raster engine checks it at once, and stops on a fault with nothing
written (R190, R192).
[DESIGN CHOICE, log 248: unsafe] -/
def opOperationStart (t o : Nat) (s : State) : State :=
  let s := (s.advanceTo t).silent
  let busy := (s.runOp o).isSome
  let s := s.startOp o
  if busy || decide (32 ≤ o) then s
  else match s.runOp o with
    | none => s
    | some r =>
      let s := s.setReg R.eng_STATE o 1
      match s.readParams r.node 0 3 with
      | (s, none) => s.engineFault o 8 r
      | (s, some l) =>
        let n := (s.inAddrs r.node r.frame).length
        match (convParams l).check (s.outRegion r.node) (decide (1 ≤ n)) (decide (2 ≤ n)) (decide (3 ≤ n)) with
        | 0 => s
        | code => s.engineFault o code r

/-- The input of an operation that a device address lies in: 0 to 2, none for its parameter block. -/
def State.inputAt (s : State) (r : RunOp) (a : Nat) : Option Nat :=
  let g := s.graph (slotOf r.node)
  ((s.inAddrs r.node r.frame).zip ((g.inputs (g.node (r.node % 16384))).map fun e => (g.buf e.buffer).size)).findIdx? fun x =>
    decide (x.1 ≤ a) && decide (a < x.1 + x.2)

/-- A write of raster engine `e` has not been acknowledged yet (R163, R193). -/
def State.engineWriting (s : State) (e : Nat) : Bool := s.rings.held.any fun h => h.kind == .raster && h.unit == e && h.write

/-- Engine `e` meets a fault while its operation may have writes under way: it issues nothing more, and reports FAULT once the last of them is
acknowledged (R163). -/
def State.faultWhenAcked (s : State) (e code : Nat) (r : RunOp) : State :=
  if s.engineWriting e then s.setRun e (some { r with fault := code }) else s.engineFault e code r

/-- A write of engine `e` has been acknowledged or lost: a fault that waited for the last of them is reported. -/
def State.engineAcked (s : State) (e : Nat) : State :=
  match s.runOp e with
  | some r => if r.fault != 0 && !r.aborting && !s.engineWriting e then s.engineFault e r.fault r else s
  | none => s

/-- The words that a read of engine `e`'s stop has returned for operation `r`, each with its poison flag: poison of IN0 and IN1 is met under
POISON_POLICY (R189), poison of the parameter block or of IN2 stops the operation (R190). What has become of each poisoned word is kept. -/
def ReadRun.returned (x : ReadRun) (e policy : Nat) (r : RunOp) :
    List (Nat × Nat × Bool) → ReadRun × List (Nat × Bool) × List (Nat × Option Nat)
  | [] => (x, [], [])
  | w :: t =>
    let (x, d, k) : ReadRun × (Nat × Bool) × List (Nat × Option Nat) :=
      if !w.2.2 || x.stopped then (x, w.2, [])
      else match x.s.inputAt r w.1 with
        | some 0 | some 1 => match x.poisoned e policy (((x.s.inputAt r w.1).getD 0)) w.1 with
          | (x, d) => (x, (d.getD 0, d.isNone), [(w.1, d)])
        | _ => ({ x with stopped := true }, w.2, [])
    let (x, l, ks) := x.returned e policy r t
    (x, d :: l, k ++ ks)

/-- Words read through the stop of raster engine `e` for its operation (R189, R190); none when they stop it, with FAULT and code 8. -/
def State.rasterWords (s : State) (e : Nat) (l : List (Nat × Nat × Bool)) : State × Option (List (Nat × Bool)) :=
  match s.runOp e with
  | none => (s, some (l.map Prod.snd))
  | some r =>
    if !l.any (fun w => w.2.2) || r.aborting || r.fault != 0 then (s, some (l.map Prod.snd))
    else match s.readParams r.node 0 3 with
      | (s, none) => (s.faultWhenAcked e 8 r, none)
      | (s, some p) =>
        let (x, l, ks) := (ReadRun.mk s r.met false).returned e (convParams p).poisonPolicy r l
        if x.stopped then (x.s.faultWhenAcked e 8 r, none)
        else (x.s.setRun e (some { r with met := x.met, poison := r.poison ++ ks }), some l)

/-- The status a raster or move operation reports: DONE, or DONE_FLAGGED where poison was met (Table 03.10). -/
def doneStatus (flagged : Bool) : List Byte := leBytes 1 (b2n flagged) ++ leBytes 1 0

/-- A raster engine finishes its operation (R162 to R191): the tables and the crop window are read, the region is written, and the
completion is reported, once every write of the operation has been acknowledged (R163).
[DEDUCED, log 67: unsafe, DEDUCED, log 68: unsafe, DESIGN CHOICE, log 246: unsafe] -/
def State.convertEnds (t e corrected : Nat) (storeFault : Bool) (s : State) : State :=
  let s := (s.advanceTo t).silent
  match (if e < 32 then s.runOp e else none) with
  | none => s
  | some r =>
    if r.aborting || r.fault != 0 || s.engineWriting e then s
    else
      let s := s.add R.eng_TABLE_CORRECTED e corrected
      match s.readParams r.node 0 3 with
      | (s, none) => s.engineFault e 8 r
      | (s, some l) =>
        let p := convParams l
        let ins := s.inAddrs r.node r.frame
        let region := s.outRegion r.node
        let s := (s.add R.eng_PIXELS_IN e p.pixelsIn).add R.eng_PIXELS_OUT e (p.pixelsOut region)
        if storeFault then s.storeFault e r
        else match s.readTables e r.node p (nth ins 2 0) with
          | (s, none) => s.engineFault e 8 r
          | (s, some tab) =>
            let (rr, rows) := (ReadRun.mk s r.met false).rows e p ins 0 (p.cropH / unitH p.inFormat)
            if rr.stopped then rr.s.engineFault e 8 r
            else
              let s : State := match rr.s.outAddr r.node r.frame with
                | some out => rr.s.writeRegion e p (picture p tab (stage1 p rows)) out region
                | none => rr.s
              ((s.metEvent e rr.met).engineDone e r).answerWith (doneStatus (rr.met != 0 || r.flagged))

/-- A CONVERT operation ends; the completions of the scheduler cycle in which it may have fenced its engine are processed after it (Table 03.13). -/
def opConvertComplete (t e corrected : Nat) (storeFault : Bool) (s : State) : State := (State.convertEnds t e corrected storeFault s).takeArrived

/-- The scheduler has ordered operator `o` to abandon the operation of a TAG (R89). -/
def State.abortOrdered (s : State) (o tag : Nat) : Bool := s.sched.ops.any fun x => x.operator == o && x.fullTag == tag && x.aborting

/-- An operator receives the scheduler's abort order for its active TAG (R89, R193, R344): it stops issuing reads and writes. A move engine, whose report
no rule times, reports ABORTED at once.
[DEDUCED, log 49: unsafe] -/
def opAbortOrder (t o tag : Nat) (s : State) : State :=
  let s := (s.advanceTo t).silent
  match s.runOp o with
  | none => s
  | some r =>
    if s.fullTag r ≠ tag ∨ r.aborting ∨ !s.abortOrdered o tag then s
    else if o < 32 then (s.setRun o (some { r with aborting := true })).setReg R.eng_STATE o 2
    else if o < 96 then (s.setRun o none).answerWith (leBytes 1 3 ++ leBytes 1 0)
    else s.setRun o (some { r with aborting := true, abortedAt := s.mono })

/-- A raster engine reports ABORTED, once every write it has issued is acknowledged (R193). -/
def opAbortComplete (t e : Nat) (s : State) : State :=
  let s := (s.advanceTo t).silent
  match (if e < 32 then s.runOp e else none) with
  | none => s
  | some r =>
    if r.aborting && !s.engineWriting e then
      ((((s.inc R.eng_ABORTS e).metEvent e r.met).raise 0x6004 e).engineDone e r).answerWith (leBytes 1 3 ++ leBytes 1 0)
    else s

/-! ### Move engines (R73) -/

/-- The words from `a` to `a + n` of a buffer read by move engine `m` and written from `b` on; poison goes over word for word
(Table 08.4). The flag says whether any was met. -/
def State.moveWords (s : State) (m : Nat) : Nat → Nat → Nat → State × Bool
  | _, _, 0 => (s, false)
  | a, b, n + 1 =>
    let (s, d) := s.masterRead (operatorStop (m + 32)) .move m false a
    let s := s.masterWrite (operatorStop (m + 32)) .move m b (d.getD 0) fullMask d.isNone
    let (s, f) := s.moveWords m (a + 32) (b + 32) n
    (s, f || d.isNone)

/-- `n` bytes copied from `a` to `b`: bytes of a poisoned word make poison of every output word they fall in. -/
def State.moveBytes (s : State) (m a b n : Nat) : State × Bool :=
  let first := a / 32 * 32
  let k := ceilDiv (a + n - first) 32
  let (s, ws) := s.masterReads (operatorStop (m + 32)) .move m first k
  let l : List (Option Byte) := ws.flatMap fun w => match w with
    | some d => (leBytes 32 d).map some
    | none => List.replicate 32 none
  let l := (l.drop (a - first)).take n
  let s := s.masterBytes (operatorStop (m + 32)) .move m b (l.map fun x => x.getD 0)
  let s := s.each (List.range (ceilDiv (b % 32 + n) 32)) fun s i =>
    let lo := max b (b / 32 * 32 + 32 * i)
    let hi := min (b + n) (b / 32 * 32 + 32 * (i + 1))
    if (l.drop (lo - b)).take (hi - lo) |>.any Option.isNone then
      s.masterWrite (operatorStop (m + 32)) .move m (b / 32 * 32 + 32 * i) 0 fullMask true else s
  (s, l.any Option.isNone)

/-- The byte spans of an output region, row by row: offset and length within the slot. -/
def regionSpans (b : BufferRec) (e : EdgeRec) : List (Nat × Nat) :=
  if b.kind != 0 || (e.w == 0 && e.h == 0) then [(0, b.size)]
  else
    let lo := e.x / fmtCoverH b.format * fmtGroup b.format
    let hi := ceilDiv (e.x + e.w) (fmtCoverH b.format) * fmtGroup b.format
    let uh := fmtCoverV b.format
    (List.range (ceilDiv (e.y + e.h) uh - e.y / uh)).map fun k => ((e.y / uh + k) * b.pitch + lo, hi - lo)

/-- An output edge with its region written out: the whole frame where W and H are 0. -/
def wholeEdge (b : BufferRec) (e : EdgeRec) : EdgeRec :=
  if e.w = 0 ∧ e.h = 0 then { e with x := 0, y := 0, w := b.width, h := b.height } else e

/-- A repeated 32-byte pattern over `n` bytes whose first byte lies at offset `o` of a word. -/
def patternBytes (pat : List Byte) (o n : Nat) : List Byte := (List.range n).map fun i => nth pat ((o + i) % 32) 0

/-- GATHER of row `i` of an output region: the same row of the input region, whose origin the header names.
[DESIGN CHOICE, log 48: safe] -/
def State.gatherSpan (s : State) (m src out : Nat) (b : BufferRec) (pitch x y : Nat) (span : Nat × Nat) (i : Nat) : State × Bool :=
  let a := src + (y / fmtCoverV b.format + i) * pitch + x / fmtCoverH b.format * fmtGroup b.format
  s.moveBytes m a (out + span.1) span.2

/-- Spans gathered one after the other. -/
def State.gatherSpans (s : State) (m src out : Nat) (b : BufferRec) (pitch x y : Nat) : Nat → List (Nat × Nat) → State × Bool
  | _, [] => (s, false)
  | i, p :: t =>
    let (s, f) := s.gatherSpan m src out b pitch x y p i
    let (s, g) := s.gatherSpans m src out b pitch x y (i + 1) t
    (s, f || g)

/-- The buffer of a node's first input. -/
def State.firstInput (s : State) (id : Nat) : BufferRec :=
  let g := s.graph (slotOf id)
  match (g.inputs (g.node (id % 16384))).head? with
  | some e => g.buf e.buffer
  | none => noBuffer

/-- What a move operation of an opclass writes to slot `out`: COPY (1), GATHER (2), FILL (3). -/
def State.moveWork (s : State) (m cls id out src : Nat) (e : EdgeRec) (b : BufferRec) (block : List Byte) : State × Bool :=
  match cls with
  | 1 => s.moveWords m src out (b.size / 32)
  | 2 =>
    let o := Config.gatherOrigin (block.take 32)
    s.gatherSpans m src out b (s.firstInput id).pitch o.1 o.2 0 (regionSpans b (wholeEdge b e))
  | _ =>
    let pat := slice block 32 32
    (s.each (regionSpans b e) fun s p => s.masterBytes (operatorStop (m + 32)) .move m (out + p.1) (patternBytes pat p.1 p.2), false)

/-- A move engine finishes (R73): FAULT on a TYPE that is not its OPCLASS's or on poison in its block, with nothing written.
[DEDUCED, log 49: unsafe] -/
def opMoveOperationComplete (t m : Nat) (s : State) : State :=
  let s := (s.advanceTo t).silent
  match (if m < 64 then s.runOp (m + 32) else none) with
  | none => s
  | some r =>
    let v := s.nodeRec r.node
    match s.readParams r.node 0 (if v.opclass = 3 then 2 else 1) with
    | (s, none) => (s.setRun (m + 32) none).answerWith (leBytes 1 2 ++ leBytes 1 0)
    | (s, some block) =>
      let s := s.setRun (m + 32) none
      if leAt block 0 2 ≠ v.opclass + 2 then s.answerWith (leBytes 1 2 ++ leBytes 1 0)
      else match s.outBuffer r.node, s.outAddr r.node r.frame with
        | some (e, b), some out =>
          let (s, flagged) := s.moveWork m v.opclass r.node out (nth (s.inAddrs r.node r.frame) 0 0) e b block
          s.answerWith (doneStatus (flagged || r.flagged))
        | _, _ => s.answerWith (doneStatus r.flagged)

end Sys2Proof.Machine
end

