-- ==== Sys2Proof/Machine/Fabric.lean ====
section
/-! DEFINITION. The programmable fabric (chapter 11): block memories, PLLs, and the hard side of the operator ports with the handshakes of
Table 11.4. A port's ring transfers are made by MASTER_REQUEST at its stop (Machine/Rings.lean). The answer of a handshake toward the
fabric is what its data signals carry. -/

namespace Sys2Proof.Machine

/-! ### Regions and quadrants (R316 to R318) -/

/-- The quadrant of region `r` (R318). -/
def regionQuadrant (r : Nat) : Nat := 2 * (r / 12 / 4) + r % 12 / 6

/-- Block memories, clusters and slices of region `r` (Table 11.1). -/
def regionMemories (r : Nat) : Nat := if edgeColumn (r % 12) then 80 else 120
def regionClusters (r : Nat) : Nat := if edgeColumn (r % 12) then 1600 else 2400
def regionSlices (r : Nat) : Nat := if edgeColumn (r % 12) then 64 else 192

/-- The region that holds unit `m` of a kind, and its number within the region; units are numbered region by region. `size r` is how many of them
region `r` has. -/
def unitRegion (size : Nat → Nat) (m : Nat) : Nat × Nat :=
  (List.range 96).foldl (fun acc r => if acc.1 = r ∧ size r ≤ acc.2 then (r + 1, acc.2 - size r) else acc) (0, m)

/-- The region that holds block memory `m`, and its number within the region. -/
def memoryRegion (m : Nat) : Nat × Nat := unitRegion regionMemories m

/-- The swap region that holds a unit, given by region and number within it, of a kind of which `limit` belong to a swap region (R350). -/
def swapUnit (limit : Nat) (x : Nat × Nat) : Option Nat :=
  if x.2 < limit then (List.range 16).find? fun n => swapClockRegion n == x.1 else none

/-- Block memories, clusters and slices of a swap region, and the swap region that holds one of them. -/
def memorySwap (m : Nat) : Option Nat := swapUnit 60 (memoryRegion m)
def clusterSwap (c : Nat) : Option Nat := swapUnit 1200 (unitRegion regionClusters c)
def sliceSwap (k : Nat) : Option Nat := swapUnit 96 (unitRegion regionSlices k)

/-- The inner index of region `r` (R317), and the region of inner index `i`. -/
def innerIndex (r : Nat) : Nat := 8 * (r / 12) + (r % 12 - 2)
def innerRegion (i : Nat) : Nat := i / 8 * 12 + i % 8 + 2

/-- The region of GPIO bank or PLL `b` below 32, and of PLL `p` (R317). -/
def bankRegion (b : Nat) : Nat := b / 4 * 12 + (match b % 4 with | 0 => 0 | 1 => 1 | 2 => 10 | _ => 11)
def pllRegion (p : Nat) : Nat := if p < 32 then bankRegion p else (3 + (p - 32) / 8) * 12 + 2 + (p - 32) % 8

/-- Quadrant `d` is powered: its domain is ON or still DRAINING. -/
def State.quadrantOn (s : State) (d : Nat) : Bool := decide (s.reg R.dom_STATE (100 + d) ≤ 1)

/-- The fabric runs: it is configured and out of reset (R358). -/
def State.fabricRuns (s : State) : Bool := s.reg R.cfg_FABRIC_STATE == 2

/-- IMAGE_ID of the image that configures logic of fixed fabric, or of a swap region. -/
def State.unitImage (s : State) (n : Option Nat) : Nat := n.elim (s.reg R.cfg_IMAGE_ID) fun n => s.reg R.swap_LIVE_ID n

/-- Logic of region `r` works: the fabric runs, the quadrant is powered, and its swap region, if it lies in one, is not being exchanged (R362). -/
def State.unitRuns (s : State) (r : Nat) (n : Option Nat) : Bool :=
  s.fabricRuns && s.quadrantOn (regionQuadrant r) && !(s.config.exchanging.any fun p => n == some p.1)

/-! ### Block memories (R321 to R324) -/

/-- Width in bits and depth in words of a raw shape (Table 11.3). -/
def shapeWidth (k : Nat) : Nat := nth [1, 2, 4, 9, 18, 36, 72] (k % 7) 1
def shapeDepth (k : Nat) : Nat := nth [32768, 16384, 8192, 4096, 2048, 1024, 512] (k % 7) 1

/-- The shape of a raw port of memory `m` under the image that configures it. -/
def State.rawShape (s : State) (m : Nat) (portB : Bool) : Nat := Config.bramShape (s.unitImage (memorySwap m)) m (b2n portB)

/-- The bits of word `addr` of a raw shape, in the memory's linear store; the places of raw bits begin at 128. -/
def rawPlaces (shape addr : Nat) : List Nat :=
  (List.range (shapeWidth shape)).map fun i => 128 + addr % shapeDepth shape * shapeWidth shape + i

/-- The number at a place of the block memories: code word `addr`, or raw bit `b` at 128 + b. -/
def State.bramAt (s : State) (m k : Nat) : Nat := tget (fun _ => 0) s.fabric.bram (m * 65536 + k)

def State.putBram (s : State) (m k v : Nat) : State :=
  { s with fabric := { s.fabric with bram := tput (fun _ => 0) (m * 65536 + k) v s.fabric.bram } }

/-- A block memory answers. -/
def State.bramRuns (s : State) (m : Nat) : Bool := s.unitRuns (memoryRegion m).1 (memorySwap m)

/-- The places of memory `m` written in its present clock cycle. -/
def State.bramWritten (s : State) (m : Nat) : List BramWritten := tget (fun _ => []) s.fabric.bramCycle m

def State.setWritten (s : State) (m : Nat) (l : List BramWritten) : State :=
  { s with fabric := { s.fabric with bramCycle := tput (fun _ => []) m l s.fabric.bramCycle } }

/-- An access opens a new clock cycle of memory `m`, unless it falls in the present one (R323). -/
def State.bramOpen (s : State) (m : Nat) (p : BramPort) : State := if p.same then s else s.setWritten m []

/-- What a place held before the present clock cycle: what a read of it gives (R323). -/
def State.bramBefore (s : State) (m k : Nat) : Nat :=
  match (s.bramWritten m).find? fun x => x.place == k with
  | some x => x.before
  | none => s.bramAt m k

/-- A port writes a place in the present clock cycle; port A's data stay (R323). -/
def State.bramPlace (s : State) (m : Nat) (portB : Bool) (k v : Nat) : State :=
  match (s.bramWritten m).find? fun x => x.place == k with
  | some x =>
    if portB && x.byA then s
    else (s.setWritten m ({ x with byA := x.byA || !portB } :: (s.bramWritten m).filter fun y => y.place != k)).putBram m k v
  | none => (s.setWritten m (⟨k, s.bramAt m k, !portB⟩ :: s.bramWritten m)).putBram m k v

/-- Event 0x7006, at most once per millisecond for the whole fabric (R324).
[DEDUCED, log 87: unsafe] -/
def State.raiseBram (s : State) (m : Nat) : State :=
  if s.fabric.bramRaised.elim true fun t => decide (t + 1000000 ≤ s.mono) then
    ({ s with fabric := { s.fabric with bramRaised := some s.mono } }).raise 0x7006 m
  else s

/-- The data of a coded read with CORR (1) and UNCORR (2). -/
def bramReply (d flags : Nat) : List Byte := leBytes 32 d ++ leBytes 1 flags

/-- A coded read of a code word (R322, R324).
[DEDUCED, log 87: unsafe] -/
def State.bramCoded (s : State) (m : Nat) (w : CodeWord) : State :=
  if s.on R.bm_SELFTEST_FAIL m then s.answerWith (bramReply 0 2)
  else match decodeWord w none with
    | .clean d => s.answerWith (bramReply d 0)
    | .corrected d _ _ => ((s.inc R.bm_CORRECTED m).inc R.fab_BRAM_CORRECTED).answerWith (bramReply d 1)
    | .poison => s.answerWith (bramReply 0 2)
    | .uncorrectable => (((s.inc R.bm_UNCORRECTABLE m).inc R.fab_BRAM_UNCORRECTABLE).raiseBram m).answerWith (bramReply 0 2)

/-- A block memory read (R322, R323): the data is the answer; a raw read carries no flags.
[DEDUCED, log 88: unsafe] -/
def opBramRead (m addr : Nat) (p : BramPort) (s : State) : State :=
  if !s.bramRuns m then s.silent
  else
    let s := s.bramOpen m p
    match s.reg R.bm_MODE m with
    | 1 => s.bramCoded m (BitVec.ofNat 288 (s.bramBefore m (addr % 128)))
    | 2 => s.answerWith (leBytes 9 (((rawPlaces (s.rawShape m p.b) addr).zipIdx.map fun k => s.bramBefore m k.1 * 2 ^ k.2).sum))
    | _ => s.silent

/-- A block memory write (R322, R323): a code word of the data, canonical poison under WPOISON, or raw bits.
[DEDUCED, log 88: unsafe] -/
def opBramWrite (m addr data : Nat) (p : BramPort) (wpoison : Bool) (s : State) : State :=
  if !s.bramRuns m then s
  else
    let s := s.bramOpen m p
    match s.reg R.bm_MODE m with
    | 1 => s.bramPlace m false (addr % 128) (if wpoison then poisonWord else encodeWord data).toNat
    | 2 => s.each (rawPlaces (s.rawShape m p.b) addr).zipIdx fun s k => s.bramPlace m p.b k.1 (b2n (data.testBit k.2))
    | _ => s

/-! ### PLLs and clocks (R327, R328) -/

/-- Output `o` of PLL `p` in kHz, as the image sets it: its VCO, 1.6 GHz to 3.2 GHz, divided by 2 to 128 and limited to 900 MHz. -/
def State.pllOutKhz (s : State) (p o : Nat) : Nat :=
  let id := s.reg R.cfg_IMAGE_ID
  let vco := 1600000 + Config.pllVco id p % 1600001
  vco / max (2 + Config.pllDivider id (4 * p + o) % 127) (ceilDiv vco 900000)

/-- What drives a clock (R327): a PLL output, one of the two clock-capable pins of a bank, or, for a regional clock, a global clock. -/
inductive ClockDriver where
  | pll (p out : Nat)
  | pin (bank i : Nat)
  | global (g : Nat)
  deriving DecidableEq, Repr

def pllDrivers (l : List Nat) : List ClockDriver := l.flatMap fun p => (List.range 4).map fun o => .pll p o
def pinDrivers (l : List Nat) : List ClockDriver := l.flatMap fun b => [.pin b 0, .pin b 1]

/-- What may drive a global clock. -/
def globalDrivers : List ClockDriver := pllDrivers (List.range 48) ++ pinDrivers (List.range 32)

/-- What may drive a regional clock of region `r`: a global clock, a PLL of the region, a clock-capable pin of the region's bank. -/
def regionalDrivers (r : Nat) : List ClockDriver :=
  (List.range 32).map ClockDriver.global ++ pllDrivers ((List.range 48).filter fun p => pllRegion p == r) ++
    pinDrivers ((List.range 32).filter fun b => bankRegion b == r)

/-- The driver that the image selects for global clock `g`, and for regional clock `n` of region `r`. -/
def State.globalDriver (s : State) (g : Nat) : ClockDriver :=
  nth globalDrivers (Config.clockDriver (s.reg R.cfg_IMAGE_ID) g % globalDrivers.length) (.pll 0 0)

def State.regionalDriver (s : State) (r n : Nat) : ClockDriver :=
  nth (regionalDrivers r) (Config.clockDriver (s.reg R.cfg_IMAGE_ID) (32 + 24 * r + n) % (regionalDrivers r).length) (.global 0)

/-- The frequency of a driver in kHz, as the image and the board set it. -/
def State.nominalKhz (s : State) : ClockDriver → Nat
  | .pll p o => s.pllOutKhz p o
  | .pin b i => Config.pinKhz (2 * b + i)
  | .global _ => 0

/-- Its frequency now: a PLL's outputs are held low while it is unlocked (R328). -/
def State.sourceKhz (s : State) : ClockDriver → Nat
  | .pll p o => if s.on R.pll_LOCKED p then s.pllOutKhz p o else 0
  | d => s.nominalKhz d

/-- The driver of clock `k` of region `r`: global clock `k` below 32, then the region's own. -/
def State.clockOf (s : State) (r k : Nat) : ClockDriver :=
  if k < 32 then s.globalDriver k
  else match s.regionalDriver r (k - 32) with
    | .global g => s.globalDriver g
    | d => d

/-- The region of operator port `q` (R317), and the swap region whose logic it is (R350). -/
def portRegion (q : Nat) : Nat := innerRegion (q / 8)
def portSwap (q : Nat) : Option Nat := if q % 32 < 4 then some (q / 32) else none

/-- The clocks of port `q`'s region that may be its OPCLK: 100 MHz to 600 MHz (R332). -/
def State.opclks (s : State) (q : Nat) : List Nat :=
  (List.range 56).filter fun k =>
    decide (100000 ≤ s.nominalKhz (s.clockOf (portRegion q) k)) && decide (s.nominalKhz (s.clockOf (portRegion q) k) ≤ 600000)

/-- OPCLK_KHZ of port `q` (R332): the frequency of the global or regional clock of its region that the image of its logic selects. -/
def State.opclkKhz (s : State) (q : Nat) : Nat :=
  let l := s.opclks q
  if !(tget (fun _ => {}) s.fabric.ports q).declared || l.isEmpty then 0
  else s.sourceKhz (s.clockOf (portRegion q) (nth l (Config.opclk (s.unitImage (portSwap q)) q % l.length) 0))

/-- A PLL loses lock (R328). -/
def opPllLockLoss (p : Nat) (s : State) : State :=
  if s.on R.pll_LOCKED p then ((s.setReg R.pll_LOCKED p 0).inc R.pll_LOCK_LOSSES p).raise 0x7001 p else s

/-- A PLL locks on an input of 10 MHz to 800 MHz. -/
def opPllLock (p khz : Nat) (s : State) : State :=
  if s.on R.pll_LOCKED p || decide (khz < 10000) || decide (800000 < khz) then s
  else ((s.setReg R.pll_LOCKED p 1).setReg R.pll_IN_KHZ p khz).raise 0x7002 p

/-! ### Operator ports: presence (R331, R345) -/

def State.port (s : State) (q : Nat) : PortRun := tget (fun _ => {}) s.fabric.ports q

def State.onPort (s : State) (q : Nat) (u : PortRun → PortRun) : State :=
  { s with fabric := { s.fabric with ports := tput (fun _ => {}) q (u (s.port q)) s.fabric.ports } }

def State.portUp (s : State) (q : Nat) : Bool := s.on R.port_PRESENT q

/-- The conditions of R331; the outputs of a swap region that is being exchanged are forced to 0, its PORT_UP among them (R362). -/
def State.portOffered (s : State) (q : Nat) : Bool :=
  let p := s.port q
  s.fabricRuns && p.declared && s.quadrantOn (portQuadrant q) && s.ringPresent (q / 32) && p.up && !(s.config.exchanging.any fun x => portSwap q == some x.1) &&
    !(p.reads.any fun r => r.stale) && !(p.writes.any fun w => w.stale && !w.posted)

/-- READS_OUT and WRITES_OUT follow. -/
def State.portCounts (s : State) (q : Nat) : State :=
  let p := s.port q
  (s.setReg R.port_READS_OUT q p.reads.length).setReg R.port_WRITES_OUT q (p.writes.filter fun w => !w.posted).length

/-- What a port loses when it stops being PRESENT (R345): its outstanding requests run out unheard, and its completion goes. -/
def PortRun.lose (p : PortRun) (cause : Nat) : PortRun :=
  { declared := p.declared, up := p.up, cause := cause, raisedAt := p.raisedAt,
    reads := p.reads.map fun r => { r with stale := true },
    writes := p.writes.map fun w => { w with stale := true } }

/-- PRESENT of port `q` follows its conditions, with event 0x7003 and, at a loss, R90 (R331, R345).
[DEDUCED, log 91: unsafe] -/
def State.refreshPort (s : State) (q cause : Nat) : State :=
  let was := s.portUp q
  let is := s.portOffered q
  if was == is then s
  else
    let s := (s.setReg R.port_PRESENT q (b2n is)).raise 0x7003 (q + b2n is * 512 + cause * 2 ^ 12)
    if is then s else ((s.onPort q fun p => p.lose cause).portCounts q).operatorGone (96 + q)

/-- Every port of a list follows its conditions.
[DEDUCED, log 91: unsafe] -/
def State.refreshPorts (s : State) (l : List Nat) (cause : Nat) : State := s.each l fun s q => s.refreshPort q cause

/-- PORT_UP of port `q` changes. -/
def opPortUpChange (t q : Nat) (up : Bool) (s : State) : State :=
  (((s.advanceTo t).onPort q fun p => { p with up := up }).refreshPort q 1).takeArrived

/-! ### Operations (R333 to R336, R344) -/

/-- The operation in port `q`'s active slot, while its completion has not been accepted (R337). -/
def State.portOp (s : State) (q : Nat) : Option RunOp := if (s.port q).done.isSome then none else s.runOp (96 + q)

/-- The TAG new requests carry (R337): 0 when no operation is active. -/
def State.portTag (s : State) (q : Nat) : Nat := (s.portOp q).elim 0 RunOp.tag

/-- New requests belong to a guaranteed operation (R337). -/
def State.portGuaranteed (s : State) (q : Nat) : Bool := (s.portOp q).elim false fun o => (s.graph (slotOf o.node)).guaranteed

/-- The operation descriptor (Table 03.9). -/
def State.descriptor (s : State) (r : RunOp) : List Byte :=
  let v := s.nodeRec r.node
  let g := s.graph (slotOf r.node)
  let ins := s.inAddrs r.node r.frame
  let out := s.outAddr r.node r.frame
  let (x, y, w, h) := s.outRegion r.node
  leBytes 4 (s.fullTag r) ++ leBytes 4 (r.node % 2 ^ 20 + v.opclass % 16 * 2 ^ 20 + b2n g.guaranteed * 2 ^ 24) ++ leBytes 8 r.frame ++
  time80 (s.markTime g.cad r.frame + v.deadline) ++ leBytes 5 (s.paramAddr r.node) ++ leBytes 1 0 ++ leBytes 5 (out.getD 0) ++
  leBytes 5 (nth ins 0 0) ++ leBytes 5 (nth ins 1 0) ++ leBytes 5 (nth ins 2 0) ++
  leBytes 7 (x + y * 2 ^ 13 + w * 2 ^ 26 + h * 2 ^ 39) ++ leBytes 4 0 ++
  leBytes 1 (b2n out.isSome + b2n (decide (0 < ins.length)) * 2 + b2n (decide (1 < ins.length)) * 4 + b2n (decide (2 < ins.length)) * 8)

/-- The descriptor is taken (R333, R334): the answer is DESC_DATA. -/
def opDescriptorHandshake (q : Nat) (s : State) : State :=
  match s.portUp q, s.portOp q with
  | true, some r =>
    if (s.port q).taken then s.silent
    else (s.onPort q fun p => { p with taken := true, param := 0, paramLen := none }).answerWith (s.descriptor r)
  | _, _ => s.silent

/-- The parameter channel: data, PM_LAST (1) and PM_POISON (2). -/
def pmReply (d : Nat) (last poison : Bool) : List Byte := leBytes 32 d ++ leBytes 1 (b2n last + b2n poison * 2)

/-- Word `i` of the active operation's parameter block (R334): the master stop admits the read inside the node's block only; none for poison.
[DEDUCED, log 256: unsafe] -/
def State.paramWord (s : State) (q : Nat) (r : RunOp) (i : Nat) : State × Option Nat :=
  let a := s.paramAddr r.node + 32 * i
  if s.inParameters (some r) a then
    match s.padReadNow ((a - scratchBase) / 32) with
    | (s, none) => (s.raise 0x9005 3, none)
    | x => x
  else (s.addressError (fabricStop (q / 4)) false, none)

/-- A parameter word is being presented: the descriptor has been taken and the block has not ended. -/
def PortRun.presents (p : PortRun) : Bool := p.taken && (p.paramLen.elim true fun n => decide (p.param < n))

/-- One word of the parameter block is taken (R334): a poisoned header is the only word; LEN 0 counts as 1. -/
def opParameterHandshake (q : Nat) (s : State) : State :=
  let p := s.port q
  match s.portUp q && p.presents, s.portOp q with
  | true, some r =>
    let i := p.param
    match s.paramWord q r i with
    | (s, none) =>
      let n := if i = 0 then 1 else p.paramLen.getD 1
      let s := s.onPort q fun p => { p with param := i + 1, paramLen := some n, flagged := true }
      (s.inc R.port_POISON_WORDS q).answerWith (pmReply 0 (i + 1 == n) true)
    | (s, some d) =>
      let n := if i = 0 then max 1 (bits d 47 32) else p.paramLen.getD 1
      (s.onPort q fun p => { p with param := i + 1, paramLen := some n }).answerWith (pmReply d (i + 1 == n) false)
  | _, _ => s.silent

/-- DONE_VALID drops the rest of the block (R335); the word then presented flags its operation if it is poison (R336).
[DEDUCED, log 257: unsafe] -/
def State.dropBlock (s : State) (q : Nat) (r : RunOp) : State :=
  if (s.port q).presents then
    match s.paramWord q r (s.port q).param with
    | (s, none) => (s.onPort q fun p => { p with flagged := true }).inc R.port_POISON_WORDS q
    | (s, some _) => s
  else s

/-- A protocol violation of Table 11.6: counted, and event 0x7008 at most once per millisecond per port. -/
def State.violation (s : State) (q code : Nat) : State :=
  let s := (s.inc R.port_VIOLATIONS q).setReg R.port_LAST_VIOLATION q code
  if (s.port q).raisedAt.elim true fun t => decide (t + 1000000 ≤ s.mono) then
    (s.onPort q fun p => { p with raisedAt := some s.mono }).raise 0x7008 (q + code * 2 ^ 12)
  else s

/-- A completion is accepted, or discarded on a wrong TAG with event 0x7004 (R336).
[DEDUCED, log 86: unsafe] -/
def opDoneHandshake (t q tag status code : Nat) (s : State) : State :=
  let s := s.advanceTo t
  if !s.portUp q then s
  else match s.runOp (96 + q) with
    | none => (s.inc R.port_BAD_COMPLETIONS q).raise 0x7004 q
    | some r =>
      if tag ≠ s.fullTag r then (s.inc R.port_BAD_COMPLETIONS q).raise 0x7004 q
      else if (s.port q).done.isSome then s
      else
        let s := s.dropBlock q r
        if r.aborting then s.onPort q fun p => { p with done := some (3, code) }
        else if status = 3 then (s.violation q 3).onPort q fun p => { p with done := some (2, code) }
        else s.onPort q fun p => { p with done := some (status, code) }

/-- Something of a TAG is outstanding (R336), a write transfer begun included. -/
def PortRun.outstanding (p : PortRun) (tag : Nat) : Bool :=
  (p.reads.any fun r => r.tag == tag && !r.stale) || (p.writes.any fun w => w.tag == tag && !w.posted && !w.stale) ||
    (p.cur.any fun w => w.tag == tag && !w.posted)

/-- The response flit presented, and not taken, is poison of a TAG. -/
def PortRun.showsPoison (p : PortRun) (tag : Nat) : Bool := p.responses.head?.any fun x => tag != 0 && x.tag == tag && x.poison != 0

/-- A completion is on its way to the scheduler, which receives it by OPERATION_COMPLETION.
[DEDUCED, log 258: unsafe] -/
def State.forward (s : State) (o tag status : Nat) : State :=
  { s with fabric := { s.fabric with forwarded := s.fabric.forwarded ++ [(o, tag, status)] } }

/-- The accepted completion goes to the scheduler once nothing of its TAG is outstanding (R336): the answer is the status and code
forwarded; the active slot is empty, and the responses to an aborted TAG are discarded (R344).
[DEDUCED, log 3: unsafe, DEDUCED, log 258: unsafe] -/
def opCompletionForward (t q : Nat) (s : State) : State :=
  let s := s.advanceTo t
  let p := s.port q
  match s.portUp q, s.runOp (96 + q), p.done with
  | true, some r, some (status, code) =>
    if p.outstanding r.tag then s.silent
    else
      let status := if status = 0 ∧ (p.flagged ∨ r.flagged ∨ p.showsPoison r.tag) then 1 else status
      let tag := s.fullTag r
      let s := s.onPort q fun p =>
        { p with done := none, taken := false, param := 0, paramLen := none, flagged := false,
                 responses := if r.aborting then p.responses.filter fun x => x.tag != r.tag else p.responses }
      ((s.setRun (96 + q) none).forward (96 + q) tag status).answerWith (leBytes 1 status ++ leBytes 1 code)
  | _, _, _ => s.silent

/-- 2 µs after ABORT rose without a completion, the port accepts ABORTED itself (R344). -/
def opForcedAbort (t q : Nat) (s : State) : State :=
  let s := s.advanceTo t
  match s.portOp q with
  | some r =>
    if r.aborting && decide (r.abortedAt + 2000 ≤ s.mono) && s.portUp q then
      (((s.dropBlock q r).onPort q fun p => { p with done := some (3, 0) }).inc R.port_FORCED_ABORTS q).raise 0x7005 q
    else s
  | none => s

/-! ### Memory access (R337 to R343) -/

/-- No new request is taken under a TAG that is being aborted (R344). -/
def State.portAborting (s : State) (q : Nat) : Bool := (s.portOp q).elim false RunOp.aborting

/-- Flits of the response buffer in use or reserved (R339). -/
def PortRun.bufferUsed (p : PortRun) : Nat := p.responses.length + (p.reads.map fun r => ceilDiv r.count 2).sum

/-- A read request is accepted, with buffer room reserved (R339). -/
def opReadRequestHandshake (q addr count : Nat) (mirror : Bool) (ident : Nat) (s : State) : State :=
  let p := s.port q
  let n := count % 16 + 1
  if !s.portUp q || s.portAborting q || decide (64 ≤ p.reads.length) || decide (128 < p.bufferUsed + ceilDiv n 2) then s
  else
    let r : PortRead :=
      { tag := s.portTag q, ident := ident % 64, addr := addr % 2 ^ 35 * 32, count := n, mirror := mirror, guaranteed := s.portGuaranteed q }
    (s.onPort q fun p => { p with reads := p.reads ++ [r] }).portCounts q

/-- Data, then RS_TWO (1), RS_LAST (2), RS_POISON (4, 8) and RS_ERR (16), then RS_ID. -/
def rsReply (r : RsFlit) : List Byte :=
  leBytes 32 r.word0 ++ leBytes 32 r.word1 ++ leBytes 1 (b2n r.two + b2n r.last * 2 + r.poison * 4 + r.err * 16) ++ leBytes 1 r.ident

/-- The next response flit is taken (R339, R342): poison on it flags its operation. -/
def opReadResponseHandshake (q : Nat) (s : State) : State :=
  match s.portUp q, (s.port q).responses with
  | true, r :: rest =>
    let words := if r.err = 1 then 0 else if r.two then 2 else 1
    let own := r.tag != 0 && r.tag == (s.runOp (96 + q)).elim 0 RunOp.tag
    let s := s.onPort q fun p => { p with responses := rest, flagged := p.flagged || (own && r.poison != 0) }
    ((s.add R.port_POISON_WORDS q (popCount 2 r.poison)).add R.port_BYTES_READ q (32 * words)).answerWith (rsReply r)
  | _, _ => s.silent

/-- The words of one flit with their poison bits; word 1's bit is ignored where there is no word 1 (Table 11.6, code 4). -/
def wrWords (f : WrFlit) : List (Nat × Bool) :=
  (f.word0 % 2 ^ 256, f.poison.testBit 0) :: if f.two then [(f.word1 % 2 ^ 256, f.poison.testBit 1)] else []

/-- A whole write transfer is done with: sent to the stop, or discarded for a violation with WA_STATUS 2 unless posted. -/
def State.endWrite (s : State) (q : Nat) (w : PortWrite) : State :=
  let s := s.onPort q fun p => { p with cur := none }
  if w.bad = 0 then
    ((s.onPort q fun p => { p with writes := p.writes ++ [w] }).add R.port_BYTES_WRITTEN q (32 * w.words.length)).portCounts q
  else
    let s := s.violation q w.bad
    if w.posted then s else s.onPort q fun p => { p with ack := some (w.ident, 2) }

/-- One write flit is taken (R340): the first opens the transfer, WR_LAST or the eighth ends it. -/
def opWriteFlitHandshake (q : Nat) (f : WrFlit) (s : State) : State :=
  let p := s.port q
  if !s.portUp q then s
  else
    let fresh : PortWrite :=
      { tag := s.portTag q, ident := f.ident % 64, addr := f.addr % 2 ^ 35 * 32, mask := f.mask % 2 ^ 32, posted := f.posted,
        guaranteed := s.portGuaranteed q }
    let full := decide (64 ≤ (p.writes.filter fun w => !w.posted).length) && !f.posted
    if p.cur.isNone && (s.portAborting q || full) then s
    else
      let s := if f.poison.testBit 1 && !f.two then s.violation q 4 else s
      let w := p.cur.getD fresh
      let n := w.flits + 1
      let masked := f.mask % 2 ^ 32 != fullMask || w.mask != fullMask
      let bad := if masked && (f.two || decide (1 < n)) then 1 else w.bad
      let w := { w with words := w.words ++ wrWords f, flits := n, bad := bad }
      if f.last then s.endWrite q w
      else if n = 8 then s.endWrite q { w with bad := if w.bad = 0 then 2 else w.bad }
      else s.onPort q fun p => { p with cur := some w }

/-- The answered read of a ring tag leaves port `q`; its flits are presented in word order (R339, R342, R343). `err` is RS_ERR. -/
def rsFlits (ident tag err : Nat) : List (Nat × Bool) → List RsFlit
  | [] => []
  | [a] => [⟨ident, if a.2 then 0 else a.1, 0, false, true, b2n a.2, err, tag⟩]
  | a :: b :: t =>
    ⟨ident, if a.2 then 0 else a.1, if b.2 then 0 else b.1, true, t.isEmpty, b2n a.2 + b2n b.2 * 2, err, tag⟩ :: rsFlits ident tag err t

/-- The read of port `q` sent with a ring tag is answered. An address error carries no data. -/
def State.portReadAnswer (s : State) (q ring err : Nat) (ws : List (Nat × Bool)) : State :=
  match (s.port q).reads.find? fun r => r.sent == some ring with
  | none => s
  | some r =>
    let s := s.onPort q fun p => { p with reads := p.reads.erase r }
    let fs : List RsFlit := if err = 1 then [⟨r.ident, 0, 0, false, true, 0, 1, r.tag⟩] else rsFlits r.ident r.tag err ws
    let s : State := if r.stale then s else s.onPort q fun p => { p with responses := p.responses ++ fs }
    (s.portCounts q).refreshPort q (s.port q).cause

/-- The acknowledged write of port `q` sent with a ring tag is answered with WA_STATUS 0 DONE, 1 LOST or 2 REFUSED. -/
def State.portWriteAnswer (s : State) (q ring status : Nat) : State :=
  match (s.port q).writes.find? fun w => w.sent == some ring && !w.posted with
  | none => s
  | some w =>
    let own := status == 1 && w.tag != 0 && w.tag == (s.runOp (96 + q)).elim 0 RunOp.tag
    let s := s.onPort q fun p => { p with writes := p.writes.erase w, flagged := p.flagged || own }
    let s : State := if status = 1 then s.inc R.port_LOST q else s
    let s : State := if w.stale then s else s.onPort q fun p => { p with ack := some (w.ident, status) }
    (s.portCounts q).refreshPort q (s.port q).cause

end Sys2Proof.Machine
end

