-- ==== Sys2Proof/Machine/Configuration.lean ====
section
/-! DEFINITION. The configuration loader, the swap regions and the configuration scrubber (chapter 12). -/

namespace Sys2Proof.Machine

/-! ### Cells (R349, R368) -/

/-- A whole frame written by the loader: a pending write-back or repair of it is cancelled, and it is no longer suspect (R370). -/
def State.putFrame (s : State) (f : Nat) (ws : List Nat) : State :=
  (s.each (ws.zipIdx) fun s p => s.putCell f p.2 p.1).frameWritten f

def State.liveImage (s : State) (n : Nat) : ImageInfo := tget (fun _ => {}) s.config.live n
def State.shadowImage (s : State) (n : Nat) : ImageInfo := tget (fun _ => {}) s.config.shadow n

def State.setLive (s : State) (n : Nat) (x : ImageInfo) : State :=
  { s with config := { s.config with live := tput (fun _ => {}) n x s.config.live } }

def State.setShadow (s : State) (n : Nat) (x : ImageInfo) : State :=
  { s with config := { s.config with shadow := tput (fun _ => {}) n x s.config.shadow } }

/-- UNREPAIRED and the SUSPECT flags follow the frames that hold an unrepaired upset. -/
def State.refreshSuspects (s : State) : State :=
  let s := s.setReg R.scr_UNREPAIRED 0 s.config.suspects.length
  s.each (List.range 16) fun s n => s.setReg R.swap_SUSPECT n (b2n (s.config.suspects.any fun f => frameSwap f == some n))

/-- SUSPECT_MAP (Table 12.13). -/
def State.suspectMap (s : State) : List Byte :=
  leBytes 16 ((s.config.suspects.map frameRegion).eraseDups.map fun r => 2 ^ r).sum

/-! ### Starting a load (R356, R358, R359) -/

/-- A node of a slot binds an operator of a set. -/
def State.bindsOp (s : State) (g : Nat) (p : Nat → Bool) : Bool := (s.graph g).nodes.any fun v => v.kind == 0 && p v.operator

/-- A RUNNING, DRAINING or admitted graph binds an operator of a set. -/
def State.opInUse (s : State) (p : Nat → Bool) : Bool :=
  allSlots.any fun g => (s.live g || s.on R.sadm_STATE g) && s.bindsOp g p

/-- An exchange is armed for a swap region of a set. -/
def State.exchangeArmed (s : State) (p : Nat → Bool) : Bool := s.armed.any fun m => match m with | .exchange n => p n | _ => false

/-- Every operator port. -/
def allPorts : List Nat := List.range 512

/-- A load begins. -/
def State.beginLoad (s : State) (target location : Nat) : State :=
  let job : LoadJob := { target := target, streamed := location == 0, start := s.mono, last := s.mono }
  let s : State := { s with config := { s.config with job := some job } }
  (s.setReg R.cfg_LOAD_TARGET 0 (if target = 16 then 0xFF else target)).setReg R.cfg_BYTES_LOADED 0 0

/-- The fabric is held in reset: no port is PRESENT. -/
def State.resetFabric (s : State) (st : Nat) : State :=
  let s := s.setReg R.cfg_FABRIC_STATE 0 st
  (s.each allPorts fun s q => if (s.port q).up then s.onPort q fun p => { p with up := false } else s).refreshPorts allPorts 0

/-- COMMAND = LOAD of the full image (R358). -/
def opFullLoad (w : Who) (s : State) : State :=
  s.writeAs w R.cfg_COMMAND 0 true fun s =>
    let quadrantOff := (List.range 4).any fun d => !s.quadrantOn d
    if s.config.job.isSome || s.opInUse (fun o => decide (96 ≤ o)) || s.exchangeArmed (fun _ => true) || quadrantOff then s.stateError
    else ((s.beginLoad 16 (s.reg R.cfg_LOCATION)).resetFabric 1).ok

/-- COMMAND = LOAD of swap region `n` (R359). -/
def opPartialLoad (w : Who) (n : Nat) (s : State) : State :=
  s.writeAs w R.swap_COMMAND n true fun s =>
    if s.config.job.isSome || s.on R.swap_ARMED n || s.reg R.cfg_FABRIC_STATE != 2 || !s.swapPresent n then s.stateError
    else ((s.beginLoad n (s.reg R.swap_LOCATION n)).shadowState n 1).ok

/-! ### The checks that need the device (Table 12.7) -/

/-- Check 3 (Table 12.5): the life-cycle state permits the image. -/
def State.imagePermitted (s : State) (encrypted : Bool) : Bool :=
  match s.reg R.lc_STATE with
  | 0 | 1 => !encrypted || s.service.imageKey.isSome
  | 2 => encrypted
  | 3 => !encrypted
  | _ => false

/-- Check 4 (R330): the standard of a bank agrees with its VIO, within the 5 % of its rating.
[DEDUCED, log 92: unsafe] -/
def gpioAgrees (b std : Nat) : Bool :=
  let mv := Config.vioMv b
  let near (v : Nat) : Bool := decide (95 * v ≤ 100 * mv) && decide (100 * mv ≤ 105 * v)
  match std with
  | 0 => true
  | 1 => near 1200
  | 2 => near 1500
  | 3 => near 1800
  | _ => near 1800 && (decide (b < 4) || decide (28 ≤ b))

/-- Check 5: a partial image fits the live full image, its region is present, and it declares only its four ports. -/
def State.partialFits (s : State) (n : Nat) (x : ImageHead) : Bool :=
  x.baseId == s.reg R.cfg_IMAGE_ID && s.swapPresent n && (List.range 512).all fun q => !x.ports.testBit q || decide (q / 4 = 8 * n)

/-- The key the loader's AES engine holds. -/
def State.imageKeyBytes (s : State) : List Byte := s.service.imageKey.getD []

/-- Checks 1 to 5 on a header; 0 when they pass.
[DEDUCED, log 95: unsafe] -/
def State.headerCheck (s : State) (target : Nat) (h : List Byte) : Nat :=
  let x := imageHead h
  if headWrong target h then 1
  else if !headTagOk s.imageKeyBytes h then 2
  else if !s.imagePermitted x.encrypted then 3
  else if (List.range 32).any fun b => !gpioAgrees b (leAt x.gpio b 1) then 4
  else if target ≠ 16 ∧ !s.partialFits target x then 5
  else 0

/-- The whole image as far as its bytes go. -/
def State.parseImage (s : State) (target : Nat) (l : List Byte) : Parsed Image :=
  if l.length < 256 then .more
  else match s.headerCheck target (l.take 256) with
    | 0 => parseBody s.imageKeyBytes target (imageHead (l.take 256)) (l.drop 256)
    | c => .bad c

/-! ### Ending a load (R357 to R359, R503) -/

/-- The content of block memory `m`: code words in coded mode, bits in raw mode (R353). -/
def State.putMemory (s : State) (m : Nat) (l : List Byte) : State :=
  if s.reg R.bm_MODE m = 1 then s.each (List.range 128) fun s k => s.putBram m k (leAt l (36 * k) 36)
  else s.each (List.range 36864) fun s b => s.putBram m (128 + b) (leAt l 0 4608 / 2 ^ b % 2)

/-- What the global frames of an image configure (R327 to R332): modes, PLL outputs, GPIO standards, ports and their clocks. -/
def State.applyGlobals (s : State) (x : ImageHead) : State :=
  let id := x.imageId
  let s := s.each (List.range 10240) fun s m => s.setReg R.bm_MODE m (Config.bramMode id m % 3)
  let s := s.each (List.range 48) fun s p => opPllLockLoss p s
  let s := s.each (List.range 32) fun s b => s.setReg R.gpio_STANDARD b (leAt x.gpio b 1)
  s.each allPorts fun s q =>
    s.onPort q fun p => { p with declared := x.ports.testBit q }

/-- The live frames hold no defined content after a failed full load (R358): no repair or write-back of them stands; SUSPECT does (R503).
[DEDUCED, log 230: unsafe] -/
def State.loseFrames (s : State) : State :=
  { s with config := { s.config with repairs := [], writeBack := none } }

/-- LOAD_RESULT and event 0x7011 end the load; a failed full load leaves the fabric FAILED, a failed partial load an EMPTY shadow. -/
def State.endLoad (s : State) (j : LoadJob) (code : Nat) : State :=
  let s : State := { s with config := { s.config with job := none } }
  let s := (s.setReg R.cfg_LOAD_RESULT 0 code).setReg R.cfg_LOAD_US 0 ((s.mono - j.start) / 1000)
  let s := s.setReg R.cfg_BYTES_LOADED 0 j.data.length
  let s : State := if code = 0 then s else if j.target = 16 then s.loseFrames.setReg R.cfg_FABRIC_STATE 0 3 else s.shadowState j.target 0
  s.raise 0x7011 (j.target + code * 256)

/-- A full image goes live (R358): the flip-flops take their INIT values. -/
def State.goLive (s : State) (src : Nat) (im : Image) : State :=
  let x := im.head
  let s := s.each im.frames fun s p => s.putFrame p.1 p.2
  let s := s.applyGlobals x
  let s : State := { s with fabric := { s.fabric with bram := [], bramCycle := [], clusters := [], slices := [], pins := [] } }
  let s := s.each im.records fun s p => s.putMemory p.1 p.2
  let info : ImageInfo := { source := src, encrypted := x.encrypted, nonce := x.nonce, ports := x.ports }
  let s : State := { s with config := { s.config with full := info, suspects := [], repairs := [], writeBack := none,
                                                      scrubPos := 0, scrubStart := s.mono } }
  let s := ((s.setReg R.cfg_FABRIC_STATE 0 2).setReg R.cfg_IMAGE_ID 0 x.imageId).setReg R.cfg_SOURCE 0 src
  let s := s.each (List.range 16) fun s n =>
    ((((s.shadowState n 0).setShadow n {}).setLive n { info with ports := x.ports / 2 ^ (32 * n) % 16 }).setReg R.swap_LIVE_ID n
      x.imageId).setReg R.swap_LIVE_SOURCE n src
  (s.refreshSuspects).refreshPorts allPorts 0

/-- A checked partial image stands in the shadow (R359). -/
def State.goStaged (s : State) (n src : Nat) (im : Image) : State :=
  let x := im.head
  let s := s.each im.frames fun s p => s.putFrame (shadowFirst n + (p.1 - swapFirst n)) p.2
  let s := s.setShadow n { source := src, encrypted := x.encrypted, nonce := x.nonce, ports := x.ports / 2 ^ (32 * n) % 16 }
  (s.shadowState n 2).setReg R.swap_SHADOW_ID n x.imageId

/-- A load ends with what its bytes hold: an image cut short is a source read error (code 9). -/
def State.completeLoad (s : State) (j : LoadJob) (src : Nat) : State :=
  match s.parseImage j.target j.data with
  | .more => s.endLoad j 9
  | .bad c => s.endLoad j c
  | .good im rest =>
    let j := { j with data := j.data.take (j.data.length - rest.length) }
    (if j.target = 16 then s.goLive src im else s.goStaged j.target src im).endLoad j 0

/-- A load ends (R357): from flash with the bytes read, or a streamed one whose image is whole or has failed a check.
[DESIGN CHOICE, log 13: unsafe, DEDUCED, log 93: unsafe, DEDUCED, log 94: unsafe] -/
def opLoadFinish (t : Nat) (data : List Byte) (readOk : Bool) (s : State) : State :=
  let s := s.advanceTo t
  match s.config.job with
  | none => s
  | some j =>
    if !j.streamed then
      let j := { j with data := data }
      if readOk then s.completeLoad j 0 else s.endLoad j 9
    else match j.bad with
      | some c => s.endLoad j c
      | none => match s.parseImage j.target j.data with
        | .good _ _ => s.completeLoad j (j.source.getD 0)
        | _ => s

/-- The stream source of a class (R356). -/
def streamSource : AccessClass → Option Nat
  | .peer => some 1
  | .operator => some 2
  | .service => some 3
  | _ => none

/-- An IMAGE_DATA piece (R356, R427): its OFFSET must equal the bytes already streamed.
[DEDUCED, log 93: unsafe] -/
def opImageData (w : Who) (offset : Nat) (data : List Byte) (s : State) : State :=
  let denied := if s.dictAnswers w then s.accessDenied else s.silent
  match s.config.job, streamSource w.cls with
  | some j, some src =>
    if !j.streamed || j.bad.isSome || (j.source.isSome && j.source != some src) then denied
    else
      s.writeOrdered w R.cfg_IMAGE_DATA 0 true (offset == j.data.length) true fun s =>
        let j := { j with source := some src, data := j.data ++ data, last := s.mono }
        let bad := match s.parseImage j.target j.data with | .bad c => some c | _ => none
        let s : State := { s with config := { s.config with job := some { j with bad := bad } } }
        (s.setReg R.cfg_BYTES_LOADED 0 j.data.length).ok
  | _, _ => denied

/-- A streamed load without IMAGE_DATA for STREAM_TIMEOUT fails with code 9 (R356), or with the check it failed first (R357). -/
def opStreamTimeout (t : Nat) (s : State) : State :=
  let s := s.advanceTo t
  match s.config.job with
  | some j =>
    if j.streamed && decide (j.last + s.reg R.cfg_STREAM_TIMEOUT * 1000000 ≤ s.mono) then s.endLoad j (j.bad.getD 9) else s
  | none => s

/-! ### Swap regions (R360 to R366) -/

/-- COMMAND = ARM_EXCHANGE (R360): the reply is the frame used. -/
def opArmExchange (w : Who) (n : Nat) (s : State) : State :=
  s.writeAs w R.swap_COMMAND n true fun s =>
    let c := s.reg R.swap_CADENCE n
    if s.reg R.swap_SHADOW n < 2 ∨ !s.swapPresent n ∨ s.on R.swap_ARMED n ∨ 16 ≤ c ∨ !s.on R.cad_ENABLE c then s.stateError
    else
      let f := s.armFrame c (s.reg R.swap_TARGET_FRAME n)
      (((s.armMember c f (.exchange n)).setReg R.swap_ARMED n 1).setReg R.swap_TARGET_FRAME n f).answerWith (leBytes 8 f)

/-- Findings in the shadow of region `n` await its exchange no longer: a later read of the frame finds it anew.
[DEDUCED, log 259: unsafe] -/
def State.dropLate (s : State) (n : Nat) : State :=
  { s with config := { s.config with late := s.config.late.filter fun f => (f - liveFrames) / swapFrames != n } }

/-- COMMAND = DISARM (R360); without an armed exchange there is nothing to remove.
[DESIGN CHOICE, log 231: unsafe] -/
def opExchangeDisarm (w : Who) (n : Nat) (s : State) : State :=
  s.writeAs w R.swap_COMMAND n true fun s =>
    if s.on R.swap_ARMED n then (((s.dropMembers fun m => m == .exchange n).dropLate n).setReg R.swap_ARMED n 0).ok else s.stateError

/-- COMMAND = CLEAR (R360); a shadow that is being loaded is the loader's.
[DESIGN CHOICE, log 231: unsafe] -/
def opShadowClear (w : Who) (n : Nat) (s : State) : State :=
  s.writeAs w R.swap_COMMAND n true fun s =>
    if s.on R.swap_ARMED n || s.reg R.swap_SHADOW n == 1 then s.stateError else ((s.dropLate n).shadowState n 0).ok

/-- COMMAND = RETIRE (R366): recorded in the MRAM store; the presence bit clears, the shadow is EMPTY. -/
def opSwapRegionRetire (w : Who) (n : Nat) (s : State) : State :=
  s.writeAs w R.swap_COMMAND n true fun s =>
    let s : State := { s with config := { s.config with retired := insertNat n s.config.retired } }
    (((s.absent R.pres_SWAP n).setReg R.swap_PRESENT n 0).shadowState n 0).ok

/-- An exchange member is ready at its commit lead (R361). -/
def State.exchangeReady (s : State) (n : Nat) : Bool :=
  decide (2 ≤ s.reg R.swap_SHADOW n) && s.swapPresent n && s.quadrantOn (regionQuadrant (swapClockRegion n)) &&
    !(s.config.repairs.any fun f => frameSwap f == some n)

/-- The block memories of swap region `n` (R350): the first 60 of its clock region. -/
def swapMemories (n : Nat) : List Nat :=
  let first := ((List.range (swapClockRegion n)).map regionMemories).sum
  (List.range 60).map (first + ·)

/-- The logic of swap region `n` at the INIT values of its present configuration: flip-flops, slices, and block memories of zero words (R362). -/
def State.initSwap (s : State) (n : Nat) : State :=
  let ms := swapMemories n
  { s with fabric := { s.fabric with bram := s.fabric.bram.filter (fun p => !ms.contains (p.1 / 65536)),
                                     bramCycle := s.fabric.bramCycle.filter (fun p => !ms.contains p.1),
                                     clusters := s.fabric.clusters.filter (fun p => clusterSwap p.1 != some n),
                                     slices := s.fabric.slices.filter fun p => sliceSwap p.1 != some n } }

/-- Live and shadow cells of swap region `n` exchange roles; a pending write-back follows its cells (R370). -/
def State.swapCells (s : State) (n : Nat) : State :=
  let a := swapFirst n
  let b := shadowFirst n
  let swapped (f : Nat) : Nat := if a ≤ f ∧ f < a + swapFrames then f - a + b else if b ≤ f ∧ f < b + swapFrames then f - b + a else f
  let cells := s.config.cells.foldl (fun t p => tput (fun _ => 0) (swapped (p.1 / 32) * 32 + p.1 % 32) p.2 t) []
  let c := s.config
  { s with config := { c with cells := cells, writeBack := c.writeBack.map fun p => (swapped p.1, p.2) } }

/-- A log entry of the scrubber (Table 12.13): kinds 0 corrected, 1 uncorrectable, 2 repaired, 3 unrepaired. -/
def State.scrubLog (s : State) (f word kind : Nat) : State :=
  let e := leBytes 4 f ++ leBytes 1 word ++ leBytes 1 kind ++ leBytes 2 (s.stamp / 1000000000)
  { s with config := { s.config with log := (e :: s.config.log).take 16 } }

/-- A live frame is left unrepaired (R368, R369): 1 no flash source, 2 segment check failed, 3 queue full. -/
def State.unrepaired (s : State) (f cause : Nat) : State :=
  let s : State := { s with config := { s.config with suspects := f :: s.config.suspects.filter fun x => x != f } }
  ((s.scrubLog f 0 3).refreshSuspects).raise 0x7104 (f + cause * 2 ^ 20)

/-- The image that configures a live frame. -/
def State.frameImage (s : State) (f : Nat) : ImageInfo := match frameSwap f with | some n => s.liveImage n | none => s.config.full

/-- A live frame with an uncorrectable upset (R368): its repair is queued, or it is left unrepaired. -/
def State.liveUpset (s : State) (f : Nat) : State :=
  if (s.frameImage f).source ≠ 0 then s.unrepaired f 1
  else if s.config.repairs.length < 16 then { s with config := { s.config with repairs := s.config.repairs ++ [f] } }
  else s.unrepaired f 3

/-- An exchange takes effect at frame mark `f` (R362): the ports fall, the copies exchange roles, the logic takes its INIT values; live frames
that held an upset leave service (R503), and those found in the shadow since the commit lead are live upsets (R361). A region retired since then
is not exchanged (R366).
[DEDUCED, log 96: unsafe, DEDUCED, log 260: unsafe] -/
def State.exchangeStart (s : State) (n f : Nat) : State :=
  if !s.swapPresent n then (s.dropLate n).setReg R.swap_ARMED n 0
  else
    let ports := (List.range 4).map fun i => 32 * n + i
    let s := s.each ports fun s q => s.onPort q fun p => { p with up := false }
    let s := s.refreshPorts ports 4
    let live := s.liveImage n
    let shadow := s.shadowImage n
    let s := ((s.swapCells n).setLive n shadow).setShadow n live
    let s := s.each ports fun s q => s.onPort q fun p => { p with declared := shadow.ports.testBit (q % 4) }
    let id := s.reg R.swap_SHADOW_ID n
    let s := (s.each (swapMemories n) fun s m => s.setReg R.bm_MODE m (Config.bramMode id m % 3)).initSwap n
    let late := s.config.late.filter fun x => (x - liveFrames) / swapFrames == n
    let s := s.dropLate n
    let s : State := { s with config := { s.config with suspects := s.config.suspects.filter (fun x => frameSwap x != some n),
                                                        repairs := s.config.repairs.filter (fun x => frameSwap x != some n),
                                                        exchanging := (n, (s.mono, f, id)) :: s.config.exchanging } }
    let s := s.each late fun s x => s.liveUpset (x - shadowFirst n + swapFirst n)
    (s.refreshSuspects).setReg R.swap_ARMED n 0

/-- The shadow holds what left service, PREVIOUS, with event 0x7012 at every exchange (Table 12.9); one that has been cleared, retired or is being
loaded since the mark stays so.
[DEDUCED, log 260: unsafe] -/
def State.shadowPrevious (s : State) (n live : Nat) : State :=
  if s.reg R.swap_SHADOW n < 2 then s
  else
    let s := if s.reg R.swap_SHADOW n = 3 then s.raise 0x7012 (n + 3 * 16) else s.shadowState n 3
    s.setReg R.swap_SHADOW_ID n live

/-- 1,000 ns after the mark the region is released, and its outputs with it (R362, R363).
[DEDUCED, log 96: unsafe] -/
def opExchangeComplete (t n : Nat) (s : State) : State :=
  let s := s.advanceTo t
  match s.config.exchanging.find? fun p => p.1 == n with
  | none => s
  | some (_, (start, f, id)) =>
    if s.mono < start + 1000 then s
    else
      let s : State := { s with config := { s.config with exchanging := s.config.exchanging.filter fun p => p.1 != n } }
      let live := s.reg R.swap_LIVE_ID n
      let s := (s.setReg R.swap_LIVE_ID n id).setReg R.swap_LIVE_SOURCE n (s.liveImage n).source
      let s := (((s.inc R.swap_EXCHANGES n).setReg R.swap_LAST_EXCHANGE n f).shadowPrevious n live).raise 0x7013 n
      s.refreshPorts ((List.range 4).map fun i => 32 * n + i) 1

/-! ### Scrubbing (R367 to R370) -/

/-- The scrubber runs: ACTIVE or STANDBY, configured. -/
def State.scrubberRuns (s : State) : Bool :=
  s.fabricRuns && s.dataRuns && (s.reg R.pow_STATE == 0 || s.reg R.pow_STATE == 2)

/-- Where the stretch of frames with one fate that holds frame `f` ends: global, region half, or shadow. -/
def stretchEnd (f : Nat) : Nat :=
  if liveFrames ≤ f then liveFrames + ((f - liveFrames) / swapFrames + 1) * swapFrames
  else if f < 14336 then 14336
  else
    let first := regionFirst (frameRegion f)
    if f < first + swapFrames then first + swapFrames else first + regionFrames (frameRegion f)

/-- Frame `f` is skipped (R367).
[DEDUCED, log 98: unsafe, DEDUCED, log 261: unsafe] -/
def State.frameSkipped (s : State) (f : Nat) : Bool :=
  if liveFrames ≤ f then
    let n := (f - liveFrames) / swapFrames
    decide (s.reg R.swap_SHADOW n < 2) || !s.swapPresent n || (s.config.exchanging.any fun p => p.1 == n) ||
      !s.quadrantOn (regionQuadrant (swapClockRegion n))
  else if f < 14336 then false
  else !s.quadrantOn (regionQuadrant (frameRegion f)) || (s.config.exchanging.any fun p => frameSwap f == some p.1)

/-- The next frame to read from `f` on; none at the end of the pass. -/
def State.nextFrame (s : State) : Nat → Nat → Option Nat
  | 0, _ => none
  | k + 1, f =>
    if allFrames ≤ f then none
    else if s.frameSkipped f then s.nextFrame k (stretchEnd f)
    else some f

/-- The exchange of swap region `n` has been found ready and not been made yet (R361). -/
def State.exchangeStands (s : State) (n : Nat) : Bool := s.tb.sets.any fun x => x.ready && x.members.contains (.exchange n)

/-- An uncorrectable frame (R368); one already reported is not reported again. One of a shadow between its commit lead and the mark does not
stop the exchange (R361). -/
def State.badFrame (s : State) (f word : Nat) : State :=
  let shadow := decide (liveFrames ≤ f)
  let n := (f - liveFrames) / swapFrames
  let stands := shadow && s.exchangeStands n
  if s.config.suspects.contains f || s.config.repairs.contains f || (stands && s.config.late.contains f) then s
  else
    let s := ((s.inc R.scr_UNCORRECTABLE).scrubLog f word 1).raise 0x7102 (f + b2n shadow * 2 ^ 18)
    if stands then { s with config := { s.config with late := f :: s.config.late } }
    else if shadow then s.shadowState n 0
    else s.liveUpset f

/-- The frame's words as they decode: the corrected data words, the first corrected word and the first uncorrectable one.
[DESIGN CHOICE, log 97: safe] -/
def State.decodeFrame (s : State) (f : Nat) : List (Option Nat) × Option Nat × Option Nat :=
  let ws := (List.range 32).map fun w => decodeWord (BitVec.ofNat 288 (s.cell f w)) none
  let data := ws.map fun d => match d with
    | .clean x => some x
    | .corrected x _ _ => some x
    | _ => none
  (data, ws.findIdx? fun d => match d with | .corrected _ _ _ => true | _ => false, data.findIdx? Option.isNone)

/-- A frame read by the scrubber or by readback (R368): 0 CLEAN, 1 CORRECTED, 2 UNCORRECTABLE.
[DEDUCED, log 98: unsafe] -/
def State.readFrame (s : State) (f : Nat) : State × Nat :=
  match s.decodeFrame f with
  | (_, _, some w) => (s.badFrame f w, 2)
  | (data, some w, none) =>
    let s := (s.inc R.scr_CORRECTED).scrubLog f w 0
    let due := s.config.raisedAt.elim true fun t => decide (t + 1000000 ≤ s.mono)
    let s : State := if due then ({ s with config := { s.config with raisedAt := some s.mono } }).raise 0x7101 f else s
    ({ s with config := { s.config with writeBack := some (f, data.map fun d => (encodeWord (d.getD 0)).toNat) } }, 1)
  | _ => (s, 0)

/-- A scrub pass ends (R367): event 0x7105 when it took longer than 15 ms. -/
def State.endPass (s : State) : State :=
  let d := s.mono - s.config.scrubStart
  let s := ((s.inc R.scr_PASSES).setReg R.scr_PASS_US 0 (d / 1000)).peak R.scr_PASS_MAX_US 0 (d / 1000)
  let s := if 15000000 < d then s.breach 0x7105 (min (d / 1000) 0xFFFF) fun g => s.bindsOp g fun o => decide (96 ≤ o) else s
  { s with config := { s.config with scrubStart := s.mono } }

/-- The pending write-back is done. -/
def State.flushWriteBack (s : State) : State :=
  match s.config.writeBack with
  | none => s
  | some (f, ws) =>
    let s : State := { s with config := { s.config with writeBack := none } }
    s.each ws.zipIdx fun s p => s.putCell f p.2 p.1

/-- The scrubber's next read: 64 ns after the last, and 64 ns more for a frame written back (R367). -/
def State.nextConfigScrub (s : State) : State :=
  let s := s.waitUntil (s.config.scrubDue + if s.config.writeBack.isSome then 64 else 0)
  { s with config := { s.config with scrubDue := s.mono + 64 } }

/-- The scrubber reads its next frame (R367, R368). -/
def opConfigScrubRead (t : Nat) (s : State) : State :=
  let s := s.advanceTo t
  if !s.scrubberRuns then s
  else
    let s := s.nextConfigScrub.flushWriteBack
    let (s, next) := match s.nextFrame 300 s.config.scrubPos with
      | some f => (s, some f)
      | none => (let s := s.endPass; (s, s.nextFrame 300 0))
    match next with
    | none => s
    | some f => ((({ s with config := { s.config with scrubPos := f + 1 } } : State).readFrame f)).1

/-- A repair ends (R369): the segment that holds the oldest finding's frame, as the flash returned it. -/
def opRepairComplete (t : Nat) (segment : List Byte) (s : State) : State :=
  let s := s.advanceTo t
  match s.config.repairs with
  | [] => s
  | f :: rest =>
    let x := s.frameImage f
    let s : State := { s with config := { s.config with repairs := rest } }
    match parseSegment x.encrypted s.imageKeyBytes x.nonce (f / 64) segment with
    | .good fs _ =>
      match fs.find? fun p => p.1 == f with
      | some p => (((s.putFrame f p.2).inc R.scr_REPAIRED).scrubLog f 0 2).refreshSuspects.raise 0x7103 f
      | none => s.unrepaired f 2
    | _ => s.unrepaired f 2

/-! ### Readback (R372) -/

/-- A write of FRAME: the frame is read as the scrubber would; words without data read as free values.
[DESIGN CHOICE, log 97: safe] -/
def opReadback (w : Who) (f : Nat) (s : State) : State :=
  s.writeNum w R.rb_FRAME 0 (f : Int) fun s =>
    let loading := s.reg R.cfg_FABRIC_STATE == 1 || (decide (liveFrames ≤ f) && s.reg R.swap_SHADOW ((f - liveFrames) / swapFrames) == 1)
    if loading then s.stateError
    else
      let s := s.setReg R.rb_FRAME 0 f
      if !s.frameValid f then
        let d := leBytes 1024 (s.freeBits 8192)
        let s := s.took
        ((s.setDom R.rb_DATA 0 d).setReg R.rb_OUTCOME 0 (s.freeBits 8 % 3)).took.ok
      else
        let s := s.flushWriteBack
        let free := s.freeBits 256
        let data := (s.decodeFrame f).1.flatMap fun d => leBytes 32 (d.getD free)
        let (s, outcome) := s.readFrame f
        let s := if outcome = 2 then s.took else s
        ((s.setDom R.rb_DATA 0 data).setReg R.rb_OUTCOME 0 outcome).ok

end Sys2Proof.Machine
end

