-- ==== Sys2Proof/Machine/Boot.lean ====
section
/-! DEFINITION. What a reset and what NIGHT leave of the state (Tables 16.2 and 17.1): the contents of the MRAM store and the fuses, and in
NIGHT those of the island; and the start of a Daybreak. -/

namespace Sys2Proof.Machine

/-- Registers held in the MRAM store or in fuses, by `Reg.ref`. -/
def heldRegs : List Nat := [0x100001, 0x100002, 0x100003, 0x100004, 0x100005, 0x100006, 0x100007, 0x100008, 0x100009, 0x10000A, 0x110003, 0x110103,
  0x120003, 0x120101, 0x120102, 0x120103, 0x120104, 0x120105, 0x120106, 0x120107, 0x200012, 0x800104, 0x820006, 0x820007, 0x820008,
  0x82000A, 0x90010A, 0xA00001, 0xA00007, 0xA00103, 0xA00201]

/-- A key of the register file that the island keeps in NIGHT: core 0, its watch program, power and the ADC. -/
def islandKey (k : Nat) : Bool :=
  let index := k / 2 ^ 24 / 256
  (index == 0x8000 && k % 2 ^ 24 == 0) || index == 0x8001 || index == 0x8200 || index == 0x8201 || index == 0x8202 || index == 0x1000

/-- The entries of a register file that stay, over the cadence objects of Table 02.7. -/
def keepRegs (l : List (Nat × Nat)) (p : Nat → Bool) : List (Nat × Nat) :=
  (l.filter fun e => p e.1).foldl (fun acc e => tput regKeyDefault e.1 e.2 acc) resetRegs

/-- Units that software retired stay absent (R10, R366, R376). -/
def State.retireUnits (s : State) : State :=
  let s := s.each s.lanes.retired fun s l =>
    (((s.setReg (laneBit l).1 0 (putBit (s.reg (laneBit l).1) (laneBit l).2 false)).setReg R.lane_PRESENT l 0).setReg R.lane_STATE l 12)
  s.each s.config.retired fun s n =>
    (s.setReg R.pres_SWAP 0 (putBit (s.reg R.pres_SWAP) n false)).setReg R.swap_PRESENT n 0

/-- What of the event log survives: the ring, the pinned area, SEQ. -/
def LogState.held (l : LogState) : LogState := { ring := l.ring, pinned := l.pinned, nextSeq := l.nextSeq }

/-- What of the service block survives: fuses, the firmware area of the store, the number of ephemeral keys used. -/
def Service.held (x : Service) : Service :=
  { groups := x.groups, devDigest := x.devDigest, serviceKeyDigest := x.serviceKeyDigest, imageKey := x.imageKey, challenges := x.challenges,
    store := x.store }

/-- The state of which only the MRAM store and the fuses are left; free values and queued commands are the model's own.
[DEDUCED, log 164: unsafe] -/
def State.bare (s : State) : State :=
  let d : State := {}
  let d := { d with regs := keepRegs s.regs fun k => heldRegs.contains (k / 2 ^ 24) }
  let d := { d with doms := s.doms.filter fun e => heldRegs.contains (e.1 / 2 ^ 24) }
  let d : State := { d with free := s.free, pending := s.pending, board := s.board, log := s.log.held, service := s.service.held }
  let d : State := { d with store := { retired := s.store.retired }, lanes := { retired := s.lanes.retired } }
  let d : State := { d with config := { retired := s.config.retired } }
  let d : State := { d with dusk := { stored := s.dusk.stored } }
  let d : State := { d with boot := { lastGood := s.boot.lastGood, selector := s.boot.selector } }
  d.retireUnits

/-- The sessions that were open in `s` are closed by a Daybreak, the write lock with its owner's: events 0x1103 and 0x1102 (R416, R433). -/
def State.sessionsLost (d s : State) : State :=
  d.each (List.range 56) fun d n =>
    if s.on R.ses_ID n then
      let d := if s.reg R.stw_LOCK_OWNER = s.reg R.ses_ID n then d.raise 0x1103 n else d
      d.raise 0x1102 (n + 4 * 256)
    else d

/-- The locks held in `s` are released with the reset of their owner cores and the end of their sessions: event 0x8101 for each (R459). -/
def State.locksLost (d s : State) : State :=
  d.each (List.range 64) fun d n =>
    let who := s.reg R.lock_OWNER n
    if who = 0 then d else d.raise 0x8101 (n + (if who < 16 then 0 else 2) * 256)

/-- A full Daybreak begins (R481 to R483): kind 0 power-on, 1 pin, which leaves the scratchpad to step 4 (R482). The island counter starts with a power-on reset; a lockout keeps the time
it has left. -/
def State.fullReset (s : State) (kind : Nat) : State :=
  let d := s.bare
  let mono := if kind = 0 then 0 else s.mono
  let d : State := { d with mono := mono, boot := { d.boot with kind := kind, start := mono } }
  let d : State := { d with service := { d.service with lockUntil := mono + (s.service.lockUntil - s.mono) } }
  let d : State := if kind = 0 then d else { d with scratch := { d.scratch with words := s.scratch.words } }
  ((d.setReg R.pow_LAST_WAKE 0 kind).sessionsLost s).locksLost s

/-- NIGHT (R471, Table 16.2): the island and the MRAM store are left; a steward that has stopped stays so (R494).
[DEDUCED, log 163: unsafe, DEDUCED, log 164: unsafe] -/
def State.enterNight (s : State) : State :=
  let d := s.bare
  let d := { d with regs := keepRegs s.regs fun k => heldRegs.contains (k / 2 ^ 24) || islandKey k }
  let d := { d with doms := s.doms.filter fun e => heldRegs.contains (e.1 / 2 ^ 24) || islandKey e.1 }
  let d : State := { d with now := s.now, mono := s.mono, phase := .night, power := s.power }
  let d : State := { d with log := { d.log with queue := s.log.queue, writes := s.log.writes, dropStart := s.log.dropStart,
                                                dropCount := s.log.dropCount } }
  let x := s.dusk
  let d : State := { d with dusk := { core0 := x.core0, expiries := x.expiries, stored := x.stored, raiseCode := x.raiseCode,
                                      timeHi := x.timeHi, raises := x.raises } }
  let d : State := { d with service := { d.service with lockUntil := s.service.lockUntil }, boot := { d.boot with stopped := s.boot.stopped } }
  (d.each (List.range 106) fun d i => d.setReg R.dom_STATE i 2).retireUnits

/-- STATE of domain `d` becomes `v`, with event 0x8202.
[DEDUCED, log 154: unsafe] -/
def State.domState (s : State) (d v : Nat) : State :=
  if s.reg R.dom_STATE d = v then s else (s.setReg R.dom_STATE d v).raise 0x8202 (d + v * 256)

/-- A wake runs Daybreak from the checker self-test on (R476, Table 17.1); the assertion of EVT_N[0] in NIGHT ends (R514). A device whose FUSE_CHECK reads 0 is held again (R6). -/
def State.startWake (s : State) : State :=
  let s := s.each (List.range 106) fun s i => s.domState i 0
  let s : State := { s with log := { s.log with evt0 := false } }
  let s := (s.setReg R.pow_STATE 0 0).setReg R.pow_COMMAND 0 0
  { s with phase := .daybreak, boot := { s.boot with kind := 2, start := s.mono, done := [3, 2, 1], cause := b2n (!s.on R.ident_FUSE_CHECK) } }

def opPowerOnReset (s : State) : State := s.fullReset 0

def opPinReset (s : State) : State := s.fullReset 1

end Sys2Proof.Machine
end

