-- ==== Sys2Proof/Machine/FrameStore.lean ====
section
/-! DEFINITION. The commands of the frame store and of the coded memory (chapters 07 and 08): the PC controllers' requests, bursts,
refreshes, scrubbing and retraining, fences, maps, rate changes, throttles, fills and retirements. -/

namespace Sys2Proof.Machine

/-! ### Requests and bursts (R200 to R205) -/

/-- Room for `k` more words of a class at PC `n` (R200): entries in use and words on their way count. -/
def State.pcRoom (s : State) (n k : Nat) (vc : VC) : Bool :=
  decide ((s.pcState n).used + (s.movingTo n).length + k ≤ if vc = .vc0 then 128 else 96)

/-- A request takes an entry of PC `n`; a write cancels a pending scrub write-back of its word (R248). -/
def State.enterPc (s : State) (n : Nat) (r : PcReq) : State :=
  let x := s.locate r.addr
  let s := if r.write then s.cancelWriteBack n r.addr else s
  let s := s.onPc n fun p => { p with entries := p.entries ++ [{ req := r, bank := x.bank, row := x.row, since := s.mono }] }
  s.pcOcc n

/-- A request takes an entry: a word of a transfer that the PC's port was granted has its place, another request keeps the class limits of
R200 or waits at the stop. A fenced PC's stop answers at once (R215). A write is acknowledged when its last word has come so far (R204). -/
def opPcRequestAccept (n : Nat) (r : PcReq) (s : State) : State :=
  let granted := (s.movingTo n).contains r
  let room := s.pcRoom n 1 r.vc
  let s := if granted then s.setMoving n ((s.movingTo n).erase r) else s
  let done (s : State) : State := if r.write then s.wordStored n r else s
  if s.pcFenced n then done (s.fencedAnswer n r)
  else if granted || room then done (s.enterPc n r)
  else s

/-- The head request of a bank queue (R201): its oldest guaranteed request, else its oldest best-effort one, but an older request to
the same word first. -/
def bankHead (l : List PcEntry) (bank : Nat) : Option PcEntry :=
  let q := l.filter fun e => e.bank == bank
  let first := (q.find? fun e => e.req.vc = .vc0) <|> q.head?
  first.bind fun e => q.find? fun x => x.req.addr / 32 == e.req.addr / 32

/-- What limits the bursts of a PC: the guaranteed requests alone (R219), the throttle, under which a best-effort burst waits until four
controller cycles have passed since the last (R227), and the instant at which the last rate change entered self-refresh, 0 for none (R219). -/
structure BurstLimit where
  guaranteed : Bool
  throttled : Bool
  entered : Nat
  deriving DecidableEq, Repr

/-- The entries that may be served: those queued before a change of rate entered self-refresh come first (R219). -/
def PcState.servable (p : PcState) (lim : BurstLimit) : List PcEntry :=
  let early := p.entries.filter fun e => decide (e.since < lim.entered)
  if early.isEmpty then p.entries else early

/-- A bank's head can issue in a direction: no forced refresh waits (R207), and no limit holds it. While only guaranteed requests are served, an
older best-effort one to the same word goes first (R201). -/
def PcState.issuable (p : PcState) (lim : BurstLimit) (bank : Nat) (writing : Bool) : Bool :=
  match bankHead (p.servable lim) bank with
  | some e =>
    e.req.write == writing && decide (tget (fun _ => 0) p.debts bank < 8) &&
    (e.req.vc == .vc0 || ((!lim.guaranteed || (p.servable lim).any fun x => x.bank == bank && x.req.vc == .vc0) &&
      (!lim.throttled || decide (3 ≤ p.sinceBe))))
  | none => false

/-- The direction the next burst takes (R202): the present one, unless it has nothing issuable or 128 bursts of it have been served
while the other direction waits.
[DEDUCED, log 274: unsafe] -/
def PcState.direction (p : PcState) (lim : BurstLimit) : Bool :=
  let any (w : Bool) : Bool := (List.range 64).any fun b => p.issuable lim b w
  if !any p.writing then !p.writing
  else if decide (128 ≤ p.group) && any (!p.writing) then !p.writing
  else p.writing

/-- The bank served next: the first from the rotation pointer whose head can issue. -/
def PcState.nextBank (p : PcState) (lim : BurstLimit) : Option Nat :=
  ((List.range 64).map fun i => (p.pointer + i) % 64).find? fun b => p.issuable lim b (p.direction lim)

/-- The limits in force at PC `n`. -/
def State.burstLimit (s : State) (n : Nat) : BurstLimit :=
  let changed := tget (fun _ => 0) s.store.changeAt (n / 32)
  ⟨s.changeGuaranteed (n / 32), s.on R.stk_THROTTLED (n / 32), if changed = 0 then 0 else changed + 4000⟩

/-- A best-effort burst waits in this controller cycle only because of the throttle (R227). -/
def PcState.throttledBurst (p : PcState) (lim : BurstLimit) : Bool :=
  let free := p.nextBank { lim with throttled := false }
  lim.throttled && free.isSome && free != p.nextBank lim

/-- The entry of a burst leaves its queue, and the rotation, the direction group and the open row follow (R202, R203). -/
def PcState.served (p : PcState) (lim : BurstLimit) (b : Nat) (e : PcEntry) : PcState :=
  { p with entries := p.entries.erase e, pointer := (b + 1) % 64, writing := p.direction lim,
           group := if p.direction lim == p.writing then p.group + 1 else 1,
           sinceBe := if e.req.vc = .vc0 then p.sinceBe + 1 else 0,
           openRows := tput (fun _ => 2 ^ 20) b e.row p.openRows }

/-! ### Scrubbing (R209, R246 to R248) -/

/-- The word at scrub position `i` of PC `n`: SID, BK, ROW, COL ascending. -/
def State.scrubAddr (s : State) (n i : Nat) : Nat :=
  let bank := i / (24576 * 32) % 64
  addressIn (s.reg R.stk_MAP (n / 32)) ⟨n / 32, n % 32, bank, i / 32 % 24576, i % 32⟩

/-- The next row position at or after `r` (counting rows) whose page is scrubbed, searched over at most `k` rows. -/
def State.nextScrubRow (s : State) (n : Nat) : Nat → Nat → Option Nat
  | 0, _ => none
  | k + 1, r => if s.pageScrubbed (s.scrubAddr n (r * 32) / 2 ^ 17) then some r else s.nextScrubRow n k (r + 1)

/-- Rows of one PC. -/
def pcRows : Nat := 64 * 24576

/-- The scrub position of the next word read, from where the scrubber stands (R246). -/
def State.nextScrub (s : State) (n : Nat) : Option Nat :=
  let i := (s.pcState n).scrubPos % (pcRows * 32)
  if s.pageScrubbed (s.scrubAddr n (i / 32 * 32) / 2 ^ 17) then some i
  else (s.nextScrubRow n pcRows (i / 32 + 1)).map fun r => r % pcRows * 32

/-- Whether the word at position `i` is the last of a pass. -/
def State.lastScrub (s : State) (n i : Nat) : Bool :=
  i % 32 == 31 && (s.nextScrubRow n (pcRows - 1 - i / 32) (i / 32 + 1)).isNone

/-- The pass that PC `n` is in is complete (R246); its duration counts from its first access. -/
def State.endScrubPass (s : State) (n : Nat) : State :=
  match (s.pcState n).scrubStart with
  | none => s
  | some t =>
    ((s.inc R.mlog_SCRUB_PASSES n).setReg R.mlog_PASS_MS n ((s.mono - t) / 1000000)).onPc n fun p => { p with scrubStart := none }

/-- The scrubber has read the word at position `i`: after the last word a pass is complete (R246). -/
def State.scrubMoved (s : State) (n i : Nat) : State :=
  let last := s.lastScrub n i
  let s := s.onPc n fun p => { p with scrubPos := (i + 1) % (pcRows * 32) }
  if last then s.endScrubPass n else s

/-- A scrub read of a word is served (R247): its outcome, and the write-back it asks for. -/
def State.scrubRead (s : State) (n a : Nat) : State :=
  let s := s.scrubMoved n (s.pcState n).scrubPos
  let (s, c) := s.fetchWord a
  let s := s.inc R.pc_BURSTS n
  match decodeWord c (s.deadSymbol n) with
  | .clean _ => s
  | .poison => s.inc R.mlog_POISON_READS n
  | .corrected d j e =>
    let s := if s.deadSymbol n = some j then s.inc R.pc_DEAD_LANE_CORRECTED n
      else (((s.inc R.pc_CORRECTED n).logFinding n (s.finding a c 0 j e true)).countDegraded n)
    s.onPc n fun p => { p with writeBack := if s.pcFenced n then none else some ⟨a, encodeWord d, false, c⟩ }
  | .uncorrectable =>
    let s := (s.inc R.pc_UNCORRECTABLE n).logFinding n (s.finding a c 1 0x3F 0 true)
    if s.reg R.pc_STATE n = 1 then s.fencePc n 2
    else s.onPc n fun p => { p with writeBack := some ⟨a, poisonWord, true, c⟩ }

/-- A scrub write-back is served (R247): counted, and poison logged as POISONED with event 0x3103. -/
def State.scrubWriteBack (s : State) (n : Nat) : State :=
  match (s.pcState n).writeBack with
  | none => s
  | some w =>
    let s := (s.onPc n fun p => { p with writeBack := none }).putCodeWord w.addr w.word
    let s := s.inc R.pc_BURSTS n
    if w.poison then
      ((s.inc R.mlog_SCRUB_POISONED n).logFinding n (s.finding w.addr w.found 2 0x3F 0 true)).raiseX 0x3103 n (w.addr / 32)
    else s.inc R.mlog_SCRUB_CORRECTED n

/-- Two hundred controller cycles at a rate, in ns (R209). -/
def scrubPeriod (rate : Nat) : Nat := match rate with | 0 => 167 | 1 => 250 | _ => 500

/-- The scrubber takes its one access in 200 controller cycles (R209): a pending write-back, else a read of the next word of a scrubbed page,
waits at the tail of its bank queue. While its last access still waits there it takes none. A pass whose remaining pages have been retired
since is complete (R246).
[DEDUCED, log 221: unsafe] -/
def opScrubAccess (n : Nat) (s : State) : State :=
  if decide (2 ≤ s.reg R.pc_STATE n) || s.on R.stk_CHANGING (n / 32) then s
  else
    let s := match (s.pcState n).scrubAt with
      | some t => s.waitUntil (t + scrubPeriod (s.reg R.stk_RATE (n / 32)))
      | none => s
    let join (s : State) (a : Nat) (write : Bool) : State :=
      let x := s.locate a
      s.onPc n fun p => { p with scrubAt := some s.mono,
                                 entries := p.entries ++ [⟨⟨a, write, 0, 0, false, .vc1, 0, 0⟩, x.bank, x.row, true, s.mono⟩] }
    if (s.pcState n).entries.any fun e => e.scrub then s
    else match (s.pcState n).writeBack with
      | some w => join s w.addr true
      | none =>
        if s.store.valid.isEmpty then s
        else match s.nextScrub n with
          | none => s
          | some i =>
            let s := if i < (s.pcState n).scrubPos % (pcRows * 32) then s.endScrubPass n else s
            join (s.onPc n fun p => { p with scrubPos := i, scrubStart := p.scrubStart <|> some s.mono }) (s.scrubAddr n i) false

/-! ### The requests of a fill (R249) -/

/-- Bits `i` on of the `k`-th word address, in ascending order, whose masked bits are those of `v` (`n` bits). -/
def spreadIndex (m v : Nat) : Nat → Nat → Nat → Nat
  | 0, _, _ => 0
  | n + 1, i, k =>
    if m.testBit i then b2n (v.testBit i) * 2 ^ i + spreadIndex m v n (i + 1) k else k % 2 * 2 ^ i + spreadIndex m v n (i + 1) (k / 2)

/-- How many words of PC `n` lie before word `w`, in ascending order of address. -/
def State.rankOnPc (s : State) (n w : Nat) : Nat := countBelow 33 w (s.pcPattern n).1 (s.pcPattern n).2

/-- Word `k` of a range on PC `n`, as its address. -/
def State.fillWord (s : State) (n base k : Nat) : Nat :=
  spreadIndex (s.pcPattern n).1 (s.pcPattern n).2 33 0 (s.rankOnPc n (base / 32) + k) * 32

/-- How many of its words of the range a fill has passed on PC `n`, and for how many it has made a request. -/
def State.fillDone (s : State) (n : Nat) : Nat × Nat := tget (fun _ => (0, 0)) s.store.fillAt n

/-- The stop of PC `n` makes the next requests of a fill, in ascending order of address, while best-effort requests find an entry (R200, R249),
at most `k`; the words of retired pages are skipped.
[DEDUCED, log 73: unsafe] -/
def State.fillEntries (s : State) (n : Nat) : Nat → State
  | 0 => s
  | k + 1 =>
    match s.store.fill with
    | none => s
    | some j =>
      let d := s.fillDone n
      if s.wordsOnPc j.base j.len n ≤ d.1 ∨ !s.pcRoom n 1 .vc1 then s
      else
        let a := s.fillWord n j.base d.1
        let skip := s.pageRetired (a / 2 ^ 17)
        let s : State := { s with store := { s.store with
          fillAt := tput (fun _ => (0, 0)) n (d.1 + 1, if skip then d.2 else d.2 + 1) s.store.fillAt } }
        (if skip then s else s.enterPc n ⟨a, true, fullMask, 0, false, .vc1, 0, 0⟩).fillEntries n k

/-! ### Bursts (R202 to R205) -/

/-- The controller issues the next burst (R202, R203), when its retraining window leaves it free to (R210): rotation, direction group, open
row; the write or read is done, a read's data being the command's answer (status 7 for poison) and a word of the response to its requester.
A fill's requests come in before it (R249). In self-refresh and off it issues none. -/
def opPcBurstIssue (n : Nat) (s : State) : State :=
  let s := s.silent
  if s.pcFenced n || decide (3 ≤ s.reg R.pc_STATE n) || s.changeHolds (n / 32) then s
  else
    let s := (s.afterWindow n).fillEntries n 96
    let p := s.pcState n
    let lim := s.burstLimit n
    let s := if p.throttledBurst lim then s.inc R.pc_BE_THROTTLED n else s
    match p.nextBank lim with
    | none => s.onPc n fun p => { p with sinceBe := p.sinceBe + 1 }
    | some b =>
      match bankHead (p.servable lim) b with
      | none => s
      | some e =>
        let s := (s.onPc n fun p => p.served lim b e).pcOcc n
        if e.scrub then (if e.req.write then s.scrubWriteBack n else s.scrubRead n e.req.addr)
        else if e.req.write then s.writeNow e.req.addr e.req.data e.req.mask e.req.poison
        else match s.readNow e.req.addr with
          | (s, some d) => (s.respond (pcStop n) e.req.master e.req.tag e.req.addr (some d)).answerWith (leBytes 32 d)
          | (s, none) => (s.respond (pcStop n) e.req.master e.req.tag e.req.addr none).resource

/-- An open row is precharged once its bank queue has been empty for 32 cycles (R203). -/
def opRowPrechargeTimeout (n b : Nat) (s : State) : State :=
  if (s.pcState n).entries.any fun e => e.bank == b then s
  else s.onPc n fun p => { p with openRows := tput (fun _ => 2 ^ 20) b (2 ^ 20) p.openRows }

/-! ### Refresh (R206, R207) -/

/-- The instant of refresh number `k` of bank `b`, of those from `from_` on, on the frame-store counter (R206). -/
def dueInstant (from_ b k : Nat) : Nat := 50 * b + 3200 * (ceilDiv (from_ - 50 * b) 3200 + k)

/-- Bank `b` falls due at its next instant: its debt rises by 1. A fenced PC is not refreshed (R215), and one in self-refresh or off owes none
(R220); the dues of a rate change run on (Table 07.5).
[DEDUCED, log 222: unsafe] -/
def opRefreshDue (n b : Nat) (s : State) : State :=
  if decide (2 ≤ s.reg R.pc_STATE n) || !s.storeRuns then s
  else
    let p := s.pcState n
    let k := tget (fun _ => 0) p.dues b
    let s := s.waitStore (dueInstant p.dueFrom b k)
    let owes := !s.changeRefresh (n / 32)
    s.onPc n fun p => { p with dues := tput (fun _ => 0) b (k + 1) p.dues,
                               debts := if owes then tput (fun _ => 0) b (tget (fun _ => 0) p.debts b + 1) p.debts else p.debts }

/-- Bank `b` is refreshed when it owes a refresh and its queue is empty, or its debt has reached 8; a forced one is counted. A retraining
window is waited out (R210).
[DEDUCED, log 275: unsafe] -/
def opRefreshIssue (n b : Nat) (s : State) : State :=
  let p := s.pcState n
  let debt := tget (fun _ => 0) p.debts b
  let busy := p.entries.any fun e => e.bank == b
  if s.pcFenced n || decide (3 ≤ s.reg R.pc_STATE n) || s.changeHolds (n / 32) || debt == 0 || (busy && decide (debt < 8)) then s
  else
    let s := s.afterWindow n
    let s := s.onPc n fun p =>
      { p with debts := tput (fun _ => 0) b (debt - 1) p.debts, openRows := tput (fun _ => 2 ^ 20) b (2 ^ 20) p.openRows }
    if busy then s.inc R.pc_REFRESH_FORCED n else s

/-! ### Retraining (R210 to R214) -/

/-- The number of the window PC `n` opens next: the one it is in if it has not used it, else the next (R210). -/
def State.nextWindow (s : State) (n : Nat) : Nat :=
  max (s.pcState n).windows (ceilDiv (s.storeTime - (windowOffset n + 511)) 51200)

/-- The settings of PC `n` at its present rate. -/
def State.pcSettings (s : State) (n : Nat) : List Nat := nth (s.pcState n).settings (s.reg R.stk_RATE (n / 32)) []

/-- A retraining window opens at its instant: settings chosen by the last sweep apply, then one candidate is tested; `pass` has bit l set when
lane l passed, and bit 36 for the command and address lanes (R212).
[DEDUCED, log 69: unsafe] -/
def opRetrainWindow (n pass : Nat) (s : State) : State :=
  if decide (2 ≤ s.reg R.pc_STATE n) || s.changeHolds (n / 32) || !s.storeRuns then s
  else
    let k := s.nextWindow n
    let s := s.waitStore (windowOffset n + 51200 * k)
    let rate := s.reg R.stk_RATE (n / 32)
    s.onPc n fun p =>
      let p := { p with windows := k + 1 }
      let p := match p.chosen with
        | some c => { p with settings := upd p.settings rate fun _ => c, chosen := none }
        | none => p
      if p.sweeping && decide (p.cand < 64) then
        { p with cand := p.cand + 1,
                 passes := p.passes.zipIdx.map fun q => putBit q.1 p.cand (pass.testBit q.2) }
      else p

/-- The widest run of passing candidates of a lane: its width and first candidate, the lower of equal runs. -/
def widestRun (mask : Nat) : Nat × Nat :=
  let step (acc : (Nat × Nat) × (Nat × Nat)) (i : Nat) : (Nat × Nat) × (Nat × Nat) :=
    let best := acc.1
    let cur := acc.2
    if mask.testBit i then
      let cur := if cur.1 = 0 then (1, i) else (cur.1 + 1, cur.2)
      (if best.1 < cur.1 then cur else best, cur)
    else (best, (0, 0))
  ((List.range 64).foldl step ((0, 0), (0, 0))).1

/-- The setting a sweep chooses for a lane: the centre of its widest run, the lower centre of an even one, if the run is at least 4
wide (R212). -/
def chosenSetting (mask : Nat) : Option Nat :=
  let r := widestRun mask
  if 4 ≤ r.1 then some (r.2 + (r.1 - 1) / 2) else none

/-- The sweep found no working setting: the PC keeps its settings and becomes DEGRADED, and sweeps stop for 1 s (R213). -/
def State.failSweep (s : State) (n : Nat) : State :=
  let s := (s.inc R.pc_RETRAIN_FAILS n).onPc n fun p =>
    { p with sweeping := false, cand := 0, passes := List.replicate 37 0, failedAt := s.mono }
  let s := if s.reg R.pc_STATE n = 1 then s
    else (s.setReg R.pc_STATE n 1).onPc n fun p => { p with degradedAt := s.mono, errors := 0 }
  s.raise 0x3001 n

/-- A sweep ends (R213): its outcome is one of three.
[DEDUCED, log 69: unsafe, DESIGN CHOICE, log 276: unsafe] -/
def opSweepEnd (n : Nat) (s : State) : State :=
  let p := s.pcState n
  if decide (2 ≤ s.reg R.pc_STATE n) || !p.sweeping || decide (p.cand < 64) then s
  else
    let dead := s.reg R.pc_DEAD_LANE n
    let found := p.passes.map chosenSetting
    let failing := (List.range 36).filter fun l => l != dead && (nth found l none).isNone
    let caOk := (nth found 36 none).isSome
    let widths := (List.range 37).filterMap fun l =>
      if l == dead || (nth found l none).isNone then none else some (widestRun (nth p.passes l 0)).1
    let s := (s.inc R.pc_SWEEPS n).setReg R.pc_EYE_MIN n (widths.foldl min 64)
    let apply (s : State) : State := s.onPc n fun p =>
      { p with cand := 0, passes := List.replicate 37 0, sweeping := true,
               chosen := some ((s.pcSettings n).zipIdx.map fun q => if q.2 == dead then q.1 else (nth found q.2 none).getD q.1) }
    let recover (s : State) : State := if s.reg R.pc_STATE n = 1 then (s.setReg R.pc_STATE n 0).raise 0x3002 n else s
    if failing.isEmpty && caOk then recover (apply s)
    else if dead == 0xFF && failing.length == 1 && caOk then
      let l := failing.headD 0
      let s := (apply s).setReg R.pc_DEAD_LANE n l
      recover (s.raise 0x3004 (n + l * 256))
    else s.failSweep n

/-- A new sweep starts 1 s after a failed one (R213). -/
def opSweepRetry (n : Nat) (s : State) : State :=
  if decide (2 ≤ s.reg R.pc_STATE n) || (s.pcState n).sweeping then s
  else (s.waitUntil ((s.pcState n).failedAt + 1000000000)).onPc n fun p =>
    { p with sweeping := true, cand := 0, passes := List.replicate 37 0 }

/-- A counting interval of a DEGRADED PC ends after its second, and the next begins where it ended (R214).
[DEDUCED, log 70: unsafe] -/
def opDegradedIntervalEnd (t n : Nat) (s : State) : State :=
  let s := s.advanceTo t
  let ends := (s.pcState n).degradedAt + 1000000000
  if s.reg R.pc_STATE n = 1 && decide (ends ≤ s.mono) then s.onPc n fun p => { p with errors := 0, degradedAt := ends } else s

/-- Master stop `g` records the fence of PC `n`; after the last of them SWITCHOVERS, SWITCHOVER_MAX and event 0x3005 follow (R225). -/
def opFenceRecord (t n g : Nat) (s : State) : State :=
  let s := s.advanceTo t
  let p := s.pcState n
  if !s.pcFenced n || p.recorded.contains g || !s.isMasterStop g then s
  else
    let s := s.onPc n fun p => { p with recorded := g :: p.recorded }
    if (List.range 386).all fun x => !s.isMasterStop x || (s.pcState n).recorded.contains x then
      let s := (s.inc R.fs_SWITCHOVERS).peak R.fs_SWITCHOVER_MAX 0 (s.mono - p.fencedAt)
      s.raise 0x3005 n
    else s

/-! ### Maps, rates, throttles (R199, R218, R219, R227) -/

/-- Whether a handle is defined whose BASE or MIRROR_BASE lies in the frame store. -/
def State.anyHandle (s : State) : Bool := s.sched.handles.any fun p => p.2.slots != 0

/-- The words of a stack become undefined, and every valid page bit clears (R199, R252); a fill in progress begins anew there. -/
def State.loseStack (s : State) (k : Nat) : State :=
  let filled := s.store.filled.map fun r => { r with mask := putBit r.mask k false }
  let words := s.store.words.filter fun p => bits (p.1 * 32) 7 6 != k && storeDefault filled p.1 != p.2
  { s with store := { s.store with filled := filled, words := words, valid := [], fillAt := s.store.fillAt.filter fun p => p.1 / 32 != k } }

/-- MAP of stack `k` is written (R199). -/
def opMapWrite (w : Who) (k v : Nat) (s : State) : State :=
  s.writeAs w R.stk_MAP k (decide (v ≤ 2)) fun s =>
    if s.anyHandle then s.stateError else ((s.setReg R.stk_MAP k v).loseStack k).ok

/-- The guaranteed ceiling of a PC at a rate (R218). -/
def rateCeiling (r : Nat) : Nat := match r with
  | 0 => 32745600
  | 1 => 21830400
  | _ => 10915200

/-- RATE_CMD of stack `k` (R218): an accepted command starts the change, marking the stack stale in every mirrored range (R219). -/
def opRateChangeCommand (w : Who) (k r : Nat) (s : State) : State :=
  s.writeAs w R.stk_RATE_CMD k (decide (r ≤ 2)) fun s =>
    let pcs := stackPcs k
    let unmirrored := allSlots.any fun g =>
      s.on R.sadm_STATE g && (s.graph g).bufs.any fun b =>
        (s.handleDef b.handle).mirror == 0 || (b.black != 0 && (s.handleDef b.black).mirror == 0)
    if (List.range 4).any (fun j => s.on R.stk_CHANGING j) || s.power.refreshing.contains k || s.on R.dom_STATE k ||
        !(s.reg R.stk_RATES_OK k).testBit r || unmirrored then s.stateError
    else if pcs.any fun n => decide (rateCeiling r < s.reg R.pcb_DEMAND n) then s.resource
    else
      let s := s.setReg R.stk_CHANGING k 1
      let s := { s with store := { s.store with targetRate := tput (fun _ => 0) k r s.store.targetRate,
                                                changeAt := tput (fun _ => 0) k s.mono s.store.changeAt } }
      let s := s.raiseNoCopy k (stackPcs k)
      (s.each s.sched.handles fun s p => if p.2.mirror != 0 then s.setStale p.1 (2 ^ k) (2 ^ k) else s).ok

/-- The sweep of PC `n` begins anew: the candidates tried so far were tried at another rate.
[DEDUCED, log 223: unsafe] -/
def State.restartSweep (s : State) (n : Nat) : State :=
  s.onPc n fun p => { p with cand := 0, passes := List.replicate 37 0, chosen := none }

/-- The rate change of stack `k` completes, when its steps have run (Table 07.5): RATE, the PCs that fail the interface check and those with
a deferred fence, for which it counts as a failed sweep (R219), the ceilings (R220), event 0x3006. -/
def opRateChangeComplete (t k : Nat) (failed : List Nat) (s : State) : State :=
  let s := s.advanceTo t
  if !s.on R.stk_CHANGING k then s
  else
    let s := s.waitUntil (tget (fun _ => 0) s.store.changeAt k + 28000)
    let r := tget (fun _ => 0) s.store.targetRate k
    let pcs := stackPcs k
    let s := ((s.setReg R.stk_RATE k r).setReg R.stk_CHANGING k 0).inc R.stk_RATE_CHANGES k
    let s := s.each pcs fun s n => if s.pcFenced n then s else (s.setReg R.pcb_CEILING n (rateCeiling r)).restartSweep n
    let s := s.each pcs fun s n => if (failed.contains n || (s.pcState n).fenceLater.isSome) && !s.pcFenced n then s.failSweep n else s
    let s := s.each pcs fun s n => match (s.pcState n).fenceLater with
      | some c => (s.onPc n fun p => { p with fenceLater := none }).fencePc n c
      | none => s
    s.raise 0x3006 (k + r * 256)

/-- The island times how long stack `k` has been at 105 °C or above (R478): since when, counted from 1, or 0. -/
def State.heatStack (s : State) (k : Nat) (temp : Int) : State :=
  let since := tget (fun _ => 0) s.power.hotStacks k
  let hot := if temp < 105 then 0 else if since = 0 then s.mono + 1 else since
  { s with power := { s.power with hotStacks := tput (fun _ => 0) k hot s.power.hotStacks } }

/-- A stack's temperature is measured (R227, R478). -/
def opStackThrottle (k : Nat) (temp : Int) (s : State) : State :=
  let s := (s.setRegI R.stk_TEMP k temp).heatStack k temp
  let limit := s.regI R.stk_THROTTLE_TEMP k
  if !s.on R.stk_THROTTLED k && decide (limit ≤ temp) then (s.setReg R.stk_THROTTLED k 1).raise 0x3009 (k + 256)
  else if s.on R.stk_THROTTLED k && decide (temp < limit - 3) then (s.setReg R.stk_THROTTLED k 0).raise 0x3009 k
  else s

/-! ### Log entries, fills, retirement (R243, R250 to R256) -/

/-- VALID of log `n` is written: each 1 frees its entry (R243).
[DEDUCED, log 193: unsafe] -/
def opLogEntryFree (w : Who) (n mask : Nat) (s : State) : State :=
  s.writeAs w R.mlog_VALID n true fun s =>
    let es := (List.range 16).filter fun e => mask.testBit e
    let s := s.each es fun s e =>
      let s := s.setReg R.mlog_VALID n (putBit (s.reg R.mlog_VALID n) e false)
      { s with store := { s.store with logs := tput (fun _ => {}) (n * 16 + e) {} s.store.logs } }
    let s := if es.isEmpty then s else
      { s with store := { s.store with overflowRaised := s.store.overflowRaised.filter fun i => i != n } }
    s.ok

/-- A range a fill may name (R250). -/
def fillRangeOk (base len : Nat) : Bool :=
  base % 32 == 0 && len % 32 == 0 && len != 0 && decide (base + len ≤ frameStoreEnd)

/-- A range meets the slots or mirror range of a handle definition. -/
def HandleDef.meets (d : HandleDef) (base len : Nat) : Bool :=
  decide (base < d.base + d.span) && decide (d.base < base + len) ||
    (d.mirror != 0 && decide (base < d.mirror + d.span) && decide (d.mirror < base + len))

/-- A FILL record (R250).
[DEDUCED, log 73: unsafe] -/
def opFill (w : Who) (base len : Nat) (s : State) : State :=
  s.writeAs w R.code_FILL 0 (fillRangeOk base len) fun s =>
    if s.store.fill.isSome || (List.range 4).any (fun j => s.on R.stk_CHANGING j) ||
        s.sched.handles.any (fun p => s.on R.hdl_USERS p.1 && p.2.meets base len) then s.stateError
    else (({ s with store := { s.store with fill := some ⟨base, len, false⟩, fillAt := [] } }).setReg R.code_FILL_BUSY 0 1).ok

/-- A range of pages joins a list of disjoint ranges in ascending order; ranges that touch merge. -/
def addPages : Nat × Nat → List (Nat × Nat) → List (Nat × Nat)
  | r, [] => if r.2 = 0 then [] else [r]
  | r, x :: t =>
    if r.2 = 0 then x :: t
    else if r.1 + r.2 < x.1 then r :: x :: t
    else if x.1 + x.2 < r.1 then x :: addPages r t
    else addPages (min r.1 x.1, max (r.1 + r.2) (x.1 + x.2) - min r.1 x.1) t

/-- The stacks that hold content: those that are not off, as a mask. -/
def State.stacksOn (s : State) : Nat :=
  ((List.range 4).map fun k => if (stackPcs k).all fun n => s.reg R.pc_STATE n == 4 then 0 else 2 ^ k).sum

/-- A fill waits for PC `n`: it has words there, and the PC is in self-refresh or its stack is CHANGING (R219, R220). -/
def State.fillWaits (s : State) (j : FillJob) (n : Nat) : Bool :=
  !s.pcFenced n && (s.reg R.pc_STATE n == 3 || (s.on R.stk_CHANGING (n / 32) && s.reg R.pc_STATE n != 4)) &&
    s.wordsOnPc j.base j.len n != 0

/-- A fill has made its request for word `w` of a range already. -/
def State.fillPassed (s : State) (base w : Nat) : Bool :=
  let n := (s.locate (w * 32)).index
  decide (s.rankOnPc n w - s.rankOnPc n (base / 32) < (s.fillDone n).1)

/-- A fill's zero words are in place: listed words of its range go, except in retired pages and on stacks that are off, and except what has been
written since the fill passed them. -/
def State.fillWords (s : State) (base len : Nat) : State :=
  let r : FillRange := ⟨base, len, s.stacksOn, s.store.retired, s.maps⟩
  let inside (w : Nat) : Bool := decide (base ≤ w * 32) && decide (w * 32 < base + len) && s.stacksOn.testBit (bits (w * 32) 7 6) &&
    !s.pageRetired (w * 32 / 2 ^ 17)
  let words := s.store.words.filter fun p => !inside p.1 || (s.fillPassed base p.1 && p.2 != some 0)
  { s with store := { s.store with filled := r :: s.store.filled, words := words } }

/-- How many words of a range a fill writes on PC `n`: those outside the retired pages (R249). -/
def State.fillCount (s : State) (base len n : Nat) : Nat :=
  let first := base / 2 ^ 17
  let skipped := if s.store.retired.isEmpty then []
    else ((List.range (ceilDiv (base + len) (2 ^ 17) - first)).map fun k => first + k).filter s.pageRetired
  s.wordsOnPc base len n - (skipped.map fun p =>
    let lo := max base (p * 2 ^ 17)
    s.wordsOnPc lo (min (base + len) ((p + 1) * 2 ^ 17) - lo) n).sum

/-- The rest of a fill's writes at PC `n` (R249): its bursts, or writes absorbed by a fenced PC; a pending scrub write-back in the range is
cancelled (R248). -/
def State.fillPc (s : State) (base len n : Nat) : State :=
  let k := s.fillCount base len n - (s.fillDone n).2
  if s.pcFenced n then s.add R.pc_FENCED_WRITES n k
  else if s.reg R.pc_STATE n = 4 then s
  else
    let s := s.add R.pc_BURSTS n k
    match (s.pcState n).writeBack with
    | some w =>
      if base ≤ w.addr ∧ w.addr < base + len ∧ !s.pageRetired (w.addr / 2 ^ 17) ∧ !s.fillPassed base (w.addr / 32) then s.cancelWriteBack n w.addr
      else s
    | none => s

/-- VALID_PAGES: pages in the valid ranges that are not retired. -/
def State.validPages (s : State) : Nat :=
  if s.store.retired.isEmpty then (s.store.valid.map Prod.snd).sum
  else (s.store.valid.map fun r => ((List.range r.2).filter fun k => !s.pageRetired (r.1 + k)).length).sum

/-- A fill completes (R252), when no PC keeps it waiting: the requests queued for its words before are served first (R201), the words it has not
passed are written, and the pages it covered wholly become valid; event 0x3105.
[DEDUCED, log 73: unsafe] -/
def opFillComplete (s : State) : State :=
  match s.store.fill with
  | none => s
  | some j =>
    if (List.range 128).any (s.fillWaits j) then s
    else
      let s := s.each (List.range 128) fun s n => s.serveFirst n fun r =>
        decide (j.base ≤ r.addr) && decide (r.addr < j.base + j.len) && !s.pageRetired (r.addr / 2 ^ 17)
      let s := (s.fillWords j.base j.len).each (List.range 128) fun s n => s.fillPc j.base j.len n
      let first := ceilDiv j.base (2 ^ 17)
      let last := (j.base + j.len) / 2 ^ 17
      let s := { s with store := { s.store with fill := none, fillAt := [], valid := addPages (first, last - first) s.store.valid } }
      (s.setReg R.code_FILL_BUSY 0 0).raise 0x3105 (b2n (!j.atDaybreak))

/-- Whether a defined handle's slot range or mirror range overlaps a page a record would retire (R256). -/
def State.retireBlocked (s : State) (r : Retirement) : Bool :=
  let map := s.reg R.stk_MAP (r.pc / 32)
  let pages (base len : Nat) : Bool :=
    (List.range ((base + len - 1) / 2 ^ 17 + 1 - base / 2 ^ 17)).any fun k => recordInPage map r (base / 2 ^ 17 + k)
  s.sched.handles.any fun p => p.2.slots != 0 && (pages p.2.base p.2.span || (p.2.mirror != 0 && pages p.2.mirror p.2.span))

/-- A retirement is recorded (R254, R256). -/
def State.retire (s : State) (r : Retirement) : State :=
  let rows := s.store.retired.filter fun x => x.row.isSome
  let banks := s.store.retired.filter fun x => x.row.isNone
  if s.retireBlocked r then s.stateError
  else if (r.row.isSome && decide (4096 ≤ rows.length)) || (r.row.isNone && decide (16 ≤ banks.length)) then s.resource
  else
    let s := { s with store := { s.store with retired := s.store.retired ++ [r] } }
    (s.raise 0x3106 (b2n r.row.isNone + r.pc * 2)).ok

/-- RETIRE_ROW (R254). -/
def opRetireRow (w : Who) (a : Nat) (s : State) : State :=
  s.writeAs w R.code_RETIRE_ROW 0 (decide (a < frameStoreEnd)) fun s =>
    let x := s.locate a
    s.retire ⟨x.index, x.bank, some x.row⟩

/-- RETIRE_BANK (R254). -/
def opRetireBank (w : Who) (v : Nat) (s : State) : State :=
  s.writeAs w R.code_RETIRE_BANK 0 (decide (v < 2 ^ 14) && !v.testBit 7) fun s => s.retire ⟨v % 128, v / 256, none⟩

/-- The RETIREMENTS object (Table 08.10). -/
def State.retirementsBytes (s : State) : List Byte :=
  leBytes 4 s.store.retired.length ++ s.store.retired.flatMap fun r =>
    leBytes 1 (b2n r.row.isNone) ++ leBytes 1 r.pc ++ leBytes 1 r.bank ++ leBytes 1 0 ++ leBytes 2 (r.row.getD 0) ++ leBytes 2 0

/-- A log entry as the dictionary reads it (Table 08.5). -/
def LogEntry.bytes (x : LogEntry) : List Byte :=
  leBytes 16 (x.addr + x.symbol * 2 ^ 40 + x.kind * 2 ^ 46 + b2n x.scrub * 2 ^ 48 + x.error * 2 ^ 56 + x.syndrome * 2 ^ 64 +
    x.repeats * 2 ^ 96 + x.time / 1000000000 % 2 ^ 16 * 2 ^ 112)

end Sys2Proof.Machine
end

