-- ==== Sys2Proof/Machine/SlotTables.lean ====
section
/-! DEFINITION. The slot tables (R274 to R278): the reservations that the steward makes from the admitted graphs, the table entries that
they stand for, and the staging and the swap of the tables. -/

namespace Sys2Proof.Machine

/-! ### Paths and their entries (R263, R274, R275, R277) -/

/-- A leg of a path on one ring: where its flits are injected, how many slots after the path's first, the direction, the segments in order,
and the exchange port they come from (0 but at stop 0). -/
structure PathLeg where
  stop : Nat
  delay : Nat
  dir : Nat
  segs : List Nat
  port : Nat
  deriving DecidableEq, Repr

/-- The legs of the path from stop `a` to stop `b`: one on a ring, or one to stop 0 and, 12 slots after its last segment (R277), one from stop
0 of the other ring on. -/
def pathLegs (a b : Nat) : List PathLeg :=
  let leg (g t delay port : Nat) : PathLeg := ⟨g, delay, (ringPath (g % 24) t).1, (ringPath (g % 24) t).2, port⟩
  let first := leg a (if a / 24 = b / 24 then b % 24 else 0) 0 0
  if a / 24 = b / 24 then [first] else [first, leg (b / 24 * 24) (b % 24) (first.segs.length - 1 + 12) (a / 24)]

/-- The (segment, direction, slot) triples of a reservation (R274): the segment as ring + 16 × direction + 256 × segment. -/
def Reservation.triples (r : Reservation) : List (Nat × Nat) :=
  (pathLegs r.src r.dst).flatMap fun l => l.segs.zipIdx.map fun p => (l.stop / 24 + 16 * l.dir + 256 * p.1, (r.slot + l.delay + p.2) % 1024)

/-- The entry of a table that lets a leg's flits in (Table 09.7): VALID, HOPS and IN. -/
def PathLeg.entry (l : PathLeg) : Nat := 1 + 2 * l.segs.length + 64 * l.port

/-- The entries of a reservation: 2 × stop + direction, slot, entry. -/
def Reservation.entries (r : Reservation) : List (Nat × Nat × Nat) :=
  ((pathLegs r.src r.dst).filter fun l => !l.segs.isEmpty).map fun l => (2 * l.stop + l.dir, (r.slot + l.delay) % 1024, l.entry)

/-- Entry `slot` of a stop's table for a direction; 0 where no reservation has one. -/
def slotEntry (l : List Reservation) (g dir slot : Nat) : Nat :=
  ((l.flatMap Reservation.entries).find? fun e => e.1 == 2 * g + dir && e.2.1 == slot).elim 0 fun e => e.2.2

/-- A reserved path goes through stop `g`. -/
def Reservation.through (r : Reservation) (g : Nat) : Bool :=
  (pathLegs r.src r.dst).any fun l =>
    l.stop / 24 == g / 24 && (l.stop == g || l.segs.any fun x => x == g % 24 || (x + 1) % 24 == g % 24)

/-- The reserved slots of a segment direction. -/
def reservedOn (l : List Reservation) (seg : Nat) : Nat := ((l.flatMap Reservation.triples).filter fun t => t.1 == seg).length

/-! ### Making reservations (R276, R278) -/

/-- A reservation fits beside others: no triple in slot 0, none that another has, and at most 921 in each segment direction. -/
def Reservation.fits (r : Reservation) (l : List Reservation) : Bool :=
  let used := l.flatMap Reservation.triples
  r.triples.all fun t => t.2 != 0 && !used.contains t && decide ((used.filter fun x => x.1 == t.1).length < 921)

/-- A further reservation for a path, in the first slot that fits from the steward's start on.
[DESIGN CHOICE, log 75: safe] -/
def placeReservation (epoch key src dst owner : Nat) (l : List Reservation) : List Reservation :=
  let start := Config.slotStart epoch l.length
  match (List.range 1024).find? fun j => (Reservation.mk key src dst ((start + j) % 1024) [owner]).fits l with
  | some j => l ++ [⟨key, src, dst, (start + j) % 1024, [owner]⟩]
  | none => l

/-- The slots that a graph needs, by whose paths they are and the path: nodes of one operator share theirs (R109, R110). -/
def State.slotNeeds (s : State) (g : Nat) : List ((Nat × Nat × Nat) × Nat) :=
  let ms := s.models g
  let keys := (ms.flatMap fun m => m.paths.map fun p => (m.key, p.1, p.2.1)).eraseDups
  keys.map fun k =>
    (k, (ms.filter fun m => m.key == k.1).foldl (fun n m =>
      max n ((m.paths.filter fun p => p.1 == k.2.1 && p.2.1 == k.2.2).map fun p => p.2.2).sum) 0)

/-- The reservations of a path that there are, up to `n`, are charged to a graph too. -/
def shareReservations (key src dst owner : Nat) : Nat → List Reservation → Nat × List Reservation
  | n, [] => (n, [])
  | 0, l => (0, l)
  | n + 1, r :: l =>
    if r.key == key && r.src == src && r.dst == dst then
      let x := shareReservations key src dst owner n l
      (x.1, { r with owners := r.owners.erase owner ++ [owner] } :: x.2)
    else
      let x := shareReservations key src dst owner (n + 1) l
      (x.1, r :: x.2)

/-- A graph's reservations are added. -/
def State.addReservations (s : State) (epoch g : Nat) (l : List Reservation) : List Reservation :=
  (s.slotNeeds g).foldl (fun l need =>
    let x := shareReservations need.1.1 need.1.2.1 need.1.2.2 g need.2 l
    (List.range x.1).foldl (fun l _ => placeReservation epoch need.1.1 need.1.2.1 need.1.2.2 g l) x.2) l

/-- A graph's reservations are removed. -/
def removeReservations (g : Nat) (l : List Reservation) : List Reservation :=
  (l.map fun r => { r with owners := r.owners.erase g }).filter fun r => !r.owners.isEmpty

/-- The tables that an epoch makes of others: what it removes goes first, then what it adds comes (R105, R278). -/
def State.epochTables (s : State) (epoch : Nat) (changes : List (Nat × Bool)) (l : List Reservation) : List Reservation :=
  let l := (changes.filter fun c => !c.2).foldl (fun l c => removeReservations c.1 l) l
  (changes.filter fun c => c.2).foldl (fun l c => s.addReservations epoch c.1 l) l

/-- The epoch members of a commit set: graph slot, and whether its reservations are added. -/
def epochMembers (ms : List Member) : List (Nat × Bool) :=
  ms.filterMap fun m => match m with | .epoch g add => some (g, add) | _ => none

/-- The tables that are active, or about to be. -/
def State.latestTables (s : State) : List Reservation := if s.rings.swapAt.isSome then s.rings.shadow else s.rings.active

/-- The tables staged for the next epoch (R288). -/
def State.stagedTables (s : State) : List Reservation :=
  match s.tb.sets.find? fun x => !(epochMembers x.members).isEmpty with
  | some x => s.epochTables (s.reg R.rsys_EPOCH + 1) (epochMembers x.members) s.latestTables
  | none => s.latestTables

/-- The tables the dictionary shows: active, or shadow: those staged, else those to come or last replaced. -/
def State.tables (s : State) (shadow : Bool) : List Reservation :=
  if !shadow then s.rings.active else if s.on R.rsys_STAGED then s.stagedTables else s.rings.shadow

/-! ### Commit and swap (R278, R287, R288) -/

/-- A ring epoch commits at a frame mark (R288): new flits carry it, the drain begins, and its tables become active at the first wrap boundary
at or after the mark. -/
def State.commitEpoch (s : State) (members : List Member) : State :=
  let faults := ((List.range 16).map fun k => (k, s.detourSegment k)).filter fun p => p.2 != 0xFF
  let next := s.epochTables (s.reg R.rsys_EPOCH + 1) (epochMembers members) s.latestTables
  let more := s.tb.sets.any fun x => !(epochMembers x.members).isEmpty
  let s := s.inc R.rsys_EPOCH
  let s := (s.setReg R.rsys_STAGED 0 (if more then s.reg R.rsys_EPOCH + 1 else 0)).setReg R.rsys_DRAINING 0 1
  { s with rings := { s.rings with drainStart := s.mono, oldFaults := faults, shadow := next,
                                   swapAt := some (ceilDiv s.ringCycle 1024 * 1024) } }

/-- The shadow tables become active at the wrap boundary (R278). -/
def opSlotTableSwap (t : Nat) (s : State) : State :=
  let s := s.advanceTo t
  match s.rings.swapAt with
  | none => s
  | some c =>
    let s := s.waitCycle c
    { s with rings := { s.rings with swapAt := none, swappedAt := c, active := s.rings.shadow, shadow := s.rings.active } }

end Sys2Proof.Machine
end

