-- ==== Sys2Proof/Machine/Rings.lean ====
section
/-! DEFINITION. The commands of the rings, the exchange and the age arbiters (chapter 09): what master stops send and wait for, how stops
forward, check, assemble and answer flits, arbitration, epochs, and segment faults. -/

namespace Sys2Proof.Machine

/-! ### Fences (R300) -/

/-- The presence bits of the units at ring `k`'s stops, by register. -/
def ringUnits (k : Nat) : List (Reg × Nat) :=
  (R.pres_RINGS, k) :: (([1, 2, 6, 7, 13, 14, 18, 19].map fun i => pcBit (stopUnit (24 * k + i)).2) ++
    ((List.range 16).map fun i => laneBit (16 * k + i)) ++ [(R.pres_RASTER, 2 * k), (R.pres_RASTER, 2 * k + 1)] ++
    (List.range 4).map fun i => (R.pres_MOVE, 4 * k + i))

/-- What is on ring `k` and in its exchange port is lost with it (R300). -/
def State.dropRing (s : State) (k : Nat) : State :=
  let r := s.rings
  let inputs (i : Nat) : Bool := i / 72 == k
  let dirs (d : Nat) : Bool := d / 48 == k
  { s with rings := { r with
    bufs := r.bufs.filter (fun b => !inputs (b.1 / 4)), crossing := r.crossing.filter (fun b => b.1 / 48 != k),
    out := r.out.filter (fun p => !dirs p.1), side := r.side.filter (fun p => !dirs p.1), revokes := r.revokes.filter (fun p => !dirs p.1),
    waddr := r.waddr.filter (fun p => !dirs p.1), returns := r.returns.filter (fun p => !inputs (p.1 / 4)),
    busy := r.busy.filter (fun p => !dirs (p.1 / 4)), holding := r.holding.filter (fun h => !inputs h.input && h.arb != .exchange k),
    acks := r.acks.filter fun a => !(decide (a.target < 384) && a.target / 24 == k && a.target % 24 != 0) } }

/-- Ring `k` is fenced with a cause: 0 second segment, 1 self-test, 2 exchange port.
[DEDUCED, log 83: unsafe] -/
def State.ringFence (s : State) (k cause : Nat) : State :=
  if !s.ringPresent k then s
  else
    let lanes := (List.range 16).map fun i => 16 * k + i
    let ports := (List.range 32).map fun i => 32 * k + i
    let pcs := [1, 2, 6, 7, 13, 14, 18, 19].map fun i => (stopUnit (24 * k + i)).2
    let live := lanes.filter s.lanePresent
    let s := s.each (ringUnits k) fun s b => s.setReg b.1 0 (putBit (s.reg b.1) b.2 false)
    let s := s.inc R.pres_CHANGES
    let s := s.raise 0x1010 (s.reg R.pres_CHANGES)
    let s := (s.setReg R.ring_PRESENT k 0).setReg R.ring_STATE k 2
    let s := (s.setReg R.xp_STATE k 1).raise 0x4008 (k + cause * 256)
    let s := s.each (pcs.filter fun n => !s.pcFenced n) fun s n => (s.shutPc n).raiseNoCopy (n / 32) [n]
    let s := s.each live fun s l => ((s.dropLane l 4 1).laneTo l 12).setReg R.lane_PRESENT l 0
    let s := s.each live fun s l => s.laneFollow l
    let s := s.each [2 * k, 2 * k + 1] fun s e => ((s.setReg R.eng_PRESENT e 0).setReg R.eng_STATE e 3).operatorGone e
    let s := s.each (List.range 4) fun s i => s.operatorGone (32 + 4 * k + i)
    let s := s.refreshPorts ports 3
    let s := s.each (List.range 24) fun s i => s.setStop (24 * k + i) 3
    s.dropRing k

/-! ### Reads and writes that end (R269, R292, R297) -/

/-- What a read delivers: its words with their poison flags, and RS_ERR. -/
def readResult (n : Nat) : ReadAnswer → List (Nat × Bool) × Nat
  | .words ws => (ws.take n ++ List.replicate (n - ws.length) (0, true), if ws.length < n then 2 else 0)
  | .addressError => ([], 1)
  | _ => (List.replicate n (0, true), 0)

/-- A held read is answered: poison in an owned area of the scratchpad has its reaction (R502), and the words go to the master, the
command's answer for the masters that are no fabric port. -/
def State.readDone (s : State) (h : HeldTransfer) (a : ReadAnswer) : State :=
  let s : State := { s with rings := { s.rings with held := s.rings.held.erase h } }
  let (ws, err) := readResult h.addrs.length a
  let s := s.each (h.addrs.zip ws) fun s p =>
    if p.2.2 && decide (scratchBase ≤ p.1) then s.ownedPoison ((p.1 - scratchBase) / 32) else s
  let answer (s : State) (ws : List (Nat × Bool)) : State :=
    if err = 1 then s.badValue else s.answerWith (ws.flatMap fun w => leBytes 32 (if w.2 then 0 else w.1) ++ leBytes 1 (b2n w.2))
  match h.kind with
  | .fabric => s.portReadAnswer h.unit h.tag err ws
  | .raster => match s.rasterWords h.unit (h.addrs.zip (if err = 1 then List.replicate h.addrs.length (0, true) else ws)) with
    | (s, some ws) => answer s ws
    | (s, none) => s
  | .steward => (answer s ws).windowDone h.tag (if err = 1 then none else (ws.head?).bind fun w => if w.2 then none else some w.1)
  | _ => answer s ws

/-- An open version that a lost transfer wrote to cannot become complete (R297). -/
def State.breakFrame (s : State) (l : List Nat) (v : InFrame) : InFrame :=
  let size := (s.sched.handles.find? fun p => decide (p.2.base ≤ v.addr) && decide (v.addr < p.2.base + p.2.span)).elim 0 fun p => p.2.size
  if l.any (fun a => decide (v.addr ≤ a) && decide (a < v.addr + size)) then { v with broken := true } else v

/-- An operation's or flow's write has been lost (R297): the operation will end DONE_FLAGGED, the version cannot become complete. -/
def State.masterLoses (s : State) (h : HeldTransfer) : State :=
  let flag (o : Nat) : State := match s.runOp o with
    | some r => s.setRun o (some { r with flagged := true })
    | none => s
  match h.kind with
  | .raster => (flag h.unit).engineAcked h.unit
  | .move => flag (32 + h.unit)
  | .fabric => s.portWriteAnswer h.unit h.tag 1
  | .stream => s.onFlow h.unit fun x => { x with frames := x.frames.map (s.breakFrame h.addrs) }
  | .steward => s.windowDone h.tag none
  | _ => s

/-- The transfer is counted and reported as lost (R297, R301).
[DEDUCED, log 82: unsafe] -/
def State.countLost (s : State) (h : HeldTransfer) : State :=
  let s := if h.stop < 384 then s.inc R.ring_LOST_TRANSFERS (h.stop / 24) else s
  s.raise 0x4003 (h.stop + h.tag * 2 ^ 16)

/-- The target stop of a device address: a PC's, or a slice's. -/
def State.targetStop (s : State) (a : Nat) : Nat :=
  if a < frameStoreEnd then pcStop (s.locate a).index
  else if a < 0x4800000000 then sliceStop (scratchSlice (a - scratchBase)) else 385

/-- A held write is lost (R297): posted poison writes to each of its words, unless its target sleeps (R292); the master is told.
[DEDUCED, log 78: unsafe] -/
def State.writeLost (s : State) (h : HeldTransfer) (poison : Bool) : State :=
  let s : State := { s with rings := { s.rings with held := s.rings.held.erase h } }
  let s : State := if poison then s.each h.addrs fun s a =>
      s.inject h.stop 512 (mkFlit h.stop (s.targetStop a) h.vc .write 0 0 true poisonWord none true false (some a))
    else s
  (s.masterLoses h).countLost h

/-- A write acknowledgement at a master stop (R269). -/
def State.ackReceived (s : State) (g tag : Nat) (st : AckStatus) : State :=
  match s.rings.held.find? fun h => h.stop == g && h.tag == tag && h.write with
  | none => s
  | some h =>
    match st with
    | .asleep => s.writeLost h false
    | .discarded => s.writeLost h true
    | _ =>
      if 1 < h.left then
        { s with rings := { s.rings with held := s.rings.held.map fun x => if x == h then { x with left := x.left - 1 } else x } }
      else
        let s : State := { s with rings := { s.rings with held := s.rings.held.erase h } }
        match h.kind with
        | .fabric => s.portWriteAnswer h.unit h.tag 0
        | .steward => s.windowDone h.tag none
        | .raster => s.engineAcked h.unit
        | _ => s

/-- The acknowledgement on its way is there. -/
def opAcknowledgementReceive (g tag : Nat) (st : AckStatus) (s : State) : State :=
  let mine := s.rings.acks.find? fun a => a.master == g && a.tag == tag && a.status == st
  let s : State := { s with rings := { s.rings with acks := mine.elim s.rings.acks s.rings.acks.erase } }
  s.ackReceived g tag st

/-- A held write is answered ADDRESS_ERROR: nothing of it was written (R267). -/
def State.writeRefused (s : State) (h : HeldTransfer) : State :=
  let s : State := { s with rings := { s.rings with held := s.rings.held.erase h } }
  match h.kind with
  | .fabric => s.portWriteAnswer h.unit h.tag 2
  | .steward => s.badValue.windowDone h.tag none
  | .raster => s.badValue.engineAcked h.unit
  | _ => s.badValue

/-- The first run of a held read that is still to be answered sets out as a READ transfer (Table 09.4), for fabric port `port` (512 for none). -/
def State.askRun (s : State) (port : Nat) (h : HeldTransfer) : State :=
  match h.asks with
  | [] => s
  | run :: _ =>
    let a := (run.map Prod.snd).headD 0
    s.inject h.stop port (mkFlit h.stop (s.targetStop a) h.vc .read h.tag 0 true (encodeWord (requestWord a run.length h.mirror)) none false false none)

/-- The words of a held read when its present run is answered with `ws`: in their places, up to the first that is missing; a word with no copy
is poison (R223). -/
def HeldTransfer.words (h : HeldTransfer) (ws : List (Nat × Bool)) : List (Nat × Bool) :=
  let run := (h.asks.headD []).map Prod.fst
  let got := h.got ++ run.zip ws
  let missing := run.drop ws.length ++ ((h.asks.drop 1).flatten.map Prod.fst)
  ((List.range h.addrs.length).takeWhile fun i => !missing.contains i).map fun i =>
    ((got.find? fun p : Nat × (Nat × Bool) => p.1 == i).map Prod.snd).getD (0, true)

/-- The present run of a held read is answered: the next sets out, or the read is done. -/
def State.runDone (s : State) (h : HeldTransfer) (ws : List (Nat × Bool)) : State :=
  if h.asks.length ≤ 1 then s.readDone h (.words (h.words ws))
  else
    let n : HeldTransfer := { h with asks := h.asks.drop 1, got := h.got ++ ((h.asks.headD []).map Prod.fst).zip ws }
    let s : State := { s with rings := { s.rings with held := s.rings.held.map fun x => if x == h then n else x } }
    s.askRun (if h.kind = .fabric then h.unit else 512) n

/-- A read is answered at its master stop (R292). -/
def State.readReceived (s : State) (g tag : Nat) (a : ReadAnswer) : State :=
  match s.rings.held.find? fun h => h.stop == g && h.tag == tag && !h.write with
  | none => s
  | some h =>
    match a with
    | .words ws => s.runDone h ws
    | .addressError => s.readDone h .addressError
    | _ => s.runDone h (List.replicate (h.asks.headD []).length (0, true))

def opReadResponseReceive (g tag : Nat) (a : ReadAnswer) (s : State) : State := s.silent.readReceived g tag a

/-! ### Requests of masters (R265 to R270, R293, R304, R341) -/

/-- The addresses of `n` words from `a` on in the target's order, if they stay in their row or block (R267).
[DEDUCED, log 81: unsafe] -/
def State.wordAddrs (s : State) (a n : Nat) : Option (List Nat) :=
  let a := a / 32 * 32
  if a < frameStoreEnd then
    let x := s.locate a
    if x.col + n ≤ 32 then some ((List.range n).map fun i => addressIn (s.reg R.stk_MAP x.stack) { x with col := x.col + i }) else none
  else if a % 1024 / 32 + n ≤ 32 then some ((List.range n).map fun i => a + 32 * i) else none

/-- A master's access is refused (R293, R267): a read with ADDRESS_ERROR, a write absorbed; a fabric port gets RS_ERR 1 or WA_STATUS 2.
[DEDUCED, log 81: unsafe] -/
def State.refuseAccess (s : State) (r : MasterReq) : State :=
  if r.kind = .fabric then (if r.write then s.portWriteAnswer r.unit r.tag 2 else s.portReadAnswer r.unit r.tag 1 []) else s.badValue

/-- The VC of a request (R163, R304, R337, Table 09.6): an engine's follows its operation and a fabric port's the operation active at its first
handshake (`tagPort`), with VC0 for the frame store only; VC3 is the stream engine's, the scheduler's and the steward's, whose ingest and egress of
a flow bound to a guaranteed graph travel on VC0.
[DEDUCED, log 220: unsafe] -/
def State.requestVc (s : State) (r : MasterReq) : VC :=
  let guaranteed : Bool := match r.kind with
    | .raster | .move => (s.masterOp r.kind r.unit).elim false fun o => (s.graph (slotOf o.node)).guaranteed
    | .fabric => r.vc == .vc0
    | .stream => s.reg R.flow_STATE r.unit == 2 && (s.graph (s.flowRun r.unit).slot).guaranteed
    | _ => false
  match r.kind with
  | .scheduler | .steward | .loader => .vc3
  | .stream => if frameStoreEnd ≤ r.addr then .vc3 else if guaranteed then .vc0 else .vc1
  | _ => if guaranteed ∧ r.addr < frameStoreEnd then .vc0 else .vc1

/-- The copy a read of a word goes to through stop `g` (R223, R224), if one is usable. -/
def State.readCopyAddr (s : State) (g a : Nat) (mirror : Bool) : Option Nat :=
  match s.mirrorRange a with
  | none => if mirror then none else some a
  | some (i, d) =>
    let m := a - d.base + d.mirror
    let st := s.staleMask i
    let second := if s.copyUsable g m st.mirrorStale then some m else none
    if mirror then second else if s.copyUsable g a st.primaryStale then some a else second

/-- The copies a write of a word goes to (R222), primary and mirror: a copy on a CHANGING stack is marked stale instead. -/
def State.writeCopies (s : State) (a : Nat) : State × Option Nat × Option Nat :=
  match s.mirrorRange a with
  | none => (s, some a, none)
  | some (i, d) =>
    let m := a - d.base + d.mirror
    let p := s.on R.stk_CHANGING (bits a 7 6)
    let q := s.on R.stk_CHANGING (bits m 7 6)
    let s := if p then s.setStale i (2 ^ bits a 7 6) 0 else s
    let s := if q then s.setStale i 0 (2 ^ bits m 7 6) else s
    (s, (if p then none else some a), if q then none else some m)

/-- The copies of the words of a write. -/
def State.copiesOf (s : State) : List Nat → State × List (Option Nat) × List (Option Nat)
  | [] => (s, [], [])
  | a :: t =>
    let (s, p, q) := s.writeCopies a
    let (s, ps, qs) := s.copiesOf t
    (s, p :: ps, q :: qs)

/-- The word after another in its target's order (R267); none at the end of a row or block. -/
def State.nextWord (s : State) (a : Nat) : Option Nat := (s.wordAddrs a 2).bind fun l => l[1]?

/-- Words with their places cut into runs that follow the target's order (R267), as a mirror copy's words may lie across two rows, or two
blocks of columns, where the primary's do not; a word with no copy is in none. -/
def State.runsOf (s : State) : List (Option Nat × Nat) → List (List (Nat × Nat))
  | [] => []
  | (none, _) :: t => s.runsOf t
  | (some a, i) :: t =>
    match s.runsOf t with
    | ((j, b) :: run) :: more =>
      if s.nextWord a == some b && j == i + 1 then ((i, a) :: (j, b) :: run) :: more else [(i, a)] :: ((j, b) :: run) :: more
    | l => [(i, a)] :: l

/-- The master is a raster engine that has been ordered to abandon its operation, or has met a fault: it issues nothing more (R193, R163). -/
def State.engineAborting (s : State) (r : MasterReq) : Bool :=
  r.kind == .raster && (s.runOp r.unit).any fun o => o.aborting || o.fault != 0

/-- Stop `g` serves the master that makes a request (R260, R261): an operator's stop; for a flow the quads of its ports or link; the exchange
for the scheduler, the steward and the loader. -/
def State.servesMaster (s : State) (g : Nat) (r : MasterReq) : Bool :=
  match r.kind with
  | .raster => g == rasterStop r.unit
  | .move => g == sliceStop (r.unit / 4)
  | .fabric => g == fabricStop (r.unit / 4)
  | .stream =>
    if s.isPeer r.unit then g == quadStop (s.reg R.pf_LINK r.unit / 4)
    else if s.reg R.flow_KIND r.unit = 4 then g == quadStop (s.reg R.flow_PORT_A r.unit / 4)
    else (s.flowPorts r.unit).any fun p => g == quadStop (p / 4)
  | .scheduler => g == 384
  | .steward | .loader => g == 385

/-- The fabric port that makes a request; 512 for none. -/
def requestPort (r : MasterReq) : Nat := if r.kind = .fabric then r.unit else 512

/-- A read leaves its stop, and is held until it is answered (R297): each word is asked of the first copy of it that is usable (R223), run by run,
each run when the one before it has been answered; a read with no usable copy returns poison.
[DEDUCED, log 280: unsafe] -/
def State.sendRead (s : State) (g : Nat) (r : MasterReq) : State :=
  match s.wordAddrs r.addr r.count with
  | none => s.refuseAccess r
  | some l =>
    let places := l.map fun a => s.readCopyAddr g a r.mirror
    let moved := ((l.zip places).filter fun p => p.2.any fun b => b != p.1).length
    let h : HeldTransfer :=
      { stop := g, tag := r.tag, kind := r.kind, unit := r.unit, write := false, vc := s.requestVc r, addrs := l,
        mirror := r.mirror, asks := s.runsOf places.zipIdx }
    if h.asks.isEmpty then s.readDone h (.words (List.replicate r.count (0, true)))
    else
      let s := if r.mirror then s else s.add R.fs_REDIRECTED_READS 0 moved
      let s : State := { s with rings := { s.rings with held := s.rings.held ++ [h] } }
      s.askRun (requestPort r) h

/-- The flits of one run of a write (R264 to R267): the words of its places at their addresses. -/
def writeFlits (g dst : Nat) (vc : VC) (tag : Nat) (r : MasterReq) (ws : List (Option Nat)) (run : List (Nat × Nat)) : List Flit :=
  let w (i : Nat) : Option Nat := (ws[i]?).getD none
  match r.masked, run.head? with
  | true, some (i, a) => [mkFlit g dst vc .writeMasked tag 0 true (wordOrPoison (w i)) (some (encodeWord (r.mask % 2 ^ 32))) (w i).isNone false (some a)]
  | _, _ => wordFlits g dst vc .write tag 0 (run.map fun p => (w p.1, some p.2))

/-- A write leaves its stop, to each copy of each word (R222), a transfer for each run of words; an acknowledged one is held (R297).
[DEDUCED, log 280: unsafe] -/
def State.sendWrite (s : State) (g : Nat) (r : MasterReq) (ws : List (Option Nat)) : State :=
  match s.wordAddrs r.addr (if r.masked then 1 else ws.length) with
  | none => s.refuseAccess r
  | some l =>
    let (s, ps, qs) := s.copiesOf l
    let runs := s.runsOf ps.zipIdx ++ s.runsOf qs.zipIdx
    let tag := if r.posted then 0 else r.tag
    let vc := s.requestVc r
    let h : HeldTransfer :=
      { stop := g, tag := tag, kind := r.kind, unit := r.unit, write := true, vc := vc, addrs := runs.flatten.map Prod.snd, left := runs.length }
    let s : State := if tag = 0 ∨ runs.isEmpty then s else { s with rings := { s.rings with held := s.rings.held ++ [h] } }
    s.each runs fun s run => s.injectAll g (requestPort r) (writeFlits g (s.targetStop ((run.map Prod.snd).headD 0)) vc tag r ws run)

/-- The VC of a port's request to the frame store, by the class it took at its first handshake (R337). -/
def portVc (guaranteed : Bool) : VC := if guaranteed then .vc0 else .vc1

/-- A fabric port's request, which the port must have accepted, takes the ring tag it is sent with; a write's words come from the port. -/
def State.tagPort (s : State) (r : MasterReq) : Option (State × MasterReq × List (Option Nat)) :=
  let own := (r.words.map some).take 16
  if r.kind ≠ .fabric then some (s, r, own)
  else if r.write then
    ((s.port r.unit).writes.find? fun w => w.sent.isNone && w.addr == r.addr / 32 * 32).map fun w =>
      (s.onPort r.unit fun p =>
        { p with writes := if w.posted then p.writes.erase w else p.writes.map fun x => if x == w then { x with sent := some r.tag } else x },
       { r with posted := w.posted, masked := w.mask != fullMask, mask := w.mask, vc := portVc w.guaranteed },
       w.words.map fun x => if x.2 then none else some x.1)
  else
    ((s.port r.unit).reads.find? fun x => x.sent.isNone && x.addr == r.addr / 32 * 32 && x.count == r.count && x.mirror == r.mirror).map fun x =>
      (s.onPort r.unit fun p => { p with reads := p.reads.map fun y => if y == x then { y with sent := some r.tag } else y },
       { r with vc := portVc x.guaranteed }, own)

/-- A master hands an access to its stop (R293, R303): each word is checked against the address map, then the access is sent. A TAG in use waits.
[DESIGN CHOICE, log 79: safe, DEDUCED, log 80: unsafe] -/
def opMasterRequest (g : Nat) (r : MasterReq) (s : State) : State :=
  let s := s.silent
  let r := { r with count := (r.count - 1) % 16 + 1 }
  if s.engineAborting r || !s.isMasterStop g || !s.servesMaster g r || (r.tag != 0 && s.rings.held.any fun h => h.stop == g && h.tag == r.tag) then s
  else
    match s.tagPort r with
    | none => s
    | some (s, r, ws) =>
      let words := (s.wordAddrs r.addr (if r.write then ws.length else r.count)).getD [r.addr]
      if !(r.addr :: words).all fun a => s.mayAccess r.kind r.unit r.write r.mirror a then (s.addressError g r.write).refuseAccess r
      else if r.write then s.sendWrite g r ws
      else s.sendRead g r

/-! ### Credits (R200, R270, R271, R306) -/

/-- Credits for a VC toward the next stop; 8 at the start (R270). -/
def State.credit (s : State) (g dir : Nat) (vc : VC) : Nat := tget (fun _ => 8) s.rings.credits ((2 * g + dir) * 4 + vcCode vc)

def State.setCredit (s : State) (g dir : Nat) (vc : VC) (n : Nat) : State :=
  { s with rings := { s.rings with credits := tput (fun _ => 8) ((2 * g + dir) * 4 + vcCode vc) n s.rings.credits } }

/-- Stop `g` withholds the credits of a VC (R200, R306): its target's entries are in use up to the limit of the VC's class. -/
def State.withholds (s : State) (g : Nat) (vc : VC) : Bool :=
  match stopUnit g with
  | (.store, n) =>
    let used := (s.pcState n).used + (s.movingTo n).length
    match vc with
    | .vc0 => decide (128 ≤ used)
    | .vc1 | .vc3 => decide (96 ≤ used)
    | .vc2 => false
  | (.slice, k) =>
    let used := (s.sliceEntries k).length
    match vc with
    | .vc1 => decide (48 ≤ used)
    | .vc3 => decide (64 ≤ used)
    | _ => false
  | _ => false

/-- The credits to give back for a VC of an input. -/
def State.owed (s : State) (input : Nat) (vc : VC) : Nat := tget (fun _ => 0) s.rings.returns (4 * input + vcCode vc)

def State.setOwed (s : State) (input : Nat) (vc : VC) (n : Nat) : State :=
  { s with rings := { s.rings with returns := tput (fun _ => 0) (4 * input + vcCode vc) n s.rings.returns } }

/-- A ring cycle in which stop `g` withholds a credit is counted (R200, R306).
[DEDUCED, log 84: unsafe] -/
def State.countHold (s : State) (g : Nat) : State :=
  let waits := [0, 1].any fun d => allVcs.any fun vc => s.withholds g vc && s.owed (inputOf g d) vc != 0
  if !waits || decide (s.ringCycle < tget (fun _ => 0) s.rings.holdAt g) then s
  else
    let s : State := { s with rings := { s.rings with holdAt := tput (fun _ => 0) g (s.ringCycle + 1) s.rings.holdAt } }
    match stopUnit g with
    | (.store, n) => s.inc R.pc_CREDIT_HOLD n
    | _ => s.inc R.sp_CREDIT_HOLD

/-! ### Outputs held by arbiters (R284, R285) -/

/-- The transfer at the head of an input's VC. -/
def State.headAt (s : State) (input : Nat) (vc : VC) : List Buffered := headRun (s.buffer input vc)

/-- The source whose transfer is being sent on a VC of a segment direction, plus 1; 0 for none. -/
def State.busyAt (s : State) (g dir : Nat) (vc : VC) : Nat := tget (fun _ => 0) s.rings.busy ((2 * g + dir) * 4 + vcCode vc)

def State.setBusy (s : State) (g dir : Nat) (vc : VC) (n : Nat) : State :=
  { s with rings := { s.rings with busy := tput (fun _ => 0) ((2 * g + dir) * 4 + vcCode vc) n s.rings.busy } }

/-- A transfer that source `src` of stop `g` has begun to send stops: its segment directions are told by REVOKE (R285). -/
def State.stopSending (s : State) (g src : Nat) (vc : VC) : State :=
  s.each [0, 1] fun s d =>
    if s.busyAt g d vc = src + 1 then
      let s := s.setBusy g d vc 0
      { s with rings := { s.rings with revokes := tput (fun _ => none) (2 * g + d) (some vc) s.rings.revokes } }
    else s

/-- A transfer no longer holds its output; beats that left the exchange are revoked. -/
def State.letGo (s : State) (h : Holder) : State :=
  let s : State := { s with rings := { s.rings with holding := s.rings.holding.erase h } }
  match h.arb with
  | .exchange k => if k < 16 ∧ 0 < h.sent then s.stopSending (24 * k) 2 h.vc else s
  | _ => s

def State.holder (s : State) (a : ArbId) : Option Holder := s.rings.holding.find? fun h => h.arb == a

/-- A best-effort transfer on an output. -/
def Holder.bestEffort (h : Holder) : Bool := h.vc == .vc1 || h.vc == .vc2

/-- The best-effort transfer that holds an output is revoked (R285): it stands at the head of its input as before. -/
def State.revoke (s : State) (a : ArbId) : State :=
  match s.holder a with
  | none => s
  | some h =>
    if !h.bestEffort then s
    else
      let s := (s.letGo h).inc R.arb_REVOCATIONS
      match a with
      | .exchange k => s.inc R.xp_REVOCATIONS k
      | _ => s

/-! ### Partial transfers (R296) -/

/-- Whether a flit writes. -/
def isWrite (f : Flit) : Bool := f.op == .write || f.op == .writeMasked

/-- The part of a transfer an input holds is discarded (R296): its credits go back, it holds no output any more, and beats sent on are
revoked; unless the transfer was revoked it is counted, and a target answers an acknowledged write DISCARDED. -/
def State.discardTail (s : State) (input : Nat) (vc : VC) (counted : Bool) : State :=
  let g := input / 3
  let tail := openTail (s.buffer input vc)
  match tail.head? with
  | none => s
  | some b =>
    let l := s.buffer input vc
    let s := (s.setBuffer input vc (l.take (l.length - tail.length))).returnCredit input vc tail.length
    let s := if tail.length = l.length then (s.each (s.rings.holding.filter fun h => h.input == input && h.vc == vc) State.letGo).unstarve input vc
      else s
    if !counted then s
    else
      let s := if g < 384 then s.inc R.stop_PARTIAL_DISCARDS g else s
      if isWrite b.flit && flitDst b.flit == g then s.sendMasterAck g (flitSrc b.flit) b.flit.tag .discarded else s

/-! ### Targets and masters (R267, R290, R292) -/

/-- The read requests of a READ transfer: TAG, address, words, mirror (R267). -/
def readRequests (fs : List Flit) : List (Nat × Nat × Nat × Bool) :=
  fs.flatMap fun f =>
    (match requestOf (dataOf f.word0) with | some (a, n, m) => [(f.tag, a, n, m)] | none => []) ++
    (if f.two then match requestOf (dataOf f.word1) with | some (a, n, m) => [(if f.tag = 255 then 1 else f.tag + 1, a, n, m)] | none => [] else [])

/-- The words of a write transfer in order: address, data, mask, poison. -/
def State.writeWords (s : State) (fs : List Flit) : List (Nat × Nat × Nat × Bool) :=
  fs.flatMap fun f =>
    let a := f.waddr.getD 0
    if f.op == .writeMasked then [(a, dataOf f.word0, maskedWrite + dataOf f.word1 % 2 ^ 32, f.poison0)]
    else (a, dataOf f.word0, fullMask, f.poison0) ::
      (if f.two then [(((s.wordAddrs a 2).getD [a, a + 32]).getD 1 (a + 32), dataOf f.word1, fullMask, f.poison1)] else [])

/-- A target that cannot answer (R290, R215): `code` 2 ASLEEP, 3 DEAD. -/
def State.cannotAnswer (s : State) (g : Nat) (fs : List Flit) (code : Nat) : State :=
  match fs.head? with
  | none => s
  | some f =>
    let src := flitSrc f
    let count (s : State) (r : Reg) (n : Nat) : State := if g < 384 then s.add r g n else s
    match f.op with
    | .read =>
      let rs := readRequests fs
      let s := count s R.stop_REFUSED rs.length
      s.each rs fun s r => if code = 3 then s.sendResponse g src r.1 (answerVc f.vc) (List.replicate r.2.2.1 none)
        else s.sendStatus g src r.1 (answerVc f.vc) 2
    | .control => (count s R.stop_REFUSED 1).sendStatus g src f.tag .vc3 code
    | .write | .writeMasked =>
      let s := count s R.stop_ABSORBED 1
      let s : State := match stopUnit g with
        | (.store, n) => if code = 3 ∧ g < 384 then s.add R.pc_FENCED_WRITES n (s.writeWords fs).length else s
        | _ => s
      s.sendMasterAck g src f.tag (if code = 3 then .dead else .asleep)
    | _ => s

/-- The words of a response, with their poison flags. -/
def responseWords (fs : List Flit) : List (Nat × Bool) :=
  fs.flatMap fun f => (dataOf f.word0, f.poison0) :: if f.two then [(dataOf f.word1, f.poison1)] else []

/-- A whole transfer has arrived at the master side of stop `g`. -/
def State.toMaster (s : State) (g : Nat) (fs : List Flit) : State :=
  match fs.head? with
  | none => s
  | some f =>
    match f.op with
    | .response => s.readReceived g f.tag (.words (responseWords fs))
    | .status =>
      match s.rings.held.find? fun h => h.stop == g && h.tag == f.tag && h.write with
      | some h => if dataOf f.word0 % 256 = 1 then s.writeRefused h else s
      | none => s.readReceived g f.tag (match dataOf f.word0 % 256 with | 1 => .addressError | 2 => .asleep | _ => .dead)
    | _ => s

/-- The arbiter of a memory stop. -/
def stopArbiter (g : Nat) : Option ArbId :=
  match stopUnit g with
  | (.store, n) => some (.pc n)
  | (.slice, k) => some (.slice k)
  | _ => none

/-! ### Arbiters' candidates (R281, R282) -/

/-- The inputs of an arbiter: of an exchange output those of every exchange stop, the scheduler's and the steward's. -/
def arbInputs : ArbId → List Nat
  | .pc n => (List.range 3).map fun i => 3 * pcStop n + i
  | .slice k => (List.range 3).map fun i => 3 * sliceStop k + i
  | .exchange _ => ((List.range 16).flatMap fun r => (List.range 3).map fun i => 72 * r + i) ++ [3 * 384, 3 * 385]

/-- A flit at an input wants an arbiter's output. -/
def wantsOutput (a : ArbId) (input : Nat) (f : Flit) : Bool :=
  match a with
  | .exchange k => leavesRing (input / 3) f && f.vc != .vc0 && exchangeOutput (flitDst f) == k
  | .pc n => flitDst f == pcStop n && (f.op == .read || isWrite f)
  | .slice k => flitDst f == sliceStop k && (f.op == .read || isWrite f)

/-- A candidate: its input, VC, requester and stamp. -/
structure Contender where
  input : Nat
  vc : VC
  requester : Nat
  stamp : Nat
  deriving DecidableEq, Repr

/-- The candidate at the head of a VC of an input, if it wants an arbiter's output. -/
def State.contender (s : State) (a : ArbId) (input : Nat) (vc : VC) : Option Contender :=
  match s.buffer input vc with
  | b :: _ => if wantsOutput a input b.flit && b.flit.beat == 0 then some ⟨input, vc, flitSrc b.flit, b.since⟩ else none
  | [] => none

def State.contenders (s : State) (a : ArbId) : List Contender :=
  (arbInputs a).flatMap fun i => allVcs.filterMap fun vc => s.contender a i vc

/-- AGE and effective age of a candidate (R282). -/
def State.candAge (s : State) (c : Contender) : Nat := min 65535 (s.ringCycle - c.stamp)
def State.effectiveAge (s : State) (c : Contender) : Nat := s.candAge c + 512 * s.reg R.rq_PRIORITY c.requester

/-- The class of a VC at an arbiter: guaranteed 0, control 1, best-effort 2. -/
def vcClass : VC → Nat
  | .vc0 => 0 | .vc3 => 1 | _ => 2

def State.arbPtr (s : State) (a : ArbId) : Nat := tget (fun _ => 0) s.rings.pointers (arbKey a)

/-- The keys of R283, smaller first. -/
def State.candKeys (s : State) (a : ArbId) (c : Contender) : List Nat :=
  [vcClass c.vc, 200000 - s.effectiveAge c, (c.requester + 386 - s.arbPtr a) % 386, vcCode c.vc, c.input]

def keysBefore : List Nat → List Nat → Bool
  | x :: xs, y :: ys => decide (x < y) || (x == y && keysBefore xs ys)
  | _, _ => false

/-- The words a transfer asks of a target; of a write whose last beat has not come, the most that it can have.
[DEDUCED, log 84: unsafe] -/
def State.candWords (s : State) (c : Contender) : Nat :=
  let run := s.headAt c.input c.vc
  let fs := run.map Buffered.flit
  match fs.head? with
  | some f =>
    if f.op == .read then ((readRequests fs).map fun r => r.2.2.1).sum else if runWhole run then (s.writeWords fs).length else 16
  | none => 0

/-- The target can take all of a candidate's words (R281, R200, R306), and its stop accepts what is new (R290). -/
def State.roomFor (s : State) (a : ArbId) (c : Contender) : Bool :=
  match a with
  | .exchange _ => true
  | .slice k => s.reg R.stop_STATE (sliceStop k) == 0 && s.sliceRoom k (s.candWords c) c.vc
  | .pc n => s.reg R.stop_STATE (pcStop n) == 0 && s.pcRoom n (s.candWords c) c.vc

/-- A candidate holds an output from this ring cycle on; its first beat leaves in the next (R284). -/
def State.holdOutput (s : State) (a : ArbId) (c : Contender) : State :=
  { s with rings := { s.rings with holding := s.rings.holding ++ [⟨a, c.input, c.vc, 0, s.ringCycle⟩] } }

/-! ### Transfers at their targets (R267, R269, R310) -/

/-- An address belongs to a memory stop's target. -/
def State.targetHas (s : State) (g a : Nat) : Bool := s.targetStop a == g

/-- A slice's stop answers a request from another source than the steward for a word of the secure region (R310): counted once, with event
0x4009, and refused to its master with a STATUS.
[DESIGN CHOICE, log 79: safe, DEDUCED, log 80: unsafe] -/
def State.refuseSecure (s : State) (g src tag : Nat) (vc : VC) : State :=
  let s := (s.inc R.stop_ADDRESS_ERRORS g).took
  let s := s.raise 0x4009 (g + s.freeBits 3 * 512)
  if tag = 0 then s else s.sendStatus g src tag (answerVc vc) 1

/-- A word lies in the secure region (Table 10.1). -/
def secureAddr (a : Nat) : Bool := decide (scratchBase + secureOfs ≤ a) && decide (a < scratchBase + 0x4000000)

/-- The requests of a transfer at a memory target: words to read, to be answered, or words written, to be acknowledged (R267, R269). One that
leaves its row, its block or its target is answered ADDRESS_ERROR and writes nothing, and so is one that may not reach the secure region.
[DEDUCED, log 81: unsafe] -/
def State.acceptTransfer (s : State) (g : Nat) (fs : List Flit) : State × List PcReq :=
  match fs.head? with
  | none => (s, [])
  | some f =>
    let src := flitSrc f
    let barred (l : List Nat) : Bool := src != 385 && l.any secureAddr
    if f.op == .read then
      (readRequests fs).foldl (fun (x : State × List PcReq) r =>
        match (x.1.wordAddrs r.2.1 r.2.2.1).filter fun l => l.all fun a => x.1.targetHas g a with
        | none => (x.1.sendStatus g src r.1 (answerVc f.vc) 1, x.2)
        | some l =>
          if barred l then (x.1.refuseSecure g src r.1 f.vc, x.2)
          else
            let out : ReadOut := ⟨g, src, r.1, answerVc f.vc, l, []⟩
            let s : State := { x.1 with rings := { x.1.rings with reading := x.1.rings.reading ++ [out] } }
            (s, x.2 ++ l.map fun a => ⟨a, false, 0, 0, false, f.vc, src, r.1⟩)) (s, [])
    else
      let ws := s.writeWords fs
      let addrs := ws.map Prod.fst
      if s.wordAddrs (addrs.headD 0) addrs.length ≠ some addrs ∨ !addrs.all fun a => s.targetHas g a then
        (if f.tag = 0 then s else s.sendStatus g src f.tag (answerVc f.vc) 1, [])
      else if barred addrs then (s.refuseSecure g src f.tag f.vc, [])
      else (s, ws.map fun w => ⟨w.1, true, w.2.2.1, w.2.1, w.2.2.2, f.vc, src, f.tag⟩)

/-- The configuration port serves a request (R279, R349): its frames' words, read and written in the order of the request. -/
def State.configPort (s : State) (fs : List Flit) : State :=
  match fs.head? with
  | none => s
  | some f =>
    if f.op == .read then
      s.each (readRequests fs) fun s r =>
        let (s, ws) := (List.range r.2.2.1).foldl (fun (x : State × List (Option Nat)) i =>
          let (s, w) := x.1.configRead (r.2.1 + 32 * i)
          (s, x.2 ++ [w])) (s, [])
        s.sendResponse 385 (flitSrc f) r.1 (answerVc f.vc) ws
    else if isWrite f then
      let s := s.each (s.writeWords fs) fun s w => s.configWrite w.1 w.2.1 w.2.2.1 w.2.2.2
      s.sendMasterAck 385 (flitSrc f) f.tag .done
    else s

/-- The transfer that holds an output has gone through: words granted a PC's port await their entries (R204), words of a slice have theirs,
and what leaves by ports 16 and 17 is at the scheduler, the steward or the configuration port. -/
def State.finishHolder (s : State) (h : Holder) : State :=
  let fs := (s.headAt h.input h.vc).map Buffered.flit
  let s : State := { s with rings := { s.rings with holding := s.rings.holding.erase h } }
  let s := s.popFlits h.input h.vc fs.length
  let first := fs.head?
  match h.arb with
  | .exchange k =>
    let s := s.add R.xp_FLITS k fs.length
    let s := if localInput h.input then first.elim s fun f => s.startHeld (flitSrc f) f.tag else s
    if k = 17 ∧ (first.any fun f => f.op == .read || isWrite f) then s.configPort fs else s.toMaster (368 + k) fs
  | .slice k =>
    let (s, l) := s.acceptTransfer (sliceStop k) fs
    let s := (s.setSliceEntries k (s.sliceEntries k ++ l)).each (l.filter PcReq.write) fun s r => s.cancelPadWrite (padWord r)
    if l.any fun r => r.write then first.elim s fun f => s.sendMasterAck (sliceStop k) (flitSrc f) f.tag .done else s
  | .pc n =>
    let (s, l) := s.acceptTransfer (pcStop n) fs
    let s := s.setMoving n (s.movingTo n ++ l)
    match first with
    | some f =>
      if f.tag = 0 || !(l.any fun r => r.write) then s
      else { s with rings := { s.rings with storing := s.rings.storing ++ [⟨pcStop n, flitSrc f, f.tag, l.length⟩] } }
    | none => s

/-- The ring cycle in which the last beat of the transfer that holds an output leaves (R284, R280): beats, and the words moved to a PC's
entries, one in each cycle after the grant, and a beat that crosses the exchange 12 cycles after it came. -/
def State.lastBeat (s : State) (h : Holder) : Nat :=
  let run := s.headAt h.input h.vc
  match h.arb with
  | .exchange _ => max (h.since + run.length) ((run.getLast?).elim 0 fun b => b.since + 12)
  | .slice _ => h.since + run.length
  | .pc _ => h.since + s.candWords ⟨h.input, h.vc, 0, 0⟩

/-- A guaranteed transfer at the head of an input takes the port of its PC or slice in the cycle after its first flit came, unless a guaranteed or
control transfer has it (R285): a best-effort transfer whose last beat has gone by then is through, another is revoked.
[DEDUCED, log 225: unsafe] -/
def State.takePort (s : State) (input : Nat) : State :=
  match stopArbiter (input / 3) with
  | none => s
  | some a =>
    match s.contender a input .vc0 with
    | none => s
    | some c =>
      if !(decide (c.stamp < s.ringCycle) && (s.holder a).all Holder.bestEffort) then s
      else
        let through (h : Holder) : Bool := runWhole (s.headAt h.input h.vc) && decide (s.lastBeat h ≤ c.stamp)
        let s := match s.holder a with
          | some h => if through h then s.finishHolder h else s
          | none => s
        if s.roomFor a c then
          let s := s.revoke a
          { s with rings := { s.rings with holding := s.rings.holding ++ [⟨a, c.input, c.vc, 0, c.stamp⟩] } }
        else s

/-! ### What becomes of flits at the head of an input -/

/-- VC0 flits that came by an input and are crossing the exchange. -/
def State.crossingFrom (s : State) (input : Nat) : Nat :=
  ((s.rings.crossing.filter fun p => p.1 % 48 == 3 * (input / 72) + input % 3).map fun p => p.2.length).sum

/-- A VC0 flit enters the exchange: it is to be injected at stop 0 of its destination ring 12 cycles after the cycle in which it crossed its
last segment (R277, R280). An answer for a fenced ring comes from the port itself (R300), which stamps it (R265, R287). -/
def State.cross (s : State) (input : Nat) (b : Buffered) : State :=
  let k := 48 * (flitDst b.flit / 24) + 3 * (input / 72) + input % 3
  let f := if input % 3 = 2 then withCrc { b.flit with epoch := s.reg R.rsys_EPOCH % 2 } else b.flit
  { s with rings := { s.rings with
    crossing := tput (fun _ => []) k (tget (fun _ => []) s.rings.crossing k ++ [{ b with since := b.since + 12, flit := f, slipped := false }])
      s.rings.crossing } }

/-- What stands at the head of a VC of an input and waits for nothing is dealt with: a transfer that has come to its stop (R266, R290), one
that leaves the exchange for a fenced ring (R300), a VC0 flit that crosses the exchange (R280), of which one input has 12 at most under way.
None where the head waits.
[DEDUCED, log 251: unsafe] -/
def State.settleHead (s : State) (input : Nat) (vc : VC) : Option State :=
  let g := input / 3
  match s.buffer input vc with
  | [] => none
  | b :: _ =>
    let f := b.flit
    let dst := flitDst f
    let run := s.headAt input vc
    let fs := run.map Buffered.flit
    let gone := s.popFlits input vc run.length
    if dst = g ∧ g < 384 then
      match f.op with
      | .reserved _ => some ((s.popFlits input vc 1).inc R.stop_PARTIAL_DISCARDS g)
      | .response | .status => if runWhole run then some (gone.toMaster g fs) else none
      | .control =>
        if !runWhole run then none
        else match s.reg R.stop_STATE g with
          | 0 => some gone
          | 3 => some (gone.cannotAnswer g fs 3)
          | _ => some (gone.cannotAnswer g fs 2)
      | _ =>
        if s.reg R.stop_STATE g = 0 then (if (stopArbiter g).isSome || !runWhole run then none else some gone)
        else if s.rings.holding.any (fun h => h.input == input && h.vc == vc) || !runWhole run then none
        else some (gone.cannotAnswer g fs (if s.reg R.stop_STATE g = 3 then 3 else 2))
    else if !leavesRing g f then none
    else if dst < 384 ∧ !s.ringPresent (dst / 24) then
      if !runWhole run then none
      else if f.op == .response || f.op == .status then some gone
      else some (gone.cannotAnswer dst fs 3)
    else if vc ≠ .vc0 then none
    else if dst < 384 then (if s.crossingFrom input < 12 then some ((s.popFlits input vc 1).cross input b) else none)
    else some (s.popFlits input vc 1)

/-- The flits at the head of a VC of an input are dealt with, up to `n` times. -/
def State.settleVc (input : Nat) (vc : VC) : Nat → State → State
  | 0, s => s
  | n + 1, s => match s.settleHead input vc with | some s => State.settleVc input vc n s | none => s

/-- The flits of the scheduler and the steward go on to the input of their exchange port while its buffer has room for them (R270, R279). -/
def State.fillPort (s : State) (input : Nat) : State :=
  if input < 1152 then s
  else s.each allVcs fun s vc =>
    let held := s.buffer input vc
    let queue := s.buffer (input + 2) vc
    let n := 8 - held.length
    if queue.isEmpty then s
    else (s.setBuffer input vc (held ++ (queue.take n).map fun b => { b with since := s.ringCycle })).setBuffer (input + 2) vc (queue.drop n)

/-- Whatever waits for nothing at the head of an input's VCs is dealt with, and a guaranteed transfer takes its port. -/
def State.settleInput (s : State) (input : Nat) : State :=
  let s := s.fillPort input
  (s.each allVcs fun s vc => State.settleVc input vc (s.buffer input vc).length s).takePort input

/-! ### Sending (R270 to R273, R338) -/

/-- The sources of a stop for its outgoing segments: inputs 0 and 1 in transit, 2 what it injects; at stop 0 what holds the exchange output
toward the ring, and 3 + 3r + i the VC0 flits that cross from input i of ring r. -/
def segmentSources (g : Nat) : List Nat := if g % 24 = 0 then List.range 51 else List.range 3

/-- The flit a source has next on a VC, which may leave in the present ring cycle: one in transit leaves in the cycle after it came (R273,
R274), the beats of a transfer that was granted an exchange output from the cycle after the grant on (R284) and 12 cycles after they came
(R280), a VC0 flit that crosses the exchange in the cycle that R277 gives it. -/
def State.sourceHead (s : State) (g src : Nat) (vc : VC) : Option Buffered :=
  if src < 2 then
    (s.buffer (inputOf g src) vc).head?.filter fun b => flitDst b.flit != g && !leavesRing g b.flit && decide (b.since < s.ringCycle)
  else if g % 24 ≠ 0 then (s.buffer (inputOf g 2) vc).head?.filter fun b => flitDst b.flit != g
  else if src = 2 then
    match s.holder (.exchange (g / 24)) with
    | some h => if h.vc = vc ∧ h.since < s.ringCycle then ((s.headAt h.input h.vc)[h.sent]?).filter fun b => decide (b.since + 12 ≤ s.ringCycle) else none
    | none => none
  else if vc ≠ .vc0 then none
  else (tget (fun _ => []) s.rings.crossing (48 * (g / 24) + (src - 3))).head?.filter fun b => decide (b.since ≤ s.ringCycle)

/-- A source's flits are injected into the rings at this stop (R287, R289): its masters' and targets', at the exchange the scheduler's and
the steward's. -/
def State.injects (s : State) (g src : Nat) : Bool :=
  src == 2 && (g % 24 != 0 || (s.holder (.exchange (g / 24))).any fun h => localInput h.input)

/-- The flit a source has next for a direction. -/
def State.bound (s : State) (g dir src : Nat) (vc : VC) : Option Buffered :=
  (s.sourceHead g src vc).filter fun b => s.flitDirection g b.flit == dir

/-- No other transfer is being sent on the VC (R266); one whose source starts anew has ended.
[DEDUCED, log 281: unsafe] -/
def State.linkFree (s : State) (g dir src : Nat) (vc : VC) : Bool :=
  match s.busyAt g dir vc with
  | 0 => true
  | n + 1 => n == src || (s.sourceHead g n vc).any fun b => b.flit.beat == 0

/-- The flit a source may send in a direction (R270, R271, R289, R266). -/
def State.sendable (s : State) (g dir src : Nat) (vc : VC) : Option Buffered :=
  (s.bound g dir src vc).filter fun b =>
    let hold := s.injects g src && s.on R.rsys_DRAINING && s.oldDirection g (flitDst b.flit) != s.direction g (flitDst b.flit)
    decide (0 < s.credit g dir vc) && !(isWrite b.flit && s.ringSlot == 0) && s.linkFree g dir src vc && !hold

/-- QUOTA of port `q` in a direction (R338): the slots charged on the segment that leaves its stop. -/
def State.portQuota (s : State) (q dir : Nat) : Nat :=
  let g := fabricStop (q / 4)
  let ms := (s.admittedSlots.flatMap s.models).filter fun m => m.rec_.kind == 0 && m.rec_.operator == 96 + q
  totalOn ms (.segment (g / 24 + 16 * dir + 256 * segmentOut g dir))

/-- A port has quota left in this wrap. -/
def State.quotaLeft (s : State) (q dir : Nat) : Bool :=
  decide (512 ≤ q) ||
    (match tget (fun _ => (0, 0)) s.rings.quota (2 * q + dir) with
     | (w, n) => decide ((if w = s.ringCycle / 1024 then n else 0) < s.portQuota q dir))

/-- An entry of a stop's table lets a VC0 flit of a source in (R275, R277). -/
def entryAdmits (e g src : Nat) (b : Buffered) : Bool :=
  e % 2 == 1 && decide ((ringPath (g % 24) (ringTarget g (flitDst b.flit))).2.length ≤ bits e 5 1) && (g % 24 != 0 || bits e 10 6 == (src - 3) / 3)

/-- A flit that crosses the exchange was injected before the last swap of the tables, and they are still held as the shadow tables (R278): it
left its stop as many cycles before its last segment as it crossed segments before that one. -/
def State.underOldTables (s : State) (g src : Nat) (b : Buffered) : Bool :=
  let hops := if flitSrc b.flit < 384 then (ringPath (flitSrc b.flit % 24) 0).2.length else 0
  g % 24 == 0 && decide (3 ≤ src) && s.rings.swapAt.isNone && decide (b.since < s.rings.swappedAt + 12 + (hops - 1))

/-- A VC0 flit of source 2 or of the exchange goes under the entry of this slot (R272, R275, R277), one injected under the old tables under
theirs (R278), and within its port's quota (R338). -/
def State.reservedNow (s : State) (g dir src : Nat) (b : Buffered) : Bool :=
  (entryAdmits (slotEntry s.rings.active g dir s.ringSlot) g src b ||
    (s.underOldTables g src b && entryAdmits (slotEntry s.rings.shadow g dir s.ringSlot) g src b)) && s.quotaLeft b.port dir

/-- The VC0 candidate of a source for a rank of R272: 1 in transit, 2 reserved, 3 under detour. -/
def State.vc0Rank (s : State) (g src : Nat) (dir : Nat) (b : Buffered) : Option Nat :=
  if s.detourFlit g b.flit then some 3 else if src < 2 then some 1 else if s.reservedNow g dir src b then some 2 else none

/-- When a flit that a source may send came to the stop: one that comes out of the exchange, 12 cycles after it came to the exchange or with the
grant of the output, whichever is later (R272, R277, R280, R284). -/
def State.cameAt (s : State) (g src : Nat) (b : Buffered) : Nat :=
  if src < 2 ∨ g % 24 ≠ 0 then b.since
  else if src = 2 then max (b.since + 11) ((s.holder (.exchange (g / 24))).elim 0 Holder.since)
  else b.since - 1

/-- Candidates of some VCs, earliest first, in transit before local when equal (R272). -/
def State.earliest (s : State) (g dir : Nat) (vcs : List VC) : Option (Nat × VC) :=
  let l := vcs.flatMap fun vc => [0, 1, 2].filterMap fun i => (s.sendable g dir i vc).map fun b => (s.cameAt g i b, i, vc)
  (l.foldl (fun best x => match best with
    | none => some x
    | some y => if x.1 < y.1 ∨ (x.1 = y.1 ∧ y.2.1 = 2 ∧ x.2.1 ≠ 2) then some x else best) none).map Prod.snd

/-- The VC0 candidate of a rank that came first. -/
def State.vc0Pick (s : State) (g dir rank : Nat) : Option Nat :=
  let l := (segmentSources g).filterMap fun i => ((s.sendable g dir i .vc0).filter fun b => s.vc0Rank g i dir b == some rank).map fun b => (s.cameAt g i b, i)
  (l.foldl (fun best x => match best with
    | none => some x
    | some y => if x.1 < y.1 then some x else best) none).map Prod.snd

/-- Free slots in which the local flit of a VC has been passed over. -/
def State.passedOver (s : State) (g dir : Nat) (vc : VC) : Nat := tget (fun _ => 0) s.rings.passed ((2 * g + dir) * 4 + vcCode vc)

/-- The candidate of R272 for a segment direction: source and VC. -/
def State.pick (s : State) (g dir : Nat) : Option (Nat × VC) :=
  match [1, 2, 3].findSome? fun n => s.vc0Pick g dir n with
  | some i => some (i, .vc0)
  | none =>
    match s.earliest g dir [.vc3] with
    | some x => some x
    | none =>
      match [VC.vc1, VC.vc2].find? fun vc => decide (64 ≤ s.passedOver g dir vc) && (s.sendable g dir 2 vc).isSome with
      | some vc => some (2, vc)
      | none => s.earliest g dir [.vc1, .vc2]

/-- The VC0 flits of a source that have to leave in this cycle in a direction (R273): those in transit that came before it, of the others
the first whose reserved slot has come. -/
def State.dueNow (s : State) (g dir src : Nat) : List Buffered :=
  if src < 2 then
    (s.buffer (inputOf g src) .vc0).takeWhile fun b =>
      flitDst b.flit != g && !leavesRing g b.flit && decide (b.since < s.ringCycle) && s.flitDirection g b.flit == dir
  else ((s.bound g dir src .vc0).filter fun b => s.reservedNow g dir src b).toList

/-- The first `n` flits of a source have had their wait counted as a slip. -/
def State.markSlipped (s : State) (g src n : Nat) : State :=
  let mark (l : List Buffered) : List Buffered := ((l.take n).map fun b => { b with slipped := true }) ++ l.drop n
  if src < 2 ∨ g % 24 ≠ 0 then s.setBuffer (inputOf g src) .vc0 (mark (s.buffer (inputOf g src) .vc0))
  else
    let k := 48 * (g / 24) + (src - 3)
    { s with rings := { s.rings with crossing := tput (fun _ => []) k (mark (tget (fun _ => []) s.rings.crossing k)) s.rings.crossing } }

/-- The VC0 flits that had to leave in this cycle and did not, for want of a credit or for another VC0 flit, which holds the VC until its
transfer has gone (R266): slips, each flit once at a stop (R273).
[DEDUCED, log 281: unsafe] -/
def State.slip (s : State) (g dir : Nat) (sent : Option (Nat × VC)) : State :=
  let blocked := s.credit g dir .vc0 == 0 || sent.any fun x => x.2 == .vc0
  s.each (segmentSources g) fun s i =>
    let due := if blocked || !s.linkFree g dir i .vc0 then s.dueNow g dir i else []
    let late := (if sent == some (i, .vc0) then due.drop 1 else due).filter fun b => !b.slipped
    if late.isEmpty then s
    else s.each late (fun s _ => (s.inc R.ring_SLIPS (g / 24)).breach 0x4004 (g + dir * 512) fun k =>
      s.rings.active.any fun r => r.owners.contains k && r.through g) |>.markSlipped g i due.length

/-- Local best-effort flits that could have taken a free slot and were passed over are counted by VC; one that is sent ends its count (R272). -/
def State.countPassed (s : State) (g dir : Nat) (sent : Nat × VC) : State :=
  if sent.2 ≠ .vc1 ∧ sent.2 ≠ .vc2 then s
  else s.each [VC.vc1, VC.vc2] fun s vc =>
    let n := if sent = (2, vc) ∨ (s.bound g dir 2 vc).isNone then 0
      else if (s.sendable g dir 2 vc).isSome then s.passedOver g dir vc + 1 else s.passedOver g dir vc
    { s with rings := { s.rings with passed := tput (fun _ => 0) ((2 * g + dir) * 4 + vcCode vc) n s.rings.passed } }

/-- The transfers a buffer holds. -/
def transfersIn : List Buffered → List (List Buffered)
  | [] => []
  | b :: t => if b.flit.last then [b] :: transfersIn t else match transfersIn t with
    | r :: l => (b :: r) :: l
    | [] => [[b]]

/-- The injected VC0 transfers of a stop for a direction: one that has begun is sent on first (R266), else the first whose port has quota left
(R338); those that wait hold up none of another direction. -/
def State.orderLocal (s : State) (g dir : Nat) : State :=
  let ts := transfersIn (s.buffer (inputOf g 2) .vc0)
  let ours := ts.filter fun t => t.head?.any fun b => s.flitDirection g b.flit == dir
  let next := (ours.find? fun t => t.head?.any fun b => b.flit.beat != 0) <|> ours.find? fun t => t.head?.any fun b => s.quotaLeft b.port dir
  match next with
  | some t => if ts.head? == some t then s else s.setBuffer (inputOf g 2) .vc0 (t ++ (ts.erase t).flatten)
  | none => s

/-- An injected flit is stamped with the current epoch (R287), counted against its port's quota (R338), and starts its transfer's time
limit. -/
def State.stampLocal (s : State) (dir : Nat) (b : Buffered) : State × Flit :=
  let f := withCrc { b.flit with epoch := s.reg R.rsys_EPOCH % 2 }
  let k := 2 * b.port + dir
  let w := s.ringCycle / 1024
  let used := match tget (fun _ => (0, 0)) s.rings.quota k with | (v, n) => if v = w then n else 0
  let s : State := if b.port < 512 ∧ f.vc = .vc0 then
      { s with rings := { s.rings with quota := tput (fun _ => (0, 0)) k (w, used + 1) s.rings.quota } } else s
  (s.startHeld (flitSrc f) f.tag, f)

/-- Flits of a VC sent in the last 24 cycles are remembered (R271). -/
def State.noteSent (s : State) (g dir : Nat) (vc : VC) : State :=
  let k := (2 * g + dir) * 4 + vcCode vc
  let l := s.ringCycle :: (tget (fun _ => []) s.rings.sentAt k).filter fun c => decide (s.ringCycle < c + 24)
  { s with rings := { s.rings with sentAt := tput (fun _ => []) k l s.rings.sentAt } }

/-- The beat of the transfer that holds exchange output `k` leaves; with the last one the output is free (R284). -/
def State.sentByHolder (s : State) (k : Nat) (last : Bool) : State :=
  match s.holder (.exchange k) with
  | none => s
  | some h =>
    if last then
      let s : State := { s with rings := { s.rings with holding := s.rings.holding.erase h } }
      (s.popFlits h.input h.vc (h.sent + 1)).settleInput h.input
    else
      { s with rings := { s.rings with holding := s.rings.holding.map fun x => if x == h then { x with sent := x.sent + 1 } else x } }

/-- A flit has been taken from its source; a VC0 flit that leaves the exchange revokes the best-effort transfer that holds its output (R285). -/
def State.takeSource (s : State) (g src : Nat) (vc : VC) (f : Flit) : State :=
  let k := g / 24
  if src < 2 ∨ g % 24 ≠ 0 then (s.popFlits (inputOf g src) vc 1).settleInput (inputOf g src)
  else if src = 2 then (s.inc R.xp_FLITS k).sentByHolder k f.last
  else
    let c := 48 * k + (src - 3)
    let s : State := { s with rings := { s.rings with
      crossing := tput (fun _ => []) c (tget (fun _ => []) s.rings.crossing c).tail s.rings.crossing,
      vc0At := tput (fun _ => 0) k (if f.last then 0 else s.ringCycle + 1) s.rings.vc0At } }
    ((s.inc R.xp_FLITS k).revoke (.exchange k)).settleInput (72 * ((src - 3) / 3) + (src - 3) % 3)

/-! ### Side words (Table 09.5) -/

/-- The free entries that a resynchronisation cycle reports for a VC of an input; withheld credits are none (R200, R271). -/
def State.freeEntries (s : State) (g input : Nat) (vc : VC) : Nat :=
  8 - (s.buffer input vc).length - if s.withholds g vc then s.owed input vc else 0

/-- The credits of an input's VC that a cycle returns: all of them when it resynchronises, else one (R270, R271). -/
def State.giveCredit (s : State) (g input : Nat) (vc : VC) (all : Bool) : State × Bool :=
  let n := s.owed input vc
  if n = 0 ∨ s.withholds g vc then (s, false) else (s.setOwed input vc (if all then 0 else n - 1), !all)

/-- The side word that goes with a cycle's flit, or without one (Table 09.5, R269 to R271, R285). -/
def State.sideWord (s : State) (g dir : Nat) (f : Option Flit) : State × Nat :=
  let input := inputOf g (1 - dir)
  let resync := s.ringSlot == 0
  let addr := match f with
    | some f => if isWrite f then f.waddr else none
    | none => none
  let low := if resync then (allVcs.map fun vc => s.freeEntries g input vc * 16 ^ vcCode vc).sum
    else addr.elim 0 fun a => a / 32 % 2 ^ 35 + 2 ^ 35
  let s := s.countHold g
  let (s, credits) := allVcs.foldl (fun (x : State × Nat) vc =>
    let (s, given) := x.1.giveCredit g input vc resync
    (s, x.2 + b2n given * 2 ^ (56 + vcCode vc))) (s, 0)
  let (s, ack) := match s.rings.acks.find? fun a => a.target == g && a.master != g && s.ackDirection g a.master == dir with
    | some a => (({ s with rings := { s.rings with acks := s.rings.acks.erase a } } : State),
        2 ^ 36 + ringField a.master * 2 ^ 37 + stopField a.master * 2 ^ 41 + a.tag % 256 * 2 ^ 46 + ackCode a.status * 2 ^ 54)
    | none => (s, 0)
  let revoke := (tget (fun _ => none) s.rings.revokes (2 * g + dir)).elim 0 fun vc => 2 ^ 60 + vcCode vc * 2 ^ 61
  let w := low + ack + credits + revoke + b2n resync * 2 ^ 63
  let w := w + crc8From0 64 w * 2 ^ 64
  ({ s with rings := { s.rings with revokes := tput (fun _ => none) (2 * g + dir) none s.rings.revokes,
                                    side := tput (fun _ => 0) (2 * g + dir) w s.rings.side } }, w)

/-- Stop `g` fills the next slot of a segment direction (R262, R272): at most one flit in a ring cycle, with its side word.
[DEDUCED, log 77: unsafe] -/
def opFlitSend (g dir : Nat) (s : State) : State :=
  let k := g / 24
  let key := 2 * g + dir
  if s.detourSegment k == segmentOut g dir || !s.ringPresent k then s
  else
    let s := s.waitCycle (max s.ringCycle (tget (fun _ => 0) s.rings.sentLast key))
    let s := (s.each [0, 1, 2] fun s i => s.settleInput (inputOf g i)).orderLocal g dir
    let sent := s.pick g dir
    let s := s.slip g dir sent
    let s : State := { s with rings := { s.rings with sentLast := tput (fun _ => 0) key (s.ringCycle + 1) s.rings.sentLast } }
    match sent.bind fun x => (s.sendable g dir x.1 x.2).map fun b => (x, b) with
    | none => (s.sideWord g dir none).1
    | some ((i, vc), b) =>
      let s := s.countPassed g dir (i, vc)
      let (s, f) := if s.injects g i then s.stampLocal dir b else (s, b.flit)
      let s := s.setBusy g dir vc (if f.last then 0 else i + 1)
      let s := (s.takeSource g i vc f).setCredit g dir vc (s.credit g dir vc - 1)
      let s := (s.noteSent g dir vc).inc R.ring_FLITS k
      let s : State := { s with rings := { s.rings with
        out := tput (fun _ => []) key (tget (fun _ => []) s.rings.out key ++ [(s.ringCycle, f)]) s.rings.out } }
      (s.sideWord g dir (some f)).1

/-! ### Receiving (R294 to R296) -/

/-- A segment direction is faulty (R298): the first fault of a ring is followed by DETOUR_ENTER, a second segment fences the ring. -/
def State.segmentFaulty (s : State) (k seg : Nat) : State :=
  if !s.ringPresent k then s
  else
    let old := s.reg R.ring_FAULT_SEGMENT k
    if old = 0xFF then s.setReg R.ring_FAULT_SEGMENT k seg else if old = seg then s else s.ringFence k 0

/-- A header CRC error at an input (R294, R298).
[DEDUCED, log 252: unsafe] -/
def State.headerError (s : State) (g dir : Nat) (vc : VC) : State :=
  let k := g / 24
  let seg := segmentIn g dir
  let s := (s.returnCredit (inputOf g dir) vc 1).inc R.ring_HDR_CRC k
  let last := tget (fun _ => 0) s.rings.crcRaised k
  let s : State := if last = 0 ∨ last + 1000000 ≤ s.mono + 1 then
      ({ s with rings := { s.rings with crcRaised := tput (fun _ => 0) k (s.mono + 1) s.rings.crcRaised } }).raise 0x4001
        (k + seg * 16 + dir * 512)
    else s
  let key := (24 * k + seg) * 2 + dir
  let l := s.mono :: (tget (fun _ => []) s.rings.segErrors key).filter fun t => decide (s.mono < t + 1000000)
  let s : State := { s with rings := { s.rings with segErrors := tput (fun _ => []) key l s.rings.segErrors } }
  if s.reg R.ring_SEG_CRC_LIMIT k < l.length then s.segmentFaulty k seg else s

/-- One payload word checked (R295): the word to forward, and whether it is poison. -/
def State.checkPayload (s : State) (g : Nat) (w : CodeWord) : State × CodeWord × Bool :=
  match decodeWord w none with
  | .clean _ => (s, w, false)
  | .corrected d _ _ => (s.inc R.ring_PAYLOAD_CORRECTED (g / 24), encodeWord d, false)
  | .poison => (s, poisonWord, true)
  | .uncorrectable => ((s.inc R.ring_PAYLOAD_UNCORRECTABLE (g / 24)).raise 0x4002 g, poisonWord, true)

/-- Both payload words checked; a changed POISON bit makes a new CRC. -/
def State.checkFlit (s : State) (g : Nat) (f : Flit) : State × Flit :=
  let (s, w0, p0) := s.checkPayload g f.word0
  let (s, w1, p1) := s.checkPayload g f.word1
  (s, withCrc { f with word0 := w0, word1 := w1, poison0 := f.poison0 || p0, poison1 := f.poison1 || p1 })

/-- A flit is not the next of the transfer that the input holds in part (R296). -/
def breaksTail (l : List Buffered) (f : Flit) : Bool :=
  (openTail l).getLast?.any fun b => f.beat != b.flit.beat + 1 || f.tag != b.flit.tag || flitSrc f != flitSrc b.flit

/-- A beat without those before it, at an input that keeps the transfer whole until it has come: one for the stop itself, or one that crosses
the exchange by an arbiter. -/
def orphanBeat (g : Nat) (l : List Buffered) (f : Flit) : Bool :=
  (openTail l).isEmpty && f.beat != 0 &&
    ((flitDst f == g && !(match f.op with | .reserved _ => true | _ => false)) || (leavesRing g f && f.vc != .vc0))

/-- A checked flit that came in ring cycle `c` joins its input's buffer (R270, R296). A beat without those before it is dropped: the discard of
its transfer has been counted, where there was one.
[DEDUCED, log 253: unsafe] -/
def State.arrive (s : State) (g dir c : Nat) (f : Flit) : State :=
  let input := inputOf g dir
  let s := if breaksTail (s.buffer input f.vc) f then s.discardTail input f.vc true else s
  if orphanBeat g (s.buffer input f.vc) f then s.returnCredit input f.vc 1 else (s.pushFlit input 512 c f).settleInput input

/-- An input of stop `g` receives a flit (R294, R295): checked, then kept in its buffer, which the credits keep from overflowing (R270), to be
forwarded, sent into the exchange or delivered. It came in the cycle in which it was sent onto the segment (R274), and the address of a write
is the one that the side word of that cycle brought. -/
def opFlitReceive (g dir : Nat) (f : Flit) (s : State) : State :=
  let s := s.silent
  let n := 2 * neighbour g dir + dir
  let key := 2 * g + dir
  let addr := tget (fun _ => none) s.rings.waddr key
  let flying := tget (fun _ => []) s.rings.out n
  let c := flying.head?.elim s.ringCycle Prod.fst
  let s : State := { s with rings := { s.rings with out := tput (fun _ => []) n flying.tail s.rings.out,
                                                    waddr := tput (fun _ => none) key none s.rings.waddr } }
  State.takeArrived <|
    if !s.ringPresent (g / 24) || s.detourSegment (g / 24) == segmentIn g dir || decide (8 ≤ (s.buffer (inputOf g dir) f.vc).length) then s
    else if f.crc ≠ flitCrc f ∨ (isWrite f ∧ addr.isNone) then s.headerError g dir f.vc
    else
      let (s, f) := s.checkFlit g { f with waddr := if isWrite f then addr else none }
      s.arrive g dir c f

/-- A side word at stop `g` from direction `dir` (R269, R271, Table 09.5); a bad one is ignored as a whole (R294). -/
def opSideWordReceive (g dir side : Nat) (s : State) : State :=
  let s := s.silent
  let back := 1 - dir
  let s : State := { s with rings := { s.rings with waddr := tput (fun _ => none) (2 * g + dir) none s.rings.waddr } }
  if side / 2 ^ 64 % 256 ≠ crc8From0 64 (side % 2 ^ 64) then s.inc R.ring_SIDE_CRC (g / 24)
  else
    let s : State := if side.testBit 63 then
        s.each allVcs fun s vc =>
          let i := vcCode vc
          let sent := ((tget (fun _ => []) s.rings.sentAt ((2 * g + back) * 4 + i)).filter fun c => decide (s.ringCycle < c + 24)).length
          s.setCredit g back vc (bits side (4 * i + 3) (4 * i) - sent)
      else if side.testBit 35 then
        { s with rings := { s.rings with waddr := tput (fun _ => none) (2 * g + dir) (some (side % 2 ^ 35 * 32)) s.rings.waddr } }
      else s
    let s := s.each allVcs fun s vc => if side.testBit (56 + vcCode vc) then s.setCredit g back vc (min 8 (s.credit g back vc + 1)) else s
    let s : State := if side.testBit 36 then
        let m := stopIdentity (bits side 40 37) (bits side 45 41)
        let st := nth [AckStatus.done, .asleep, .dead, .discarded] (bits side 55 54) .done
        if s.ackPlace g m = m then s.ackReceived m (bits side 53 46) st else s.sendMasterAck g m (bits side 53 46) st
      else s
    if side.testBit 60 then
      let vc := vcOf (bits side 62 61)
      (s.discardTail (inputOf g dir) vc false).stopSending g dir vc
    else s

/-- 2 µs pass without the next beat (R296): what the input holds of the transfer is discarded, and what it sent on has no end.
[DEDUCED, log 224: unsafe] -/
def opPartialTransferTimeout (g dir : Nat) (vc : VC) (s : State) : State :=
  let input := inputOf g dir
  match (openTail (s.buffer input vc)).getLast? with
  | none => s.each [0, 1] fun s d => if s.busyAt g d vc = dir + 1 then s.setBusy g d vc 0 else s
  | some b => ((s.waitCycle (b.since + 4000)).discardTail input vc true).settleInput input

/-- The words of a response that have come to stop `g` so far; their partial transfer goes. -/
def State.takeResponse (s : State) (g tag : Nat) : State × List (Nat × Bool) :=
  [0, 1, 2].foldl (fun (x : State × List (Nat × Bool)) i =>
    allVcs.foldl (fun (x : State × List (Nat × Bool)) vc =>
      let tail := openTail (x.1.buffer (inputOf g i) vc)
      if tail.any fun b => b.flit.tag == tag && b.flit.op == .response && flitDst b.flit == g then
        (x.1.discardTail (inputOf g i) vc false, x.2 ++ responseWords (tail.map Buffered.flit))
      else x) x) (s, [])

/-- GUAR_TIMEOUT or BE_TIMEOUT of a held transfer (R297); VC3 has none.
[DEDUCED, log 78: unsafe, DEDUCED, log 82: unsafe] -/
def opTransferTimeout (g tag : Nat) (s : State) : State :=
  let s := s.silent
  match s.rings.held.find? fun h => h.stop == g && h.tag == tag with
  | none => s
  | some h =>
    match h.since with
    | none => s
    | some t =>
      if h.vc = .vc3 then s
      else
        let s := s.waitUntil (t + (if h.vc = .vc0 then s.reg R.rsys_GUAR_TIMEOUT else s.reg R.rsys_BE_TIMEOUT) * 1000)
        if h.write then s.writeLost h true
        else
          let (s, ws) := s.takeResponse g tag
          (s.countLost h).readDone h (.words (h.words ws))

/-! ### Arbitration (R281 to R286) -/

/-- The grant of a decision (R283): the first candidate whose target can take it holds the output, and PTR advances. -/
def State.arbGrant (s : State) (a : ArbId) : State :=
  match (s.contenders a).filter fun c => s.roomFor a c with
  | [] => s
  | x :: t =>
    let c := t.foldl (fun b y => if keysBefore (s.candKeys a y) (s.candKeys a b) then y else b) x
    let s : State := { s with rings := { s.rings with
      pointers := tput (fun _ => 0) (arbKey a) ((s.arbPtr a + 1) % 386) s.rings.pointers } }
    (s.holdOutput a c).inc R.arb_DECISIONS

/-- A VC0 beat that is not the last of its transfer holds an exchange output toward a ring in this cycle: it has left in it, or it will (R284,
R285). -/
def State.vc0Holds (s : State) : ArbId → Bool
  | .exchange k =>
    decide (k < 16) && (tget (fun _ => 0) s.rings.vc0At k == s.ringCycle + 1 || [0, 1].any fun d =>
      decide (tget (fun _ => 0) s.rings.sentLast (48 * k + d) ≤ s.ringCycle) && match s.pick (24 * k) d with
        | some (i, .vc0) => decide (3 ≤ i) && (s.sendable (24 * k) d i .vc0).any fun b => !b.flit.last
        | _ => false)
  | _ => false

/-- A decision of an arbiter (R283, R284): none while the transfer that holds the output is incomplete, or while a VC0 beat has it; toward a ring it holds it until
FLIT_SEND has sent its last beat, at another output time passes until that beat's cycle. The words of a transfer granted a PC port reach the
controller by PC_REQUEST_ACCEPT. -/
def opArbiterDecision (a : ArbId) (s : State) : State :=
  let s := s.silent
  let s := s.each (arbInputs a) State.settleInput
  match s.holder a with
  | none => if s.vc0Holds a then s else s.arbGrant a
  | some h =>
    let toRing := match a with | .exchange k => decide (k < 16) | _ => false
    if toRing || !runWhole (s.headAt h.input h.vc) then s else (((s.waitCycle (s.lastBeat h)).finishHolder h).settleInput h.input).arbGrant a

/-- The limit and the kind of an arbiter (Tables 09.15 and 09.16). -/
def State.starveLimit (s : State) : ArbId → Nat × Nat
  | .exchange _ => (s.reg R.arb_STARVE_X, 0)
  | .slice _ => (s.reg R.arb_STARVE_S, 1)
  | .pc _ => (s.reg R.arb_STARVE_P, 2)

/-- The oldest best-effort candidate of an arbiter reaches STARVE (R286). -/
def opStarvation (a : ArbId) (s : State) : State :=
  let waiting (c : Contender) : Bool := vcClass c.vc == 2 && !s.rings.starved.contains (c.input, c.vc, c.stamp) &&
    !(s.rings.holding.any fun h => h.input == c.input && h.vc == c.vc)
  match (s.contenders a).filter waiting with
  | [] => s
  | x :: t =>
    let c := t.foldl (fun b y => if y.stamp < b.stamp then y else b) x
    let (limit, kind) := s.starveLimit a
    let s := s.waitCycle (c.stamp + limit)
    let s : State := { s with rings := { s.rings with starved := s.rings.starved ++ [(c.input, c.vc, c.stamp)] } }
    (((s.setReg R.rq_STARVED c.requester 1).inc R.rq_STARVE_COUNT c.requester).inc R.arb_STARVE_EVENTS).raise 0x4101
      (c.requester + kind * 2 ^ 12)

/-! ### Epochs (R287 to R289) -/

/-- A buffer of flits that have been injected. -/
def injectedAt (key : Nat) : Bool := !localInput (key / 4)

/-- The flits of the old epoch in buffers (those injected), the exchange and on segments. -/
def State.oldFlits (s : State) : Nat :=
  let old := s.oldEpoch
  let r := s.rings
  ((r.bufs.filter fun b => injectedAt b.1).map fun b => b.2.countP fun x => old x.flit).sum +
  (r.crossing.map fun b => b.2.countP fun x => old x.flit).sum + (r.out.map fun p => p.2.countP fun x => old x.2).sum

/-- The drain finishes: DRAIN_MAX, event 0x4005. -/
def State.endDrain (s : State) : State :=
  ((s.setReg R.rsys_DRAINING 0 0).peak R.rsys_DRAIN_MAX 0 (s.mono - s.rings.drainStart)).raise 0x4005 (s.reg R.rsys_EPOCH % 65536)

/-- No flit of the old epoch remains (R289). -/
def opEpochDrainEnd (t : Nat) (s : State) : State :=
  let s := s.advanceTo t
  if s.on R.rsys_DRAINING && s.oldFlits == 0 then s.endDrain else s

/-- Every old flit leaves the device, and the credits of those at inputs and on segments go back (R270); a transfer that loses one holds no
output. -/
def State.dropOld (s : State) : State :=
  let old := s.oldEpoch
  let r := s.rings
  let keep (b : Nat × List Buffered) : Nat × List Buffered := (b.1, b.2.filter fun x => !old x.flit)
  let loses (h : Holder) : Bool := injectedAt (4 * h.input) && (s.buffer h.input h.vc).any fun x => old x.flit
  let buffered := (r.bufs.filter fun b => injectedAt b.1).map fun b => (b.1, b.2.countP fun x => old x.flit)
  let flying := r.out.flatMap fun p => (p.2.filter fun x => old x.2).map fun x =>
    (4 * inputOf (neighbour (p.1 / 2) (1 - p.1 % 2)) (p.1 % 2) + vcCode x.2.vc, 1)
  let s := s.each (buffered ++ flying) fun s p => s.returnCredit (p.1 / 4) (vcOf (p.1 % 4)) p.2
  { s with rings := { s.rings with
    bufs := (r.bufs.map fun b => if injectedAt b.1 then keep b else b).filter fun b => !b.2.isEmpty,
    crossing := (r.crossing.map keep).filter fun b => !b.2.isEmpty, holding := r.holding.filter fun h => !loses h,
    out := (r.out.map fun p => (p.1, p.2.filter fun x => !old x.2)).filter fun p => !p.2.isEmpty } }

/-- 2 µs after the commit the remaining flits of the old epoch are discarded (R289). -/
def opEpochDrainBound (t : Nat) (s : State) : State :=
  let s := s.advanceTo t
  if s.on R.rsys_DRAINING && decide (s.rings.drainStart + 2000 ≤ s.mono) then
    let n := s.oldFlits
    let s := if n = 0 then s else (s.dropOld.add R.rsys_DRAIN_DISCARDS 0 n).breach 0x4006 (min n 0xFFFF) fun _ => true
    s.endDrain
  else s

/-! ### Segment faults (R298, R299) -/

/-- A segment direction fails (R298), or with direction 2 the ring's exchange port, which fences the ring (R300).
[DEDUCED, log 83: unsafe, DESIGN CHOICE, log 254: unsafe] -/
def opSegmentFault (t k seg dir : Nat) (s : State) : State :=
  let s := s.advanceTo t
  (if dir < 2 then s.segmentFaulty k seg else s.ringFence k 2).takeArrived

/-- The ring goes into DETOUR (R299): what is on the segment is lost, and admissions with a reserved path over it are IMPAIRED. -/
def opDetourEnter (t k : Nat) (s : State) : State :=
  let s := s.advanceTo t
  let seg := s.reg R.ring_FAULT_SEGMENT k
  if seg = 0xFF ∨ s.reg R.ring_STATE k ≠ 0 ∨ !s.ringPresent k then s
  else
    let s := (s.setReg R.ring_STATE k 1).raise 0x4007 (k + seg * 16)
    let gone := [2 * (24 * k + seg), 2 * (24 * k + (seg + 1) % 24) + 1]
    let s : State := { s with rings := { s.rings with out := s.rings.out.filter fun p => !gone.contains p.1 } }
    s.each s.admittedSlots fun s g =>
      let ms := s.models g
      if 0 < totalOn ms (.segment (k + 256 * seg)) + totalOn ms (.segment (k + 16 + 256 * seg)) then s.impair g (ringPos k) else s

end Sys2Proof.Machine
end

