-- ==== Sys2Proof/Machine/Power.lean ====
section
/-! DEFINITION. Power states, Nightfall, waking and the ADC of the Twilight island (chapter 16). Drains and power-on times end with
commands of their own (DRAIN_COMPLETE, DRAIN_ABANDON, TRIP_DRAIN_CUT, DOMAIN_POWER_ON_COMPLETE). -/

namespace Sys2Proof.Machine

def State.onPower (s : State) (u : Power → Power) : State := { s with power := u s.power }

/-! ### Domains (R464 to R467) -/

/-- The stops of a domain take a state; a DEAD stop stays DEAD. -/
def State.stopsTo (s : State) (d st : Nat) : State :=
  s.each (domainStops d) fun s g => if s.reg R.stop_STATE g = 3 then s else s.setStop g st

/-- The master of stop `g` has a write that is not yet acknowledged. -/
def State.writesAt (s : State) (g : Nat) : Bool := s.rings.held.any fun h => h.stop == g && h.write

/-- Nothing is left of what stop `g`'s target has accepted or has still to take (R291): no request unanswered, no write unacknowledged, its master's own
among them (the example of R478), no flit toward the target or from it in its buffers. -/
def State.stopIdle (s : State) (g : Nat) : Bool :=
  let r := s.rings
  !s.writesAt g &&
  let own (b : Buffered) : Bool := flitDst b.flit == g || (flitSrc b.flit == g && (b.flit.op == .response || b.flit.op == .status))
  !(r.reading.any fun x => x.target == g) && !(r.storing.any fun x => x.target == g) && !(r.acks.any fun a => a.target == g) &&
    [0, 1, 2].all fun i => allVcs.all fun vc => !(s.buffer (inputOf g i) vc).any own

/-- Exchange port 16 (`g` = 384, the scheduler's) or 17 (385, the steward's) has nothing left to send, to wait for or to take (R471). -/
def State.portIdle (s : State) (g : Nat) : Bool :=
  let own (b : Buffered) : Bool := flitDst b.flit == g || flitSrc b.flit == g
  !(s.rings.held.any fun h => h.stop == g) && !(s.rings.acks.any fun a => a.target == g) && !(s.rings.bufs.any fun b => b.2.any own)

/-- Whether R291 lets the stops of domain `d` report their drain complete; those of a quad's block lie in the steward's domain, and the quad's own
writes keep its drain open. -/
def State.drained (s : State) (d : Nat) : Bool :=
  (domainStops d).all s.stopIdle &&
  (if 4 ≤ d ∧ d < 68 then !s.writesAt (quadStop (d - 4)) else if d = 104 then s.portIdle 384 else if d = 105 then s.portIdle 385 else true) &&
  (if d < 4 then (stackPcs d).all fun n => (s.pcState n).entries.isEmpty && (s.movingTo n).isEmpty
   else if 68 ≤ d ∧ d < 100 then (s.runOp (d - 68)).isNone && (s.prefetched? (d - 68)).isNone
   else if 100 ≤ d ∧ d < 104 then allPorts.all fun q =>
     portQuadrant q != d - 100 || ((s.active? (96 + q)).isNone && (s.prefetched? (96 + q)).isNone)
   else true)

/-- The drain of domain `d` begins (R465). -/
def State.domDrain (s : State) (d : Nat) : State :=
  let s := (s.domState d 1).stopsTo d 1
  s.onPower fun p => { p with drains := p.drains ++ [(d, s.mono)] }

/-- When the drain of domain `d` began. -/
def State.drainBegan (s : State) (d : Nat) : Option Nat := (s.power.drains.find? fun e => e.1 == d).map Prod.snd

/-- The drain of domain `d` is over. -/
def State.domDrained (s : State) (d : Nat) : State :=
  let us := (s.mono - (s.drainBegan d).getD s.mono) / 1000
  (s.onPower fun p => { p with drains := p.drains.filter fun e => e.1 != d }).setReg R.dom_LAST_DRAIN_US d us

/-- Entry of stack `k` to self-refresh: its PCs hold their rows and refresh themselves (R220).
[DEDUCED, log 155: unsafe] -/
def State.selfRefresh (s : State) (k : Nat) : State :=
  let was := (stackPcs k).map fun n => (n, s.reg R.pc_STATE n)
  let s := s.onPower fun p => { p with refreshing := p.refreshing ++ [k], pcWas := p.pcWas ++ was }
  s.each (stackPcs k) fun s n => if s.pcFenced n then s else
    (s.setReg R.pc_STATE n 3).onPc n fun p => { p with openRows := [] }

/-- Exit of stack `k` from self-refresh. -/
def State.leaveRefresh (s : State) (k : Nat) : State :=
  let s := s.each (stackPcs k) fun s n => if s.pcFenced n then s else
    (s.setReg R.pc_STATE n (((s.power.pcWas.find? fun e => e.1 == n).map Prod.snd).getD 0)).onPc n fun p =>
      { p with dues := [], dueFrom := s.storeTime }
  let s := s.onPower fun p => { p with refreshing := p.refreshing.erase k, pcWas := p.pcWas.filter fun e => e.1 / 32 != k }
  s.stopsTo k 0

/-- The frames, block memories and PLLs of quadrant `q`. -/
def frameQuadrant (f : Nat) : Option Nat := if frameRegion f < 96 then some (regionQuadrant (frameRegion f)) else none

/-- The swap regions of quadrant `q`. -/
def quadrantSwaps (q : Nat) : List Nat := (List.range 16).filter fun n => regionQuadrant (swapClockRegion n) == q

/-- A frame that quadrant `q` holds: a live frame of its regions, or a shadow frame of its swap regions. -/
def inQuadrant (q f : Nat) : Bool :=
  if f < liveFrames then frameQuadrant f == some q else (quadrantSwaps q).contains ((f - liveFrames) / swapFrames)

/-- Quadrant `q` loses its configuration, flip-flops and block memories. -/
def State.loseQuadrant (s : State) (q : Nat) : State :=
  let s : State := { s with config := { s.config with
    cells := s.config.cells.filter (fun e => !inQuadrant q (e.1 / 32)),
    repairs := s.config.repairs.filter (fun f => !inQuadrant q f), late := s.config.late.filter fun f => !inQuadrant q f } }
  let s : State := { s with fabric := { s.fabric with
    bram := s.fabric.bram.filter (fun e => regionQuadrant (memoryRegion (e.1 / 65536)).1 != q), bramCycle := [],
    clusters := s.fabric.clusters.filter (fun e => regionQuadrant (unitRegion regionClusters e.1).1 != q),
    slices := s.fabric.slices.filter (fun e => regionQuadrant (unitRegion regionSlices e.1).1 != q),
    pins := s.fabric.pins.filter fun e => regionQuadrant (bankRegion (e.1 / 16)) != q } }
  let s := s.each (List.range 48) fun s p => if regionQuadrant (pllRegion p) = q then opPllLockLoss p s else s
  let s := s.each (quadrantSwaps q) fun s n => (s.setShadow n {}).shadowState n 0
  let ports := allPorts.filter fun p => portQuadrant p == q
  let s := s.each ports fun s p => s.onPort p fun x => { x with up := false }
  s.refreshPorts ports 2

/-- What unit of domain `d` loses with its power (Table 16.1). -/
def State.loseDomain (s : State) (d : Nat) : State :=
  if d < 4 then
    let s := s.each (stackPcs d) fun s n => if s.pcFenced n then s else (s.setReg R.pc_STATE n 4).onPc n fun p =>
      { scrubPos := p.scrubPos, scrubStart := p.scrubStart, settings := p.settings }
    (s.onPower fun p => { p with refreshing := p.refreshing.erase d, pcWas := p.pcWas.filter fun e => e.1 / 32 != d }).loseStack d
  else if d < 68 then s.quadOff (d - 4)
  else if d < 100 then
    { s with engines := { running := s.engines.running.filter fun e => e.1 != d - 68,
                          storeFaults := s.engines.storeFaults.filter fun e => e.1 != d - 68 } }
  else if d < 104 then s.loseQuadrant (d - 100)
  else if d = 105 then s.lockForceAll 2 0
  else if d = 104 then { s with sched := {}, tb := { s.tb with sets := [] } }.each allSlots fun s g => s.setReg R.slot_STATE g 0
  else s

/-- Domain `d` is isolated, its power removed: its stops go to ASLEEP, event 0x8202 (R465, steps 2 to 4). A stack enters self-refresh first, by the
step of Table 07.5 at 4 to 5 µs. -/
def State.powerOff (s : State) (d : Nat) : State :=
  let s := s.domDrained d
  let s := (if d < 4 ∧ !s.power.refreshing.contains d then (s.waitUntil (s.mono + 1000)).selfRefresh d else s).loseDomain d
  let s := (s.stopsTo d 2).inc R.dom_OFF_COUNT d
  s.domState d 2

/-- Domain `d` is ON and its unit ready: its stops return to ACTIVE, event 0x8202 (R466). -/
def State.powerReady (s : State) (d : Nat) : State := (s.stopsTo d 0).domState d 0

/-- Whether the last column but two of Table 16.1 refuses OFF. -/
def State.domainBusy (s : State) (d : Nat) : Bool :=
  if d < 4 then s.anyHandle || s.store.fill.isSome || s.on R.stk_CHANGING d
  else if d < 68 then (List.range 4).any fun i => s.laneBusy (4 * (d - 4) + i)
  else if d < 100 then s.opInUse fun o => o == d - 68
  else (s.opInUse fun o => decide (96 ≤ o) && portQuadrant (o - 96) == d - 100) ||
    s.exchangeArmed (fun n => (quadrantSwaps (d - 100)).contains n) || s.config.job.isSome

/-- Whether the device is in power state ACTIVE: neither HELD nor in Daybreak (R6, Table 16.6). -/
def State.isActive (s : State) : Bool := s.phase == .run && s.reg R.pow_STATE == 0

/-- A write to COMMAND of 0x8203[d]: ACCESS_DENIED for the domains the host may not switch.
[DEDUCED, log 154: unsafe] -/
def State.domainCommand (s : State) (w : Who) (d : Nat) (k : State → State) : State :=
  if s.dictAnswers w && decide (104 ≤ d) && decide (d ≤ 106) then s.accessDenied
  else s.writeAs w R.dom_COMMAND d true fun s =>
    if !s.isActive || s.reg R.dom_STATE d == 1 || s.reg R.dom_STATE d == 3 then s.stateError else k s

/-- COMMAND = OFF (R465). -/
def opDomainOff (w : Who) (d : Nat) (s : State) : State :=
  s.domainCommand w d fun s =>
    if s.reg R.dom_STATE d = 2 then s.ok
    else if s.domainBusy d then s.stateError
    else (s.domDrain d).ok

/-- COMMAND = ON (R466, R467). -/
def opDomainOn (w : Who) (d : Nat) (s : State) : State :=
  s.domainCommand w d fun s =>
    if s.reg R.dom_STATE d = 0 then s.ok
    else if decide (100 ≤ d) && s.on R.cfg_SOURCE then s.stateError
    else (s.domState d 3).ok

/-! ### STANDBY and Nightfall (R468 to R473) -/

/-- The power state changes: event 0x8201 (R480) and line 7 of core 0 (Table 15.5). -/
def State.powerChanged (s : State) (v cause : Nat) : State := (s.raise 0x8201 (v + cause * 16)).raiseLine 7

/-- STATE of 0x8200. -/
def State.powerState (s : State) (v cause : Nat) : State := (s.setReg R.pow_STATE 0 v).powerChanged v cause

/-- The domains of each group of a sequence: entry to STANDBY (R469), or Nightfall (Table 16.3). -/
def powerGroup (doing group : Nat) : List Nat :=
  let quads := (List.range 64).map (4 + ·)
  let engines := (List.range 32).map (68 + ·)
  match doing, group with
  | 1, 0 => quads ++ engines
  | 1, 1 => List.range 4
  | 2, 0 => quads
  | 2, 1 => engines
  | 2, 2 => [100, 101, 102, 103]
  | 2, 3 => List.range 4
  | 2, 4 => [104]
  | 2, 5 => [105]
  | _, _ => []

/-- The sequence that runs switches domain `d` off: STANDBY's domains are powered again by RESUME (R470), a Nightfall's if it is abandoned (R472). -/
def Power.goes (p : Power) (d : Nat) : Power := if p.doing = 1 then { p with slept := d :: p.slept } else { p with offs := d :: p.offs }

/-- Domain `d` is switched off by the sequence that runs: one in self-refresh or still powering on has nothing to drain.
[DEDUCED, log 155: unsafe] -/
def State.sequenceDown (s : State) (d : Nat) : State :=
  match s.reg R.dom_STATE d with
  | 0 =>
    if s.power.doing = 1 ∧ d < 4 then
      s.stopsTo d 1 |>.onPower fun p => { p with drains := p.drains ++ [(d, s.mono)] }
    else
      let s := s.onPower fun p => p.goes d
      if s.power.refreshing.contains d then s.powerOff d else s.domDrain d
  | 3 => (s.onPower fun p => p.goes d).powerOff d
  | _ => s

/-- Whether every die temperature channel reads below TRIP_RELEASE. -/
def State.dieCool (s : State) : Bool :=
  (List.range 24).all fun c => decide (50 * (s.reg R.adc_CODE c : Int) - 50000 < 1000 * s.regI R.pow_TRIP_RELEASE)

/-- The device wakes from NIGHT.
[DEDUCED, log 159: unsafe] -/
def State.wakeNow (s : State) (src : Nat) : State :=
  let s := s.onPower fun p => { p with held := none, timerFrom := none }
  let s := s.startWake.setReg R.pow_LAST_WAKE 0 src
  s.raise 0x8205 src

/-- A wake source: 2 the pin, 3 the watch program, 4 the timer. In NIGHT it acts, unless the device is hot after a trip; during Nightfall it
is held. -/
def State.wakeBy (s : State) (src : Nat) : State :=
  if s.phase = .night then
    if s.reg R.pow_LAST_NIGHTFALL = 2 ∧ !s.dieCool then (s.onPower fun p => { p with held := none, timerFrom := none }).raise 0x8206 src
    else s.wakeNow src
  else if s.power.doing = 2 then s.onPower fun p => { p with held := some (p.held.getD src) }
  else s

/-- A held wake source acts once NIGHT is confirmed (R475). -/
def State.wakeHeld (s : State) : State :=
  match s.phase, s.power.held with
  | .night, some src => s.wakeBy src
  | _, _ => s

/-- NIGHT is confirmed (R471, step 8). -/
def State.confirmNight (s : State) : State :=
  let trip := s.power.trip
  let s := s.enterNight.inc R.pow_NIGHTS
  let timer := if s.power.wakeAfter = 0 then none else some s.mono
  let s := s.onPower fun p => { p with doing := 0, group := 0, offs := [], slept := [], revive := [], drains := [], refreshing := [], pcWas := [], timerFrom := timer }
  (s.powerChanged 5 (b2n trip)).wakeHeld

/-- The next group begins; after the last, STANDBY is reached, or NIGHT. The first group of either sequence takes every lane down, and
the steward records the cause before its own domain goes. -/
def State.beginGroup (s : State) : State :=
  let p := s.power
  match p.doing, p.group with
  | 1, 2 => (s.powerState 2 0).onPower fun p => { p with doing := 0 }
  | 2, 6 => s.confirmNight
  | _, n =>
    let s : State := if n = 0 then s.lanesOff (List.range 256) else s
    let s : State := if n = 5 then s.setReg R.pow_LAST_NIGHTFALL 0 (1 + b2n p.trip) else s
    s.each (powerGroup p.doing n) fun s d => s.sequenceDown d

/-- The sequence goes on while nothing of its present group drains. -/
def State.sequence : Nat → State → State
  | 0, s => s
  | n + 1, s =>
    if s.power.doing = 0 ∨ (powerGroup s.power.doing s.power.group).any (fun d => (s.drainBegan d).isSome) then s
    else State.sequence n ((s.onPower fun p => { p with group := p.group + 1 }).beginGroup)

/-- A sequence starts with its first group. -/
def State.startSequence (s : State) (doing : Nat) (trip : Bool) : State :=
  let s := s.onPower fun p =>
    { p with doing := doing, group := 0, trip := trip, offs := [], slept := if doing = 1 then [] else p.slept, revive := [], held := none, wakeAfter := s.reg R.pow_WAKE_AFTER,
             leftState := s.reg R.pow_STATE, timerFrom := none }
  let s := s.powerState (if doing = 1 then 1 else 4) (b2n trip)
  State.sequence 8 s.beginGroup

/-- What R468 refuses STANDBY and NIGHTFALL for, beside the power state. -/
def State.powerBusy (s : State) : Bool :=
  allSlots.any (fun g => s.live g) || !s.tb.sets.isEmpty || (List.range 4).any (fun k => s.on R.stk_CHANGING k) ||
    s.store.fill.isSome || s.config.job.isSome

/-- COMMAND = STANDBY (R468). -/
def opStandby (w : Who) (s : State) : State :=
  s.writeAs w R.pow_COMMAND 0 true fun s =>
    if !s.isActive || s.powerBusy then s.stateError else (s.startSequence 1 false).ok

/-- COMMAND = NIGHTFALL (R468). -/
def opNightfall (w : Who) (s : State) : State :=
  s.writeAs w R.pow_COMMAND 0 true fun s =>
    if (!s.isActive && s.reg R.pow_STATE != 2) || s.powerBusy then s.stateError else (s.startSequence 2 false).ok

/-- A thermal trip (R473, R478): counted and logged in every state; a Nightfall by command becomes one that is never abandoned. HELD and DARK are
terminal (R485).
[DEDUCED, log 158: unsafe] -/
def State.thermalTrip (s : State) (cause unit extra : Nat) : State :=
  let s := (s.inc R.pow_TRIPS).setReg R.pow_LAST_TRIP_CAUSE 0 cause
  let s := s.raiseX 0x8203 (cause + unit * 16) extra
  if s.phase = .held ∨ s.phase = .dark then s
  else if s.power.doing = 2 ∧ s.power.revive = [] then
    if s.power.trip then s else (s.onPower fun p => { p with trip := true }).powerChanged 4 1
  else
    let s : State := if s.phase = .night then s else { s with phase := .run }
    s.startSequence 2 true

/-! ### Drains that end (R465, R472, R473) -/

/-- RESUME once no stack is left in self-refresh (R470): the engines and quads that STANDBY switched off are powered, and the device, its
stacks serving, is ACTIVE. -/
def State.checkResumed (s : State) : State :=
  if s.reg R.pow_STATE = 3 ∧ s.power.refreshing = [] then
    let s := s.each s.power.slept.reverse fun s d => s.domState d 3
    (s.onPower fun p => { p with slept := [] }).powerState 0 0
  else s

/-- The group of Table 16.3 in which a domain goes. -/
def nightGroup (d : Nat) : Nat :=
  if d < 4 then 3 else if d < 68 then 0 else if d < 100 then 1 else if d < 104 then 2 else if d = 104 then 4 else 5

/-- The next group of an abandoned Nightfall is powered again; when nothing is left, STATE returns, with event 0x8204 (R472). The scheduler's
domain needs no time of its own. -/
def State.reviveNext : Nat → State → State
  | 0, s => s
  | n + 1, s =>
    match s.power.revive with
    | [] =>
      let s := s.onPower fun p => { p with doing := 0, held := none }
      (s.powerState s.power.leftState 3).raise 0x8204 s.power.failed
    | d :: _ =>
      let group := s.power.revive.filter fun e => nightGroup e == nightGroup d
      if d ≥ 104 then
        let s := s.each group fun s e => s.powerReady e
        State.reviveNext n (s.onPower fun p => { p with revive := p.revive.filter fun e => nightGroup e != nightGroup d })
      else s.each group fun s e => s.domState e 3

/-- Domain `d` is ON and serves: its lanes start again (R470), and a stack goes back to self-refresh while an abandoned Nightfall returns to STANDBY
(R472). -/
def State.unitReady (s : State) (d : Nat) : State :=
  let s := s.powerReady d
  if 4 ≤ d ∧ d < 68 then s.quadOn (d - 4)
  else if d < 4 ∧ s.power.doing = 2 ∧ s.power.leftState = 2 then (s.stopsTo d 2).selfRefresh d
  else s

/-- A Nightfall by command is abandoned (R472): drains end, and what it switched off is powered again in reverse order.
[DEDUCED, log 156: unsafe] -/
def State.abandonNightfall (s : State) (d : Nat) : State :=
  let s := s.each (s.power.drains.map Prod.fst) fun s e => (s.domDrained e).unitReady e
  let s := s.onPower fun p => { p with revive := p.offs.filter fun e => s.reg R.dom_STATE e == 2, failed := d }
  State.reviveNext 8 (s.inc R.pow_ABANDONED)

/-- Every stop of domain `d` has reported its drain complete (R291, R465). -/
def opDrainComplete (t d : Nat) (s : State) : State :=
  let s := s.advanceTo t
  State.takeArrived <|
    if (s.drainBegan d).isNone || !s.drained d then s
    else if s.power.doing = 1 ∧ d < 4 ∧ s.reg R.dom_STATE d = 0 then
      State.sequence 8 (((s.domDrained d).stopsTo d 2).selfRefresh d)
    else State.sequence 8 (s.powerOff d)

/-- A drain exceeds DRAIN_LIMIT (R465, R472); under a trip no drain is abandoned.
[DEDUCED, log 156: unsafe] -/
def opDrainAbandon (t d : Nat) (s : State) : State :=
  let s := s.advanceTo t
  match s.drainBegan d with
  | none => s
  | some b =>
    if s.mono < b + s.reg R.pow_DRAIN_LIMIT * 1000000 ∨ (s.power.doing = 2 ∧ s.power.trip) then s
    else if s.power.doing = 2 then s.abandonNightfall d
    else
      let s := ((s.domDrained d).unitReady d).inc R.pow_ABANDONED
      State.sequence 8 ((s.onPower fun p => { p with slept := p.slept.erase d }).raise 0x8204 d)

/-- Under a trip a domain is cut 1 ms after its drain began (R473). -/
def opTripDrainCut (t d : Nat) (s : State) : State :=
  let s := s.advanceTo t
  State.takeArrived <|
    match s.drainBegan d with
    | none => s
    | some b =>
      if s.power.doing = 2 ∧ s.power.trip ∧ b + 1000000 ≤ s.mono then
        State.sequence 8 (((s.powerOff d).inc R.pow_ABANDONED).raise 0x8204 (d + 256))
      else s

/-! ### Powering on (R466, R467, R470) -/

/-- COMMAND = RESUME (R470). -/
def opPowerResume (w : Who) (s : State) : State :=
  s.writeAs w R.pow_COMMAND 0 true fun s =>
    if s.reg R.pow_STATE ≠ 2 then s.stateError
    else ((s.powerState 3 0).checkResumed).ok

/-- PC `n` is trained at all three rates (R216), each by a full sweep whose outcome R213 gives: its settings for each rate, a dead lane, or no
working setting at some rates. A dead lane is tested again at Daybreak only (R213). The ceiling of its budget is that of the stack's rate.
[DEDUCED, log 250: unsafe, DEDUCED, log 277: unsafe] -/
def State.trainPc (s : State) (n : Nat) (results : List TrainResult) : State :=
  let k := n / 32
  let rate := s.reg R.stk_RATE k
  let r := (results.find? fun x => x.pc == n).getD ⟨n, 0, 0xFF, []⟩
  if s.pcFenced n then s
  else
    let s := ((s.setReg R.pcb_CEILING n (rateCeiling rate)).setReg R.pc_STATE n 0).onPc n fun p =>
      { sweeping := p.sweeping, scrubPos := p.scrubPos, scrubStart := p.scrubStart, dueFrom := if s.storeRuns then s.storeTime else 0,
        settings := if r.settings.isEmpty then p.settings else r.settings }
    let s := if r.dead < 36 ∧ s.reg R.pc_DEAD_LANE n ≠ r.dead then (s.setReg R.pc_DEAD_LANE n r.dead).raise 0x3004 (n + r.dead * 256)
      else if r.dead < 36 ∨ s.phase ≠ .daybreak then s
      else s.setReg R.pc_DEAD_LANE n 0xFF
    let s := s.each ((List.range 3).filter fun x => r.bad.testBit x && x != rate) fun s x =>
      s.setReg R.stk_RATES_OK k (putBit (s.reg R.stk_RATES_OK k) x false)
    if r.bad.testBit rate then s.fencePc n 1 else s

/-- The PCs of stack `k` are trained (R216). -/
def State.trainStack (s : State) (k : Nat) (results : List TrainResult) : State :=
  let s := s.setReg R.stk_RATES_OK k 7
  s.each (stackPcs k) fun s n => s.trainPc n results

/-- Quadrant `q` is reloaded from the full image, or stays OFF with event 0x7011 (R467).
[DEDUCED, log 157: unsafe] -/
def State.reloadQuadrant (s : State) (q : Nat) (bytes : List Byte) : State :=
  let fail (c : Nat) : State := (s.domState (100 + q) 2).raise 0x7011 (16 + c * 256)
  if s.on R.cfg_SOURCE then fail 9
  else match s.parseImage 16 bytes with
    | .more => fail 9
    | .bad c => fail c
    | .good im _ =>
      let s := s.each im.frames fun s p => if inQuadrant q p.1 then s.putFrame p.1 p.2 else s
      let ours := (List.range 10240).filter fun m => regionQuadrant (memoryRegion m).1 == q
      let s := s.each ours fun s m => s.setReg R.bm_MODE m (Config.bramMode (s.reg R.cfg_IMAGE_ID) m % 3)
      let s := s.each im.records fun s p => if regionQuadrant (memoryRegion p.1).1 = q then s.putMemory p.1 p.2 else s
      let ports := allPorts.filter fun p => portQuadrant p == q
      let s := s.each ports fun s p => s.onPort p fun x => { x with declared := s.config.full.ports.testBit p }
      let s := s.each (quadrantSwaps q) fun s n =>
        (((s.setShadow n {}).shadowState n 0).setLive n { s.config.full with ports := s.config.full.ports / 2 ^ (32 * n) % 16 }).setReg R.swap_LIVE_ID n
          (s.reg R.cfg_IMAGE_ID)
      let s := s.powerReady (100 + q)
      s.refreshPorts ports 2

/-- What powering a domain of an abandoned Nightfall leaves to do. -/
def State.revived (s : State) (d : Nat) : State :=
  if s.power.revive.contains d then
    let s := s.onPower fun p => { p with revive := p.revive.erase d }
    if s.power.revive.any fun e => nightGroup e == nightGroup d then s else State.reviveNext 8 s
  else s

/-- A domain commanded ON is ready (R466), or a stack leaves self-refresh (R470). `results` is the outcome of a stack's training, `image` what the
flash returned for a quadrant. -/
def opDomainPowerOnComplete (t d : Nat) (image : List Byte) (results : List TrainResult) (s : State) : State :=
  let s := s.advanceTo t
  if s.reg R.pow_STATE = 3 ∧ s.power.refreshing.contains d then (s.leaveRefresh d).checkResumed
  else if s.reg R.dom_STATE d ≠ 3 then s
  else if d < 4 then ((s.trainStack d results).unitReady d).revived d
  else if d < 100 then (s.unitReady d).revived d
  else (s.reloadQuadrant (d - 100) image).revived d

/-! ### Waking (R474 to R476) -/

/-- WAKE has been high for 10 µs: line 5 of core 0 in every state (Table 15.5), and a wake source (R474). -/
def opWakePin (t : Nat) (s : State) : State := ((s.advanceTo t).raiseLine 5).wakeBy 2

/-- A write to port WAKE by core 0. -/
def opWakePortWrite (t : Nat) (s : State) : State :=
  let s := s.advanceTo t
  if s.coreRuns 0 then s.wakeBy 3 else s

/-- WAKE_AFTER seconds after NIGHT was confirmed. -/
def opWakeTimer (t : Nat) (s : State) : State :=
  let s := s.advanceTo t
  match s.power.timerFrom with
  | some b => if s.phase = .night ∧ b + s.power.wakeAfter * 1000000000 ≤ s.mono then s.wakeBy 4 else s
  | none => s

/-- A write to port TRIP by core 0 (R478). -/
def opTripPortWrite (t value : Nat) (s : State) : State :=
  let s := s.advanceTo t
  if s.coreRuns 0 then s.thermalTrip 2 0 (value % 65536) else s

/-- TEMP of stack `k` at 105 °C or above for 1 ms (R478). -/
def opStackTemperatureTrip (t k : Nat) (s : State) : State :=
  let s := s.advanceTo t
  let from_ := tget (fun _ => 0) s.power.hotStacks k
  if 105 ≤ s.regI R.stk_TEMP k ∧ from_ ≠ 0 ∧ from_ + 1000000 ≤ s.mono + 1 then s.thermalTrip 1 k 0 else s

/-! ### The ADC (R477, R478) -/

/-- KIND of a channel (Table 16.4). -/
def adcKind (c : Nat) : Nat := if c < 24 then 0 else if c < 36 then 1 else if c = 36 then 2 else 3

/-- VALUE of a channel from a code (Table 16.4). -/
def adcValue (c code : Nat) : Int := if c < 24 then 50 * (code : Int) - 50000 else ((2000000 * code / 4096 : Nat) : Int)

/-- The nominal voltage of a rail channel in µV (Tables 16.4 and 21.3).
[PRESUMED, log 161: unsafe] -/
def railNominal (c : Nat) : Nat := match c with
  | 24 | 25 | 35 => 750000
  | 26 | 27 => 800000
  | 28 | 29 => 1100000
  | 30 => 400000
  | 31 => vioNominal 0 15
  | 32 => vioNominal 16 31
  | _ => 1800000

/-- A rail reads outside ±5 % of its nominal voltage. -/
def railOut (c code : Nat) : Bool :=
  let v := 2000000 * code / 4096
  decide (100 * v < 95 * railNominal c) || decide (105 * railNominal c < 100 * v)

/-- The next sample of the walk: its channel's objects follow (R477).
[DEDUCED, log 162: unsafe] -/
def State.sampleTo (s : State) (c code : Nat) : State :=
  let v := adcValue c code
  let s := ((s.boardSample c code).setReg R.adc_CODE c code).setRegI R.adc_VALUE c v
  let s : State := if !s.power.minSeen.contains c || decide (v < s.regI R.adc_MIN c) then s.setRegI R.adc_MIN c v else s
  let s : State := if !s.power.maxSeen.contains c || decide (s.regI R.adc_MAX c < v) then s.setRegI R.adc_MAX c v else s
  s.onPower fun p => { p with minSeen := insertNat c p.minSeen, maxSeen := insertNat c p.maxSeen }

/-- Every FIFO_DIV-th sample of a channel goes to core 0's FIFO; a full FIFO drops it (R477). -/
def State.samplePush (s : State) (c code : Nat) : State :=
  let div := s.reg R.adc_FIFO_DIV c
  let n := tget (fun _ => 0) s.power.since c + 1
  if div = 0 then s
  else if n < div then s.onPower fun p => { p with since := tput (fun _ => 0) c n p.since }
  else
    let s := s.onPower fun p => { p with since := tput (fun _ => 0) c 0 p.since }
    if 64 ≤ s.power.fifo.length then s.inc R.seq_OVERRUNS
    else (s.onPower fun p => { p with fifo := p.fifo ++ [(c, code)] }).raiseLine 0

/-- The walk goes on to its next entry; after the last it begins again, with SEQUENCE as it then stands. -/
def State.walkOn (s : State) : State :=
  if s.power.pos + 1 < s.power.walk.length then s.onPower fun p => { p with pos := p.pos + 1 }
  else
    let l := (s.dom R.seq_SEQUENCE).map BitVec.toNat
    let l := if l.isEmpty then List.range 40 else l
    (s.onPower fun p => { p with pos := 0, walk := l }).raiseLine 1

/-- A run of samples of a channel: its new length.
[DEDUCED, log 160: unsafe] -/
def runOf (l : List (Nat × Nat)) (c : Nat) (hit : Bool) : Nat := if hit then min 255 (tget (fun _ => 0) l c + 1) else 0

/-- The ADC converts the next channel of its walk, one every 1 µs, and the island decides (R477, R478).
[DEDUCED, log 160: unsafe] -/
def opAdcSample (t code : Nat) (s : State) : State :=
  let s := s.advanceTo t
  let s := s.waitUntil s.power.adcAt
  let s := s.onPower fun p => { p with adcAt := s.mono + 1000 }
  let code := code % 4096
  let c := nth s.power.walk s.power.pos 0
  let s := ((s.sampleTo c code).samplePush c code).walkOn
  if c < 24 then
    let n := runOf s.power.hot c (decide (3300 ≤ code))
    let s := s.onPower fun p => { p with hot := tput (fun _ => 0) c n p.hot }
    if n = 8 then s.thermalTrip 0 c 0 else s
  else if c < 36 then
    let n := runOf s.power.bad c (railOut c code)
    let s := s.onPower fun p => { p with bad := tput (fun _ => 0) c n p.bad }
    if n = 3 then s.raise 0x8207 c else s
  else s

/-- A read of port ADC_DATA takes the oldest sample; it reads 0 when there is none (Table 15.7). -/
def State.takeSample (s : State) : State × Nat :=
  match s.power.fifo with
  | [] => (s, 0)
  | (c, code) :: rest =>
    let s := s.onPower fun p => { p with fifo := rest, chan := c }
    (if rest.isEmpty then s.clearLine 0 else s, code)

def opAdcDataRead (s : State) : State :=
  let r := s.takeSample
  r.1.answerWith (leBytes 2 r.2)

end Sys2Proof.Machine
end

