-- ==== Sys2Proof/Machine/Values.lean ====
section
/-! DEFINITION. What a read of an object returns (R417, Tables 14.3 and 14.18): the registers of the register file, and the objects whose
value follows from the rest of the state or is fixed by the part. -/

namespace Sys2Proof.Machine

/-- The size of a fixed-size type, in bytes (Table 14.3). -/
def Ty.size : Ty → Nat
  | .bool | .u8 | .i8 | .enum => 1
  | .u16 | .i16 => 2
  | .u32 | .i32 => 4
  | .u64 | .i64 => 8
  | .time80 => 10
  | .str | .domain => 0

/-- The code of a type (Table 14.3). -/
def Ty.code : Ty → Nat
  | .bool => 1 | .u8 => 2 | .u16 => 3 | .u32 => 4 | .u64 => 5 | .i8 => 6 | .i16 => 7 | .i32 => 8 | .i64 => 9
  | .time80 => 12 | .str => 13 | .enum => 14 | .domain => 15

def Ty.isDomain (t : Ty) : Bool := t == .domain

/-- A signed type. -/
def Ty.signed : Ty → Bool
  | .i8 | .i16 | .i32 | .i64 => true
  | _ => false

/-! ### Fixed tables -/

/-- The timing sets (Table 07.4): subindices 1 to 19 at 9.6, 6.4 and 3.2 Gb/s. -/
def timingSet : Nat → List Nat
  | 0 => [1200, 18, 12, 18, 36, 54, 3, 6, 18, 18, 3, 9, 6, 2, 36, 12, 3840, 144, 156]
  | 1 => [800, 12, 8, 12, 24, 36, 2, 4, 12, 12, 2, 6, 4, 2, 24, 8, 2560, 96, 104]
  | _ => [400, 6, 4, 6, 12, 18, 1, 2, 6, 6, 1, 3, 2, 1, 12, 4, 1280, 48, 52]

/-- The event codes that a chapter's event table defines, beside 0x8080 to 0x80FF. -/
def definedEvents : List Nat :=
  [0x1001, 0x1002, 0x1003, 0x1004, 0x1005, 0x1006, 0x1007, 0x1008, 0x1009, 0x1010, 0x1101, 0x1102, 0x1103, 0x1104, 0x1105, 0x1201,
   0x1202, 0x1203, 0x1301, 0x1302, 0x1303, 0x1304, 0x1305, 0x1306, 0x1307, 0x2001, 0x2002, 0x2003, 0x2004, 0x2005, 0x2006, 0x2008,
   0x2009, 0x2011, 0x2012, 0x2013, 0x2014, 0x2101, 0x2102, 0x2103, 0x2201, 0x2202, 0x2203, 0x2204, 0x2205, 0x2206, 0x2207, 0x2301,
   0x2302, 0x2303] ++
  [0x3001, 0x3002, 0x3003, 0x3004, 0x3005, 0x3006, 0x3007, 0x3008, 0x3009, 0x3102, 0x3103, 0x3104, 0x3105, 0x3106, 0x3107, 0x4001,
   0x4002, 0x4003, 0x4004, 0x4005, 0x4006, 0x4007, 0x4008, 0x4009, 0x400A, 0x4101, 0x5001, 0x5002, 0x5003, 0x5010, 0x5011, 0x5012,
   0x5013, 0x5014, 0x5015, 0x5016, 0x5017, 0x5018, 0x5020, 0x5021, 0x5030, 0x5031, 0x5032, 0x5033, 0x6001, 0x6002, 0x6003, 0x6004,
   0x6005] ++
  [0x7001, 0x7002, 0x7003, 0x7004, 0x7005, 0x7006, 0x7007, 0x7008, 0x7011, 0x7012, 0x7013, 0x7014, 0x7101, 0x7102, 0x7103, 0x7104,
   0x7105, 0x8001, 0x8002, 0x8003, 0x8004, 0x8101, 0x8201, 0x8202, 0x8203, 0x8204, 0x8205, 0x8206, 0x8207, 0x9001, 0x9002, 0x9003,
   0x9004, 0x9005, 0x9101, 0x9102, 0x9103, 0x9104, 0x9105, 0x9107, 0x9108, 0xA001, 0xA002, 0xA003, 0xA004, 0xA005, 0xA006, 0xA007,
   0xA008, 0xA009]

/-- CLASS of 0x9002 (Table 18.12): 0xFF for a code that no chapter defines. -/
def codeClass (code : Nat) : Nat :=
  if definedEvents.contains code || (decide (0x8080 ≤ code) && decide (code ≤ 0x80FF)) then eventClass code else 0xFF

/-- KIND and UNIT of a power domain (Tables 16.1 and 16.9). -/
def domainKind (d : Nat) : Nat × Nat :=
  if d < 4 then (0, d) else if d < 68 then (1, d - 4) else if d < 100 then (2, d - 68) else if d < 104 then (3, d - 100)
  else (d - 100, 0)

/-! ### Slot tables (R275 to R278) -/

/-- A table as the dictionary reads it: 1,024 entries of 16 bits. -/
def State.tableBytes (s : State) (shadow : Bool) (g dir : Nat) : List Byte :=
  let l := s.tables shadow
  (List.range 1024).flatMap fun j => leBytes 2 (slotEntry l g dir j)

/-- Reserved slots of segment `seg` of ring `k` in a direction (0x4001[k].11). -/
def State.segmentReserved (s : State) (k seg dir : Nat) : Nat := reservedOn s.rings.active (k + 16 * dir + 256 * seg)

/-- RESERVED_IN of exchange port `k` (R277): the reservations on its ring that end at stop 0; ports 16 and 17 carry no VC0. -/
def State.reservedIn (s : State) (k : Nat) : Nat := (s.rings.active.filter fun r => r.src / 24 == k && r.dst / 24 != k).length

/-- RESERVED_OUT of exchange port `k`: the valid entries of stop 0's tables. -/
def State.reservedOut (s : State) (k : Nat) : Nat :=
  ((s.rings.active.flatMap Reservation.entries).filter fun e => decide (k < 16) && e.1 / 2 == 24 * k).length

/-! ### Values that follow from the state -/

/-- RETIRED_PAGES: pages retired under the current maps. -/
def State.retiredPages (s : State) : Nat :=
  if s.store.retired.isEmpty then 0 else ((List.range (frameStoreEnd / 2 ^ 17)).filter s.pageRetired).length

/-- SCRUB_PAGES of PC `n`: scrubbed pages with words on it. -/
def State.scrubPages (s : State) (n : Nat) : Nat :=
  (s.store.valid.map fun r => ((List.range r.2).filter fun k =>
    !s.pageRetired (r.1 + k) && s.wordsOnPc ((r.1 + k) * 2 ^ 17) (2 ^ 17) n != 0).length).sum

/-- SNAPSHOT (Table 00.3). -/
def State.snapshotBytes (s : State) : List Byte :=
  leBytes 4 (s.reg R.pres_CHANGES) ++ leBytes 1 (s.reg R.pres_DUSK) ++ [0, 0, 0] ++ leBytes 8 (s.reg R.pres_LANES0) ++
  leBytes 8 (s.reg R.pres_LANES1) ++ leBytes 8 (s.reg R.pres_LANES2) ++ leBytes 8 (s.reg R.pres_LANES3) ++ leBytes 8 (s.reg R.pres_PCS0) ++
  leBytes 8 (s.reg R.pres_PCS1) ++ leBytes 4 (s.reg R.pres_RASTER) ++ leBytes 2 (s.reg R.pres_RINGS) ++ leBytes 2 (s.reg R.pres_SWAP) ++
  leBytes 8 (s.reg R.pres_MOVE)

/-- A PRBS counter: what its register holds, and while the checker is locked what has come since; it saturates (R406). -/
def State.prbsValue (s : State) (r : Reg) (l live : Nat) : Nat :=
  min (s.reg r l + (if s.on R.lane_PRBS_LOCK l then live else 0)) (2 ^ 48 - 1)

/-- SEQUENCE of the ADC: channels 0 to 39 until it is written. -/
def State.adcSequence (s : State) : List Byte :=
  match s.dom R.seq_SEQUENCE with
  | [] => (List.range 40).map fun c => BitVec.ofNat 8 c
  | l => l

/-- PINS: EVT_N[0] as R513 latches it, EVT_N[1] while STATE is AT_RISK, both asserted in the cases of Table 18.9; neither is driven
before Daybreak step 2 (R492). -/
def State.evtPins (s : State) : Nat :=
  let justUp : Bool := match s.boot.restartEnd with
    | some t => decide (s.mono < t + 1000000)
    | none => false
  if s.phase = .night then (if s.power.trip then 3 else b2n s.log.evt0)
  else if !s.boot.done.contains 2 then 0
  else if s.phase = .dark ∨ s.phase = .held ∨ s.boot.stopped ∨ s.boot.restarting then 3
  else b2n (s.log.evt0 || justUp) + b2n (s.reg R.integ_STATE == 2) * 2

/-- The seconds of a lockout that remain. -/
def State.lockoutLeft (s : State) : Nat := ceilDiv (s.service.lockUntil - s.mono) 1000000000

/-- FUSED of 0xA000.
[DEDUCED, log 187: unsafe] -/
def State.fused (s : State) : Nat :=
  b2n s.service.devDigest.isSome + b2n s.service.serviceKeyDigest.isSome * 2 + b2n s.service.imageKey.isSome * 4 + 8

/-- Numeric views of chapters 00 to 05. -/
def State.viewStream (s : State) (index sub i : Nat) : Option Nat :=
  match index, sub with
  | 0x1300, 4 => some s.now
  | 0x1301, 8 => some (s.frameAt i s.now)
  | 0x1301, 9 => some (s.markTime i (s.frameAt i s.now + 1))
  | 0x1301, 11 => some (s.pendingSets i)
  | 0x5000, 1 => some s.inFlight
  | 0x5000, 4 => some ((List.range 608).map fun o => s.reg R.opr_READY_DEPTH o).sum
  | 0x5000, 5 => some (nth s.dlOccupancy 0 0)
  | 0x5000, 6 => some (nth s.dlOccupancy 1 0)
  | 0x5000, 7 => some (nth s.dlOccupancy 2 0)
  | 0x5000, 8 => some (nth s.dlOccupancy 3 0)
  | 0x5003, 6 => some (s.nodeOps i).length
  | 0x5100, 1 => some (b2n (s.operatorPresent i))
  | 0x5100, 2 => some (if i < 32 then 0 else if i < 96 then 1 else 2)
  | 0x5100, 4 => some (s.readyOcc i)
  | 0x5100, 5 => some ((s.active? i).elim 0 Oper.fullTag)
  | 0x5100, 6 => some ((s.prefetched? i).elim 0 Oper.fullTag)
  | 0x5200, 8 => some s.pcHeadroom
  | 0x5201, 4 => some (s.beBlock i)
  | 0x2100, 8 => some (s.portRate i)
  | _, _ => none

/-- Numeric views of chapters 06 to 11. -/
def State.viewMemory (s : State) (index sub i : Nat) : Option Nat :=
  match index, sub with
  | 0x3000, 1 => some (s.pcStateView i)
  | 0x3003, k => some (nth (timingSet i) (k - 1) 0)
  | 0x3002, 1 => some s.mirroredRanges
  | 0x3002, 2 => some s.staleRanges
  | 0x3100, 23 => some (if i < 128 then s.scrubPages i else 0)
  | 0x3101, 1 => some s.validPages
  | 0x3101, 2 => some s.retiredPages
  | 0x4000, 8 => some s.ringCycle
  | 0x4002, 1 => some (stopUnit i).1.code
  | 0x4002, 2 => some (stopUnit i).2
  | 0x4100, 2 => some (s.reservedIn i)
  | 0x4100, 3 => some (s.reservedOut i)
  | 0x3200, 8 => some s.schedFree
  | 0x3201, 1 => some (i / 32)
  | 0x3201, 2 => some (Config.fuseSparesUsed i % 9)
  | 0x7000, 1 => some 96
  | 0x7000, 2 => some 204800
  | 0x7000, 3 => some 10240
  | 0x7000, 4 => some 14336
  | 0x7000, 5 => some (allPorts.filter s.portUp).length
  | 0x7000, 8 => some ((List.range 10240).filter fun m => s.on R.bm_SELFTEST_FAIL m).length
  | 0x7010, 1 => some (if edgeColumn (i % 12) then 0 else 1)
  | 0x7010, 2 => some (regionQuadrant i)
  | 0x7010, 3 => some (regionClusters i)
  | 0x7010, 4 => some (regionMemories i)
  | 0x7010, 5 => some (regionSlices i)
  | 0x7010, 6 => some (if edgeColumn (i % 12) then 0xFFFF else 2 * innerIndex i)
  | 0x7010, 7 => some (((List.range 32).find? fun b => bankRegion b == i).getD 0xFF)
  | 0x7011, 2 => some (pllRegion i)
  | 0x7012, 1 => some (Config.vioMv i)
  | 0x7012, 2 => some (b2n (decide (i < 4) || decide (28 ≤ i)))
  | 0x7012, 3 => some (bankRegion i)
  | 0x7020, 5 => some (memoryRegion i).1
  | 0x7030, 2 => some (fabricStop (i / 4))
  | 0x7030, 3 => some (if i % 32 < 4 then i / 32 else 0xFF)
  | 0x7030, 4 => some (s.opclkKhz i)
  | 0x7030, 5 => some (s.portQuota i 0 % 2 ^ 16 + s.portQuota i 1 % 2 ^ 16 * 2 ^ 16)
  | _, _ => none

/-- Numeric views of chapters 12 to 20. Near-end loopback squelches the pins (R407). -/
def State.viewControl (s : State) (index sub i : Nat) : Option Nat :=
  match index, sub with
  | 0x7040, 10 => some (b2n s.service.imageKey.isSome)
  | 0x7041, 14 => some (swapFirst i)
  | 0x2000, 19 => some (s.margin i)
  | 0x2000, 25 => if s.reg R.lane_LOOPBACK i = 1 then some 0 else none
  | 0x2000, 29 => some (s.prbsValue R.lane_PRBS_ERRORS i (s.prbsErrors i))
  | 0x2000, 30 => some (s.prbsValue R.lane_PRBS_BITS i (s.prbsBits i))
  | 0x1100, 4 => some ((s.mono - s.boot.start) / 1000000)
  | 0x1102, 2 => some ((slotClass i).getD (Config.spareSlotClass i % 4))
  | 0x1102, 6 => some (if s.on R.ses_ID i then (s.mono - (s.sess i).lastReq) / 1000000 else 0)
  | 0x8101, 8 => some (if s.on R.lock_OWNER i then s.leaseLeft i / 1000 else 0)
  | 0x8201, 1 => some (adcKind i)
  | 0x8202, 2 => some s.adcSequence.length
  | 0x8203, 1 => some (domainKind i).1
  | 0x8203, 2 => some (domainKind i).2
  | 0x9000, 2 => some s.conds
  | 0x9000, 3 => some s.latched
  | 0x9000, 6 => some s.evtPins
  | 0x9001, 1 => some (s.log.nextSeq + 2 ^ 32 - 1)
  | 0x9001, 2 => some ((s.log.ring.head?).elim s.log.nextSeq EvRec.seq)
  | 0x9001, 6 => some s.log.pinned.length
  | 0x9002, 1 => some (codeClass i)
  | 0xA000, 7 => some s.fused
  | 0xA001, 4 => some s.lockoutLeft
  | _, _ => none

/-- The value of a numeric object: a view, or its register. -/
def State.numberOf (s : State) (index sub i : Nat) : Nat :=
  match s.viewStream index sub i with
  | some v => v
  | none => match s.viewMemory index sub i with
    | some v => v
    | none => (s.viewControl index sub i).getD (tget regKeyDefault s.regs (regKey (index * 256 + sub) i))

/-- Byte-string views.
[DEDUCED, log 193: unsafe] -/
def State.viewBytes (s : State) (index sub i : Nat) : Option (List Byte) :=
  match index, sub with
  | 0x1000, 1 => some (strBytes "KN2564")
  | 0x1000, 2 => some (strBytes "C0")
  | 0x1000, 3 => some (strBytes "FB6080")
  | 0x1010, 32 => some s.snapshotBytes
  | 0x2200, 40 => some (s.flowDescriptor i)
  | 0x3101, 7 => some s.retirementsBytes
  | 0x4001, 11 => some ((List.range 48).flatMap fun j => leBytes 2 (s.segmentReserved i (j / 2) (j % 2)))
  | 0x4002, 4 => some (s.tableBytes false i 0)
  | 0x4002, 5 => some (s.tableBytes false i 1)
  | 0x4002, 6 => some (s.tableBytes true i 0)
  | 0x4002, 7 => some (s.tableBytes true i 1)
  | 0x3201, 3 => some (padTo 16 ((Config.fuseRepairMap i).take 16))
  | 0x7000, 9 => some (leBytes 64 ((allPorts.filter s.portUp).map fun q => 2 ^ q).sum)
  | 0x7011, 4 => some (if s.fabricRuns then (List.range 4).flatMap fun o => leBytes 4 (s.pllOutKhz i o) else padTo 16 [])
  | 0x7100, 8 => some s.suspectMap
  | 0x7100, 9 => some (padTo 128 s.config.log.flatten)
  | 0x2000, 17 => some (s.rxEq i)
  | 0x2000, 18 => some (padTo 14 (s.dom R.lane_SAVED_EQ i))
  | 0x2000, 16 => some (padTo 4 (s.dom R.lane_TX_FIR i))
  | 0x2000, 33 => some (padTo 20 (s.dom R.lane_EYE_SCAN i))
  | 0x1100, 11 => some [4, 32, 16, 4]
  | 0x8202, 1 => some s.adcSequence
  | 0x9001, 4 => some s.recordsValue
  | 0x9001, 5 => some s.pinnedValue
  | 0x9100, 8 => some ((sha384 (s.dom R.ens_PLAN)).take 16)
  | 0x3100, k =>
    if 2 ≤ k ∧ k ≤ 17 then some (s.logEntry i (k - 2)).bytes
    else none
  | _, _ => none

/-- The value of an object in its encoding (Table 14.3). -/
def State.valueOf (s : State) (r : ObjRef) (row : Row) : List Byte :=
  let i := r.inst
  if r.sub = 0 then leBytes 1 ((findObj r.index).elim 0 ObjDef.count)
  else match row.ty with
    | .str | .domain => (s.viewBytes r.index r.sub i).getD (tget (fun _ => []) s.doms (regKey (r.index * 256 + r.sub) i))
    | .time80 => time80 (s.numberOf r.index r.sub i)
    | t => leBytes t.size (s.numberOf r.index r.sub i)

/-- The value of a fixed-size object before anything has changed it: its factory default (R442).
[DEDUCED, log 113: unsafe] -/
def factoryValue (r : ObjRef) (row : Row) : List Byte := State.valueOf State.reset r row

/-! ### Read side effects (R415) -/

/-- What a read does beside returning the value: RC clears (MIN and MAX of an ADC channel begin anew), and a read of HEAD shows that the
host has seen the log (R513).
[DEDUCED, log 162: unsafe] -/
def State.readEffect (s : State) (r : ObjRef) (row : Row) : State :=
  let key := regKey (r.index * 256 + r.sub) r.inst
  if r.index = 0x9001 ∧ r.sub = 1 then s.onLog fun l => { l with sinceHead := false }
  else if row.acc != .rc then s
  else
    let s := { s with regs := tput regKeyDefault key 0 s.regs }
    if r.index = 0x8201 ∧ r.sub = 4 then s.onPower fun p => { p with minSeen := p.minSeen.filter fun c => c != r.inst }
    else if r.index = 0x8201 ∧ r.sub = 5 then s.onPower fun p => { p with maxSeen := p.maxSeen.filter fun c => c != r.inst }
    else s

/-! ### INFO (R442) -/

/-- The objects whose Default reads "from profile", and those that R32's table loads from the profile. -/
def profileObjects : List Nat := [0x300101, 0x300102, 0x300204, 0x704003, 0x200002, 0x200003, 0x200010, 0x201001, 0x110101, 0x110104,
  0x110105, 0x110106, 0x800105, 0x910001, 0x910006, 0x130002, 0x130007, 0x130008, 0x130009, 0x13000A]

/-- Whether INFO marks an object PROFILE: those above, and the further writable ones of the part. -/
def isProfile (index sub : Nat) (row : Row) : Bool :=
  profileObjects.contains (index * 256 + sub) || (row.acc == .rw && Config.profileExtra (index * 256 + sub))

/-- RIGHTS of Table 14.18. -/
def infoRights (index inst sub : Nat) (row : Row) : Nat :=
  let w (c : AccessClass) : Bool := row.acc.writable && classWrites c index sub &&
    (index != 0x1102 || (match c with | .watch => false | .peer => (classSlots 2).contains inst | _ => true))
  let one (c : AccessClass) : Nat := b2n row.acc.readable + b2n (w c) * 2
  one .host + one .operator * 4 + one .peer * 16 + one .service * 64 + one .watch * 256

/-- The code of an access code (Table 14.18). -/
def Access.code : Access → Nat
  | .ro => 0 | .rw => 1 | .wo => 2 | .w1c => 3 | .rc => 4 | .rs => 5

/-- MAX_LEN: the size of a fixed-size type, else what the object's table states. -/
def Row.maxLength (row : Row) : Nat := if row.ty.size = 0 then row.maxLen else row.ty.size

/-- The INFO record, 16 bytes (Table 14.18).
[DESIGN CHOICE, log 114: safe] -/
def State.infoRecord (s : State) (r : ObjRef) (row : Row) : List Byte :=
  let cur := if row.acc.readable then (s.valueOf r row).length else row.ty.size
  leBytes 1 row.ty.code ++ [0] ++ leBytes 1 row.acc.code ++ leBytes 2 (infoRights r.index r.inst r.sub row) ++
    leBytes 1 (b2n (isProfile r.index r.sub row) + b2n (isImageData r.index r.sub) * 2 + b2n (row.acc == .rc || row.acc == .rs) * 4) ++
    [0, 0] ++ leBytes 4 row.maxLength ++ leBytes 4 cur

end Sys2Proof.Machine
end

