-- ==== Sys2Proof/Machine/Profiles.lean ====
section
/-! DEFINITION. Profiles (R435 to R441, Tables 14.9 to 14.11): the record and its check, arming, capture, erasure. -/

namespace Sys2Proof.Machine

/-! ### Records -/

/-- A value entry (Table 14.11). -/
structure ValueEntry where
  ref : ObjRef
  value : List Byte
  deriving DecidableEq, Repr

/-- A graph entry (Table 14.10). -/
structure GraphEntry where
  slot : Nat
  load : Bool
  admits : Bool
  start : Bool
  flagsOk : Bool
  location : Nat
  length : Nat
  digest : Nat
  deriving DecidableEq, Repr

/-- Bytes of a value entry with a value of `n` bytes. -/
def entryBytes (n : Nat) : Nat := 12 + ceilDiv n 4 * 4

/-- `n` value entries from the start of a byte string; none where one overruns it, or where bytes are left over. -/
def parseEntries : Nat → List Byte → Option (List ValueEntry)
  | 0, l => if l.isEmpty then some [] else none
  | n + 1, l =>
    let len := leAt l 8 2
    if l.length < entryBytes len then none
    else
      let e : ValueEntry := ⟨⟨leAt l 0 2, leAt l 4 3, leAt l 2 1⟩, slice l 12 len⟩
      (parseEntries n (l.drop (entryBytes len))).map fun t => e :: t

/-- Graph entry `i` of a record. -/
def graphEntry (l : List Byte) (i : Nat) : GraphEntry :=
  let e := slice l (64 + 32 * i) 32
  let f := leAt e 1 1
  ⟨leAt e 0 1, f.testBit 0, f.testBit 1, f.testBit 2, decide (f < 8), leAt e 8 8, leAt e 16 4, leAt e 20 4⟩

def recordGraphs (l : List Byte) : List GraphEntry := (List.range (leAt l 8 2)).map (graphEntry l)

/-- The value entries of a record, if its lengths fit. -/
def recordEntries (l : List Byte) : Option (List ValueEntry) := parseEntries (leAt l 6 2) (l.drop (64 + 32 * leAt l 8 2))

/-- The consistency of a graph entry: a slot of 0 to 63, ADMIT only with LOAD, START only with ADMIT. -/
def GraphEntry.ok (g : GraphEntry) : Bool := decide (g.slot < 64) && g.flagsOk && (!g.admits || g.load) && (!g.start || g.admits)

/-- The length of a value fits the type of its object. -/
def Row.lengthOk (row : Row) (n : Nat) : Bool :=
  if row.ty.size = 0 then (if row.fixed then n == row.maxLen else decide (n ≤ row.maxLen)) else n == row.ty.size

/-- A value entry names an object that INFO marks PROFILE, with a value of the right length. -/
def ValueEntry.ok (e : ValueEntry) : Bool :=
  match findRow e.ref with
  | some row => isProfile e.ref.index e.ref.sub row && row.lengthOk e.value.length
  | none => false

/-- The check of R435. -/
def profileRecordOk (l : List Byte) : Bool :=
  decide (64 ≤ l.length) && decide (l.length ≤ 262144) && leAt l 0 4 == 0x6B706C66 && leAt l 4 2 == 1 && decide (leAt l 6 2 ≤ 4096) &&
    decide (leAt l 8 2 ≤ 64) && decide (64 + 32 * leAt l 8 2 ≤ l.length) && leAt l 40 4 == l.length && crcHolds l 60 && (recordGraphs l).all GraphEntry.ok &&
    match recordEntries l with
    | some es => es.all ValueEntry.ok
    | none => false

/-- The 32-byte store words in which two records differ. -/
def changedWords (a b : List Byte) : Nat :=
  ((List.range (ceilDiv (max a.length b.length) 32)).filter fun i => leAt a (32 * i) 32 != leAt b (32 * i) 32).length

/-- NAME without its padding. -/
def recordName (l : List Byte) : List Byte := (slice l 24 16).takeWhile fun b => b != 0

/-- The record of profile `p` becomes `l` (empty for EMPTY), at its cost in MRAM write cycles (R439). -/
def State.putRecord (s : State) (p kind : Nat) (l : List Byte) : State :=
  let s := s.add R.sprof_WRITES p (changedWords (s.dom R.sprof_RECORD p) l)
  let s := (s.setDom R.sprof_RECORD p l).setDom R.sprof_NAME p (recordName l)
  let s := (s.setReg R.sprof_VALID p (b2n (!l.isEmpty))).setReg R.sprof_LENGTH p l.length
  let s := (s.setReg R.sprof_CRC p (leAt l 60 4)).setReg R.sprof_GRAPHS p (leAt l 8 2)
  s.raise 0x1203 (p + kind * 16)

/-- RECORD of profile `p` is written whole (R435). -/
def opProfileRecordWrite (w : Who) (p : Nat) (l : List Byte) (s : State) : State :=
  s.writeAs w R.sprof_RECORD p (decide (262144 < l.length) || profileRecordOk l) fun s =>
    if 262144 < l.length then s.resource else (s.putRecord p 0 l).ok

/-! ### Commands of 0x1200 -/

/-- COMMAND = ARM_SWITCH (R440): the reply is the frame used. -/
def opProfileArmSwitch (w : Who) (s : State) : State :=
  s.writeAs w R.prof_COMMAND 0 true fun s =>
    let p := s.reg R.prof_TARGET
    let c := s.reg R.prof_CADENCE
    if !s.on R.sprof_VALID p || s.on R.prof_ARMED || decide (16 ≤ c) || !s.on R.cad_ENABLE c then s.stateError
    else
      let f := s.armFrame c (s.reg R.prof_TARGET_FRAME)
      let s := ((s.armMember c f (.profile p)).setReg R.prof_ARMED 0 1).setReg R.prof_TARGET_FRAME 0 f
      State.answerWith { s with steward := { s.steward with armedBy := w.cls } } (leBytes 8 f)

/-- COMMAND = DISARM. -/
def opProfileDisarm (w : Who) (s : State) : State :=
  s.writeAs w R.prof_COMMAND 0 true fun s =>
    if s.on R.prof_ARMED then
      let s := s.dropMembers fun m => match m with | .profile _ => true | _ => false
      (State.setReg { s with steward := { s.steward with switching := false } } R.prof_ARMED 0 0).ok
    else s.stateError

/-- Whether profile `p` is ACTIVE or ARMED. -/
def State.profileInUse (s : State) (p : Nat) : Bool := s.reg R.prof_ACTIVE == p || s.armed.contains (.profile p)

/-- The bytes of a value entry. -/
def ValueEntry.bytes (e : ValueEntry) : List Byte :=
  leBytes 2 e.ref.index ++ leBytes 1 e.ref.sub ++ [0] ++ leBytes 3 e.ref.inst ++ [0] ++ leBytes 2 e.value.length ++ [0, 0] ++
    e.value ++ List.replicate (ceilDiv e.value.length 4 * 4 - e.value.length) 0

/-- An object takes its place in a list by ascending index. -/
def insertObj (o : ObjDef) : List ObjDef → List ObjDef
  | [] => [o]
  | p :: t => if o.index < p.index then o :: p :: t else p :: insertObj o t

/-- The objects by ascending index. -/
def objsByIndex : List ObjDef := objTable.foldr insertObj []

/-- One value entry for every PROFILE object whose value differs from its factory default (R438). -/
def State.captureEntries (s : State) : List ValueEntry :=
  objsByIndex.flatMap fun o => (List.range o.instances).flatMap fun i => o.rows.filterMap fun row =>
    let r : ObjRef := ⟨o.index, i, row.sub⟩
    if isProfile o.index row.sub row && s.valueOf r row != factoryValue r row then some ⟨r, s.valueOf r row⟩ else none

/-- The record CAPTURE builds, from the target's graph entries and NAME. -/
def State.captured (s : State) (old : List Byte) : List Byte :=
  let es := s.captureEntries
  let graphs := slice old 64 (32 * leAt old 8 2)
  let body := es.flatMap ValueEntry.bytes
  let l := leBytes 4 0x6B706C66 ++ leBytes 2 1 ++ leBytes 2 es.length ++ leBytes 2 (leAt old 8 2) ++ List.replicate 6 0 ++
    leBytes 8 (s.reg R.cfg_LOCATION) ++ padTo 16 (slice old 24 16) ++ leBytes 4 (64 + graphs.length + body.length) ++
    List.replicate 20 0 ++ graphs ++ body
  l.take 60 ++ leBytes 4 (crc32 l) ++ l.drop 64

/-- COMMAND = CAPTURE (R438); a record above its bounds is refused with RESOURCE.
[DEDUCED, log 129: unsafe] -/
def opCapture (w : Who) (s : State) : State :=
  s.writeAs w R.prof_COMMAND 0 true fun s =>
    let p := s.reg R.prof_TARGET
    if s.profileInUse p then s.stateError
    else
      let l := s.captured (s.dom R.sprof_RECORD p)
      if 4096 < s.captureEntries.length ∨ 262144 < l.length ∨ s.captureEntries.any (fun e => decide (65535 < e.value.length)) then s.resource else (s.putRecord p 1 l).ok

/-- COMMAND = ERASE (R438).
[DEDUCED, log 129: unsafe] -/
def opErase (w : Who) (s : State) : State :=
  s.writeAs w R.prof_COMMAND 0 true fun s =>
    let p := s.reg R.prof_TARGET
    if s.profileInUse p then s.stateError else (s.putRecord p 2 []).ok

end Sys2Proof.Machine
end

