-- ==== Sys2Proof/Machine/Dusk.lean ====
section
/-! DEFINITION. The Dusk cores (R444 to R455): issue of one instruction with its placement rules, delay slots, repeats and pipeline writes;
faults, resets and watchdogs; data memory and I/O ports. -/

namespace Sys2Proof.Machine

/-! ### Words with parity -/

/-- A word of `w` bits with its parity bit above it.
[DEDUCED, log 141: unsafe] -/
def withParity (w v : Nat) : Nat := v % 2 ^ w + popCount w v % 2 * 2 ^ w

/-- Whether the parity of a stored word holds.
[DEDUCED, log 141: unsafe] -/
def parityOk (w v : Nat) : Bool := v / 2 ^ w % 2 == popCount w v % 2

def Core.progWord (k : Core) (a : Nat) : Nat := tget (fun _ => 0) k.prog a
def Core.dataWord (k : Core) (a : Nat) : Nat := tget (fun _ => 0) k.data a

/-! ### Watch program images (Table 15.9, R460) -/

/-- The first failed check of an image, 0 for none. -/
def watchCheck (l : List Byte) : Nat :=
  let words := leAt l 6 2
  if decide (l.length < 16) || leAt l 0 4 != 0x6B777067 || leAt l 4 2 != 1 || words == 0 || decide (4096 < words) ||
      l.length != 16 + 4 * words then 1
  else if !crcHolds l 12 then 2
  else if !(decide (0x40 ≤ leAt l 8 2) && decide (leAt l 8 2 < words)) then 3
  else if (List.range words).any (fun i => leAt l (19 + 4 * i) 1 != 0) then 4
  else 0

/-- The mailbox and the latches behind core 0's ports go with a reset of core 0.
[DEDUCED, log 149: unsafe] -/
def State.dropMailbox (s : State) : State :=
  let s : State := { s with dusk := { s.dusk with mbx := 0, mbxReply := none, raiseCode := 0, timeHi := 0 } }
  { s with steward := { s.steward with queues := s.steward.queues.take 4 ++ [[]] } }

/-- An image is checked and, if it passes, copied into program RAM and run from its ENTRY (R460). -/
def State.runImage (s : State) (l : List Byte) : State :=
  let code := watchCheck l
  let s := s.setReg R.wp_LOAD_RESULT 0 code
  if code ≠ 0 then s
  else
    let words := leAt l 6 2
    let prog := ((List.range words).map fun i => (i, withParity 32 (leAt l (16 + 4 * i) 4))).filter fun e => e.2 != 0
    let s := (s.dropMailbox.onCore 0 fun _ => { prog := prog, words := words }).startCore 0 (leAt l 8 2)
    if s.power.fifo.isEmpty then s else s.raiseLine 0

/-- Core 0 is reset (R455, R456, R460): its registers clear, its locks are released forcibly, STATE is STOPPED.
[DEDUCED, log 149: unsafe] -/
def State.resetCore0 (s : State) : State :=
  let s := (s.lockForceAll 1 0).onCore 0 fun k => { prog := k.prog, words := k.words, data := k.data }
  s.dropMailbox.coreState 0 0

/-! ### Faults and watchdogs -/

/-- A core fault (R454).
[DEDUCED, log 147: unsafe] -/
def State.coreFault (s : State) (c code : Nat) : State :=
  let s := (s.setReg R.core_LAST_FAULT c code).setReg R.core_LAST_FAULT_PC c (s.core c).pc
  let s := (s.inc R.core_FAULTS c).raise 0x8001 (c + code * 256)
  if c = 0 then ((s.lockForceAll 1 0).onCore 0 fun k => { k with late := [], rep := 0, slots := 0, retInt := false, haltDue := none }).coreState 0 3
  else s.stewardRestart 0

/-- The expiries of core 0's watchdog in the last 10 s. -/
def State.recentExpiries (s : State) : List Nat := s.dusk.expiries.filter fun t => decide (s.mono < t + 10000000000)

/-- The watchdog of a core expires (R455, R456, R493): cause 0 late, 1 early, 2 key.
[DEDUCED, log 152: unsafe] -/
def State.watchdogExpire (s : State) (c cause : Nat) : State :=
  let s := (s.inc R.core_WDT_EXPIRIES c).raise 0x8002 (c + cause * 256)
  if c = 0 then
    let recent := s.mono :: s.recentExpiries
    let s := { s with dusk := { s.dusk with expiries := recent } }.resetCore0
    if 3 ≤ recent.length then s.raise 0x8004 0
    else
      match s.dusk.stored with
      | some l => if s.on R.wp_AUTOSTART then (s.runImage l).inc R.wp_RESTARTS else s
      | none => s
  else s.stewardRestart 1

/-- A core whose watchdog counts: RUNNING or IDLE (R455, R547). -/
def State.watched (s : State) (c : Nat) : Bool := s.reg R.core_STATE c == 1 || s.reg R.core_STATE c == 2

/-- A write of `value` to WDT_KICK (R455).
[DEDUCED, log 152: unsafe] -/
def State.kick (s : State) (c value : Nat) : State :=
  let clock := (s.core c).haltedAt.getD s.mono
  let t := clock - (s.core c).kickAt
  if value ≠ 0x5AC3 then s.watchdogExpire c 2
  else if t < s.reg R.core_WDT_OPEN c * 1000 then s.watchdogExpire c 1
  else if s.reg R.core_WDT_CLOSE c * 1000 ≤ t then s.watchdogExpire c 0
  else (s.onCore c fun k => { k with kickAt := clock, warned := false }).inc R.core_KICKS c

/-! ### The program counter (R449 to R451) -/

/-- A program address within the core's PC. -/
def pcWrap (c pc : Nat) : Nat := pc % (if c = 0 then 2 ^ 12 else 2 ^ 22)

/-- TARGET on the page of the instruction (R446). -/
def pageTarget (c pc target : Nat) : Nat := pcWrap c (pc / 4096 * 4096 + target % 4096)

/-- Whether level `i` (0 outer, 1 inner) is an active block repeat: its count is not 0.
[DEDUCED, log 137: unsafe] -/
def Core.looping (k : Core) (i : Nat) : Bool := nth k.lc i 0 != 0

/-- The instruction at PC is the END of level `i`. -/
def Core.atEnd (k : Core) (i : Nat) : Bool := k.looping i && k.pc % 65536 == nth k.le i 0

/-- LOOPS of ST: active block repeats. -/
def Core.loops (k : Core) : Nat := b2n (k.looping 0) + b2n (k.looping 1)

/-- The END of level `i` has issued: the block runs again, or the repeat is over. The flag says that it runs again. -/
def Core.endBlock (k : Core) (i : Nat) : Core × Bool :=
  let n := nth k.lc i 0 - 1
  let k' := { k with lc := upd k.lc i fun _ => n }
  if n = 0 then (k', false) else ({ k' with pc := k.pc / 65536 * 65536 + nth k.ls i 0 }, true)

/-- PC after the instruction at PC has issued: the same while a REPEAT runs; the target after the second delay slot; the start of a block
at its END; else the next address.
[DEDUCED, log 135: unsafe] -/
def Core.next (c : Nat) (k : Core) : Core :=
  if 1 < k.rep then { k with rep := k.rep - 1 }
  else
    let k := { k with rep := 0 }
    let on := { k with pc := pcWrap c (k.pc + 1) }
    if k.slots = 1 then { k with slots := 0, pc := k.target }
    else if 1 < k.slots then { on with slots := k.slots - 1 }
    else if k.atEnd 1 then
      match k.endBlock 1 with
      | (k', true) => k'
      | (k', false) =>
        if k'.atEnd 0 then
          match k'.endBlock 0 with
          | (x, true) => x
          | (x, false) => { x with pc := pcWrap c (k.pc + 1) }
        else { k' with pc := pcWrap c (k.pc + 1) }
    else if k.atEnd 0 then
      match k.endBlock 0 with
      | (x, true) => x
      | (x, false) => { x with pc := pcWrap c (k.pc + 1) }
    else on

/-- A write of the pipeline lands (Table 15.4).
[DEDUCED, log 146: unsafe] -/
def Late.land (k : Core) : Late → Core
  | .data d v => { k with d := upd k.d d fun _ => v }
  | .setting port v =>
    if port < 0x114 then { k with ps := upd k.ps (port - 0x110) fun _ => v }
    else if port < 0x118 then { k with pb := upd k.pb (port - 0x114) fun _ => v }
    else { k with pl := upd k.pl (port - 0x118) fun _ => v }

/-- [DEDUCED, log 146: unsafe] -/
def Core.landed (k : Core) : Core := k.late.foldl Late.land { k with late := [], met := [] }

/-! ### Patch units (R550) -/

/-- The patch units in a mode that belong to a core. -/
def State.patchUnits (s : State) (mode c : Nat) : List Nat :=
  (List.range 32).filter fun u => s.reg R.pu_MODE u == mode && s.reg R.pu_CORE u == c

/-- A match of unit `u` halts its core: ACTION 0 with a service session open; else it acts as EVENT. -/
def State.patchHalts (s : State) (u : Nat) : Bool := s.reg R.pu_ACTION u == 0 && s.on R.dbg_SESSION

/-- Unit `u` has matched: HITS, and event 0xA008 unless it halts. -/
def State.patchCount (s : State) (u : Nat) : State :=
  let s := s.inc R.pu_HITS u
  if s.patchHalts u then s else s.raise 0xA008 (u + s.reg R.pu_CORE u * 256)

/-- The FIX unit that serves the instruction at core 1's PC, from its store word. -/
def State.fixUnit (s : State) (c : Nat) : Option Nat :=
  if c = 1 then (s.patchUnits 1 1).find? fun u => s.reg R.pu_ADDRESS u == (s.core 1).pc / 8 else none

/-- The instruction word that a FIX unit serves in place of the store's. -/
def State.fixWord (s : State) (c : Nat) : Option Nat :=
  (s.fixUnit c).map fun u => tget (fun _ => 0) s.service.patch u / 2 ^ (32 * ((s.core 1).pc % 8)) % 2 ^ 32

/-- The BREAK units that match the instruction that core `c` is about to issue, and have not yet done so. -/
def State.breakUnits (s : State) (c : Nat) : List Nat :=
  (s.patchUnits 2 c).filter fun u => s.reg R.pu_ADDRESS u == (s.core c).pc && !(s.core c).met.contains u

/-- BREAK units match: each acts once for the instruction, and one that halts does so before it issues, or at the next boundary.
[DEDUCED, log 236: unsafe] -/
def State.breakHits (s : State) (c : Nat) (us : List Nat) : State :=
  let s := (s.each us State.patchCount).onCore c fun k => { k with met := k.met ++ us }
  match us.find? s.patchHalts with
  | some u => s.haltSoon c 2 u
  | none => s

/-- The instruction at core `c`'s PC is fetched and about to issue: FIX and BREAK units act. -/
def State.fetchHits (s : State) (c : Nat) : State :=
  let s := match s.fixUnit c with
    | some u => s.inc R.pu_HITS u
    | none => s
  match s.breakUnits c with
  | [] => s
  | us => s.breakHits c us

/-- The WATCH units that match an access of core `c`. -/
def State.watchUnits (s : State) (c a : Nat) (write : Bool) : List Nat :=
  (s.patchUnits 3 c).filter fun u =>
    a &&& s.reg R.pu_MASK u == s.reg R.pu_ADDRESS u &&& s.reg R.pu_MASK u && (s.reg R.pu_ACCESS u == 2 || s.reg R.pu_ACCESS u == b2n write)

/-- WATCH units act on a data access of core `c`: a halt comes at the next boundary after it. -/
def State.watchHits (s : State) (c a : Nat) (write : Bool) : State :=
  match s.watchUnits c a write with
  | [] => s
  | us =>
    let s := s.each us State.patchCount
    match us.find? s.patchHalts with
    | some u => s.haltLater c 3 u
    | none => s

/-- No patch unit works on core `c`. -/
def State.unpatched (s : State) (c : Nat) : Bool := (List.range 32).all fun u => s.reg R.pu_MODE u == 0 || s.reg R.pu_CORE u != c

/-! ### Issue -/

/-- The second delay slot of a RETI has acted: IE becomes 1 (Table 15.4). -/
def Core.returned (k : Core) : Core := if k.retInt && k.slots == 0 then { k with ie := true, retInt := false } else k

/-- What Table 15.3 and R450 say of an instruction's places: illegal at all, allowed in a delay slot, in a REPEAT, at the END of a block. -/
structure Places where
  illegal : Bool := false
  inSlot : Bool := true
  inRepeat : Bool := true
  atEnd : Bool := true

/-- The fault of an instruction by its place: fetch (6, 7), illegal (1), placement (2), REPEAT (3). -/
def Core.placeFault (c : Nat) (k : Core) (p : Places) : Option Nat :=
  if c = 0 ∧ k.words ≤ k.pc then some 6
  else if c = 0 ∧ !parityOk 32 (k.progWord k.pc) then some 7
  else if p.illegal then some 1
  else if (decide (0 < k.slots) && !p.inSlot) || ((k.atEnd 0 || k.atEnd 1) && (decide (0 < k.slots) || !p.atEnd)) then some 2
  else if decide (0 < k.rep) && !p.inRepeat then some 3
  else none

/-- One instruction of core `c` issues (R444, R449, R454): nothing while the core does not run, an access of its window stalls it, or a BREAK unit halts
it first (R550); a fault stops the core before any effect; else the writes of the pipeline land, PC moves on, and the instruction acts, its
operands read as they were before.
[DEDUCED, log 135: unsafe, DEDUCED, log 236: unsafe] -/
def State.issue (s : State) (c : Nat) (p : Places) (fault : Core → Option Nat) (act : Core → State → State) : State :=
  let s := if !s.coreRuns c || !(s.core c).asks.isEmpty then s else s.fetchHits c
  let k := s.core c
  if !s.coreRuns c || !k.asks.isEmpty then s
  else
    match k.placeFault c p with
    | some code => s.coreFault c code
    | none =>
      match fault k with
      | some code => s.coreFault c code
      | none =>
        let s := (s.setReg R.core_PC c k.pc).inc R.core_CYCLES c
        ((act k (s.onCore c fun k => (k.landed).next c)).onCore c Core.returned).haltIfDue c

/-- An instruction without places of its own. -/
abbrev plain : Places := {}

def noFault (_ : Core) : Option Nat := none

/-! ### Registers -/

def Core.dAt (k : Core) (i : Nat) : Nat := nth k.d i 0
def Core.dInt (k : Core) (i : Nat) : Int := toSigned 16 (k.dAt i)
def Core.pAt (k : Core) (i : Nat) : Nat := nth k.p i 0
def Core.aAt (k : Core) (i : Nat) : Nat := nth k.a i 0
def Core.aInt (k : Core) (i : Nat) : Int := toSigned 40 (k.aAt i)

def State.setD (s : State) (c i v : Nat) : State := s.onCore c fun k => { k with d := upd k.d i fun _ => v % 2 ^ 16 }
def State.setP (s : State) (c i v : Nat) : State := s.onCore c fun k => { k with p := upd k.p i fun _ => v % 2 ^ 16 }
def State.setA (s : State) (c i : Nat) (z : Int) : State := s.onCore c fun k => { k with a := upd k.a i fun _ => ofSigned 40 z }
def State.lateD (s : State) (c i v : Nat) : State := s.onCore c fun k => { k with late := k.late ++ [.data i (v % 2 ^ 16)] }

/-! ### Data memory (R445, Table 15.2) -/

/-- The low `b` bits of a number in reverse order. -/
def bitReverse (b n : Nat) : Nat := ((List.range b).map fun i => if n.testBit i then 2 ^ (b - 1 - i) else 0).sum

/-- The exponent of a power of two up to 2^15. -/
def log2Exact (n : Nat) : Option Nat := (List.range 16).find? fun b => 2 ^ b == n

/-- The address of an access. -/
def Core.dataAddr (k : Core) (p mode offset : Nat) : Nat := (k.pAt p + (if mode = 5 then offset % 4096 else 0)) % 2 ^ 16

/-- The pointer after an access. -/
def Core.pointerAfter (k : Core) (p mode : Nat) : Nat :=
  let x := k.pAt p
  let step := toSigned 16 (nth k.ps p 0)
  let base := nth k.pb p 0
  let len := nth k.pl p 0
  match mode with
  | 1 => (x + 1) % 2 ^ 16
  | 2 => ofSigned 16 (x + step)
  | 3 => ofSigned 16 (base + ((x : Int) - base + step) % len)
  | 4 =>
    match log2Exact len with
    | some b => x / len * len + bitReverse b ((bitReverse b x + bitReverse b (nth k.ps p 0)) % len)
    | none => x
  | _ => x

/-- Fault 8 of an addressing length. -/
def Core.lengthBad (k : Core) (p mode : Nat) : Bool :=
  (mode == 3 && nth k.pl p 0 == 0) || (mode == 4 && (log2Exact (nth k.pl p 0)).isNone)

/-- An access of core 1 to external memory. -/
def external (c a : Nat) : Bool := c != 0 && decide (0x8000 ≤ a)

/-- The fault of a data access at an address: 3 in a REPEAT on external memory, 5 outside the map, 7 parity on a read. -/
def Core.accessFault (c : Nat) (k : Core) (a : Nat) (read : Bool) : Option Nat :=
  if c = 0 ∧ 0x1000 ≤ a then some 5
  else if external c a && decide (0 < k.rep) then some 3
  else if read && !external c a && !parityOk 16 (k.dataWord a) then some 7
  else none

/-- A halfword of the device address space, as a debugger of the halted core 1 reads it through the window: an access of the steward under the
address map (R27). Poison, and an access that the map does not permit, bring a free value.
[DESIGN CHOICE, log 144: unsafe] -/
def State.windowRead (s : State) (a : Nat) : State × Nat :=
  let x := Config.coreWindow a % 2 ^ 40 / 2 * 2
  match s.masterRead 385 .steward 0 false (x / 32 * 32) with
  | (s, some d) => (s, d / 2 ^ (8 * (x % 32)) % 2 ^ 16)
  | (s, none) => (s.took, s.freeBits 16)

def State.windowWrite (s : State) (a v : Nat) : State :=
  let x := Config.coreWindow a % 2 ^ 40 / 2 * 2
  s.masterWrite 385 .steward 0 (x / 32 * 32) (v % 2 ^ 16 * 2 ^ (8 * (x % 32))) (3 * 2 ^ (x % 32)) false

/-- A data word is read, or written, by a debugger (R549); the core's own accesses of its window go over the rings (`windowAsk`). -/
def State.loadData (s : State) (c a : Nat) : State × Nat :=
  if external c a then s.windowRead a else (s, (s.core c).dataWord a % 2 ^ 16)

def State.storeData (s : State) (c a v : Nat) : State :=
  if external c a then s.windowWrite a v
  else s.onCore c fun k => { k with data := tput (fun _ => 0) a (withParity 16 v) k.data }

/-- An access of core 1's window sets out as a transfer on ring VC3 (R445): a load to register `dest`, or a store of `v`. The core waits for it;
an access that the address map refuses, or that has no copy to read, is over at once.
[DESIGN CHOICE, log 144: unsafe] -/
def State.windowAsk (s : State) (a : Nat) (dest : Option Nat) (v : Nat) : State :=
  let x := Config.coreWindow a % 2 ^ 40 / 2 * 2
  let byte := x % 32
  let tag := ((List.range 256).drop 1 |>.find? fun t =>
    !(s.rings.held.any fun h => h.stop == 385 && h.tag == t) && !(s.dusk.core1.asks.any fun y => y.tag == t)).getD 255
  let s' := s.onCore 1 fun k => { k with asks := k.asks ++ [⟨tag, dest, 8 * byte⟩] }
  let r : MasterReq :=
    { kind := .steward, unit := 0, write := dest.isNone, addr := x / 32 * 32, count := 1,
      posted := false, masked := dest.isNone, mirror := false, vc := .vc3, tag := tag, words := [v % 2 ^ 16 * 2 ^ (8 * byte)],
      mask := 3 * 2 ^ byte }
  let t := opMasterRequest 385 r s'
  let t := if t.rings.held.any fun h => h.stop == 385 && h.tag == tag then t else t.windowDone tag none
  { t with reply := s.reply }

/-- A load by the core, which a WATCH unit may match: the register gets the word after the next instruction has read its operands (Table 15.4). -/
def State.loadTo (s : State) (c d a : Nat) : State :=
  let s := s.watchHits c a false
  if external c a then s.windowAsk a (some d) 0 else s.lateD c d ((s.core c).dataWord a)

/-- A store by the core. -/
def State.storeFrom (s : State) (c a v : Nat) : State :=
  let s := s.watchHits c a true
  if external c a then s.windowAsk a none v else s.storeData c a v

/-! ### I/O ports (Table 15.7) -/

/-- A port that an IN may read on a core, and one that an OUT may write. Those of core 1 above 0x11B belong to its firmware.
[DEDUCED, log 138: unsafe, DEDUCED, log 143: unsafe] -/
def inPort (c port : Nat) : Bool :=
  decide (port < 0x40) || (decide (0x100 ≤ port) && decide (port ≤ 0x108)) || port == 0x10B ||
  (decide (0x110 ≤ port) && decide (port ≤ 0x11B)) || (c != 0 && decide (0x11B < port)) ||
  [0x180, 0x181, 0x182, 0x1A0, 0x1A1, 0x201].contains port

/-- [DEDUCED, log 143: unsafe] -/
def outPort (c port : Nat) : Bool :=
  (decide (0x40 ≤ port) && decide (port ≤ 0x108)) || port == 0x10A || port == 0x10B ||
  (decide (0x110 ≤ port) && decide (port ≤ 0x11B)) || (c != 0 && decide (0x11B < port)) ||
  [0x190, 0x191, 0x192, 0x193, 0x200].contains port

/-- ST (Table 15.6). -/
def Core.status (k : Core) : Nat := b2n k.ie + b2n k.sat * 2 + b2n (decide (0 < k.rep)) * 4 + k.loops * 8 + b2n (!k.asks.isEmpty) * 32

/-- What a port of Table 15.7 reads without a side effect; none for a port of core 1's firmware. -/
def State.portPeek (s : State) (c : Nat) (k : Core) (port : Nat) : Option Nat :=
  if port < 0x40 then some (lockWord (s.reg R.lock_OWNER port) (s.reg R.lock_SUSPECT port) false)
  else if port = 0x100 then some k.status
  else if port ≤ 0x106 then
    let i := (port - 0x101) / 3
    some (match (port - 0x101) % 3 with | 0 => nth k.lc i 0 | 1 => nth k.ls i 0 | _ => nth k.le i 0)
  else if port = 0x107 then some k.irqEn
  else if port = 0x108 then some k.irqPend
  else if port = 0x10B then some k.timer
  else if port < 0x114 then some (nth k.ps (port - 0x110) 0)
  else if port < 0x118 then some (nth k.pb (port - 0x114) 0)
  else if port < 0x11C then some (nth k.pl (port - 0x118) 0)
  else if c ≠ 0 then none
  else match port with
    | 0x180 => some ((s.power.fifo.head?).elim 0 Prod.snd)
    | 0x181 => some s.power.chan
    | 0x182 => some s.power.fifo.length
    | 0x1A0 => some (s.stamp / 1000 % 2 ^ 16)
    | 0x1A1 => some s.dusk.timeHi
    | _ => some s.dusk.mbx

/-- A port is read by the core: an acquire, a sample taken, TIME_HI latched. -/
def State.portTake (s : State) (c : Nat) (k : Core) (port : Nat) : State × Nat :=
  if port < 0x40 then s.lockTake port (c + 1)
  else if c = 0 ∧ port = 0x180 then s.takeSample
  else
    let s : State := if c = 0 ∧ port = 0x1A0 then { s with dusk := { s.dusk with timeHi := s.stamp / 1000 / 2 ^ 16 % 2 ^ 16 } } else s
    match s.portPeek c k port with
    | some v => (s, v % 2 ^ 16)
    | none => (s.took, s.freeBits 16)

/-- The raises of the last second (R461). -/
def State.recentRaises (s : State) : List Nat := s.dusk.raises.filter fun t => decide (s.mono < t + 1000000000)

/-- A write to RAISE_DATA (R461). -/
def State.raiseFromWatch (s : State) (v : Nat) : State :=
  if 1000 ≤ s.recentRaises.length then s.inc R.wp_RAISE_DROPPED
  else
    let s : State := { s with dusk := { s.dusk with raises := s.mono :: s.recentRaises } }
    (s.inc R.wp_RAISED).raise (0x8080 + s.dusk.raiseCode % 128) (v % 2 ^ 16)

/-- The steward takes requests of class WATCH: from step 5 of Daybreak on, but in NIGHT (R479), HELD or DARK (R486), and not while it restarts or has
stopped (R493, R494); a halted one lets them wait (R546). -/
def State.mailboxOpen (s : State) : Bool :=
  !s.boot.restarting && !s.boot.stopped && s.boot.done.contains 5 && (s.phase == .run || s.phase == .daybreak)

/-- A write to MBX_GO (R462): the request waits in the WATCH queue (R423); where the steward takes none, it receives no response, as R479 says of NIGHT.
[DEDUCED, log 279: unsafe] -/
def State.mailboxGo (s : State) (addr : Nat) : State :=
  if s.dusk.mbx = 1 ∨ !s.mailboxOpen then s.inc R.wp_MBX_REFUSED
  else
    let s : State := { s with dusk := { s.dusk with mbx := 1, mbxAddr := addr % 2 ^ 16, mbxReply := none } }
    let q := upd s.steward.queues 4 fun l => l ++ [{ port := .spi, data := [] }]
    let s : State := { s with steward := { s.steward with queues := q } }
    (s.inc R.wp_MBX_REQUESTS).peak R.stw_QUEUE_PEAK 0 (q.map List.length).sum

/-- IRQ_PEND clears by writing 1; line 0 stays pending while the ADC FIFO holds a sample.
[DEDUCED, log 150: unsafe] -/
def State.ackLines (s : State) (c v : Nat) : State :=
  s.onCore c fun k =>
    let kept := if c = 0 ∧ !s.power.fifo.isEmpty then v / 2 * 2 else v
    { k with irqPend := k.irqPend ^^^ (k.irqPend &&& kept) }

/-- A value is written to a repeat register, LC0 to LE1. -/
def Core.setRepeat (k : Core) (j v : Nat) : Core :=
  match j % 3 with
  | 0 => { k with lc := upd k.lc (j / 3) fun _ => v }
  | 1 => { k with ls := upd k.ls (j / 3) fun _ => v }
  | _ => { k with le := upd k.le (j / 3) fun _ => v }

/-- A core acts on a lock that it owns; any other access is counted in MISUSE and ignored (R458). -/
def State.ownLock (s : State) (c n : Nat) (act : State → State) : State :=
  if s.reg R.lock_OWNER n = c + 1 then act s else s.inc R.lu_MISUSE

/-- A word is written to a port by the core.
[DEDUCED, log 138: unsafe] -/
def State.portPut (s : State) (c port v : Nat) : State :=
  if port < 0x80 then s.ownLock c (port - 0x40) fun s => s.lockFree (port - 0x40)
  else if port < 0xC0 then s.ownLock c (port - 0x80) fun s => s.renewLease (port - 0x80)
  else if port < 0x100 then s.ownLock c (port - 0xC0) fun s => s.lockTrust (port - 0xC0)
  else if port = 0x100 then s.onCore c fun k => { k with ie := v.testBit 0, sat := v.testBit 1 }
  else if port ≤ 0x106 then s.onCore c fun k => k.setRepeat (port - 0x101) v
  else if port = 0x107 then s.onCore c fun k => { k with irqEn := v }
  else if port = 0x108 then s.ackLines c v
  else if port = 0x10A then s.kick c v
  else if port = 0x10B then s.onCore c fun k => { k with timer := v, timerFrom := s.mono }
  else if port ≤ 0x11B then s.onCore c fun k => { k with late := k.late ++ [.setting port v] }
  else if c ≠ 0 then s
  else match port with
    | 0x190 => s.wakeBy 3
    | 0x191 => s.thermalTrip 2 0 v
    | 0x192 => { s with dusk := { s.dusk with raiseCode := v % 128 } }
    | 0x193 => s.raiseFromWatch v
    | _ => s.mailboxGo v

end Sys2Proof.Machine
end

