-- ==== Sys2Proof/Machine/DuskOps.lean ====
section
/-! DEFINITION. The instructions of the Dusk cores (R446 to R452, Table 15.3): what each does when it issues. Operands are those of the
core before the instruction; results are forwarded to the next one (Table 15.4). -/

namespace Sys2Proof.Machine

/-! ### ALU -/

/-- An ALU instruction: DST gets a value of the core's registers. -/
def State.alu (s : State) (c dst : Nat) (f : Core → Int) : State :=
  s.issue c plain noFault fun k s => s.setD c dst (ofSigned 16 (f k))

def opDuskAdd (c dst a b : Nat) (s : State) : State := s.alu c dst fun k => k.dAt a + k.dAt b
def opDuskSub (c dst a b : Nat) (s : State) : State := s.alu c dst fun k => (k.dAt a : Int) - k.dAt b
def opDuskAnd (c dst a b : Nat) (s : State) : State := s.alu c dst fun k => (k.dAt a &&& k.dAt b : Nat)
def opDuskOr (c dst a b : Nat) (s : State) : State := s.alu c dst fun k => (k.dAt a ||| k.dAt b : Nat)
def opDuskXor (c dst a b : Nat) (s : State) : State := s.alu c dst fun k => (k.dAt a ^^^ k.dAt b : Nat)
def opDuskShl (c dst a b : Nat) (s : State) : State := s.alu c dst fun k => (k.dAt a * 2 ^ (k.dAt b % 16) : Nat)
def opDuskShra (c dst a b : Nat) (s : State) : State := s.alu c dst fun k => k.dInt a / (2 ^ (k.dAt b % 16) : Nat)
def opDuskShrl (c dst a b : Nat) (s : State) : State := s.alu c dst fun k => (k.dAt a / 2 ^ (k.dAt b % 16) : Nat)
def opDuskMov (c dst a : Nat) (s : State) : State := s.alu c dst fun k => k.dAt a

/-- TOP: pointer P[DST[1:0]] gets SRC1. -/
def opDuskTop (c dst a : Nat) (s : State) : State := s.issue c plain noFault fun k s => s.setP c (dst % 4) (k.dAt a)

/-- FROMP: DST gets pointer P[SRC1[1:0]]. -/
def opDuskFromp (c dst a : Nat) (s : State) : State := s.alu c dst fun k => k.pAt (a % 4)

/-- MIN and MAX compare the data words as signed numbers.
[DEDUCED, log 140: unsafe] -/
def opDuskMin (c dst a b : Nat) (s : State) : State := s.alu c dst fun k => min (k.dInt a) (k.dInt b)
/-- [DEDUCED, log 140: unsafe] -/
def opDuskMax (c dst a b : Nat) (s : State) : State := s.alu c dst fun k => max (k.dInt a) (k.dInt b)

def opDuskAddi (c dst imm : Nat) (s : State) : State := s.alu c dst fun k => k.dAt dst + toSigned 13 imm
def opDuskAndi (c dst imm : Nat) (s : State) : State := s.alu c dst fun k => (k.dAt dst &&& (imm % 2 ^ 13) : Nat)
def opDuskOri (c dst imm : Nat) (s : State) : State := s.alu c dst fun k => (k.dAt dst ||| (imm % 2 ^ 13) : Nat)
def opDuskXori (c dst imm : Nat) (s : State) : State := s.alu c dst fun k => (k.dAt dst ^^^ (imm % 2 ^ 13) : Nat)

/-- MOVI: TARGET 0 to 7 is a data register, 8 to 11 a pointer; the others are reserved. -/
def opDuskMovi (c target imm : Nat) (s : State) : State :=
  s.issue c { illegal := decide (12 ≤ target) } noFault fun _ s => if target < 8 then s.setD c target imm else s.setP c (target - 8) imm

/-! ### Memory -/

/-- The pointer of an access moves (modes 1 to 4). -/
def State.movePointer (s : State) (c : Nat) (k : Core) (p mode : Nat) : State :=
  if 1 ≤ mode ∧ mode ≤ 4 then s.setP c p (k.pointerAfter p mode) else s

def Core.memFault (c p mode offset : Nat) (read : Bool) (k : Core) : Option Nat :=
  if k.lengthBad p mode then some 8 else k.accessFault c (k.dataAddr p mode offset) read

/-- LD: the register gets the word after the next instruction has read its operands (Table 15.4). -/
def opDuskLd (c d p mode offset : Nat) (s : State) : State :=
  s.issue c { illegal := decide (6 ≤ mode) } (Core.memFault c p mode offset true) fun k s =>
    (s.loadTo c d (k.dataAddr p mode offset)).movePointer c k p mode

def opDuskSt (c d p mode offset : Nat) (s : State) : State :=
  s.issue c { illegal := decide (6 ≤ mode) } (Core.memFault c p mode offset false) fun k s =>
    (s.storeFrom c (k.dataAddr p mode offset) (k.dAt d)).movePointer c k p mode

/-! ### Multiply (R447) -/

/-- With L = 1, D6 and D7 are loaded from (P0) and (P1), both in mode 1. -/
def State.dualLoad (s : State) (c : Nat) (k : Core) (load : Bool) : State :=
  if !load then s else ((((s.loadTo c 6 (k.pAt 0)).loadTo c 7 (k.pAt 1)).movePointer c k 0 1).movePointer c k 1 1)

def Core.dualFault (c : Nat) (load : Bool) (k : Core) : Option Nat :=
  if !load then none
  else match k.accessFault c (k.pAt 0) true with
    | some code => some code
    | none => k.accessFault c (k.pAt 1) true

/-- The product p. -/
def Core.product (k : Core) (dx dy : Nat) (frac : Bool) : Int := k.dInt dx * k.dInt dy * (if frac then 2 else 1)

/-- A MAC-class instruction: the accumulator gets a value modulo 2^40. -/
def State.mac (s : State) (c acc : Nat) (load : Bool) (f : Core → Int) : State :=
  s.issue c plain (Core.dualFault c load) fun k s => (s.setA c acc (f k)).dualLoad c k load

def opDuskMpy (c acc : Nat) (frac : Bool) (dx dy : Nat) (load : Bool) (s : State) : State :=
  s.mac c acc load fun k => k.product dx dy frac

def opDuskMac (c acc : Nat) (frac : Bool) (dx dy : Nat) (load : Bool) (s : State) : State :=
  s.mac c acc load fun k => k.aInt acc + k.product dx dy frac

def opDuskMsu (c acc : Nat) (frac : Bool) (dx dy : Nat) (load : Bool) (s : State) : State :=
  s.mac c acc load fun k => k.aInt acc - k.product dx dy frac

def opDuskClr (c acc : Nat) (load : Bool) (s : State) : State := s.mac c acc load fun _ => 0

/-! ### Accumulators (R447, R448) -/

/-- An accumulator instruction: A gets a value of the core's registers. -/
def State.accOp (s : State) (c acc : Nat) (f : Core → Int) : State := s.mac c acc false f

def opDuskLda (c acc d : Nat) (s : State) : State := s.accOp c acc fun k => k.dInt d * 2 ^ 16
def opDuskLdal (c acc d : Nat) (s : State) : State := s.accOp c acc fun k => k.dInt d

/-- MOVH: A[31:16], saturated when ST.SAT is 1 and A[39:31] are not all equal. -/
def Core.high (k : Core) (acc : Nat) : Nat :=
  let a := k.aAt acc
  let top := bits a 39 31
  if k.sat && top != 0 && top != 511 then (if a.testBit 39 then 0x8000 else 0x7FFF) else bits a 31 16

def opDuskMovh (c d acc : Nat) (s : State) : State := s.alu c d fun k => k.high acc
def opDuskMovl (c d acc : Nat) (s : State) : State := s.alu c d fun k => k.aAt acc % 2 ^ 16

/-- A shift: left when the count is positive, arithmetically right when negative. -/
def shiftBy (a n : Int) : Int := if 0 ≤ n then a * 2 ^ n.toNat else a / 2 ^ (-n).toNat

def opDuskAsh (c acc : Nat) (shift : Int) (s : State) : State := s.accOp c acc fun k => shiftBy (k.aInt acc) shift

/-- NORM: by D, −8 to 31; another D faults with code 8. -/
def opDuskNorm (c acc d : Nat) (s : State) : State :=
  s.issue c plain (fun k => if -8 ≤ k.dInt d ∧ k.dInt d ≤ 31 then none else some 8) fun k s =>
    s.setA c acc (shiftBy (k.aInt acc) (k.dInt d))

/-- How many leading bits of A[39:0] equal bit 39. -/
def leading (a : Nat) : Nat :=
  ((List.range 40).find? fun i => a.testBit (39 - i) != a.testBit 39).getD 40

def opDuskExp (c d acc : Nat) (s : State) : State := s.alu c d fun k => (leading (k.aAt acc) : Int) - 9

/-- ADDA adds the other accumulator, modulo 2^40. -/
def opDuskAdda (c acc : Nat) (s : State) : State := s.accOp c acc fun k => k.aInt acc + k.aInt (1 - acc)

/-- A result of NEG or ABS that 40 bits do not hold: the manual states none, so it is a free value.
[DESIGN CHOICE, log 142: safe] -/
def State.accExact (s : State) (c acc : Nat) (f : Core → Int) : State :=
  s.issue c plain noFault fun k s =>
    let z := f k
    if -(2 ^ 39) ≤ z ∧ z < 2 ^ 39 then s.setA c acc z else (s.setA c acc (s.freeBits 40)).took

def opDuskNeg (c acc : Nat) (s : State) : State := s.accExact c acc fun k => - k.aInt acc
def opDuskAbs (c acc : Nat) (s : State) : State := s.accExact c acc fun k => (k.aInt acc).natAbs

/-! ### Control flow (R449 to R451) -/

/-- Places of branches, calls and returns: not in a delay slot, a REPEAT, or at the END of a block. -/
def jumpPlaces : Places := { inSlot := false, inRepeat := false, atEnd := false }

/-- PC continues at `target` after two delay slots. -/
def State.jumpAfter (s : State) (c target : Nat) : State := s.onCore c fun k => { k with slots := 2, target := target }

/-- The conditions of a branch. -/
def condHolds (cond : Nat) (v : Int) : Bool :=
  match cond with
  | 0 => true
  | 1 => decide (v = 0)
  | 2 => decide (v ≠ 0)
  | 3 => decide (v < 0)
  | 4 => decide (0 ≤ v)
  | 5 => decide (0 < v)
  | _ => decide (v ≤ 0)

/-- A branch: its two delay slots execute whether or not it is taken. -/
def opDuskBranch (c cond d target : Nat) (s : State) : State :=
  s.issue c { jumpPlaces with illegal := decide (7 ≤ cond) } noFault fun k s =>
    s.jumpAfter c (if condHolds cond (k.dInt d) then pageTarget c k.pc target else pcWrap c (k.pc + 3))

def opDuskCall (c target : Nat) (s : State) : State :=
  s.issue c jumpPlaces (fun k => if 8 ≤ k.stack.length then some 9 else none) fun k s =>
    (s.onCore c fun x => { x with stack := pcWrap c (k.pc + 3) :: x.stack }).jumpAfter c (pageTarget c k.pc target)

/-- A return pops the call stack. -/
def State.returnFrom (s : State) (c : Nat) (int : Bool) : State :=
  s.issue c jumpPlaces (fun k => if k.stack.isEmpty then some 9 else none) fun k s =>
    (s.onCore c fun x => { x with stack := x.stack.drop 1, retInt := int }).jumpAfter c (k.stack.headD 0)

def opDuskRet (c : Nat) (s : State) : State := s.returnFrom c false

/-- RETI: IE becomes 1 after the second delay slot. -/
def opDuskReti (c : Nat) (s : State) : State := s.returnFrom c true

/-- A count taken from a register must be 1 to 4,096. -/
def countBad (n : Nat) : Bool := n == 0 || decide (4096 < n)

/-- REPEAT: the next instruction issues N + 1 times, or D times. -/
def opDuskRepeat (c : Nat) (reg : Bool) (d n : Nat) (s : State) : State :=
  s.issue c { inSlot := false, inRepeat := false } (fun k => if reg && countBad (k.dAt d) then some 4 else none) fun k s =>
    s.onCore c fun x => { x with rep := if reg then k.dAt d else n % 4096 + 1 }

/-- BREP: the block from the next instruction to END runs D times; the outer level, or the inner one if the outer is active (R451). -/
def opDuskBrep (c d last : Nat) (s : State) : State :=
  s.issue c { inSlot := false, inRepeat := false }
    (fun k => if (k.looping 0 && k.looping 1) || countBad (k.dAt d) then some 4 else none) fun k s =>
    let i := b2n (k.looping 0)
    s.onCore c fun x => { x with lc := upd x.lc i fun _ => k.dAt d, ls := upd x.ls i fun _ => x.pc % 65536,
                                 le := upd x.le i fun _ => pageTarget c k.pc last % 65536 }

/-! ### Ports and the rest -/

/-- IN: the word reaches D after the next instruction has read its operands. -/
def opDuskIn (c d port : Nat) (s : State) : State :=
  s.issue c { inRepeat := false } (fun _ => if inPort c port then none else some 5) fun k s =>
    match s.portTake c k port with
    | (s, v) => s.lateD c d v

def opDuskOut (c port d : Nat) (s : State) : State :=
  s.issue c { inRepeat := false } (fun _ => if outPort c port then none else some 5) fun k s => s.portPut c port (k.dAt d)

def opDuskNop (c : Nat) (s : State) : State := s.issue c plain noFault fun _ s => s

/-- IDLE waits until a line whose IRQ_EN bit is 1 is pending (R452). -/
def opDuskIdle (c : Nat) (s : State) : State :=
  s.issue c { inSlot := false, inRepeat := false } noFault fun _ s => (s.coreState c 2).wakeIdle c

def opDuskEi (c : Nat) (s : State) : State := s.issue c plain noFault fun _ s => s.onCore c fun k => { k with ie := true }

def opDuskDi (c : Nat) (s : State) : State := s.issue c plain noFault fun _ s => s.onCore c fun k => { k with ie := false }

/-- TRAP faults with code 10. -/
def opDuskTrap (c : Nat) (s : State) : State := s.issue c plain (fun _ => some 10) fun _ s => s

/-- LJMP: core 1 jumps to the 22-bit target in D0 and D1 (low half first), with no delay slot; illegal on core 0.
[DEDUCED, log 139: unsafe] -/
def opDuskLjmp (c : Nat) (s : State) : State :=
  s.issue c { illegal := c == 0, inSlot := false, inRepeat := false } noFault fun k s =>
    s.onCore c fun x => { x with pc := (k.dAt 0 + k.dAt 1 * 2 ^ 16) % 2 ^ 22 }

/-! ### Interrupts, timer, watchdogs -/

/-- The lowest pending enabled line. -/
def Core.lowestLine (k : Core) : Option Nat := (List.range 16).find? fun n => (k.irqPend &&& k.irqEn).testBit n

/-- The lowest pending enabled line is taken at a legal boundary (R452): 4 core cycles; the return address is pushed, IE cleared. It
ends at a boundary.
[DEDUCED, log 145: unsafe] -/
def opInterruptEntry (c : Nat) (s : State) : State :=
  let k := s.core c
  if !s.coreRuns c || !k.ie || !k.atBoundary then s
  else
    match k.lowestLine with
    | none => s
    | some n =>
      if 8 ≤ k.stack.length then s.coreFault c 9
      else
        let s := s.onCore c fun k =>
          let k := k.landed
          { k with stack := k.pc :: k.stack, ie := false, pc := 4 * n }
        ((s.add R.core_CYCLES c 4).peak R.core_IRQ_LATENCY_MAX c (s.mono - nth k.pendSince n 0 + 10)).haltIfDue c

/-- The TIMER period elapses (Table 15.5). -/
def opTimerExpiry (t : Nat) (s : State) : State :=
  let s := s.advanceTo t
  let k := s.dusk.core0
  if k.timer ≠ 0 ∧ k.timerFrom + k.timer * 1000 ≤ s.mono ∧ (s.watched 0 ∨ k.haltedAt.isSome) then
    (s.onCore 0 fun k => { k with timerFrom := k.timerFrom + k.timer * 1000 }).raiseLine 2
  else s

/-- An OUT of `value` to WDT_KICK at instant `t` (R455). -/
def opWatchdogKick (t c value : Nat) (s : State) : State :=
  let s := s.advanceTo t
  if s.coreRuns c then s.kick c value else s

/-- The watchdog reaches WDT_CLOSE − WDT_WARN (R455). -/
def opWatchdogWarning (t c : Nat) (s : State) : State :=
  let s := s.advanceTo t
  let k := s.core c
  if s.watched c ∧ !k.warned ∧ k.kickAt + (s.reg R.core_WDT_CLOSE c - s.reg R.core_WDT_WARN c) * 1000 ≤ s.mono then
    (s.onCore c fun k => { k with warned := true }).raiseCoreLine c 4
  else s

/-- The watchdog reaches WDT_CLOSE without a kick (R455, R456). -/
def opWatchdogExpiry (t c : Nat) (s : State) : State :=
  let s := s.advanceTo t
  if s.watched c ∧ (s.core c).kickAt + s.reg R.core_WDT_CLOSE c * 1000 ≤ s.mono then s.watchdogExpire c 0 else s

/-! ### Watch programs (R460 to R462) -/

/-- Core 0 is STOPPED or FAULTED. -/
def State.watchStill (s : State) : Bool := s.reg R.core_STATE 0 == 0 || s.reg R.core_STATE 0 == 3

/-- [DEDUCED, log 148: unsafe] -/
def opWatchStart (w : Who) (s : State) : State :=
  s.writeAs w R.wp_COMMAND 0 true fun s => if !s.watchStill then s.stateError else (s.runImage (s.dom R.wp_IMAGE)).ok

def opWatchStop (w : Who) (s : State) : State := s.writeAs w R.wp_COMMAND 0 true fun s => s.resetCore0.ok

/-- [DEDUCED, log 148: unsafe] -/
def opWatchStore (w : Who) (s : State) : State :=
  s.writeAs w R.wp_COMMAND 0 true fun s =>
    let l := s.dom R.wp_IMAGE
    let s : State := { s with dusk := { s.dusk with stored := if l.isEmpty then none else some l } }
    (s.setReg R.wp_STORED_CRC 0 (leAt l 12 4)).ok

/-- Step 6 of Daybreak starts the stored program when AUTOSTART is 1 and core 0 is STOPPED (R460). -/
def State.autostart (s : State) : State :=
  match s.dusk.stored with
  | some l => if s.on R.wp_AUTOSTART && s.reg R.core_STATE 0 == 0 then s.runImage l else s
  | none => s

def opRaiseData (data : Nat) (s : State) : State := if s.coreRuns 0 then s.raiseFromWatch data else s

def opMbxGo (addr : Nat) (s : State) : State := if s.coreRuns 0 then s.mailboxGo addr else s

/-- The bytes of core 0's data RAM from a word address on, two to a word, low byte first.
[DEDUCED, log 151: unsafe] -/
def State.ramBytes (s : State) (addr n : Nat) : List Byte :=
  ((List.range (ceilDiv n 2)).flatMap fun i => leBytes 2 (s.dusk.core0.dataWord ((addr + i) % 0x1000) % 2 ^ 16)).take n

/-- Bytes are written to core 0's data RAM from a word address on; a last odd byte leaves the other half of its word.
[DEDUCED, log 151: unsafe] -/
def State.putRam (s : State) (addr : Nat) (l : List Byte) : State :=
  s.each (List.range (ceilDiv l.length 2)) fun s i =>
    let a := (addr + i) % 0x1000
    let old := s.dusk.core0.dataWord a % 2 ^ 16
    let new := leAt l (2 * i) 2
    s.storeData 0 a (if 2 * i + 1 < l.length then new else new + old / 256 * 256)

/-- The steward's response is written in place; MBX_STATE becomes 2 and line 3 is raised (R462). -/
def opMailboxAnswer (s : State) : State :=
  match s.dusk.mbxReply with
  | none => s
  | some l =>
    let s := s.putRam s.dusk.mbxAddr l
    State.raiseLine { s with dusk := { s.dusk with mbx := 2, mbxReply := none } } 3

end Sys2Proof.Machine
end

