-- ==== Sys2Proof/Machine/Service.lean ====
section
/-! DEFINITION. Life-cycle, the debug port and the service session (chapter 20): fuses and COMMIT, the TAP instructions, authentication,
the DEBUG operations, patch units, tamper. The record stream and the terminal are in Terminal.lean. -/

namespace Sys2Proof.Machine

def State.onService (s : State) (u : Service → Service) : State := { s with service := u s.service }

/-! ### Life-cycle (R536 to R538) -/

/-- The last column of Table 20.1: the states that may follow state `v`. -/
def nextLifecycle : Nat → List Nat
  | 0 => [1, 2, 4]
  | 1 => [2, 4]
  | 2 => [3, 4]
  | 3 => [4]
  | _ => []

/-- Whether the fuses that state `v` needs are blown. -/
def Service.ready (x : Service) (v : Nat) : Bool :=
  match v with
  | 1 => x.devDigest.isSome
  | 2 => x.serviceKeyDigest.isSome && x.imageKey.isSome
  | _ => true

/-- The low 32 bits of UNIQUE_ID. -/
def State.uniqueLow (s : State) : Nat := s.reg R.ident_UNIQUE_ID % 2 ^ 32

/-- Whether a party may write COMMIT: a service session with the LIFECYCLE right, or HOST in BLANK. -/
def State.mayCommit (s : State) (w : Who) : Bool :=
  (w.cls == .service && (s.reg R.dbg_RIGHTS).testBit 4) || (w.cls == .host && s.reg R.lc_STATE == 0)

/-- A record has come in through an open session (R544). -/
def State.heardRecord (s : State) : State := if s.on R.dbg_SESSION then s.onService fun x => { x with lastRecord := s.mono } else s

/-- The end of a service session with a cause of event 0xA003 (R544): its OBP sessions close (R433). -/
def State.endService (s : State) (cause : Nat) : State :=
  if !s.on R.dbg_SESSION then s
  else
    let s := (s.setReg R.dbg_SESSION 0 0).setReg R.dbg_RIGHTS 0 0
    let s := s.onService fun x => { x with key := none, tap := if 3 ≤ x.tap ∧ x.tap ≤ 5 then 0xFF else x.tap }
    (s.closeClass 3 3).raise 0xA003 cause

/-- A wipe begins; it ends the service session, at once or, while core 1 is halted, when that core resumes (R544, R553). -/
def State.startWipe (s : State) (cause : Nat) : State :=
  let s := s.wipe cause
  if s.dusk.core1.haltedAt.isSome then s else s.endService 3

/-- A write to COMMIT (R537).
[DEDUCED, log 181: unsafe] -/
def opLifecycleCommit (w : Who) (value : Nat) (s : State) : State :=
  if s.dictAnswers w && !s.mayCommit w then s.accessDenied
  else s.writeAs w R.lc_COMMIT 0 (value == s.uniqueLow) fun s =>
    let v := s.reg R.lc_TARGET
    if s.service.commit.isSome || !(nextLifecycle (s.reg R.lc_STATE)).contains v || !s.service.ready v then s.stateError
    else ((s.onService fun x => { x with commit := some v }).startWipe 2).ok

/-- The target's fuse group is wholly blown (R537): event 0xA006 is logged, and a pin reset starts Daybreak, whose step 3 takes the new state.
[DEDUCED, log 181: unsafe, DEDUCED, log 289: unsafe] -/
def opFuseBlowComplete (s : State) : State :=
  match s.service.commit with
  | none => s
  | some v =>
    if s.scratch.wiping || !s.storeAccepts then s
    else
      let s := s.raise 0xA006 (s.reg R.lc_STATE + v * 16)
      let r := s.log.queue.filter fun e => e.code == 0xA006
      let s := s.onLog fun l => { l with queue := l.queue.filter fun e => e.code != 0xA006 }
      let s := s.each r State.writeRecord
      (s.onService fun x => x.setGroup v true).fullReset 1

/-- A digest or key is fused once, in BLANK or DEVELOP (R538). -/
def State.fuseOnce (s : State) (w : Who) (r : Reg) (len : Nat) (l : List Byte) (held : Service → Option (List Byte))
    (put : Service → Service) : State :=
  s.writeChecked w r 0 (l.length == len) true fun s =>
    if (held s.service).isSome ∨ 1 < s.reg R.lc_STATE then s.stateError else (s.onService put).ok

def opDevDigest (w : Who) (l : List Byte) (s : State) : State :=
  s.fuseOnce w R.lc_DEV_DIGEST 48 l Service.devDigest fun x => { x with devDigest := some l }

def opServiceKeyDigest (w : Who) (l : List Byte) (s : State) : State :=
  s.fuseOnce w R.lc_SERVICE_KEY_DIGEST 48 l Service.serviceKeyDigest fun x => { x with serviceKeyDigest := some l }

/-- IMAGE_KEY is fused; KEY_SET follows (R355). -/
def opImageKey (w : Who) (l : List Byte) (s : State) : State :=
  s.fuseOnce w R.lc_IMAGE_KEY 32 l Service.imageKey fun x => { x with imageKey := some l }

/-! ### The test access port (R539, Table 20.2) -/

/-- TRST_N is low: the TAP stays in Test-Logic-Reset (R570). -/
def State.tapHeld (s : State) : Bool := !s.board.trstN

/-- The TAP holds instruction `v`; in Test-Logic-Reset it holds IDCODE.
[PRESUMED, log 185: unsafe] -/
def State.tapTo (s : State) (v : Nat) : State := (s.onService fun x => { x with tap := if s.tapHeld then 0x01 else v }).ok

/-- The instruction as which a code acts (Table 20.2): EXTEST, CLAMP and HIGHZ need the SCAN right, and any other code is BYPASS. -/
def State.tapCode (s : State) (code : Nat) : Nat :=
  match code with
  | 0x01 | 0x02 | 0x10 => code
  | 0x03 | 0x04 | 0x05 => if (s.reg R.dbg_RIGHTS).testBit 3 then code else 0xFF
  | _ => 0xFF

/-- A code is shifted into the instruction register. -/
def State.tapLoad (s : State) (code : Nat) : State := s.tapTo (s.tapCode code)

def opTapBypass (s : State) : State := s.tapLoad 0xFF

/-- IDCODE reads 0x2A5646DB. -/
def opTapIdcode (s : State) : State := if s.tapHeld then s.tapLoad 0x01 else (s.tapLoad 0x01).answerWith (leBytes 4 0x2A5646DB)

/-- SAMPLE/PRELOAD: the boundary cells capture the pins, and take what is shifted in; the command carries neither.
[DESIGN CHOICE, log 287: safe] -/
def opTapSamplePreload (s : State) : State :=
  let s := s.tapLoad 0x02
  if s.tapHeld then s else s.took.onService fun x => { x with cells := s.freeBits scanPins.length }

def opTapExtest (s : State) : State := s.tapLoad 0x03
def opTapClamp (s : State) : State := s.tapLoad 0x04
def opTapHighz (s : State) : State := s.tapLoad 0x05

/-- Test-Logic-Reset ends an open service session (R540) and selects IDCODE.
[PRESUMED, log 185: unsafe] -/
def opTestLogicReset (s : State) : State := (s.endService 0).tapTo 0x01

/-- What drives a ball of the boundary register: the device's own function, its cell under EXTEST and CLAMP, nothing under HIGHZ. -/
inductive PinDrive where
  | function
  | cell (level : Bool)
  | highZ
  deriving DecidableEq, Repr

/-- What drives a ball now.
[PRESUMED, log 185: unsafe] -/
def State.pinDrive (s : State) (b : Ball) : PinDrive :=
  match scanPins.findIdx? (· == b) with
  | none => .function
  | some i => match s.service.tap with
    | 0x03 | 0x04 => .cell (s.service.cells.testBit i)
    | 0x05 => .highZ
    | _ => .function

/-- The level at which the device drives GPIO pin `p`: its output register's unless boundary scan takes the pin; none where it does not drive it. -/
def State.gpioLevel (s : State) (p : Nat) : Option Bool :=
  match s.pinDrive (.gpio p) with
  | .function => some (tget (fun _ => ({} : PinRegs)) s.fabric.pins p).output
  | .cell v => some v
  | .highZ => none

/-- Whether the device asserts EVT_N[i] (R513): as PINS says unless boundary scan takes the pin; its driver is an open drain (R570). -/
def State.evtAsserted (s : State) (i : Nat) : Bool :=
  match s.pinDrive (.pin (.evtN i)) with
  | .function => s.evtPins.testBit i
  | .cell v => !v
  | .highZ => false

/-! ### Outbound records (Table 20.3) -/

/-- The IV of a tagged record: direction and the count of earlier tagged records. -/
def tagIv (dir n : Nat) : List Byte := leBytes 4 dir ++ leBytes 8 n

/-- A record joins the outbound stream, tagged in a key-exchange session. -/
def State.sendRecord (s : State) (ty : Nat) (payload : List Byte) : State :=
  let body := leBytes 1 ty ++ leBytes 2 payload.length ++ payload
  s.onService fun x => match x.key with
    | some k => { x with out := x.out ++ body ++ padTo 16 (Config.gcmSeal k (tagIv 1 x.tagsOut) body []), tagsOut := x.tagsOut + 1 }
    | none => { x with out := x.out ++ body }

/-! ### Authentication (R542, R543) -/

/-- A RESULT of authentication (Table 20.4). -/
def State.sendResult (s : State) (status : Nat) : State :=
  s.sendRecord 1 ([0x82] ++ leBytes 1 status ++ leBytes 1 (s.reg R.dbg_RIGHTS) ++ leBytes 4 s.lockoutLeft)

/-- A refusal: FAILS, the lockout it brings, event 0xA002 with its reason, and the RESULT (R543).
[DEDUCED, log 176: unsafe] -/
def State.refuseAuth (s : State) (status reason : Nat) : State :=
  let s := s.inc R.dbg_FAILS
  let n := s.reg R.dbg_FAILS
  let s := if 3 ≤ n then s.onService fun x => { x with lockUntil := s.mono + min 1024 (2 ^ (min n 13 - 3)) * 1000000000 } else s
  (s.raise 0xA002 (reason + n % 2 ^ 16 * 2 ^ 16)).sendResult status

/-- A session opens with its rights (R543); its RESULT leaves before the first tagged record.
[DEDUCED, log 178: unsafe] -/
def State.grantAuth (s : State) (kind rights : Nat) (key : Option (List Byte)) : State :=
  let s := ((s.setReg R.dbg_SESSION 0 kind).setReg R.dbg_RIGHTS 0 rights).setReg R.dbg_FAILS 0 0
  let s := s.onService fun x => { x with lockUntil := 0, badTags := 0, lastRecord := s.mono }
  let s := s.sendResult 0
  (s.onService fun x => { x with key := key, tagsIn := 0, tagsOut := 0 }).raise 0xA001 (kind + rights * 256)

/-- Number, ND and QD of a fresh challenge; the 32 random bytes are a free value. -/
def State.newChallenge (s : State) : State :=
  let c : Challenge := ⟨s.service.challenges, leBytes 32 (s.freeBits 256), padTo 97 (Config.ephemeralPoint s.service.challenges)⟩
  let s := s.took.onService fun x => { x with challenges := x.challenges + 1, challenge := some c }
  s.sendRecord 1 ([0x81] ++ leBytes 1 (s.reg R.lc_STATE) ++ leBytes 8 (s.reg R.ident_UNIQUE_ID) ++ c.nd ++ c.qd)

/-- A HELLO (R542 to R544); while TRST_N holds the port in Test-Logic-Reset none comes in (R570).
[DEDUCED, log 176: unsafe, DEDUCED, log 177: unsafe] -/
def opHello (t : Nat) (s : State) : State :=
  let s := s.advanceTo t
  if s.tapHeld then s else
  let s := (s.endService 5).onService fun x => { x with challenge := none }
  if s.reg R.lc_STATE = 4 then s.refuseAuth 3 2
  else if s.mono < s.service.lockUntil then s.refuseAuth 2 1
  else if s.reg R.lc_STATE = 0 then s.grantAuth 1 0x3F none
  else s.newChallenge

/-- The challenge that an answer may use is used up. -/
def State.spendChallenge (s : State) : State := s.onService fun x => { x with challenge := none }

/-- A PASSWORD (R542).
[DEDUCED, log 177: unsafe] -/
def opPassword (t : Nat) (secret : List Byte) (s : State) : State :=
  let s := (s.advanceTo t).heardRecord
  let c := s.service.challenge
  let s := s.spendChallenge
  if s.reg R.lc_STATE ≠ 1 then s.refuseAuth 3 2
  else if c.isSome && some (sha384 (secret ++ leBytes 8 (s.reg R.ident_UNIQUE_ID))) == s.service.devDigest then s.grantAuth 2 0x3F none
  else s.refuseAuth 1 0

/-- A KEYX (R542): the owner's key in DEPLOYED, Nerond's return key in RETURN. -/
def opKeyx (t rights : Nat) (qt pubkey sig : List Byte) (s : State) : State :=
  let s := (s.advanceTo t).heardRecord
  let c := s.service.challenge
  let s := s.spendChallenge
  let st := s.reg R.lc_STATE
  if st ≠ 2 ∧ st ≠ 3 then s.refuseAuth 3 2
  else
    let digest := if st = 2 then s.service.serviceKeyDigest else some Config.returnKeyDigest
    match c with
    | none => s.refuseAuth 1 0
    | some c =>
      let signed := c.nd ++ c.qd ++ qt ++ leBytes 8 (s.reg R.ident_UNIQUE_ID) ++ leBytes 1 rights
      if some (sha384 pubkey) == digest && Config.ecdsaVerify pubkey (sha384 signed) sig then
        s.grantAuth 3 rights (some ((sha384 (padTo 48 (Config.ecdhSecret c.number qt) ++ c.nd)).take 32))
      else s.refuseAuth 1 0

/-- No inbound record for TIMEOUT (R544). -/
def opServiceSessionTimeout (t : Nat) (s : State) : State :=
  let s := s.advanceTo t
  if s.service.lastRecord + s.reg R.dbg_TIMEOUT * 1000000000 ≤ s.mono then s.endService 1 else s

/-- COMMAND = END (R544). -/
def opServiceEnd (w : Who) (s : State) : State := s.writeAs w R.dbg_COMMAND 0 true fun s => (s.endService 2).ok

/-! ### DEBUG operations (Tables 20.6 and 20.7) -/

/-- The reply to a DEBUG record. -/
def State.debugReply (s : State) (op target status addr value : Nat) : State :=
  s.sendRecord 3 (leBytes 1 op ++ leBytes 1 target ++ leBytes 1 status ++ [0] ++ leBytes 4 addr ++ leBytes 4 value)

/-- A DEBUG operation that needs a right: without a session the record is discarded and counted (R541); without the right it is answered
with STATUS 1 and its DATA echoed; else `k` gives the state after it, its STATUS and the value of the reply.
[DEDUCED, log 183: unsafe] -/
def State.debugOp (s : State) (op target right addr data : Nat) (k : State → State × Nat × Nat) : State :=
  if !s.on R.dbg_SESSION then s.inc R.dbg_BAD_RECORDS
  else
    let s := s.heardRecord
    if !(s.reg R.dbg_RIGHTS).testBit right then s.debugReply op target 1 addr data
    else match k s with
      | (s, status, v) => s.debugReply op target status addr v

/-- A core that runs, or waits in IDLE. -/
def State.coreAwake (s : State) (c : Nat) : Bool := s.reg R.core_STATE c == 1 || s.reg R.core_STATE c == 2

/-- A halted core. -/
def State.coreHalted (s : State) (c : Nat) : Bool := s.reg R.core_STATE c == 4

/-- HALT (R545), of a record with its ADDR and DATA, which the reply echoes. -/
def State.debugHalt (s : State) (c addr data : Nat) : State :=
  s.debugOp 1 c 0 addr data fun s => if s.coreAwake c then (s.haltSoon c 0 0, 0, data) else (s, 2, data)

/-- HALT; the commands of this kind stand for records whose ADDR and DATA are zeros.
[DESIGN CHOICE, log 288: safe] -/
def opDebugHalt (t c : Nat) (s : State) : State := (s.advanceTo t).debugHalt c 0 0

/-- The time since the last kick of a halted core at which its watchdog is frozen (R547). -/
def State.frozenAge (s : State) (c : Nat) : Nat := (s.core c).haltedAt.getD s.mono - (s.core c).kickAt

/-- The session timers stood still while core 1 was halted (R546). -/
def State.shiftTimers (s : State) (dt : Nat) : State :=
  s.each (List.range 56) fun s n => if s.on R.ses_ID n then s.onSess n fun x => { x with lastReq := x.lastReq + dt } else s

/-- The elapsed time, in ns, at which core `c`'s watchdog raises line 4 (R455). -/
def State.warnAge (s : State) (c : Nat) : Nat := (s.reg R.core_WDT_CLOSE c - s.reg R.core_WDT_WARN c) * 1000

/-- A halted core runs on with its watchdog at elapsed time `age`, below the warning point with the warning to come (R455); interrupts pended
meanwhile wake an IDLE core. -/
def State.leaveHalt (s : State) (c age : Nat) (due : Option (Nat × Nat)) : State :=
  let k := s.core c
  let dt := s.mono - k.haltedAt.getD s.mono
  let s := s.onCore c fun k => { k with
    haltedAt := none, haltDue := due, kickAt := s.mono - age, wasIdle := false, warned := k.warned && decide (s.warnAge c ≤ age),
    stepFrom := due.map fun _ => (s.mono, s.reg R.core_CYCLES c) }
  let s := (s.thawLeases (c + 1)).coreState c (if k.wasIdle then 2 else 1)
  let s := if c = 1 then s.shiftTimers dt else s
  s.wakeIdle c

/-- What the steward does after a wipe (R553): the service session ends, every admitted slot is checked again in the order of the grants,
an admission whose check refuses becomes IMPAIRED, event 0xA007.
[DEDUCED, log 180: unsafe] -/
def State.recheck (s : State) (gs : List Nat) : State × Nat :=
  match gs with
  | [] => (s, 0)
  | g :: rest =>
    let trial := (s.each (g :: rest) fun s x => s.setReg R.sadm_STATE x 0).setReg R.slot_STATE g 1
    let refused := match trial.admissionCheck g with | .inl _ => true | .inr _ => false
    match (if refused then s.impair g 0xFFFFFFFE else s).recheck rest with
    | (s, n) => (s, n + b2n refused)

/-- [DEDUCED, log 180: unsafe, DEDUCED, log 186: unsafe] -/
def State.tamperRecovery (s : State) (source : Nat) : State :=
  let s := s.endService 3
  match s.recheck (s.adm.granted.filter fun g => s.on R.sadm_STATE g) with
  | (s, n) =>
    let s := s.rewriteWords fun w => s.ownedArea w == some 5
    let s := State.showBusy { s with scratch := { s.scratch with recovery := s.scratch.recovery.drop 1 } }
    (s.inc R.tmp_TAMPERS).raise 0xA007 (source + n * 256)

/-- The steward can do the recoveries that wait. -/
def State.mayRecover (s : State) : Bool :=
  s.dusk.core1.haltedAt.isNone && !s.boot.restarting && !s.boot.stopped && s.boot.done.contains 5

/-- Every recovery that waits, if the steward runs: one for each wipe (R553). -/
def State.recoverIfDue (s : State) : State :=
  if s.mayRecover then s.each s.scratch.recovery fun s source => s.tamperRecovery source else s

/-- RESUME (R547): the watchdog counts on from min(t_f, max(0, WDT_CLOSE − 1,000 µs)); line 4 at once when that lies at or after the warning
point; event 0xA005. -/
def State.debugResume (s : State) (c addr data : Nat) : State :=
  s.debugOp 2 c 0 addr data fun s =>
    if !s.coreHalted c then (s, 2, data)
    else
      let age := min (s.frozenAge c) ((s.reg R.core_WDT_CLOSE c - 1000) * 1000)
      let warn := decide (s.warnAge c ≤ age)
      let s := s.leaveHalt c age none
      let s : State := if warn then (s.onCore c fun k => { k with warned := true }).raiseCoreLine c 4 else s
      let s := s.raise 0xA005 c
      ((if c = 1 then s.recoverIfDue else s), 0, data)

/-- [DESIGN CHOICE, log 288: safe] -/
def opCoreResume (t c : Nat) (s : State) : State := (s.advanceTo t).debugResume c 0 0

/-- STEP (R545, R547): the core runs to the next boundary and halts again.
[DEDUCED, log 184: unsafe] -/
def State.debugStep (s : State) (c addr data : Nat) : State :=
  s.debugOp 3 c 0 addr data fun s =>
    if s.coreHalted c then (s.leaveHalt c (s.frozenAge c) (some (1, 0)), 0, data) else (s, 2, data)

/-- [DESIGN CHOICE, log 288: safe] -/
def opDebugStep (t c : Nat) (s : State) : State := (s.advanceTo t).debugStep c 0 0

/-- An operation on a halted core; STATUS 2 on another. -/
def State.onHalted (s : State) (c data : Nat) (k : State → State × Nat × Nat) : State × Nat × Nat :=
  if s.coreHalted c then k s else (s, 2, data)

/-- A register by its ADDR (Table 20.7); none for a port or an address with no register. -/
def Core.debugReg (k : Core) (addr : Nat) : Option Nat :=
  if addr < 8 then some (k.dAt addr)
  else if addr < 12 then some (k.pAt (addr - 8))
  else match addr with
    | 12 => some k.pc
    | 13 => some (k.aAt 0 % 2 ^ 32)
    | 14 => some (k.aAt 0 / 2 ^ 32)
    | 15 => some (k.aAt 1 % 2 ^ 32)
    | 16 => some (k.aAt 1 / 2 ^ 32)
    | _ => none

/-- Half of an accumulator replaced. -/
def accHalf (a : Nat) (high : Bool) (v : Nat) : Nat :=
  if high then a % 2 ^ 32 + v % 2 ^ 8 * 2 ^ 32 else a / 2 ^ 32 * 2 ^ 32 + v % 2 ^ 32

/-- A register written by its ADDR; a write of PC discards what the pipeline holds. -/
def Core.putDebugReg (c : Nat) (k : Core) (addr v : Nat) : Core :=
  if addr < 8 then { k with d := upd k.d addr fun _ => v % 2 ^ 16 }
  else if addr < 12 then { k with p := upd k.p (addr - 8) fun _ => v % 2 ^ 16 }
  else match addr with
    | 12 => { k with pc := pcWrap c v, slots := 0, rep := 0, retInt := false, met := [] }
    | 13 => { k with a := upd k.a 0 fun a => accHalf a false v }
    | 14 => { k with a := upd k.a 0 fun a => accHalf a true v }
    | 15 => { k with a := upd k.a 1 fun a => accHalf a false v }
    | 16 => { k with a := upd k.a 1 fun a => accHalf a true v }
    | _ => k

/-- RD_REG, of an I/O port as a peek or a take (R549), of a record with its DATA, echoed where no value is read. -/
def State.readReg (s : State) (c addr : Nat) (take : Bool) (data : Nat) : State :=
  s.debugOp 4 c 0 addr data fun s => s.onHalted c data fun s =>
    match (s.core c).debugReg addr with
    | some v => (s, 0, v)
    | none =>
      let port := addr - 0x1000
      if addr < 0x1000 ∨ !inPort c port then (s, 3, data)
      else if take then (match s.portTake c (s.core c) port with | (s, v) => (s, 0, v))
      else match s.portPeek c (s.core c) port with
        | some v => (s, 0, v % 2 ^ 16)
        | none => (s.took, 0, s.freeBits 16)

/-- [DESIGN CHOICE, log 288: safe] -/
def opRdReg (c addr : Nat) (take : Bool) (s : State) : State := s.readReg c addr take 0

/-- WR_REG.
[DEDUCED, log 184: unsafe] -/
def opWrReg (c addr data : Nat) (s : State) : State :=
  s.debugOp 5 c 0 addr data fun s => s.onHalted c data fun s =>
    if addr ≤ 16 then (s.onCore c fun k => Core.putDebugReg c k addr data, 0, data)
    else if addr < 0x1000 ∨ !outPort c (addr - 0x1000) then (s, 3, data)
    else (s.portPut c (addr - 0x1000) (data % 2 ^ 16), 0, data)

/-- Whether a data address exists on a core (R445). -/
def dataExists (c addr : Nat) : Bool := decide (addr < (if c = 0 then 0x1000 else 0x10000))

/-- RD_DATA, of a record with its DATA. -/
def State.readDebugData (s : State) (c addr data : Nat) : State :=
  s.debugOp 6 c 0 addr data fun s => s.onHalted c data fun s =>
    if dataExists c addr then (match s.loadData c addr with | (s, v) => (s, 0, v)) else (s, 3, data)

/-- [DESIGN CHOICE, log 288: safe] -/
def opRdData (c addr : Nat) (s : State) : State := s.readDebugData c addr 0

/-- WR_DATA. -/
def opWrData (c addr data : Nat) (s : State) : State :=
  s.debugOp 7 c 0 addr data fun s => s.onHalted c data fun s =>
    if dataExists c addr then (s.storeData c addr (data % 2 ^ 16), 0, data) else (s, 3, data)

/-- WR_PROG: core 0's program RAM; STATUS 2 with TARGET 1. -/
def opWrProg (c addr data : Nat) (s : State) : State :=
  s.debugOp 8 c 0 addr data fun s => s.onHalted c data fun s =>
    if c ≠ 0 then (s, 2, data)
    else if 4096 ≤ addr then (s, 3, data)
    else (s.onCore 0 fun k => { k with prog := tput (fun _ => 0) addr (withParity 32 data) k.prog, words := max k.words (addr + 1) }, 0, data)

/-- The firmware area of the MRAM store. -/
def firmwareBytes : Nat := 0x800000

/-- RD_STORE, of a record with its TARGET and DATA: the firmware area as written; of the other areas, whose layout the manual does not give, a free value.
[DESIGN CHOICE, log 182: unsafe] -/
def State.readStore (s : State) (target addr data : Nat) : State :=
  s.debugOp 9 target 1 addr data fun s =>
    if addr % 4 ≠ 0 then (s, 3, data)
    else if addr < firmwareBytes then (s, 0, tget (fun a => Config.firmwareStore a % 2 ^ 32) s.service.store (addr / 4))
    else (s.took, 0, s.freeBits 32)

/-- [DESIGN CHOICE, log 288: safe] -/
def opRdStore (addr : Nat) (s : State) : State := s.readStore 2 addr 0

/-- WR_STORE, of a record with its TARGET: the firmware area only, while core 1 does not run or the device is DARK; event 0xA009. While a rail of
the store is out of range it is not accepted (R563).
[DESIGN CHOICE, log 182: unsafe, DEDUCED, log 289: unsafe] -/
def State.writeStore (s : State) (target addr data : Nat) : State :=
  s.debugOp 10 target 1 addr data fun s =>
    if addr % 4 ≠ 0 then (s, 3, data)
    else if firmwareBytes ≤ addr ∨ !s.storeAccepts ∨ !(s.coreHalted 1 || s.reg R.core_STATE 1 == 0 || s.phase == .dark) then (s, 2, data)
    else
      let s := s.onService fun x => { x with store := tput (fun a => Config.firmwareStore a % 2 ^ 32) (addr / 4) (data % 2 ^ 32) x.store }
      (s.raise 0xA009 addr, 0, data)

/-- [DESIGN CHOICE, log 288: safe] -/
def opWrStore (addr data : Nat) (s : State) : State := s.writeStore 2 addr data

/-- RESET, of a record with its TARGET, ADDR and DATA: a pin reset, with the RESET right. -/
def State.debugReset (s : State) (target addr data : Nat) : State :=
  if s.on R.dbg_SESSION && (s.reg R.dbg_RIGHTS).testBit 5 then s.fullReset 1
  else s.debugOp 11 target 5 addr data fun s => (s, 0, data)

/-- [DESIGN CHOICE, log 288: safe] -/
def opDebugReset (s : State) : State := s.debugReset 0 0 0

/-! ### Patch units (R550) -/

/-- A BREAK unit matches the instruction its core is about to issue.
[DEDUCED, log 236: unsafe] -/
def opPatchBreakHit (u : Nat) (s : State) : State :=
  let c := s.reg R.pu_CORE u
  if s.coreRuns c ∧ (s.core c).asks.isEmpty ∧ (s.breakUnits c).contains u then s.breakHits c [u] else s

/-- A WATCH unit matches a data access of its core.
[DEDUCED, log 236: unsafe] -/
def opPatchWatchHit (u : Nat) (a : WatchAccess) (s : State) : State :=
  let c := s.reg R.pu_CORE u
  if a.core = c ∧ s.coreRuns c ∧ (s.watchUnits c a.addr a.write).contains u then
    let s := s.patchCount u
    if s.patchHalts u then s.haltSoon c 3 u else s
  else s

/-! ### Tamper (Table 20.9, R553) -/

/-- A tamper source trips: 0 TAMPER_N, 1 voltage, 2 clock, 3 temperature.
[DEDUCED, log 186: unsafe] -/
def opWipeStart (t source : Nat) (s : State) : State :=
  let s := s.advanceTo t
  let s := (s.setReg R.tmp_LAST_SOURCE 0 source).setReg R.tmp_LAST_TIME 0 s.stamp
  s.startWipe (if source = 0 then 0 else 1)

/-- The oldest recovery that waits ends (R553); until the last has ended BUSY reads 1. -/
def opTamperRecovery (s : State) : State :=
  match s.scratch.recovery with
  | source :: _ => if s.mayRecover then s.tamperRecovery source else s
  | [] => s

end Sys2Proof.Machine
end

