-- ==== Sys2Proof/Machine/Dictionary.lean ====
section
/-! DEFINITION. The operations of the object dictionary (R410 to R428, R442): reads with latches and side effects, writes of whole values and
of pieces, INFO. A write that a command of its own describes is that command's meaning; every other write changes its register under
the rules its chapter gives it. -/

namespace Sys2Proof.Machine

/-! ### Writes: the effect of a value whose length and range are right -/

/-- Register (index, sub) of instance `i` set to `n`. -/
def State.putNum (s : State) (r : ObjRef) (n : Nat) : State :=
  { s with regs := tput regKeyDefault (regKey (r.index * 256 + r.sub) r.inst) n s.regs }

def State.putBytes (s : State) (r : ObjRef) (l : List Byte) : State :=
  { s with doms := tput (fun _ => []) (regKey (r.index * 256 + r.sub) r.inst) l s.doms }

/-- A write with rules of its own: `good` for its value, `free` for the state of the object. -/
def State.ruled (s : State) (w : Who) (good free : Bool) (act : State → State) : State :=
  if !good then s.badValue
  else if s.writesClosed w || !free then s.stateError
  else (act s).ok

/-- A BOOL that acts only on 1. -/
def State.onOne (s : State) (w : Who) (n : Nat) (act : State → State) : State :=
  if n = 1 then act s else s.ruled w true true id

/-- READY_DEPTH of operator `o` (R80, R114). -/
def State.writeReadyDepth (s : State) (w : Who) (o n : Nat) : State :=
  let sum := ((List.range 608).map fun i => s.reg R.opr_READY_DEPTH i).sum + n - s.reg R.opr_READY_DEPTH o
  if s.writesClosed w || s.readyOcc o != 0 then s.stateError
  else if 16384 < sum ∨ n < s.reg R.opb_GUAR_READY o + 4 then s.resource
  else (s.setReg R.opr_READY_DEPTH o n).ok

/-- TYPE of port `p` (R126, R574). -/
def State.writePortType (s : State) (w : Who) (p n : Nat) : State :=
  let width := ((portType n).map PortType.lanes).getD 1
  let named := s.streams.active.any fun f => s.on R.flow_STATE f && s.namesPort p f
  s.ruled w (p % width == 0) (!s.on R.eth_ENABLE p && !named) fun s => s.setReg R.eth_TYPE p n

/-- INIT_RANGES: whole records, each a range a fill may name (R216, R250). -/
def initRangesOk (l : List Byte) : Bool :=
  l.length % 16 == 0 && (List.range (l.length / 16)).all fun i => fillRangeOk (leAt l (16 * i) 8) (leAt l (16 * i + 8) 8)

/-- A lane register .2 to .10 (R377). -/
def State.writeLane (s : State) (w : Who) (r : ObjRef) (n : Nat) : State :=
  s.ruled w (s.laneValueOk r.inst r.sub n) (!s.laneBusy r.inst) fun s =>
    if r.sub = 2 then s.setLaneMode r.inst n else (s.holdPrbs r.inst 0 0).putNum r n

/-- WDT_OPEN, WDT_CLOSE, WDT_WARN of core 0 (Table 15.10). -/
def State.writeWatchdog (s : State) (w : Who) (r : ObjRef) (n : Nat) : State :=
  let pick (x : Reg) := if x.ref % 256 = r.sub then n else s.reg x 0
  let opens := pick R.core_WDT_OPEN
  let close := pick R.core_WDT_CLOSE
  s.ruled w (decide (opens + 10 ≤ close) && decide (pick R.core_WDT_WARN < close - opens)) (!s.coreAwake 0) fun s => s.putNum r n

/-- A setting of the management port waits until the response to its request has left (R412).
[DEDUCED, log 125: unsafe] -/
def State.writeMgmt (s : State) (w : Who) (r : ObjRef) (n : Nat) : State :=
  s.ruled w true true fun s =>
    if s.boot.applying then s.putNum r n
    else { s with steward := { s.steward with mgmtWait := s.steward.mgmtWait ++ [(r.sub, n)] } }

/-- A patch unit (R550): a FIX unit is never written; MODE 2 and 3 need class SERVICE with the PATCH right, and no class sets FIX.
[DEDUCED, log 128: unsafe] -/
def State.writePatch (s : State) (w : Who) (r : ObjRef) (n : Nat) : State :=
  let special := decide (n = 2) || decide (n = 3)
  let may := w.cls == .service && (s.reg R.dbg_RIGHTS).testBit 2
  let fixed := s.reg R.pu_MODE r.inst == 1
  if r.sub = 1 ∧ ((n = 1 ∧ !fixed) ∨ (special ∧ !may)) then s.accessDenied
  else s.ruled w true (!fixed) fun s => s.putNum r n

/-- Writes of chapters 02 to 05. -/
def State.writeStream (s : State) (w : Who) (r : ObjRef) (n : Nat) (l : List Byte) : Option State :=
  let i := r.inst
  match r.index, r.sub with
  | 0x1300, 2 => some (s.ruled w true true fun s => s.writeSource n)
  | 0x1300, 5 => some (opSetTime w (leAt l 4 6) (leAt l 0 4) s)
  | 0x1300, 9 => some (s.ruled w ([125, 250, 500, 1000].contains n) (!s.on R.adm_ADMITTED) fun s => s.putNum r n)
  | 0x1302, 1 => some (if s.writesClosed w then s.stateError else s.ptpEnable i (n == 1))
  | 0x1301, 1 => some (if n = 1 then opCadenceEnable w i s else opCadenceDisable w i s)
  | 0x1301, k => some (s.ruled w (k != 4 || n == 1 || n == 1001) (!s.on R.cad_ENABLE i) fun s => s.putNum r n)
  | 0x5001, 7 => some (if n = 1 then opHandleDefine w i s else opHandleRelease w i s)
  | 0x5001, _ => some (s.ruled w true (!s.on R.hdl_USERS i) fun s => s.putNum r n)
  | 0x5002, 2 => some (s.ruled w true (!s.on R.slot_STATE i && !s.sched.loading.contains i) fun s => s.putBytes r l)
  | 0x5002, 7 => some (match n with
    | 1 => opGraphLoad w i s
    | 2 => opArmStart w i s
    | 3 => opArmStop w i s
    | 4 => opArmSwitch w i s
    | 5 => opUnload w i s
    | _ => opGraphDisarm w i s)
  | 0x5100, 3 => some (s.writeReadyDepth w i n)
  | 0x5200, 1 => some (opAdmissionRequest w n s)
  | 0x5200, 2 => some (opAdmissionRelease w n s)
  | 0x2100, 1 => some (opPortEnable w i (n == 1) s)
  | 0x2100, 2 => some (s.writePortType w i n)
  | 0x2200, 38 => some (if n = 1 then opConfigure w i s else opUnconfigure w i s)
  | 0x2200, _ => some (s.ruled w true (!s.on R.flow_STATE i) fun s => s.putNum r n)
  | _, _ => none

/-- Writes of chapters 07 to 13. -/
def State.writeMemory (s : State) (w : Who) (r : ObjRef) (n : Nat) (l : List Byte) : Option State :=
  let i := r.inst
  match r.index, r.sub with
  | 0x3001, 1 => some (opMapWrite w i n s)
  | 0x3001, 3 => some (opRateChangeCommand w i n s)
  | 0x3002, 4 => some (s.ruled w (initRangesOk l) true fun s => s.putBytes r l)
  | 0x3100, 1 => some (opLogEntryFree w i n s)
  | 0x3101, 3 => some (opFill w (leAt l 0 8) (leAt l 8 8) s)
  | 0x3101, 5 => some (opRetireRow w n s)
  | 0x3101, 6 => some (opRetireBank w n s)
  | 0x7040, 4 => some (opFullLoad w s)
  | 0x7041, 6 => some (match n with
    | 1 => opPartialLoad w i s
    | 2 => opArmExchange w i s
    | 3 => opExchangeDisarm w i s
    | 4 => opShadowClear w i s
    | _ => opSwapRegionRetire w i s)
  | 0x7042, 1 => some (opReadback w n s)
  | 0x2000, 16 => some (s.ruled w (firOk l) true fun s => s.putBytes r l)
  | 0x2000, 26 => some (s.ruled w true true fun s => s.setPrbsTx i n)
  | 0x2000, 27 => some (s.ruled w true true fun s => s.setPrbsRx i n)
  | 0x2000, 31 => some (opPrbsClear w i s)
  | 0x2000, 32 => some (s.ruled w true (s.reg R.lane_MODE i == 4) fun s => s.setLoopback i n)
  | 0x2000, 33 => some (opEyeScan w i l s)
  | 0x2000, 36 => some (s.onOne w n fun s => opLaneRetire w i s)
  | 0x2000, k => if 2 ≤ k ∧ k ≤ 10 then some (s.writeLane w r n) else none
  | 0x2010, 1 => some (opLinkEnable w i (n == 1) s)
  | 0x2010, 2 => some (s.ruled w ([1, 2, 4, 8].contains n && i % n == 0) (!s.on R.link_ENABLE i) fun s => s.putNum r n)
  | _, _ => none

/-- Writes of chapters 14 to 16. -/
def State.writeControl (s : State) (w : Who) (r : ObjRef) (n : Nat) (l : List Byte) : Option State :=
  let i := r.inst
  match r.index, r.sub with
  | 0x1100, 6 => some (if n = 0 then opWriteLockRelease w s else opWriteLockClaim w n s)
  | 0x1101, _ => some (s.writeMgmt w r n)
  | 0x1102, 7 => some (s.ruled w (n % 2 == 0 && decide (n < 2048)) true fun s => s.putNum r n)
  | 0x1102, 11 => some (opSessionCloseCommand w i s)
  | 0x1200, 3 => some (s.ruled w (decide (n < 8) || n == 255) true fun s => s.putNum r n)
  | 0x1200, 4 => some (match n with
    | 1 => opProfileArmSwitch w s
    | 2 => opProfileDisarm w s
    | 3 => opCapture w s
    | _ => opErase w s)
  | 0x1201, 3 => some (opProfileRecordWrite w i l s)
  | 0x8000, _ => some (s.writeWatchdog w r n)
  | 0x8001, 1 => some (s.ruled w true s.watchStill fun s => s.putBytes r l)
  | 0x8001, 2 => some (match n with
    | 1 => opWatchStart w s
    | 2 => opWatchStop w s
    | _ => opWatchStore w s)
  | 0x8101, 3 => some (s.onOne w n fun s => opLockRelease (.session w) i s)
  | 0x8101, 4 => some (s.onOne w n fun s => opLockRenew (.session w) i s)
  | 0x8101, 5 => some (s.onOne w n fun s => opLockClearSuspect (.session w) i s)
  | 0x8200, 2 => some (match n with
    | 1 => opStandby w s
    | 2 => opPowerResume w s
    | _ => opNightfall w s)
  | 0x8202, 1 => some (s.ruled w (!l.isEmpty && l.all fun b => decide (b.toNat < 40)) true fun s => s.putBytes r l)
  | 0x8203, 4 => some (if n = 1 then opDomainOff w i s else opDomainOn w i s)
  | _, _ => none

/-- Writes of chapters 18 to 20. -/
def State.writeIntegrity (s : State) (w : Who) (r : ObjRef) (n : Nat) (l : List Byte) : Option State :=
  let i := r.inst
  match r.index, r.sub with
  | 0x9000, 3 => some (opLatched w n s)
  | 0x9000, 5 => some (s.onOne w n fun s => opAck w s)
  | 0x9001, 7 => some (s.onOne w n fun s => opClearPinned w s)
  | 0x9100, 1 => some (opEnsembleEnable w (n == 1) s)
  | 0x9100, 6 => some (s.ruled w true (!s.on R.ens_ENABLE) fun s => s.putNum r n)
  | 0x9100, 7 => some (opPlanWrite w l s)
  | 0x9100, 12 => some (opJoin w s)
  | 0x9102, 1 => some (s.ruled w (decide (n < 256) || n == 0xFFFF) (!s.on R.flow_STATE i) fun s => s.putNum r n)
  | 0x9102, 2 => some (s.ruled w true true fun s => (s.putNum r n).onEns fun e => { e with partnerSet := insertNat i e.partnerSet })
  | 0xA000, 3 => some (opLifecycleCommit w n s)
  | 0xA000, 4 => some (opDevDigest w l s)
  | 0xA000, 5 => some (opServiceKeyDigest w l s)
  | 0xA000, 6 => some (opImageKey w l s)
  | 0xA001, 8 => some (opServiceEnd w s)
  | 0xA020, _ => some (s.writePatch w r n)
  | _, _ => none

/-- The write of a value that passed rows 1 to 3 of Table 14.8 and the range of its object's table. -/
def State.writeEffect (s : State) (w : Who) (r : ObjRef) (row : Row) (l : List Byte) : State :=
  let n := ofLe l
  match s.writeStream w r n l with
  | some s => s
  | none => match s.writeMemory w r n l with
    | some s => s
    | none => match s.writeControl w r n l with
      | some s => s
      | none => match s.writeIntegrity w r n l with
        | some s => s
        | none => s.ruled w true true fun s => if row.ty.size = 0 then s.putBytes r l else s.putNum r n

/-! ### Writes: rights, length and range (R413 to R417) -/

/-- ACCESS_DENIED by rights (Table 14.2, R414, R416). -/
def State.writeDenied (s : State) (w : Who) (r : ObjRef) (row : Row) (l : List Byte) : Bool :=
  !row.acc.writable || !classWrites w.cls r.index r.sub || (r.index == 0x1102 && !sessionWriteOk w r.inst r.sub (l == [1])) ||
    s.lockBlocks w r.index r.inst r.sub (l == [1]) || (r.index == 0x1100 && r.sub == 6 && s.lockDenied w (ofLe l))

/-- The value of a fixed-size type lies in the range of its object's table.
[DEDUCED, log 112: unsafe] -/
def Row.inRange (row : Row) (l : List Byte) : Bool :=
  if row.ty.size = 0 ∨ row.ty = .time80 then true
  else
    let v : Int := if row.ty.signed then toSigned (8 * row.ty.size) (ofLe l) else ofLe l
    decide (row.lo ≤ v) && decide (v ≤ row.hi)

/-- A whole value is written (R413, R417, R425).
[DEDUCED, log 112: unsafe] -/
def State.writeValue (s : State) (w : Who) (r : ObjRef) (l : List Byte) : State :=
  if !s.dictAnswers w then s.silent
  else match findRow r with
    | none => s.noSuchObject
    | some row =>
      if s.writeDenied w r row l then s.accessDenied
      else if row.lengthOk l.length then (if row.inRange l then s.writeEffect w r row l else s.badValue)
      else if row.ty.size = 0 && !row.fixed then (if s.writesClosed w then s.stateError else s.resource)
      else s.typeError

/-- A write to an object with no command of its own (R413). -/
def opRegisterWrite (w : Who) (r : ObjRef) (raw : List Byte) (s : State) : State := s.writeValue w r raw

/-! ### Pieces (R427) -/

/-- The bytes of object `r` that the session of `w` holds in its write buffer. -/
def State.heldBytes (s : State) (w : Who) (r : ObjRef) : Option (List Byte) :=
  match w.slot with
  | some n => match (s.sess n).buffer with
    | some (r', l) => if r' = r then some l else none
    | none => none
  | none => none

/-- The session of `w` holds `b` as its write buffer.
[DEDUCED, log 119: unsafe] -/
def State.holdBytes (s : State) (w : Who) (b : Option (ObjRef × List Byte)) : State :=
  match w.slot with
  | some n => s.onSess n fun x => { x with buffer := b }
  | none => s

/-- A piece of a DOMAIN value. Outside a session nothing holds a piece, so one without LAST is refused with RESOURCE.
[DEDUCED, log 119: unsafe] -/
def State.writePiece (s : State) (w : Who) (r : ObjRef) (row : Row) (offset : Nat) (last : Bool) (data : List Byte) : State :=
  let held := if offset = 0 then some [] else s.heldBytes w r
  let value := held.getD [] ++ data
  if row.fixed && (decide (row.maxLen < value.length) || (last && value.length != row.maxLen)) then s.typeError
  else if held.isNone || (held.getD []).length != offset then s.domainOrder
  else if row.maxLen < value.length then (if s.writesClosed w then s.stateError else s.resource)
  else if last then
    let t := (s.holdBytes w none).writeEffect w r row value
    if t.reply.status = 0 then t else { s with reply := t.reply }
  else if s.writesClosed w then s.stateError
  else if w.slot.isNone then s.resource
  else (s.holdBytes w (some (r, value))).ok

/-- A WRITE operation (R413, R425, R427). -/
def opObpWrite (w : Who) (r : ObjRef) (offset : Nat) (last : Bool) (data : List Byte) (s : State) : State :=
  if !s.dictAnswers w then s.silent
  else match findRow r with
    | none => s.noSuchObject
    | some row =>
      if s.writeDenied w r row data then s.accessDenied
      else if isImageData r.index r.sub then opImageData w offset data s
      else if row.ty.isDomain then s.writePiece w r row offset last data
      else if offset ≠ 0 then s.typeError
      else s.writeValue w r data

/-! ### Reads (R415, R420, R428) -/

/-- Reads that the life-cycle state denies: DATA and OUTCOME of 0x7042 (R372). -/
def State.readDenied (s : State) (r : ObjRef) : Bool :=
  let st := s.reg R.lc_STATE
  r.index == 0x7042 && ((r.sub == 2 && (st == 2 || st == 4)) || (r.sub == 3 && st == 4))

/-- The session of `w` takes a DOMAIN value into its read latch. -/
def State.latchValue (s : State) (w : Who) (r : ObjRef) (v : List Byte) : State :=
  match w.slot with
  | some n => s.onSess n fun x => { x with latch := some (r, v) }
  | none => s

/-- The value in the read latch of the session of `w`. -/
def State.latched? (s : State) (w : Who) (r : ObjRef) : Option (List Byte) :=
  match w.slot with
  | some n => match (s.sess n).latch with
    | some (r', v) => if r' = r then some v else none
    | none => none
  | none => none

/-- A READ of a DOMAIN: at most `room` bytes from an offset. -/
def State.readDomain (s : State) (w : Who) (r : ObjRef) (row : Row) (offset room : Nat) : State :=
  if offset = 0 then
    let v := s.valueOf r row
    ((s.latchValue w r v).readEffect r row).answerWith (v.take room)
  else match s.latched? w r with
    | some v => s.answerWith ((v.drop offset).take room)
    | none => s.domainOrder

/-- A READ with `room` bytes left in the response: it counts as one execution, with its side effect (R415).
[DEDUCED, log 117: unsafe, DEDUCED, log 118: unsafe] -/
def State.readRoom (s : State) (w : Who) (r : ObjRef) (offset len room : Nat) : State :=
  if !s.dictAnswers w then s.silent
  else match findRow r with
    | none => s.noSuchObject
    | some row =>
      let room := if len = 0 then room else min len room
      if !row.acc.readable || s.readDenied r then s.accessDenied
      else if !row.ty.isDomain && offset != 0 then s.typeError
      else if row.ty.isDomain && offset != 0 && (s.latched? w r).isNone then s.domainOrder
      else if s.readsClosed w r.index then s.stateError
      else if row.ty.isDomain then s.readDomain w r row offset room
      else
        let v := s.valueOf r row
        if room < (if row.acc = .rs then 2 else v.length) then s.resource
        else if row.acc = .rs then opLockAcquire (.session w) r.inst s
        else (s.readEffect r row).answerWith v

/-- The largest frame of a port by its class (Table 14.1). -/
def frameLimit : AccessClass → Nat
  | .host | .service => 4096
  | .operator => 1472
  | .peer => 2048
  | .watch => 1024

/-- A READ alone in its request. -/
def opObpRead (w : Who) (r : ObjRef) (offset len : Nat) (s : State) : State := s.readRoom w r offset len (frameLimit w.cls - 40)

/-- SNAPSHOT is read whole (R11). -/
def opSnapshotRead (w : Who) (s : State) : State := s.readRoom w ⟨0x1010, 0, 32⟩ 0 0 (frameLimit w.cls - 40)

/-! ### INFO (R442) -/

/-- An INFO at an offset, which must be 0: the record, and the factory default when LENGTH exceeds 16 and the object is not a DOMAIN. -/
def State.infoAt (s : State) (w : Who) (r : ObjRef) (offset len : Nat) : State :=
  if !s.dictAnswers w then s.silent
  else match findRow r with
    | none => s.noSuchObject
    | some row =>
      if offset ≠ 0 then s.typeError
      else if s.othersClosed w then s.stateError
      else s.answerWith (s.infoRecord r row ++ if 16 < len ∧ !row.ty.isDomain then factoryValue r row else [])

/-- INFO (R442). -/
def opObpInfo (w : Who) (r : ObjRef) (len : Nat) (s : State) : State := s.infoAt w r 0 len

/-! ### Value entries of a profile (R437, R441) -/

/-- An entry is applied as a write of a class. At Daybreak, the register of a from-profile object that no class may write takes the value; at a
switch such an entry is refused. The answer's status says whether it was.
[DEDUCED, log 130: unsafe] -/
def State.applyEntry (s : State) (cls : AccessClass) (e : ValueEntry) : State :=
  match findRow e.ref with
  | some row =>
    if row.acc = .ro ∧ s.phase = .daybreak then (if row.lengthOk e.value.length && row.inRange e.value then (s.putNum e.ref (ofLe e.value)).ok else s.badValue)
    else
      let t := State.writeValue { s with boot := { s.boot with applying := true } } ⟨cls, none⟩ e.ref e.value
      { t with boot := { t.boot with applying := false } }
  | none => s.noSuchObject

/-- The value entries of profile `p`. -/
def State.profileEntries (s : State) (p : Nat) : List ValueEntry := (recordEntries (s.dom R.sprof_RECORD p)).getD []

/-- A test of an entry as a write of its class, without effect (R441). -/
def State.entryAllowed (s : State) (cls : AccessClass) (e : ValueEntry) : Bool := (s.applyEntry cls e).reply.status == 0

/-- The entries apply in record order; one that is refused is skipped, with event 0x1202 and LAST_RESULT at its position.
[DEDUCED, log 130: unsafe] -/
def State.applyProfile (s : State) (p : Nat) (cls : AccessClass) : State :=
  let t := s.each (s.profileEntries p).zipIdx fun s e =>
    let t := s.applyEntry cls e.1
    if t.reply.status = 0 then t
    else (s.setReg R.prof_LAST_RESULT 0 e.2).raise 0x1202 (p + e.2 * 16)
  { t with reply := s.reply }

end Sys2Proof.Machine
end

