-- ==== Sys2Proof/Machine/Steward.lean ====
section
/-! DEFINITION. The steward's ports and the execution of requests (R410 to R434): OBP frames, the SPI and management ports, the queues, the
sessions' windows and caches, NOTIFY frames, the mailbox requests of core 0 and the console's commands. A response frame that leaves
is the reply of the command that made it. -/

namespace Sys2Proof.Machine

def State.onSteward (s : State) (u : Steward → Steward) : State := { s with steward := u s.steward }

/-! ### Frames (Tables 14.5 and 14.6) -/

/-- An operation record of a request. -/
structure ObpOp where
  op : Nat
  ref : ObjRef
  flags : Nat
  offset : Nat
  length : Nat
  value : List Byte
  deriving DecidableEq, Repr

/-- A request frame. -/
structure ObpFrame where
  session : Nat
  sequence : Nat
  cont : Bool
  ops : List ObpOp
  deriving DecidableEq, Repr

/-- `n` operation records from the start of a body; none where one overruns it. -/
def parseOps : Nat → List Byte → Option (List ObpOp)
  | 0, _ => some []
  | n + 1, l =>
    let len := leAt l 12 4
    let size := 16 + if leAt l 0 1 = 2 then ceilDiv len 4 * 4 else if leAt l 0 1 = 4 then 8 else 0
    if l.length < size then none
    else
      let o : ObpOp := ⟨leAt l 0 1, ⟨leAt l 2 2, leAt l 4 3, leAt l 1 1⟩, leAt l 7 1, leAt l 8 4, len,
        if leAt l 0 1 = 4 then slice l 16 8 else if leAt l 0 1 = 2 then slice l 16 len else []⟩
      (parseOps n (l.drop size)).map fun t => o :: t

/-- A request frame that passes R419. -/
def parseFrame (l : List Byte) : Option ObpFrame :=
  if leAt l 0 2 == 0x4F42 && leAt l 2 1 == 1 && leAt l 3 1 == 1 && decide (24 ≤ l.length) && leAt l 14 2 == l.length - 24 && crcHolds l 20 &&
      decide (1 ≤ leAt l 12 2) && decide (leAt l 12 2 ≤ 64) then
    (parseOps (leAt l 12 2) (l.drop 24)).map fun ops => ⟨leAt l 4 4, leAt l 8 4, (leAt l 16 2).testBit 0, ops⟩
  else none

/-- A frame with its CRC (Table 14.5). -/
def obpFrame (ty session sequence ops flags status : Nat) (body : List Byte) : List Byte :=
  let head := leBytes 2 0x4F42 ++ [1] ++ leBytes 1 ty ++ leBytes 4 session ++ leBytes 4 sequence ++ leBytes 2 ops ++
    leBytes 2 body.length ++ leBytes 2 flags ++ leBytes 2 status
  head ++ leBytes 4 (crc32 (head ++ [0, 0, 0, 0] ++ body)) ++ body

/-- A response with a frame status: nothing was executed. -/
def frameStatus (f : ObpFrame) (status : Nat) : List Byte := obpFrame 2 f.session f.sequence 0 (b2n f.cont) status []

/-- A cached response, sent again with CACHED set. -/
def asCached (l : List Byte) : List Byte :=
  obpFrame 2 (leAt l 4 4) (leAt l 8 4) (leAt l 12 2) (leAt l 16 2 ||| 2) (leAt l 18 2) (l.drop 24)

/-! ### Sending -/

/-- A frame leaves by a port: into the SPI port's outbound frames, as a CONTROL packet, as a service record, or from the management port as
the reply of the command. -/
def State.sendFrame (s : State) (port : ObpPort) (l : List Byte) : State :=
  let s : State := match port with
    | .spi => s.onSteward fun w => { w with spiOut := w.spiOut ++ [l] }
    | .mgmt _ _ => s
    | .link k => s.queuePacket k 0 l
    | .service => s.sendRecord 2 l
  s.answerWith l

/-! ### Receiving (R411, R419, R421, R429) -/

/-- The number of a port's class.
[DEDUCED, log 126: unsafe] -/
def portCode (p : ObpPort) : Nat := classCode (portClass p)

/-- A frame is discarded under R419: FRAME_ERRORS of its port, and event 0x1105 at most once per second.
[DEDUCED, log 126: unsafe] -/
def State.frameError (s : State) (port : ObpPort) : State :=
  let s : State := match port with
    | .spi => s.inc R.spi_FRAME_ERRORS
    | .mgmt _ _ => s.inc R.mgmt_FRAME_ERRORS
    | _ => s
  let c := portCode port
  if (s.steward.errorAt.find? fun e => e.1 == c).any fun e => decide (s.mono < e.2 + 1000000000) then s
  else (s.onSteward fun w => { w with errorAt := (c, s.mono) :: w.errorAt.filter fun e => e.1 != c }).raise 0x1105 c

/-- The requests that wait in a class's queue. -/
def State.queueOf (s : State) (c : Nat) : List Request := nth s.steward.queues c []

/-- A request joins the queue of its class. -/
def State.enqueueRequest (s : State) (c : Nat) (q : Request) : State :=
  let s := s.onSteward fun w => { w with queues := upd w.queues c fun l => l ++ [q] }
  s.peak R.stw_QUEUE_PEAK 0 (s.steward.queues.map List.length).sum

/-- The frame a port received: on a link, without the packet's padding (R422). -/
def portFrame (port : ObpPort) (l : List Byte) : List Byte :=
  match port with
  | .link _ => if 24 ≤ l.length ∧ l.length < 24 + leAt l 14 2 + 8 then l.take (24 + leAt l 14 2) else l
  | _ => l

/-- A frame is checked and queued by class; a full queue answers BUSY. -/
def State.takeFrame (s : State) (port : ObpPort) (l : List Byte) : State :=
  let l := portFrame port l
  match parseFrame l with
  | none => s.frameError port
  | some f =>
    if 64 ≤ (s.queueOf (portCode port)).length then (s.inc R.stw_BUSY_REFUSALS).sendFrame port (frameStatus f 9)
    else s.enqueueRequest (portCode port) ⟨port, l, false⟩

/-- The SPI port's request frames move to the HOST queue while it has room and the steward runs; RX_FULL clears (R421). -/
def State.pumpSpi : Nat → State → State
  | 0, s => s
  | n + 1, s =>
    match s.steward.spiIn with
    | l :: rest =>
      if 64 ≤ (s.queueOf 0).length ∨ !s.dictUp ⟨.host, none⟩ then s
      else ((s.onSteward fun w => { w with spiIn := rest, rxFull := false }).takeFrame .spi l).pumpSpi n
    | [] => s

/-- The SPI port is open: from the end of step 5, while the steward has not stopped; a halt of core 1 only holds its frames (R491, R493, R546). -/
def State.spiOpen (s : State) : Bool := State.dictUp { s with dusk := { s.dusk with core1 := { s.dusk.core1 with haltedAt := none } } } ⟨.host, none⟩

/-- A WRITE_FRAME transaction (R421).
[DEDUCED, log 124: unsafe] -/
def opWriteFrame (data : List Byte) (whole : Bool) (s : State) : State :=
  let s := s.silent
  if !s.spiOpen then s
  else if 4 ≤ s.steward.spiIn.length then (s.onSteward fun w => { w with rxFull := true }).inc R.spi_RX_FULL_DROPS
  else if !whole then (s.inc R.spi_RX_FRAMES).frameError .spi
  else ((s.onSteward fun w => { w with spiIn := w.spiIn ++ [data] }).inc R.spi_RX_FRAMES).pumpSpi 4

/-- A READ_FRAME transaction: the oldest outbound frame, zeros (no bytes) with none. -/
def opReadFrame (s : State) : State :=
  if !s.spiOpen then s.answerWith []
  else match s.steward.spiOut with
    | l :: rest => (s.onSteward fun w => { w with spiOut := rest }).answerWith l
    | [] => s.answerWith []

/-- A READ_STATUS transaction. -/
def opReadStatus (s : State) : State :=
  if !s.spiOpen then s.answerWith [0, 0, 0, 0]
  else
    let ready := !s.steward.spiOut.isEmpty
    s.answerWith (leBytes 1 (b2n ready + b2n s.steward.rxFull * 2) ++ [0] ++ leBytes 2 ((s.steward.spiOut.head?).elim 0 List.length))

/-- A source address passes ALLOW_ADDR under ALLOW_MASK (R411). -/
def State.mgmtAllows (s : State) (src : Nat) : Bool := (src ^^^ s.reg R.mgmt_ALLOW_ADDR) &&& s.reg R.mgmt_ALLOW_MASK == 0

/-- An OBP frame arrives on a port: on SPI as a WRITE_FRAME brings it (R421), on the management port from a source that may send (R411). While
the steward does not answer, it is discarded. -/
def opObpFrameReceive (t : Nat) (port : ObpPort) (data : List Byte) (s : State) : State :=
  let s := (s.advanceTo t).silent
  let open_ := s.dictUp ⟨portClass port, none⟩
  match port with
  | .spi => opWriteFrame data true s
  | .mgmt src _ =>
    if !s.on R.mgmt_LINK || !s.on R.mgmt_IPV4 || !open_ then s
    else if s.mgmtAllows src then (s.inc R.mgmt_RX_FRAMES).takeFrame port data
    else s.inc R.mgmt_NOT_ALLOWED
  | .link k => if s.linkUp k && open_ then s.takeFrame port data else s
  | .service => if s.on R.dbg_SESSION && open_ then s.takeFrame port data else s

/-- A datagram at the management port (R411): an ARP request for its address is answered with its MAC address. With an IPV4 of 0 the port answers
nothing (R488). -/
def opMgmtDatagram (t src srcPort : Nat) (b : MgmtBody) (s : State) : State :=
  let s := (s.advanceTo t).silent
  let allowed := s.mgmtAllows src
  if !s.on R.mgmt_LINK || !s.on R.mgmt_IPV4 || !s.dictUp ⟨.operator, none⟩ then s
  else match b with
    | .arpRequest target => if target = s.reg R.mgmt_IPV4 then s.answerWith (leBytes 6 (s.reg R.mgmt_MAC_ADDR)) else s
    | .fragment => if allowed then s.inc R.mgmt_FRAGMENTS else s.inc R.mgmt_NOT_ALLOWED
    | .other => if allowed then s else s.inc R.mgmt_NOT_ALLOWED
    | .udp dst data =>
      if !allowed then s.inc R.mgmt_NOT_ALLOWED
      else if dst ≠ s.reg R.mgmt_UDP_PORT then s
      else (s.inc R.mgmt_RX_FRAMES).takeFrame (.mgmt src srcPort) data

/-- The management link goes UP or DOWN: event 0x1104. -/
def opMgmtLinkChange (up : Bool) (s : State) : State :=
  if s.on R.mgmt_LINK == up then s else (s.setReg R.mgmt_LINK 0 (b2n up)).raise 0x1104 (b2n up)

/-- The response has been sent: the settings written by its request take effect (R412).
[DEDUCED, log 125: unsafe] -/
def opMgmtConfigApply (s : State) : State :=
  let waiting := s.steward.mgmtWait
  let s := s.onSteward fun w => { w with mgmtWait := [] }
  s.each waiting fun s e => s.putNum ⟨0x1101, 0, e.1⟩ e.2

/-! ### Operations of a request (R420, R424) -/

/-- A response record. -/
def responseRecord (o : ObpOp) (status total : Nat) (value : List Byte) : List Byte :=
  leBytes 1 o.op ++ leBytes 1 o.ref.sub ++ leBytes 2 o.ref.index ++ leBytes 3 o.ref.inst ++ leBytes 1 status ++ leBytes 4 total ++
    leBytes 4 value.length ++ padTo (ceilDiv value.length 4 * 4) value

/-- Whether an object is a DOMAIN. -/
def isDomainRef (r : ObjRef) : Bool := (findRow r).any fun row => row.ty.isDomain

/-- The whole length of what a READ in state `s` returns of.
[DEDUCED, log 117: unsafe] -/
def State.readTotal (s : State) (w : Who) (r : ObjRef) (offset : Nat) : Nat :=
  match findRow r with
  | some row => if offset = 0 then (s.valueOf r row).length else ((s.latched? w r).getD []).length
  | none => 0

/-- One operation, with `room` bytes left for its value: the state after it and its response record.
[DEDUCED, log 120: unsafe] -/
def State.runOperation (s : State) (w : Who) (o : ObpOp) (room : Nat) : State × List Byte :=
  let room := room / 4 * 4
  let t : State := match o.op with
    | 1 => s.readRoom w o.ref o.offset o.length room
    | 2 => opObpWrite w o.ref o.offset (o.flags.testBit 0) o.value s
    | 3 => s.infoAt w o.ref o.offset o.length
    | 5 => if s.othersClosed w then s.stateError else s.markClose w
    | _ => s.typeError
  let r := t.reply
  let t : State := if o.op = 3 ∧ room < r.value.length then { s with reply := { answered := true, status := 7, value := [] } } else t
  let r := t.reply
  let status := if r.answered then r.status else 8
  let done := decide (status = 0)
  let total := match o.op with
    | 1 => if done then s.readTotal w o.ref o.offset else 0
    | 2 => if !isDomainRef o.ref then 0 else if done then o.offset + o.value.length else ((s.heldBytes w o.ref).getD []).length
    | 3 => if done then 16 else 0
    | _ => 0
  let value := if (o.op = 1 ∨ o.op = 3) ∧ done then r.value else []
  (t, responseRecord o status total value)

/-- The operations in record order: with CONTINUE 0, the first refusal ends the request and the rest answer NOT_EXECUTED (R424). `left` is
what the response has room for.
[DEDUCED, log 120: unsafe] -/
def State.runOperations (w : Who) (cont : Bool) : List ObpOp → Nat → State → State × List Byte
  | [], _, s => (s, [])
  | o :: rest, left, s =>
    match s.runOperation w o (left - 16 - 16 * rest.length) with
    | (t, r) =>
      let refused := leAt r 7 1 != 0
      if refused && !cont then (t, r ++ rest.flatMap fun x => responseRecord x 8 0 [])
      else match State.runOperations w cont rest (left - r.length) t with
        | (u, l) => (u, r ++ l)

/-! ### Sessions at work (R431, R432) -/

/-- What the window says of request number `n`: execute, discard, answer STALE, or send a cached response. -/
inductive Verdict where
  | run | stale
  | again (l : List Byte)
  deriving DecidableEq, Repr

/-- The algorithm of R432 for a session with HIGH `high`. -/
def SessRun.judge (x : SessRun) (high n : Nat) : Verdict :=
  let d := (n + 2 ^ 32 - high) % 2 ^ 32
  if n = 0 then .stale
  else if d ≠ 0 ∧ d < 2 ^ 31 then .run
  else if 64 ≤ (high + 2 ^ 32 - n) % 2 ^ 32 then .stale
  else match x.done.find? fun e => e.1 == n with
    | some (_, some l) => .again l
    | some (_, none) => .stale
    | none => .run

/-- The response to request `n` is cached; HIGH and the window move on. -/
def State.cacheResponse (s : State) (slot n : Nat) (l : List Byte) : State :=
  let high := s.reg R.ses_HIGH slot
  let d := (n + 2 ^ 32 - high) % 2 ^ 32
  let top := if d ≠ 0 ∧ d < 2 ^ 31 then n else high
  let s := s.onSess slot fun x =>
    { x with done := (n, some l) :: x.done.filter fun e => e.1 != n && decide ((top + 2 ^ 32 - e.1) % 2 ^ 32 < 64) }
  s.setReg R.ses_HIGH slot top

/-- The bytes of a response after its header, by class.
[DEDUCED, log 118: unsafe] -/
def responseRoom (c : AccessClass) : Nat := frameLimit c - 24

/-- A request of an open session is executed, answered and cached. -/
def State.runRequest (s : State) (port : ObpPort) (slot : Nat) (f : ObpFrame) : State :=
  let w : Who := ⟨portClass port, some slot⟩
  match State.runOperations w f.cont f.ops (responseRoom w.cls) s with
  | (s, body) =>
    let l := obpFrame 2 f.session f.sequence f.ops.length (b2n f.cont) 0 body
    let s := (s.inc R.stw_REQUESTS).inc R.ses_REQUESTS slot
    ((s.cacheResponse slot f.sequence l).sendFrame port l).finishClose w

/-- A lone OPEN: its response carries the session's ID (Table 14.5). -/
def State.runOpen (s : State) (port : ObpPort) (f : ObpFrame) (o : ObpOp) : State :=
  let t := (opObpOpen port (ofLe o.value) s).inc R.stw_REQUESTS
  let r := t.reply
  let l := obpFrame 2 (if r.status = 0 then ofLe r.value else 0) 0 1 (b2n f.cont) 0 (responseRecord o (if r.answered then r.status else 8) 0 (if r.status = 0 then r.value else []))
  t.sendFrame port l

/-- The open slot that a frame's SESSION names, bound to its class and source. -/
def State.boundSlot (s : State) (port : ObpPort) (ident : Nat) : Option Nat :=
  (s.slotOfId ident).filter fun n => slotClass n == some (portCode port) && s.reg R.ses_SOURCE n == s.sourceOfPort port

/-- A request from a port. -/
def State.runFrame (s : State) (port : ObpPort) (f : ObpFrame) : State :=
  match f.session, f.sequence, f.ops with
  | 0, 0, [o] => if o.op = 4 then s.runOpen port f o else s.sendFrame port (frameStatus f 11)
  | _, _, _ =>
    match s.boundSlot port f.session with
    | none => s.sendFrame port (frameStatus f 11)
    | some n =>
      let s := s.onSess n fun x => { x with lastReq := s.mono }
      match (s.sess n).judge (s.reg R.ses_HIGH n) f.sequence with
      | .run => s.runRequest port n f
      | .stale => s.sendFrame port (frameStatus f 10)
      | .again l => s.sendFrame port (asCached l)

/-! ### WATCH and the console (R462, R552) -/

/-- The request frame of core 0's mailbox is executed with class WATCH; its response waits to be written in place. A frame that R419 discards
leaves nothing to write. -/
def State.runMailbox (s : State) : State :=
  let head := s.ramBytes s.dusk.mbxAddr 24
  let l := s.ramBytes s.dusk.mbxAddr (min 1024 (24 + leAt head 14 2))
  match parseFrame l with
  | none => { s with dusk := { s.dusk with mbxReply := some [] } }
  | some f =>
    match State.runOperations ⟨.watch, none⟩ f.cont f.ops (responseRoom .watch) s with
    | (s, body) =>
      let r := obpFrame 2 f.session f.sequence f.ops.length (b2n f.cont) 0 body
      let s := s.inc R.stw_REQUESTS
      State.answerWith { s with dusk := { s.dusk with mbxReply := some r } } r

/-- The console's reply to the last operation.
[DEDUCED, log 188: unsafe] -/
def State.sayReply (s : State) : State :=
  let r := s.reply
  if r.status = 0 ∧ r.answered then s.say (ascii "ok" ++ if r.value.isEmpty then [] else ascii " " ++ hexBytes r.value)
  else s.say (ascii "err " ++ hexOf 8 (if r.answered then r.status else 8))

/-- Console command `r` (R552): a one-operation request of class SERVICE outside any session; only while core 1 runs. -/
def opConsoleRead (r : ObjRef) (s : State) : State :=
  if !s.coreRuns 1 then s
  else ((s.readRoom ⟨.service, none⟩ r 0 0 (frameLimit .service - 40)).inc R.stw_REQUESTS).sayReply

/-- Console command `w`: the value whole. -/
def opConsoleWrite (r : ObjRef) (data : List Byte) (s : State) : State :=
  if !s.coreRuns 1 then s
  else ((opObpWrite ⟨.service, none⟩ r 0 true data s).inc R.stw_REQUESTS).sayReply

/-- The value of a hex digit in ASCII. -/
def hexValue (b : Byte) : Option Nat :=
  let n := b.toNat
  if 48 ≤ n ∧ n ≤ 57 then some (n - 48) else if 97 ≤ n ∧ n ≤ 102 then some (n - 87) else if 65 ≤ n ∧ n ≤ 70 then some (n - 55) else none

/-- A number in a base, of at least one digit. -/
def parseNumber (base : Nat) (l : List Byte) : Option Nat :=
  if l.isEmpty then none
  else l.foldl (fun acc b => match acc, hexValue b with
    | some n, some d => if d < base then some (n * base + d) else none
    | _, _ => none) (some 0)

/-- Hex digits, an even number, as bytes in order. -/
def parseHexBytes : List Byte → Option (List Byte)
  | [] => some []
  | a :: b :: t => match hexValue a, hexValue b, parseHexBytes t with
    | some x, some y, some l => some (BitVec.ofNat 8 (16 * x + y) :: l)
    | _, _, _ => none
  | [_] => none

/-- Text up to a character, and what follows it. -/
def splitAt (c : Nat) (l : List Byte) : List Byte × List Byte :=
  (l.takeWhile fun b => b.toNat != c, (l.dropWhile fun b => b.toNat != c).drop 1)

/-- INDEX in hex, with or without 0x; `[INST]` in decimal, 0 when left out; `.SUB` in decimal. -/
def parseRef (l : List Byte) : Option ObjRef :=
  match splitAt 46 l with
  | (head, sub) =>
    match splitAt 91 head with
    | (index, inst) =>
      let digits := if index.take 2 == ascii "0x" then index.drop 2 else index
      let i := if inst.isEmpty then some 0 else parseNumber 10 (splitAt 93 inst).1
      match parseNumber 16 digits, i, parseNumber 10 sub with
      | some x, some i, some k => some ⟨x, i, k⟩
      | _, _, _ => none

/-- A line of the console: `r REF`, `w REF HEX`, or a line it does not take, answered as TYPE.
[DEDUCED, log 188: unsafe] -/
def State.runLine (s : State) (l : List Byte) : State :=
  match splitAt 32 l with
  | (cmd, rest) =>
    match splitAt 32 rest with
    | (ref, hex) =>
      match parseRef ref, parseHexBytes hex with
      | some r, some v =>
        if cmd = ascii "r" then opConsoleRead r s
        else if cmd = ascii "w" then opConsoleWrite r v s
        else s.typeError.sayReply
      | _, _ => s.typeError.sayReply

/-- The lines complete in a console text, and what is left of it. -/
def splitLines (l : List Byte) : List (List Byte) × List Byte :=
  l.foldl (fun (acc : List (List Byte) × List Byte) b => if b.toNat = 10 then (acc.1 ++ [acc.2], []) else (acc.1, acc.2 ++ [b])) ([], [])

/-- A console command waits in the queue of class SERVICE (R423); a full queue answers BUSY. -/
def State.queueLine (s : State) (l : List Byte) : State :=
  if 64 ≤ (s.queueOf 3).length then (((s.inc R.stw_BUSY_REFUSALS).answer 9).sayReply)
  else s.enqueueRequest 3 ⟨.service, l, true⟩

/-- Core 1, while it runs, takes TERM_IN and gathers its text, zero bytes apart, into lines; and fills TERM_OUT. -/
def State.serveTerminal (s : State) : State :=
  if !s.coreRuns 1 then s
  else
    let s : State := match s.service.termIn with
      | some v =>
        match splitLines (s.service.line ++ (leBytes 4 v).filter fun b => b != 0) with
        | (lines, rest) => (s.onService fun x => { x with termIn := none, line := rest }).each lines State.queueLine
      | none => s
    s.fillTermOut

/-! ### The rotation (R423, R421, R441) -/

/-- The class whose request is served next: WATCH first; of the others the next in rotation that has a request, HOST not while 8 frames
wait outbound, none while a profile switch is under way. -/
def State.nextClass (s : State) : Option Nat :=
  if !(s.queueOf 4).isEmpty then some 4
  else if s.steward.switching then none
  else ((List.range 4).map fun i => (s.steward.served + 1 + i) % 4).find? fun c =>
    !(s.queueOf c).isEmpty && (c != 0 || decide (s.steward.spiOut.length < 8))

/-- The steward takes the next request and executes it. -/
def opRequestExecute (t : Nat) (s : State) : State :=
  let s := (((s.advanceTo t).serveTerminal).silent).pumpSpi 4
  if !s.dictUp ⟨.service, none⟩ then s
  else match s.nextClass with
    | none => s
    | some c =>
      match s.queueOf c with
      | [] => s
      | q :: rest =>
        let s := s.onSteward fun w => { w with queues := upd w.queues c fun _ => rest, served := if c = 4 then w.served else c }
        if c = 4 then s.runMailbox
        else if q.console then s.runLine q.data
        else match parseFrame q.data with
          | some f => s.runFrame q.port f
          | none => s

/-! ### NOTIFY (R434) -/

/-- The port of a session's frames. -/
def State.sessionPort (s : State) (n : Nat) : ObpPort :=
  let x := s.reg R.ses_SOURCE n
  match slotClass n with
  | some 1 => .mgmt (x % 2 ^ 32) (x / 2 ^ 32)
  | some 2 => .link (x % 256)
  | some 3 => .service
  | _ => .spi

/-- The NOTIFY frames a session was sent in the second before now. -/
def State.recentNotify (s : State) (n : Nat) : List Nat := (s.sess n).sentAt.filter fun t => decide (s.mono < t + 1000000000)

/-- A NOTIFY with the events gathered for session `n`.
[DEDUCED, log 127: unsafe] -/
def opNotifySend (t n : Nat) (s : State) : State :=
  let s := (s.advanceTo t).silent
  let es := (s.sess n).events
  let full := slotClass n == some 0 && decide (8 ≤ s.steward.spiOut.length)
  let recent := s.recentNotify n
  if !s.on R.ses_ID n || es.isEmpty || full || decide (1000 ≤ recent.length) || !s.dictUp ⟨.service, none⟩ then s
  else
    let s := s.inc R.ses_NOTIFY_SEQ n
    let s := s.onSess n fun x => { x with events := [], sentAt := s.mono :: recent }
    s.sendFrame (s.sessionPort n) (obpFrame 3 (s.reg R.ses_ID n) (s.reg R.ses_NOTIFY_SEQ n) es.length 0 0 (es.flatMap recordBytesOf))

end Sys2Proof.Machine
end

