-- ==== Sys2Proof/Machine/Terminal.lean ====
section
/-! DEFINITION. The service record stream of the debug port (R540, R541, Tables 20.3 to 20.7) and the virtual terminal (R551, R552). -/

namespace Sys2Proof.Machine

/-! ### The virtual terminal -/

/-- A TERM record (R551): the word enters an empty TERM_IN; the reply shows TERM_OUT as it stood, and a take empties it. -/
def opTermRecord (write take : Bool) (word : Nat) (s : State) : State :=
  if !s.on R.dbg_SESSION then s.inc R.dbg_BAD_RECORDS
  else
    let s := s.heardRecord.serveTerminal
    let full := s.service.termOut.isSome
    let out := s.service.termOut.getD 0
    let written := write && s.service.termIn.isNone
    let s : State := if written then s.onService fun x => { x with termIn := some (word % 2 ^ 32) } else s
    let s : State := if take then (s.onService fun x => { x with termOut := none }).fillTermOut else s
    let flags := b2n s.service.termIn.isSome + b2n full * 2 + b2n written * 4
    s.sendRecord 4 (leBytes 1 flags ++ [0, 0, 0] ++ leBytes 4 out)

/-- An OBP record: one frame of class SERVICE, within a service session (R540, R541). -/
def State.obpRecord (s : State) (frame : List Byte) : State :=
  if s.on R.dbg_SESSION then
    let s := s.onService fun x => { x with lastRecord := s.mono }
    if s.dictUp ⟨.service, none⟩ then s.takeFrame .service frame else s
  else s.inc R.dbg_BAD_RECORDS

def opServiceObpRecord (t : Nat) (frame : List Byte) (s : State) : State := ((s.advanceTo t).silent).obpRecord frame

/-! ### Inbound records (Table 20.3) -/

/-- An AUTH payload (Table 20.4). -/
def State.authRecord (s : State) (p : List Byte) : State :=
  let kind := leAt p 0 1
  if kind = 1 ∧ p.length = 1 then opHello s.stamp s
  else if kind = 2 ∧ p.length = 17 then opPassword s.stamp (p.drop 1) s
  else if kind = 3 ∧ p.length = 292 then opKeyx s.stamp (leAt p 1 1) (slice p 2 97) (slice p 99 97) (slice p 196 96) s
  else s.inc R.dbg_BAD_RECORDS

/-- A DEBUG payload (Tables 20.6 and 20.7); an OP or TARGET the table does not list is answered with STATUS 2.
[DEDUCED, log 183: unsafe] -/
def State.debugRecord (s : State) (p : List Byte) : State :=
  let op := leAt p 0 1
  let c := leAt p 1 1
  let addr := leAt p 4 4
  let data := leAt p 8 4
  if op = 9 then s.readStore c addr data
  else if op = 10 then s.writeStore c addr data
  else if op = 11 then s.debugReset c addr data
  else if 1 < c then s.debugReply op c 2 addr data
  else match op with
    | 1 => s.debugHalt c addr data
    | 2 => s.debugResume c addr data
    | 3 => s.debugStep c addr data
    | 4 => s.readReg c addr ((leAt p 2 1).testBit 0) data
    | 5 => opWrReg c addr data s
    | 6 => s.readDebugData c addr data
    | 7 => opWrData c addr data s
    | 8 => opWrProg c addr data s
    | _ => s.debugReply op c 2 addr data

/-- A record of a TYPE with its payload; until a session opens, only AUTH is acted on (R541). -/
def State.record (s : State) (ty : Nat) (p : List Byte) : State :=
  if ty = 1 then s.authRecord p
  else if !s.on R.dbg_SESSION then s.inc R.dbg_BAD_RECORDS
  else match ty with
    | 2 => s.obpRecord p
    | 3 => s.debugRecord p
    | _ => opTermRecord ((leAt p 0 1).testBit 0) ((leAt p 0 1).testBit 1) (leAt p 4 4) s

/-- The LENGTH of a record fits its TYPE. -/
def recordLengthOk (ty n : Nat) : Bool :=
  match ty with
  | 1 => decide (n ≤ 292)
  | 2 => decide (n ≤ 4096)
  | 3 => n == 12
  | 4 => n == 8
  | _ => false

/-- A record whose TAG fails (R541): the third in a row ends the session. -/
def State.badTag (s : State) : State :=
  let s := (s.inc R.dbg_BAD_TAGS).onService fun x => { x with badTags := x.badTags + 1 }
  if 3 ≤ s.service.badTags then s.endService 4 else s

/-- A whole record has come in: in a key-exchange session its TAG is checked. -/
def State.takeRecord (s : State) (body tag : List Byte) : State :=
  let ty := leAt body 0 1
  match s.service.key with
  | some k =>
    if (Config.gcmOpen k (tagIv 0 s.service.tagsIn) body tag).isSome then
      let s := s.onService fun x => { x with tagsIn := x.tagsIn + 1, badTags := 0, lastRecord := s.mono }
      s.record ty (body.drop 3)
    else s.badTag
  | none => (s.onService fun x => { x with lastRecord := s.mono }).record ty (body.drop 3)

/-- The inbound bytes are taken apart: idle zeros, records, and what is discarded up to the next zero byte. -/
def State.pumpRecords : Nat → State → State
  | 0, s => s
  | n + 1, s =>
    let l := s.service.stream
    let drop (k : Nat) (s : State) : State := s.onService fun x => { x with stream := l.drop k }
    match l with
    | [] => s
    | b :: _ =>
      if s.service.skipping then
        ((drop 1 s).onService fun x => { x with skipping := b.toNat != 0 }).pumpRecords n
      else if b.toNat = 0 then (drop 1 s).pumpRecords n
      else
        let len := leAt l 1 2
        let tag := if s.service.key.isSome then 16 else 0
        if 4 < b.toNat ∨ (3 ≤ l.length ∧ !recordLengthOk b.toNat len) then
          ((drop 1 s).onService fun x => { x with skipping := true }).inc R.dbg_BAD_RECORDS |>.pumpRecords n
        else if l.length < 3 + len + tag ∨ l.length < 3 then s
        else ((drop (3 + len + tag) s).takeRecord (l.take (3 + len)) (slice l (3 + len) tag)).pumpRecords n

/-- Shift-DR under SVC (R540): as many bytes leave the outbound stream, zeros when nothing is queued, and then the bytes shifted in are
taken. In END, zeros leave and the input is ignored (Table 20.2). In Test-Logic-Reset nothing is shifted (R570). -/
def opTapSvc (data : List Byte) (s : State) : State :=
  let s := s.tapLoad 0x10
  if s.tapHeld then s
  else if s.reg R.lc_STATE = 4 then s.answerWith (List.replicate data.length 0)
  else
    let out := (padTo data.length s.service.out).take data.length
    let s := s.onService fun x => { x with out := x.out.drop data.length, stream := x.stream ++ data }
    (s.pumpRecords s.service.stream.length).answerWith out

end Sys2Proof.Machine
end

