-- ==== Sys2Proof/Machine/Daybreak.lean ====
section
/-! DEFINITION. Daybreak (chapter 17): the completion of each of its steps, with the result the step found, and its failure branches. -/

namespace Sys2Proof.Machine

/-- The steps that must have completed before step `n` begins (R483). -/
def stepAfter : Nat → List Nat
  | 1 => []
  | 7 => [6]
  | 9 => [8]
  | 10 => [7, 9]
  | 8 => [6]
  | n => [n - 1]

/-- Step `n` is running; step 5 not with a steward that has stopped (R494).
[DEDUCED, log 132: unsafe] -/
def State.stepRuns (s : State) (n : Nat) : Bool :=
  s.phase == .daybreak && decide (1 ≤ n) && decide (n ≤ 10) && !s.boot.done.contains n && (stepAfter n).all s.boot.done.contains &&
    !(n == 5 && s.boot.stopped)

/-- Step `n` has completed: event 0x1009.
[DEDUCED, log 133: unsafe] -/
def State.stepDone (s : State) (n : Nat) : State :=
  { s with boot := { s.boot with done := n :: s.boot.done } }.raise 0x1009 (n + s.sinceReset * 16)

/-- A cause that will hold the device after step 5 (Table 17.3); the first one stays. -/
def State.holdFor (s : State) (cause : Nat) : State :=
  if s.boot.cause = 0 then { s with boot := { s.boot with cause := cause } } else s

/-! ### Step 1 -/

/-- Step 1 ends once RESET_N is high and every rail is in range (R482, R483, R562); the reset of the flash lasts 10 µs more (R571). -/
def State.leaveStep1 (s : State) : State :=
  if s.board.resetN && s.railsOk then { s.stepDone 1 with boot := { (s.stepDone 1).boot with flashFrom := some (s.mono + 10000) } } else s

/-- XSPI_RESET_N is low (R571). -/
def State.flashReset (s : State) : Bool := (s.phase == .daybreak && !s.boot.done.contains 1) || s.boot.flashFrom.any fun t => decide (s.mono < t)

/-! ### Step 3 -/

/-- A character from 0 to 9 and A to Z. -/
def alphanumeric (b : Byte) : Byte := BitVec.ofNat 8 (if b.toNat % 36 < 10 then 48 + b.toNat % 36 else 55 + b.toNat % 36)

/-- Two decimal digits in BCD. -/
def bcd2 (n : Nat) : Nat := n / 10 % 10 * 16 + n % 10

/-- The days of a month. -/
def monthDays (year month : Nat) : Nat :=
  if month = 2 then (if year % 400 = 0 ∨ (year % 4 = 0 ∧ year % 100 ≠ 0) then 29 else 28)
  else if month = 4 ∨ month = 6 ∨ month = 9 ∨ month = 11 then 30 else 31

/-- Date number `n` in BCD as 0xYYYY_MMDD (Table 00.1). -/
def bcdDate (n : Nat) : Nat :=
  let year := n % 10000
  let month := n / 10000 % 12 + 1
  let day := n / 120000 % monthDays year month + 1
  bcd2 (year / 100) * 2 ^ 24 + bcd2 (year % 100) * 2 ^ 16 + bcd2 month * 2 ^ 8 + bcd2 day

/-- The fuses of a device that passed its check load (R6), each in the range Table 00.1 gives it; SPEED_BIN is 1 (R3). The
life-cycle state is that of the fuse groups (R536).
[DESIGN CHOICE, log 14: safe] -/
def State.loadFuses (s : State) : State :=
  let s := s.setDom R.ident_LOT 0 ((List.range 6).map fun i => alphanumeric (nth Config.fuseLot i 0))
  let s := s.setReg R.ident_WAFER 0 (Config.fuseWafer % 25)
  let s := (s.setReg R.ident_DIE_X 0 Config.fuseDieX).setReg R.ident_DIE_Y 0 Config.fuseDieY
  let s := (s.setReg R.ident_TEST_DATE 0 (bcdDate Config.fuseTestDate)).setReg R.ident_SPEED_BIN 0 1
  let s := (s.setReg R.ident_UNIQUE_ID 0 (Config.fuseUniqueId % (2 ^ 64 - 2) + 1)).setReg R.ident_FUSE_CHECK 0 1
  (s.setReg R.mgmt_MAC_ADDR 0 (Config.fuseMacAddr % 2 ^ 48)).setReg R.lc_STATE 0 s.service.lifecycle

/-- FUSE_CHECK reads 0: the identity reads as zeros (R6), and the device will be held with cause 1. -/
def State.fuseFailed (s : State) : State :=
  let s := (s.setDom R.ident_LOT 0 []).setReg R.ident_WAFER 0 0
  let s := (s.setReg R.ident_DIE_X 0 0).setReg R.ident_DIE_Y 0 0
  let s := (s.setReg R.ident_TEST_DATE 0 0).setReg R.ident_SPEED_BIN 0 0
  let s := (s.setReg R.ident_UNIQUE_ID 0 0).setReg R.ident_FUSE_CHECK 0 0
  s.holdFor 1

/-! ### Step 4 -/

/-- A checker has failed its self-test (R258, R324, Table 08.8). -/
def State.checkerFailed (s : State) (x : Nat × Nat) : State :=
  let s := s.inc R.code_SELFTEST
  let s := if x.1 = 6 then (s.setReg R.bm_SELFTEST_FAIL x.2 1).raise 0x7007 x.2 else s.raise 0x3107 (x.1 + x.2 * 16)
  match x.1 with
  | 0 => s.fencePc x.2 1
  | 1 => s.ringFence (x.2 / 24) 1
  | 2 => if x.2 < 16 then s.ringFence x.2 1 else s
  | 3 => s.fenceEngine x.2
  | 6 => s
  | _ => s.holdFor 2

/-- The scratchpad is cleared (R308).
[DEDUCED, log 72: unsafe] -/
def State.clearScratch (s : State) : State := { s with scratch := { s.scratch with words := [] } }

/-! ### Step 5 -/

/-- The bytes of half `i` of the firmware area. -/
def State.fwBytes (s : State) (i : Nat) : List Byte :=
  (List.range (firmwareBytes / 8)).flatMap fun k =>
    leBytes 4 (tget (fun a => Config.firmwareStore a % 2 ^ 32) s.service.store (i * (firmwareBytes / 8) + k))

/-- What keeps a firmware image from verifying (R487): 0 length, 1 signature, 2 version. -/
def fwFault (half : List Byte) : Option Nat :=
  let n := Config.fwLength half
  let key := Config.fwPublicKey half
  if half.length < n then some 0
  else if sha384 key ≠ Config.fuseFirmwareKey || !Config.ecdsaVerify key (sha384 (half.take n)) (Config.fwSignature half) then some 1
  else if Config.fwVersion half < Config.fuseMinVersion then some 2
  else none

/-- The image that step 5 runs, the boot selector's first (R487), and what was wrong with that one where the other is used. -/
def State.bootImage (s : State) : Option (Nat × Option Nat) :=
  let i := s.boot.selector % 2
  match fwFault (s.fwBytes i) with
  | none => some (i, none)
  | some r => if (fwFault (s.fwBytes (1 - i))).isNone then some (1 - i, some r) else none

/-- The FIX patch units of the verified image (R550). -/
def State.setFixUnits (s : State) (version : Nat) : State :=
  s.each (Config.patchRecord version) fun s e =>
    let u := e.1 % 32
    let s := ((s.setReg R.pu_MODE u 1).setReg R.pu_CORE u 1).setReg R.pu_ADDRESS u e.2.1
    s.onService fun x => { x with patch := (u, e.2.2) :: x.patch.filter fun p => p.1 != u }

/-- HELD (R486): lanes, stacks, the fabric and the scheduler stay unpowered; event 0x1002 with the step whose failure holds the device.
[DEDUCED, log 165: unsafe] -/
def State.hold (s : State) : State :=
  let s := s.each (List.range 105) fun s d => s.domState d 2
  { s with phase := .held }.raise 0x1002 (2 + s.boot.cause + s.boot.cause * 256)

/-- Firmware image `image` runs (R487): event 0x1003 where it is not the selector's, FW_IMAGE, FW_VERSION, its FIX units and BOOT_COUNT. -/
def State.bootSteward (s : State) (image : Nat) (failed : Option Nat) : State :=
  let version := Config.fwVersion (s.fwBytes image)
  let s := match failed with
    | some reason => s.raise 0x1003 (1 - image % 2 + reason * 16)
    | none => s
  let s := ((s.setReg R.stw_FW_IMAGE 0 (image % 2)).setReg R.stw_FW_VERSION 0 version).inc R.stw_BOOT_COUNT
  (s.setFixUnits version).startCore 1 0

/-- DARK: the steward does not run.
[DEDUCED, log 133: unsafe] -/
def State.goDark (s : State) : State := { s with phase := .dark }.raise 0x1002 (5 + 3 * 256)

/-- Step 5 (R487): a firmware image is verified and started, and the dictionary opens, or the device is held; with none it goes DARK.
[DESIGN CHOICE, log 166: safe] -/
def State.runFirmware (s : State) : State :=
  match s.bootImage with
  | none => s.goDark
  | some (image, failed) =>
    let s := (s.bootSteward image failed).stepDone 5
    if s.boot.cause = 0 then s else s.hold

/-- A restart completes (R493): step 5 has run, with its event 0x1009 (R483) or to DARK, the dictionary answers again, BOOT_COUNT has risen,
event 0x1007. -/
def opStewardRestartComplete (t : Nat) (s : State) : State :=
  let s := s.advanceTo t
  if s.boot.restarting then
    let s := { s with boot := { s.boot with restarting := false, restartEnd := some s.mono } }
    match s.bootImage with
    | none => s.goDark
    | some (image, failed) =>
      ((s.bootSteward image failed).raise 0x1009 (5 + s.sinceReset * 16)).raise 0x1007 (s.boot.restartCause + s.boot.restartCount % 16 * 16)
  else s

/-! ### Step 6 -/

/-- The test of R488. -/
def State.profileGood (s : State) (p : Nat) : Bool := s.on R.sprof_VALID p && crcHolds (s.dom R.sprof_RECORD p) 60

/-- The profile used for a chosen one; 8 for factory defaults. -/
def State.profileFor (s : State) (chosen : Nat) : Nat :=
  if s.profileGood chosen then chosen else if s.profileGood 0 then 0 else 8

/-- The timebase starts at {0 s, 0 ns} in FREERUN.
[DEDUCED, log 25: unsafe] -/
def State.startTimebase (s : State) : State :=
  { s with now := 0, tbRun := true, tb := { s.tb with cadFrom := List.replicate 16 0, lastTick := 0, slew := 0, slewRest := 0 } }

/-- Every object whose Default reads "from profile" at its factory default (R436). -/
def State.profileDefaults (s : State) : State :=
  { s with regs := s.regs.filter fun e => !profileObjects.contains (e.1 / 2 ^ 24),
           doms := s.doms.filter fun e => !profileObjects.contains (e.1 / 2 ^ 24) }

/-- Under factory defaults the objects of the island that a wake has kept and that may be written take theirs too (R488): power, the FIFO dividers
and the sequence of the ADC. -/
def State.islandDefaults (s : State) : State :=
  let gone (k : Nat) : Bool := [0x820003, 0x820004, 0x820009, 0x820106, 0x820201].contains (k / 2 ^ 24)
  { s with regs := s.regs.filter (fun e => !gone e.1), doms := s.doms.filter fun e => !gone e.1 }

/-- The pins are sampled, the profile is chosen and its entries applied (R437, R488), the timebase and the watch program start. -/
def State.startProfile (s : State) (pins ensId : Nat) : State :=
  let next := s.reg R.prof_NEXT
  let chosen := if next < 8 then next else pins % 8
  let s := ((s.setReg R.prof_PINS 0 (pins % 8)).setReg R.ens_ENS_ID 0 (ensId % 8)).setReg R.prof_NEXT 0 0xFF
  let used := s.profileFor chosen
  let s := if used = chosen then s else s.raise 0x1004 (chosen + used * 16)
  let s := (s.setReg R.prof_ACTIVE 0 (if used < 8 then used else 0xFF)).profileDefaults
  let s := if used < 8 then s.applyProfile used .host else s.islandDefaults
  (s.startTimebase.autostart).stepDone 6

/-! ### Step 7 -/

/-- The stored record of the profile in use; empty under factory defaults. -/
def State.activeRecord (s : State) : List Byte := if s.reg R.prof_ACTIVE < 8 then s.dom R.sprof_RECORD (s.reg R.prof_ACTIVE) else []

/-- One load of the full image from what the flash returned (R358); code 9 where the flash could not be read (Table 12.7). -/
def State.loadAt (s : State) (bytes : Option (List Byte)) : State :=
  let j : LoadJob := { target := 16, streamed := false, data := bytes.getD [], start := s.mono, last := s.mono }
  let s := (s.beginLoad 16 1).resetFabric 1
  if bytes.isNone then s.endLoad j 9 else s.completeLoad j 0

/-- A full image has loaded from a location, which becomes the last-good one. -/
def State.loadedFrom (s : State) (location : Nat) : State := { s with boot := { s.boot with lastGood := location } }

/-- The fabric loads, once more from the last-good location, or stays without an image (R489). -/
def State.loadFabric (s : State) (first second : Option (List Byte)) : State :=
  let location := leAt s.activeRecord 16 8
  let good := s.boot.lastGood
  let s : State :=
    if location = 0 then s.raise 0x1005 0
    else
      let t := s.loadAt first
      if t.reg R.cfg_LOAD_RESULT = 0 then t.loadedFrom location
      else if good = 0 ∨ good = location then t.raise 0x1005 (t.reg R.cfg_LOAD_RESULT * 256)
      else
        let u := t.loadAt second
        if u.reg R.cfg_LOAD_RESULT = 0 then (u.loadedFrom good).raise 0x1005 1
        else u.raise 0x1005 (u.reg R.cfg_LOAD_RESULT * 256)
  s.stepDone 7

/-! ### Step 8 and 9 -/

/-- The stacks are trained, the frame-store and ring-cycle counters start, and INIT_RANGES is filled (R216, R206, R250).
[DEDUCED, log 250: unsafe] -/
def State.trainStore (s : State) (results : List TrainResult) : State :=
  let s := s.each (List.range 4) fun s k => s.trainStack k results
  let s : State := { s with rings := { s.rings with start := s.mono, cycle := 0 } }
  let ranges := s.dom R.fs_INIT_RANGES
  let s := s.each (List.range (ranges.length / 16)) fun s i =>
    opFillComplete { s with store := { s.store with fill := some ⟨leAt ranges (16 * i) 8, leAt ranges (16 * i + 8) 8, true⟩, fillAt := [] } }
  s.stepDone 8

/-- The lanes are powered: one whose transmit PLL fails is fenced (R376), those of ports, links, SDI flows and the SDI and TEST modes enter
SIGNAL_DETECT. -/
def State.powerLanes (s : State) (failed : List Nat) : State :=
  let s := s.each failed fun s l => opTxPllLockFail l s
  let s := s.each (List.range 256) fun s l =>
    let m := s.reg R.lane_MODE l
    if m = 2 ∨ m = 4 ∨ s.laneBusy l then s.laneStart l else s
  s.stepDone 9

/-! ### Step 10 (R490) -/

/-- A graph entry is skipped: event 0x1006.
[DEDUCED, log 131: unsafe] -/
def State.skipGraph (s : State) (slot stage code : Nat) : State := s.raise 0x1006 (slot + stage * 256 + code * 65536)

/-- The admission that a graph entry asks for; its check's duration is a free value.
[DESIGN CHOICE, log 51: safe] -/
def State.admitNow (s : State) (slot : Nat) : State :=
  let us := s.freeBits 32 % 5001
  opAdmissionReply us ((opAdmissionRequest ⟨.host, none⟩ slot s).took)

/-- One graph entry with what the flash returned for it.
[DEDUCED, log 131: unsafe] -/
def State.runGraphEntry (s : State) (e : GraphEntry) (image : List Byte) : State :=
  let w : Who := ⟨.host, none⟩
  let g := e.slot
  if image.length ≠ e.length ∨ leAt image 60 4 ≠ e.digest ∨ leAt image 44 4 ≠ e.length then s.skipGraph g 0 0
  else if !e.load then s
  else if s.on R.slot_STATE g then s.skipGraph g 1 13
  else
    let s := opLoadCheckDone g (opGraphLoad w g (s.setDom R.slot_IMAGE g image))
    if s.reg R.slot_STATE g ≠ 1 then s.skipGraph g 1 (s.reg R.slot_LOAD_RESULT g % 256)
    else if !e.admits then s
    else
      let s := s.admitNow g
      if !s.on R.sadm_STATE g then s.skipGraph g 2 (leAt (s.dom R.sadm_REPLY g) 0 2)
      else if !e.start then s
      else
        let t := opArmStart w g (s.setReg R.slot_TARGET_FRAME g (2 ^ 64 - 1))
        if t.reply.status = 0 then t else s.skipGraph g 3 0

/-- The graph entries in record order, applied by the steward itself (R491). -/
def State.runGraphEntries (s : State) (images : List (List Byte)) : State :=
  let begun (b : Bool) (x : State) : State := { x with boot := { x.boot with applying := b } }
  let t := (begun true s).each (recordGraphs s.activeRecord).zipIdx fun s e => s.runGraphEntry e.1 (nth images e.2 [])
  { begun false t with reply := s.reply }

/-- The device is ACTIVE: event 0x1001; after a wake, event 0x8201 too.
[DEDUCED, log 159: unsafe] -/
def State.becomeActive (s : State) : State :=
  let s : State := { s with phase := .run }
  let s := s.raise 0x1001 (s.boot.kind + s.sinceReset * 16)
  if s.boot.kind = 2 then s.powerChanged 0 2 else s

/-- The graph entries are executed, and the device is ACTIVE. -/
def State.runGraphs (s : State) (images : List (List Byte)) : State := ((s.runGraphEntries images).stepDone 10).becomeActive

/-! ### The steps -/

/-- A Daybreak step completes with its result (R483, R485); a step that is not running, or a result that is not the step's, changes
nothing.
[DEDUCED, log 132: unsafe, DESIGN CHOICE, log 166: safe] -/
def opDaybreakStepComplete (t n : Nat) (r : StepResult) (s : State) : State :=
  let s := s.advanceTo t
  if !s.stepRuns n then s
  else match n, r with
    | 1, .ok => s.leaveStep1
    | 2, .ok => s.stepDone 2
    | 3, .ok => s.loadFuses.stepDone 3
    | 3, .fuseCheckFailed => s.fuseFailed.stepDone 3
    | 4, .ok => s.clearScratch.stepDone 4
    | 4, .checkers l =>
      (s.each (l.filter fun r => !checkerPasses r) fun s r => s.checkerFailed (r.kind, r.number)).clearScratch.stepDone 4
    | 5, .ok => s.runFirmware
    | 6, .profilePins p e => s.startProfile p e
    | 7, .image a b => s.loadFabric a b
    | 8, .trained results => s.trainStore results
    | 9, .lanes failed => s.powerLanes failed
    | 10, .graphs images => s.runGraphs images
    | _, _ => s

end Sys2Proof.Machine
end

