-- ==== Sys2Proof/Machine/Marks.lean ====
section
/-! DEFINITION. Frame marks and commit leads: what makes a commit set ready (R54, R95, R105, R134, R152, R155, R288, R361, R441), its
moves, the order in which its members apply (R56), and the staging of a new frame (R76). -/

namespace Sys2Proof.Machine

/-! ### Readiness of graph members (R95) -/

/-- The members that will have taken effect once set `x` has: its own, and those of ready sets whose marks come no later.
[DEDUCED, log 29: unsafe] -/
def State.effective (s : State) (x : CommitSet) : List Member :=
  let t := s.markTime x.cad x.target
  x.members ++ (s.tb.sets.filter fun y => y != x && y.ready && decide (s.markTime y.cad y.target ≤ t)).flatMap CommitSet.members

/-- Slot `g` will be RUNNING after the members `ms`.
[DEDUCED, log 43: unsafe] -/
def State.willRun (s : State) (ms : List Member) (g : Nat) : Bool :=
  (s.running g && !(ms.any fun m => m.stops == some g)) || ms.any fun m => m.starts == some g

/-- A graph that will be RUNNING produces the EXTERNAL buffer `b`.
[DEDUCED, log 43: unsafe] -/
def State.externalMade (s : State) (ms : List Member) (b : BufferRec) : Bool :=
  allSlots.any fun x => s.willRun ms x && (s.graph x).bufs.any fun a => !a.external && a.handle == b.handle

/-- The flow of a node of the graph being started in slot `g` counts as configured, and no other graph that will be RUNNING holds it
(R95, R134, R152, of which R531 excepts a peer flow).
[DEDUCED, log 56: unsafe] -/
def State.flowReady (s : State) (ms : List Member) (g : Nat) (x : NodeRec × Nat × BufferRec) : Bool :=
  let f := x.1.flow
  let held := s.flowRun f
  s.flowConfigured f x.2.1 &&
    !(decide (2 ≤ s.reg R.flow_STATE f) && held.slot != g && decide (held.slot < 64) && s.willRun ms held.slot) &&
    !(allSlots.any fun y => y != g && (ms.any fun m => m.starts == some y) && (s.graph y).flowNodes.any fun z => z.1.flow == f) &&
    !(x.2.1 == 1 && !s.isPeer f && s.on R.sadm_STATE g && decide (s.reg R.sadm_L g < s.reg R.flow_ALIGN_OFS f))

/-- The egress flows that will have been bound once set `x` has taken effect, with the picture and cadence each will have (R155). -/
def State.setBinds (s : State) (x : CommitSet) : List (Nat × BufferRec × Nat) :=
  ((s.effective x).filterMap Member.starts).flatMap fun g =>
    ((s.graph g).flowNodes.filter fun z => z.2.1 == 1).map fun z => (z.1.flow, z.2.2, (s.graph g).cad)

/-- A graph member is ready as far as the slot it starts is concerned (R95).
[DEDUCED, log 29: unsafe, DEDUCED, log 31: unsafe, DEDUCED, log 45: unsafe] -/
def State.startReady (s : State) (x : CommitSet) (g : Nat) : Bool :=
  let ms := s.effective x
  let G := s.graph g
  s.reg R.slot_STATE g == 1 && (!G.guaranteed || s.on R.sadm_STATE g) && G.flowNodes.all (s.flowReady ms g) &&
    s.egressOk (s.setBinds x) none && (G.bufs.filter BufferRec.external).all (s.externalMade ms) && s.on R.cad_ENABLE x.cad && G.cad == x.cad

/-! ### The commit lead (R54) -/

/-- The steward can act: it is neither restarting, stopped nor halted (R493).
[DEDUCED, log 30: unsafe] -/
def State.stewardActs (s : State) : Bool := !s.boot.restarting && !s.boot.stopped && s.dusk.core1.haltedAt.isNone

/-- One member of set `x` is ready. -/
def State.memberReady (s : State) (x : CommitSet) : Member → Bool
  | .epoch g add => !s.on R.rsys_DRAINING && (add || !s.on R.sadm_STATE g)
  | .exchange n => s.exchangeReady n
  | .graphStart g => s.startReady x g
  | .graphStop _ => s.on R.cad_ENABLE x.cad
  | .graphSwitch _ g => s.startReady x g
  | .profile p => (s.profileEntries p).all (s.entryAllowed s.steward.armedBy)

/-- Set `x` is ready.
[DEDUCED, log 27: unsafe, DEDUCED, log 30: unsafe] -/
def State.setReady (s : State) (x : CommitSet) : Bool := s.stewardActs && x.members.all (s.memberReady x)

def CommitSet.isAt (x : CommitSet) (c n : Nat) : Bool := x.cad == c && x.target == n

/-- A profile switch among the members. -/
def CommitSet.profile? (x : CommitSet) : Option Nat := x.members.findSome? fun m => match m with | .profile p => some p | _ => none

/-- Set `x` moves to target `n` and joins the set already there (R54).
[DEDUCED, log 28: unsafe] -/
def State.moveSet (s : State) (x : CommitSet) (n : Nat) : State :=
  let rest := s.tb.sets.filter fun y => !y.isAt x.cad x.target
  let sets := match rest.findIdx? fun y => y.isAt x.cad n with
    | some i => upd rest i fun y => { y with moves := max y.moves (x.moves + 1), ready := false, members := y.members ++ x.members }
    | none => rest ++ [{ x with target := n, moves := x.moves + 1, ready := false }]
  let s : State := { s with tb := { s.tb with sets := sets }, steward := { s.steward with switching := s.steward.switching && x.profile?.isNone } }
  s.raise 0x1306 (x.cad + (x.moves + 1) * 16)

/-- A set that is not ready moves to the first mark after the checked one whose commit lead has not passed; after eight moves it is
cancelled (R54). An exchange that is not ready raises event 0x7014 (R361). -/
def State.setNotReady (s : State) (x : CommitSet) : State :=
  let s := s.each x.members fun s m => match m with
    | .exchange n => if s.exchangeReady n then s.dropLate n else (s.dropLate n).raise 0x7014 n
    | _ => s
  if x.moves < 8 then s.moveSet x (max (x.target + 1) (s.firstArmable x.cad)) else s.cancelSet x

/-- The set is ready for its mark: until then the steward executes only WATCH requests if it switches the profile (R441). -/
def State.markReady (s : State) (x : CommitSet) : State :=
  let sets := s.tb.sets.map fun y => if y == x then { y with ready := true } else y
  { s with tb := { s.tb with sets := sets }, steward := { s.steward with switching := s.steward.switching || x.profile?.isSome } }

/-- The commit lead of frame `n` of cadence `c` (R54).
[DEDUCED, log 27: unsafe] -/
def opCommitLeadCheck (c n : Nat) (s : State) : State :=
  match s.tb.sets.find? fun x => x.isAt c n && !x.ready with
  | none => s
  | some x =>
    let s := s.advanceTo (s.markTime c n - commitLead)
    if s.setReady x && decide (s.now < s.markTime c n) then s.markReady x else s.setNotReady x

/-! ### The mark (R56) -/

/-- A graph member takes effect at mark `n` (R96).
[DEDUCED, log 47: unsafe] -/
def State.graphTakes (s : State) (n : Nat) (m : Member) : State :=
  match m.starts, m.stops with
  | some b, none => (((s.startGraph b n).bindFlows b).refreshFlows).raise 0x5002 (0x3F + b * 256)
  | none, some a => (s.stopGraph a n).raise 0x5002 (a + 0x3F * 256)
  | some b, some a => ((((s.stopGraph a n).startGraph b n).bindFlows b).refreshFlows).raise 0x5002 (a + b * 256)
  | none, none => s

/-- A profile switch takes effect (R441). -/
def State.profileTakes (s : State) (p : Nat) : State :=
  let s := s.applyProfile p s.steward.armedBy
  let s := ((s.setReg R.prof_ACTIVE 0 p).setReg R.prof_ARMED 0 0).inc R.prof_SWITCHES
  State.raise { s with steward := { s.steward with switching := false } } 0x1201 p

/-- A ready set takes effect in the order of R56: epochs, exchanges, graphs, profile values. -/
def State.applySet (s : State) (x : CommitSet) : State :=
  let s : State := { s with tb := { s.tb with sets := s.tb.sets.filter fun y => y != x } }
  let s := if x.members.any (fun m => match m with | .epoch _ _ => true | _ => false) then s.commitEpoch x.members else s
  let s := s.each x.members fun s m => match m with | .exchange r => s.exchangeStart r x.target | _ => s
  let s := s.each x.members fun s m => s.graphTakes x.target m
  match x.profile? with
  | some p => s.profileTakes p
  | none => s

/-- At a mark the engine rebuilds the descriptors that poison took, and the scheduler's entries that it took are whole again (Table 18.3,
R502): a rebuilt flow has an empty window (R137), both legs DOWN (R142) and no marker of an earlier frame. Those of graphs on other cadences
wait for their own marks.
[DEDUCED, log 20: unsafe, DEDUCED, log 66: unsafe, DESIGN CHOICE, log 242: unsafe] -/
def State.rewriteEntries (s : State) (c : Nat) : State :=
  let live := allSlots.filter s.live
  let ours := live.filter fun g => (s.graph g).cad == c
  let holds (h : Nat) (g : Nat) : Bool := (s.graph g).bufs.any fun b => b.handle % 65536 == h
  let wait (h : Nat) : Bool := live.any (holds h) && !(ours.any (holds h))
  let nodeWait (id : Nat) : Bool := s.live (slotOf id) && !ours.contains (slotOf id)
  let due (w : Nat) : Bool := match s.ownedArea w with
    | some 0 => decide (s.reg R.flow_STATE w < 2) || (s.graph (s.flowRun w).slot).cad == c
    | some 5 => false
    | _ => match Config.schedEntry w with
      | (0, i) => !wait (i % 65536)
      | (1, id) => !nodeWait (id % 2 ^ 20)
      | _ => true
  let flows := s.scratch.rebuild.filter fun w => due w && decide (w < 2 ^ 18)
  let s : State := { s with sched := { s.sched with badHandles := s.sched.badHandles.filter wait
                                                    badNodes := s.sched.badNodes.filter nodeWait } }
  let s := s.rewriteWords due
  s.each flows fun s f => ((s.legDown f 0).legDown f 1).onFlow f fun r => { r with seq := none, written := [], legSeen := [], marks := [] }

/-- The new frame is staged for every RUNNING graph on the cadence, in ascending node ID (R76); then the mark is past, and versions that no mark to
come needs are freed (R67). -/
def State.stageFrame (s : State) (c n : Nat) : State :=
  let s : State := { s with sched := { s.sched with beyondReserved := false } }
  let s := s.each (allSlots.filter fun g => s.running g && (s.graph g).cad == c) fun s g => s.stageGraph g n
  let s : State := { s with tb := { s.tb with cadFrom := upd s.tb.cadFrom c fun _ => s.markTime c n + 1 } }
  s.freeVersions.schedule

/-- Marks of cadence `c` are made: it is enabled, the timebase runs and the device is not on its way into NIGHT.
[DEDUCED, log 26: unsafe] -/
def State.makesMarks (s : State) (c : Nat) : Bool :=
  s.on R.cad_ENABLE c && s.tbRun && (s.dataRuns || s.phase == .daybreak) && s.reg R.pow_STATE != 4

/-- The marks that fall at instant `t` and have not been made, in ascending cadence order (R56). -/
def State.marksAt (s : State) (t : Nat) : List (Nat × Nat) :=
  ((List.range 16).map fun c => (c, s.firstMarkFrom c t)).filter fun p =>
    s.makesMarks p.1 && decide (s.cadStart p.1 ≤ t) && decide (s.markTime p.1 p.2 = t)

/-- The ready sets of the marks at instant `t`, in ascending cadence order (R56). -/
def State.setsAt (s : State) (t : Nat) : List CommitSet :=
  (s.marksAt t).flatMap fun p => s.tb.sets.filter fun x => x.isAt p.1 p.2 && x.ready

/-- Mark `n` of cadence `c` is made once the sets of its instant have taken effect: the frame is staged, and a council mark sends its
messages. -/
def State.makeMark (s : State) (c n : Nat) : State :=
  let s := (s.rewriteEntries c).stageFrame c n
  if s.reg R.ens_COUNCIL_CADENCE = c then s.councilMark else s

/-- Frame mark `n` of cadence `c` (R48). Of the marks at one instant every ready set takes effect first, in ascending cadence order (R56), and
the frames are staged in ascending cadence order (Table 03.13): a mark of a lower cadence still to be made is made first. The marks pulse on the
time port (R329).
[DEDUCED, log 26: unsafe, DEDUCED, log 201: unsafe] -/
def opFrameMark (c n : Nat) (s : State) : State :=
  let t := s.markTime c n
  if !s.makesMarks c || decide (t < s.cadStart c) then s
  else
    let s := s.advanceTo t
    let lower := (s.marksAt t).filter fun p => decide (p.1 < c)
    let s := s.each (s.setsAt t) fun s x => s.applySet x
    let s := s.pulse t ((lower.map fun p => 2 ^ p.1).sum + 2 ^ c) false
    ((s.each lower fun s p => s.makeMark p.1 p.2).makeMark c n).takeArrived

end Sys2Proof.Machine
end

