-- ==== Sys2Proof/Machine/Integrity.lean ====
section
/-! DEFINITION. Integrity conditions and state (R504, Table 18.4): after every command the live conditions follow the state, with events
0x9001 and 0x9002; and how every command runs. -/

namespace Sys2Proof.Machine

/-- An ST 2022-7 leg of a BOUND flow is DOWN, or a port of a duplicated egress flow. -/
def State.copyDown (s : State) : Bool :=
  s.streams.active.any fun f => s.on R.flow_PAIRED f && !s.isPeer f &&
    (if s.reg R.flow_DIR f = 0 then s.reg R.flow_STATE f == 2 && s.reg R.flow_LEG_STATE f != 3
     else (s.flowPorts f).any fun p => !s.on R.eth_LINK p)

/-- A PC that holds part of a mirrored handle's ranges is fenced.
[DEDUCED, log 19: unsafe] -/
def State.mirroredFenced (s : State) : Bool :=
  let ds := (s.sched.handles.map Prod.snd).filter fun d => d.slots != 0 && d.mirror != 0
  !ds.isEmpty && (List.range 128).any fun n => s.pcFenced n &&
    ds.any fun d => s.wordsOnPc d.base d.span n != 0 || s.wordsOnPc d.mirror d.span n != 0

/-- SINGLE_COPY.
[DEDUCED, log 19: unsafe] -/
def State.singleCopy (s : State) : Bool :=
  s.copyDown || s.sched.stale.any (fun p => p.2.primaryStale != 0 || p.2.mirrorStale != 0) ||
    (List.range 16).any (fun k => s.reg R.ring_STATE k == 1) || s.mirroredFenced

/-- FABRIC: a loaded graph binds a fabric port while the fabric is not CONFIGURED. -/
def State.fabricMissing (s : State) : Bool :=
  s.reg R.cfg_FABRIC_STATE != 2 && allSlots.any fun g => s.reg R.slot_STATE g != 0 && s.bindsOp g fun o => decide (96 ≤ o)

/-- The live conditions (Table 18.4). -/
def State.liveConditions (s : State) : Nat :=
  b2n (s.dusk.core0.haltedAt.isSome || s.dusk.core1.haltedAt.isSome) +
  b2n (s.reg R.tb_STATE != 2 && s.on R.tb_SOURCE && s.on R.adm_ADMITTED) * 2 +
  b2n (!s.config.suspects.isEmpty) * 4 +
  b2n (allSlots.any fun g => s.reg R.sadm_STATE g == 2) * 8 +
  b2n s.singleCopy * 32 +
  b2n ((List.range 4).any fun k => s.on R.stk_THROTTLED k) * 256 +
  b2n (s.boot.restarting || s.boot.stopped) * 512 +
  b2n s.fabricMissing * 1024

/-- The conditions marked AT_RISK (Table 18.4): every one but TIMEBASE, SINGLE_COPY and THERMAL. -/
def atRiskMask : Nat := 0xEDD

/-- STATE for a set of conditions (R504). -/
def integrityState (conds : Nat) : Nat := if conds &&& atRiskMask != 0 then 2 else if conds != 0 then 1 else 0

/-- STATE of 0x9000 becomes `v`: event 0x9001. -/
def State.toIntegrity (s : State) (v : Nat) : State :=
  let old := s.reg R.integ_STATE
  if old = v then s else ((s.setReg R.integ_STATE 0 v).inc R.integ_STATE_CHANGES).raise 0x9001 (old + v * 4)

/-- CONDITIONS become `v`: event 0x9002 for each that changed, in ascending order of bit.
[DEDUCED, log 18: unsafe] -/
def State.toConditions (s : State) (v : Nat) : State :=
  let old := s.conds
  let s : State := { s with conds := v }
  s.each ((List.range 12).filter fun b => old.testBit b != v.testBit b) fun s b => s.raise 0x9002 (b + b2n (v.testBit b) * 256)

/-- After a command the conditions and STATE follow the device (R504).
[DEDUCED, log 18: unsafe] -/
def State.settle (s : State) : State :=
  let v := s.liveConditions ||| s.latched
  let s := if v = s.conds then s else s.toConditions v
  s.toIntegrity (integrityState v)

/-! ### Commands -/

/-- A command runs: its own effect, then the conditions. The queue is not the command's to touch. A command that names a unit the device
does not have (`ok` is false) stops.
[DESIGN CHOICE, log 2: safe, DEDUCED, log 3: unsafe, DESIGN CHOICE, log 191: unsafe] -/
def command (ok : Bool) (f : State → State) (s : State) : Host.Outcome State Fault Refusal :=
  if ok then .next { (f s).settle with pending := s.pending } else .fault .noSuchUnit

end Sys2Proof.Machine
end

