-- ==== Sys2Proof/Machine/ExecAdmission.lean ====
section
/-! DEFINITION. The commands of admission (chapter 04): each is its operation, run as a command. -/

namespace Sys2Proof.Machine

/-- ADMISSION_REQUEST (R102). -/
def execAdmissionRequest (w : Who) (g : Nat) (s : State) : Host.Outcome State Fault Refusal :=
  command true (opAdmissionRequest w g) s

/-- ADMISSION_REPLY (R120). -/
def execAdmissionReply (us : Nat) (s : State) : Host.Outcome State Fault Refusal :=
  command true (opAdmissionReply us) s

/-- ADMISSION_RELEASE (R104). -/
def execAdmissionRelease (w : Who) (g : Nat) (s : State) : Host.Outcome State Fault Refusal :=
  command true (opAdmissionRelease w g) s

/-- ADMISSION_IMPAIR (R124). -/
def execAdmissionImpair (g : Nat) (s : State) : Host.Outcome State Fault Refusal :=
  command (decide (g < 64)) (opAdmissionImpair g) s

end Sys2Proof.Machine
end

