-- ==== Sys2Proof/Machine/ExecConfiguration.lean ====
section
/-! DEFINITION. The commands of the configuration loader and scrubber (chapter 12): each is its operation, run as a command. -/

namespace Sys2Proof.Machine

/-- FULL_LOAD (R358). -/
def execFullLoad (w : Who) (s : State) : Host.Outcome State Fault Refusal :=
  command true (opFullLoad w) s

/-- IMAGE_DATA (R356). -/
def execImageData (w : Who) (offset : Nat) (data : List Byte) (s : State) : Host.Outcome State Fault Refusal :=
  command true (opImageData w offset data) s

/-- STREAM_TIMEOUT (R356). -/
def execStreamTimeout (t : Nat) (s : State) : Host.Outcome State Fault Refusal :=
  command true (opStreamTimeout t) s

/-- LOAD_FINISH (R357). -/
def execLoadFinish (t : Nat) (data : List Byte) (readOk : Bool) (s : State) : Host.Outcome State Fault Refusal :=
  command true (opLoadFinish t data readOk) s

/-- PARTIAL_LOAD (R359). -/
def execPartialLoad (w : Who) (n : Nat) (s : State) : Host.Outcome State Fault Refusal :=
  command true (opPartialLoad w n) s

/-- ARM_EXCHANGE (R360). -/
def execArmExchange (w : Who) (n : Nat) (s : State) : Host.Outcome State Fault Refusal :=
  command true (opArmExchange w n) s

/-- EXCHANGE_DISARM (R360). -/
def execExchangeDisarm (w : Who) (n : Nat) (s : State) : Host.Outcome State Fault Refusal :=
  command true (opExchangeDisarm w n) s

/-- SHADOW_CLEAR (R360). -/
def execShadowClear (w : Who) (n : Nat) (s : State) : Host.Outcome State Fault Refusal :=
  command true (opShadowClear w n) s

/-- SWAP_REGION_RETIRE (R366). -/
def execSwapRegionRetire (w : Who) (n : Nat) (s : State) : Host.Outcome State Fault Refusal :=
  command true (opSwapRegionRetire w n) s

/-- EXCHANGE_COMPLETE (R362). -/
def execExchangeComplete (t n : Nat) (s : State) : Host.Outcome State Fault Refusal :=
  command (decide (n < 16)) (opExchangeComplete t n) s

/-- CONFIG_SCRUB_READ (R368). -/
def execConfigScrubRead (t : Nat) (s : State) : Host.Outcome State Fault Refusal :=
  command true (opConfigScrubRead t) s

/-- REPAIR_COMPLETE (R369). -/
def execRepairComplete (t : Nat) (segment : List Byte) (s : State) : Host.Outcome State Fault Refusal :=
  command true (opRepairComplete t segment) s

/-- READBACK (R372). -/
def execReadback (w : Who) (f : Nat) (s : State) : Host.Outcome State Fault Refusal :=
  command true (opReadback w f) s

end Sys2Proof.Machine
end

