-- ==== Sys2Proof/Machine/ExecDictionary.lean ====
section
/-! DEFINITION. The commands of the object dictionary, its ports, sessions and profiles (chapter 14): each is its operation, run as a command. -/

namespace Sys2Proof.Machine

/-- SNAPSHOT_READ (R11). -/
def execSnapshotRead (w : Who) (s : State) : Host.Outcome State Fault Refusal :=
  command true (opSnapshotRead w) s

/-- REGISTER_WRITE (R413). -/
def execRegisterWrite (w : Who) (r : ObjRef) (raw : List Byte) (s : State) : Host.Outcome State Fault Refusal :=
  command true (opRegisterWrite w r raw) s

/-- WRITE_FRAME (R421). -/
def execWriteFrame (data : List Byte) (whole : Bool) (s : State) : Host.Outcome State Fault Refusal :=
  command true (opWriteFrame data whole) s

/-- READ_FRAME (R421). -/
def execReadFrame (s : State) : Host.Outcome State Fault Refusal :=
  command true opReadFrame s

/-- READ_STATUS (R421). -/
def execReadStatus (s : State) : Host.Outcome State Fault Refusal :=
  command true opReadStatus s

/-- MGMT_DATAGRAM (R411). -/
def execMgmtDatagram (t src srcPort : Nat) (b : MgmtBody) (s : State) : Host.Outcome State Fault Refusal :=
  command true (opMgmtDatagram t src srcPort b) s

/-- OBP_FRAME_RECEIVE (R419). -/
def execObpFrameReceive (t : Nat) (port : ObpPort) (data : List Byte) (s : State) : Host.Outcome State Fault Refusal :=
  command port.wf (opObpFrameReceive t port data) s

/-- REQUEST_EXECUTE (R423). -/
def execRequestExecute (t : Nat) (s : State) : Host.Outcome State Fault Refusal :=
  command true (opRequestExecute t) s

/-- OBP_READ (R420). -/
def execObpRead (w : Who) (r : ObjRef) (offset len : Nat) (s : State) : Host.Outcome State Fault Refusal :=
  command true (opObpRead w r offset len) s

/-- OBP_WRITE (R417). -/
def execObpWrite (w : Who) (r : ObjRef) (offset : Nat) (last : Bool) (data : List Byte) (s : State) : Host.Outcome State Fault Refusal :=
  command true (opObpWrite w r offset last data) s

/-- OBP_INFO (R442). -/
def execObpInfo (w : Who) (r : ObjRef) (len : Nat) (s : State) : Host.Outcome State Fault Refusal :=
  command true (opObpInfo w r len) s

/-- OBP_OPEN (R431). -/
def execObpOpen (port : ObpPort) (nonce : Nat) (s : State) : Host.Outcome State Fault Refusal :=
  command port.wf (opObpOpen port nonce) s

/-- OBP_CLOSE (R433). -/
def execObpClose (w : Who) (s : State) : Host.Outcome State Fault Refusal :=
  command true (opObpClose w) s

/-- SESSION_TIMEOUT (R433). -/
def execSessionTimeout (t k : Nat) (s : State) : Host.Outcome State Fault Refusal :=
  command (decide (k < 64)) (opSessionTimeout t k) s

/-- SESSION_CLOSE_COMMAND (R414). -/
def execSessionCloseCommand (w : Who) (k : Nat) (s : State) : Host.Outcome State Fault Refusal :=
  command true (opSessionCloseCommand w k) s

/-- WRITE_LOCK_CLAIM (R416). -/
def execWriteLockClaim (w : Who) (ident : Nat) (s : State) : Host.Outcome State Fault Refusal :=
  command true (opWriteLockClaim w ident) s

/-- WRITE_LOCK_RELEASE (R416). -/
def execWriteLockRelease (w : Who) (s : State) : Host.Outcome State Fault Refusal :=
  command true (opWriteLockRelease w) s

/-- NOTIFY_SEND (R434). -/
def execNotifySend (t k : Nat) (s : State) : Host.Outcome State Fault Refusal :=
  command (decide (k < 64)) (opNotifySend t k) s

/-- MGMT_CONFIG_APPLY (R412). -/
def execMgmtConfigApply (s : State) : Host.Outcome State Fault Refusal :=
  command true opMgmtConfigApply s

/-- PROFILE_RECORD_WRITE (R435). -/
def execProfileRecordWrite (w : Who) (p : Nat) (record : List Byte) (s : State) : Host.Outcome State Fault Refusal :=
  command true (opProfileRecordWrite w p record) s

/-- PROFILE_ARM_SWITCH (R440). -/
def execProfileArmSwitch (w : Who) (s : State) : Host.Outcome State Fault Refusal :=
  command true (opProfileArmSwitch w) s

/-- PROFILE_DISARM (R440). -/
def execProfileDisarm (w : Who) (s : State) : Host.Outcome State Fault Refusal :=
  command true (opProfileDisarm w) s

/-- CAPTURE (R438). -/
def execCapture (w : Who) (s : State) : Host.Outcome State Fault Refusal :=
  command true (opCapture w) s

/-- ERASE (R438). -/
def execErase (w : Who) (s : State) : Host.Outcome State Fault Refusal :=
  command true (opErase w) s

/-- CONSOLE_READ (R552). -/
def execConsoleRead (r : ObjRef) (s : State) : Host.Outcome State Fault Refusal :=
  command true (opConsoleRead r) s

/-- CONSOLE_WRITE (R552). -/
def execConsoleWrite (r : ObjRef) (data : List Byte) (s : State) : Host.Outcome State Fault Refusal :=
  command true (opConsoleWrite r data) s

/-- MGMT_LINK_CHANGE (R443). -/
def execMgmtLinkChange (up : Bool) (s : State) : Host.Outcome State Fault Refusal :=
  command true (opMgmtLinkChange up) s

end Sys2Proof.Machine
end

