-- ==== Sys2Proof/Machine/ExecDusk.lean ====
section
/-! DEFINITION. The commands of the Dusk cores and the lock unit (chapter 15): each is its operation, run as a command. -/

namespace Sys2Proof.Machine

/-- Instruction `i` is what core `c` fetches (R550): where a FIX unit serves core 1's fetch, it is the instruction of the unit's patch word.
[DEDUCED, log 236: unsafe] -/
def State.serves (s : State) (c : Nat) (i : Instr) : Bool :=
  match s.fixWord c with
  | some w => duskEncode i == some w
  | none => true

/-- An instruction of core `c`, run as a command; one that the core does not fetch has no effect. -/
def duskCommand (c : Nat) (i : Instr) (ok : Bool) (f : State → State) (s : State) : Host.Outcome State Fault Refusal :=
  command ok (fun s => if s.serves c i then f s else s) s

/-- ADD (R446). -/
def execDuskAdd (c dst a b : Nat) (s : State) : Host.Outcome State Fault Refusal :=
  duskCommand c (.duskAdd c dst a b) (decide (c < 2) && decide (dst < 8) && decide (a < 8) && decide (b < 8)) (opDuskAdd c dst a b) s

/-- SUB (R446). -/
def execDuskSub (c dst a b : Nat) (s : State) : Host.Outcome State Fault Refusal :=
  duskCommand c (.duskSub c dst a b) (decide (c < 2) && decide (dst < 8) && decide (a < 8) && decide (b < 8)) (opDuskSub c dst a b) s

/-- AND (R446). -/
def execDuskAnd (c dst a b : Nat) (s : State) : Host.Outcome State Fault Refusal :=
  duskCommand c (.duskAnd c dst a b) (decide (c < 2) && decide (dst < 8) && decide (a < 8) && decide (b < 8)) (opDuskAnd c dst a b) s

/-- OR (R446). -/
def execDuskOr (c dst a b : Nat) (s : State) : Host.Outcome State Fault Refusal :=
  duskCommand c (.duskOr c dst a b) (decide (c < 2) && decide (dst < 8) && decide (a < 8) && decide (b < 8)) (opDuskOr c dst a b) s

/-- XOR (R446). -/
def execDuskXor (c dst a b : Nat) (s : State) : Host.Outcome State Fault Refusal :=
  duskCommand c (.duskXor c dst a b) (decide (c < 2) && decide (dst < 8) && decide (a < 8) && decide (b < 8)) (opDuskXor c dst a b) s

/-- SHL (R446). -/
def execDuskShl (c dst a b : Nat) (s : State) : Host.Outcome State Fault Refusal :=
  duskCommand c (.duskShl c dst a b) (decide (c < 2) && decide (dst < 8) && decide (a < 8) && decide (b < 8)) (opDuskShl c dst a b) s

/-- SHRA (R446). -/
def execDuskShra (c dst a b : Nat) (s : State) : Host.Outcome State Fault Refusal :=
  duskCommand c (.duskShra c dst a b) (decide (c < 2) && decide (dst < 8) && decide (a < 8) && decide (b < 8)) (opDuskShra c dst a b) s

/-- SHRL (R446). -/
def execDuskShrl (c dst a b : Nat) (s : State) : Host.Outcome State Fault Refusal :=
  duskCommand c (.duskShrl c dst a b) (decide (c < 2) && decide (dst < 8) && decide (a < 8) && decide (b < 8)) (opDuskShrl c dst a b) s

/-- MOV (R446). -/
def execDuskMov (c dst a : Nat) (s : State) : Host.Outcome State Fault Refusal :=
  duskCommand c (.duskMov c dst a) (decide (c < 2) && decide (dst < 8) && decide (a < 8)) (opDuskMov c dst a) s

/-- TOP (R446). -/
def execDuskTop (c dst a : Nat) (s : State) : Host.Outcome State Fault Refusal :=
  duskCommand c (.duskTop c dst a) (decide (c < 2) && decide (dst < 8) && decide (a < 8)) (opDuskTop c dst a) s

/-- FROMP (R446). -/
def execDuskFromp (c dst a : Nat) (s : State) : Host.Outcome State Fault Refusal :=
  duskCommand c (.duskFromp c dst a) (decide (c < 2) && decide (dst < 8) && decide (a < 8)) (opDuskFromp c dst a) s

/-- MIN (R446). -/
def execDuskMin (c dst a b : Nat) (s : State) : Host.Outcome State Fault Refusal :=
  duskCommand c (.duskMin c dst a b) (decide (c < 2) && decide (dst < 8) && decide (a < 8) && decide (b < 8)) (opDuskMin c dst a b) s

/-- MAX (R446). -/
def execDuskMax (c dst a b : Nat) (s : State) : Host.Outcome State Fault Refusal :=
  duskCommand c (.duskMax c dst a b) (decide (c < 2) && decide (dst < 8) && decide (a < 8) && decide (b < 8)) (opDuskMax c dst a b) s

/-- ADDI (R446). -/
def execDuskAddi (c dst imm : Nat) (s : State) : Host.Outcome State Fault Refusal :=
  duskCommand c (.duskAddi c dst imm) (decide (c < 2) && decide (dst < 8) && decide (imm < 8192)) (opDuskAddi c dst imm) s

/-- ANDI (R446). -/
def execDuskAndi (c dst imm : Nat) (s : State) : Host.Outcome State Fault Refusal :=
  duskCommand c (.duskAndi c dst imm) (decide (c < 2) && decide (dst < 8) && decide (imm < 8192)) (opDuskAndi c dst imm) s

/-- ORI (R446). -/
def execDuskOri (c dst imm : Nat) (s : State) : Host.Outcome State Fault Refusal :=
  duskCommand c (.duskOri c dst imm) (decide (c < 2) && decide (dst < 8) && decide (imm < 8192)) (opDuskOri c dst imm) s

/-- XORI (R446). -/
def execDuskXori (c dst imm : Nat) (s : State) : Host.Outcome State Fault Refusal :=
  duskCommand c (.duskXori c dst imm) (decide (c < 2) && decide (dst < 8) && decide (imm < 8192)) (opDuskXori c dst imm) s

/-- MOVI (R446). -/
def execDuskMovi (c target imm : Nat) (s : State) : Host.Outcome State Fault Refusal :=
  duskCommand c (.duskMovi c target imm) (decide (c < 2) && decide (target < 16) && decide (imm < 65536)) (opDuskMovi c target imm) s

/-- LD (R445). -/
def execDuskLd (c d p mode offset : Nat) (s : State) : Host.Outcome State Fault Refusal :=
  duskCommand c (.duskLd c d p mode offset) (decide (c < 2) && decide (d < 8) && decide (p < 4) && decide (mode < 8) && decide (offset < 4096)) (opDuskLd c d p mode offset) s

/-- ST (R445). -/
def execDuskSt (c d p mode offset : Nat) (s : State) : Host.Outcome State Fault Refusal :=
  duskCommand c (.duskSt c d p mode offset) (decide (c < 2) && decide (d < 8) && decide (p < 4) && decide (mode < 8) && decide (offset < 4096)) (opDuskSt c d p mode offset) s

/-- MPY (R447). -/
def execDuskMpy (c acc : Nat) (frac : Bool) (dx dy : Nat) (load : Bool) (s : State) : Host.Outcome State Fault Refusal :=
  duskCommand c (.duskMpy c acc frac dx dy load) (decide (c < 2) && decide (acc < 2) && decide (dx < 8) && decide (dy < 8)) (opDuskMpy c acc frac dx dy load) s

/-- MAC (R447). -/
def execDuskMac (c acc : Nat) (frac : Bool) (dx dy : Nat) (load : Bool) (s : State) : Host.Outcome State Fault Refusal :=
  duskCommand c (.duskMac c acc frac dx dy load) (decide (c < 2) && decide (acc < 2) && decide (dx < 8) && decide (dy < 8)) (opDuskMac c acc frac dx dy load) s

/-- MSU (R447). -/
def execDuskMsu (c acc : Nat) (frac : Bool) (dx dy : Nat) (load : Bool) (s : State) : Host.Outcome State Fault Refusal :=
  duskCommand c (.duskMsu c acc frac dx dy load) (decide (c < 2) && decide (acc < 2) && decide (dx < 8) && decide (dy < 8)) (opDuskMsu c acc frac dx dy load) s

/-- CLR (R447). -/
def execDuskClr (c acc : Nat) (load : Bool) (s : State) : Host.Outcome State Fault Refusal :=
  duskCommand c (.duskClr c acc load) (decide (c < 2) && decide (acc < 2)) (opDuskClr c acc load) s

/-- LDA (R447). -/
def execDuskLda (c acc d : Nat) (s : State) : Host.Outcome State Fault Refusal :=
  duskCommand c (.duskLda c acc d) (decide (c < 2) && decide (acc < 2) && decide (d < 8)) (opDuskLda c acc d) s

/-- LDAL (R447). -/
def execDuskLdal (c acc d : Nat) (s : State) : Host.Outcome State Fault Refusal :=
  duskCommand c (.duskLdal c acc d) (decide (c < 2) && decide (acc < 2) && decide (d < 8)) (opDuskLdal c acc d) s

/-- MOVH (R447). -/
def execDuskMovh (c d acc : Nat) (s : State) : Host.Outcome State Fault Refusal :=
  duskCommand c (.duskMovh c d acc) (decide (c < 2) && decide (d < 8) && decide (acc < 2)) (opDuskMovh c d acc) s

/-- MOVL (R447). -/
def execDuskMovl (c d acc : Nat) (s : State) : Host.Outcome State Fault Refusal :=
  duskCommand c (.duskMovl c d acc) (decide (c < 2) && decide (d < 8) && decide (acc < 2)) (opDuskMovl c d acc) s

/-- ASH (R447). -/
def execDuskAsh (c acc : Nat) (shift : Int) (s : State) : Host.Outcome State Fault Refusal :=
  duskCommand c (.duskAsh c acc shift) (decide (c < 2) && decide (acc < 2) && decide (-32 ≤ shift) && decide (shift ≤ 31)) (opDuskAsh c acc shift) s

/-- NORM (R448). -/
def execDuskNorm (c acc d : Nat) (s : State) : Host.Outcome State Fault Refusal :=
  duskCommand c (.duskNorm c acc d) (decide (c < 2) && decide (acc < 2) && decide (d < 8)) (opDuskNorm c acc d) s

/-- EXP (R448). -/
def execDuskExp (c d acc : Nat) (s : State) : Host.Outcome State Fault Refusal :=
  duskCommand c (.duskExp c d acc) (decide (c < 2) && decide (d < 8) && decide (acc < 2)) (opDuskExp c d acc) s

/-- ADDA (R447). -/
def execDuskAdda (c acc : Nat) (s : State) : Host.Outcome State Fault Refusal :=
  duskCommand c (.duskAdda c acc) (decide (c < 2) && decide (acc < 2)) (opDuskAdda c acc) s

/-- NEG (R446). -/
def execDuskNeg (c acc : Nat) (s : State) : Host.Outcome State Fault Refusal :=
  duskCommand c (.duskNeg c acc) (decide (c < 2) && decide (acc < 2)) (opDuskNeg c acc) s

/-- ABS (R446). -/
def execDuskAbs (c acc : Nat) (s : State) : Host.Outcome State Fault Refusal :=
  duskCommand c (.duskAbs c acc) (decide (c < 2) && decide (acc < 2)) (opDuskAbs c acc) s

/-- BRANCH (R449). -/
def execDuskBranch (c cond d target : Nat) (s : State) : Host.Outcome State Fault Refusal :=
  duskCommand c (.duskBranch c cond d target) (decide (c < 2) && decide (cond < 16) && decide (d < 8) && decide (target < 4096)) (opDuskBranch c cond d target) s

/-- CALL (R446). -/
def execDuskCall (c target : Nat) (s : State) : Host.Outcome State Fault Refusal :=
  duskCommand c (.duskCall c target) (decide (c < 2) && decide (target < 4096)) (opDuskCall c target) s

/-- RET (R449). -/
def execDuskRet (c : Nat) (s : State) : Host.Outcome State Fault Refusal :=
  duskCommand c (.duskRet c) (decide (c < 2)) (opDuskRet c) s

/-- RETI (R449). -/
def execDuskReti (c : Nat) (s : State) : Host.Outcome State Fault Refusal :=
  duskCommand c (.duskReti c) (decide (c < 2)) (opDuskReti c) s

/-- REPEAT (R450). -/
def execDuskRepeat (c : Nat) (reg : Bool) (d n : Nat) (s : State) : Host.Outcome State Fault Refusal :=
  duskCommand c (.duskRepeat c reg d n) (decide (c < 2) && decide (d < 8) && decide (n < 4096)) (opDuskRepeat c reg d n) s

/-- BREP (R451). -/
def execDuskBrep (c d last : Nat) (s : State) : Host.Outcome State Fault Refusal :=
  duskCommand c (.duskBrep c d last) (decide (c < 2) && decide (d < 8) && decide (last < 4096)) (opDuskBrep c d last) s

/-- IN (R446). -/
def execDuskIn (c d port : Nat) (s : State) : Host.Outcome State Fault Refusal :=
  duskCommand c (.duskIn c d port) (decide (c < 2) && decide (d < 8) && decide (port < 1024)) (opDuskIn c d port) s

/-- OUT (R446). -/
def execDuskOut (c port d : Nat) (s : State) : Host.Outcome State Fault Refusal :=
  duskCommand c (.duskOut c port d) (decide (c < 2) && decide (port < 1024) && decide (d < 8)) (opDuskOut c port d) s

/-- NOP (R446). -/
def execDuskNop (c : Nat) (s : State) : Host.Outcome State Fault Refusal :=
  duskCommand c (.duskNop c) (decide (c < 2)) (opDuskNop c) s

/-- IDLE (R452). -/
def execDuskIdle (c : Nat) (s : State) : Host.Outcome State Fault Refusal :=
  duskCommand c (.duskIdle c) (decide (c < 2)) (opDuskIdle c) s

/-- EI (R446). -/
def execDuskEi (c : Nat) (s : State) : Host.Outcome State Fault Refusal :=
  duskCommand c (.duskEi c) (decide (c < 2)) (opDuskEi c) s

/-- DI (R446). -/
def execDuskDi (c : Nat) (s : State) : Host.Outcome State Fault Refusal :=
  duskCommand c (.duskDi c) (decide (c < 2)) (opDuskDi c) s

/-- TRAP (R454). -/
def execDuskTrap (c : Nat) (s : State) : Host.Outcome State Fault Refusal :=
  duskCommand c (.duskTrap c) (decide (c < 2)) (opDuskTrap c) s

/-- LJMP (R446). -/
def execDuskLjmp (c : Nat) (s : State) : Host.Outcome State Fault Refusal :=
  duskCommand c (.duskLjmp c) (decide (c < 2)) (opDuskLjmp c) s

/-- INTERRUPT_ENTRY (R452). -/
def execInterruptEntry (c : Nat) (s : State) : Host.Outcome State Fault Refusal :=
  command (decide (c < 2)) (opInterruptEntry c) s

/-- TIMER_EXPIRY (R452). -/
def execTimerExpiry (t : Nat) (s : State) : Host.Outcome State Fault Refusal :=
  command true (opTimerExpiry t) s

/-- WATCHDOG_KICK (R455). -/
def execWatchdogKick (t c value : Nat) (s : State) : Host.Outcome State Fault Refusal :=
  command (decide (c < 2)) (opWatchdogKick t c value) s

/-- WATCHDOG_WARNING (R455). -/
def execWatchdogWarning (t c : Nat) (s : State) : Host.Outcome State Fault Refusal :=
  command (decide (c < 2)) (opWatchdogWarning t c) s

/-- WATCHDOG_EXPIRY (R456). -/
def execWatchdogExpiry (t c : Nat) (s : State) : Host.Outcome State Fault Refusal :=
  command (decide (c < 2)) (opWatchdogExpiry t c) s

/-- LOCK_ACQUIRE (R457). -/
def execLockAcquire (p : LockParty) (n : Nat) (s : State) : Host.Outcome State Fault Refusal :=
  command (p.wf n) (opLockAcquire p n) s

/-- LOCK_RELEASE (R458). -/
def execLockRelease (p : LockParty) (n : Nat) (s : State) : Host.Outcome State Fault Refusal :=
  command (p.wf n) (opLockRelease p n) s

/-- LOCK_RENEW (R458). -/
def execLockRenew (p : LockParty) (n : Nat) (s : State) : Host.Outcome State Fault Refusal :=
  command (p.wf n) (opLockRenew p n) s

/-- LOCK_CLEAR_SUSPECT (R458). -/
def execLockClearSuspect (p : LockParty) (n : Nat) (s : State) : Host.Outcome State Fault Refusal :=
  command (p.wf n) (opLockClearSuspect p n) s

/-- LEASE_EXPIRY (R459). -/
def execLeaseExpiry (t n : Nat) (s : State) : Host.Outcome State Fault Refusal :=
  command (decide (n < 64)) (opLeaseExpiry t n) s

/-- WATCH_START (R460). -/
def execWatchStart (w : Who) (s : State) : Host.Outcome State Fault Refusal :=
  command true (opWatchStart w) s

/-- WATCH_STOP (R460). -/
def execWatchStop (w : Who) (s : State) : Host.Outcome State Fault Refusal :=
  command true (opWatchStop w) s

/-- WATCH_STORE (R460). -/
def execWatchStore (w : Who) (s : State) : Host.Outcome State Fault Refusal :=
  command true (opWatchStore w) s

/-- MBX_GO (R462). -/
def execMbxGo (addr : Nat) (s : State) : Host.Outcome State Fault Refusal :=
  command true (opMbxGo addr) s

/-- MAILBOX_ANSWER (R462). -/
def execMailboxAnswer (s : State) : Host.Outcome State Fault Refusal :=
  command true opMailboxAnswer s

/-- RAISE_DATA (R461). -/
def execRaiseData (data : Nat) (s : State) : Host.Outcome State Fault Refusal :=
  command true (opRaiseData data) s

end Sys2Proof.Machine
end

