-- ==== Sys2Proof/Machine/ExecEngines.lean ====
section
/-! DEFINITION. The commands of the raster and move engines (chapters 03 and 06): each is its operation, run as a command. -/

namespace Sys2Proof.Machine

/-- OPERATION_START (R74). -/
def execOperationStart (t o : Nat) (s : State) : Host.Outcome State Fault Refusal :=
  command (decide (o < 608)) (opOperationStart t o) s

/-- CONVERT_COMPLETE (R187). -/
def execConvertComplete (t e corrected : Nat) (storeFault : Bool) (s : State) : Host.Outcome State Fault Refusal :=
  command (decide (e < 32)) (opConvertComplete t e corrected storeFault) s

/-- ABORT_ORDER (R193). -/
def execAbortOrder (t o tag : Nat) (s : State) : Host.Outcome State Fault Refusal :=
  command (decide (o < 608)) (opAbortOrder t o tag) s

/-- ABORT_COMPLETE (R193). -/
def execAbortComplete (t e : Nat) (s : State) : Host.Outcome State Fault Refusal :=
  command (decide (e < 32)) (opAbortComplete t e) s

/-- MOVE_OPERATION_COMPLETE (R73). -/
def execMoveOperationComplete (t m : Nat) (s : State) : Host.Outcome State Fault Refusal :=
  command (decide (m < 64)) (opMoveOperationComplete t m) s

end Sys2Proof.Machine
end

