-- ==== Sys2Proof/Machine/ExecEnsemble.lean ====
section
/-! DEFINITION. The commands of ensembles (chapter 19): each is its operation, run as a command. -/

namespace Sys2Proof.Machine

/-- COUNCIL_RECEIVE (R522). -/
def execCouncilReceive (t k : Nat) (m : CouncilMsg) (s : State) : Host.Outcome State Fault Refusal :=
  command (decide (k < 256)) (opCouncilReceive t k m) s

/-- JOIN (R518). -/
def execJoin (w : Who) (s : State) : Host.Outcome State Fault Refusal :=
  command true (opJoin w) s

/-- ENSEMBLE_ENABLE (R518). -/
def execEnsembleEnable (w : Who) (on : Bool) (s : State) : Host.Outcome State Fault Refusal :=
  command true (opEnsembleEnable w on) s

/-- PLAN_WRITE (R526). -/
def execPlanWrite (w : Who) (plan : List Byte) (s : State) : Host.Outcome State Fault Refusal :=
  command true (opPlanWrite w plan) s

/-- PEER_DATA_RECEIVE (R532). -/
def execPeerDataReceive (t k : Nat) (p : PeerData) (s : State) : Host.Outcome State Fault Refusal :=
  command (decide (k < 256)) (opPeerDataReceive t k p) s

/-- PEER_DATA_SEND (R531). -/
def execPeerDataSend (t f : Nat) (s : State) : Host.Outcome State Fault Refusal :=
  command (decide (f < 262144)) (opPeerDataSend t f) s

end Sys2Proof.Machine
end

