-- ==== Sys2Proof/Machine/ExecFabric.lean ====
section
/-! DEFINITION. The commands of the fabric (chapter 11): each is its operation, run as a command. -/

namespace Sys2Proof.Machine

/-- BRAM_READ (R322). -/
def execBramRead (m addr : Nat) (port : BramPort) (s : State) : Host.Outcome State Fault Refusal :=
  command (decide (m < 10240)) (opBramRead m addr port) s

/-- BRAM_WRITE (R322). -/
def execBramWrite (m addr data : Nat) (port : BramPort) (wpoison : Bool) (s : State) : Host.Outcome State Fault Refusal :=
  command (decide (m < 10240)) (opBramWrite m addr data port wpoison) s

/-- PLL_LOCK_LOSS (R328). -/
def execPllLockLoss (p : Nat) (s : State) : Host.Outcome State Fault Refusal :=
  command (decide (p < 48)) (opPllLockLoss p) s

/-- PLL_LOCK (R328). -/
def execPllLock (p khz : Nat) (s : State) : Host.Outcome State Fault Refusal :=
  command (decide (p < 48)) (opPllLock p khz) s

/-- PORT_UP_CHANGE (R331). -/
def execPortUpChange (t q : Nat) (up : Bool) (s : State) : Host.Outcome State Fault Refusal :=
  command (decide (q < 512)) (opPortUpChange t q up) s

/-- DESCRIPTOR_HANDSHAKE (R334). -/
def execDescriptorHandshake (q : Nat) (s : State) : Host.Outcome State Fault Refusal :=
  command (decide (q < 512)) (opDescriptorHandshake q) s

/-- PARAMETER_HANDSHAKE (R334). -/
def execParameterHandshake (q : Nat) (s : State) : Host.Outcome State Fault Refusal :=
  command (decide (q < 512)) (opParameterHandshake q) s

/-- DONE_HANDSHAKE (R336). -/
def execDoneHandshake (t q tag status code : Nat) (s : State) : Host.Outcome State Fault Refusal :=
  command (decide (q < 512)) (opDoneHandshake t q tag status code) s

/-- COMPLETION_FORWARD (R336). -/
def execCompletionForward (t q : Nat) (s : State) : Host.Outcome State Fault Refusal :=
  command (decide (q < 512)) (opCompletionForward t q) s

/-- READ_REQUEST_HANDSHAKE (R339). -/
def execReadRequestHandshake (q addr count : Nat) (mirror : Bool) (ident : Nat) (s : State) : Host.Outcome State Fault Refusal :=
  command (decide (q < 512)) (opReadRequestHandshake q addr count mirror ident) s

/-- READ_RESPONSE_HANDSHAKE (R339). -/
def execReadResponseHandshake (q : Nat) (s : State) : Host.Outcome State Fault Refusal :=
  command (decide (q < 512)) (opReadResponseHandshake q) s

/-- WRITE_FLIT_HANDSHAKE (R340). -/
def execWriteFlitHandshake (q : Nat) (f : WrFlit) (s : State) : Host.Outcome State Fault Refusal :=
  command (decide (q < 512)) (opWriteFlitHandshake q f) s

/-- FORCED_ABORT (R344). -/
def execForcedAbort (t q : Nat) (s : State) : Host.Outcome State Fault Refusal :=
  command (decide (q < 512)) (opForcedAbort t q) s

end Sys2Proof.Machine
end

