-- ==== Sys2Proof/Machine/ExecGraphs.lean ====
section
/-! DEFINITION. The commands of the graph scheduler (chapter 03): each is its operation, run as a command. -/

namespace Sys2Proof.Machine

/-- GRAPH_LOAD (R60). -/
def execGraphLoad (w : Who) (g : Nat) (s : State) : Host.Outcome State Fault Refusal :=
  command true (opGraphLoad w g) s

/-- LOAD_CHECK_DONE (R60). -/
def execLoadCheckDone (g : Nat) (s : State) : Host.Outcome State Fault Refusal :=
  command (decide (g < 64)) (opLoadCheckDone g) s

/-- ARM_START (R94). -/
def execArmStart (w : Who) (g : Nat) (s : State) : Host.Outcome State Fault Refusal :=
  command true (opArmStart w g) s

/-- ARM_STOP (R94). -/
def execArmStop (w : Who) (g : Nat) (s : State) : Host.Outcome State Fault Refusal :=
  command true (opArmStop w g) s

/-- ARM_SWITCH (R94). -/
def execArmSwitch (w : Who) (g : Nat) (s : State) : Host.Outcome State Fault Refusal :=
  command true (opArmSwitch w g) s

/-- UNLOAD (R94). -/
def execUnload (w : Who) (g : Nat) (s : State) : Host.Outcome State Fault Refusal :=
  command true (opUnload w g) s

/-- GRAPH_DISARM (R94). -/
def execGraphDisarm (w : Who) (g : Nat) (s : State) : Host.Outcome State Fault Refusal :=
  command true (opGraphDisarm w g) s

/-- HANDLE_DEFINE (R63). -/
def execHandleDefine (w : Who) (i : Nat) (s : State) : Host.Outcome State Fault Refusal :=
  command true (opHandleDefine w i) s

/-- HANDLE_RELEASE (R62). -/
def execHandleRelease (w : Who) (i : Nat) (s : State) : Host.Outcome State Fault Refusal :=
  command true (opHandleRelease w i) s

/-- OPERATION_COMPLETION (R75). -/
def execOperationCompletion (t o tag status : Nat) (s : State) : Host.Outcome State Fault Refusal :=
  command (decide (o < 608)) (opOperationCompletion t o tag status) s

/-- DISPATCH (R80). -/
def execDispatch (o : Nat) (s : State) : Host.Outcome State Fault Refusal :=
  command (decide (o < 608)) (opDispatch o) s

/-- DELAY_LIST_RELEASE (R83). -/
def execDelayListRelease (s : State) : Host.Outcome State Fault Refusal :=
  command true opDelayListRelease s

/-- CUTOFF_EXPIRY (R87). -/
def execCutoffExpiry (s : State) : Host.Outcome State Fault Refusal :=
  command true opCutoffExpiry s

/-- OVERFLOW_LIST_CUTOFF (R85). -/
def execOverflowListCutoff (s : State) : Host.Outcome State Fault Refusal :=
  command true opOverflowListCutoff s

/-- FRAME_TABLE_SCAN_CUTOFF (R85). -/
def execFrameTableScanCutoff (t : Nat) (s : State) : Host.Outcome State Fault Refusal :=
  command true (opFrameTableScanCutoff t) s

/-- MAX_RUN_ABORT (R89). -/
def execMaxRunAbort (s : State) : Host.Outcome State Fault Refusal :=
  command true opMaxRunAbort s

/-- COMMIT_REQUEST (R87). -/
def execCommitRequest (flow frame stamp : Nat) (s : State) : Host.Outcome State Fault Refusal :=
  command (decide (flow < 262144)) (opCommitRequest flow frame stamp) s

/-- GRAPH_DRAINED (R96). -/
def execGraphDrained (g : Nat) (s : State) : Host.Outcome State Fault Refusal :=
  command (decide (g < 64)) (opGraphDrained g) s

end Sys2Proof.Machine
end

