-- ==== Sys2Proof/Machine/ExecLanes.lean ====
section
/-! DEFINITION. The commands of lanes and links (chapter 13): each is its operation, run as a command. -/

namespace Sys2Proof.Machine

/-- REFERENCE_LOSS (R375). -/
def execReferenceLoss (t j : Nat) (s : State) : Host.Outcome State Fault Refusal :=
  command (decide (j < 16)) (opReferenceLoss t j) s

/-- TX_PLL_LOCK_FAIL (R376). -/
def execTxPllLockFail (l : Nat) (s : State) : Host.Outcome State Fault Refusal :=
  command (decide (l < 256)) (opTxPllLockFail l) s

/-- LANE_RETIRE (R376). -/
def execLaneRetire (w : Who) (l : Nat) (s : State) : Host.Outcome State Fault Refusal :=
  command true (opLaneRetire w l) s

/-- SIGNAL_DETECTED (R388). -/
def execSignalDetected (t l : Nat) (s : State) : Host.Outcome State Fault Refusal :=
  command (decide (l < 256)) (opSignalDetected t l) s

/-- BRINGUP_TIMEOUT (R389). -/
def execBringupTimeout (t l : Nat) (s : State) : Host.Outcome State Fault Refusal :=
  command (decide (l < 256)) (opBringupTimeout t l) s

/-- LANE_LOSS (R391). -/
def execLaneLoss (t l : Nat) (c : LossCause) (s : State) : Host.Outcome State Fault Refusal :=
  command (decide (l < 256)) (opLaneLoss t l c) s

/-- AN_PAGE_RECEIVE (R381). -/
def execAnPageReceive (t l : Nat) (valid : Bool) (s : State) : Host.Outcome State Fault Refusal :=
  command (decide (l < 256)) (opAnPageReceive t l valid) s

/-- POLARITY_TOGGLE (R382). -/
def execPolarityToggle (t l : Nat) (s : State) : Host.Outcome State Fault Refusal :=
  command (decide (l < 256)) (opPolarityToggle t l) s

/-- SDI_RATE_TRY (R384). -/
def execSdiRateTry (t l : Nat) (s : State) : Host.Outcome State Fault Refusal :=
  command (decide (l < 256)) (opSdiRateTry t l) s

/-- BOUNDARY_RECEIVE (R392). -/
def execBoundaryReceive (t l position header block : Nat) (s : State) : Host.Outcome State Fault Refusal :=
  command (decide (l < 256)) (opBoundaryReceive t l position header block) s

/-- DESKEW_COMPLETE (R393). -/
def execDeskewComplete (t k skew : Nat) (s : State) : Host.Outcome State Fault Refusal :=
  command (decide (k < 256)) (opDeskewComplete t k skew) s

/-- TRAIN_BLOCK_RECEIVE (R394). -/
def execTrainBlockReceive (t k block : Nat) (s : State) : Host.Outcome State Fault Refusal :=
  command (decide (k < 256)) (opTrainBlockReceive t k block) s

/-- FILLER_ROW_ARRIVE (R395). -/
def execFillerRowArrive (k : Nat) (s : State) : Host.Outcome State Fault Refusal :=
  command (decide (k < 256)) (opFillerRowArrive k) s

/-- MARGIN_CHECK (R398). -/
def execMarginCheck (l margin : Nat) (s : State) : Host.Outcome State Fault Refusal :=
  command (decide (l < 256)) (opMarginCheck l margin) s

/-- EQ_SAVE (R397). -/
def execEqSave (l : Nat) (eq : List Byte) (s : State) : Host.Outcome State Fault Refusal :=
  command (decide (l < 256)) (opEqSave l eq) s

/-- LINK_ENABLE (R399). -/
def execLinkEnable (w : Who) (k : Nat) (on : Bool) (s : State) : Host.Outcome State Fault Refusal :=
  command true (opLinkEnable w k on) s

/-- PACKET_SEND (R399). -/
def execPacketSend (t k : Nat) (s : State) : Host.Outcome State Fault Refusal :=
  command (decide (k < 256)) (opPacketSend t k) s

/-- PACKET_RECEIVE (R401). -/
def execPacketReceive (t k : Nat) (p : LinkPacket) (s : State) : Host.Outcome State Fault Refusal :=
  command (decide (k < 256) && decide (p.seq < 65536) && decide (p.channel < 4)) (opPacketReceive t k p) s

/-- ACK_SEND (R402). -/
def execAckSend (k : Nat) (s : State) : Host.Outcome State Fault Refusal :=
  command (decide (k < 256)) (opAckSend k) s

/-- ACK_RECEIVE (R402). -/
def execAckReceive (k seq : Nat) (crcOk : Bool) (s : State) : Host.Outcome State Fault Refusal :=
  command (decide (k < 256)) (opAckReceive k seq crcOk) s

/-- NAK_RECEIVE (R403). -/
def execNakReceive (k seq : Nat) (crcOk : Bool) (s : State) : Host.Outcome State Fault Refusal :=
  command (decide (k < 256)) (opNakReceive k seq crcOk) s

/-- REPLAY_TIMEOUT (R403). -/
def execReplayTimeout (t k : Nat) (s : State) : Host.Outcome State Fault Refusal :=
  command (decide (k < 256)) (opReplayTimeout t k) s

/-- PRBS_CLEAR (R406). -/
def execPrbsClear (w : Who) (l : Nat) (s : State) : Host.Outcome State Fault Refusal :=
  command true (opPrbsClear w l) s

/-- EYE_SCAN (R408). -/
def execEyeScan (w : Who) (l : Nat) (raw : List Byte) (s : State) : Host.Outcome State Fault Refusal :=
  command true (opEyeScan w l raw) s

/-- EYE_SCAN_COMPLETE (R408). -/
def execEyeScanComplete (l errors bits : Nat) (s : State) : Host.Outcome State Fault Refusal :=
  command (decide (l < 256)) (opEyeScanComplete l errors bits) s

/-- CLOCK_LOCK_ACHIEVED (R384). -/
def execClockLockAchieved (t l : Nat) (s : State) : Host.Outcome State Fault Refusal :=
  command (decide (l < 256)) (opClockLockAchieved t l) s

/-- BLOCK_LOCK_ACHIEVED (R382). -/
def execBlockLockAchieved (t l : Nat) (s : State) : Host.Outcome State Fault Refusal :=
  command (decide (l < 256)) (opBlockLockAchieved t l) s

/-- WORD_LOCK_ACHIEVED (R383). -/
def execWordLockAchieved (t l : Nat) (levelB : Bool) (s : State) : Host.Outcome State Fault Refusal :=
  command (decide (l < 256)) (opWordLockAchieved t l levelB) s

/-- TRAINING_COMPLETE (R380). -/
def execTrainingComplete (t l : Nat) (s : State) : Host.Outcome State Fault Refusal :=
  command (decide (l < 256)) (opTrainingComplete t l) s

/-- ADAPTATION_FREEZE (R396). -/
def execAdaptationFreeze (l : Nat) (s : State) : Host.Outcome State Fault Refusal :=
  command (decide (l < 256)) (opAdaptationFreeze l) s

/-- ADAPTATION_RESUME (R396). -/
def execAdaptationResume (t l : Nat) (s : State) : Host.Outcome State Fault Refusal :=
  command (decide (l < 256)) (opAdaptationResume t l) s

/-- PRBS_LOCK (R406). -/
def execPrbsLock (l : Nat) (s : State) : Host.Outcome State Fault Refusal :=
  command (decide (l < 256)) (opPrbsLock l) s

/-- PRBS_LOCK_LOSS (R406). -/
def execPrbsLockLoss (l : Nat) (s : State) : Host.Outcome State Fault Refusal :=
  command (decide (l < 256)) (opPrbsLockLoss l) s

/-- REFERENCE_PAIR_RETURN (R375). -/
def execReferencePairReturn (j khz : Nat) (s : State) : Host.Outcome State Fault Refusal :=
  command (decide (j < 16)) (opReferencePairReturn j khz) s

/-- NAK_PENDING_EXPIRY (R401). -/
def execNakPendingExpiry (t k : Nat) (s : State) : Host.Outcome State Fault Refusal :=
  command (decide (k < 256)) (opNakPendingExpiry t k) s

end Sys2Proof.Machine
end

