-- ==== Sys2Proof/Machine/ExecLog.lean ====
section
/-! DEFINITION. The commands of integrity conditions and the event log (chapter 18): each is its operation, run as a command. -/

namespace Sys2Proof.Machine

/-- LATCHED (R504). -/
def execLatched (w : Who) (mask : Nat) (s : State) : Host.Outcome State Fault Refusal :=
  command true (opLatched w mask) s

/-- ACK (R513). -/
def execAck (w : Who) (s : State) : Host.Outcome State Fault Refusal :=
  command true (opAck w) s

/-- CLEAR_PINNED (R511). -/
def execClearPinned (w : Who) (s : State) : Host.Outcome State Fault Refusal :=
  command true (opClearPinned w) s

/-- RECORDS (R512). -/
def execRecords (w : Who) (s : State) : Host.Outcome State Fault Refusal :=
  command true (opRecords w) s

/-- LOG_RECORD_WRITE (R510). -/
def execLogRecordWrite (t : Nat) (s : State) : Host.Outcome State Fault Refusal :=
  command true (opLogRecordWrite t) s

/-- DROP_INTERVAL_END (R510). -/
def execDropIntervalEnd (t : Nat) (s : State) : Host.Outcome State Fault Refusal :=
  command true (opDropIntervalEnd t) s

end Sys2Proof.Machine
end

