-- ==== Sys2Proof/Machine/ExecPower.lean ====
section
/-! DEFINITION. The commands of power and the Twilight island (chapter 16): each is its operation, run as a command. -/

namespace Sys2Proof.Machine

/-- TRIP_PORT_WRITE (R478). -/
def execTripPortWrite (t value : Nat) (s : State) : Host.Outcome State Fault Refusal :=
  command true (opTripPortWrite t value) s

/-- WAKE_PORT_WRITE (R474). -/
def execWakePortWrite (t : Nat) (s : State) : Host.Outcome State Fault Refusal :=
  command true (opWakePortWrite t) s

/-- ADC_DATA_READ (R477). -/
def execAdcDataRead (s : State) : Host.Outcome State Fault Refusal :=
  command true opAdcDataRead s

/-- ADC_SAMPLE (R477). -/
def execAdcSample (t code : Nat) (s : State) : Host.Outcome State Fault Refusal :=
  command true (opAdcSample t code) s

/-- TRIP_DRAIN_CUT (R473). -/
def execTripDrainCut (t d : Nat) (s : State) : Host.Outcome State Fault Refusal :=
  command (decide (d < 107)) (opTripDrainCut t d) s

/-- DOMAIN_OFF (R465). -/
def execDomainOff (w : Who) (d : Nat) (s : State) : Host.Outcome State Fault Refusal :=
  command true (opDomainOff w d) s

/-- DOMAIN_ON (R466). -/
def execDomainOn (w : Who) (d : Nat) (s : State) : Host.Outcome State Fault Refusal :=
  command true (opDomainOn w d) s

/-- DRAIN_COMPLETE (R291). -/
def execDrainComplete (t d : Nat) (s : State) : Host.Outcome State Fault Refusal :=
  command (decide (d < 107)) (opDrainComplete t d) s

/-- DRAIN_ABANDON (R465). -/
def execDrainAbandon (t d : Nat) (s : State) : Host.Outcome State Fault Refusal :=
  command (decide (d < 107)) (opDrainAbandon t d) s

/-- STANDBY (R469). -/
def execStandby (w : Who) (s : State) : Host.Outcome State Fault Refusal :=
  command true (opStandby w) s

/-- POWER_RESUME (R470). -/
def execPowerResume (w : Who) (s : State) : Host.Outcome State Fault Refusal :=
  command true (opPowerResume w) s

/-- NIGHTFALL (R471). -/
def execNightfall (w : Who) (s : State) : Host.Outcome State Fault Refusal :=
  command true (opNightfall w) s

/-- WAKE_PIN (R474). -/
def execWakePin (t : Nat) (s : State) : Host.Outcome State Fault Refusal :=
  command true (opWakePin t) s

/-- WAKE_TIMER (R474). -/
def execWakeTimer (t : Nat) (s : State) : Host.Outcome State Fault Refusal :=
  command true (opWakeTimer t) s

/-- STACK_TEMPERATURE_TRIP (R478). -/
def execStackTemperatureTrip (t k : Nat) (s : State) : Host.Outcome State Fault Refusal :=
  command (decide (k < 4)) (opStackTemperatureTrip t k) s

/-- DOMAIN_POWER_ON_COMPLETE (R466). -/
def execDomainPowerOnComplete (t d : Nat) (image : List Byte) (results : List TrainResult) (s : State) : Host.Outcome State Fault Refusal :=
  command (decide (d < 107)) (opDomainPowerOnComplete t d image results) s

end Sys2Proof.Machine
end

