-- ==== Sys2Proof/Machine/ExecReset.lean ====
section
/-! DEFINITION. The commands of reset and Daybreak (chapter 17): each is its operation, run as a command. -/

namespace Sys2Proof.Machine

/-- POWER_ON_RESET (R481). -/
def execPowerOnReset (s : State) : Host.Outcome State Fault Refusal :=
  command true opPowerOnReset s

/-- PIN_RESET (R482). -/
def execPinReset (s : State) : Host.Outcome State Fault Refusal :=
  command true opPinReset s

/-- DAYBREAK_STEP_COMPLETE (R483). -/
def execDaybreakStepComplete (t step : Nat) (r : StepResult) (s : State) : Host.Outcome State Fault Refusal :=
  command (decide (1 ≤ step) && decide (step ≤ 10)) (opDaybreakStepComplete t step r) s

/-- STEWARD_RESTART_COMPLETE (R493). -/
def execStewardRestartComplete (t : Nat) (s : State) : Host.Outcome State Fault Refusal :=
  command true (opStewardRestartComplete t) s

end Sys2Proof.Machine
end

