-- ==== Sys2Proof/Machine/ExecRings.lean ====
section
/-! DEFINITION. The commands of the Meridian rings (chapter 09): each is its operation, run as a command. -/

namespace Sys2Proof.Machine

/-- SLOT_TABLE_SWAP (R278). -/
def execSlotTableSwap (t : Nat) (s : State) : Host.Outcome State Fault Refusal :=
  command true (opSlotTableSwap t) s

/-- MASTER_REQUEST (R293). -/
def execMasterRequest (g : Nat) (r : MasterReq) (s : State) : Host.Outcome State Fault Refusal :=
  command (decide (g < 386)) (opMasterRequest g r) s

/-- FLIT_SEND (R272). -/
def execFlitSend (g dir : Nat) (s : State) : Host.Outcome State Fault Refusal :=
  command (decide (g < 384) && decide (dir < 2)) (opFlitSend g dir) s

/-- FLIT_RECEIVE (R295). -/
def execFlitReceive (g dir : Nat) (f : Flit) (s : State) : Host.Outcome State Fault Refusal :=
  command (decide (g < 384) && decide (dir < 2)) (opFlitReceive g dir f) s

/-- SIDE_WORD_RECEIVE (R271). -/
def execSideWordReceive (g dir side : Nat) (s : State) : Host.Outcome State Fault Refusal :=
  command (decide (g < 384) && decide (dir < 2)) (opSideWordReceive g dir side) s

/-- ACKNOWLEDGEMENT_RECEIVE (R269). -/
def execAcknowledgementReceive (g tag : Nat) (st : AckStatus) (s : State) : Host.Outcome State Fault Refusal :=
  command (decide (g < 386)) (opAcknowledgementReceive g tag st) s

/-- READ_RESPONSE_RECEIVE (R292). -/
def execReadResponseReceive (g tag : Nat) (a : ReadAnswer) (s : State) : Host.Outcome State Fault Refusal :=
  command (decide (g < 386)) (opReadResponseReceive g tag a) s

/-- ARBITER_DECISION (R283). -/
def execArbiterDecision (a : ArbId) (s : State) : Host.Outcome State Fault Refusal :=
  command a.wf (opArbiterDecision a) s

/-- STARVATION (R286). -/
def execStarvation (a : ArbId) (s : State) : Host.Outcome State Fault Refusal :=
  command a.wf (opStarvation a) s

/-- EPOCH_DRAIN_END (R289). -/
def execEpochDrainEnd (t : Nat) (s : State) : Host.Outcome State Fault Refusal :=
  command true (opEpochDrainEnd t) s

/-- EPOCH_DRAIN_BOUND (R289). -/
def execEpochDrainBound (t : Nat) (s : State) : Host.Outcome State Fault Refusal :=
  command true (opEpochDrainBound t) s

/-- PARTIAL_TRANSFER_TIMEOUT (R296). -/
def execPartialTransferTimeout (g dir : Nat) (vc : VC) (s : State) : Host.Outcome State Fault Refusal :=
  command (decide (g < 384) && decide (dir < 2)) (opPartialTransferTimeout g dir vc) s

/-- TRANSFER_TIMEOUT (R297). -/
def execTransferTimeout (g tag : Nat) (s : State) : Host.Outcome State Fault Refusal :=
  command (decide (g < 386)) (opTransferTimeout g tag) s

/-- SEGMENT_FAULT (R298). -/
def execSegmentFault (t k seg dir : Nat) (s : State) : Host.Outcome State Fault Refusal :=
  command (decide (k < 16) && decide (seg < 24) && decide (dir < 3)) (opSegmentFault t k seg dir) s

/-- DETOUR_ENTER (R299). -/
def execDetourEnter (t k : Nat) (s : State) : Host.Outcome State Fault Refusal :=
  command (decide (k < 16)) (opDetourEnter t k) s

end Sys2Proof.Machine
end

