-- ==== Sys2Proof/Machine/ExecScratchpad.lean ====
section
/-! DEFINITION. The commands of the scratchpad (chapter 10): each is its operation, run as a command. -/

namespace Sys2Proof.Machine

/-- SLICE_BANK_ACCESS (R307). -/
def execSliceBankAccess (k b : Nat) (s : State) : Host.Outcome State Fault Refusal :=
  command (decide (k < 16) && decide (b < 32)) (opSliceBankAccess k b) s

/-- SCRATCHPAD_SCRUB_ACCESS (R309). -/
def execScratchpadScrubAccess (b : Nat) (s : State) : Host.Outcome State Fault Refusal :=
  command (decide (b < 512)) (opScratchpadScrubAccess b) s

/-- WIPE_COMPLETE (R313). -/
def execWipeComplete (t : Nat) (s : State) : Host.Outcome State Fault Refusal :=
  command true (opWipeComplete t) s

end Sys2Proof.Machine
end

