-- ==== Sys2Proof/Machine/ExecService.lean ====
section
/-! DEFINITION. The commands of life-cycle, debug port and service (chapter 20): each is its operation, run as a command. -/

namespace Sys2Proof.Machine

/-- WIPE_START (R311). -/
def execWipeStart (t source : Nat) (s : State) : Host.Outcome State Fault Refusal :=
  command (decide (source < 4)) (opWipeStart t source) s

/-- COMMIT (R537). -/
def execLifecycleCommit (w : Who) (value : Nat) (s : State) : Host.Outcome State Fault Refusal :=
  command true (opLifecycleCommit w value) s

/-- FUSE_BLOW_COMPLETE (R537). -/
def execFuseBlowComplete (s : State) : Host.Outcome State Fault Refusal :=
  command true opFuseBlowComplete s

/-- DEV_DIGEST (R538). -/
def execDevDigest (w : Who) (digest : List Byte) (s : State) : Host.Outcome State Fault Refusal :=
  command true (opDevDigest w digest) s

/-- SERVICE_KEY_DIGEST (R538). -/
def execServiceKeyDigest (w : Who) (digest : List Byte) (s : State) : Host.Outcome State Fault Refusal :=
  command true (opServiceKeyDigest w digest) s

/-- IMAGE_KEY (R538). -/
def execImageKey (w : Who) (key : List Byte) (s : State) : Host.Outcome State Fault Refusal :=
  command true (opImageKey w key) s

/-- BYPASS (R539). -/
def execTapBypass (s : State) : Host.Outcome State Fault Refusal :=
  command true opTapBypass s

/-- IDCODE (R539). -/
def execTapIdcode (s : State) : Host.Outcome State Fault Refusal :=
  command true opTapIdcode s

/-- SAMPLE_PRELOAD (R539). -/
def execTapSamplePreload (s : State) : Host.Outcome State Fault Refusal :=
  command true opTapSamplePreload s

/-- EXTEST (R539). -/
def execTapExtest (s : State) : Host.Outcome State Fault Refusal :=
  command true opTapExtest s

/-- CLAMP (R539). -/
def execTapClamp (s : State) : Host.Outcome State Fault Refusal :=
  command true opTapClamp s

/-- HIGHZ (R539). -/
def execTapHighz (s : State) : Host.Outcome State Fault Refusal :=
  command true opTapHighz s

/-- SVC (R540). -/
def execTapSvc (data : List Byte) (s : State) : Host.Outcome State Fault Refusal :=
  command true (opTapSvc data) s

/-- TEST_LOGIC_RESET (R540). -/
def execTestLogicReset (s : State) : Host.Outcome State Fault Refusal :=
  command true opTestLogicReset s

/-- HELLO (R542). -/
def execHello (t : Nat) (s : State) : Host.Outcome State Fault Refusal :=
  command true (opHello t) s

/-- PASSWORD (R542). -/
def execPassword (t : Nat) (secret : List Byte) (s : State) : Host.Outcome State Fault Refusal :=
  command true (opPassword t secret) s

/-- KEYX (R542). -/
def execKeyx (t rights : Nat) (qt pubkey sig : List Byte) (s : State) : Host.Outcome State Fault Refusal :=
  command true (opKeyx t rights qt pubkey sig) s

/-- SERVICE_OBP_RECORD (R540). -/
def execServiceObpRecord (t : Nat) (frame : List Byte) (s : State) : Host.Outcome State Fault Refusal :=
  command true (opServiceObpRecord t frame) s

/-- SERVICE_SESSION_TIMEOUT (R544). -/
def execServiceSessionTimeout (t : Nat) (s : State) : Host.Outcome State Fault Refusal :=
  command true (opServiceSessionTimeout t) s

/-- END (R544). -/
def execServiceEnd (w : Who) (s : State) : Host.Outcome State Fault Refusal :=
  command true (opServiceEnd w) s

/-- HALT (R545). -/
def execDebugHalt (t c : Nat) (s : State) : Host.Outcome State Fault Refusal :=
  command true (opDebugHalt t c) s

/-- CORE_RESUME (R547). -/
def execCoreResume (t c : Nat) (s : State) : Host.Outcome State Fault Refusal :=
  command true (opCoreResume t c) s

/-- STEP (R545). -/
def execDebugStep (t c : Nat) (s : State) : Host.Outcome State Fault Refusal :=
  command true (opDebugStep t c) s

/-- RD_REG (R549). -/
def execRdReg (c addr : Nat) (take : Bool) (s : State) : Host.Outcome State Fault Refusal :=
  command true (opRdReg c addr take) s

/-- WR_REG (R545). -/
def execWrReg (c addr data : Nat) (s : State) : Host.Outcome State Fault Refusal :=
  command true (opWrReg c addr data) s

/-- RD_DATA (R549). -/
def execRdData (c addr : Nat) (s : State) : Host.Outcome State Fault Refusal :=
  command true (opRdData c addr) s

/-- WR_DATA (R545). -/
def execWrData (c addr data : Nat) (s : State) : Host.Outcome State Fault Refusal :=
  command true (opWrData c addr data) s

/-- WR_PROG (R545). -/
def execWrProg (c addr data : Nat) (s : State) : Host.Outcome State Fault Refusal :=
  command true (opWrProg c addr data) s

/-- RD_STORE (R549). -/
def execRdStore (addr : Nat) (s : State) : Host.Outcome State Fault Refusal :=
  command true (opRdStore addr) s

/-- WR_STORE (R487). -/
def execWrStore (addr data : Nat) (s : State) : Host.Outcome State Fault Refusal :=
  command true (opWrStore addr data) s

/-- DEBUG_RESET (R481). -/
def execDebugReset (s : State) : Host.Outcome State Fault Refusal :=
  command true opDebugReset s

/-- PATCH_BREAK_HIT (R550). -/
def execPatchBreakHit (u : Nat) (s : State) : Host.Outcome State Fault Refusal :=
  command (decide (u < 32)) (opPatchBreakHit u) s

/-- PATCH_WATCH_HIT (R550). -/
def execPatchWatchHit (u : Nat) (a : WatchAccess) (s : State) : Host.Outcome State Fault Refusal :=
  command (decide (u < 32)) (opPatchWatchHit u a) s

/-- TERM_RECORD (R551). -/
def execTermRecord (write take : Bool) (word : Nat) (s : State) : Host.Outcome State Fault Refusal :=
  command true (opTermRecord write take word) s

/-- TAMPER_RECOVERY (R553). -/
def execTamperRecovery (s : State) : Host.Outcome State Fault Refusal :=
  command true opTamperRecovery s

end Sys2Proof.Machine
end

