-- ==== Sys2Proof/Machine/ExecStore.lean ====
section
/-! DEFINITION. The commands of the frame store (chapters 07 and 08): each is its operation, run as a command. -/

namespace Sys2Proof.Machine

/-- PC_REQUEST_ACCEPT (R200). -/
def execPcRequestAccept (n : Nat) (r : PcReq) (s : State) : Host.Outcome State Fault Refusal :=
  command (decide (n < 128)) (opPcRequestAccept n r) s

/-- PC_BURST_ISSUE (R202). -/
def execPcBurstIssue (n : Nat) (s : State) : Host.Outcome State Fault Refusal :=
  command (decide (n < 128)) (opPcBurstIssue n) s

/-- ROW_PRECHARGE_TIMEOUT (R203). -/
def execRowPrechargeTimeout (n b : Nat) (s : State) : Host.Outcome State Fault Refusal :=
  command (decide (n < 128) && decide (b < 64)) (opRowPrechargeTimeout n b) s

/-- REFRESH_DUE (R206). -/
def execRefreshDue (n b : Nat) (s : State) : Host.Outcome State Fault Refusal :=
  command (decide (n < 128) && decide (b < 64)) (opRefreshDue n b) s

/-- REFRESH_ISSUE (R207). -/
def execRefreshIssue (n b : Nat) (s : State) : Host.Outcome State Fault Refusal :=
  command (decide (n < 128) && decide (b < 64)) (opRefreshIssue n b) s

/-- SCRUB_ACCESS (R247). -/
def execScrubAccess (n : Nat) (s : State) : Host.Outcome State Fault Refusal :=
  command (decide (n < 128)) (opScrubAccess n) s

/-- RETRAIN_WINDOW (R212). -/
def execRetrainWindow (n pass : Nat) (s : State) : Host.Outcome State Fault Refusal :=
  command (decide (n < 128)) (opRetrainWindow n pass) s

/-- SWEEP_END (R213). -/
def execSweepEnd (n : Nat) (s : State) : Host.Outcome State Fault Refusal :=
  command (decide (n < 128)) (opSweepEnd n) s

/-- SWEEP_RETRY (R213). -/
def execSweepRetry (n : Nat) (s : State) : Host.Outcome State Fault Refusal :=
  command (decide (n < 128)) (opSweepRetry n) s

/-- DEGRADED_INTERVAL_END (R214). -/
def execDegradedIntervalEnd (t n : Nat) (s : State) : Host.Outcome State Fault Refusal :=
  command (decide (n < 128)) (opDegradedIntervalEnd t n) s

/-- FENCE_RECORD (R225). -/
def execFenceRecord (t n g : Nat) (s : State) : Host.Outcome State Fault Refusal :=
  command (decide (n < 128) && decide (g < 386)) (opFenceRecord t n g) s

/-- MAP_WRITE (R199). -/
def execMapWrite (w : Who) (k v : Nat) (s : State) : Host.Outcome State Fault Refusal :=
  command true (opMapWrite w k v) s

/-- RATE_CHANGE_COMMAND (R218). -/
def execRateChangeCommand (w : Who) (k r : Nat) (s : State) : Host.Outcome State Fault Refusal :=
  command true (opRateChangeCommand w k r) s

/-- RATE_CHANGE_COMPLETE (R219). -/
def execRateChangeComplete (t k : Nat) (failed : List Nat) (s : State) : Host.Outcome State Fault Refusal :=
  command (decide (k < 4)) (opRateChangeComplete t k failed) s

/-- STACK_THROTTLE (R227). -/
def execStackThrottle (k : Nat) (temp : Int) (s : State) : Host.Outcome State Fault Refusal :=
  command (decide (k < 4)) (opStackThrottle k temp) s

/-- LOG_ENTRY_FREE (R243). -/
def execLogEntryFree (w : Who) (n mask : Nat) (s : State) : Host.Outcome State Fault Refusal :=
  command true (opLogEntryFree w n mask) s

/-- FILL (R250). -/
def execFill (w : Who) (base len : Nat) (s : State) : Host.Outcome State Fault Refusal :=
  command true (opFill w base len) s

/-- FILL_COMPLETE (R252). -/
def execFillComplete (s : State) : Host.Outcome State Fault Refusal :=
  command true opFillComplete s

/-- RETIRE_ROW (R254). -/
def execRetireRow (w : Who) (a : Nat) (s : State) : Host.Outcome State Fault Refusal :=
  command true (opRetireRow w a) s

/-- RETIRE_BANK (R254). -/
def execRetireBank (w : Who) (v : Nat) (s : State) : Host.Outcome State Fault Refusal :=
  command true (opRetireBank w v) s

end Sys2Proof.Machine
end

