-- ==== Sys2Proof/Machine/ExecStreams.lean ====
section
/-! DEFINITION. The commands of the stream engine (chapter 05): each is its operation, run as a command. -/

namespace Sys2Proof.Machine

/-- PORT_ENABLE (R128). -/
def execPortEnable (w : Who) (p : Nat) (on : Bool) (s : State) : Host.Outcome State Fault Refusal :=
  command true (opPortEnable w p on) s

/-- ETH_FRAME_RECEIVE (R129). -/
def execEthFrameReceive (t p : Nat) (f : EthFrame) (s : State) : Host.Outcome State Fault Refusal :=
  command (decide (p < 256)) (opEthFrameReceive t p f) s

/-- CONFIGURE (R574). -/
def execConfigure (w : Who) (f : Nat) (s : State) : Host.Outcome State Fault Refusal :=
  command true (opConfigure w f) s

/-- UNCONFIGURE (R133). -/
def execUnconfigure (w : Who) (f : Nat) (s : State) : Host.Outcome State Fault Refusal :=
  command true (opUnconfigure w f) s

/-- MERGE_WINDOW_EXPIRY (R139). -/
def execMergeWindowExpiry (t f n : Nat) (s : State) : Host.Outcome State Fault Refusal :=
  command (decide (f < 262144)) (opMergeWindowExpiry t f n) s

/-- LEG_TIMEOUT (R142). -/
def execLegTimeout (t f leg : Nat) (s : State) : Host.Outcome State Fault Refusal :=
  command (decide (f < 262144) && decide (leg < 2)) (opLegTimeout t f leg) s

/-- SDI_FRAME_BEGIN (R148). -/
def execSdiFrameBegin (t lane : Nat) (s : State) : Host.Outcome State Fault Refusal :=
  command (decide (lane < 256)) (opSdiFrameBegin t lane) s

/-- SDI_LINE_RECEIVE (R149). -/
def execSdiLineReceive (t lane : Nat) (l : SdiLine) (s : State) : Host.Outcome State Fault Refusal :=
  command (decide (lane < 256)) (opSdiLineReceive t lane l) s

/-- EGRESS_LAUNCH (R151). -/
def execEgressLaunch (t f : Nat) (s : State) : Host.Outcome State Fault Refusal :=
  command (decide (f < 262144)) (opEgressLaunch t f) s

/-- EGRESS_PACKET_SEND (R155). -/
def execEgressPacketSend (t p : Nat) (s : State) : Host.Outcome State Fault Refusal :=
  command (decide (p < 256)) (opEgressPacketSend t p) s

/-- SDI_REPEAT_CHECK (R159). -/
def execSdiRepeatCheck (lane n : Nat) (s : State) : Host.Outcome State Fault Refusal :=
  command (decide (lane < 256)) (opSdiRepeatCheck lane n) s

/-- SDI_EGRESS_FRAME (R159). -/
def execSdiEgressFrame (lane n : Nat) (s : State) : Host.Outcome State Fault Refusal :=
  command (decide (lane < 256)) (opSdiEgressFrame lane n) s

end Sys2Proof.Machine
end

