-- ==== Sys2Proof/Machine/ExecTimebase.lean ====
section
/-! DEFINITION. The commands of the timebase, cadences and frame marks (chapter 02): each is its operation, run as a command. -/

namespace Sys2Proof.Machine

/-- PTP_SYNC (R42). -/
def execPtpSync (t port : Nat) (m : SyncMeasurement) (s : State) : Host.Outcome State Fault Refusal :=
  command (decide (port < 256)) (opPtpSync t port m) s

/-- PTP_ANNOUNCE (R42). -/
def execPtpAnnounce (t port : Nat) (a : Announce) (s : State) : Host.Outcome State Fault Refusal :=
  command (decide (port < 256)) (opPtpAnnounce t port a) s

/-- REF_IN_FRAME (R46). -/
def execRefInFrame (t format num den : Nat) (s : State) : Host.Outcome State Fault Refusal :=
  command true (opRefInFrame t format num den) s

/-- HOLDOVER_TIMEOUT (R35). -/
def execHoldoverTimeout (t : Nat) (s : State) : Host.Outcome State Fault Refusal :=
  command true (opHoldoverTimeout t) s

/-- PTP_SOURCE_LOST (R44). -/
def execPtpSourceLost (t port : Nat) (s : State) : Host.Outcome State Fault Refusal :=
  command (decide (port < 256)) (opPtpSourceLost t port) s

/-- REF_IN_LOST (R47). -/
def execRefInLost (t : Nat) (s : State) : Host.Outcome State Fault Refusal :=
  command true (opRefInLost t) s

/-- SET_TIME (R40). -/
def execSetTime (w : Who) (sec ns : Nat) (s : State) : Host.Outcome State Fault Refusal :=
  command true (opSetTime w sec ns) s

/-- FRAME_MARK (R48). -/
def execFrameMark (c n : Nat) (s : State) : Host.Outcome State Fault Refusal :=
  command (decide (c < 16)) (opFrameMark c n) s

/-- SCHEDULER_TICK (R50). -/
def execSchedulerTick (k : Nat) (s : State) : Host.Outcome State Fault Refusal :=
  command true (opSchedulerTick k) s

/-- CADENCE_ENABLE (R51). -/
def execCadenceEnable (w : Who) (c : Nat) (s : State) : Host.Outcome State Fault Refusal :=
  command true (opCadenceEnable w c) s

/-- CADENCE_DISABLE (R573). -/
def execCadenceDisable (w : Who) (c : Nat) (s : State) : Host.Outcome State Fault Refusal :=
  command true (opCadenceDisable w c) s

/-- COMMIT_LEAD_CHECK (R54). -/
def execCommitLeadCheck (c n : Nat) (s : State) : Host.Outcome State Fault Refusal :=
  command (decide (c < 16)) (opCommitLeadCheck c n) s

/-- PTP_DELAY_RESP (R42). -/
def execPtpDelayResp (port : Nat) (delay : Int) (s : State) : Host.Outcome State Fault Refusal :=
  command (decide (port < 256)) (opPtpDelayResp port delay) s

end Sys2Proof.Machine
end

