-- ==== Sys2Proof/Machine/Dispatch.lean ====
section
/-! DEFINITION. One arm for each command. -/

namespace Sys2Proof.Machine

def exec (i : Instr) (s : State) : Host.Outcome State Fault Refusal :=
  match i with
  | .snapshotRead w => Sys2Proof.Machine.execSnapshotRead w s
  | .registerWrite w r raw => Sys2Proof.Machine.execRegisterWrite w r raw s
  | .ptpSync t port m => Sys2Proof.Machine.execPtpSync t port m s
  | .ptpAnnounce t port a => Sys2Proof.Machine.execPtpAnnounce t port a s
  | .refInFrame t format num den => Sys2Proof.Machine.execRefInFrame t format num den s
  | .holdoverTimeout t => Sys2Proof.Machine.execHoldoverTimeout t s
  | .ptpSourceLost t port => Sys2Proof.Machine.execPtpSourceLost t port s
  | .refInLost t => Sys2Proof.Machine.execRefInLost t s
  | .setTime w sec ns => Sys2Proof.Machine.execSetTime w sec ns s
  | .frameMark c n => Sys2Proof.Machine.execFrameMark c n s
  | .schedulerTick k => Sys2Proof.Machine.execSchedulerTick k s
  | .cadenceEnable w c => Sys2Proof.Machine.execCadenceEnable w c s
  | .cadenceDisable w c => Sys2Proof.Machine.execCadenceDisable w c s
  | .commitLeadCheck c n => Sys2Proof.Machine.execCommitLeadCheck c n s
  | .slotTableSwap t => Sys2Proof.Machine.execSlotTableSwap t s
  | .graphLoad w g => Sys2Proof.Machine.execGraphLoad w g s
  | .loadCheckDone g => Sys2Proof.Machine.execLoadCheckDone g s
  | .armStart w g => Sys2Proof.Machine.execArmStart w g s
  | .armStop w g => Sys2Proof.Machine.execArmStop w g s
  | .armSwitch w g => Sys2Proof.Machine.execArmSwitch w g s
  | .unload w g => Sys2Proof.Machine.execUnload w g s
  | .graphDisarm w g => Sys2Proof.Machine.execGraphDisarm w g s
  | .handleDefine w j => Sys2Proof.Machine.execHandleDefine w j s
  | .handleRelease w j => Sys2Proof.Machine.execHandleRelease w j s
  | .operationCompletion t o tag status => Sys2Proof.Machine.execOperationCompletion t o tag status s
  | .dispatch o => Sys2Proof.Machine.execDispatch o s
  | .operationStart t o => Sys2Proof.Machine.execOperationStart t o s
  | .delayListRelease => Sys2Proof.Machine.execDelayListRelease s
  | .cutoffExpiry => Sys2Proof.Machine.execCutoffExpiry s
  | .overflowListCutoff => Sys2Proof.Machine.execOverflowListCutoff s
  | .frameTableScanCutoff t => Sys2Proof.Machine.execFrameTableScanCutoff t s
  | .maxRunAbort => Sys2Proof.Machine.execMaxRunAbort s
  | .commitRequest flow frame stamp => Sys2Proof.Machine.execCommitRequest flow frame stamp s
  | .graphDrained g => Sys2Proof.Machine.execGraphDrained g s
  | .admissionRequest w g => Sys2Proof.Machine.execAdmissionRequest w g s
  | .admissionReply us => Sys2Proof.Machine.execAdmissionReply us s
  | .admissionRelease w g => Sys2Proof.Machine.execAdmissionRelease w g s
  | .admissionImpair g => Sys2Proof.Machine.execAdmissionImpair g s
  | .portEnable w p on => Sys2Proof.Machine.execPortEnable w p on s
  | .ethFrameReceive t p f => Sys2Proof.Machine.execEthFrameReceive t p f s
  | .configure w f => Sys2Proof.Machine.execConfigure w f s
  | .unconfigure w f => Sys2Proof.Machine.execUnconfigure w f s
  | .mergeWindowExpiry t f n => Sys2Proof.Machine.execMergeWindowExpiry t f n s
  | .legTimeout t f leg => Sys2Proof.Machine.execLegTimeout t f leg s
  | .sdiFrameBegin t lane => Sys2Proof.Machine.execSdiFrameBegin t lane s
  | .sdiLineReceive t lane l => Sys2Proof.Machine.execSdiLineReceive t lane l s
  | .egressLaunch t f => Sys2Proof.Machine.execEgressLaunch t f s
  | .egressPacketSend t p => Sys2Proof.Machine.execEgressPacketSend t p s
  | .sdiRepeatCheck lane n => Sys2Proof.Machine.execSdiRepeatCheck lane n s
  | .sdiEgressFrame lane n => Sys2Proof.Machine.execSdiEgressFrame lane n s
  | .convertComplete t e corrected storeFault => Sys2Proof.Machine.execConvertComplete t e corrected storeFault s
  | .abortOrder t o tag => Sys2Proof.Machine.execAbortOrder t o tag s
  | .abortComplete t e => Sys2Proof.Machine.execAbortComplete t e s
  | .moveOperationComplete t m => Sys2Proof.Machine.execMoveOperationComplete t m s
  | .pcRequestAccept n r => Sys2Proof.Machine.execPcRequestAccept n r s
  | .pcBurstIssue n => Sys2Proof.Machine.execPcBurstIssue n s
  | .rowPrechargeTimeout n b => Sys2Proof.Machine.execRowPrechargeTimeout n b s
  | .refreshDue n b => Sys2Proof.Machine.execRefreshDue n b s
  | .refreshIssue n b => Sys2Proof.Machine.execRefreshIssue n b s
  | .scrubAccess n => Sys2Proof.Machine.execScrubAccess n s
  | .retrainWindow n pass => Sys2Proof.Machine.execRetrainWindow n pass s
  | .sweepEnd n => Sys2Proof.Machine.execSweepEnd n s
  | .sweepRetry n => Sys2Proof.Machine.execSweepRetry n s
  | .degradedIntervalEnd t n => Sys2Proof.Machine.execDegradedIntervalEnd t n s
  | .fenceRecord t n g => Sys2Proof.Machine.execFenceRecord t n g s
  | .mapWrite w k v => Sys2Proof.Machine.execMapWrite w k v s
  | .rateChangeCommand w k r => Sys2Proof.Machine.execRateChangeCommand w k r s
  | .rateChangeComplete t k failed => Sys2Proof.Machine.execRateChangeComplete t k failed s
  | .stackThrottle k temp => Sys2Proof.Machine.execStackThrottle k temp s
  | .logEntryFree w n mask => Sys2Proof.Machine.execLogEntryFree w n mask s
  | .fill w base len => Sys2Proof.Machine.execFill w base len s
  | .fillComplete => Sys2Proof.Machine.execFillComplete s
  | .retireRow w a => Sys2Proof.Machine.execRetireRow w a s
  | .retireBank w v => Sys2Proof.Machine.execRetireBank w v s
  | .masterRequest g r => Sys2Proof.Machine.execMasterRequest g r s
  | .flitSend g dir => Sys2Proof.Machine.execFlitSend g dir s
  | .flitReceive g dir f => Sys2Proof.Machine.execFlitReceive g dir f s
  | .sideWordReceive g dir side => Sys2Proof.Machine.execSideWordReceive g dir side s
  | .acknowledgementReceive g tag st => Sys2Proof.Machine.execAcknowledgementReceive g tag st s
  | .readResponseReceive g tag a => Sys2Proof.Machine.execReadResponseReceive g tag a s
  | .arbiterDecision a => Sys2Proof.Machine.execArbiterDecision a s
  | .starvation a => Sys2Proof.Machine.execStarvation a s
  | .epochDrainEnd t => Sys2Proof.Machine.execEpochDrainEnd t s
  | .epochDrainBound t => Sys2Proof.Machine.execEpochDrainBound t s
  | .partialTransferTimeout g dir vc => Sys2Proof.Machine.execPartialTransferTimeout g dir vc s
  | .transferTimeout g tag => Sys2Proof.Machine.execTransferTimeout g tag s
  | .segmentFault t k seg dir => Sys2Proof.Machine.execSegmentFault t k seg dir s
  | .detourEnter t k => Sys2Proof.Machine.execDetourEnter t k s
  | .sliceBankAccess k b => Sys2Proof.Machine.execSliceBankAccess k b s
  | .scratchpadScrubAccess b => Sys2Proof.Machine.execScratchpadScrubAccess b s
  | .wipeStart t source => Sys2Proof.Machine.execWipeStart t source s
  | .wipeComplete t => Sys2Proof.Machine.execWipeComplete t s
  | .bramRead m addr port => Sys2Proof.Machine.execBramRead m addr port s
  | .bramWrite m addr data port wpoison => Sys2Proof.Machine.execBramWrite m addr data port wpoison s
  | .pllLockLoss p => Sys2Proof.Machine.execPllLockLoss p s
  | .pllLock p khz => Sys2Proof.Machine.execPllLock p khz s
  | .portUpChange t q up => Sys2Proof.Machine.execPortUpChange t q up s
  | .descriptorHandshake q => Sys2Proof.Machine.execDescriptorHandshake q s
  | .parameterHandshake q => Sys2Proof.Machine.execParameterHandshake q s
  | .doneHandshake t q tag status code => Sys2Proof.Machine.execDoneHandshake t q tag status code s
  | .completionForward t q => Sys2Proof.Machine.execCompletionForward t q s
  | .readRequestHandshake q addr count mirror ident => Sys2Proof.Machine.execReadRequestHandshake q addr count mirror ident s
  | .readResponseHandshake q => Sys2Proof.Machine.execReadResponseHandshake q s
  | .writeFlitHandshake q f => Sys2Proof.Machine.execWriteFlitHandshake q f s
  | .forcedAbort t q => Sys2Proof.Machine.execForcedAbort t q s
  | .fullLoad w => Sys2Proof.Machine.execFullLoad w s
  | .imageData w offset data => Sys2Proof.Machine.execImageData w offset data s
  | .streamTimeout t => Sys2Proof.Machine.execStreamTimeout t s
  | .loadFinish t data readOk => Sys2Proof.Machine.execLoadFinish t data readOk s
  | .partialLoad w n => Sys2Proof.Machine.execPartialLoad w n s
  | .armExchange w n => Sys2Proof.Machine.execArmExchange w n s
  | .exchangeDisarm w n => Sys2Proof.Machine.execExchangeDisarm w n s
  | .shadowClear w n => Sys2Proof.Machine.execShadowClear w n s
  | .swapRegionRetire w n => Sys2Proof.Machine.execSwapRegionRetire w n s
  | .exchangeComplete t n => Sys2Proof.Machine.execExchangeComplete t n s
  | .configScrubRead t => Sys2Proof.Machine.execConfigScrubRead t s
  | .repairComplete t segment => Sys2Proof.Machine.execRepairComplete t segment s
  | .readback w f => Sys2Proof.Machine.execReadback w f s
  | .referenceLoss t j => Sys2Proof.Machine.execReferenceLoss t j s
  | .txPllLockFail l => Sys2Proof.Machine.execTxPllLockFail l s
  | .laneRetire w l => Sys2Proof.Machine.execLaneRetire w l s
  | .signalDetected t l => Sys2Proof.Machine.execSignalDetected t l s
  | .bringupTimeout t l => Sys2Proof.Machine.execBringupTimeout t l s
  | .laneLoss t l c => Sys2Proof.Machine.execLaneLoss t l c s
  | .anPageReceive t l valid => Sys2Proof.Machine.execAnPageReceive t l valid s
  | .polarityToggle t l => Sys2Proof.Machine.execPolarityToggle t l s
  | .sdiRateTry t l => Sys2Proof.Machine.execSdiRateTry t l s
  | .boundaryReceive t l position header block => Sys2Proof.Machine.execBoundaryReceive t l position header block s
  | .deskewComplete t k skew => Sys2Proof.Machine.execDeskewComplete t k skew s
  | .trainBlockReceive t k block => Sys2Proof.Machine.execTrainBlockReceive t k block s
  | .fillerRowArrive k => Sys2Proof.Machine.execFillerRowArrive k s
  | .marginCheck l margin => Sys2Proof.Machine.execMarginCheck l margin s
  | .eqSave l eq => Sys2Proof.Machine.execEqSave l eq s
  | .linkEnable w k on => Sys2Proof.Machine.execLinkEnable w k on s
  | .packetSend t k => Sys2Proof.Machine.execPacketSend t k s
  | .packetReceive t k p => Sys2Proof.Machine.execPacketReceive t k p s
  | .ackSend k => Sys2Proof.Machine.execAckSend k s
  | .ackReceive k seq crcOk => Sys2Proof.Machine.execAckReceive k seq crcOk s
  | .nakReceive k seq crcOk => Sys2Proof.Machine.execNakReceive k seq crcOk s
  | .replayTimeout t k => Sys2Proof.Machine.execReplayTimeout t k s
  | .prbsClear w l => Sys2Proof.Machine.execPrbsClear w l s
  | .eyeScan w l raw => Sys2Proof.Machine.execEyeScan w l raw s
  | .eyeScanComplete l errors bits => Sys2Proof.Machine.execEyeScanComplete l errors bits s
  | .writeFrame data whole => Sys2Proof.Machine.execWriteFrame data whole s
  | .readFrame => Sys2Proof.Machine.execReadFrame s
  | .readStatus => Sys2Proof.Machine.execReadStatus s
  | .mgmtDatagram t src srcPort b => Sys2Proof.Machine.execMgmtDatagram t src srcPort b s
  | .obpFrameReceive t port data => Sys2Proof.Machine.execObpFrameReceive t port data s
  | .requestExecute t => Sys2Proof.Machine.execRequestExecute t s
  | .obpRead w r offset len => Sys2Proof.Machine.execObpRead w r offset len s
  | .obpWrite w r offset last data => Sys2Proof.Machine.execObpWrite w r offset last data s
  | .obpInfo w r len => Sys2Proof.Machine.execObpInfo w r len s
  | .obpOpen port nonce => Sys2Proof.Machine.execObpOpen port nonce s
  | .obpClose w => Sys2Proof.Machine.execObpClose w s
  | .sessionTimeout t k => Sys2Proof.Machine.execSessionTimeout t k s
  | .sessionCloseCommand w k => Sys2Proof.Machine.execSessionCloseCommand w k s
  | .writeLockClaim w ident => Sys2Proof.Machine.execWriteLockClaim w ident s
  | .writeLockRelease w => Sys2Proof.Machine.execWriteLockRelease w s
  | .notifySend t k => Sys2Proof.Machine.execNotifySend t k s
  | .mgmtConfigApply => Sys2Proof.Machine.execMgmtConfigApply s
  | .profileRecordWrite w p record => Sys2Proof.Machine.execProfileRecordWrite w p record s
  | .profileArmSwitch w => Sys2Proof.Machine.execProfileArmSwitch w s
  | .profileDisarm w => Sys2Proof.Machine.execProfileDisarm w s
  | .capture w => Sys2Proof.Machine.execCapture w s
  | .erase w => Sys2Proof.Machine.execErase w s
  | .duskAdd c dst a b => Sys2Proof.Machine.execDuskAdd c dst a b s
  | .duskSub c dst a b => Sys2Proof.Machine.execDuskSub c dst a b s
  | .duskAnd c dst a b => Sys2Proof.Machine.execDuskAnd c dst a b s
  | .duskOr c dst a b => Sys2Proof.Machine.execDuskOr c dst a b s
  | .duskXor c dst a b => Sys2Proof.Machine.execDuskXor c dst a b s
  | .duskShl c dst a b => Sys2Proof.Machine.execDuskShl c dst a b s
  | .duskShra c dst a b => Sys2Proof.Machine.execDuskShra c dst a b s
  | .duskShrl c dst a b => Sys2Proof.Machine.execDuskShrl c dst a b s
  | .duskMov c dst a => Sys2Proof.Machine.execDuskMov c dst a s
  | .duskTop c dst a => Sys2Proof.Machine.execDuskTop c dst a s
  | .duskFromp c dst a => Sys2Proof.Machine.execDuskFromp c dst a s
  | .duskMin c dst a b => Sys2Proof.Machine.execDuskMin c dst a b s
  | .duskMax c dst a b => Sys2Proof.Machine.execDuskMax c dst a b s
  | .duskAddi c dst imm => Sys2Proof.Machine.execDuskAddi c dst imm s
  | .duskAndi c dst imm => Sys2Proof.Machine.execDuskAndi c dst imm s
  | .duskOri c dst imm => Sys2Proof.Machine.execDuskOri c dst imm s
  | .duskXori c dst imm => Sys2Proof.Machine.execDuskXori c dst imm s
  | .duskMovi c target imm => Sys2Proof.Machine.execDuskMovi c target imm s
  | .duskLd c d p mode offset => Sys2Proof.Machine.execDuskLd c d p mode offset s
  | .duskSt c d p mode offset => Sys2Proof.Machine.execDuskSt c d p mode offset s
  | .duskMpy c acc frac dx dy load => Sys2Proof.Machine.execDuskMpy c acc frac dx dy load s
  | .duskMac c acc frac dx dy load => Sys2Proof.Machine.execDuskMac c acc frac dx dy load s
  | .duskMsu c acc frac dx dy load => Sys2Proof.Machine.execDuskMsu c acc frac dx dy load s
  | .duskClr c acc load => Sys2Proof.Machine.execDuskClr c acc load s
  | .duskLda c acc d => Sys2Proof.Machine.execDuskLda c acc d s
  | .duskLdal c acc d => Sys2Proof.Machine.execDuskLdal c acc d s
  | .duskMovh c d acc => Sys2Proof.Machine.execDuskMovh c d acc s
  | .duskMovl c d acc => Sys2Proof.Machine.execDuskMovl c d acc s
  | .duskAsh c acc shift => Sys2Proof.Machine.execDuskAsh c acc shift s
  | .duskNorm c acc d => Sys2Proof.Machine.execDuskNorm c acc d s
  | .duskExp c d acc => Sys2Proof.Machine.execDuskExp c d acc s
  | .duskAdda c acc => Sys2Proof.Machine.execDuskAdda c acc s
  | .duskNeg c acc => Sys2Proof.Machine.execDuskNeg c acc s
  | .duskAbs c acc => Sys2Proof.Machine.execDuskAbs c acc s
  | .duskBranch c cond d target => Sys2Proof.Machine.execDuskBranch c cond d target s
  | .duskCall c target => Sys2Proof.Machine.execDuskCall c target s
  | .duskRet c => Sys2Proof.Machine.execDuskRet c s
  | .duskReti c => Sys2Proof.Machine.execDuskReti c s
  | .duskRepeat c reg d n => Sys2Proof.Machine.execDuskRepeat c reg d n s
  | .duskBrep c d last => Sys2Proof.Machine.execDuskBrep c d last s
  | .duskIn c d port => Sys2Proof.Machine.execDuskIn c d port s
  | .duskOut c port d => Sys2Proof.Machine.execDuskOut c port d s
  | .duskNop c => Sys2Proof.Machine.execDuskNop c s
  | .duskIdle c => Sys2Proof.Machine.execDuskIdle c s
  | .duskEi c => Sys2Proof.Machine.execDuskEi c s
  | .duskDi c => Sys2Proof.Machine.execDuskDi c s
  | .duskTrap c => Sys2Proof.Machine.execDuskTrap c s
  | .duskLjmp c => Sys2Proof.Machine.execDuskLjmp c s
  | .interruptEntry c => Sys2Proof.Machine.execInterruptEntry c s
  | .timerExpiry t => Sys2Proof.Machine.execTimerExpiry t s
  | .watchdogKick t c value => Sys2Proof.Machine.execWatchdogKick t c value s
  | .watchdogWarning t c => Sys2Proof.Machine.execWatchdogWarning t c s
  | .watchdogExpiry t c => Sys2Proof.Machine.execWatchdogExpiry t c s
  | .lockAcquire p n => Sys2Proof.Machine.execLockAcquire p n s
  | .lockRelease p n => Sys2Proof.Machine.execLockRelease p n s
  | .lockRenew p n => Sys2Proof.Machine.execLockRenew p n s
  | .lockClearSuspect p n => Sys2Proof.Machine.execLockClearSuspect p n s
  | .leaseExpiry t n => Sys2Proof.Machine.execLeaseExpiry t n s
  | .watchStart w => Sys2Proof.Machine.execWatchStart w s
  | .watchStop w => Sys2Proof.Machine.execWatchStop w s
  | .watchStore w => Sys2Proof.Machine.execWatchStore w s
  | .mbxGo addr => Sys2Proof.Machine.execMbxGo addr s
  | .mailboxAnswer => Sys2Proof.Machine.execMailboxAnswer s
  | .raiseData data => Sys2Proof.Machine.execRaiseData data s
  | .tripPortWrite t value => Sys2Proof.Machine.execTripPortWrite t value s
  | .wakePortWrite t => Sys2Proof.Machine.execWakePortWrite t s
  | .adcDataRead => Sys2Proof.Machine.execAdcDataRead s
  | .adcSample t code => Sys2Proof.Machine.execAdcSample t code s
  | .tripDrainCut t d => Sys2Proof.Machine.execTripDrainCut t d s
  | .domainOff w d => Sys2Proof.Machine.execDomainOff w d s
  | .domainOn w d => Sys2Proof.Machine.execDomainOn w d s
  | .drainComplete t d => Sys2Proof.Machine.execDrainComplete t d s
  | .drainAbandon t d => Sys2Proof.Machine.execDrainAbandon t d s
  | .standby w => Sys2Proof.Machine.execStandby w s
  | .powerResume w => Sys2Proof.Machine.execPowerResume w s
  | .nightfall w => Sys2Proof.Machine.execNightfall w s
  | .wakePin t => Sys2Proof.Machine.execWakePin t s
  | .wakeTimer t => Sys2Proof.Machine.execWakeTimer t s
  | .powerOnReset => Sys2Proof.Machine.execPowerOnReset s
  | .pinReset => Sys2Proof.Machine.execPinReset s
  | .latched w mask => Sys2Proof.Machine.execLatched w mask s
  | .ack w => Sys2Proof.Machine.execAck w s
  | .clearPinned w => Sys2Proof.Machine.execClearPinned w s
  | .records w => Sys2Proof.Machine.execRecords w s
  | .logRecordWrite t => Sys2Proof.Machine.execLogRecordWrite t s
  | .dropIntervalEnd t => Sys2Proof.Machine.execDropIntervalEnd t s
  | .councilReceive t k m => Sys2Proof.Machine.execCouncilReceive t k m s
  | .join w => Sys2Proof.Machine.execJoin w s
  | .ensembleEnable w on => Sys2Proof.Machine.execEnsembleEnable w on s
  | .planWrite w plan => Sys2Proof.Machine.execPlanWrite w plan s
  | .peerDataReceive t k p => Sys2Proof.Machine.execPeerDataReceive t k p s
  | .peerDataSend t f => Sys2Proof.Machine.execPeerDataSend t f s
  | .lifecycleCommit w value => Sys2Proof.Machine.execLifecycleCommit w value s
  | .fuseBlowComplete => Sys2Proof.Machine.execFuseBlowComplete s
  | .devDigest w digest => Sys2Proof.Machine.execDevDigest w digest s
  | .serviceKeyDigest w digest => Sys2Proof.Machine.execServiceKeyDigest w digest s
  | .imageKey w key => Sys2Proof.Machine.execImageKey w key s
  | .tapBypass => Sys2Proof.Machine.execTapBypass s
  | .tapIdcode => Sys2Proof.Machine.execTapIdcode s
  | .tapSamplePreload => Sys2Proof.Machine.execTapSamplePreload s
  | .tapExtest => Sys2Proof.Machine.execTapExtest s
  | .tapClamp => Sys2Proof.Machine.execTapClamp s
  | .tapHighz => Sys2Proof.Machine.execTapHighz s
  | .tapSvc data => Sys2Proof.Machine.execTapSvc data s
  | .testLogicReset => Sys2Proof.Machine.execTestLogicReset s
  | .hello t => Sys2Proof.Machine.execHello t s
  | .password t secret => Sys2Proof.Machine.execPassword t secret s
  | .keyx t rights qt pubkey sig => Sys2Proof.Machine.execKeyx t rights qt pubkey sig s
  | .serviceObpRecord t frame => Sys2Proof.Machine.execServiceObpRecord t frame s
  | .serviceSessionTimeout t => Sys2Proof.Machine.execServiceSessionTimeout t s
  | .serviceEnd w => Sys2Proof.Machine.execServiceEnd w s
  | .debugHalt t c => Sys2Proof.Machine.execDebugHalt t c s
  | .coreResume t c => Sys2Proof.Machine.execCoreResume t c s
  | .debugStep t c => Sys2Proof.Machine.execDebugStep t c s
  | .rdReg c addr take => Sys2Proof.Machine.execRdReg c addr take s
  | .wrReg c addr data => Sys2Proof.Machine.execWrReg c addr data s
  | .rdData c addr => Sys2Proof.Machine.execRdData c addr s
  | .wrData c addr data => Sys2Proof.Machine.execWrData c addr data s
  | .wrProg c addr data => Sys2Proof.Machine.execWrProg c addr data s
  | .rdStore addr => Sys2Proof.Machine.execRdStore addr s
  | .wrStore addr data => Sys2Proof.Machine.execWrStore addr data s
  | .debugReset => Sys2Proof.Machine.execDebugReset s
  | .patchBreakHit u => Sys2Proof.Machine.execPatchBreakHit u s
  | .patchWatchHit u a => Sys2Proof.Machine.execPatchWatchHit u a s
  | .termRecord write take word => Sys2Proof.Machine.execTermRecord write take word s
  | .consoleRead r => Sys2Proof.Machine.execConsoleRead r s
  | .consoleWrite r data => Sys2Proof.Machine.execConsoleWrite r data s
  | .tamperRecovery => Sys2Proof.Machine.execTamperRecovery s
  | .clockLockAchieved t l => Sys2Proof.Machine.execClockLockAchieved t l s
  | .blockLockAchieved t l => Sys2Proof.Machine.execBlockLockAchieved t l s
  | .wordLockAchieved t l levelB => Sys2Proof.Machine.execWordLockAchieved t l levelB s
  | .trainingComplete t l => Sys2Proof.Machine.execTrainingComplete t l s
  | .adaptationFreeze l => Sys2Proof.Machine.execAdaptationFreeze l s
  | .adaptationResume t l => Sys2Proof.Machine.execAdaptationResume t l s
  | .prbsLock l => Sys2Proof.Machine.execPrbsLock l s
  | .prbsLockLoss l => Sys2Proof.Machine.execPrbsLockLoss l s
  | .referencePairReturn j khz => Sys2Proof.Machine.execReferencePairReturn j khz s
  | .mgmtLinkChange up => Sys2Proof.Machine.execMgmtLinkChange up s
  | .nakPendingExpiry t k => Sys2Proof.Machine.execNakPendingExpiry t k s
  | .stackTemperatureTrip t k => Sys2Proof.Machine.execStackTemperatureTrip t k s
  | .domainPowerOnComplete t d image results => Sys2Proof.Machine.execDomainPowerOnComplete t d image results s
  | .daybreakStepComplete t step r => Sys2Proof.Machine.execDaybreakStepComplete t step r s
  | .stewardRestartComplete t => Sys2Proof.Machine.execStewardRestartComplete t s
  | .ptpDelayResp port delay => Sys2Proof.Machine.execPtpDelayResp port delay s

end Sys2Proof.Machine
end

