-- ==== Sys2Proof/Machine/Line.lean ====
section
/-! DEFINITION. The lines of the lanes at work: the rows that a Skeltia link sends (R386, R387), the words of a lane in Ethernet mode (R388) and
in TEST (R406, R407), the coefficients of a transmitter (R378), and the errors that a receiver counts (R386, R409). No command brings them; while no command waits, a free
value says which lane's line is next to do something. -/

namespace Sys2Proof.Machine

/-- A word as the transmitter of lane `l` puts it out (R378). -/
def State.outWord (s : State) (l w : Nat) : Nat := if s.on R.lane_TX_INVERT l then invertWord (s.reg R.lane_MODULATION l == 1) w else w

/-- A word leaves the transmitter of lane `l`, in PAM4 as the levels of Table 13.1. -/
def State.sendWord (s : State) (l w : Nat) : State :=
  let out := s.outWord l w
  s.onLane l fun r => { r with sent := out, levels := if s.reg R.lane_MODULATION l = 1 then lineLevels out else [] }

/-- A block leaves lane `l`: a BOUNDARY as it is, and the scrambler stands still; every other scrambled, but for its header (R386). -/
def State.sendBlock (s : State) (l : Nat) (boundary : Bool) (x : Nat × Nat) : State :=
  if boundary then s.sendWord l (lineWord x.1 x.2)
  else
    let (reg, b) := scrambleBlock (s.laneRun l).scrambler x.2
    (s.onLane l fun r => { r with scrambler := reg }).sendWord l (lineWord x.1 b)

/-- The block that link `k` sends between packets (Table 13.3, R388, R394): IDLE once it is UP and its 64 TRAIN blocks are out or its first packet has
been sent, else TRAIN with its state. -/
def State.fillBlock (s : State) (k : Nat) : Nat × Nat :=
  let r := s.linkRun k
  let train (st : Nat) : Nat × Nat := (2, trainBlock st (s.reg R.ens_ENS_ID 0) (widthCode (s.reg R.link_WIDTH k)) k)
  if s.linkUp k then (if r.trains < 64 ∧ !r.begun then train 2 else (2, idleBlock))
  else train (b2n ((s.linkLanes k).all fun l => s.laneState l == 10))

/-- Block of the link stream number `i` leaves, on its lane of the row (R387). -/
def State.sendStream (s : State) (k i : Nat) : State :=
  let r := s.linkRun k
  let l := k + rowLane (s.reg R.link_WIDTH k) i
  match r.line with
  | x :: rest => (s.onLink k fun r => { r with line := rest, blocks := i + 1 }).sendBlock l false x
  | [] =>
    let x := s.fillBlock k
    (s.onLink k fun r => { r with blocks := i + 1, trains := if s.linkUp k then r.trains + 1 else 0 }).sendBlock l false x

/-- Link `k` sends its next row (R387): a BOUNDARY or a FILLER on every lane, or blocks of its stream. -/
def State.sendRow (s : State) (k : Nat) : State :=
  let ls := s.linkLanes k
  let r := s.linkRun k
  if !s.on R.link_ENABLE k || !(ls.all fun l => s.on R.lane_TX_STATE l) then s
  else
    let s := s.onLink k fun r => { r with row := r.row + 1 }
    match blockPlace r.row with
    | .boundary => s.each ls.zipIdx fun s p =>
        s.sendBlock p.1 true (2, boundaryBlock p.2 (widthCode ls.length) (s.reg R.ens_ENS_ID 0) k)
    | .filler => s.each ls fun s l => s.sendBlock l false (2, fillerBlock)
    | .stream => s.each ((List.range ls.length).map fun i => r.blocks + i) fun s i => s.sendStream k i

/-- A lane in TEST sends the next word of its sequence and hears the line (R406, R407): near-end it hears itself, far-end it sends back what it hears.
Without a sequence the word is free. -/
def State.testWord (s : State) (l : Nat) : State :=
  if s.reg R.lane_MODE l ≠ 4 ∨ !s.on R.lane_TX_STATE l then s
  else
    let k := s.reg R.lane_PRBS_TX l
    let (reg, w) := if k = 0 then ((s.laneRun l).prbsReg, s.freeBits 66) else prbsWord k (s.laneRun l).prbsReg
    let heard := if s.looped l then s.outWord l w else s.took.freeBits 66
    let s := s.took.took.onLane l fun r => { r with prbsReg := reg, heard := heard }
    s.sendWord l (if s.reg R.lane_LOOPBACK l = 2 then heard else w)

/-! ### Ethernet (R378, R388) -/

/-- The pattern of lane `l` (R388): until its signal is found, the first of its mode; then that of its state. -/
def State.txPattern (s : State) (l : Nat) : TxPattern :=
  let g := s.laneGroup l
  let pages : TxPattern := if g.head? == some l || g.getLast? == some l then .anPages else .besidePages
  match s.laneState l with
  | 3 => pages
  | 4 => .trainingFrames
  | n => if 5 ≤ n then .pcs else if s.laneAn l then pages else if s.laneTraining l then .trainingFrames else .pcs

/-- The next word of a lane in Ethernet mode; what a page, a frame and the PCS are is IEEE 802.3's.
[DESIGN CHOICE, log 285: safe] -/
def State.ethWord (s : State) (l : Nat) : State :=
  if s.reg R.lane_MODE l ≠ 1 ∨ !s.on R.lane_TX_STATE l then s else s.took.sendWord l (Config.phyWord (s.txPattern l) l s.free % 2 ^ 66)

/-- The coefficients at work in the transmit FIR of lane `l` (R378): TX_FIR's, but while link training runs the partner's once it has set them. -/
def State.txFir (s : State) (l : Nat) : List Byte :=
  let fir := (s.laneRun l).fir
  if s.laneState l = 4 ∧ !fir.isEmpty then fir else padTo 4 (s.dom R.lane_TX_FIR l)

/-- While link training runs, the partner sets the coefficients; some that exceed the sum of R378 are not taken. -/
def State.tuneFir (s : State) (l : Nat) : State :=
  let partner := leBytes 4 (s.freeBits 32)
  if s.laneState l = 4 ∧ firOk partner then s.took.onLane l fun r => { r with fir := partner } else s.took

/-! ### Errors (R379, R386, R409) -/

/-- A header or block error on a lane of an Ethernet port or a link is counted. -/
def State.lineError (s : State) (l : Nat) : State :=
  if (s.reg R.lane_MODE l = 1 ∨ s.reg R.lane_MODE l = 3) ∧ 6 ≤ s.laneState l ∧ s.laneState l ≤ 11 then s.inc R.lane_HEADER_ERRORS l else s

/-- Lane `l` works under RS-FEC (R379): it is UP in a port whose type has it (Table 05.1). -/
def State.fecLane (s : State) (l : Nat) : Bool := s.laneState l == 11 && (s.portOf l).any fun p => portFec (s.reg R.eth_TYPE p)

/-- An RS-FEC code word is corrected, or found uncorrectable: event 0x2008, at most once per ms per lane (R409), and if it held any of a frame that
frame fails its check (R379).
[DESIGN CHOICE, log 283: unsafe] -/
def State.fecWord (s : State) (l : Nat) (corrected : Bool) : State :=
  if !s.fecLane l then s
  else if corrected then s.inc R.lane_FEC_CORRECTED l
  else
    let frame := s.freeBits 1 == 1
    let s := s.took.onLane l fun r => { r with spoilt := r.spoilt || frame }
    if (s.laneRun l).fecAt.any fun t => decide (s.mono < t + 1000000) then s
    else (s.onLane l fun r => { r with fecAt := some s.mono }).raise 0x2008 l

/-- One line does something; a free value says which and what.
[DESIGN CHOICE, log 190: unsafe] -/
def State.wireTick (s : State) : State :=
  let x := s.freeBits 64
  let l := x / 8 % 256
  let s := s.took
  match x % 8 with
  | 0 => s.lineError l
  | 1 => s.fecWord l true
  | 2 => s.fecWord l false
  | 3 => s.testWord l
  | 4 => s.tuneFir l
  | 5 => s.ethWord l
  | _ => s.sendRow l

end Sys2Proof.Machine
end

