-- ==== Sys2Proof/Machine/Logic.lean ====
section
/-! DEFINITION. The designer's logic at work (R319, R320, R325, R326, R330): clusters, arithmetic slices and pins under the images that configure
them. No command is an edge of their clocks; while no command waits, a free value says which of them is next to change. -/

namespace Sys2Proof.Machine

/-- A table's entry under `k` replaced. -/
def putEntry {α : Type} (k : Nat) (v : α) (l : List (Nat × α)) : List (Nat × α) := (k, v) :: l.filter fun p => p.1 != k

/-! ### Clusters (R319, R320) -/

def clusterRegion (c : Nat) : Nat := (unitRegion regionClusters c).1
def State.clusterConfig (s : State) (c : Nat) : ClusterConfig := Config.cluster (s.unitImage (clusterSwap c)) c

/-- The flip-flops of cluster `c`: their INIT values until they change. -/
def State.cluster (s : State) (c : Nat) : ClusterState :=
  ((s.fabric.clusters.find? fun p => p.1 == c).map Prod.snd).getD (s.clusterConfig c).configured

/-- The carry into cluster `c`: that which leaves the cluster below it in its column and clock region (R320). `n` numbers the inputs.
[DESIGN CHOICE, log 90: unsafe, DESIGN CHOICE, log 255: safe] -/
def State.carryInto (s : State) (n : Nat) : Nat → Nat → Bool
  | 0, c => Config.carryStart n c
  | k + 1, c =>
    let b := Config.clusterBelow c
    if b < c ∧ clusterRegion b = clusterRegion c then (s.clusterConfig b).carryAt (Config.clusterIn n b) (s.carryInto n k b) 16
    else Config.carryStart n c

/-- A clock that logic of region `r` uses runs. -/
def State.clocked (s : State) (r k : Nat) : Bool := decide (0 < s.sourceKhz (s.clockOf r (k % 56)))

/-- Cluster `c` changes: its asynchronous set/resets act, and an edge of its clock, if that runs, clocks its flip-flops. -/
def State.clusterTick (s : State) (n c : Nat) : State :=
  let x := s.clusterConfig c
  let i := Config.clusterIn n c
  if !s.unitRuns (clusterRegion c) (clusterSwap c) then s
  else
    let q := x.level i (s.cluster c)
    let clock := Config.clusterClock (s.unitImage (clusterSwap c)) c
    let q := if s.clocked (clusterRegion c) clock then x.edge i (s.carryInto n 2400 c) q else q
    { s with fabric := { s.fabric with clusters := putEntry c q s.fabric.clusters } }

/-! ### Arithmetic slices (R325, R326) -/

def sliceRegion (k : Nat) : Nat := (unitRegion regionSlices k).1
def State.sliceConfig (s : State) (k : Nat) : SliceConfig := Config.slice (s.unitImage (sliceSwap k)) k
/-- The registers of slice `k`: zeros from its configuration on until they are clocked.
[DESIGN CHOICE, log 265: unsafe] -/
def State.slice (s : State) (k : Nat) : SliceRegs := ((s.fabric.slices.find? fun p => p.1 == k).map Prod.snd).getD {}

/-- The P cascade into slice `k`: P of the slice below it in its clock region.
[DESIGN CHOICE, log 90: unsafe, DESIGN CHOICE, log 255: safe] -/
def State.cascadeInto (s : State) (n : Nat) : Nat → Nat → BitVec 64
  | 0, k => Config.cascadeStart n k
  | f + 1, k =>
    let b := Config.sliceBelow k
    if b < k ∧ sliceRegion b = sliceRegion k then (s.sliceConfig b).out (s.slice b) (Config.sliceIn n b) (s.cascadeInto n f b)
    else Config.cascadeStart n k

/-- Slice `k` takes an edge of its clock, if that runs. -/
def State.sliceTick (s : State) (n k : Nat) : State :=
  let clock := Config.sliceClock (s.unitImage (sliceSwap k)) k
  if !s.unitRuns (sliceRegion k) (sliceSwap k) || !s.clocked (sliceRegion k) clock then s
  else
    let r := (s.sliceConfig k).edge (s.slice k) (Config.sliceIn n k) (s.cascadeInto n 192 k)
    { s with fabric := { s.fabric with slices := putEntry k r s.fabric.slices } }

/-! ### Pins (R330) -/

/-- Pin `p`, pin `p mod 16` of bank `p / 16`, under the full image. -/
def State.pinConfig (s : State) (p : Nat) : PinConfig := Config.pin (s.reg R.cfg_IMAGE_ID) p

/-- The LVDS pair at work that pin `p` belongs to, in a bank of standard 4 (R330, R557), and whether `p` is its P. -/
def State.pinPair (s : State) (p : Nat) : Option (PairConfig × Bool) :=
  match lvdsPair p with
  | none => none
  | some (m, positive) =>
    let x := Config.pair (s.reg R.cfg_IMAGE_ID) m
    if s.reg R.gpio_STANDARD (p / 16) == 4 && x.lvds then some (x, positive) else none

/-- A pin has DDR registers: those of its pair. -/
def State.pinDdr (s : State) (p : Nat) : Bool := (s.pinPair p).elim false fun x => x.1.ddr

/-- How pin `p` meets the board (R330): with a drive strength in mA under LVCMOS, or as half of a pair, with or without 100 Ω across it. -/
inductive PinFace where
  | lvcmos (driveMa : Nat)
  | lvds (positive terminated : Bool)
  deriving DecidableEq, Repr

def State.pinFace (s : State) (p : Nat) : PinFace :=
  match s.pinPair p with
  | some (x, positive) => .lvds positive x.termination
  | none => .lvcmos (s.pinConfig p).driveMa

/-- The registers of pin `p` take values. -/
def State.setPin (s : State) (p : Nat) (v : PinRegs) : State := { s with fabric := { s.fabric with pins := putEntry p v s.fabric.pins } }

/-- What the other half of a pair holds. -/
def PinRegs.inverse (v : PinRegs) (two : Bool) : PinRegs :=
  { input := !v.input, output := !v.output, input2 := two && !v.input2, output2 := two && !v.output2 }

/-- Pin `p` of a bank in use takes an edge of its clock, if that runs: its registers take the pad and the logic. The two pins of a pair take it
together, on the clock of P, with opposite values.
[DESIGN CHOICE, log 90: unsafe, DESIGN CHOICE, log 282: unsafe] -/
def State.pinTick (s : State) (n p : Nat) : State :=
  let r := bankRegion (p / 16)
  let paired := (s.pinPair p).isSome
  let p := if paired then p / 2 * 2 else p
  let clock := Config.pinClock (s.reg R.cfg_IMAGE_ID) p
  if !s.unitRuns r none || s.reg R.gpio_STANDARD (p / 16) == 0 || !s.clocked r clock then s
  else
    let x := Config.pinIn n p
    let two := s.pinDdr p
    let v : PinRegs := { input := x.testBit 0, output := x.testBit 1, input2 := two && x.testBit 2, output2 := two && x.testBit 3 }
    let s := s.setPin p v
    if paired then s.setPin (p + 1) (v.inverse two) else s

/-! ### One change -/

/-- One cluster, slice or pin of the configured fabric changes; a free value says which.
[DESIGN CHOICE, log 90: unsafe] -/
def State.logicTick (s : State) : State :=
  if !s.fabricRuns then s
  else
    let n := s.free
    let x := s.freeBits 64
    let s := s.took
    match x % 3 with
    | 0 => s.clusterTick n (x / 3 % 204800)
    | 1 => s.sliceTick n (x / 3 % 14336)
    | _ => s.pinTick n (x / 3 % 512)

end Sys2Proof.Machine
end

