-- ==== Sys2Proof/Machine/Clock.lean ====
section
/-! DEFINITION. What the block does while no command waits: the designer's logic runs in the fabric, the lines of the lanes carry
their blocks, and Dusk core 0 runs its watch program from program RAM (R444 to R446). -/

namespace Sys2Proof.Machine

/-- Core 0 takes an interrupt before its next instruction (R452). -/
def State.lineDue (s : State) : Bool :=
  s.dusk.core0.ie && s.dusk.core0.atBoundary && s.dusk.core0.lowestLine.isSome

/-- The instruction at core 0's PC, as its program RAM holds it.
[DESIGN CHOICE, log 1: unsafe] -/
def State.fetched (s : State) : Option Instr := duskDecode 0 (s.dusk.core0.progWord s.dusk.core0.pc % 2 ^ 32)

/-- A word that Table 15.3 does not allow faults with code 1 (R446), after the faults of its fetch. -/
def opDuskIllegal (s : State) : State := s.issue 0 { illegal := true } noFault fun _ s => s

/-- No command waits: the fabric's logic makes one change, the line of a lane does something, and core 0, if it runs, takes a pending line or
issues the instruction at its PC.
[DESIGN CHOICE, log 90: unsafe, DESIGN CHOICE, log 190: unsafe] -/
def clockTick (s : State) : Host.Outcome State Fault Refusal :=
  let s := s.logicTick.wireTick
  if !s.coreRuns 0 then .next s.settle
  else if s.lineDue then exec (.interruptEntry 0) s
  else match s.fetched with
    | some i => exec i s
    | none => command true opDuskIllegal s

end Sys2Proof.Machine
end

