-- ==== Sys2Proof/Machine/Step.lean ====
section
/-! DEFINITION. One step: the command at the front of the queue runs with the queue's rest; with none waiting, the block's own clock. -/

namespace Sys2Proof.Machine

/-- [DESIGN CHOICE, log 1: unsafe, DESIGN CHOICE, log 192: unsafe] -/
def step (s : State) : Host.Outcome State Fault Refusal :=
  match s.pending with
  | [] => clockTick s
  | i :: rest => exec i { s with pending := rest }

/-- `s` with the command that a table word spells in front of its queue; unchanged, since the table gives no row bits. -/
def State.withFetchWord (s : State) (nbits w : Nat) : State :=
  match decodeTableWord nbits w with
  | some i => { s with pending := i :: s.pending }
  | none => s

end Sys2Proof.Machine
end

