-- ==== Sys2Proof/Safety.lean ====
section
/-! DEFINITION. What the claims mean by safe: a command that runs, and integrity conditions that tell the truth. -/

namespace Sys2Proof.Machine

/-- The state a command leaves when its own effect on `s` is `u`: the integrity conditions follow (R504), and the queue is the step's. -/
def State.ran (s u : State) : State := { u.settle with pending := s.pending }

/-- Whether the checks of Table 14.8 that come before the value's own let `w` write a register: the steward answers, the object exists and
is writable, the class and the lock permit it, and the device's state is not closed to writes.
[DESIGN CHOICE, log 191: unsafe] -/
def State.mayWrite (s : State) (w : Who) (r : Reg) (inst : Nat) : Bool :=
  let index := r.ref / 256
  let sub := r.ref % 256
  s.dictAnswers w && !s.writesClosed w && match findRow ⟨index, inst, sub⟩ with
    | none => false
    | some row => row.acc.writable && classWrites w.cls index sub && !(index == 0x1102 && !sessionWriteOk w inst sub true) &&
        !s.lockBlocks w index inst sub true

/-- Whether an instruction with these places may issue on core `c`: the core runs, no access of its window stalls it, no patch unit works
on it (R550), and R450 and R454 name no fault of the place. -/
def State.mayIssue (s : State) (c : Nat) (p : Places) : Bool :=
  s.coreRuns c && (s.core c).asks.isEmpty && s.unpatched c && ((s.core c).placeFault c p).isNone

/-- The state after an instruction of core `c` that does `act`: PC and CYCLES are reported, the writes of the pipeline land, PC moves on,
and a halt that is due happens. -/
def State.issued (s : State) (c : Nat) (act : State → State) : State :=
  ((act (((s.setReg R.core_PC c (s.core c).pc).inc R.core_CYCLES c).onCore c fun k => k.landed.next c)).onCore c Core.returned).haltIfDue c

/-- The command runs to a next state. -/
def Completes (i : Instr) (s : State) : Prop := ∃ t, exec i s = .next t

/-- CONDITIONS are the live and latched ones, and STATE follows from them (R504, Table 18.4). -/
def State.Truthful (s : State) : Prop :=
  s.conds = s.liveConditions ||| s.latched ∧ s.reg R.integ_STATE = integrityState s.conds

/-- The canonical form of every addressed memory: the frame store, the scratchpad, the block memories, and the RAMs of the cores list rising
keys, and no entry equal to what an unlisted one reads as. -/
def State.memoryWf (s : State) : Bool :=
  twf (storeDefault s.store.filled) s.store.words && twf (fun _ => none) s.scratch.words && twf (fun _ => 0) s.fabric.bram &&
    twf (fun _ => 0) s.dusk.core0.prog && twf (fun _ => 0) s.dusk.core0.data && twf (fun _ => 0) s.dusk.core1.prog &&
    twf (fun _ => 0) s.dusk.core1.data

end Sys2Proof.Machine
end

