-- ==== Sys2Proof/Certificates/Slice0/Obligations.lean ====
section
/-! DEFINITION. The statements about the block, one `Obligations.<Name>` each. `s.ran u` is the state a command leaves when its own effect
on `s` is `u`: the integrity conditions follow it (R504) and the queue is the rest of the queue, so an equation with `s.ran u` states the
result and the frame of the command at once. -/

open Sys2Proof Sys2Proof.Machine

/-! ## The timebase and the cadences (chapter 02) -/

/-- R42, R44, R45, R47, R39, R568, Table 02.2. Measurements and losses of the two sources: what each writes, for the operands and states in which
the source counts. A Sync of the best master, at an interval of 2⁻⁷ s to 1 s, while PTP is the only source, active, and the timebase is LOCKED
to it, gives OFFSET, and the slew while a graph is admitted; an Announce of the port's domain, at 2⁻³ s to 2 s, joins the masters the port has
heard; a port that has lost its master counts it and forgets the masters heard there; a reference frame start of an accepted format, on a sync
of an accepted level, writes FORMAT, PRESENT and the rate, any other leaves PRESENT and FORMAT 0, and a reference whose next line is 10 µs late is lost; HOLDOVER that has lasted HOLDOVER_LIMIT ends in FREERUN
with event 0x1301, and nothing else changes.
Model readings: log entries 22, 23, 198, 200 and 290. -/
def Obligations.SourceEventsTakeEffect : Prop :=
  (∀ (t port : Nat) (interval off : Int) (a : Announce) (s : State), port < 256 → s.bestMaster = some (port, a) →
    -7 ≤ interval → interval ≤ 0 → s.reg R.tb_SOURCE = 1 → s.reg R.tb_ACTIVE_SOURCE = 1 → s.reg R.tb_STATE = 2 → s.ens.resync = false →
    s.reg R.adm_ADMITTED ≠ 0 → off.natAbs ≤ 1000 →
    ∃ u, exec (.ptpSync t port ⟨a.identity, interval, off⟩) s = .next u ∧ u.regI R.tb_OFFSET = off ∧ u.tb.slew = off ∧ u.reg R.tb_STATE = 2 ∧
      u.now = (s.advanceTo t).now) ∧
  (∀ (t port : Nat) (a : Announce) (s : State), port < 256 → s.on R.ptp_ENABLE port = true → s.reg R.ptp_DOMAIN port = a.domain →
    -3 ≤ a.interval → a.interval ≤ 1 →
    ∃ u, exec (.ptpAnnounce t port a) s = .next u ∧ (port, a) ∈ u.tb.masters ∧
      (∀ p ∈ s.tb.masters, ¬(p.1 = port ∧ p.2.identity = a.identity) → p ∈ u.tb.masters) ∧
      u.reg R.ptp_MASTER_ID port = ((u.portMaster port).map Announce.identity).getD 0 % 2 ^ 64) ∧
  (∀ (t port : Nat) (s : State), port < 256 → s.bestPort = some port → s.tb.ptpUsable = true → (s.advanceTo t).ptpLost port = true →
    ∃ u, exec (.ptpSourceLost t port) s = .next u ∧ u.reg R.ptp_SYNC_LOSSES port = (s.reg R.ptp_SYNC_LOSSES port + 1) % 2 ^ 32 ∧
      (∀ a, (port, a) ∉ u.tb.masters) ∧ u.tb.ptpUsable = false) ∧
  (∀ (port : Nat) (d : Int) (s : State), port < 256 → s.on R.ptp_ENABLE port = true →
    exec (.ptpDelayResp port d) s = .next (s.ran (s.setRegI R.ptp_PATH_DELAY port d))) ∧
  (∀ (t format num den : Nat) (s : State), (num, den) ∈ refRates format → syncAccepted s.syncMv s.board.refOffset = true →
    ∃ u, exec (.refInFrame t format num den) s = .next u ∧ u.reg R.ref_FORMAT = format ∧ u.reg R.ref_PRESENT = 1 ∧
      u.reg R.ref_RATE_NUM = num ∧ u.reg R.ref_RATE_DEN = den) ∧
  (∀ (t format num den : Nat) (s : State), ((num, den) ∉ refRates format ∨ syncAccepted s.syncMv s.board.refOffset = false) →
    ∃ u, exec (.refInFrame t format num den) s = .next u ∧ u.reg R.ref_PRESENT = 0 ∧ u.reg R.ref_FORMAT = 0) ∧
  (∀ (t : Nat) (s : State), s.on R.ref_PRESENT = true → s.tb.refEdge + s.tb.refLine + 10000 ≤ (s.advanceTo t).mono →
    ∃ u, exec (.refInLost t) s = .next u ∧ u.reg R.ref_PRESENT = 0 ∧ u.reg R.ref_LOSSES = (s.reg R.ref_LOSSES + 1) % 2 ^ 32 ∧
      u.tb.refUsable = false) ∧
  (∀ (t : Nat) (s : State), s.reg R.tb_STATE = 3 → s.tb.holdStart + s.reg R.tb_HOLDOVER_LIMIT * 1000000000 ≤ (s.advanceTo t).mono →
    exec (.holdoverTimeout t) s = .next (s.ran (((s.advanceTo t).setReg R.tb_STATE 0 0).raise 0x1301 3)))

/-- R31, R40, R41, R50, R51, R573. Writes of SET_TIME and of a cadence's ENABLE that the checks permit take effect: the time steps while no graph
is admitted, and with nothing armed, loaded or scheduled it is the new one, the slew ends and every cadence resumes from it; an enabled cadence
makes its marks from 100 µs on; a cadence that nothing uses stops. A scheduler tick that has come pulses TICK and sets the time of releases. -/
def Obligations.TimeAndCadenceWritesTakeEffect : Prop :=
  (∀ (w : Who) (sec ns : Nat) (s : State), s.mayWrite w R.tb_SET_TIME 0 = true → ns < 1000000000 → sec < 2 ^ 48 → s.reg R.adm_ADMITTED = 0 →
    exec (.setTime w sec ns) s = .next (s.ran (s.stepTime (sec * 1000000000 + ns)).ok)) ∧
  (∀ (w : Who) (sec ns : Nat) (s : State), s.mayWrite w R.tb_SET_TIME 0 = true → ns < 1000000000 → sec < 2 ^ 48 → s.reg R.adm_ADMITTED = 0 →
    s.tb.sets = [] → s.sched.ops = [] → s.sched.versions = [] → s.sched.full = [] → (∀ g, g < 64 → s.reg R.slot_STATE g = 0) →
    ∃ u, exec (.setTime w sec ns) s = .next u ∧ u.now = sec * 1000000000 + ns ∧ u.tb.slew = 0 ∧ u.reply = ⟨true, 0, []⟩ ∧
      u.tb.cadFrom = List.replicate 16 (sec * 1000000000 + ns)) ∧
  (∀ (w : Who) (c : Nat) (s : State), s.mayWrite w R.cad_ENABLE c = true → s.reg R.cad_ENABLE c = 0 →
    exec (.cadenceEnable w c) s = .next (s.ran ({ s.setReg R.cad_ENABLE c 1 with
      tb := { s.tb with cadFrom := upd s.tb.cadFrom c fun _ => s.now + 100000 } } : State).ok)) ∧
  (∀ (w : Who) (c : Nat) (s : State), s.mayWrite w R.cad_ENABLE c = true → s.reg R.cad_ENABLE c ≠ 0 → s.reg R.cad_USERS c = 0 →
    s.pendingSets c = 0 → (∀ g, g < 64 → s.reg R.slot_CADENCE g ≠ c) →
    exec (.cadenceDisable w c) s = .next (s.ran (s.setReg R.cad_ENABLE c 0).freeVersions.schedule.ok)) ∧
  (∀ (k t : Nat) (s : State), t = k * s.reg R.tb_TICK_NS → s.now ≤ t → s.sched.retry = [] →
    exec (.schedulerTick k) s = .next (s.ran
      (State.pulse { s.advanceTo t with tb := { (s.advanceTo t).tb with lastTick := t } } t 0 true)))

/-- R48, R54, R56, R76, R329. A frame mark that its cadence makes: the ready sets of its instant take effect, in ascending cadence order, MARK
pulses, and then each mark of a lower cadence still to be made at the instant, and this mark, stages its frame (and the council's mark sends its
messages), and the completions that wait for the instant are
processed. With nothing to do the mark is past, and its MARK bit stands in the cycle of the first TB_CLK edge from it on. A mark that its
cadence does not make changes nothing. The commit lead makes a set ready whose members are, which its mark then finds; a set that is not ready
moves to a later mark with event 0x1306, or after eight moves is cancelled, which undoes its members, with event 0x1307.
Model readings: log entries 26, 27, 28, 201 and 228. -/
def Obligations.MarksTakeEffect : Prop :=
  (∀ (c n t : Nat) (lower : List (Nat × Nat)) (u : State) (s : State), c < 16 → s.makesMarks c = true → t = s.markTime c n → s.cadStart c ≤ t →
    u = s.advanceTo t → lower = (u.marksAt t).filter (fun p => decide (p.1 < c)) →
    exec (.frameMark c n) s = .next (s.ran (State.makeMark
      (((u.each (u.setsAt t) fun s x => s.applySet x).pulse t ((lower.map fun p => 2 ^ p.1).sum + 2 ^ c) false).each lower
        fun s p => s.makeMark p.1 p.2) c n).takeArrived)) ∧
  (∀ (c n t : Nat) (s : State), c < 16 → s.makesMarks c = true → t = s.markTime c n → s.cadStart c ≤ t →
    ((s.advanceTo t).marksAt t).filter (fun p => decide (p.1 < c)) = [] → (s.advanceTo t).setsAt t = [] → s.sched.ops = [] →
    s.sched.versions = [] → s.sched.full = [] → s.scratch.rebuild = [] → (∀ g, g < 64 → s.reg R.slot_STATE g = 0) →
    s.reg R.ens_COUNCIL_CADENCE ≠ c →
    ∃ u, exec (.frameMark c n) s = .next u ∧ u.tb.cadFrom = upd s.tb.cadFrom c (fun _ => t + 1) ∧ u.tb.sets = s.tb.sets ∧
      (u.fabric.time.any fun p => p.edge == tbEdge t && p.marks.testBit c) = true) ∧
  (∀ (c n : Nat) (s : State), c < 16 → (s.makesMarks c = false ∨ s.markTime c n < s.cadStart c) → exec (.frameMark c n) s = .next (s.ran s)) ∧
  (∀ (c n : Nat) (x : CommitSet) (s : State), c < 16 → (s.tb.sets.find? fun x => x.isAt c n && !x.ready) = some x →
    (s.advanceTo (s.markTime c n - commitLead)).setReady x = true → (s.advanceTo (s.markTime c n - commitLead)).now < s.markTime c n →
    ∃ u, exec (.commitLeadCheck c n) s = .next u ∧ u.tb.sets = s.tb.sets.map (fun y => if y == x then { y with ready := true } else y) ∧
      (u.tb.sets.any fun y => y.isAt c n && y.ready) = true) ∧
  (∀ (c n m : Nat) (x : CommitSet) (v : State) (s : State), c < 16 → (s.tb.sets.find? fun x => x.isAt c n && !x.ready) = some x →
    v = s.advanceTo (s.markTime c n - commitLead) → (v.setReady x = false ∨ s.markTime c n ≤ v.now) → (∀ r, .exchange r ∉ x.members) →
    x.moves < 8 → m = max (n + 1) (v.firstArmable c) →
    exec (.commitLeadCheck c n) s = .next (s.ran (v.moveSet x m)) ∧
      (∃ w : State, v.moveSet x m = w.raise 0x1306 (c + (x.moves + 1) * 16) ∧
        (w.tb.sets.any fun y => y.isAt c m && !y.ready && x.members.all y.members.contains) = true)) ∧
  (∀ (c n : Nat) (x : CommitSet) (v : State) (s : State), c < 16 → (s.tb.sets.find? fun x => x.isAt c n && !x.ready) = some x →
    v = s.advanceTo (s.markTime c n - commitLead) → (v.setReady x = false ∨ s.markTime c n ≤ v.now) → (∀ r, .exchange r ∉ x.members) →
    8 ≤ x.moves →
    exec (.commitLeadCheck c n) s = .next (s.ran (((({ v with tb := { v.tb with sets := v.tb.sets.filter fun y => !(y.cad == c && y.target == n) } } :
      State).each x.members fun s m => m.cancel s).raise 0x1307 c)))) ∧
  (∀ (c n : Nat) (s : State), c < 16 → (s.tb.sets.find? fun x => x.isAt c n && !x.ready) = none → exec (.commitLeadCheck c n) s = .next (s.ran s))

/-! ## Graph slots, handles and the scheduler (chapter 03) -/

/-- R60, R94, R96, R104, Table 03.17. LOAD of an EMPTY slot begins the load check, and a check that finds nothing wrong leaves the slot LOADED with the
image's cadence, class and digest; one that finds a fault reports its code with event 0x5001 and leaves the slot as it was. UNLOAD
of a LOADED slot without an admission empties it, and a DRAINING slot whose last operation has retired is LOADED again. -/
def Obligations.SlotsAreLoadedAndEmptied : Prop :=
  (∀ (w : Who) (g x : Nat) (s : State), s.mayWrite w R.slot_COMMAND g = true → s.reg R.slot_STATE g = 0 → g ∉ s.sched.loading →
    s.paramPlace (leAt (s.dom R.slot_IMAGE g) 32 4) = some x →
    ∃ u, exec (.graphLoad w g) s = .next u ∧ u.reg R.slot_LOAD_RESULT g = 0xFFFF ∧ g ∈ u.sched.loading ∧ u.reply = ⟨true, 0, []⟩ ∧
      u.reg R.slot_STATE g = 0) ∧
  (∀ (g : Nat) (s : State), g < 64 → g ∈ s.sched.loading →
    (State.loadCheck { s with sched := { s.sched with loading := s.sched.loading.filter fun x => x != g } } g (s.dom R.slot_IMAGE g)) = 0 →
    ∃ u, exec (.loadCheckDone g) s = .next u ∧ u.reg R.slot_STATE g = 1 ∧ u.reg R.slot_LOAD_RESULT g = 0 ∧ g ∉ u.sched.loading ∧
      u.reg R.slot_CADENCE g = (parseGraph (s.dom R.slot_IMAGE g)).cad % 2 ^ 8 ∧
      u.reg R.slot_CLASS g = b2n (!(parseGraph (s.dom R.slot_IMAGE g)).guaranteed) ∧
      u.reg R.slot_DIGEST g = (parseGraph (s.dom R.slot_IMAGE g)).crc % 2 ^ 32) ∧
  (∀ (g code : Nat) (s : State), g < 64 → g ∈ s.sched.loading → code ≠ 0 →
    (State.loadCheck { s with sched := { s.sched with loading := s.sched.loading.filter fun x => x != g } } g (s.dom R.slot_IMAGE g)) = code →
    ∃ u, exec (.loadCheckDone g) s = .next u ∧ u.reg R.slot_STATE g = s.reg R.slot_STATE g ∧ u.reg R.slot_LOAD_RESULT g = code % 2 ^ 16 ∧
      g ∉ u.sched.loading ∧ u = s.ran ((((State.dropParams { s with sched := { s.sched with loading := s.sched.loading.filter fun x => x != g } } g).setReg
        R.slot_LOAD_RESULT g code).raise 0x5001 (g + code * 256)))) ∧
  (∀ (w : Who) (g : Nat) (s : State), s.mayWrite w R.slot_COMMAND g = true → s.reg R.slot_STATE g = 1 → s.reg R.sadm_STATE g = 0 →
    ∃ u, exec (.unload w g) s = .next u ∧ u.reg R.slot_STATE g = 0 ∧ u.graph g = {} ∧ u.reply = ⟨true, 0, []⟩) ∧
  (∀ (g : Nat) (s : State), g < 64 → s.reg R.slot_STATE g = 3 → (s.sched.ops.all fun o => slotOf o.node != g) = true →
    ∃ u, exec (.graphDrained g) s = .next u ∧ u.reg R.slot_STATE g = 1)

/-- R55, R94. ARM_START of a LOADED slot and ARM_STOP and ARM_SWITCH of a RUNNING one, each armed by no set yet and on an enabled cadence, arm
their member and answer the frame used, which TARGET_FRAME then holds; no slot changes its state yet. DISARM takes the member back. -/
def Obligations.ArmingAGraph : Prop :=
  (∀ (w : Who) (g : Nat) (s : State), s.mayWrite w R.slot_COMMAND g = true → s.reg R.slot_STATE g = 1 → s.named g = false →
    s.reg R.cad_ENABLE (s.reg R.slot_CADENCE g) ≠ 0 → s.runsTooLong g = false → s.delayRoom g = true →
    ∃ u, exec (.armStart w g) s = .next u ∧ u.reply = ⟨true, 0, leBytes 8 (s.armFrame (s.reg R.slot_CADENCE g) (s.reg R.slot_TARGET_FRAME g))⟩ ∧
      (u.tb.sets.any fun x => x.members.contains (.graphStart g)) = true ∧ (∀ j, u.reg R.slot_STATE j = s.reg R.slot_STATE j) ∧
      u.reg R.slot_TARGET_FRAME g = s.armFrame (s.reg R.slot_CADENCE g) (s.reg R.slot_TARGET_FRAME g) % 2 ^ 64) ∧
  (∀ (w : Who) (g : Nat) (s : State), s.mayWrite w R.slot_COMMAND g = true → s.reg R.slot_STATE g = 2 → s.named g = false →
    s.reg R.cad_ENABLE (s.reg R.slot_CADENCE g) ≠ 0 → s.readElsewhere g = false →
    ∃ u, exec (.armStop w g) s = .next u ∧ u.reply = ⟨true, 0, leBytes 8 (s.armFrame (s.reg R.slot_CADENCE g) (s.reg R.slot_TARGET_FRAME g))⟩ ∧
      (u.tb.sets.any fun x => x.members.contains (.graphStop g)) = true ∧ (∀ j, u.reg R.slot_STATE j = s.reg R.slot_STATE j) ∧
      u.reg R.slot_TARGET_FRAME g = s.armFrame (s.reg R.slot_CADENCE g) (s.reg R.slot_TARGET_FRAME g) % 2 ^ 64) ∧
  (∀ (w : Who) (g b : Nat) (s : State), s.mayWrite w R.slot_COMMAND g = true → s.reg R.slot_STATE g = 2 → s.reg R.slot_SWITCH_TO g = b →
    b ≠ g → s.named g = false → s.named b = false → s.reg R.cad_ENABLE (s.reg R.slot_CADENCE g) ≠ 0 →
    ∃ u, exec (.armSwitch w g) s = .next u ∧ u.reply = ⟨true, 0, leBytes 8 (s.armFrame (s.reg R.slot_CADENCE g) (s.reg R.slot_TARGET_FRAME g))⟩ ∧
      (u.tb.sets.any fun x => x.members.contains (.graphSwitch g b)) = true ∧ (∀ j, u.reg R.slot_STATE j = s.reg R.slot_STATE j) ∧
      u.reg R.slot_TARGET_FRAME g = s.armFrame (s.reg R.slot_CADENCE g) (s.reg R.slot_TARGET_FRAME g) % 2 ^ 64) ∧
  (∀ (w : Who) (g : Nat) (m : Member) (s : State), s.mayWrite w R.slot_COMMAND g = true → g ∉ s.sched.loading →
    s.armed.find? (fun m => m.from g) = some m →
    ∃ u, exec (.graphDisarm w g) s = .next u ∧ u.reply = ⟨true, 0, []⟩ ∧ (u.tb.sets.any fun x => x.members.contains m) = false)

/-- R62, R63, R99. DEFINE of an entry that no loaded graph uses, with values the rules accept, gives it a handle of the next generation; a
release takes it away. Other entries keep theirs. -/
def Obligations.HandlesAreDefinedAndReleased : Prop :=
  (∀ (w : Who) (i : Nat) (s : State), i < 65536 → s.mayWrite w R.hdl_DEFINE i = true → s.defineOk i (s.writtenDef i) = true →
    s.reg R.hdl_USERS i = 0 → tget (fun _ => 0) s.sched.generation i < 65535 → s.reg R.hdl_MIRROR_BASE i = 0 →
    ∃ u, exec (.handleDefine w i) s = .next u ∧ u.reg R.hdl_HANDLE i = (tget (fun _ => 0) s.sched.generation i + 1) * 65536 + i ∧
      tget (fun _ => {}) u.sched.handles i = s.writtenDef i ∧ u.reply = ⟨true, 0, []⟩ ∧
      ∀ j, j < 65536 → j ≠ i → u.reg R.hdl_HANDLE j = s.reg R.hdl_HANDLE j ∧ tget (fun _ => {}) u.sched.handles j = tget (fun _ => {}) s.sched.handles j) ∧
  (∀ (w : Who) (i : Nat) (s : State), i < 65536 → s.mayWrite w R.hdl_DEFINE i = true → s.reg R.hdl_HANDLE i ≠ 0 → s.reg R.hdl_USERS i = 0 →
    ∃ u, exec (.handleRelease w i) s = .next u ∧ u.reg R.hdl_HANDLE i = 0 ∧ tget (fun _ => {}) u.sched.handles i = {} ∧ u.reply = ⟨true, 0, []⟩ ∧
      ∀ j, j < 65536 → j ≠ i → u.reg R.hdl_HANDLE j = s.reg R.hdl_HANDLE j ∧ tget (fun _ => {}) u.sched.handles j = tget (fun _ => {}) s.sched.handles j)

/-- R75, R80, R83, R84, R85, R87, R89. The scheduler's own events. A completion, of a fabric port one that the port has forwarded, waits
while the next command falls in its scheduler cycle, and is then processed with the others of the cycle. One whose TAG, as the descriptor carries it,
names an ACTIVE operation of the operator is accepted: it is counted, with FAULTS for a status from 2 on, and its DL3 entry goes; the only operation there is then commits and retires; a TAG that names
none is discarded and counted. The first operation in list order is dispatched when it has storage and an in-flight entry: it is prefetched
with its TAG. The next release of the delay lists leaves its list: a DL1 entry's operation is READY; a cut-off of DL0 that its frame has not met
is a substitution; a DL3 timer orders its operation's abort; the due heads of the overflow list and of the node frame table are processed
likewise. A commit request is accepted while its version is OPEN, for a stamp at which its frame was complete and closed,
strictly before the cut-off: the version is
committed with that stamp and its cut-off goes; at or after the cut-off the answer is 0 and nothing of the scheduler changes.
Model readings: log entries 86, 203, 204 and 258. -/
def Obligations.SchedulerEventsTakeEffect : Prop :=
  (∀ (t o tag status : Nat) (x : Oper) (s : State), o < 608 → s.sched.arrived = [] → (s.advanceTo t).tieNext = false →
    (96 ≤ o → (o, tag, status) ∈ s.fabric.forwarded) → s.tagged? o tag = some x →
    ∃ u, exec (.operationCompletion t o tag status) s = .next u ∧
      u.reg R.opr_COMPLETIONS o = (s.reg R.opr_COMPLETIONS o + 1) % 2 ^ 64 ∧
      u.reg R.opr_FAULTS o = (s.reg R.opr_FAULTS o + b2n (decide (2 ≤ status))) % 2 ^ 32 ∧
      u.sched.dl3 = dlRemove x.node x.frame s.sched.dl3) ∧
  (∀ (t o tag status : Nat) (x : Oper) (s : State), o < 608 → s.sched.arrived = [] → (s.advanceTo t).tieNext = false →
    (96 ≤ o → (o, tag, status) ∈ s.fabric.forwarded) → s.sched.ops = [x] → x.operator = o → x.state = .active → x.fullTag = tag →
    s.sched.versions = [] →
    ∃ u, exec (.operationCompletion t o tag status) s = .next u ∧ u.sched.ops = [] ∧ u.reg R.node_LAST_COMMITTED x.node = x.frame % 2 ^ 64) ∧
  (∀ (t o tag status : Nat) (s : State), o < 608 → (s.advanceTo t).tieNext = true → (96 ≤ o → (o, tag, status) ∈ s.fabric.forwarded) →
    exec (.operationCompletion t o tag status) s = .next (s.ran { s.advanceTo t with
      sched := { (s.advanceTo t).sched with arrived := insertArrived (o, tag, status) (s.advanceTo t).sched.arrived },
      fabric := { (s.advanceTo t).fabric with forwarded := (s.advanceTo t).fabric.forwarded.erase (o, tag, status) } })) ∧
  (∀ (t o tag status : Nat) (s : State), 96 ≤ o → o < 608 → (o, tag, status) ∉ s.fabric.forwarded →
    exec (.operationCompletion t o tag status) s = .next (s.ran (s.advanceTo t))) ∧
  (∀ (t o tag status : Nat) (s : State), o < 608 → s.sched.arrived = [] → (s.advanceTo t).tieNext = false →
    (96 ≤ o → (o, tag, status) ∈ s.fabric.forwarded) → s.tagged? o tag = none →
    ∃ u, exec (.operationCompletion t o tag status) s = .next u ∧ u.sched = { s.sched with discarded := s.sched.discarded + 1 } ∧
      u.reg R.opr_COMPLETIONS o = s.reg R.opr_COMPLETIONS o) ∧
  (∀ (o : Nat) (x : Oper) (l : List Oper) (s : State), o < 608 → s.prefetched? o = none → sortReady (s.readyOps o) = x :: l →
    s.outputRoom x = true → s.entryFor x.guaranteed = true → (x.guaranteed = true ∨ s.reg R.opr_PAUSED x.operator = 0) →
    ∃ v : State, exec (.dispatch o) s = .next (s.ran v.schedule) ∧ (v.sched.ops.any fun y =>
      y.node == x.node && y.frame == x.frame && y.operator == o && y.state == .prefetched && y.tag != 0) = true) ∧
  (∀ (x : DlEntry) (o : Oper) (s : State), s.nextRelease = some (1, x) →
    s.sched.ops.find? (fun o => o.node == x.node && o.frame == x.frame) = some o → s.needsBad o = false → (s.nodeRec o.node).kind = 0 →
    s.operatorPresent o.operator = true → s.readyOcc o.operator < s.reg R.opr_READY_DEPTH o.operator →
    ∃ v : State, exec .delayListRelease s = .next (s.ran v.schedule) ∧ v.sched.dl1 = dlRemove x.node x.frame s.sched.dl1 ∧
      (∀ y ∈ v.sched.ops, y.node = x.node → y.frame = x.frame → y.state = .ready)) ∧
  (∀ (x : DlEntry) (e : EdgeRec) (b : BufferRec) (v : Version) (s : State), s.nextRelease = some (0, x) → s.outBuffer x.node = some (e, b) →
    s.version? b.handle x.frame = some v → v.isPast = false → v.waiting = false → s.inTime (s.nodeRec x.node).flow x.frame x.time = none →
    s.tripping = false →
    ∃ u, exec .cutoffExpiry s = .next u ∧ u.sched.dl0 = dlRemove x.node x.frame s.sched.dl0 ∧
      u = s.ran ((((s.removeCutoff x.node x.frame).decideSubst x.node x.frame x.time).flowSubstituted (s.nodeRec x.node).flow x.frame).schedule)) ∧
  (∀ (x : DlEntry) (s : State), s.dueHead s.sched.overflow = some x →
    ∃ u, exec .overflowListCutoff s = .next u ∧ u.sched.overflow = dlRemove x.node x.frame s.sched.overflow ∧ u = s.ran (s.processCutoff x)) ∧
  (∀ (t : Nat) (x : DlEntry) (l : List DlEntry) (s : State), s.sched.tableOnly = x :: l → x.time ≤ (s.advanceTo t).now →
    ∃ u, exec (.frameTableScanCutoff t) s = .next u ∧ u.sched.tableOnly = dlRemove x.node x.frame s.sched.tableOnly ∧
      u = s.ran ((s.advanceTo t).processCutoff x)) ∧
  (∀ (x : DlEntry) (s : State), s.nextRelease = some (3, x) →
    ∃ u, exec .maxRunAbort s = .next u ∧ u.sched.dl3 = dlRemove x.node x.frame s.sched.dl3 ∧
      (∀ y ∈ u.sched.ops, y.node = x.node → y.frame = x.frame → y.state = .active → y.aborting = true)) ∧
  (∀ (flow f stamp id t : Nat) (e : EdgeRec) (b : BufferRec) (x : InFrame) (v : Version) (s : State), flow < 262144 →
    s.sourceOf flow f = some id → s.outBuffer id = some (e, b) → s.inFrame? flow f = some x → x.ready = some t → t ≤ stamp →
    s.version? b.handle f = some v → v.state = .opened → v.waiting = false →
    stamp < s.markTime (s.graph (slotOf id)).cad f + (s.nodeRec id).deadline →
    ∃ u, exec (.commitRequest flow f stamp) s = .next u ∧ u.reply = ⟨true, 0, [1#8]⟩ ∧ u.sched.dl0 = dlRemove id f s.sched.dl0 ∧
      u = s.ran ((s.commitSource id b.handle flow f stamp).answerWith [1#8])) ∧
  (∀ (flow f stamp id : Nat) (s : State), flow < 262144 → s.sourceOf flow f = some id →
    s.markTime (s.graph (slotOf id)).cad f + (s.nodeRec id).deadline ≤ stamp →
    ∃ u, exec (.commitRequest flow f stamp) s = .next u ∧ u.reply = ⟨true, 0, [0#8]⟩ ∧ u.sched = s.sched)

/-! ## Admission (chapter 04) -/

/-- R102, R103, R104, R124, R546, R553, Table 04.4. A request starts the check and sets BUSY; its reply, while core 1 is not halted and no rebuild of tampered
parameter regions is due, clears BUSY and either grants L with event 0x5030 or refuses
with the record of Table 04.4; a release ends the admission of a slot that is not live; an admission that uses an absent unit is IMPAIRED. -/
def Obligations.AdmissionCommandsTakeEffect : Prop :=
  (∀ (w : Who) (g : Nat) (s : State), s.mayWrite w R.adm_REQUEST 0 = true → g < 64 → s.reg R.adm_BUSY = 0 →
    exec (.admissionRequest w g) s = .next (s.ran
      (({ s with adm := { s.adm with checking := some (g, s.mono) } } : State).setReg R.adm_BUSY 0 1).ok)) ∧
  (∀ (us g m l : Nat) (s : State), s.adm.checking = some (g, m) → s.dusk.core1.haltedAt = none → s.scratch.recovery = [] →
    s.admissionCheck g = .inr l →
    ∃ u, exec (.admissionReply us) s = .next u ∧ (∃ v : State, u = s.ran (v.raise 0x5030 g)) ∧ u.reg R.adm_BUSY = 0 ∧ u.reg R.sadm_STATE g = 1 ∧ u.reg R.sadm_L g = l % 2 ^ 32 ∧
      u.dom R.sadm_REPLY g = replyRecord g us l ⟨0, 0, 0, 0⟩) ∧
  (∀ (us g m : Nat) (x : Refused) (s : State), s.adm.checking = some (g, m) → s.dusk.core1.haltedAt = none → s.scratch.recovery = [] →
    s.admissionCheck g = .inl x →
    ∃ u, exec (.admissionReply us) s = .next u ∧ u.reg R.adm_BUSY = 0 ∧ u.reg R.sadm_STATE g = s.reg R.sadm_STATE g ∧
      u.reg R.adm_REFUSALS = (s.reg R.adm_REFUSALS + 1) % 2 ^ 32 ∧ u.dom R.sadm_REPLY g = replyRecord g us 0 x) ∧
  (∀ (w : Who) (g : Nat) (s : State), s.mayWrite w R.adm_RELEASE 0 = true → g < 64 → s.reg R.sadm_STATE g ≠ 0 → s.reg R.slot_STATE g = 1 →
    ∃ u, exec (.admissionRelease w g) s = .next u ∧ u.reg R.sadm_STATE g = 0 ∧ u.reg R.sadm_L g = 0 ∧ u.reg R.sadm_ENTRIES g = 0 ∧
      u.reply = ⟨true, 0, []⟩) ∧
  (∀ (g i : Nat) (s : State), g < 64 → s.reg R.sadm_STATE g = 1 → s.absentUnit g false = some i →
    exec (.admissionImpair g) s = .next (s.ran (((s.setReg R.sadm_STATE g 2).setReg R.sadm_IMPAIRED_BY g i).raise 0x5032 g)))

/-! ## The stream engine (chapter 05) -/

/-- R128, R133. ENABLE of a port whose lanes are present, free and set for its TYPE starts it; ENABLE = 0 stops it. CONFIGURE of an OFF flow
with permitted values makes it CONFIGURED, UNCONFIGURE makes a CONFIGURED flow OFF.
Model readings: log entry 100. -/
def Obligations.PortsAndFlowsAreSwitched : Prop :=
  (∀ (w : Who) (p : Nat) (ty : PortType) (s : State), s.mayWrite w R.eth_ENABLE p = true → s.reg R.eth_ENABLE p = 0 →
    portType (s.reg R.eth_TYPE p) = some ty →
    ((s.portLanes p).all fun l => s.lanePresent l && s.reg R.lane_MODE l == 1 && s.reg R.lane_LINE_RATE l == ty.rate && (s.portOf l).isNone &&
      (ty.lanes != 8 || s.reg R.lane_MEDIUM l == 0)) = true →
    ∃ u, exec (.portEnable w p true) s = .next u ∧ u.reg R.eth_ENABLE p = 1 ∧ u.reply = ⟨true, 0, []⟩) ∧
  (∀ (w : Who) (p : Nat) (s : State), s.mayWrite w R.eth_ENABLE p = true → s.reg R.eth_ENABLE p ≠ 0 →
    ∃ u, exec (.portEnable w p false) s = .next u ∧ u.reg R.eth_ENABLE p = 0 ∧ u.reg R.eth_LINK p = 0 ∧ u.reply = ⟨true, 0, []⟩) ∧
  (∀ (w : Who) (f : Nat) (s : State), s.mayWrite w R.flow_COMMAND f = true → s.configureValues f = true → s.reg R.flow_STATE f = 0 →
    s.configureFull f = false →
    ∃ u, exec (.configure w f) s = .next u ∧ u.reg R.flow_STATE f = 1 ∧ f ∈ u.streams.active ∧ u.reply = ⟨true, 0, []⟩) ∧
  (∀ (w : Who) (f : Nat) (s : State), s.mayWrite w R.flow_COMMAND f = true → s.reg R.flow_STATE f = 1 →
    ∃ u, exec (.unconfigure w f) s = .next u ∧ u.reg R.flow_STATE f = 0 ∧ f ∉ u.streams.active ∧ u.reply = ⟨true, 0, []⟩)

/-- R127, R129, R130, R138, R139, R142, R160. A frame on a port whose link is UP is counted; a damaged, over-long or too short one, and one
that holds a word the FEC could not correct, counts in RX_FCS_ERRORS too and goes no further; one that the ingress buffer cannot hold counts in FIFO_OVERFLOWS; a good datagram that a flow's rule
matches goes to that flow, and a new number of a BOUND KIND 0 flow whose rows all lie in the picture of an open version counts in PACKETS; one
that none matches counts in RX_UNMATCHED; an ARP request for the port's address is answered. A port that is DOWN receives nothing. MERGE_WINDOW after the
first last packet, the version closes; LEG_TIMEOUT without a packet of the flow, its leg goes DOWN.
Model readings: log entries 62, 63, 64, 213 and 283. -/
def Obligations.PortsReceiveFrames : Prop :=
  (∀ (t p : Nat) (fr : EthFrame) (s : State), p < 256 → s.reg R.eth_LINK p ≠ 0 →
    ((s.advanceTo t).portSpoilt p = true ∨ fr.body = .fcsError ∨ s.reg R.eth_MAX_FRAME p < fr.length ∨ fr.length < 64) →
    exec (.ethFrameReceive t p fr) s = .next (s.ran ((((s.advanceTo t).clearSpoilt p).inc R.eth_RX_FRAMES p).inc R.eth_RX_FCS_ERRORS p))) ∧
  (∀ (t p : Nat) (fr : EthFrame) (s : State), p < 256 → s.reg R.eth_LINK p ≠ 0 → (s.advanceTo t).portSpoilt p = false →
    fr.body ≠ .fcsError → fr.length ≤ s.reg R.eth_MAX_FRAME p → 64 ≤ fr.length → 524288 < (s.advanceTo t).ingressFill (p / 4) + fr.length →
    ∃ u, exec (.ethFrameReceive t p fr) s = .next u ∧ u.reg R.eth_FIFO_OVERFLOWS p = (s.reg R.eth_FIFO_OVERFLOWS p + 1) % 2 ^ 32 ∧
      u.reg R.eth_RX_FRAMES p = (s.reg R.eth_RX_FRAMES p + 1) % 2 ^ 64 ∧ u.streams = s.streams) ∧
  (∀ (t p f n : Nat) (d : Datagram) (u : State) (s : State), p < 256 → s.reg R.eth_LINK p ≠ 0 → (s.advanceTo t).portSpoilt p = false →
    n ≤ s.reg R.eth_MAX_FRAME p → 64 ≤ n →
    (s.advanceTo t).ingressFill (p / 4) + n ≤ 524288 → u = (((s.advanceTo t).inc R.eth_RX_FRAMES p).ingressEnter (p / 4) n) →
    u.classify p d = some f →
    exec (.ethFrameReceive t p ⟨n, .udp d⟩) s = .next (s.ran (u.ingest p f d))) ∧
  (∀ (t p f n m : Nat) (k : Bool) (d : Datagram) (b : BufferRec) (l : List (Nat × Nat × Nat)) (u : State) (s : State), p < 256 →
    s.reg R.eth_LINK p ≠ 0 → (s.advanceTo t).portSpoilt p = false →
    n ≤ s.reg R.eth_MAX_FRAME p → 64 ≤ n → (s.advanceTo t).ingressFill (p / 4) + n ≤ 524288 →
    u = (((s.advanceTo t).inc R.eth_RX_FRAMES p).ingressEnter (p / 4) n) → u.classify p d = some f → s.reg R.flow_PAIRED f = 0 →
    s.reg R.flow_STATE f = 2 → s.reg R.flow_KIND f = 0 → u.badRtp f d = false → u.openBuffer f m = some b →
    u.frameOfStamp (u.graph (u.flowRun f).slot).cad d.timestamp (u.regI R.flow_RTP_OFFSET f) = (some m, k) →
    ((u.flowRun f).position (d.extSeq % 65536 * 65536 + d.seq % 65536) = .first ∨
      (u.flowRun f).position (d.extSeq % 65536 * 65536 + d.seq % 65536) = .above ∨
      (u.flowRun f).position (d.extSeq % 65536 * 65536 + d.seq % 65536) = .fill) → placeRows b d.srds = some l →
    ∃ v, exec (.ethFrameReceive t p ⟨n, .udp d⟩) s = .next v ∧ v.reg R.flow_PACKETS f = (s.reg R.flow_PACKETS f + 1) % 2 ^ 64) ∧
  (∀ (t p n : Nat) (d : Datagram) (u : State) (s : State), p < 256 → s.reg R.eth_LINK p ≠ 0 → (s.advanceTo t).portSpoilt p = false →
    n ≤ s.reg R.eth_MAX_FRAME p → 64 ≤ n →
    (s.advanceTo t).ingressFill (p / 4) + n ≤ 524288 → u = (((s.advanceTo t).inc R.eth_RX_FRAMES p).ingressEnter (p / 4) n) →
    u.classify p d = none →
    exec (.ethFrameReceive t p ⟨n, .udp d⟩) s = .next (s.ran (u.inc R.eth_RX_UNMATCHED p))) ∧
  (∀ (t p n target mac ip : Nat) (u : State) (s : State), p < 256 → s.reg R.eth_LINK p ≠ 0 → (s.advanceTo t).portSpoilt p = false →
    n ≤ s.reg R.eth_MAX_FRAME p → 64 ≤ n →
    (s.advanceTo t).ingressFill (p / 4) + n ≤ 524288 → u = (((s.advanceTo t).inc R.eth_RX_FRAMES p).ingressEnter (p / 4) n) →
    target = s.reg R.eth_IPV4 p →
    exec (.ethFrameReceive t p ⟨n, .arpRequest target mac ip⟩) s = .next (s.ran
      (u.sendControl p (.arpReply (s.reg R.eth_MAC_ADDR p) (s.reg R.eth_IPV4 p) mac ip)))) ∧
  (∀ (t p : Nat) (fr : EthFrame) (s : State), p < 256 → s.reg R.eth_LINK p = 0 →
    exec (.ethFrameReceive t p fr) s = .next (s.ran (s.advanceTo t))) ∧
  (∀ (t f n : Nat) (v : InFrame) (m : Nat × Nat) (ms : List (Nat × Nat)) (s : State), f < 262144 → s.inFrame? f n = some v →
    v.markers = m :: ms → v.closed = none → v.complete = false →
    (ms.map Prod.snd).foldl min m.2 + s.reg R.flow_MERGE_WINDOW f * 1000 ≤ (s.advanceTo t).now →
    ∃ u, exec (.mergeWindowExpiry t f n) s = .next u ∧ u.inFrame? f n = some { v with closed := some (s.advanceTo t).now }) ∧
  (∀ (t f n : Nat) (v : InFrame) (m : Nat × Nat) (ms : List (Nat × Nat)) (s : State), f < 262144 → s.inFrame? f n = some v →
    v.markers = m :: ms → v.closed = none → (ms.map Prod.snd).foldl min m.2 + s.reg R.flow_MERGE_WINDOW f * 1000 ≤ (s.advanceTo t).now →
    exec (.mergeWindowExpiry t f n) s = .next (s.ran
      (((s.advanceTo t).onInFrame f n fun v => { v with closed := some (s.advanceTo t).now }).evaluate f n))) ∧
  (∀ (t f leg : Nat) (s : State), f < 262144 → leg < 2 → s.legged f = true → (s.reg R.flow_LEG_STATE f).testBit leg = true →
    ((s.flowRun f).legSeen.any fun p => p.1 == leg && decide (p.2 + s.reg R.flow_LEG_TIMEOUT f * 1000000 ≤ (s.advanceTo t).now)) = true →
    ∃ u, exec (.legTimeout t f leg) s = .next u ∧
      u.reg R.flow_LEG_STATE f = putBit (s.reg R.flow_LEG_STATE f) leg false % 2 ^ 8 ∧ u = s.ran ((s.advanceTo t).legDown f leg))

/-- R144, R147, R148, R149, R150. On a lane in SDI mode, the first frame of an interval on the lane of a BOUND SDI flow is kept when the version of its
frame is open, a second one is dropped and counted; every line updates PAYLOAD_ID and CRC_ERRORS; a line of a kept picture is written where R144
says and counted in PACKETS. On another lane nothing is received. -/
def Obligations.SdiLanesReceive : Prop :=
  (∀ (t l f n : Nat) (s : State), l < 256 → s.reg R.lane_MODE l = 2 → s.sdiFlow l 0 = some f → s.reg R.flow_STATE f = 2 →
    n = (s.advanceTo t).frameAt (s.graph (s.flowRun f).slot).cad (s.advanceTo t).now → (s.sdiIn l).began ≠ some n →
    ∃ u, exec (.sdiFrameBegin t l) s = .next u ∧ (u.sdiIn l).began = some n ∧
      (u.sdiIn l).frame = (if (s.inFrame? f n).isSome then some n else none) ∧ u.reg R.sdi_FRAMES_DROPPED l = s.reg R.sdi_FRAMES_DROPPED l) ∧
  (∀ (t l f n : Nat) (s : State), l < 256 → s.reg R.lane_MODE l = 2 → s.sdiFlow l 0 = some f → s.reg R.flow_STATE f = 2 →
    n = (s.advanceTo t).frameAt (s.graph (s.flowRun f).slot).cad (s.advanceTo t).now → (s.sdiIn l).began = some n →
    ∃ u, exec (.sdiFrameBegin t l) s = .next u ∧ (u.sdiIn l).frame = none ∧
      u.reg R.sdi_FRAMES_DROPPED l = (s.reg R.sdi_FRAMES_DROPPED l + 1) % 2 ^ 32) ∧
  (∀ (t l : Nat) (x : SdiLine) (s : State), l < 256 → s.reg R.lane_MODE l = 2 → (s.sdiIn l).frame = none →
    ∃ u, exec (.sdiLineReceive t l x) s = .next u ∧
      u.reg R.sdi_PAYLOAD_ID l = (x.payloadId.map fun v => v % 2 ^ 32).getD (s.reg R.sdi_PAYLOAD_ID l) ∧
      u.reg R.sdi_CRC_ERRORS l = if x.crcOk then s.reg R.sdi_CRC_ERRORS l else (s.reg R.sdi_CRC_ERRORS l + 1) % 2 ^ 32) ∧
  (∀ (t l f n k : Nat) (data : List Byte) (b : BufferRec) (p : Nat × Nat × Nat) (s : State), l < 256 → s.reg R.lane_MODE l = 2 →
    s.sdiFlow l 0 = some f → (s.sdiIn l).frame = some n → s.openBuffer f n = some b → placeRow b ⟨k, 0, data.length, false⟩ = some p →
    ∃ u, exec (.sdiLineReceive t l { line := some k, lastActive := false, crcOk := true, payloadId := none, data := data, anc := [] }) s = .next u ∧
      u.reg R.flow_PACKETS f = (s.reg R.flow_PACKETS f + 1) % 2 ^ 64 ∧
      u = s.ran ((((s.advanceTo t).writePlaced f n b [p] data).inc R.flow_PACKETS f).finishPicture f n b)) ∧
  (∀ (t l : Nat) (x : SdiLine) (s : State), l < 256 → s.reg R.lane_MODE l ≠ 2 →
    exec (.sdiLineReceive t l x) s = .next (s.ran (s.advanceTo t)) ∧ exec (.sdiFrameBegin t l) s = .next (s.ran (s.advanceTo t)))

/-- R151, R155, R158, R159. At its launch instant the oldest waiting frame of an egress flow is launched: its packets are queued, FRAMES counts it,
and LATE_LAUNCH too if ALIGN_OFS has passed; a due packet leaves a port that is UP and is counted; an SDI output without a started SINK operation
50 µs before its frame counts a repeat, with event 0x2207, and sends its last picture again; one with a started operation sends its picture.
Model readings: log entries 60, 61 and 217. -/
def Obligations.EgressTakesEffect : Prop :=
  (∀ (t f : Nat) (o : Oper) (b : BufferRec) (s : State), f < 262144 → s.reg R.flow_STATE f = 2 → s.reg R.flow_DIR f = 1 →
    s.reg R.flow_KIND f ≠ 4 → s.isPeer f = false → (s.advanceTo t).launchable f = some (o, b) →
    (s.reg R.flow_ALIGN_OFS f = 0 ∨ s.markTime (s.graph (slotOf o.node)).cad o.frame + s.reg R.flow_ALIGN_OFS f ≤ (s.advanceTo t).now) →
    ∃ u, exec (.egressLaunch t f) s = .next u ∧ u.reg R.flow_FRAMES f = (s.reg R.flow_FRAMES f + 1) % 2 ^ 64 ∧
      u.reg R.flow_LATE_LAUNCH f = (s.reg R.flow_LATE_LAUNCH f + b2n (s.reg R.flow_ALIGN_OFS f != 0 &&
        decide (s.markTime (s.graph (slotOf o.node)).cad o.frame + s.reg R.flow_ALIGN_OFS f < (s.advanceTo t).now))) % 2 ^ 32 ∧
      (u.flowRun f).newest = some o.frame ∧ u = s.ran ((s.advanceTo t).launch f o b)) ∧
  (∀ (t p : Nat) (x : OutPacket) (s : State), p < 256 → nextPacket (tget (fun _ => []) s.streams.queues p) = some x →
    x.due ≤ (s.advanceTo t).now → s.reg R.eth_LINK p ≠ 0 → x.copy = 0 →
    ∃ u, exec (.egressPacketSend t p) s = .next u ∧ u.reg R.eth_TX_FRAMES p = (s.reg R.eth_TX_FRAMES p + 1) % 2 ^ 64 ∧
      u.reg R.flow_PACKETS x.flow = (s.reg R.flow_PACKETS x.flow + 1) % 2 ^ 64 ∧
      tget (fun _ => []) u.streams.queues p = (tget (fun _ => []) s.streams.queues p).erase x ∧ (p, x) ∈ u.streams.sent) ∧
  (∀ (l n f : Nat) (u : State) (s : State), l < 256 → s.sdiFlow l 1 = some f → s.rasterOn l f = true →
    u = s.advanceTo (s.markTime (s.rasterCadence l f) n + s.reg R.flow_ALIGN_OFS f - 50000) → ((u.sinkOps f).any fun o => o.frame == n) = false →
    ∃ v, exec (.sdiRepeatCheck l n) s = .next v ∧ v.reg R.sdi_REPEATS l = (s.reg R.sdi_REPEATS l + 1) % 2 ^ 32 ∧
      (v.sdiOut l).repeating = some n ∧ v.now = u.now ∧
      v = s.ran (((u.onSdiOut l fun r => { r with repeating := some n }).inc R.sdi_REPEATS l).raise 0x2207 l)) ∧
  (∀ (l n f : Nat) (s : State), l < 256 → s.sdiFlow l 1 = some f → s.rasterOn l f = true → s.sinkOps f = [] → (s.sdiOut l).picture ≠ [] →
    ∃ v, exec (.sdiEgressFrame l n) s = .next v ∧ v.reply = ⟨true, 0, (s.sdiOut l).picture⟩ ∧
      (v.sdiOut l).flags = (s.sdiOut l).flags % 2 + 4 ∧ (v.sdiOut l).repeating = none ∧ v.reg R.flow_FRAMES f = s.reg R.flow_FRAMES f) ∧
  (∀ (l n f : Nat) (o : Oper) (b : BufferRec) (pic : List Byte) (met : Bool) (u v : State) (s : State), l < 256 → s.sdiFlow l 1 = some f →
    s.rasterOn l f = true → s.tripping = false → u = s.silent.advanceTo (s.markTime (s.rasterCadence l f) n + s.reg R.flow_ALIGN_OFS f) →
    (u.sinkOps f).find? (fun o => o.frame == n) = some o → ((u.sinkOps f).all fun o => decide (n ≤ o.frame)) = true →
    (s.sdiOut l).repeating ≠ some n → u.sinkBuffer o = some b → u.sdiPicture f l (u.sinkInput o).1 b = (v, pic, met) →
    ∃ w, exec (.sdiEgressFrame l n) s = .next w ∧ w.reply = ⟨true, 0, pic⟩ ∧ w.reg R.flow_FRAMES f = (s.reg R.flow_FRAMES f + 1) % 2 ^ 64 ∧
      (w.flowRun f).lastSdi = n ∧ (w.sdiOut l).picture = pic)

/-! ## Raster and move engines (chapters 03 and 06) -/

/-- R73, R74, R85, R190, R191, R192, R193, R344. The prefetched operation of an idle operator starts: it is what the operator runs, and its MAX_RUN
timer is in DL3; a raster engine checks its parameters first, which must be permitted, else it answers FAULT with their code. A raster engine
whose reads meet no poison writes its region, and once its writes are acknowledged is idle and answers its status; a move engine does its work and answers its status.
An abort order for the TAG of the descriptor an operator runs takes hold once the scheduler has ordered it: a raster engine goes on to ABORTED, which it reports as
such with event 0x6004 once its writes are acknowledged; a move engine reports ABORTED at once; a fabric port is told.
Model readings: log entries 49, 67 and 68. -/
def Obligations.OperationsRun : Prop :=
  (∀ (t o : Nat) (p : Oper) (s : State), 32 ≤ o → o < 608 → s.runOp o = none → s.prefetched? o = some p → s.sched.dl3.length < 4096 →
    ∃ u, exec (.operationStart t o) s = .next u ∧
      u.runOp o = some { node := p.node, frame := p.frame, tag := p.tag, start := (s.advanceTo t).now } ∧
      u.sched.dl3 = dlInsert ⟨(s.advanceTo t).now + (s.nodeRec p.node).maxRun * 1000, p.node, p.frame⟩ s.sched.dl3 ∧
      (∀ x ∈ u.sched.ops, x.node = p.node → x.frame = p.frame → x.state = .active)) ∧
  (∀ (t o : Nat) (r : RunOp) (l : List Byte) (u : State) (s : State), o < 32 → s.runOp o = none →
    ((s.advanceTo t).silent.startOp o).runOp o = some r →
    (((s.advanceTo t).silent.startOp o).setReg R.eng_STATE o 1).readParams r.node 0 3 = (u, some l) →
    (convParams l).check (u.outRegion r.node) (decide (1 ≤ (u.inAddrs r.node r.frame).length)) (decide (2 ≤ (u.inAddrs r.node r.frame).length))
      (decide (3 ≤ (u.inAddrs r.node r.frame).length)) = 0 →
    exec (.operationStart t o) s = .next (s.ran u)) ∧
  (∀ (t o code : Nat) (r : RunOp) (l : List Byte) (u : State) (s : State), o < 32 → s.runOp o = none →
    ((s.advanceTo t).silent.startOp o).runOp o = some r →
    (((s.advanceTo t).silent.startOp o).setReg R.eng_STATE o 1).readParams r.node 0 3 = (u, some l) →
    (convParams l).check (u.outRegion r.node) (decide (1 ≤ (u.inAddrs r.node r.frame).length)) (decide (2 ≤ (u.inAddrs r.node r.frame).length))
      (decide (3 ≤ (u.inAddrs r.node r.frame).length)) = code → code ≠ 0 →
    ∃ v, exec (.operationStart t o) s = .next v ∧ v.reply = ⟨true, 0, [2#8] ++ leBytes 1 code⟩ ∧ v.reg R.eng_LAST_FAULT o = code % 2 ^ 8 ∧
      v.reg R.eng_STATE o = 0 ∧ v.runOp o = none) ∧
  (∀ (t e n out : Nat) (r : RunOp) (l : List Byte) (u u2 u3 : State) (tab : ConvTables) (rr : ReadRun) (rows : InRows) (s : State),
    e < 32 → (s.advanceTo t).silent.runOp e = some r → r.aborting = false → r.fault = 0 → s.engineWriting e = false → r.met = 0 →
    ((s.advanceTo t).silent.add R.eng_TABLE_CORRECTED e n).readParams r.node 0 3 = (u, some l) →
    u2 = (u.add R.eng_PIXELS_IN e (convParams l).pixelsIn).add R.eng_PIXELS_OUT e ((convParams l).pixelsOut (u.outRegion r.node)) →
    u2.readTables e r.node (convParams l) (nth (u.inAddrs r.node r.frame) 2 0) = (u3, some tab) →
    (ReadRun.mk u3 0 false).rows e (convParams l) (u.inAddrs r.node r.frame) 0 ((convParams l).cropH / unitH (convParams l).inFormat) = (rr, rows) →
    rr.stopped = false → rr.met = 0 → rr.s.sched.arrived = [] → rr.s.outAddr r.node r.frame = some out →
    ∃ v, exec (.convertComplete t e n false) s = .next v ∧ v.reply = ⟨true, 0, doneStatus r.flagged⟩ ∧ v.runOp e = none ∧ v.reg R.eng_STATE e = 0 ∧
      v = s.ran (((rr.s.writeRegion e (convParams l) (picture (convParams l) tab (stage1 (convParams l) rows)) out (u.outRegion r.node)).engineDone
        e r).answerWith (doneStatus r.flagged))) ∧
  (∀ (t m out h : Nat) (r : RunOp) (block : List Byte) (u v : State) (flagged : Bool) (eb : EdgeRec × BufferRec) (s : State), m < 64 →
    (s.advanceTo t).silent.runOp (m + 32) = some r →
    (s.advanceTo t).silent.readParams r.node 0 (if (s.nodeRec r.node).opclass = 3 then 2 else 1) = (u, some block) →
    leAt block 0 2 = (s.nodeRec r.node).opclass + 2 →
    (u.setRun (m + 32) none).outBuffer r.node = some eb → (u.setRun (m + 32) none).outAddr r.node r.frame = some out →
    nth ((u.setRun (m + 32) none).inAddrs r.node r.frame) 0 0 = h →
    (u.setRun (m + 32) none).moveWork m (s.nodeRec r.node).opclass r.node out h eb.1 eb.2 block = (v, flagged) →
    ∃ w, exec (.moveOperationComplete t m) s = .next w ∧ w.reply = ⟨true, 0, doneStatus (flagged || r.flagged)⟩ ∧
      w = s.ran (v.answerWith (doneStatus (flagged || r.flagged)))) ∧
  (∀ (t o tag : Nat) (r : RunOp) (s : State), o < 32 → s.runOp o = some r → r.aborting = false → s.fullTag r = tag →
    s.abortOrdered o tag = true →
    exec (.abortOrder t o tag) s = .next (s.ran
      (((s.advanceTo t).silent.setRun o (some { r with aborting := true })).setReg R.eng_STATE o 2))) ∧
  (∀ (t o tag : Nat) (r : RunOp) (s : State), 32 ≤ o → o < 96 → s.runOp o = some r → r.aborting = false → s.fullTag r = tag →
    s.abortOrdered o tag = true →
    exec (.abortOrder t o tag) s = .next (s.ran (((s.advanceTo t).silent.setRun o none).answerWith [3#8, 0#8]))) ∧
  (∀ (t o tag : Nat) (r : RunOp) (s : State), 96 ≤ o → o < 608 → s.runOp o = some r → r.aborting = false → s.fullTag r = tag →
    s.abortOrdered o tag = true →
    exec (.abortOrder t o tag) s = .next (s.ran
      ((s.advanceTo t).silent.setRun o (some { r with aborting := true, abortedAt := (s.advanceTo t).mono })))) ∧
  (∀ (t e : Nat) (r : RunOp) (s : State), e < 32 → s.runOp e = some r → r.aborting = true → s.engineWriting e = false →
    ∃ u, exec (.abortComplete t e) s = .next u ∧ u.reply = ⟨true, 0, [3#8, 0#8]⟩ ∧ u.runOp e = none ∧ u.reg R.eng_STATE e = 0 ∧
      u.reg R.eng_ABORTS e = (s.reg R.eng_ABORTS e + 1) % 2 ^ 32 ∧
      u = s.ran ((((((s.advanceTo t).silent.inc R.eng_ABORTS e).metEvent e r.met).raise 0x6004 e).engineDone e r).answerWith [3#8, 0#8]))

/-! ## The frame store and the device code (chapters 07 and 08) -/

/-- R200, R202, R203, R205, R206, R207, R215, R249. A PC controller that is not fenced takes a request its class limits admit, at the tail of its queue; a
fenced one absorbs a write, counted in FENCED_WRITES. Once the words of a fill that there is room for have entered as best-effort writes (R249),
it issues the next burst in rotation, the full write of an unpoisoned word replacing that
word alone, a read answering the word that stands there; it closes an idle row, and keeps the refresh debts of its banks, each instant due on
the frame-store counter.
Model readings: log entries 84 and 222. -/
def Obligations.PcControllerRuns : Prop :=
  (∀ (n : Nat) (r : PcReq) (s : State), n < 128 → s.reg R.pc_STATE n ≠ 2 → r ∉ s.movingTo n → s.pcRoom n 1 r.vc = true →
    (r.write = true → (s.pcState n).writeBack = none) →
    ∃ u, exec (.pcRequestAccept n r) s = .next u ∧
      (u.pcState n).entries = (s.pcState n).entries ++ [{ req := r, bank := (s.locate r.addr).bank, row := (s.locate r.addr).row, since := s.mono }] ∧
      u.reg R.pc_QUEUE_OCC n = ((s.pcState n).used + 1) % 2 ^ R.pc_QUEUE_OCC.bits) ∧
  (∀ (n : Nat) (r : PcReq) (s : State), n < 128 → s.reg R.pc_STATE n = 2 → r.write = true →
    ∃ u, exec (.pcRequestAccept n r) s = .next u ∧ (u.pcState n).entries = (s.pcState n).entries ∧
      u.reg R.pc_FENCED_WRITES n = (s.reg R.pc_FENCED_WRITES n + 1) % 2 ^ R.pc_FENCED_WRITES.bits) ∧
  (∀ (n b : Nat) (e : PcEntry) (u : State) (s : State), n < 128 → s.reg R.pc_STATE n < 2 → s.reg R.stk_CHANGING (n / 32) = 0 → s.inWindow n = false →
    u = s.silent.fillEntries n 96 → (u.pcState n).nextBank (u.burstLimit n) = some b →
    bankHead ((u.pcState n).servable (u.burstLimit n)) b = some e → e.scrub = false → e.req.write = true →
    (s.locate e.req.addr).index = n → e.req.poison = false → e.req.mask % 2 ^ 32 = fullMask → (s.pcState n).writeBack = none →
    ∃ v, exec (.pcBurstIssue n) s = .next v ∧ v.codeWord e.req.addr = some (encodeWord e.req.data) ∧
      (∀ a, a / 32 ≠ e.req.addr / 32 → v.codeWord a = s.codeWord a) ∧ (v.pcState n).entries = (u.pcState n).entries.erase e ∧
      (v.pcState n).pointer = (b + 1) % 64 ∧ v.reg R.pc_BURSTS n = (s.reg R.pc_BURSTS n + 1) % 2 ^ R.pc_BURSTS.bits) ∧
  (∀ (n b d : Nat) (e : PcEntry) (u v : State) (s : State), n < 128 → s.reg R.pc_STATE n < 2 → s.reg R.stk_CHANGING (n / 32) = 0 →
    s.inWindow n = false → u = s.silent.fillEntries n 96 → (u.pcState n).nextBank (u.burstLimit n) = some b →
    bankHead ((u.pcState n).servable (u.burstLimit n)) b = some e → e.scrub = false →
    e.req.write = false → State.readNow (((if (u.pcState n).throttledBurst (u.burstLimit n) then u.inc R.pc_BE_THROTTLED n else
      u).onPc n fun p => p.served (u.burstLimit n) b e).pcOcc n) e.req.addr = (v, some d) →
    ∃ w, exec (.pcBurstIssue n) s = .next w ∧ w.reply = ⟨true, 0, leBytes 32 d⟩ ∧
      w = s.ran ((v.respond (pcStop n) e.req.master e.req.tag e.req.addr (some d)).answerWith (leBytes 32 d))) ∧
  (∀ (n b : Nat) (s : State), n < 128 → b < 64 → ((s.pcState n).entries.any fun e => e.bank == b) = false →
    exec (.rowPrechargeTimeout n b) s = .next (s.ran (s.onPc n fun p => { p with openRows := tput (fun _ => 2 ^ 20) b (2 ^ 20) p.openRows }))) ∧
  (∀ (n b : Nat) (s : State), n < 128 → b < 64 → s.reg R.pc_STATE n < 2 → s.storeRuns = true → s.reg R.stk_CHANGING (n / 32) = 0 →
    ∃ u, exec (.refreshDue n b) s = .next u ∧ tget (fun _ => 0) (u.pcState n).debts b = tget (fun _ => 0) (s.pcState n).debts b + 1 ∧
      u.mono = max s.mono (s.rings.start + dueInstant (s.pcState n).dueFrom b (tget (fun _ => 0) (s.pcState n).dues b)) ∧
      ∀ m c, (m ≠ n ∨ c ≠ b) → tget (fun _ => 0) (u.pcState m).debts c = tget (fun _ => 0) (s.pcState m).debts c) ∧
  (∀ (n b : Nat) (s : State), n < 128 → b < 64 → s.reg R.pc_STATE n < 2 → s.reg R.stk_CHANGING (n / 32) = 0 →
    tget (fun _ => 0) (s.pcState n).debts b ≠ 0 →
    (((s.pcState n).entries.any fun e => e.bank == b) = false ∨ 8 ≤ tget (fun _ => 0) (s.pcState n).debts b) →
    ∃ u, exec (.refreshIssue n b) s = .next u ∧ tget (fun _ => 0) (u.pcState n).debts b = tget (fun _ => 0) (s.pcState n).debts b - 1 ∧
      tget (fun _ => 2 ^ 20) (u.pcState n).openRows b = 2 ^ 20 ∧
      u.reg R.pc_REFRESH_FORCED n = (s.reg R.pc_REFRESH_FORCED n + b2n ((s.pcState n).entries.any fun e => e.bank == b)) % 2 ^ 32)

/-- R210, R212, R213, R214. A retraining window opens at its instant on the frame-store counter, applies the settings the last sweep chose, and tests
one candidate of a sweep. A sweep in which every lane has a chosen setting ends with the PC NORMAL and its settings chosen; one in which a single
data lane of a PC without a dead lane has none makes that lane the dead lane; one in which the command and address lanes have none ends with the
PC DEGRADED. A failed sweep is tried again a second after it, and the errors of a DEGRADED PC are counted in consecutive intervals of one second.
Model readings: log entries 69 and 70. -/
def Obligations.SweepsAndDegradedPcs : Prop :=
  (∀ (n pass : Nat) (s : State), n < 128 → s.reg R.pc_STATE n < 2 → s.reg R.stk_CHANGING (n / 32) = 0 → s.storeRuns = true →
    (s.pcState n).sweeping = true → (s.pcState n).cand < 64 →
    ∃ u, exec (.retrainWindow n pass) s = .next u ∧ u.mono = max s.mono (s.rings.start + (windowOffset n + 51200 * s.nextWindow n)) ∧
      u.store.pcs = (s.onPc n fun p =>
        { p with windows := s.nextWindow n + 1, chosen := none, cand := p.cand + 1,
                 settings := match p.chosen with
                   | some c => upd p.settings (s.reg R.stk_RATE (n / 32)) fun _ => c
                   | none => p.settings,
                 passes := p.passes.zipIdx.map fun q => putBit q.1 p.cand (pass.testBit q.2) }).store.pcs) ∧
  (∀ (n : Nat) (s : State), n < 128 → s.reg R.pc_STATE n < 2 → (s.pcState n).sweeping = true → 64 ≤ (s.pcState n).cand →
    (∀ l, l < 37 → (nth ((s.pcState n).passes.map chosenSetting) l none).isSome = true) →
    ∃ u, exec (.sweepEnd n) s = .next u ∧ u.reg R.pc_STATE n = 0 ∧ u.reg R.pc_SWEEPS n = (s.reg R.pc_SWEEPS n + 1) % 2 ^ R.pc_SWEEPS.bits ∧
      u.reg R.pc_DEAD_LANE n = s.reg R.pc_DEAD_LANE n ∧ (u.pcState n).cand = 0 ∧ (u.pcState n).sweeping = true ∧
      (u.pcState n).chosen.isSome = true) ∧
  (∀ (n k : Nat) (s : State), n < 128 → s.reg R.pc_STATE n < 2 → (s.pcState n).sweeping = true → 64 ≤ (s.pcState n).cand →
    s.reg R.pc_DEAD_LANE n = 0xFF → k < 36 →
    (∀ l, l < 37 → (nth ((s.pcState n).passes.map chosenSetting) l none).isSome = (l != k)) →
    ∃ u, exec (.sweepEnd n) s = .next u ∧ u.reg R.pc_STATE n = 0 ∧ u.reg R.pc_DEAD_LANE n = k ∧ (u.pcState n).chosen.isSome = true) ∧
  (∀ (n : Nat) (s : State), n < 128 → s.reg R.pc_STATE n < 2 → (s.pcState n).sweeping = true → 64 ≤ (s.pcState n).cand →
    nth ((s.pcState n).passes.map chosenSetting) 36 none = none →
    ∃ u, exec (.sweepEnd n) s = .next u ∧ u.reg R.pc_STATE n = 1 ∧ u.reg R.pc_RETRAIN_FAILS n = (s.reg R.pc_RETRAIN_FAILS n + 1) % 2 ^ R.pc_RETRAIN_FAILS.bits ∧
      (u.pcState n).settings = (s.pcState n).settings ∧ (u.pcState n).sweeping = false) ∧
  (∀ (n : Nat) (s : State), n < 128 → s.reg R.pc_STATE n < 2 → (s.pcState n).sweeping = false →
    ∃ u, exec (.sweepRetry n) s = .next u ∧ (u.pcState n).sweeping = true ∧ (u.pcState n).cand = 0 ∧
      u.mono = max s.mono ((s.pcState n).failedAt + 1000000000)) ∧
  (∀ (t n : Nat) (s : State), n < 128 → s.reg R.pc_STATE n = 1 → (s.pcState n).degradedAt + 1000000000 ≤ (s.advanceTo t).mono →
    exec (.degradedIntervalEnd t n) s = .next (s.ran ((s.advanceTo t).onPc n fun p =>
      { p with errors := 0, degradedAt := (s.pcState n).degradedAt + 1000000000 })))

/-- R199, R218, R219, R220, R225, R227. Master stops record a fence, the last of them counting a switchover; a map is written while no handle is
defined; a rate change that nothing forbids begins, and when its 28 µs have run the rate, the ceilings and the count of changes follow, a PC that
failed its check being DEGRADED; a stack's throttle follows its temperature, which the island times for R478.
Model readings: log entry 223. -/
def Obligations.StacksChange : Prop :=
  (∀ (t n g : Nat) (s : State), n < 128 → g < 386 → s.reg R.pc_STATE n = 2 → g ∉ (s.pcState n).recorded → (s.advanceTo t).isMasterStop g = true →
    ∃ u, exec (.fenceRecord t n g) s = .next u ∧ g ∈ (u.pcState n).recorded ∧
      u.reg R.fs_SWITCHOVERS = (s.reg R.fs_SWITCHOVERS + b2n ((List.range 386).all fun x =>
        !(s.advanceTo t).isMasterStop x || (g :: (s.pcState n).recorded).contains x)) % 2 ^ R.fs_SWITCHOVERS.bits) ∧
  (∀ (w : Who) (k v : Nat) (s : State), s.mayWrite w R.stk_MAP k = true → v ≤ 2 → s.anyHandle = false →
    exec (.mapWrite w k v) s = .next (s.ran ((s.setReg R.stk_MAP k v).loseStack k).ok)) ∧
  (∀ (w : Who) (k r : Nat) (s : State), s.mayWrite w R.stk_RATE_CMD k = true → r ≤ 2 → (∀ j, j < 4 → s.reg R.stk_CHANGING j = 0) →
    k ∉ s.power.refreshing → s.reg R.dom_STATE k = 0 → (s.reg R.stk_RATES_OK k).testBit r = true →
    (∀ g, g < 64 → s.reg R.sadm_STATE g = 0) → (∀ p, p < 32 → s.reg R.pcb_DEMAND (k * 32 + p) ≤ rateCeiling r) →
    ∃ u, exec (.rateChangeCommand w k r) s = .next u ∧ u.reg R.stk_CHANGING k = 1 ∧ tget (fun _ => 0) u.store.targetRate k = r ∧
      tget (fun _ => 0) u.store.changeAt k = s.mono ∧ u.reply = ⟨true, 0, []⟩) ∧
  (∀ (t k : Nat) (failed : List Nat) (s : State), k < 4 → s.reg R.stk_CHANGING k ≠ 0 → (∀ n, (s.pcState n).fenceLater = none) →
    ∃ u, exec (.rateChangeComplete t k failed) s = .next u ∧ u.reg R.stk_CHANGING k = 0 ∧
      u.reg R.stk_RATE k = tget (fun _ => 0) s.store.targetRate k % 2 ^ R.stk_RATE.bits ∧
      u.reg R.stk_RATE_CHANGES k = (s.reg R.stk_RATE_CHANGES k + 1) % 2 ^ R.stk_RATE_CHANGES.bits ∧
      tget (fun _ => 0) s.store.changeAt k + 28000 ≤ u.mono ∧
      (∀ n, n < 128 → n / 32 = k → s.reg R.pc_STATE n ≠ 2 →
        u.reg R.pcb_CEILING n = rateCeiling (tget (fun _ => 0) s.store.targetRate k) ∧ (n ∈ failed → u.reg R.pc_STATE n = 1))) ∧
  (∀ (k : Nat) (temp : Int) (s : State), k < 4 → s.reg R.stk_THROTTLED k = 0 → s.regI R.stk_THROTTLE_TEMP k ≤ temp →
    exec (.stackThrottle k temp) s = .next (s.ran ((((s.setRegI R.stk_TEMP k temp).heatStack k temp).setReg R.stk_THROTTLED k 1).raise 0x3009 (k + 256)))) ∧
  (∀ (k : Nat) (temp : Int) (s : State), k < 4 → s.reg R.stk_THROTTLED k ≠ 0 → temp < s.regI R.stk_THROTTLE_TEMP k - 3 →
    exec (.stackThrottle k temp) s = .next (s.ran ((((s.setRegI R.stk_TEMP k temp).heatStack k temp).setReg R.stk_THROTTLED k 0).raise 0x3009 k)))

/-- R209, R243, R246, R247, R249, R250, R252, R254, R309. Log entries are freed by the bits written; a fill of a range in bounds that nothing uses
begins, and it ends once no PC that it writes is in self-refresh or changes its rate, which, where no request waits for a word of it, leaves zero
in every word of its range that its own requests had not come to yet, on the stacks that are not off, outside the retired pages, and every word
elsewhere as it was; rows and banks are retired, each
recorded once. A scrub access queues a pending write-back, else a read of the next word of a scrubbed page, at the tail of its bank queue; served,
the write-back stores its word, counted by what it repairs, and a read that finds a correctable word asks for its write-back. The scratchpad is
scrubbed likewise, bank by bank, while the device is ACTIVE and does not wipe it.
Model readings: log entries 73, 193 and 221. -/
def Obligations.StoreServicesTakeEffect : Prop :=
  (∀ (w : Who) (n mask : Nat) (s : State), s.mayWrite w R.mlog_VALID n = true →
    ∃ u, exec (.logEntryFree w n mask) s = .next u ∧ u.reply = ⟨true, 0, []⟩ ∧
      ∀ e, e < 16 → (u.reg R.mlog_VALID n).testBit e = ((s.reg R.mlog_VALID n).testBit e && !mask.testBit e)) ∧
  (∀ (w : Who) (base len : Nat) (s : State), s.mayWrite w R.code_FILL 0 = true → fillRangeOk base len = true → s.store.fill = none →
    (∀ j, j < 4 → s.reg R.stk_CHANGING j = 0) → (s.sched.handles.any fun p => s.on R.hdl_USERS p.1 && p.2.meets base len) = false →
    exec (.fill w base len) s = .next (s.ran
      (({ s with store := { s.store with fill := some ⟨base, len, false⟩, fillAt := [] } } : State).setReg R.code_FILL_BUSY 0 1).ok)) ∧
  (∀ (j : FillJob) (s : State), s.store.fill = some j → (∀ n, n < 128 → s.fillWaits j n = false) →
    ∃ u, exec .fillComplete s = .next u ∧ u.store.fill = none ∧ u.reg R.code_FILL_BUSY = 0) ∧
  (∀ (j : FillJob) (n : Nat) (s : State), s.store.fill = some j → n < 128 → s.fillWaits j n = true → exec .fillComplete s = .next (s.ran s)) ∧
  (∀ (j : FillJob) (s : State), s.store.fill = some j → (∀ n, n < 128 → s.fillWaits j n = false) →
    (∀ n, n < 128 → ∀ e ∈ (s.pcState n).entries, e.scrub = true ∨ e.req.addr < j.base ∨ j.base + j.len ≤ e.req.addr) →
    ∃ u, exec .fillComplete s = .next u ∧
      (∀ a, j.base ≤ a / 32 * 32 → a / 32 * 32 < j.base + j.len → s.stacksOn.testBit (bits (a / 32 * 32) 7 6) = true →
        s.pageRetired (a / 32 * 32 / 2 ^ 17) = false →
        (s.fillPassed j.base (a / 32) = false → u.codeWord a = some 0) ∧ (u.codeWord a = some 0 ∨ u.codeWord a = s.codeWord a)) ∧
      (∀ a, (a / 32 * 32 < j.base ∨ j.base + j.len ≤ a / 32 * 32 ∨ s.stacksOn.testBit (bits (a / 32 * 32) 7 6) = false ∨
        s.pageRetired (a / 32 * 32 / 2 ^ 17) = true) → u.codeWord a = s.codeWord a)) ∧
  (∀ (w : Who) (a : Nat) (s : State), s.mayWrite w R.code_RETIRE_ROW 0 = true → a < frameStoreEnd →
    s.retireBlocked ⟨(s.locate a).index, (s.locate a).bank, some (s.locate a).row⟩ = false →
    (s.store.retired.filter fun x => x.row.isSome).length < 4096 →
    exec (.retireRow w a) s = .next (s.ran
      ((({ s with store := { s.store with
            retired := s.store.retired ++ [⟨(s.locate a).index, (s.locate a).bank, some (s.locate a).row⟩] } } : State).raise 0x3106
        (0 + (s.locate a).index * 2)).ok))) ∧
  (∀ (w : Who) (v : Nat) (s : State), s.mayWrite w R.code_RETIRE_BANK 0 = true → v < 2 ^ 14 → v.testBit 7 = false →
    s.retireBlocked ⟨v % 128, v / 256, none⟩ = false → (s.store.retired.filter fun x => x.row.isNone).length < 16 →
    exec (.retireBank w v) s = .next (s.ran
      ((({ s with store := { s.store with retired := s.store.retired ++ [⟨v % 128, v / 256, none⟩] } } : State).raise 0x3106 (1 + v % 128 * 2)).ok))) ∧
  (∀ (n : Nat) (w : WriteBack) (s : State), n < 128 → s.reg R.pc_STATE n < 2 → s.reg R.stk_CHANGING (n / 32) = 0 →
    ((s.pcState n).entries.any fun e => e.scrub) = false → (s.pcState n).writeBack = some w →
    ∃ u, exec (.scrubAccess n) s = .next u ∧ (u.pcState n).scrubAt = some u.mono ∧ (u.pcState n).entries =
      (s.pcState n).entries ++ [⟨⟨w.addr, true, 0, 0, false, .vc1, 0, 0⟩, (s.locate w.addr).bank, (s.locate w.addr).row, true, u.mono⟩]) ∧
  (∀ (n i : Nat) (s : State), n < 128 → s.reg R.pc_STATE n < 2 → s.reg R.stk_CHANGING (n / 32) = 0 →
    ((s.pcState n).entries.any fun e => e.scrub) = false → (s.pcState n).writeBack = none → s.store.valid ≠ [] → s.nextScrub n = some i →
    ∃ u, exec (.scrubAccess n) s = .next u ∧ (u.pcState n).scrubPos = i ∧ (u.pcState n).entries = (s.pcState n).entries ++
      [⟨⟨s.scrubAddr n i, false, 0, 0, false, .vc1, 0, 0⟩, (s.locate (s.scrubAddr n i)).bank, (s.locate (s.scrubAddr n i)).row, true,
        u.mono⟩]) ∧
  (∀ (n b : Nat) (e : PcEntry) (w : WriteBack) (u : State) (s : State), n < 128 → s.reg R.pc_STATE n < 2 → s.reg R.stk_CHANGING (n / 32) = 0 →
    s.inWindow n = false → u = s.silent.fillEntries n 96 → (u.pcState n).nextBank (u.burstLimit n) = some b →
    bankHead ((u.pcState n).servable (u.burstLimit n)) b = some e → e.scrub = true → e.req.write = true → (u.pcState n).writeBack = some w →
    ∃ v, exec (.pcBurstIssue n) s = .next v ∧ v.codeWord w.addr = some w.word ∧ (v.pcState n).writeBack = none ∧
      v.reg R.mlog_SCRUB_POISONED n = (s.reg R.mlog_SCRUB_POISONED n + b2n w.poison) % 2 ^ R.mlog_SCRUB_POISONED.bits ∧
      v.reg R.mlog_SCRUB_CORRECTED n = (s.reg R.mlog_SCRUB_CORRECTED n + b2n (!w.poison)) % 2 ^ R.mlog_SCRUB_CORRECTED.bits) ∧
  (∀ (n b d j x : Nat) (c : CodeWord) (e : PcEntry) (u : State) (s : State), n < 128 → s.reg R.pc_STATE n = 0 → s.reg R.stk_CHANGING (n / 32) = 0 →
    s.inWindow n = false → u = s.silent.fillEntries n 96 → (u.pcState n).nextBank (u.burstLimit n) = some b →
    bankHead ((u.pcState n).servable (u.burstLimit n)) b = some e → e.scrub = true → e.req.write = false → s.codeWord e.req.addr = some c →
    decodeWord c (s.deadSymbol n) = .corrected d j x → s.deadSymbol n ≠ some j →
    ∃ v, exec (.pcBurstIssue n) s = .next v ∧ (v.pcState n).writeBack = some ⟨e.req.addr, encodeWord d, false, c⟩ ∧
      v.reg R.pc_CORRECTED n = (s.reg R.pc_CORRECTED n + 1) % 2 ^ R.pc_CORRECTED.bits ∧ v.store.words = s.store.words) ∧
  (∀ (b : Nat) (w : WriteBack) (s : State), b < 512 → s.phase = .run → s.reg R.pow_STATE = 0 → s.scratch.wiping = false →
    tget (fun _ => none) s.scratch.writeBack b = some w →
    ∃ u, exec (.scratchpadScrubAccess b) s = .next u ∧ u.scratch.words = (s.putScratch (w.addr / 32) w.word).scratch.words ∧ tget (fun _ => none) u.scratch.writeBack b = none ∧
      u.reg R.mlog_SCRUB_POISONED (128 + b / 32) = (s.reg R.mlog_SCRUB_POISONED (128 + b / 32) + b2n w.poison) % 2 ^ R.mlog_SCRUB_POISONED.bits ∧
      u.reg R.mlog_SCRUB_CORRECTED (128 + b / 32) = (s.reg R.mlog_SCRUB_CORRECTED (128 + b / 32) + b2n (!w.poison)) % 2 ^ R.mlog_SCRUB_CORRECTED.bits)

/-! ## Rings and the scratchpad (chapters 07 and 09) -/

/-- R278, R286, R289, R501. The shadow slot tables become active at their wrap boundary; a drain ends when nothing of the old epoch remains, with
DRAIN_MAX and event 0x4005, or at its 2 µs bound, where what remains is counted in DRAIN_DISCARDS and leaves the device; the only best-effort
candidate of an arbiter that waits is marked starved when its AGE reaches the arbiter's STARVE.
Model readings: log entry 76. -/
def Obligations.RingEpochsAndStarvation : Prop :=
  (∀ (t c : Nat) (s : State), s.rings.swapAt = some c →
    ∃ u, exec (.slotTableSwap t) s = .next u ∧ u.rings.active = s.rings.shadow ∧ u.rings.shadow = s.rings.active ∧ u.rings.swapAt = none ∧
      c ≤ u.ringCycle) ∧
  (∀ (t : Nat) (s : State), s.on R.rsys_DRAINING = true → s.oldFlits = 0 →
    exec (.epochDrainEnd t) s = .next (s.ran
      ((((s.advanceTo t).setReg R.rsys_DRAINING 0 0).peak R.rsys_DRAIN_MAX 0 ((s.advanceTo t).mono - s.rings.drainStart)).raise
        0x4005 (s.reg R.rsys_EPOCH % 65536)))) ∧
  (∀ (t : Nat) (s : State), s.on R.rsys_DRAINING = true → s.rings.drainStart + 2000 ≤ (s.advanceTo t).mono → s.oldFlits ≠ 0 →
    ∃ u, exec (.epochDrainBound t) s = .next u ∧ u.reg R.rsys_DRAINING = 0 ∧
      u.reg R.rsys_DRAIN_DISCARDS = (s.reg R.rsys_DRAIN_DISCARDS + s.oldFlits) % 2 ^ R.rsys_DRAIN_DISCARDS.bits ∧ u.oldFlits = 0) ∧
  (∀ (a : ArbId) (c : Contender) (s : State), a.wf = true →
    (s.contenders a).filter (fun x => vcClass x.vc == 2 && !s.rings.starved.contains (x.input, x.vc, x.stamp) &&
      !(s.rings.holding.any fun h => h.input == x.input && h.vc == x.vc)) = [c] →
    ∃ u, exec (.starvation a) s = .next u ∧ u.reg R.rq_STARVED c.requester = 1 ∧
      u.rings.starved = s.rings.starved ++ [(c.input, c.vc, c.stamp)] ∧ c.stamp + (s.starveLimit a).1 ≤ u.ringCycle ∧
      u.reg R.arb_STARVE_EVENTS = (s.reg R.arb_STARVE_EVENTS + 1) % 2 ^ R.arb_STARVE_EVENTS.bits)

/-- R265, R267, R269, R271, R272, R287, R292, R293, R294, R295. A request that the address map allows is held at its stop and queued for injection, a
read as one request for each run of words that one request can name, the first of them at once, a write as the words of each run; a stop fills the slot of a segment direction with the flit of the source it picks, stamped with the
current epoch where it is injected, and spends a credit; a flit whose check bits hold, bound elsewhere, is kept with its payload checked; a side word
whose check bits hold returns credits, or replaces them when it resynchronises; an acknowledgement and a read answer reach the transfer they
belong to, and an answer that leaves runs to be read asks for the next.
Model readings: log entries 77, 79, 80 and 81. -/
def Obligations.RingsCarryTransfers : Prop :=
  (∀ (g : Nat) (r : MasterReq) (l : List Nat) (run : List (Nat × Nat)) (more : List (List (Nat × Nat))) (s : State), g < 386 →
    s.isMasterStop g = true → s.servesMaster g r = true → r.kind ≠ .fabric → r.write = false → r.mirror = false →
    (∀ h ∈ s.rings.held, h.stop = g → h.tag = r.tag → r.tag = 0) → s.engineAborting r = false →
    (∀ a ∈ r.addr :: l, s.mayAccess r.kind r.unit false false a = true) → (∀ a ∈ l, s.mirrorRange a = none) →
    s.wordAddrs r.addr ((r.count - 1) % 16 + 1) = some l → s.runsOf (l.map some).zipIdx = run :: more →
    ∃ u, exec (.masterRequest g r) s = .next u ∧
      (u.rings.held.any fun h => h.stop == g && h.tag == r.tag && !h.write && h.addrs == l && h.vc == s.requestVc r && h.asks == run :: more) = true ∧
      u.buffer (inputOf g 2) (s.requestVc r) = s.buffer (inputOf g 2) (s.requestVc r) ++
        [⟨s.ringCycle, 512, mkFlit g (s.targetStop ((run.map Prod.snd).headD 0)) (s.requestVc r) .read r.tag 0 true
          (encodeWord (requestWord ((run.map Prod.snd).headD 0) run.length false)) none false false none, false⟩]) ∧
  (∀ (g : Nat) (r : MasterReq) (l : List Nat) (runs : List (List (Nat × Nat))) (s : State), g < 386 → s.isMasterStop g = true →
    s.servesMaster g r = true → r.kind ≠ .fabric → r.write = true → r.posted = false → (r.masked = true → r.words.length = 1) → r.tag ≠ 0 →
    (∀ h ∈ s.rings.held, h.stop = g → h.tag ≠ r.tag) → s.engineAborting r = false →
    (∀ a ∈ r.addr :: l, s.mayAccess r.kind r.unit true r.mirror a = true) → (∀ a ∈ l, s.mirrorRange a = none) →
    s.wordAddrs r.addr (r.words.take 16).length = some l → runs = s.runsOf (l.map some).zipIdx → runs ≠ [] →
    ∃ u, exec (.masterRequest g r) s = .next u ∧
      (u.rings.held.any fun h => h.stop == g && h.tag == r.tag && h.write && h.addrs == runs.flatten.map Prod.snd && h.left == runs.length) = true ∧
      u.buffer (inputOf g 2) (s.requestVc r) = s.buffer (inputOf g 2) (s.requestVc r) ++ (runs.flatMap fun run =>
        (writeFlits g (s.targetStop ((run.map Prod.snd).headD 0)) (s.requestVc r) r.tag r ((r.words.take 16).map some) run).map fun f =>
          ⟨s.ringCycle, 512, f, false⟩)) ∧
  (∀ (g dir i : Nat) (vc : VC) (b : Buffered) (v : State) (s : State), g < 384 → dir < 2 → s.ringPresent (g / 24) = true →
    s.detourSegment (g / 24) ≠ segmentOut g dir →
    v = ((s.waitCycle (max s.ringCycle (tget (fun _ => 0) s.rings.sentLast (2 * g + dir)))).each [0, 1, 2]
      (fun s i => s.settleInput (inputOf g i))).orderLocal g dir →
    v.pick g dir = some (i, vc) → v.sendable g dir i vc = some b →
    ∃ u, exec (.flitSend g dir) s = .next u ∧ (tget (fun _ => []) u.rings.out (2 * g + dir)).getLast? =
        some (v.ringCycle, if v.injects g i then withCrc { b.flit with epoch := v.reg R.rsys_EPOCH % 2 } else b.flit) ∧
      u.credit g dir vc = v.credit g dir vc - 1) ∧
  (∀ (g dir : Nat) (f : Flit) (d0 d1 : Nat) (s : State), g < 384 → dir < 2 → s.ringPresent (g / 24) = true →
    s.detourSegment (g / 24) ≠ segmentIn g dir → (∀ vc, s.buffer (inputOf g dir) vc = []) → f.crc = flitCrc f → isWrite f = false →
    flitDst f ≠ g → leavesRing g f = false → decodeWord f.word0 none = .clean d0 → decodeWord f.word1 none = .clean d1 →
    ∃ u, exec (.flitReceive g dir f) s = .next u ∧
      u.buffer (inputOf g dir) f.vc = [⟨(tget (fun _ => []) s.rings.out (2 * neighbour g dir + dir)).head?.elim s.ringCycle Prod.fst, 512,
        withCrc { f with waddr := none }, false⟩] ∧
      tget (fun _ => []) u.rings.out (2 * neighbour g dir + dir) = (tget (fun _ => []) s.rings.out (2 * neighbour g dir + dir)).tail) ∧
  (∀ (g dir side : Nat) (s : State), g < 384 → dir < 2 → side / 2 ^ 64 % 256 = crc8From0 64 (side % 2 ^ 64) →
    side.testBit 36 = false → side.testBit 60 = false →
    ∃ u, exec (.sideWordReceive g dir side) s = .next u ∧ ∀ vc, u.credit g (1 - dir) vc =
      (fun c => if side.testBit (56 + vcCode vc) then min 8 (c + 1) else c)
        (if side.testBit 63 then bits side (4 * vcCode vc + 3) (4 * vcCode vc) -
            ((tget (fun _ => []) s.rings.sentAt ((2 * g + (1 - dir)) * 4 + vcCode vc)).filter fun c => decide (s.ringCycle < c + 24)).length
          else s.credit g (1 - dir) vc)) ∧
  (∀ (g tag : Nat) (h : HeldTransfer) (s : State), g < 386 → 1 < h.left →
    s.rings.held.find? (fun x => x.stop == g && x.tag == tag && x.write) = some h →
    ∃ u, exec (.acknowledgementReceive g tag .done) s = .next u ∧
      u.rings.held = s.rings.held.map fun x => if x == h then { x with left := x.left - 1 } else x) ∧
  (∀ (g tag : Nat) (h : HeldTransfer) (s : State), g < 386 → h.left ≤ 1 → h.kind ≠ .fabric → h.kind ≠ .steward →
    s.rings.held.find? (fun x => x.stop == g && x.tag == tag && x.write) = some h →
    ∃ u, exec (.acknowledgementReceive g tag .done) s = .next u ∧ u.rings.held = s.rings.held.erase h) ∧
  (∀ (g tag : Nat) (ws vs : List (Nat × Bool)) (h : HeldTransfer) (s : State), g < 386 → h.kind ≠ .fabric → h.kind ≠ .steward → h.kind ≠ .raster →
    h.asks.length ≤ 1 → h.words ws = vs → vs.length = h.addrs.length → (∀ w ∈ vs, w.2 = false) →
    s.rings.held.find? (fun x => x.stop == g && x.tag == tag && !x.write) = some h →
    ∃ u, exec (.readResponseReceive g tag (.words ws)) s = .next u ∧ u.rings.held = s.rings.held.erase h ∧
      u.reply = ⟨true, 0, vs.flatMap fun w => leBytes 32 w.1 ++ leBytes 1 0⟩) ∧
  (∀ (g tag : Nat) (ws : List (Nat × Bool)) (h : HeldTransfer) (s : State), g < 386 → 1 < h.asks.length →
    s.rings.held.find? (fun x => x.stop == g && x.tag == tag && !x.write) = some h →
    ∃ u, exec (.readResponseReceive g tag (.words ws)) s = .next u ∧ u.rings.held.length = s.rings.held.length ∧
      (u.rings.held.any fun x => x == { h with asks := h.asks.drop 1, got := h.got ++ ((h.asks.headD []).map Prod.fst).zip ws }) = true)

/-- R281, R283, R284, R296, R297, R298, R299, R300. An arbiter with no holder, whose output no guaranteed transfer holds, grants a candidate whose target can take it and before which, by the keys of
R283, none comes; one whose holder has come whole finishes it and decides anew; a transfer that hears nothing for 2 µs is discarded, counted, its
credits owed again; an acknowledged write that gets no answer in its time is counted lost; the first fault of a ring is kept in
FAULT_SEGMENT, and the ring enters DETOUR, losing what is on the segment;
a failed exchange port fences its ring.
Model readings: log entries 78, 82 and 224. -/
def Obligations.RingArbitersAndFaults : Prop :=
  (∀ (a : ArbId) (v : State) (s : State), a.wf = true → v = s.silent.each (arbInputs a) State.settleInput → v.holder a = none →
    v.vc0Holds a = false → ((v.contenders a).filter fun c => v.roomFor a c) ≠ [] →
    ∃ u c, exec (.arbiterDecision a) s = .next u ∧ c ∈ v.contenders a ∧ v.roomFor a c = true ∧
      (∀ y ∈ v.contenders a, v.roomFor a y = true → keysBefore (v.candKeys a y) (v.candKeys a c) = false) ∧
      u.rings.holding = v.rings.holding ++ [⟨a, c.input, c.vc, 0, v.ringCycle⟩] ∧ u.reg R.arb_DECISIONS = (v.reg R.arb_DECISIONS + 1) % 2 ^ R.arb_DECISIONS.bits) ∧
  (∀ (a : ArbId) (v : State) (s : State), a.wf = true → v = s.silent.each (arbInputs a) State.settleInput → v.holder a = none →
    v.vc0Holds a = true → exec (.arbiterDecision a) s = .next (s.ran v)) ∧
  (∀ (a : ArbId) (h : Holder) (v : State) (s : State), a.wf = true → v = s.silent.each (arbInputs a) State.settleInput → v.holder a = some h →
    (∀ k, a = .exchange k → 16 ≤ k) → runWhole (v.headAt h.input h.vc) = true →
    exec (.arbiterDecision a) s = .next (s.ran ((((v.waitCycle (v.lastBeat h)).finishHolder h).settleInput h.input).arbGrant a))) ∧
  (∀ (g dir : Nat) (vc : VC) (s : State), g < 384 → dir < 2 → s.buffer (inputOf g dir) vc ≠ [] →
    (∀ b ∈ s.buffer (inputOf g dir) vc, b.flit.last = false) → (∀ v, v ≠ vc → s.buffer (inputOf g dir) v = []) →
    ∃ u, exec (.partialTransferTimeout g dir vc) s = .next u ∧ u.buffer (inputOf g dir) vc = [] ∧
      u.reg R.stop_PARTIAL_DISCARDS g = (s.reg R.stop_PARTIAL_DISCARDS g + 1) % 2 ^ R.stop_PARTIAL_DISCARDS.bits ∧
      u.owed (inputOf g dir) vc = s.owed (inputOf g dir) vc + (s.buffer (inputOf g dir) vc).length ∧
      (∀ b, (s.buffer (inputOf g dir) vc).getLast? = some b → b.since + 4000 ≤ u.ringCycle)) ∧
  (∀ (g tag t : Nat) (h : HeldTransfer) (s : State), g < 384 → s.rings.held.find? (fun x => x.stop == g && x.tag == tag) = some h →
    h.since = some t → h.vc ≠ .vc3 → h.write = true →
    ∃ u, exec (.transferTimeout g tag) s = .next u ∧
      u.reg R.ring_LOST_TRANSFERS (g / 24) = (s.reg R.ring_LOST_TRANSFERS (g / 24) + 1) % 2 ^ R.ring_LOST_TRANSFERS.bits ∧
      t + (if h.vc = .vc0 then s.reg R.rsys_GUAR_TIMEOUT else s.reg R.rsys_BE_TIMEOUT) * 1000 ≤ u.mono) ∧
  (∀ (t k seg dir : Nat) (s : State), k < 16 → seg < 24 → dir < 2 → s.ringPresent k = true → s.reg R.ring_FAULT_SEGMENT k = 0xFF →
    exec (.segmentFault t k seg dir) s = .next (s.ran ((s.advanceTo t).setReg R.ring_FAULT_SEGMENT k seg).takeArrived)) ∧
  (∀ (t k seg : Nat) (s : State), k < 16 → seg < 24 →
    exec (.segmentFault t k seg 2) s = .next (s.ran ((s.advanceTo t).ringFence k 2).takeArrived)) ∧
  (∀ (t k : Nat) (s : State), k < 16 → s.ringPresent k = true → s.reg R.ring_FAULT_SEGMENT k ≠ 0xFF → s.reg R.ring_STATE k = 0 →
    ∃ u, exec (.detourEnter t k) s = .next u ∧ u.reg R.ring_STATE k = 1 ∧
      u.rings.out = s.rings.out.filter fun p =>
        !([2 * (24 * k + s.reg R.ring_FAULT_SEGMENT k), 2 * (24 * k + (s.reg R.ring_FAULT_SEGMENT k + 1) % 24) + 1].contains p.1))

/-- R307, R309, R312, R313. A scratchpad bank serves its oldest entry: a read answers the word, a write stores it; an ACTIVE scrub read of a
word without error goes on to the next row; a wipe that completes leaves no word of the secure region listed (it reads as zero), counts
WIPES and records its cause and time.
Model readings: log entry 85. -/
def Obligations.ScratchpadServes : Prop :=
  (∀ (k b : Nat) (r : PcReq) (d : Nat) (u : State) (s : State), k < 16 → b < 32 →
    (s.bankEntries k b).find? (fun r => !(s.scratch.wiping && padSecure r)) = some r → r.write = false →
    (s.silent.leavePad k r ((s.bankEntries k b).length - 1)).scratchRead (padWord r) = (u, some d) →
    exec (.sliceBankAccess k b) s = .next (s.ran ((u.respond (sliceStop k) r.master r.tag r.addr (some d)).answerWith (leBytes 32 d)))) ∧
  (∀ (k b : Nat) (r : PcReq) (s : State), k < 16 → b < 32 →
    (s.bankEntries k b).find? (fun r => !(s.scratch.wiping && padSecure r)) = some r → r.write = true →
    exec (.sliceBankAccess k b) s = .next (s.ran
      ((s.silent.leavePad k r ((s.bankEntries k b).length - 1)).scratchWrite (padWord r) r.data r.mask r.poison))) ∧
  (∀ (b : Nat) (d : Nat) (s : State), b < 512 → s.phase = .run → s.on R.pow_STATE = false → s.scratch.wiping = false →
    tget (fun _ => none) s.scratch.writeBack b = none → tget (fun _ => 0) s.scratch.scrubRow b < 4095 →
    decodeWord (s.scratchWord (scratchOffset b (tget (fun _ => 0) s.scratch.scrubRow b) / 32)) none = .clean d →
    ∃ u, exec (.scratchpadScrubAccess b) s = .next u ∧
      u.scratch.scrubRow = tput (fun _ => 0) b (tget (fun _ => 0) s.scratch.scrubRow b + 1) s.scratch.scrubRow ∧
      u.scratch.words = s.scratch.words ∧ tget (fun _ => none) u.scratch.writeBack b = none ∧ tget (fun _ => 0) s.scratch.scrubDue b ≤ u.mono ∧
      tget (fun _ => 0) u.scratch.scrubDue b = u.mono + 1024) ∧
  (∀ (t : Nat) (s : State), (s.advanceTo t).scratch.wiping = true →
    ∃ u : State, exec (.wipeComplete t) s = .next u ∧ u.scratch.wiping = false ∧
      u.scratch.words = (s.advanceTo t).scratch.words.filter (fun p => decide (p.1 < secureOfs / 32)) ∧
      u.reg R.sp_WIPES 0 = (s.reg R.sp_WIPES 0 + 1) % 2 ^ 32 ∧
      u.reg R.sp_LAST_WIPE_CAUSE 0 = (s.advanceTo t).scratch.wipeCause % 256 ∧
      u.reg R.sp_LAST_WIPE_TIME 0 = u.stamp % 2 ^ R.sp_LAST_WIPE_TIME.bits)

/-! ## Fabric and its configuration (chapters 10 and 11) -/

/-- R321, R322, R323, R324, R328. A block memory in the coded mode answers a read of a clean word with its data and no flag, of a corrected word with the
corrected data and CORR, counted, of poison or of an uncorrectable word with zero data and UNCORR, the last counted, and with a failed
checker always zero data and UNCORR. A coded write stores the code word of the data, or canonical poison under WPOISON, and no other place changes; a
read in the same clock cycle gives what was there before. In the raw mode a read answers the stored bits of the word of the port's shape and a
write stores the bits of the data; where both ports write in one cycle, the bits that port A writes stay. A PLL that loses its lock counts it
with event 0x7001 and holds its outputs low; one that locks on an input from 10 MHz to 800 MHz keeps the input frequency, with event
0x7002, and on no other input does it lock.
Model readings: log entries 87, 88 and 89. -/
def Obligations.BlockMemoriesAndPlls : Prop :=
  (∀ (m addr d : Nat) (p : BramPort) (s : State), m < 10240 → s.bramRuns m = true → s.reg R.bm_MODE m = 1 →
    s.on R.bm_SELFTEST_FAIL m = false → decodeWord (BitVec.ofNat 288 ((s.bramOpen m p).bramBefore m (addr % 128))) none = .clean d →
    exec (.bramRead m addr p) s = .next (s.ran ((s.bramOpen m p).answerWith (bramReply d 0)))) ∧
  (∀ (m addr d j x : Nat) (p : BramPort) (s : State), m < 10240 → s.bramRuns m = true → s.reg R.bm_MODE m = 1 →
    s.on R.bm_SELFTEST_FAIL m = false → decodeWord (BitVec.ofNat 288 ((s.bramOpen m p).bramBefore m (addr % 128))) none = .corrected d j x →
    ∃ u, exec (.bramRead m addr p) s = .next u ∧ u.reply = ⟨true, 0, bramReply d 1⟩ ∧
      u.reg R.bm_CORRECTED m = (s.reg R.bm_CORRECTED m + 1) % 2 ^ R.bm_CORRECTED.bits) ∧
  (∀ (m addr : Nat) (p : BramPort) (s : State), m < 10240 → s.bramRuns m = true → s.reg R.bm_MODE m = 1 →
    s.on R.bm_SELFTEST_FAIL m = false → decodeWord (BitVec.ofNat 288 ((s.bramOpen m p).bramBefore m (addr % 128))) none = .poison →
    exec (.bramRead m addr p) s = .next (s.ran ((s.bramOpen m p).answerWith (bramReply 0 2)))) ∧
  (∀ (m addr : Nat) (p : BramPort) (s : State), m < 10240 → s.bramRuns m = true → s.reg R.bm_MODE m = 1 →
    s.on R.bm_SELFTEST_FAIL m = false → decodeWord (BitVec.ofNat 288 ((s.bramOpen m p).bramBefore m (addr % 128))) none = .uncorrectable →
    ∃ u, exec (.bramRead m addr p) s = .next u ∧ u.reply = ⟨true, 0, bramReply 0 2⟩ ∧
      u.reg R.bm_UNCORRECTABLE m = (s.reg R.bm_UNCORRECTABLE m + 1) % 2 ^ R.bm_UNCORRECTABLE.bits) ∧
  (∀ (m addr : Nat) (p : BramPort) (s : State), m < 10240 → s.bramRuns m = true → s.reg R.bm_MODE m = 1 → s.on R.bm_SELFTEST_FAIL m = true →
    exec (.bramRead m addr p) s = .next (s.ran ((s.bramOpen m p).answerWith (bramReply 0 2)))) ∧
  (∀ (m addr data : Nat) (p : BramPort) (wp : Bool) (s : State), m < 10240 → s.bramRuns m = true → s.reg R.bm_MODE m = 1 →
    ∃ u, exec (.bramWrite m addr data p wp) s = .next u ∧
      u.bramAt m (addr % 128) = (if wp then poisonWord else encodeWord data).toNat ∧
      (∀ n k, k < 65536 → ¬ (n = m ∧ k = addr % 128) → u.bramAt n k = s.bramAt n k) ∧ u.regs = s.regs) ∧
  (∀ (m addr d data : Nat) (p q : BramPort) (wp : Bool) (s : State), m < 10240 → s.bramRuns m = true → s.reg R.bm_MODE m = 1 →
    s.on R.bm_SELFTEST_FAIL m = false → q.same = true →
    decodeWord (BitVec.ofNat 288 ((s.bramOpen m p).bramBefore m (addr % 128))) none = .clean d →
    ∃ u, exec (.bramWrite m addr data p wp) s = .next u ∧ exec (.bramRead m addr q) u = .next (u.ran (u.answerWith (bramReply d 0)))) ∧
  (∀ (m addr : Nat) (p : BramPort) (s : State), m < 10240 → s.bramRuns m = true → s.reg R.bm_MODE m = 2 → p.same = false →
    ∃ u, exec (.bramRead m addr p) s = .next u ∧
      u.reply = ⟨true, 0, leBytes 9 (((rawPlaces (s.rawShape m p.b) addr).zipIdx.map fun k => s.bramAt m k.1 * 2 ^ k.2).sum)⟩ ∧
      u.fabric.bram = s.fabric.bram) ∧
  (∀ (m addr data : Nat) (p : BramPort) (wp : Bool) (s : State), m < 10240 → s.bramRuns m = true → s.reg R.bm_MODE m = 2 → p.same = false →
    ∃ u, exec (.bramWrite m addr data p wp) s = .next u ∧
      (∀ k ∈ (rawPlaces (s.rawShape m p.b) addr).zipIdx, u.bramAt m k.1 = b2n (data.testBit k.2)) ∧
      (∀ n k, k < 65536 → ¬ (n = m ∧ k ∈ rawPlaces (s.rawShape m p.b) addr) → u.bramAt n k = s.bramAt n k) ∧ u.regs = s.regs) ∧
  (∀ (m addr a b : Nat) (same wp wq : Bool) (s : State), m < 10240 → s.bramRuns m = true → s.reg R.bm_MODE m = 2 →
    ∃ u, exec (.bramWrite m addr a ⟨false, same⟩ wp) s = .next u ∧
      (∃ v, exec (.bramWrite m addr b ⟨true, true⟩ wq) u = .next v ∧ ∀ k ∈ rawPlaces (s.rawShape m false) addr, v.bramAt m k = u.bramAt m k)) ∧
  (∀ (p : Nat) (s : State), p < 48 → s.on R.pll_LOCKED p = true →
    ∃ u, exec (.pllLockLoss p) s = .next u ∧ u = s.ran (((s.setReg R.pll_LOCKED p 0).inc R.pll_LOCK_LOSSES p).raise 0x7001 p) ∧
      (∀ o, u.sourceKhz (.pll p o) = 0)) ∧
  (∀ (p khz : Nat) (s : State), p < 48 → s.on R.pll_LOCKED p = false → 10000 ≤ khz → khz ≤ 800000 →
    exec (.pllLock p khz) s = .next (s.ran (((s.setReg R.pll_LOCKED p 1).setReg R.pll_IN_KHZ p khz).raise 0x7002 p))) ∧
  (∀ (p khz : Nat) (s : State), p < 48 → s.on R.pll_LOCKED p = false → (khz < 10000 ∨ 800000 < khz) →
    exec (.pllLock p khz) s = .next (s.ran s))

/-- R331, R333, R334, R335, R336, R344. The port handshakes: PORT_UP changes PRESENT; the descriptor is taken once; the words of the parameter block are
taken in order, the header fixing their number and a poisoned word flagging the operation; a completion with the TAG of the operation is
accepted, and drops what is left of the block, with status 3 it is accepted as a fault and counted as a violation, and under an abort as
ABORTED; one with another TAG, or with no operation, is counted with event 0x7004; an accepted completion is forwarded once nothing of its
TAG is outstanding; a port that was told to abort 2 µs ago is ABORTED with event 0x7005.
Model readings: log entries 256, 257 and 258. -/
def Obligations.PortOperationsHandshake : Prop :=
  (∀ (t q : Nat) (p : Bool) (v : State) (s : State), q < 512 → v = (s.advanceTo t).onPort q (fun x => { x with up := p }) →
    exec (.portUpChange t q p) s = .next (s.ran (v.refreshPort q 1).takeArrived) ∧ (v.refreshPort q 1).portUp q = v.portOffered q) ∧
  (∀ (q : Nat) (r : RunOp) (s : State), q < 512 → s.portUp q = true → s.portOp q = some r → (s.port q).taken = false →
    exec (.descriptorHandshake q) s = .next (s.ran
      ((s.onPort q fun p => { p with taken := true, param := 0, paramLen := none }).answerWith (s.descriptor r)))) ∧
  (∀ (q n d : Nat) (r : RunOp) (u : State) (s : State), q < 512 → s.portUp q = true → s.portOp q = some r → (s.port q).presents = true →
    n = (if (s.port q).param = 0 then max 1 (bits d 47 32) else (s.port q).paramLen.getD 1) → s.paramWord q r (s.port q).param = (u, some d) →
    exec (.parameterHandshake q) s = .next (s.ran
      ((u.onPort q fun p => { p with param := (s.port q).param + 1, paramLen := some n }).answerWith
        (pmReply d ((s.port q).param + 1 == n) false)))) ∧
  (∀ (q n : Nat) (r : RunOp) (u : State) (s : State), q < 512 → s.portUp q = true → s.portOp q = some r → (s.port q).presents = true →
    n = (if (s.port q).param = 0 then 1 else (s.port q).paramLen.getD 1) → s.paramWord q r (s.port q).param = (u, none) →
    exec (.parameterHandshake q) s = .next (s.ran
      (((u.onPort q fun p => { p with param := (s.port q).param + 1, paramLen := some n, flagged := true }).inc R.port_POISON_WORDS q).answerWith
        (pmReply 0 ((s.port q).param + 1 == n) true)))) ∧
  (∀ (t q status code : Nat) (r : RunOp) (s : State), q < 512 → (s.advanceTo t).portUp q = true → (s.advanceTo t).runOp (96 + q) = some r →
    ((s.advanceTo t).port q).done = none → r.aborting = false → status ≠ 3 →
    exec (.doneHandshake t q ((s.advanceTo t).fullTag r) status code) s = .next (s.ran
      (((s.advanceTo t).dropBlock q r).onPort q fun p => { p with done := some (status, code) }))) ∧
  (∀ (t q code : Nat) (r : RunOp) (s : State), q < 512 → (s.advanceTo t).portUp q = true → (s.advanceTo t).runOp (96 + q) = some r →
    ((s.advanceTo t).port q).done = none → r.aborting = false →
    exec (.doneHandshake t q ((s.advanceTo t).fullTag r) 3 code) s = .next (s.ran
      ((((s.advanceTo t).dropBlock q r).violation q 3).onPort q fun p => { p with done := some (2, code) }))) ∧
  (∀ (t q status code : Nat) (r : RunOp) (s : State), q < 512 → (s.advanceTo t).portUp q = true → (s.advanceTo t).runOp (96 + q) = some r →
    ((s.advanceTo t).port q).done = none → r.aborting = true →
    exec (.doneHandshake t q ((s.advanceTo t).fullTag r) status code) s = .next (s.ran
      (((s.advanceTo t).dropBlock q r).onPort q fun p => { p with done := some (3, code) }))) ∧
  (∀ (t q tag status code : Nat) (s : State), q < 512 → (s.advanceTo t).portUp q = true →
    (∀ r, (s.advanceTo t).runOp (96 + q) = some r → tag ≠ (s.advanceTo t).fullTag r) →
    exec (.doneHandshake t q tag status code) s = .next (s.ran (((s.advanceTo t).inc R.port_BAD_COMPLETIONS q).raise 0x7004 q))) ∧
  (∀ (t q status code : Nat) (r : RunOp) (p : PortRun) (s : State), q < 512 → (s.advanceTo t).portUp q = true →
    (s.advanceTo t).runOp (96 + q) = some r → p = (s.advanceTo t).port q → p.done = some (status, code) → p.outstanding r.tag = false →
    ∃ u, exec (.completionForward t q) s = .next u ∧ u.runOp (96 + q) = none ∧ (u.port q).done = none ∧ (u.port q).taken = false ∧
      u.fabric.forwarded = s.fabric.forwarded ++
        [(96 + q, (s.advanceTo t).fullTag r, if status = 0 ∧ (p.flagged ∨ r.flagged ∨ p.showsPoison r.tag) then 1 else status)] ∧
      u.reply = ⟨true, 0, leBytes 1 (if status = 0 ∧ (p.flagged ∨ r.flagged ∨ p.showsPoison r.tag) then 1 else status) ++ leBytes 1 code⟩ ∧
      (u.port q).responses = if r.aborting then p.responses.filter (fun x => x.tag != r.tag) else p.responses) ∧
  (∀ (t q : Nat) (r : RunOp) (s : State), q < 512 → (s.advanceTo t).portOp q = some r → r.aborting = true →
    r.abortedAt + 2000 ≤ (s.advanceTo t).mono → (s.advanceTo t).portUp q = true →
    exec (.forcedAbort t q) s = .next (s.ran
      (((((s.advanceTo t).dropBlock q r).onPort q fun p => { p with done := some (3, 0) }).inc R.port_FORCED_ABORTS q).raise 0x7005 q)))

/-- R337, R339, R340, R342. A read request that fits the outstanding limit and the response buffer is accepted, with the TAG and class of the operation then
active; the oldest response flit is handed over, its bytes and poisoned words are counted, and poison flags its operation; a write flit that
does not end its transfer opens or extends it, and one with WR_LAST ends it: the whole transfer is accepted and its bytes are counted. -/
def Obligations.PortTransfersHandshake : Prop :=
  (∀ (q addr count ident : Nat) (mirror : Bool) (r : PortRead) (s : State), q < 512 → s.portUp q = true → s.portAborting q = false →
    (s.port q).reads.length < 64 → (s.port q).bufferUsed + ceilDiv (count % 16 + 1) 2 ≤ 128 →
    r = { tag := s.portTag q, ident := ident % 64, addr := addr % 2 ^ 35 * 32, count := count % 16 + 1, mirror := mirror,
          guaranteed := s.portGuaranteed q } →
    exec (.readRequestHandshake q addr count mirror ident) s = .next (s.ran
      ((s.onPort q fun p => { p with reads := p.reads ++ [r] }).portCounts q))) ∧
  (∀ (q : Nat) (own : Bool) (r : RsFlit) (rest : List RsFlit) (s : State), q < 512 → s.portUp q = true → (s.port q).responses = r :: rest →
    own = (r.tag != 0 && r.tag == (s.runOp (96 + q)).elim 0 RunOp.tag) →
    exec (.readResponseHandshake q) s = .next (s.ran
      ((((s.onPort q fun p => { p with responses := rest, flagged := p.flagged || (own && r.poison != 0) }).add R.port_POISON_WORDS q (popCount 2 r.poison)).add
          R.port_BYTES_READ q (32 * (if r.err = 1 then 0 else if r.two then 2 else 1))).answerWith (rsReply r)))) ∧
  (∀ (q : Nat) (f : WrFlit) (x : PortWrite) (s : State), q < 512 → s.portUp q = true → (s.port q).cur = none → s.portAborting q = false →
    (f.posted = true ∨ ((s.port q).writes.filter fun w => !w.posted).length < 64) → (f.poison.testBit 1 && !f.two) = false → f.last = false →
    x = { tag := s.portTag q, ident := f.ident % 64, addr := f.addr % 2 ^ 35 * 32, mask := f.mask % 2 ^ 32, posted := f.posted,
          guaranteed := s.portGuaranteed q, words := wrWords f, flits := 1,
          bad := if f.mask % 2 ^ 32 ≠ fullMask ∧ f.two = true then 1 else 0 } →
    exec (.writeFlitHandshake q f) s = .next (s.ran (s.onPort q fun p => { p with cur := some x }))) ∧
  (∀ (q : Nat) (f : WrFlit) (w : PortWrite) (s : State), q < 512 → s.portUp q = true → (s.port q).cur = some w →
    (f.poison.testBit 1 && !f.two) = false → f.last = false → w.flits < 7 → w.mask = fullMask → f.mask % 2 ^ 32 = fullMask →
    exec (.writeFlitHandshake q f) s = .next (s.ran (s.onPort q fun p =>
      { p with cur := some { w with words := w.words ++ wrWords f, flits := w.flits + 1 } }))) ∧
  (∀ (q : Nat) (f : WrFlit) (w : PortWrite) (s : State), q < 512 → s.portUp q = true → (s.port q).cur = some w →
    (f.poison.testBit 1 && !f.two) = false → f.last = true → w.bad = 0 → w.mask = fullMask → f.mask % 2 ^ 32 = fullMask →
    ∃ u, exec (.writeFlitHandshake q f) s = .next u ∧ (u.port q).cur = none ∧
      (u.port q).writes = (s.port q).writes ++ [{ w with words := w.words ++ wrWords f, flits := w.flits + 1 }] ∧
      u.reg R.port_BYTES_WRITTEN q =
        (s.reg R.port_BYTES_WRITTEN q + 32 * (w.words ++ wrWords f).length) % 2 ^ R.port_BYTES_WRITTEN.bits)

/-- R358, R359, R356, R360, R366. The commands of configuration: LOAD of the full image and of a swap region begin a load; a piece of a streamed
image at the offset already streamed extends it; ARM_EXCHANGE schedules the exchange and answers its frame, DISARM takes it back; CLEAR
empties the shadow; RETIRE records the region as absent. -/
def Obligations.ConfigurationCommandsTakeEffect : Prop :=
  (∀ (w : Who) (s : State), s.mayWrite w R.cfg_COMMAND 0 = true → s.config.job = none → s.opInUse (fun o => decide (96 ≤ o)) = false →
    s.exchangeArmed (fun _ => true) = false → ((List.range 4).any fun d => !s.quadrantOn d) = false →
    ∃ u, exec (.fullLoad w) s = .next u ∧ u.reg R.cfg_FABRIC_STATE = 1 ∧ u.reg R.cfg_LOAD_TARGET = 0xFF ∧ u.reply = ⟨true, 0, []⟩ ∧
      u = s.ran (((s.beginLoad 16 (s.reg R.cfg_LOCATION)).resetFabric 1).ok)) ∧
  (∀ (w : Who) (offset src : Nat) (data : List Byte) (j : LoadJob) (s : State), s.mayWrite w R.cfg_IMAGE_DATA 0 = true →
    s.config.job = some j → streamSource w.cls = some src → j.streamed = true → j.bad = none → (j.source = none ∨ j.source = some src) → offset = j.data.length →
    ∃ u : State, exec (.imageData w offset data) s = .next u ∧
      (∃ k : LoadJob, u.config.job = some k ∧ k.data = j.data ++ data ∧ k.source = some src ∧ k.last = s.mono) ∧
      u.reg R.cfg_BYTES_LOADED 0 = (j.data.length + data.length) % 2 ^ 32 ∧ u.reply.answered = true ∧ u.reply.status = 0) ∧
  (∀ (w : Who) (n : Nat) (s : State), s.mayWrite w R.swap_COMMAND n = true → s.config.job = none → s.on R.swap_ARMED n = false →
    s.reg R.cfg_FABRIC_STATE = 2 → s.swapPresent n = true →
    ∃ u, exec (.partialLoad w n) s = .next u ∧ u.config.job = some { target := n, streamed := s.reg R.swap_LOCATION n == 0, start := s.mono, last := s.mono } ∧
      u.reg R.swap_SHADOW n = 1 ∧ u.reply = ⟨true, 0, []⟩ ∧ u = s.ran (((s.beginLoad n (s.reg R.swap_LOCATION n)).shadowState n 1).ok)) ∧
  (∀ (w : Who) (n : Nat) (s : State), s.mayWrite w R.swap_COMMAND n = true → 2 ≤ s.reg R.swap_SHADOW n → s.swapPresent n = true →
    s.on R.swap_ARMED n = false → s.reg R.swap_CADENCE n < 16 → s.on R.cad_ENABLE (s.reg R.swap_CADENCE n) = true →
    exec (.armExchange w n) s = .next (s.ran
      ((((s.armMember (s.reg R.swap_CADENCE n) (s.armFrame (s.reg R.swap_CADENCE n) (s.reg R.swap_TARGET_FRAME n)) (.exchange n)).setReg
        R.swap_ARMED n 1).setReg R.swap_TARGET_FRAME n (s.armFrame (s.reg R.swap_CADENCE n) (s.reg R.swap_TARGET_FRAME n))).answerWith
          (leBytes 8 (s.armFrame (s.reg R.swap_CADENCE n) (s.reg R.swap_TARGET_FRAME n)))))) ∧
  (∀ (w : Who) (n : Nat) (s : State), s.mayWrite w R.swap_COMMAND n = true → s.on R.swap_ARMED n = true →
    exec (.exchangeDisarm w n) s = .next (s.ran ((((s.dropMembers fun m => m == .exchange n).dropLate n).setReg R.swap_ARMED n 0).ok))) ∧
  (∀ (w : Who) (n : Nat) (s : State), s.mayWrite w R.swap_COMMAND n = true → s.on R.swap_ARMED n = false → s.reg R.swap_SHADOW n ≠ 1 →
    exec (.shadowClear w n) s = .next (s.ran (((s.dropLate n).shadowState n 0).ok))) ∧
  (∀ (w : Who) (n : Nat) (s : State), s.mayWrite w R.swap_COMMAND n = true →
    exec (.swapRegionRetire w n) s = .next (s.ran
      ((((({ s with config := { s.config with retired := insertNat n s.config.retired } } : State).absent R.pres_SWAP n).setReg
        R.swap_PRESENT n 0).shadowState n 0).ok)))

/-- R356, R357, R362, R367, R368, R369, R370, R372. A streamed load without data for STREAM_TIMEOUT fails with its first failure's code or 9; a load ends when its
bytes are there, a read of the flash that fails or a failure found before giving its code; an exchange is released 1,000 ns after its mark, with
LIVE_ID changed over, EXCHANGES and LAST_EXCHANGE kept, the shadow PREVIOUS, event 0x7013, and its ports offered again; the scrubber reads its next frame, and at the
end of a pass goes on with the first; a repair writes the frame that the flash returned, counts it and raises event 0x7103, and a segment without
the frame leaves it unrepaired; a readback reads a frame as the scrubber would.
Model readings: log entries 93, 96, 97 and 98. -/
def Obligations.ConfigurationEventsTakeEffect : Prop :=
  (∀ (t : Nat) (j : LoadJob) (s : State), (s.advanceTo t).config.job = some j → j.streamed = true →
    j.last + (s.advanceTo t).reg R.cfg_STREAM_TIMEOUT * 1000000 ≤ (s.advanceTo t).mono →
    ∃ u, exec (.streamTimeout t) s = .next u ∧ u.config.job = none ∧ u.reg R.cfg_LOAD_RESULT = j.bad.getD 9 % 2 ^ R.cfg_LOAD_RESULT.bits ∧
      (j.target = 16 → u.reg R.cfg_FABRIC_STATE = (if j.bad = some 0 then (s.advanceTo t).reg R.cfg_FABRIC_STATE else 3)) ∧
      u = s.ran ((s.advanceTo t).endLoad j (j.bad.getD 9))) ∧
  (∀ (t : Nat) (data : List Byte) (j : LoadJob) (s : State), (s.advanceTo t).config.job = some j → j.streamed = false →
    ∃ u, exec (.loadFinish t data true) s = .next u ∧ u.config.job = none ∧ u = s.ran ((s.advanceTo t).completeLoad { j with data := data } 0) ∧
      (∀ c, (s.advanceTo t).parseImage j.target data = .bad c → u.reg R.cfg_LOAD_RESULT = c % 2 ^ R.cfg_LOAD_RESULT.bits)) ∧
  (∀ (t : Nat) (data : List Byte) (j : LoadJob) (s : State), (s.advanceTo t).config.job = some j → j.streamed = false →
    ∃ u, exec (.loadFinish t data false) s = .next u ∧ u.config.job = none ∧ u.reg R.cfg_LOAD_RESULT = 9) ∧
  (∀ (t : Nat) (data : List Byte) (c : Nat) (j : LoadJob) (s : State), (s.advanceTo t).config.job = some j → j.streamed = true → j.bad = some c →
    ∃ u, exec (.loadFinish t data true) s = .next u ∧ u.config.job = none ∧ u.reg R.cfg_LOAD_RESULT = c % 2 ^ R.cfg_LOAD_RESULT.bits) ∧
  (∀ (t n start f id : Nat) (v : State) (s : State), n < 16 →
    (s.advanceTo t).config.exchanging.find? (fun p => p.1 == n) = some (n, start, f, id) → start + 1000 ≤ (s.advanceTo t).mono →
    v = { s.advanceTo t with config := { (s.advanceTo t).config with
      exchanging := (s.advanceTo t).config.exchanging.filter fun x => x.1 != n } } →
    ∃ u : State, exec (.exchangeComplete t n) s = .next u ∧ u.config.exchanging = v.config.exchanging ∧
      u.reg R.swap_LIVE_ID n = id % 2 ^ 32 ∧ (2 ≤ s.reg R.swap_SHADOW n → u.reg R.swap_SHADOW n = 3 ∧ u.reg R.swap_SHADOW_ID n = s.reg R.swap_LIVE_ID n % 2 ^ 32) ∧
      u.reg R.swap_EXCHANGES n = (s.reg R.swap_EXCHANGES n + 1) % 2 ^ 32 ∧ u.reg R.swap_LAST_EXCHANGE n = f % 2 ^ 64 ∧
      u = s.ran (((((((v.setReg R.swap_LIVE_ID n id).setReg R.swap_LIVE_SOURCE n (v.liveImage n).source).inc R.swap_EXCHANGES n).setReg
        R.swap_LAST_EXCHANGE n f).shadowPrevious n (s.reg R.swap_LIVE_ID n)).raise 0x7013 n).refreshPorts
          ((List.range 4).map fun i => 32 * n + i) 1)) ∧
  (∀ (t f : Nat) (v : State) (s : State), (s.advanceTo t).scrubberRuns = true → v = (s.advanceTo t).nextConfigScrub.flushWriteBack →
    v.nextFrame 300 v.config.scrubPos = some f →
    ∃ u, exec (.configScrubRead t) s = .next u ∧ u.config.scrubPos = f + 1 ∧ s.config.scrubDue + 64 ≤ u.config.scrubDue ∧
      u = s.ran (({ v with config := { v.config with scrubPos := f + 1 } } : State).readFrame f).1) ∧
  (∀ (t f : Nat) (v : State) (s : State), (s.advanceTo t).scrubberRuns = true → v = (s.advanceTo t).nextConfigScrub.flushWriteBack →
    v.nextFrame 300 v.config.scrubPos = none → v.endPass.nextFrame 300 0 = some f →
    ∃ u, exec (.configScrubRead t) s = .next u ∧ u.config.scrubPos = f + 1 ∧
      u = s.ran (({ v.endPass with config := { v.endPass.config with scrubPos := f + 1 } } : State).readFrame f).1) ∧
  (∀ (t f : Nat) (rest : List Nat) (segment : List Byte) (fs : List (Nat × List Nat)) (l : List Byte) (p : Nat × List Nat) (v : State) (s : State),
    (s.advanceTo t).config.repairs = f :: rest →
    parseSegment ((s.advanceTo t).frameImage f).encrypted (s.advanceTo t).imageKeyBytes ((s.advanceTo t).frameImage f).nonce (f / 64)
      segment = .good fs l → fs.find? (fun p => p.1 == f) = some p →
    v = { s.advanceTo t with config := { (s.advanceTo t).config with repairs := rest } } →
    ∃ u, exec (.repairComplete t segment) s = .next u ∧ u.reg R.scr_REPAIRED = (s.reg R.scr_REPAIRED + 1) % 2 ^ R.scr_REPAIRED.bits ∧
      u = s.ran ((((v.putFrame f p.2).inc R.scr_REPAIRED).scrubLog f 0 2).refreshSuspects.raise 0x7103 f)) ∧
  (∀ (t f : Nat) (rest : List Nat) (segment : List Byte) (s : State), (s.advanceTo t).config.repairs = f :: rest →
    (∀ fs l, parseSegment ((s.advanceTo t).frameImage f).encrypted (s.advanceTo t).imageKeyBytes ((s.advanceTo t).frameImage f).nonce (f / 64)
      segment = .good fs l → fs.find? (fun p => p.1 == f) = none) →
    ∃ u, exec (.repairComplete t segment) s = .next u ∧ u.config.repairs = rest ∧ f ∈ u.config.suspects ∧
      u.config.cells = s.config.cells ∧ u.reg R.scr_REPAIRED = s.reg R.scr_REPAIRED) ∧
  (∀ (w : Who) (f : Nat) (v : State) (s : State), s.mayWrite w R.rb_FRAME 0 = true → s.reg R.cfg_FABRIC_STATE ≠ 1 →
    f < liveFrames → s.frameValid f = true → v = (s.setReg R.rb_FRAME 0 f).flushWriteBack →
    ∃ u : State, exec (.readback w f) s = .next u ∧ u.reg R.rb_FRAME = f ∧ u.reg R.rb_OUTCOME = (v.readFrame f).2 ∧
      u.config.cells = (v.readFrame f).1.config.cells ∧ u.reply.answered = true ∧ u.reply.status = 0)

/-! ## Lanes and links (chapters 12 and 13) -/

/-- R375, R376, R388, R391, R567. A lane whose signal, which a detection finds above the level of presence and a loss below that of absence, has been present for 4 µs goes on to auto-negotiation, training or clock lock; a transmit PLL that cannot
lock takes the lane away, with event 0x2006; RETIRE records the lane as absent; a loss from AUTO_NEG onward returns the lane with its group, with the
cause of the loss; a lost reference pair clears PRESENT, counts the loss, raises event 0x2009 and returns the lanes clocked from it with
cause 2; a pair that is back within its range is PRESENT again.
Model readings: log entries 109, 232 and 291. -/
def Obligations.LanesComeAndGo : Prop :=
  (∀ (t j : Nat) (v : State) (s : State), j < 16 → (s.advanceTo t).on R.rp_PRESENT j = true →
    v = (((((s.advanceTo t).setReg R.rp_PRESENT j 0).inc R.rp_LOSSES j).setReg R.rp_FREQ_KHZ j ((s.advanceTo t).freeBits 32)).took).raise 0x2009 j →
    ∃ u : State, exec (.referenceLoss t j) s = .next u ∧
      u = s.ran (v.each ((List.range 16).map fun i => 16 * j + i) fun x l =>
        if x.reg R.lane_TX_REF l = 0 ∧ x.reg R.lane_MODE l ≠ 0 ∧ 3 ≤ x.laneState l ∧ x.laneState l ≤ 11 then x.laneReturn l 2 else x) ∧
      ((∀ i < 16, s.laneState (16 * j + i) < 3) → u.reg R.rp_PRESENT j = 0 ∧ u.reg R.rp_LOSSES j = (s.reg R.rp_LOSSES j + 1) % 2 ^ 32)) ∧
  (∀ (l : Nat) (s : State), l < 256 → (s.reg R.lane_TX_REF l = 1 ∨ s.on R.rp_PRESENT (l / 16) = true) → s.lanePresent l = true →
    ∃ u, exec (.txPllLockFail l) s = .next u ∧ u = s.ran ((s.laneGone l 1).raise 0x2006 l) ∧
      (s.linkOf l = none → s.portOf l = none → u.laneState l = 12 ∧ u.reg R.lane_PRESENT l = 0)) ∧
  (∀ (w : Who) (l : Nat) (s : State), s.mayWrite w R.lane_RETIRE l = true →
    ∃ u, exec (.laneRetire w l) s = .next u ∧ l ∈ u.lanes.retired ∧ u.reply = ⟨true, 0, []⟩ ∧
      u = s.ran ((({ s with lanes := { s.lanes with retired := insertNat l s.lanes.retired } } : State).laneGone l 4).ok)) ∧
  (∀ (t l n : Nat) (v : State) (s : State), l < 256 → v = (s.advanceTo t).took.hearSignal l (86 + (s.advanceTo t).freeBits 11) →
    ((s.laneState l = 1 ∧ (s.laneRun l).since + 4000 ≤ (s.advanceTo t).mono) ∨ s.laneState l = 2) →
    n = (if s.laneAn l = true then 3 else s.afterAn l) →
    ∃ u, exec (.signalDetected t l) s = .next u ∧ u = s.ran ((v.laneTo l n).laneFollow l) ∧
      (s.linkOf l = none → s.portOf l = none → u.laneState l = n ∧ (u.laneRun l).since = u.mono)) ∧
  (∀ (t l : Nat) (c : LossCause) (s : State), l < 256 → 3 ≤ s.laneState l → s.laneState l ≤ 11 →
    ∃ u, exec (.laneLoss t l c) s = .next u ∧
      u = s.ran (match c with
        | .signal => (((s.advanceTo t).took.hearSignal l ((s.advanceTo t).freeBits 11 % 50)).inc R.lane_LOS_COUNT l).laneReturn l 0
        | .lock => (s.advanceTo t).laneReturn l 1
        | .reference => (s.advanceTo t).laneReturn l 2) ∧
      (s.linkOf l = none → s.portOf l = none → u.laneState l = 1 ∧ u.reg R.lane_GROUP_POS l = 0xFF ∧
        u.reg R.lane_LOS_COUNT l = (s.reg R.lane_LOS_COUNT l + b2n (c == .signal)) % 2 ^ R.lane_LOS_COUNT.bits)) ∧
  (∀ (j khz : Nat) (s : State), j < 16 → s.on R.rp_PRESENT j = false → 100000 ≤ khz → khz ≤ 400000 →
    exec (.referencePairReturn j khz) s = .next (s.ran ((s.setReg R.rp_PRESENT j 1).setReg R.rp_FREQ_KHZ j khz)))

/-- R380, R382, R383, R384, R388, R389, R390, Table 13.4, Table 13.5. The steps of a lane's bring-up: a state that times out returns the lane, counts the
attempt and raises event 0x2003; a page ends the negotiation of its group; training, clock lock, block lock of the group and word lock go
on to the next state or UP; the receive polarity is inverted, and the next SDI rate tried, after 1 ms without lock.
Model readings: log entries 190 and 233. -/
def Obligations.LanesComeUp : Prop :=
  (∀ (t l : Nat) (s : State), l < 256 → 1 ≤ s.laneState l → s.laneState l < 11 →
    (s.advanceTo t).stateBegan l + (s.advanceTo t).laneTimeout l ≤ (s.advanceTo t).mono →
    ∃ u, exec (.bringupTimeout t l) s = .next u ∧
      u = s.ran (((if s.laneState l ≤ 2 then (s.advanceTo t).laneTo l 2 else (s.advanceTo t).laneReturn l 3).laneAttempt l).raise 0x2003
        (l + s.laneState l * 256)) ∧
      (s.linkOf l = none → s.portOf l = none → u.laneState l = (if s.laneState l ≤ 2 then 2 else 1) ∧
        u.reg R.lane_ATTEMPTS l = (s.reg R.lane_ATTEMPTS l + 1) % 2 ^ R.lane_ATTEMPTS.bits)) ∧
  (∀ (t l : Nat) (s : State), l < 256 → s.laneState l = 3 → ((s.laneGroup l).head? = some l ∨ (s.laneGroup l).getLast? = some l) →
    ∃ u, exec (.anPageReceive t l true) s = .next u ∧ u.laneState l = s.afterAn l ∧ (u.laneRun l).page = true ∧
      (∀ x ∈ s.laneGroup l, s.laneState x = 3 → u.laneState x = s.afterAn x)) ∧
  (∀ (t l : Nat) (s : State), l < 256 → s.laneState l = 6 → (s.laneRun l).tried + 1000000 ≤ (s.advanceTo t).mono →
    exec (.polarityToggle t l) s = .next (s.ran
      (((s.advanceTo t).setReg R.lane_RX_INVERTED l (1 - s.reg R.lane_RX_INVERTED l)).onLane l fun r =>
        { r with tried := (s.advanceTo t).mono }))) ∧
  (∀ (t l : Nat) (s : State), l < 256 → s.laneState l = 5 → s.reg R.lane_MODE l = 2 → s.on R.lane_SDI_AUTO l = true →
    (s.laneRun l).rateIdx < 9 → (s.laneRun l).tried + 1000000 ≤ (s.advanceTo t).mono →
    exec (.sdiRateTry t l) s = .next (s.ran
      ((s.advanceTo t).onLane l fun r => { r with rateIdx := r.rateIdx + 1, tried := (s.advanceTo t).mono }))) ∧
  (∀ (t l : Nat) (s : State), l < 256 → s.laneState l = 4 →
    ∃ u, exec (.trainingComplete t l) s = .next u ∧ u.laneState l = 5 ∧ u.reg R.lane_RX_INVERTED l < 2 ∧ (u.laneRun l).rateIdx = 0) ∧
  (∀ (t l : Nat) (s : State), l < 256 → s.laneState l = 5 →
    ∃ u, exec (.clockLockAchieved t l) s = .next u ∧
      u.laneState l = (match s.reg R.lane_MODE l with | 1 => 6 | 2 => 7 | 3 => 8 | _ => 11) ∧ (u.laneRun l).since = u.mono) ∧
  (∀ (t l : Nat) (s : State), l < 256 → (s.laneGroup l).all (fun x => s.laneState x == 6) = true →
    ∃ u, exec (.blockLockAchieved t l) s = .next u ∧
      u = s.ran (((s.advanceTo t).each (s.laneGroup l) fun s x => s.laneUp x).laneFollow l) ∧
      (s.linkOf l = none → s.portOf l = none → u.laneState l = 11 ∧ u.reg R.lane_ATTEMPTS l = 0)) ∧
  (∀ (t l : Nat) (levelB : Bool) (s : State), l < 256 → s.laneState l = 7 →
    ∃ u, exec (.wordLockAchieved t l levelB) s = .next u ∧ u.laneState l = 11 ∧ u.reg R.lane_RX_INVERTED l = 0 ∧
      u.reg R.sdi_RATE l = sdiRateCode (s.rxRate l).1 levelB ∧ u.reg R.lane_UP_COUNT l = (s.reg R.lane_UP_COUNT l + 1) % 2 ^ R.lane_UP_COUNT.bits)

/-- R396, R397, R398, R406, R408. Adaptation freezes, holding the coefficients at work, and resumes; a margin below MARGIN_MIN, 4 µs after it resumed,
loads the saved coefficients, counts the revert and raises event 0x2004; a known-good millisecond saves the coefficients, one with a revert, a
freeze or a low margin does not; PRBS_CLEAR zeroes both counts; the checker locks and, when it loses lock, says so; an eye-scan point starts by its
write and ends with its counts and the flag DONE when its dwell has passed.
Model readings: log entries 106, 108 and 262. -/
def Obligations.LanesAdaptAndAreTested : Prop :=
  (∀ (l : Nat) (s : State), l < 256 → s.adapting l = true → s.on R.lane_FROZEN l = false →
    ∃ u, exec (.adaptationFreeze l) s = .next u ∧ u.reg R.lane_FROZEN l = 1 ∧ (u.laneRun l).resumed = none ∧ u.rxEq l = padTo 14 (s.rxEq l) ∧
      u.dom R.lane_SAVED_EQ l = s.dom R.lane_SAVED_EQ l) ∧
  (∀ (t l : Nat) (s : State), l < 256 → s.adapting l = true → s.on R.lane_FROZEN l = true →
    exec (.adaptationResume t l) s = .next (s.ran
      (((s.advanceTo t).setReg R.lane_FROZEN l 0).onLane l fun r => { r with resumed := some (s.advanceTo t).mono }))) ∧
  (∀ (l margin t : Nat) (s : State), l < 256 → (s.laneRun l).resumed = some t → s.reg R.lane_MARGIN_MIN l ≤ margin →
    ∃ u, exec (.marginCheck l margin) s = .next u ∧ u.reg R.lane_MARGIN l = margin % 2 ^ R.lane_MARGIN.bits ∧ (u.laneRun l).resumed = none ∧
      u.dom R.lane_RX_EQ l = s.dom R.lane_RX_EQ l ∧ u.mono = max s.mono (t + 4000)) ∧
  (∀ (l margin t : Nat) (v : State) (s : State), l < 256 → (s.laneRun l).resumed = some t → margin < s.reg R.lane_MARGIN_MIN l →
    v = ((s.waitUntil (t + 4000)).setReg R.lane_MARGIN l margin).onLane l (fun r =>
      { r with resumed := none, marginAt := some ((s.waitUntil (t + 4000)).mono / 100000), eqBad := true }) →
    ∃ u, exec (.marginCheck l margin) s = .next u ∧ u.dom R.lane_RX_EQ l = s.dom R.lane_SAVED_EQ l ∧
      u.reg R.lane_REVERTS l = (s.reg R.lane_REVERTS l + 1) % 2 ^ R.lane_REVERTS.bits ∧ u.mono = max s.mono (t + 4000) ∧
      u = s.ran (((v.setEq l (s.dom R.lane_SAVED_EQ l)).inc R.lane_REVERTS l).raise 0x2004 l)) ∧
  (∀ (l : Nat) (eq : List Byte) (v : State) (s : State), l < 256 → s.laneState l = 11 → v = s.waitUntil ((s.laneRun l).eqFrom + 1000000) →
    s.on R.lane_FROZEN l = false → (s.laneRun l).eqBad = false → v.marginStayed l (v.mono - 1000000) = true →
    ∃ u, exec (.eqSave l eq) s = .next u ∧ u.dom R.lane_SAVED_EQ l = eq ∧ u.dom R.lane_RX_EQ l = eq ∧
      u.mono = max s.mono ((s.laneRun l).eqFrom + 1000000)) ∧
  (∀ (l : Nat) (eq : List Byte) (v : State) (s : State), l < 256 → s.laneState l = 11 → v = s.waitUntil ((s.laneRun l).eqFrom + 1000000) →
    (s.on R.lane_FROZEN l = true ∨ (s.laneRun l).eqBad = true ∨ v.marginStayed l (v.mono - 1000000) = false) →
    ∃ u, exec (.eqSave l eq) s = .next u ∧ u.dom R.lane_SAVED_EQ l = s.dom R.lane_SAVED_EQ l ∧ (u.laneRun l).eqBad = s.on R.lane_FROZEN l) ∧
  (∀ (w : Who) (l : Nat) (s : State), s.mayWrite w R.lane_PRBS_CLEAR l = true →
    exec (.prbsClear w l) s = .next (s.ran
      ((((s.setReg R.lane_PRBS_BITS l 0).setReg R.lane_PRBS_ERRORS l 0).onLane l fun r => { r with prbsFrom := s.mono }).ok))) ∧
  (∀ (l : Nat) (s : State), l < 256 → s.reg R.lane_MODE l = 4 → s.laneState l = 11 → s.on R.lane_PRBS_RX l = true →
    s.on R.lane_PRBS_LOCK l = false → s.prbsHeard l = true →
    exec (.prbsLock l) s = .next (s.ran ((s.setReg R.lane_PRBS_LOCK l 1).onLane l fun r => { r with prbsFrom := s.mono }))) ∧
  (∀ (l : Nat) (s : State), l < 256 → s.on R.lane_PRBS_LOCK l = true → (s.looped l && s.prbsHeard l) = false →
    ∃ u : State, exec (.prbsLockLoss l) s = .next u ∧ u.reg R.lane_PRBS_LOCK l = 0 ∧
      min (s.reg R.lane_PRBS_ERRORS l + 257) (2 ^ 48 - 1) ≤ u.reg R.lane_PRBS_ERRORS l) ∧
  (∀ (w : Who) (l : Nat) (raw : List Byte) (s : State), s.mayWrite w R.lane_EYE_SCAN l = true → raw.length = 3 →
    -32 ≤ toSigned 8 (leAt raw 0 1) → toSigned 8 (leAt raw 0 1) ≤ 31 → leAt raw 1 1 ≠ 128 → 10 ≤ leAt raw 2 1 → leAt raw 2 1 ≤ 40 →
    ∃ u, exec (.eyeScan w l raw) s = .next u ∧ u.dom R.lane_EYE_SCAN l = raw ++ List.replicate 17 0 ∧ (u.laneRun l).scanAt = s.mono ∧
      u.reply = ⟨true, 0, []⟩) ∧
  (∀ (l errors bits : Nat) (s : State), l < 256 → s.laneState l = 11 → (s.dom R.lane_EYE_SCAN l).length = 20 →
    leAt (s.dom R.lane_EYE_SCAN l) 19 1 = 0 →
    ∃ u, exec (.eyeScanComplete l errors bits) s = .next u ∧
      u.dom R.lane_EYE_SCAN l = (s.dom R.lane_EYE_SCAN l).take 3 ++ leBytes 8 errors ++ leBytes 8 bits ++ [1] ∧
      max (s.laneRun l).scanAt (s.laneRun l).since +
        ceilDiv (2 ^ leAt (s.dom R.lane_EYE_SCAN l) 2 1 * 1000000 * (s.rxRate l).2) (s.rxRate l).1 ≤ u.mono)

/-- R392, R393, R394, R395, R399, R400, R405. A link group aligns: the second BOUNDARY at one alignment locks a lane, and one received inverted turns its polarity; the
group's markers agree within the skew; the fourth good TRAIN block in a row takes the link UP once it has sent its own, an earlier one only
counts and another block breaks the row; FILLER rows are deleted or inserted; ENABLE starts the lanes and gives the link its capacity, and
clearing it stops them.
Model readings: log entries 101, 102, 103 and 107. -/
def Obligations.LinksAlign : Prop :=
  (∀ (t l position header block b : Nat) (s : State), l < 256 → s.laneState l = 8 → s.portOf l = none →
    (∀ k, s.linkOf l = some k → s.linkUp k = false) →
    boundarySeen (s.reg R.lane_MODULATION l == 1) header block = some (b, false) → 16384 * 66 ≤ position →
    (position - 16384 * 66) ∈ (s.laneRun l).markers →
    ∃ u, exec (.boundaryReceive t l position header block) s = .next u ∧ u.laneState l = 9 ∧ u.reg R.lane_GROUP_POS l = blockByte b 4 % 8 ∧
      (u.laneRun l).width = blockByte b 4 / 16 % 4 ∧ (u.laneRun l).ident = blockByte b 5 % 8 ∧ (u.laneRun l).link = blockByte b 6) ∧
  (∀ (t l position header block b : Nat) (s : State), l < 256 → s.laneState l = 8 →
    boundarySeen (s.reg R.lane_MODULATION l == 1) header block = some (b, true) → (s.laneRun l).markers = [] →
    ∃ u, exec (.boundaryReceive t l position header block) s = .next u ∧ u.laneState l = 8 ∧ (u.laneRun l).markers = [position] ∧
      u.reg R.lane_RX_INVERTED l = (1 - s.reg R.lane_RX_INVERTED l) % 2 ^ R.lane_RX_INVERTED.bits) ∧
  (∀ (t k skew : Nat) (s : State), k < 256 → s.on R.link_ENABLE k = true →
    (s.linkLanes k).all (fun l => s.laneState l == 9) = true → s.markersAgree k = true → skew ≤ 64 →
    exec (.deskewComplete t k skew) s = .next (s.ran
      (((((s.advanceTo t).setReg R.link_SKEW k skew).onLink k fun r => { r with ready := 0 }).each (s.linkLanes k)
        fun s l => s.laneTo l 10).linkFollow k))) ∧
  (∀ (t k block : Nat) (s : State), k < 256 → s.on R.link_ENABLE k = true →
    (s.linkLanes k).all (fun l => s.laneState l == 10) = true → controlBlock 0x4B 2 block = true →
    (blockByte block 1 = 1 ∨ blockByte block 1 = 2) → blockByte block 3 = widthCode (s.reg R.link_WIDTH k) →
    3 ≤ (s.linkRun k).ready → (s.laneRun k).since + s.handshakeNs k ≤ (s.advanceTo t).mono →
    ∃ u, exec (.trainBlockReceive t k block) s = .next u ∧ u.reg R.link_STATE k = 2 ∧ (u.linkRun k).nextSeq = 0 ∧ (u.linkRun k).expected = 0 ∧
      (∀ l ∈ s.linkLanes k, u.laneState l = 11) ∧
      u = s.ran (((s.advanceTo t).onLink k fun r => { r with ready := r.ready + 1 }).linkRise k)) ∧
  (∀ (t k block : Nat) (s : State), k < 256 → s.on R.link_ENABLE k = true →
    (s.linkLanes k).all (fun l => s.laneState l == 10) = true → controlBlock 0x4B 2 block = true →
    (blockByte block 1 = 1 ∨ blockByte block 1 = 2) → blockByte block 3 = widthCode (s.reg R.link_WIDTH k) → (s.linkRun k).ready < 3 →
    exec (.trainBlockReceive t k block) s = .next (s.ran ((s.advanceTo t).onLink k fun r => { r with ready := r.ready + 1 }))) ∧
  (∀ (t k block : Nat) (s : State), k < 256 → s.on R.link_ENABLE k = true →
    (s.linkLanes k).all (fun l => s.laneState l == 10) = true → blockKnown block = true → controlBlock 0x4B 2 block = false →
    exec (.trainBlockReceive t k block) s = .next (s.ran ((s.advanceTo t).onLink k fun r => { r with ready := 0 }))) ∧
  (∀ (k : Nat) (v : State) (s : State), k < 256 →
    (s.linkLanes k).all (fun l => decide (10 ≤ s.laneState l) && decide (s.laneState l ≤ 11)) = true →
    v = s.waitUntil ((s.linkRun k).fillerAt.elim 0 fun t => t + fillerNs (s.reg R.lane_LINE_RATE k)) →
    ∃ rows ≤ 16, ∃ u, exec (.fillerRowArrive k) s = .next u ∧ (u.linkRun k).fillerAt = some v.mono ∧
      u.reg R.link_FILLERS_DELETED k = (s.reg R.link_FILLERS_DELETED k + if 12 < rows then 1 else 0) % 2 ^ R.link_FILLERS_DELETED.bits ∧
      u.reg R.link_FILLERS_INSERTED k = (s.reg R.link_FILLERS_INSERTED k + if rows < 4 then 1 else 0) % 2 ^ R.link_FILLERS_INSERTED.bits) ∧
  (∀ (w : Who) (k : Nat) (s : State), s.mayWrite w R.link_ENABLE k = true → s.on R.link_ENABLE k = false →
    ((s.linkLanes k).all fun l => s.lanePresent l && s.reg R.lane_MODE l == 3 && s.reg R.lane_LINE_RATE l == s.reg R.lane_LINE_RATE k &&
      (s.linkOf l).isNone) = true →
    ∃ u, exec (.linkEnable w k true) s = .next u ∧ u.reg R.link_ENABLE k = 1 ∧ u.reply = ⟨true, 0, []⟩ ∧
      u = s.ran ((((s.setReg R.link_ENABLE k 1).setReg R.link_CAPACITY k (linkCapacity (s.linkLanes k).length (s.reg R.lane_LINE_RATE k))).each
        (s.linkLanes k) fun s l => s.laneStart l).ok)) ∧
  (∀ (w : Who) (k : Nat) (s : State), s.mayWrite w R.link_ENABLE k = true → s.on R.link_ENABLE k = true →
    ∃ u, exec (.linkEnable w k false) s = .next u ∧ u.reg R.link_ENABLE k = 0 ∧ u.reg R.link_STATE k = 0 ∧ u.reg R.link_CAPACITY k = 0 ∧
      u.reply = ⟨true, 0, []⟩ ∧
      u = s.ran ((((((s.linkDown k 1).setReg R.link_ENABLE k 0).each (s.linkLanes k) fun x l => x.dropLane l 4 1).setReg R.link_STATE k 0).setReg
        R.link_CAPACITY k 0).ok))

/-- R399, R401, R402, R403, R404. The packets of a link: one to be sent again goes first, else the next one is sent with the next sequence number and kept for
replay; the expected one is delivered and counted, one that has been delivered is counted and acknowledged, a bad one is answered NAK; what has been
delivered is acknowledged; an ACK frees what it covers; a NAK and REPLAY_TIMEOUT have packets sent again; a pending NAK lapses.
Model readings: log entries 105, 110 and 174. -/
def Obligations.LinksCarryPackets : Prop :=
  (∀ (t k c : Nat) (p : List Byte) (r : LinkRun) (l : List Byte) (s : State), k < 256 → s.linkUp k = true →
    (s.linkRun k).replay.findIdx? (fun p => p.resend) = none →
    (s.linkRun k).nextPacket = some (c, p, r) → r.replay.length < 256 → r.held + p.length ≤ 524288 →
    l = packetBlocks r.nextSeq c ((s.advanceTo t).stampCouncil c p) →
    ∃ u, exec (.packetSend t k) s = .next u ∧ u.reply = ⟨true, 0, l⟩ ∧
      u.linkRun k = { r with replay := r.replay ++ [⟨r.nextSeq, c, p, (s.advanceTo t).mono, 0, false⟩], nextSeq := (r.nextSeq + 1) % 65536,
                             line := r.line ++ packetLine l, begun := true } ∧
      u.reg R.link_TX_PACKETS k = (s.reg R.link_TX_PACKETS k + 1) % 2 ^ R.link_TX_PACKETS.bits) ∧
  (∀ (t k i : Nat) (s : State), k < 256 → s.linkUp k = true → (s.linkRun k).replay.findIdx? (fun p => p.resend) = some i →
    exec (.packetSend t k) s = .next (s.ran (((s.advanceTo t).silent).sendAgain k i))) ∧
  (∀ (t k : Nat) (p : LinkPacket) (s : State), k < 256 → s.linkUp k = true →
    p.seq = (s.linkRun k).expected → p.seq < 65536 → packetGood p = true → p.channel < 3 →
    ∃ u, exec (.packetReceive t k p) s = .next u ∧ u.reply = ⟨true, 0, [0x01] ++ leBytes 1 p.channel ++ p.payload⟩ ∧
      u.linkRun k = { s.linkRun k with nakAt := none, expected := (p.seq + 1) % 65536, unacked := (s.linkRun k).unacked + 1 } ∧
      u.reg R.link_RX_PACKETS k = (s.reg R.link_RX_PACKETS k + 1) % 2 ^ R.link_RX_PACKETS.bits) ∧
  (∀ (t k : Nat) (p : LinkPacket) (s : State), k < 256 → s.linkUp k = true →
    32768 ≤ (p.seq + 65536 - (s.linkRun k).expected) % 65536 →
    ∃ u, exec (.packetReceive t k p) s = .next u ∧ u.reply = ⟨true, 0, leBytes 8 (ackBlock ((s.linkRun k).expected + 65535))⟩ ∧
      u.reg R.link_DUPLICATES k = (s.reg R.link_DUPLICATES k + 1) % 2 ^ R.link_DUPLICATES.bits) ∧
  (∀ (t k : Nat) (p : LinkPacket) (s : State), k < 256 → s.linkUp k = true →
    p.seq = (s.linkRun k).expected → p.seq < 65536 → packetGood p = false →
    ∃ u, exec (.packetReceive t k p) s = .next u ∧ u.reply = ⟨true, 0, leBytes 8 (nakBlock p.seq)⟩ ∧
      (u.linkRun k).nakAt = some (s.advanceTo t).mono ∧ (u.linkRun k).expected = p.seq ∧
      u.reg R.link_CRC_ERRORS k = (s.reg R.link_CRC_ERRORS k + 1) % 2 ^ R.link_CRC_ERRORS.bits) ∧
  (∀ (k : Nat) (s : State), k < 256 → s.linkUp k = true → (s.linkRun k).unacked ≠ 0 →
    ∃ u, exec (.ackSend k) s = .next u ∧ (u.linkRun k).unacked = 0 ∧ u.reply = ⟨true, 0, leBytes 8 (ackBlock ((s.linkRun k).expected + 65535))⟩) ∧
  (∀ (k seq : Nat) (s : State), k < 256 → s.linkUp k = true →
    ((s.linkRun k).replay.filter fun p => !ackCovers seq p.seq).length ≠ (s.linkRun k).replay.length →
    exec (.ackReceive k seq true) s = .next (s.ran
      (s.onLink k fun r => { r with replay := ((s.linkRun k).replay.filter fun p => !ackCovers seq p.seq).map fun p => { p with again := 0 } }))) ∧
  (∀ (k seq i : Nat) (s : State), k < 256 → s.linkUp k = true → (s.linkRun k).replay.findIdx? (fun p => p.seq == seq) = some i →
    exec (.nakReceive k seq true) s = .next (s.ran
      (s.onLink k fun r => { r with replay := r.replay.take i ++ (r.replay.drop i).map fun p => { p with resend := true } }))) ∧
  (∀ (t k : Nat) (p : SentPacket) (rest : List SentPacket) (s : State), k < 256 → s.linkUp k = true → (s.linkRun k).replay = p :: rest →
    p.sentAt + s.reg R.link_REPLAY_TIMEOUT k * 1000 ≤ (s.advanceTo t).mono → p.again < 7 →
    ∃ u, exec (.replayTimeout t k) s = .next u ∧
      u.reply = ⟨true, 0, packetBlocks p.seq p.channel ((s.advanceTo t).stampCouncil p.channel p.payload)⟩ ∧
      (u.linkRun k).replay = { p with sentAt := (s.advanceTo t).mono, again := p.again + 1, resend := false } ::
        rest.map (fun x => { x with resend := true }) ∧
      u.reg R.link_REPLAYS k = (s.reg R.link_REPLAYS k + 1) % 2 ^ R.link_REPLAYS.bits) ∧
  (∀ (t k a : Nat) (s : State), k < 256 → (s.linkRun k).nakAt = some a →
    a + s.reg R.link_REPLAY_TIMEOUT k * 1000 ≤ (s.advanceTo t).mono →
    exec (.nakPendingExpiry t k) s = .next (s.ran ((s.advanceTo t).onLink k fun r => { r with nakAt := none })))

/-! ## Objects, frames, sessions and profiles (chapter 14 and 15) -/

/-- R413, R415, R427, R442, Table 14.8. An operation reads and writes an object: an object in no table is NO_SUCH_OBJECT; a value of the object's
size and range takes its effect, and REPLAY_TIMEOUT out of its range is BAD_VALUE; a piece of a domain that is not its last is held; a read
answers the value in its encoding, of a domain as much as fits, the value being kept for the pieces after it; a read of the snapshot answers the
snapshot; INFO answers the object's record, and its factory value where the length asks for it. -/
def Obligations.ObjectsAreReadAndWritten : Prop :=
  (∀ (w : Who) (k v : Nat) (s : State), s.mayWrite w R.link_REPLAY_TIMEOUT k = true → 5 ≤ v → v ≤ 1000 →
    exec (.registerWrite w ⟨0x2010, k, 7⟩ (leBytes 2 v)) s = .next (s.ran (s.setReg R.link_REPLAY_TIMEOUT k v).ok)) ∧
  (∀ (w : Who) (k v : Nat) (s : State), s.mayWrite w R.link_REPLAY_TIMEOUT k = true → v < 65536 → (v < 5 ∨ 1000 < v) →
    exec (.registerWrite w ⟨0x2010, k, 7⟩ (leBytes 2 v)) s = .next (s.ran s.badValue)) ∧
  (∀ (w : Who) (r : ObjRef) (raw : List Byte) (s : State), s.dictAnswers w = true → findRow r = none →
    exec (.registerWrite w r raw) s = .next (s.ran s.noSuchObject) ∧ exec (.obpWrite w r 0 true raw) s = .next (s.ran s.noSuchObject)) ∧
  (∀ (w : Who) (r : ObjRef) (row : Row) (raw : List Byte) (s : State), s.dictAnswers w = true → findRow r = some row →
    s.writeDenied w r row raw = false → row.ty.isDomain = false → isImageData r.index r.sub = false → row.lengthOk raw.length = true →
    row.inRange raw = true →
    exec (.obpWrite w r 0 true raw) s = .next (s.ran (s.writeEffect w r row raw))) ∧
  (∀ (w : Who) (r : ObjRef) (row : Row) (data value : List Byte) (offset : Nat) (s : State), s.dictAnswers w = true → findRow r = some row →
    s.writeDenied w r row data = false → row.ty.isDomain = true → isImageData r.index r.sub = false →
    value = (if offset = 0 then [] else (s.heldBytes w r).getD []) ++ data → value.length = offset + data.length →
    (offset ≠ 0 → (s.heldBytes w r).isSome = true) → value.length ≤ row.maxLen → w.slot.isSome = true → s.writesClosed w = false →
    exec (.obpWrite w r offset false data) s = .next (s.ran (s.holdBytes w (some (r, value))).ok)) ∧
  (∀ (w : Who) (r : ObjRef) (row : Row) (s : State), s.dictAnswers w = true → findRow r = some row → row.acc.readable = true →
    row.acc ≠ .rs → s.readDenied r = false → row.ty.isDomain = false → s.readsClosed w r.index = false →
    (s.valueOf r row).length ≤ frameLimit w.cls - 40 →
    exec (.obpRead w r 0 0) s = .next (s.ran ((s.readEffect r row).answerWith (s.valueOf r row)))) ∧
  (∀ (w : Who) (r : ObjRef) (row : Row) (len room : Nat) (s : State), s.dictAnswers w = true → findRow r = some row → row.acc.readable = true →
    s.readDenied r = false → row.ty.isDomain = true → s.readsClosed w r.index = false →
    room = (if len = 0 then frameLimit w.cls - 40 else min len (frameLimit w.cls - 40)) →
    exec (.obpRead w r 0 len) s = .next (s.ran (((s.latchValue w r (s.valueOf r row)).readEffect r row).answerWith ((s.valueOf r row).take room)))) ∧
  (∀ (w : Who) (r : ObjRef) (row : Row) (len : Nat) (s : State), s.dictAnswers w = true → findRow r = some row →
    s.readsClosed w 0 = false →
    exec (.obpInfo w r len) s = .next (s.ran
      (s.answerWith (s.infoRecord r row ++ if 16 < len ∧ row.ty.isDomain = false then factoryValue r row else [])))) ∧
  (∀ (w : Who) (row : Row) (s : State), s.dictAnswers w = true → findRow ⟨0x1010, 0, 32⟩ = some row → s.readsClosed w 0x1010 = false →
    exec (.snapshotRead w) s = .next (s.ran
      ((s.latchValue w ⟨0x1010, 0, 32⟩ (s.valueOf ⟨0x1010, 0, 32⟩ row)).answerWith ((s.valueOf ⟨0x1010, 0, 32⟩ row).take (frameLimit w.cls - 40)))))

/-- R411, R412, R419, R421, R552. The ports of the dictionary: the SPI port takes a whole frame while it holds fewer than four, counts a broken one as an
error and drops one more, broken or not; it hands out the oldest outbound one, READ_STATUS gives its flags and length; the management port takes a datagram for its port
from an allowed source, counts fragments and what is not allowed, answers an ARP request for its address, and keeps its settings until the response
has been sent; LINK follows with event 0x1104; a good frame on another port is queued; the next request is executed, one that names no session of
its source being answered with SESSION; the console's read and write are one-operation requests of class SERVICE, answered in text.
Model readings: log entries 124, 125, 126 and 188. -/
def Obligations.PortsOfTheDictionary : Prop :=
  (∀ (data : List Byte) (s : State), s.silent.spiOpen = true → s.steward.spiIn.length < 4 →
    ∃ u, exec (.writeFrame data true) s = .next u ∧ u.reg R.spi_RX_FRAMES = (s.reg R.spi_RX_FRAMES + 1) % 2 ^ R.spi_RX_FRAMES.bits ∧
      (∀ (q : List Request) (rest : List (List Request)), s.steward.spiIn = [] → s.steward.queues = q :: rest → q.length < 64 →
        s.dictUp ⟨.host, none⟩ = true → parseFrame data ≠ none →
        u.steward.spiIn = [] ∧ u.steward.rxFull = false ∧ u.steward.queues = (q ++ [⟨.spi, data, false⟩]) :: rest) ∧
      u = s.ran (((s.silent.onSteward fun w => { w with spiIn := w.spiIn ++ [data] }).inc R.spi_RX_FRAMES).pumpSpi 4)) ∧
  (∀ (data : List Byte) (whole : Bool) (s : State), s.silent.spiOpen = true → 4 ≤ s.steward.spiIn.length →
    exec (.writeFrame data whole) s = .next (s.ran ((s.silent.onSteward fun w => { w with rxFull := true }).inc R.spi_RX_FULL_DROPS))) ∧
  (∀ (data : List Byte) (s : State), s.silent.spiOpen = true → s.steward.spiIn.length < 4 →
    exec (.writeFrame data false) s = .next (s.ran ((s.silent.inc R.spi_RX_FRAMES).frameError .spi))) ∧
  (∀ (l : List Byte) (rest : List (List Byte)) (s : State), s.spiOpen = true → s.steward.spiOut = l :: rest →
    ∃ u, exec .readFrame s = .next u ∧ u.steward.spiOut = rest ∧ u.reply = ⟨true, 0, l⟩ ∧
      u = s.ran ((s.onSteward fun w => { w with spiOut := rest }).answerWith l)) ∧
  (∀ s : State, s.spiOpen = true → s.steward.spiOut = [] →
    exec .readFrame s = .next (s.ran (s.answerWith [])) ∧
      exec .readStatus s = .next (s.ran (s.answerWith (leBytes 1 (b2n s.steward.rxFull * 2) ++ [0] ++ leBytes 2 0)))) ∧
  (∀ (l : List Byte) (rest : List (List Byte)) (s : State), s.spiOpen = true → s.steward.spiOut = l :: rest →
    exec .readStatus s = .next (s.ran (s.answerWith (leBytes 1 (1 + b2n s.steward.rxFull * 2) ++ [0] ++ leBytes 2 l.length)))) ∧
  (∀ (t src srcPort : Nat) (data : List Byte) (s : State),
    ((src ^^^ s.reg R.mgmt_ALLOW_ADDR) &&& s.reg R.mgmt_ALLOW_MASK) = 0 →
    s.on R.mgmt_LINK = true → s.on R.mgmt_IPV4 = true → (s.advanceTo t).silent.dictUp ⟨.operator, none⟩ = true →
    ∃ u, exec (.mgmtDatagram t src srcPort (.udp (s.reg R.mgmt_UDP_PORT) data)) s = .next u ∧
      u.reg R.mgmt_RX_FRAMES = (s.reg R.mgmt_RX_FRAMES + 1) % 2 ^ R.mgmt_RX_FRAMES.bits ∧
      (∀ (a b : List Request) (rest : List (List Request)), s.steward.queues = a :: b :: rest → b.length < 64 → parseFrame data ≠ none →
        u.steward.queues = a :: (b ++ [⟨.mgmt src srcPort, data, false⟩]) :: rest) ∧
      u = s.ran (((s.advanceTo t).silent.inc R.mgmt_RX_FRAMES).takeFrame (.mgmt src srcPort) data)) ∧
  (∀ (t src srcPort : Nat) (s : State), s.on R.mgmt_LINK = true → s.on R.mgmt_IPV4 = true →
    (s.advanceTo t).silent.dictUp ⟨.operator, none⟩ = true →
    exec (.mgmtDatagram t src srcPort (.arpRequest (s.reg R.mgmt_IPV4))) s = .next (s.ran
      ((s.advanceTo t).silent.answerWith (leBytes 6 (s.reg R.mgmt_MAC_ADDR))))) ∧
  (∀ (t src srcPort : Nat) (s : State), s.on R.mgmt_LINK = true → s.on R.mgmt_IPV4 = true →
    (s.advanceTo t).silent.dictUp ⟨.operator, none⟩ = true → (s.advanceTo t).silent.mgmtAllows src = true →
    exec (.mgmtDatagram t src srcPort .fragment) s = .next (s.ran ((s.advanceTo t).silent.inc R.mgmt_FRAGMENTS))) ∧
  (∀ (t src srcPort : Nat) (b : MgmtBody) (s : State), s.on R.mgmt_LINK = true → s.on R.mgmt_IPV4 = true →
    (s.advanceTo t).silent.dictUp ⟨.operator, none⟩ = true → (s.advanceTo t).silent.mgmtAllows src = false → (∀ a, b ≠ .arpRequest a) →
    exec (.mgmtDatagram t src srcPort b) s = .next (s.ran ((s.advanceTo t).silent.inc R.mgmt_NOT_ALLOWED))) ∧
  (∀ (t k : Nat) (data : List Byte) (s : State), k < 256 → s.linkUp k = true →
    (s.advanceTo t).silent.dictUp ⟨.peer, none⟩ = true →
    ∃ u, exec (.obpFrameReceive t (.link k) data) s = .next u ∧
      (∀ (a b c : List Request) (rest : List (List Request)), s.steward.queues = a :: b :: c :: rest → c.length < 64 →
        parseFrame (portFrame (.link k) data) ≠ none →
        u.steward.queues = a :: b :: (c ++ [⟨.link k, portFrame (.link k) data, false⟩]) :: rest) ∧
      u = s.ran ((s.advanceTo t).silent.takeFrame (.link k) data)) ∧
  (∀ (t : Nat) (data : List Byte) (s : State), s.on R.dbg_SESSION = true → (s.advanceTo t).silent.dictUp ⟨.service, none⟩ = true →
    exec (.obpFrameReceive t .service data) s = .next (s.ran ((s.advanceTo t).silent.takeFrame .service data))) ∧
  (∀ (t src srcPort : Nat) (data : List Byte) (s : State), s.on R.mgmt_LINK = true → s.on R.mgmt_IPV4 = true →
    (s.advanceTo t).silent.dictUp ⟨.operator, none⟩ = true → (s.advanceTo t).silent.mgmtAllows src = true → src < 2 ^ 32 → srcPort < 2 ^ 16 →
    exec (.obpFrameReceive t (.mgmt src srcPort) data) s = .next (s.ran
      (((s.advanceTo t).silent.inc R.mgmt_RX_FRAMES).takeFrame (.mgmt src srcPort) data))) ∧
  (∀ (t c : Nat) (q : Request) (rest : List Request) (f : ObpFrame) (v : State) (s : State),
    v = (((s.advanceTo t).serveTerminal).silent).pumpSpi 4 → v.dictUp ⟨.service, none⟩ = true → v.nextClass = some c → c < 4 →
    v.queueOf c = q :: rest → q.console = false → parseFrame q.data = some f →
    ∃ u, exec (.requestExecute t) s = .next u ∧
      (f.session ≠ 0 → v.boundSlot q.port f.session = none → u.queueOf c = rest ∧ u.steward.served = c ∧
        u.reply = ⟨true, 0, obpFrame 2 f.session f.sequence 0 (b2n f.cont) 11 []⟩) ∧
      u = s.ran ((v.onSteward fun w => { w with queues := upd w.queues c fun _ => rest, served := c }).runFrame q.port f)) ∧
  (∀ (t c : Nat) (q : Request) (rest : List Request) (v : State) (s : State),
    v = (((s.advanceTo t).serveTerminal).silent).pumpSpi 4 → v.dictUp ⟨.service, none⟩ = true → v.nextClass = some c →
    v.queueOf c = q :: rest → (c = 4 ∨ q.console = true) →
    exec (.requestExecute t) s = .next (s.ran
      (if c = 4 then (v.onSteward fun w => { w with queues := upd w.queues c fun _ => rest }).runMailbox
       else (v.onSteward fun w => { w with queues := upd w.queues c fun _ => rest, served := c }).runLine q.data))) ∧
  (∀ (s : State), ∃ u, exec .mgmtConfigApply s = .next u ∧ u.steward.mgmtWait = [] ∧
    (∀ (sub v : Nat), sub < 256 → s.steward.mgmtWait = [(sub, v)] → tget regKeyDefault u.regs (regKey (0x110100 + sub) 0) = v) ∧
    u = s.ran ((s.onSteward fun w => { w with mgmtWait := [] }).each s.steward.mgmtWait fun s e => s.putNum ⟨0x1101, 0, e.1⟩ e.2)) ∧
  (∀ (goes : Bool) (s : State), s.on R.mgmt_LINK = !goes →
    ∃ u, exec (.mgmtLinkChange goes) s = .next u ∧ u.reg R.mgmt_LINK = b2n goes ∧
      u = s.ran ((s.setReg R.mgmt_LINK 0 (b2n goes)).raise 0x1104 (b2n goes))) ∧
  (∀ (r : ObjRef) (s : State), s.coreRuns 1 = true →
    ∃ u, exec (.consoleRead r) s = .next u ∧
      (findRow r = none → s.dictAnswers ⟨.service, none⟩ = true → s.service.termOut.isSome = true →
        u.service.console = s.service.console ++ ascii "err 1" ++ [0x0A] ∧
        u.reg R.stw_REQUESTS = (s.reg R.stw_REQUESTS + 1) % 2 ^ R.stw_REQUESTS.bits) ∧
      (∀ row : Row, findRow r = some row → s.dictAnswers ⟨.service, none⟩ = true → s.service.termOut.isSome = true →
        row.acc.readable = true → row.acc ≠ .rs → s.readDenied r = false → row.ty.isDomain = false →
        s.readsClosed ⟨.service, none⟩ r.index = false → (s.valueOf r row).length ≤ 4056 → s.valueOf r row ≠ [] →
        u.service.console = s.service.console ++ (ascii "ok" ++ (ascii " " ++ hexBytes (s.valueOf r row))) ++ [0x0A]) ∧
      u = s.ran (((s.readRoom ⟨.service, none⟩ r 0 0 4056).inc R.stw_REQUESTS).sayReply)) ∧
  (∀ (r : ObjRef) (data : List Byte) (s : State), s.coreRuns 1 = true →
    ∃ u, exec (.consoleWrite r data) s = .next u ∧
      (findRow r = none → s.dictAnswers ⟨.service, none⟩ = true → s.service.termOut.isSome = true →
        u.service.console = s.service.console ++ ascii "err 1" ++ [0x0A] ∧
        u.reg R.stw_REQUESTS = (s.reg R.stw_REQUESTS + 1) % 2 ^ R.stw_REQUESTS.bits) ∧
      u = s.ran (((opObpWrite ⟨.service, none⟩ r 0 true data s).inc R.stw_REQUESTS).sayReply))

/-- R414, R416, R431, R433, R459. A session opens in the first free slot of its class, with an ID of BOOT_COUNT, a counter and the slot, and
event 0x1101, and an OPEN repeated with its NONCE is answered its ID again; it claims and releases the write lock with event 0x1103; it closes by CLOSE, by COMMAND or after TIMEOUT seconds without a
request, with event 0x1102; a NOTIFY carries the events gathered for it.
Model readings: log entries 121 and 127. -/
def Obligations.SessionsOpenAndClose : Prop :=
  (∀ (port : ObpPort) (c nonce n : Nat) (s : State),
    (match port with | .link k => decide (k < 256) && s.reg R.link_STATE k == 2 | .service => s.on R.dbg_SESSION | _ => true) = true →
    c = classCode (portClass port) → s.dictAnswers ⟨portClass port, none⟩ = true → s.opensClosed ⟨portClass port, none⟩ = false →
    s.sameOpen c nonce (s.sourceOfPort port) = none → (classSlots c).find? (fun n => !s.on R.ses_ID n) = some n →
    ∃ u, exec (.obpOpen port nonce) s = .next u ∧
      u.reg R.ses_ID n = (s.reg R.stw_BOOT_COUNT % 1024 * 2 ^ 22 + s.nextCounter n * 2 ^ 6 + n) % 2 ^ 32 ∧
      u.reply = ⟨true, 0, leBytes 4 (s.reg R.stw_BOOT_COUNT % 1024 * 2 ^ 22 + s.nextCounter n * 2 ^ 6 + n)⟩ ∧
      u.reg R.ses_TIMEOUT n = 60 ∧ u.reg R.ses_HIGH n = 0 ∧ u.reg R.ses_REQUESTS n = 0 ∧ (u.sess n).lastReq = s.mono ∧
      u.reg R.stw_SESSIONS = (s.reg R.stw_SESSIONS + 1) % 2 ^ R.stw_SESSIONS.bits ∧
      u = s.ran (s.openSlot n c nonce (s.sourceOfPort port))) ∧
  (∀ (nonce n : Nat) (s : State), s.dictAnswers ⟨.host, none⟩ = true → s.opensClosed ⟨.host, none⟩ = false →
    s.sameOpen (classCode .host) nonce (s.sourceOfPort .spi) = some n →
    exec (.obpOpen .spi nonce) s = .next (s.ran (s.answerWith (leBytes 4 (s.reg R.ses_ID n))))) ∧
  (∀ (w : Who) (n : Nat) (s : State), s.dictAnswers w = true → s.readsClosed w 0 = false → w.slot = some n → s.on R.ses_ID n = true →
    ∃ u, exec (.obpClose w) s = .next u ∧ u.reg R.ses_ID n = 0 ∧ u.sess n = {} ∧ u.reply = ⟨true, 0, []⟩ ∧
      (s.reg R.stw_LOCK_OWNER = s.reg R.ses_ID n → u.reg R.stw_LOCK_OWNER = 0) ∧
      u = s.ran ((s.onSess n fun x => { x with closing := true }).ok.closeSession n 0)) ∧
  (∀ (t n : Nat) (s : State), n < 64 → s.dusk.core1.haltedAt = none →
    (s.sess n).lastReq + s.reg R.ses_TIMEOUT n * 1000000000 ≤ (s.advanceTo t).mono →
    ∃ u, exec (.sessionTimeout t n) s = .next u ∧ u.reg R.ses_ID n = 0 ∧ u = s.ran ((s.advanceTo t).closeSession n 1)) ∧
  (∀ (w : Who) (n : Nat) (s : State), s.mayWrite w R.ses_COMMAND n = true → s.on R.ses_ID n = true →
    ∃ u, exec (.sessionCloseCommand w n) s = .next u ∧ u.reg R.ses_ID n = 0 ∧ u.reply = ⟨true, 0, []⟩ ∧
      u = s.ran (s.closeSession n (if w.slot = some n then 0 else 2)).ok) ∧
  (∀ (w : Who) (n : Nat) (s : State), s.mayWrite w R.stw_LOCK_OWNER 0 = true → w.slot = some n → s.reg R.ses_ID n ≠ 0 →
    s.reg R.stw_LOCK_OWNER = 0 →
    ∃ u, exec (.writeLockClaim w (s.reg R.ses_ID n)) s = .next u ∧ u.reg R.stw_LOCK_OWNER = s.reg R.ses_ID n % 2 ^ R.stw_LOCK_OWNER.bits ∧
      u.reply = ⟨true, 0, []⟩ ∧
      u = s.ran (((s.setReg R.stw_LOCK_OWNER 0 (s.reg R.ses_ID n)).raise 0x1103 (n + 256)).inc R.stw_LOCK_CLAIMS).ok) ∧
  (∀ (w : Who) (n : Nat) (s : State), s.mayWrite w R.stw_LOCK_OWNER 0 = true → w.slot = some n →
    s.reg R.stw_LOCK_OWNER = s.reg R.ses_ID n → s.reg R.ses_ID n ≠ 0 →
    ∃ u, exec (.writeLockRelease w) s = .next u ∧ u.reg R.stw_LOCK_OWNER = 0 ∧ u.reply = ⟨true, 0, []⟩ ∧
      u = s.ran ((s.setReg R.stw_LOCK_OWNER 0 0).raise 0x1103 n).ok) ∧
  (∀ (t n : Nat) (s : State), n < 64 → s.on R.ses_ID n = true → (s.sess n).events ≠ [] →
    (slotClass n ≠ some 0 ∨ s.steward.spiOut.length < 8) → ((s.advanceTo t).recentNotify n).length < 1000 →
    (s.advanceTo t).dictUp ⟨.service, none⟩ = true →
    ∃ u : State, exec (.notifySend t n) s = .next u ∧ u.reg R.ses_NOTIFY_SEQ n = (s.reg R.ses_NOTIFY_SEQ n + 1) % 2 ^ 32 ∧
      (u.sess n).events = [] ∧ (u.sess n).sentAt = (s.advanceTo t).mono :: (s.advanceTo t).recentNotify n ∧
      u.reply = ⟨true, 0, obpFrame 3 (s.reg R.ses_ID n) ((s.reg R.ses_NOTIFY_SEQ n + 1) % 2 ^ 32) (s.sess n).events.length 0 0
        ((s.sess n).events.flatMap recordBytesOf)⟩)

/-- R435, R438, R439, R440. A profile's record is written whole, captured or erased, each with its cost and event 0x1203; ARM_SWITCH
schedules the switch for a frame and answers it, DISARM takes it back.
Model readings: log entry 129. -/
def Obligations.ProfilesChange : Prop :=
  (∀ (w : Who) (p : Nat) (l : List Byte) (s : State), s.mayWrite w R.sprof_RECORD p = true → profileRecordOk l = true → l.length ≤ 262144 →
    ∃ u, exec (.profileRecordWrite w p l) s = .next u ∧ u.dom R.sprof_RECORD p = l ∧ u.reg R.sprof_VALID p = 1 ∧
      u.reg R.sprof_LENGTH p = l.length ∧ u.reg R.sprof_CRC p = leAt l 60 4 ∧ u.dom R.sprof_NAME p = recordName l ∧
      u.reg R.sprof_WRITES p = (s.reg R.sprof_WRITES p + changedWords (s.dom R.sprof_RECORD p) l) % 2 ^ R.sprof_WRITES.bits ∧
      u.reply = ⟨true, 0, []⟩ ∧ u = s.ran (s.putRecord p 0 l).ok) ∧
  (∀ (w : Who) (s : State), s.mayWrite w R.prof_COMMAND 0 = true → s.on R.sprof_VALID (s.reg R.prof_TARGET) = true →
    s.on R.prof_ARMED = false → s.reg R.prof_CADENCE < 16 → s.on R.cad_ENABLE (s.reg R.prof_CADENCE) = true →
    ∃ u : State, exec (.profileArmSwitch w) s = .next u ∧ u.reg R.prof_ARMED = 1 ∧
      u.reg R.prof_TARGET_FRAME = s.armFrame (s.reg R.prof_CADENCE) (s.reg R.prof_TARGET_FRAME) % 2 ^ 64 ∧
      u.reply = { answered := true, status := 0, value := leBytes 8 (s.armFrame (s.reg R.prof_CADENCE) (s.reg R.prof_TARGET_FRAME)) } ∧
      u.steward.armedBy = w.cls ∧
      u.tb.sets = (s.armMember (s.reg R.prof_CADENCE) (s.armFrame (s.reg R.prof_CADENCE) (s.reg R.prof_TARGET_FRAME))
        (.profile (s.reg R.prof_TARGET))).tb.sets) ∧
  (∀ (w : Who) (s : State), s.mayWrite w R.prof_COMMAND 0 = true → s.on R.prof_ARMED = true →
    ∃ u : State, exec (.profileDisarm w) s = .next u ∧ u.reg R.prof_ARMED = 0 ∧ u.steward.switching = false ∧ u.reply.status = 0 ∧
      ∀ p, Member.profile p ∉ u.armed) ∧
  (∀ (w : Who) (p : Nat) (l : List Byte) (s : State), s.mayWrite w R.prof_COMMAND 0 = true → p = s.reg R.prof_TARGET →
    s.profileInUse p = false → s.captureEntries.length ≤ 4096 → l = s.captured (s.dom R.sprof_RECORD p) → l.length ≤ 262144 →
    s.captureEntries.any (fun e => decide (65535 < e.value.length)) = false →
    ∃ u, exec (.capture w) s = .next u ∧ u.dom R.sprof_RECORD p = l ∧ u.reg R.sprof_LENGTH p = l.length ∧ u.reply = ⟨true, 0, []⟩ ∧
      u = s.ran (s.putRecord p 1 l).ok) ∧
  (∀ (w : Who) (p : Nat) (s : State), s.mayWrite w R.prof_COMMAND 0 = true → p = s.reg R.prof_TARGET → s.profileInUse p = false →
    ∃ u, exec (.erase w) s = .next u ∧ u.dom R.sprof_RECORD p = [] ∧ u.reg R.sprof_VALID p = 0 ∧ u.reg R.sprof_LENGTH p = 0 ∧
      u.reply = ⟨true, 0, []⟩ ∧ u = s.ran (s.putRecord p 2 []).ok)

/-! ## Service, debug and test access (chapter 20) -/

/-- R312, R536, R537, R538, R553, R563. A tamper source records itself and starts a wipe; a life-cycle COMMIT with the device's own confirmation value
starts the wipe and waits for the fuses, whose group is then whole, which resets the device (STATE follows the groups in step 3), and which wait
while a rail of the store is out of range; a digest or key is fused once; the steward does a recovery for each wipe when it runs, BUSY until the last.
Model readings: log entries 180, 181, 186, 286 and 289. -/
def Obligations.TamperAndLifecycle : Prop :=
  (∀ (t source : Nat) (s : State), source < 4 → s.phase ≠ .night →
    ∃ u : State, exec (.wipeStart t source) s = .next u ∧ u.scratch.wiping = true ∧ u.reg R.tmp_LAST_SOURCE = source ∧
      u.scratch.wipeCause.testBit (if source = 0 then 0 else 1) = true ∧
      (s.dusk.core1.haltedAt = none → u.reg R.dbg_SESSION = 0)) ∧
  (∀ (w : Who) (s : State), s.mayCommit w = true → s.mayWrite w R.lc_COMMIT 0 = true → s.service.commit = none →
    (nextLifecycle (s.reg R.lc_STATE)).contains (s.reg R.lc_TARGET) = true → s.service.ready (s.reg R.lc_TARGET) = true →
    ∃ u, exec (.lifecycleCommit w s.uniqueLow) s = .next u ∧ u.service.commit = some (s.reg R.lc_TARGET) ∧ u.reply = ⟨true, 0, []⟩ ∧
      (s.phase ≠ .night → u.scratch.wiping = true ∧ u.scratch.wipeCause.testBit 2 = true) ∧
      u = s.ran ((s.onService fun x => { x with commit := some (s.reg R.lc_TARGET) }).startWipe 2).ok) ∧
  (∀ (v : Nat) (s : State), s.service.commit = some v → s.scratch.wiping = false → s.storeAccepts = true →
    ∃ u : State, exec .fuseBlowComplete s = .next u ∧ u.service.groups = (v, true) :: s.service.groups.filter (fun p => p.1 != v) ∧
      u.phase = .daybreak ∧ u.reg R.pow_LAST_WAKE = 1) ∧
  (∀ s : State, s.storeAccepts = false → exec .fuseBlowComplete s = .next (s.ran s)) ∧
  (∀ (w : Who) (l : List Byte) (s : State), s.mayWrite w R.lc_DEV_DIGEST 0 = true → l.length = 48 → s.service.devDigest = none →
    s.reg R.lc_STATE ≤ 1 →
    exec (.devDigest w l) s = .next (s.ran (s.onService fun x => { x with devDigest := some l }).ok)) ∧
  (∀ (w : Who) (l : List Byte) (s : State), s.mayWrite w R.lc_SERVICE_KEY_DIGEST 0 = true → l.length = 48 →
    s.service.serviceKeyDigest = none → s.reg R.lc_STATE ≤ 1 →
    exec (.serviceKeyDigest w l) s = .next (s.ran (s.onService fun x => { x with serviceKeyDigest := some l }).ok)) ∧
  (∀ (w : Who) (l : List Byte) (s : State), s.mayWrite w R.lc_IMAGE_KEY 0 = true → l.length = 32 → s.service.imageKey = none →
    s.reg R.lc_STATE ≤ 1 →
    exec (.imageKey w l) s = .next (s.ran (s.onService fun x => { x with imageKey := some l }).ok)) ∧
  (∀ (source : Nat) (rest : List Nat) (s : State), s.scratch.recovery = source :: rest → s.dusk.core1.haltedAt = none → s.boot.restarting = false →
    s.boot.stopped = false → s.boot.done.contains 5 = true →
    ∃ u, exec .tamperRecovery s = .next u ∧ u.scratch.recovery = rest ∧ u.reg R.dbg_SESSION = 0 ∧
      u.reg R.adm_BUSY = b2n (s.adm.checking.isSome || !rest.isEmpty) ∧
      u.reg R.tmp_TAMPERS = (s.reg R.tmp_TAMPERS + 1) % 2 ^ R.tmp_TAMPERS.bits ∧ u = s.ran (s.tamperRecovery source))

/-- R540, R570, Table 20.2. The instructions of the test access port: IDCODE answers 0x2A5646DB; SAMPLE/PRELOAD captures the cells, whose values the
pins bring; the ones of the SCAN right select BYPASS without it; SVC shifts bytes out and in, idle zeros changing nothing else, and zeros only in
END; Test-Logic-Reset ends a service session; a low TRST_N holds the port in Test-Logic-Reset, which selects IDCODE, whatever is shifted.
Model readings: log entries 185, 287 and 290. -/
def Obligations.TapInstructionsTakeEffect : Prop :=
  (∀ s : State, exec .tapBypass s = .next (s.ran (s.tapTo 0xFF))) ∧
  (∀ s : State, s.board.trstN = true → exec .tapIdcode s = .next (s.ran ((s.tapTo 0x01).answerWith [0xDB, 0x46, 0x56, 0x2A]))) ∧
  (∀ s : State, s.board.trstN = true →
    exec .tapSamplePreload s = .next (s.ran ((s.tapTo 0x02).took.onService fun x => { x with cells := s.freeBits scanPins.length }))) ∧
  (∀ s : State, s.board.trstN = false → exec .tapIdcode s = .next (s.ran (s.tapTo 0x01)) ∧
    exec .tapSamplePreload s = .next (s.ran (s.tapTo 0x01)) ∧ exec .tapBypass s = .next (s.ran (s.tapTo 0x01))) ∧
  (∀ s : State, (s.reg R.dbg_RIGHTS).testBit 3 = true →
    exec .tapExtest s = .next (s.ran (s.tapTo 0x03)) ∧ exec .tapClamp s = .next (s.ran (s.tapTo 0x04)) ∧
      exec .tapHighz s = .next (s.ran (s.tapTo 0x05))) ∧
  (∀ s : State, (s.reg R.dbg_RIGHTS).testBit 3 = false →
    exec .tapExtest s = .next (s.ran (s.tapTo 0xFF)) ∧ exec .tapClamp s = .next (s.ran (s.tapTo 0xFF)) ∧
      exec .tapHighz s = .next (s.ran (s.tapTo 0xFF))) ∧
  (∀ (data : List Byte) (v : State) (s : State), s.board.trstN = true → s.reg R.lc_STATE ≠ 4 →
    v = ((s.tapTo 0x10).onService fun x => { x with out := x.out.drop data.length, stream := x.stream ++ data }) →
    ∃ u, exec (.tapSvc data) s = .next u ∧ u.reply = ⟨true, 0, (padTo data.length s.service.out).take data.length⟩ ∧
      (s.service.stream = [] → s.service.skipping = false → (∀ b ∈ data, b = 0) →
        u.service = { s.service with tap := 0x10, out := s.service.out.drop data.length }) ∧
      u = s.ran ((v.pumpRecords (s.service.stream ++ data).length).answerWith ((padTo data.length s.service.out).take data.length))) ∧
  (∀ (data : List Byte) (s : State), s.board.trstN = true → s.reg R.lc_STATE = 4 →
    exec (.tapSvc data) s = .next (s.ran ((s.tapTo 0x10).answerWith (List.replicate data.length 0)))) ∧
  (∀ (data : List Byte) (s : State), s.board.trstN = false → exec (.tapSvc data) s = .next (s.ran (s.tapTo 0x01))) ∧
  (∀ s : State, ∃ u, exec .testLogicReset s = .next u ∧ u.service.tap = 0x01 ∧ u.reg R.dbg_SESSION = 0 ∧
    u = s.ran ((s.endService 0).tapTo 0x01))

/-- R541 to R544. Authentication: HELLO in BLANK opens a session with every right at once, in END and during a lockout it is refused, else it
makes a challenge; a PASSWORD whose digest is the fused one opens a DEVELOP session with every right; a KEYX whose key is the fused one, or in
RETURN Nerond's, opens one with the rights asked for and the key of the two secrets if its signature verifies, and is refused if not;
an OBP record inside a session is one frame of class SERVICE; a session ends after its timeout or by COMMAND.
Model readings: log entries 176, 177 and 178. -/
def Obligations.ServiceSessionsOpenAndEnd : Prop :=
  (∀ (t : Nat) (v : State) (s : State), s.board.trstN = true → (s.reg R.lc_STATE = 4 ∨ (s.advanceTo t).mono < s.service.lockUntil) →
    v = (((s.advanceTo t).endService 5).onService fun x => { x with challenge := none }) →
    ∃ u, exec (.hello t) s = .next u ∧ u.reg R.dbg_SESSION = 0 ∧ u.service.challenge = none ∧
      u.reg R.dbg_FAILS = (s.reg R.dbg_FAILS + 1) % 2 ^ R.dbg_FAILS.bits ∧
      u = s.ran (if s.reg R.lc_STATE = 4 then v.refuseAuth 3 2 else v.refuseAuth 2 1)) ∧
  (∀ (t : Nat) (s : State), s.board.trstN = true → s.reg R.lc_STATE = 0 → s.service.lockUntil ≤ (s.advanceTo t).mono →
    ∃ u, exec (.hello t) s = .next u ∧ u.reg R.dbg_SESSION = 1 ∧ u.reg R.dbg_RIGHTS = 0x3F ∧ u.reg R.dbg_FAILS = 0 ∧
      u.service.key = none ∧ u.service.lastRecord = (s.advanceTo t).mono ∧
      u = s.ran ((((s.advanceTo t).endService 5).onService fun x => { x with challenge := none }).grantAuth 1 0x3F none)) ∧
  (∀ (t : Nat) (s : State), s.board.trstN = true → s.reg R.lc_STATE ≠ 4 → s.reg R.lc_STATE ≠ 0 → s.service.lockUntil ≤ (s.advanceTo t).mono →
    ∃ u, exec (.hello t) s = .next u ∧ u.reg R.dbg_SESSION = 0 ∧ u.service.challenges = s.service.challenges + 1 ∧
      (u.service.challenge.map Challenge.number) = some s.service.challenges ∧
      u = s.ran (((s.advanceTo t).endService 5).onService fun x => { x with challenge := none }).newChallenge) ∧
  (∀ (t : Nat) (secret : List Byte) (c : Challenge) (s : State), s.reg R.lc_STATE = 1 → s.service.challenge = some c →
    some (sha384 (secret ++ leBytes 8 (s.reg R.ident_UNIQUE_ID))) = s.service.devDigest →
    ∃ u, exec (.password t secret) s = .next u ∧ u.reg R.dbg_SESSION = 2 ∧ u.reg R.dbg_RIGHTS = 0x3F ∧ u.reg R.dbg_FAILS = 0 ∧
      u.service.challenge = none ∧ u = s.ran ((s.advanceTo t).heardRecord.spendChallenge.grantAuth 2 0x3F none)) ∧
  (∀ (t : Nat) (secret : List Byte) (s : State), s.reg R.lc_STATE = 1 →
    (s.service.challenge = none ∨ some (sha384 (secret ++ leBytes 8 (s.reg R.ident_UNIQUE_ID))) ≠ s.service.devDigest) →
    ∃ u, exec (.password t secret) s = .next u ∧ u.reg R.dbg_SESSION = s.reg R.dbg_SESSION ∧ u.service.challenge = none ∧
      u.reg R.dbg_FAILS = (s.reg R.dbg_FAILS + 1) % 2 ^ R.dbg_FAILS.bits ∧ u = s.ran ((s.advanceTo t).heardRecord.spendChallenge.refuseAuth 1 0)) ∧
  (∀ (t rights : Nat) (qt pubkey sig : List Byte) (c : Challenge) (ok : Bool) (s : State),
    s.reg R.lc_STATE = 2 ∨ s.reg R.lc_STATE = 3 → s.service.challenge = some c →
    ok = (some (sha384 pubkey) == (if s.reg R.lc_STATE = 2 then s.service.serviceKeyDigest else some Config.returnKeyDigest) &&
      Config.ecdsaVerify pubkey (sha384 (c.nd ++ c.qd ++ qt ++ leBytes 8 (s.reg R.ident_UNIQUE_ID) ++ leBytes 1 rights)) sig) →
    ∃ u, exec (.keyx t rights qt pubkey sig) s = .next u ∧ u.service.challenge = none ∧
      (ok = true → u.reg R.dbg_SESSION = 3 ∧ u.reg R.dbg_RIGHTS = rights % 2 ^ R.dbg_RIGHTS.bits ∧ u.reg R.dbg_FAILS = 0 ∧
        u.service.key = some ((sha384 (padTo 48 (Config.ecdhSecret c.number qt) ++ c.nd)).take 32) ∧
        u.service.tagsIn = 0 ∧ u.service.tagsOut = 0) ∧
      (ok = false → u.reg R.dbg_SESSION = s.reg R.dbg_SESSION ∧ u.reg R.dbg_FAILS = (s.reg R.dbg_FAILS + 1) % 2 ^ R.dbg_FAILS.bits)) ∧
  (∀ (t : Nat) (frame : List Byte) (s : State), s.on R.dbg_SESSION = true →
    (s.advanceTo t).silent.dictAnswers ⟨.service, none⟩ = true →
    ∃ u, exec (.serviceObpRecord t frame) s = .next u ∧ u.service.lastRecord = (s.advanceTo t).mono ∧
      (∀ (a b c d : List Request) (rest : List (List Request)), s.steward.queues = a :: b :: c :: d :: rest → d.length < 64 →
        parseFrame frame ≠ none → u.steward.queues = a :: b :: c :: (d ++ [⟨.service, frame, false⟩]) :: rest) ∧
      u = s.ran (((s.advanceTo t).silent.onService fun x => { x with lastRecord := (s.advanceTo t).mono }).takeFrame .service frame)) ∧
  (∀ (t : Nat) (s : State), s.service.lastRecord + s.reg R.dbg_TIMEOUT * 1000000000 ≤ (s.advanceTo t).mono →
    ∃ u, exec (.serviceSessionTimeout t) s = .next u ∧ u.reg R.dbg_SESSION = 0 ∧ (s.on R.dbg_SESSION = true → u.reg R.dbg_RIGHTS = 0) ∧
      u = s.ran ((s.advanceTo t).endService 1)) ∧
  (∀ (w : Who) (s : State), s.mayWrite w R.dbg_COMMAND 0 = true →
    ∃ u, exec (.serviceEnd w) s = .next u ∧ u.reg R.dbg_SESSION = 0 ∧ u.reply = ⟨true, 0, []⟩ ∧ u = s.ran (s.endService 2).ok)

/-- R545, R546, R547, R550. The debug operations on the cores: HALT at the next boundary, RESUME with the watchdog counting on and event 0xA005,
STEP to the next boundary; a BREAK or a WATCH unit that matches counts HITS and acts; a FIX unit serves a fetch of core 1, which counts HITS: the
instruction of its patch word runs, and no other.
Model readings: log entries 183, 184, 236 and 288. -/
def Obligations.DebugControlsTheCores : Prop :=
  (∀ (t c : Nat) (s : State), s.on R.dbg_SESSION = true → (s.reg R.dbg_RIGHTS).testBit 0 = true → s.coreAwake c = true →
    ∃ u, exec (.debugHalt t c) s = .next u ∧
      (c < 2 → (s.core c).atBoundary = true → (s.core c).stepFrom = none →
        u.coreHalted c = true ∧ (u.core c).haltedAt = some (s.advanceTo t).mono) ∧
      (c < 2 → (s.core c).atBoundary = false → (u.core c).haltDue = some (0, 0)) ∧
      u = s.ran (((s.advanceTo t).heardRecord.haltSoon c 0 0).debugReply 1 c 0 0 0)) ∧
  (∀ (t c age : Nat) (v w : State) (s : State), s.on R.dbg_SESSION = true → (s.reg R.dbg_RIGHTS).testBit 0 = true → c < 2 →
    s.coreHalted c = true → age = min ((s.advanceTo t).frozenAge c) ((s.reg R.core_WDT_CLOSE c - 1000) * 1000) →
    v = (s.advanceTo t).heardRecord.leaveHalt c age none →
    w = (if (s.reg R.core_WDT_CLOSE c - s.reg R.core_WDT_WARN c) * 1000 ≤ age then (v.onCore c fun k => { k with warned := true }).raiseCoreLine c 4
      else v) →
    ∃ u, exec (.coreResume t c) s = .next u ∧
      u = s.ran ((if c = 1 then (w.raise 0xA005 c).recoverIfDue else w.raise 0xA005 c).debugReply 2 c 0 0 0) ∧
      ((c = 0 ∨ s.scratch.recovery = []) → (u.core c).haltedAt = none ∧ (u.core c).haltDue = none ∧
        (u.core c).kickAt = (s.advanceTo t).mono - age ∧ ((s.core c).wasIdle = false → u.coreRuns c = true))) ∧
  (∀ (t c : Nat) (s : State), s.on R.dbg_SESSION = true → (s.reg R.dbg_RIGHTS).testBit 0 = true → c < 2 → s.coreHalted c = true →
    ∃ u, exec (.debugStep t c) s = .next u ∧
      ((s.core c).wasIdle = false → (u.core c).haltedAt = none ∧ (u.core c).haltDue = some (1, 0) ∧ u.coreRuns c = true ∧
        (u.core c).stepFrom = some ((s.advanceTo t).mono, s.reg R.core_CYCLES c)) ∧
      u = s.ran (((s.advanceTo t).heardRecord.leaveHalt c ((s.advanceTo t).frozenAge c) (some (1, 0))).debugReply 3 c 0 0 0)) ∧
  (∀ (n : Nat) (s : State), n < 32 → s.reg R.pu_MODE n = 2 → s.coreRuns (s.reg R.pu_CORE n) = true →
    (s.core (s.reg R.pu_CORE n)).asks = [] → (s.core (s.reg R.pu_CORE n)).pc = s.reg R.pu_ADDRESS n → n ∉ (s.core (s.reg R.pu_CORE n)).met →
    ∃ u, exec (.patchBreakHit n) s = .next u ∧ u.reg R.pu_HITS n = (s.reg R.pu_HITS n + 1) % 2 ^ R.pu_HITS.bits ∧
      (s.reg R.pu_CORE n < 2 → s.reg R.pu_ACTION n = 0 → s.on R.dbg_SESSION = true → (s.core (s.reg R.pu_CORE n)).atBoundary = true →
        u.coreHalted (s.reg R.pu_CORE n) = true) ∧
      u = s.ran (s.breakHits (s.reg R.pu_CORE n) [n])) ∧
  (∀ (n : Nat) (a : WatchAccess) (s : State), n < 32 → s.reg R.pu_MODE n = 3 → a.core = s.reg R.pu_CORE n → s.coreRuns a.core = true →
    a.addr &&& s.reg R.pu_MASK n = s.reg R.pu_ADDRESS n &&& s.reg R.pu_MASK n →
    (s.reg R.pu_ACCESS n = 2 ∨ s.reg R.pu_ACCESS n = b2n a.write) →
    ∃ u, exec (.patchWatchHit n a) s = .next u ∧ u.reg R.pu_HITS n = (s.reg R.pu_HITS n + 1) % 2 ^ R.pu_HITS.bits ∧
      (a.core < 2 → s.reg R.pu_ACTION n = 0 → s.on R.dbg_SESSION = true → (s.core a.core).atBoundary = true → u.coreHalted a.core = true) ∧
      u = s.ran (if s.patchHalts n then (s.patchCount n).haltSoon a.core 3 n else s.patchCount n)) ∧
  (∀ (n w : Nat) (s : State), s.fixUnit 1 = some n → s.fixWord 1 = some w → duskEncode (.duskNop 1) = some w → s.coreRuns 1 = true →
    (s.core 1).asks = [] → s.breakUnits 1 = [] → (s.core 1).placeFault 1 plain = none →
    ∃ u, exec (.duskNop 1) s = .next u ∧ u.reg R.pu_HITS n = (s.reg R.pu_HITS n + 1) % 2 ^ R.pu_HITS.bits ∧
      u = s.ran ((s.inc R.pu_HITS n).issued 1 id)) ∧
  (∀ (w dst a b : Nat) (s : State), dst < 8 → a < 8 → b < 8 → s.fixWord 1 = some w → duskEncode (.duskAdd 1 dst a b) ≠ some w →
    exec (.duskAdd 1 dst a b) s = .next (s.ran s))

/-- R541, R545, R549, R551. The debug operations on a halted core's registers, its ports, its data and, of core 0, its program, on the firmware
store, RESET, and the words of the terminal in each direction.
Model readings: log entries 182, 184, 288 and 289. -/
def Obligations.DebugAccessesTakeEffect : Prop :=
  (∀ (c addr v : Nat) (take : Bool) (s : State), s.on R.dbg_SESSION = true → (s.reg R.dbg_RIGHTS).testBit 0 = true → c < 2 →
    s.coreHalted c = true → (s.core c).debugReg addr = some v →
    ∃ u, exec (.rdReg c addr take) s = .next u ∧
      (s.service.key = none → u.service.out = s.service.out ++ ([3, 12, 0] ++ (leBytes 1 4 ++ leBytes 1 c ++ [0, 0] ++ leBytes 4 addr ++ leBytes 4 v))) ∧
      u = s.ran (s.heardRecord.debugReply 4 c 0 addr v)) ∧
  (∀ (c port v : Nat) (s : State), s.on R.dbg_SESSION = true → (s.reg R.dbg_RIGHTS).testBit 0 = true → c < 2 →
    s.coreHalted c = true → inPort c port = true → s.portPeek c (s.core c) port = some v →
    exec (.rdReg c (0x1000 + port) false) s = .next (s.ran (s.heardRecord.debugReply 4 c 0 (0x1000 + port) (v % 2 ^ 16)))) ∧
  (∀ (c port : Nat) (s : State), s.on R.dbg_SESSION = true → (s.reg R.dbg_RIGHTS).testBit 0 = true → c < 2 →
    s.coreHalted c = true → inPort c port = true →
    exec (.rdReg c (0x1000 + port) true) s = .next (s.ran
      ((s.heardRecord.portTake c (s.core c) port).1.debugReply 4 c 0 (0x1000 + port) (s.heardRecord.portTake c (s.core c) port).2))) ∧
  (∀ (c port data : Nat) (s : State), s.on R.dbg_SESSION = true → (s.reg R.dbg_RIGHTS).testBit 0 = true → c < 2 →
    s.coreHalted c = true → outPort c port = true →
    exec (.wrReg c (0x1000 + port) data) s = .next (s.ran
      ((s.heardRecord.portPut c port (data % 2 ^ 16)).debugReply 5 c 0 (0x1000 + port) data))) ∧
  (∀ (c addr data : Nat) (s : State), s.on R.dbg_SESSION = true → (s.reg R.dbg_RIGHTS).testBit 0 = true → c < 2 →
    s.coreHalted c = true → addr ≤ 16 →
    ∃ u, exec (.wrReg c addr data) s = .next u ∧ (addr = 12 → (u.core c).pc = pcWrap c data ∧ (u.core c).slots = 0 ∧ (u.core c).rep = 0) ∧
      u = s.ran ((s.heardRecord.onCore c fun k => Core.putDebugReg c k addr data).debugReply 5 c 0 addr data)) ∧
  (∀ (c addr : Nat) (s : State), s.on R.dbg_SESSION = true → (s.reg R.dbg_RIGHTS).testBit 0 = true → c < 2 →
    s.coreHalted c = true → dataExists c addr = true →
    exec (.rdData c addr) s = .next (s.ran ((s.heardRecord.loadData c addr).1.debugReply 6 c 0 addr (s.heardRecord.loadData c addr).2))) ∧
  (∀ (c addr data : Nat) (s : State), s.on R.dbg_SESSION = true → (s.reg R.dbg_RIGHTS).testBit 0 = true → c < 2 →
    s.coreHalted c = true → dataExists c addr = true →
    exec (.wrData c addr data) s = .next (s.ran ((s.heardRecord.storeData c addr (data % 2 ^ 16)).debugReply 7 c 0 addr data))) ∧
  (∀ (addr data : Nat) (s : State), s.on R.dbg_SESSION = true → (s.reg R.dbg_RIGHTS).testBit 0 = true → s.coreHalted 0 = true →
    addr < 4096 →
    ∃ u, exec (.wrProg 0 addr data) s = .next u ∧ tget (fun _ => 0) u.dusk.core0.prog addr = withParity 32 data ∧
      (∀ a, a ≠ addr → tget (fun _ => 0) u.dusk.core0.prog a = tget (fun _ => 0) s.dusk.core0.prog a) ∧
      u = s.ran
        ((s.heardRecord.onCore 0 fun k => { k with prog := tput (fun _ => 0) addr (withParity 32 data) k.prog, words := max k.words (addr + 1) }).debugReply
          8 0 0 addr data)) ∧
  (∀ (addr data : Nat) (s : State), s.on R.dbg_SESSION = true → (s.reg R.dbg_RIGHTS).testBit 0 = true → s.coreHalted 1 = true →
    exec (.wrProg 1 addr data) s = .next (s.ran (s.heardRecord.debugReply 8 1 2 addr data))) ∧
  (∀ (addr : Nat) (s : State), s.on R.dbg_SESSION = true → (s.reg R.dbg_RIGHTS).testBit 1 = true → addr % 4 = 0 → addr < firmwareBytes →
    exec (.rdStore addr) s = .next (s.ran
      (s.heardRecord.debugReply 9 2 0 addr (tget (fun a => Config.firmwareStore a % 2 ^ 32) s.service.store (addr / 4))))) ∧
  (∀ (addr data : Nat) (s : State), s.on R.dbg_SESSION = true → (s.reg R.dbg_RIGHTS).testBit 1 = true → addr % 4 = 0 → addr < firmwareBytes →
    s.coreHalted 1 = true → s.storeAccepts = true →
    ∃ u, exec (.wrStore addr data) s = .next u ∧
      tget (fun a => Config.firmwareStore a % 2 ^ 32) u.service.store (addr / 4) = data % 2 ^ 32 ∧
      u = s.ran
        (((s.heardRecord.onService fun x => { x with store := tput (fun a => Config.firmwareStore a % 2 ^ 32) (addr / 4) (data % 2 ^ 32) x.store }).raise
          0xA009 addr).debugReply 10 2 0 addr data)) ∧
  (∀ (s : State), s.on R.dbg_SESSION = true → (s.reg R.dbg_RIGHTS).testBit 5 = true →
    ∃ u, exec .debugReset s = .next u ∧ u.phase = .daybreak ∧ u.reg R.pow_LAST_WAKE = 1 ∧ u = s.ran (s.fullReset 1)) ∧
  (∀ (word : Nat) (s : State), s.on R.dbg_SESSION = true → s.heardRecord.serveTerminal.service.termIn = none →
    ∃ u, exec (.termRecord true false word) s = .next u ∧ u.service.termIn = some (word % 2 ^ 32) ∧
      u = s.ran
        ((s.heardRecord.serveTerminal.onService fun x => { x with termIn := some (word % 2 ^ 32) }).sendRecord 4
          (leBytes 1 (5 + 2 * b2n s.heardRecord.serveTerminal.service.termOut.isSome) ++ [0, 0, 0] ++ leBytes 4 (s.heardRecord.serveTerminal.service.termOut.getD 0)))) ∧
  (∀ (word x : Nat) (s : State), s.on R.dbg_SESSION = true → s.heardRecord.serveTerminal.service.termOut = some x →
    exec (.termRecord false true word) s = .next (s.ran
      (((s.heardRecord.serveTerminal.onService fun y => { y with termOut := none }).fillTermOut).sendRecord 4
        (leBytes 1 (b2n s.heardRecord.serveTerminal.service.termIn.isSome + 2) ++ [0, 0, 0] ++ leBytes 4 x))))

/-! ## Power, monitoring, reset and start (chapters 16 and 17) -/

/-- R465, R466, R467, R468, R470, R471. The power commands: OFF begins a domain's drain and ON its power-on, neither outside ACTIVE;
STANDBY and NIGHTFALL begin their sequences from the states Table 16.6 gives them, a quad that is ON draining first; RESUME brings the domains
that were off back, once no stack is left in self-refresh.
Model readings: log entries 154 and 155. -/
def Obligations.PowerCommandsTakeEffect : Prop :=
  (∀ (w : Who) (d : Nat) (s : State), s.mayWrite w R.dom_COMMAND d = true → ¬ (104 ≤ d ∧ d ≤ 106) → s.isActive = true →
    s.reg R.dom_STATE d = 0 → s.domainBusy d = false →
    ∃ u, exec (.domainOff w d) s = .next u ∧ u.reg R.dom_STATE d = 1 ∧ u.power.drains = s.power.drains ++ [(d, s.mono)] ∧
      u.reply = ⟨true, 0, []⟩ ∧ (∀ g ∈ domainStops d, s.reg R.stop_STATE g ≠ 3 → u.reg R.stop_STATE g = 1) ∧
      u = s.ran (s.domDrain d).ok) ∧
  (∀ (w : Who) (d : Nat) (s : State), s.mayWrite w R.dom_COMMAND d = true → ¬ (104 ≤ d ∧ d ≤ 106) → s.isActive = true →
    s.reg R.dom_STATE d = 2 → (d < 100 ∨ s.on R.cfg_SOURCE = false) →
    ∃ u, exec (.domainOn w d) s = .next u ∧ u.reg R.dom_STATE d = 3 ∧ u.reply = ⟨true, 0, []⟩ ∧ u = s.ran (s.domState d 3).ok) ∧
  (∀ (w : Who) (d : Nat) (s : State), s.mayWrite w R.dom_COMMAND d = true → ¬ (104 ≤ d ∧ d ≤ 106) → s.isActive = false →
    exec (.domainOff w d) s = .next (s.ran s.stateError) ∧ exec (.domainOn w d) s = .next (s.ran s.stateError)) ∧
  (∀ (w : Who) (s : State), s.mayWrite w R.pow_COMMAND 0 = true → s.isActive = true → s.powerBusy = false →
    ∃ u, exec (.standby w) s = .next u ∧ u.reply = ⟨true, 0, []⟩ ∧
      (∀ q < 64, s.reg R.dom_STATE (4 + q) = 0 → 4 + q ∉ s.power.refreshing →
        u.reg R.dom_STATE (4 + q) = 1 ∧ u.reg R.pow_STATE = 1) ∧
      u = s.ran (s.startSequence 1 false).ok) ∧
  (∀ (w : Who) (s : State), s.mayWrite w R.pow_COMMAND 0 = true → (s.isActive = true ∨ s.reg R.pow_STATE = 2) → s.powerBusy = false →
    ∃ u, exec (.nightfall w) s = .next u ∧ u.reply = ⟨true, 0, []⟩ ∧
      (∀ q < 64, s.reg R.dom_STATE (4 + q) = 0 → 4 + q ∉ s.power.refreshing →
        u.reg R.dom_STATE (4 + q) = 1 ∧ u.reg R.pow_STATE = 4) ∧
      u = s.ran (s.startSequence 2 false).ok) ∧
  (∀ (w : Who) (s : State), s.mayWrite w R.pow_COMMAND 0 = true → s.reg R.pow_STATE = 2 →
    ∃ u, exec (.powerResume w) s = .next u ∧ u.reply = ⟨true, 0, []⟩ ∧ u = s.ran ((s.powerState 3 0).checkResumed).ok ∧
      (s.power.refreshing ≠ [] → u.reg R.pow_STATE = 3 ∧ u.power.slept = s.power.slept) ∧
      (s.power.refreshing = [] → u.reg R.pow_STATE = 0 ∧ u.power.slept = [] ∧ ∀ d ∈ s.power.slept, u.reg R.dom_STATE d = 3))

/-- R465, R466, R467, R470, R472, R473, R474, R477, R478. The events of power and monitoring: a drain that completes turns its domain off, one that
exceeds its limit is abandoned with event 0x8204, or takes the Nightfall back, and a trip cuts it after 1 ms; a domain that is powered is ready, and a
stack leaves self-refresh; the converted code enters its channel and the ADC walks on, the eighth hot one in a row tripping; TRIP, a stack at 105 °C for
1 ms and the wake sources act on the island.
Model readings: log entries 156, 157, 158, 159, 160 and 162. -/
def Obligations.PowerEventsTakeEffect : Prop :=
  (∀ (t d b : Nat) (s : State), d < 107 → s.drainBegan d = some b → (s.advanceTo t).drained d = true →
    ∃ u, exec (.drainComplete t d) s = .next u ∧
      (s.power.doing = 0 → s.sched.arrived = [] → u.reg R.dom_STATE d = 2 ∧ u.drainBegan d = none) ∧
      u = s.ran (if s.power.doing = 1 ∧ d < 4 ∧ s.reg R.dom_STATE d = 0 then
          (State.sequence 8 ((((s.advanceTo t).domDrained d).stopsTo d 2).selfRefresh d)).takeArrived
        else (State.sequence 8 ((s.advanceTo t).powerOff d)).takeArrived)) ∧
  (∀ (t d b : Nat) (s : State), d < 107 → s.drainBegan d = some b →
    b + s.reg R.pow_DRAIN_LIMIT * 1000000 ≤ (s.advanceTo t).mono → s.power.doing = 2 → s.power.trip = false →
    exec (.drainAbandon t d) s = .next (s.ran ((s.advanceTo t).abandonNightfall d))) ∧
  (∀ (t d b : Nat) (s : State), d < 107 → s.drainBegan d = some b →
    b + s.reg R.pow_DRAIN_LIMIT * 1000000 ≤ (s.advanceTo t).mono → s.power.doing ≠ 2 →
    ∃ u, exec (.drainAbandon t d) s = .next u ∧
      (s.power.doing = 0 → u.reg R.dom_STATE d = 0 ∧ u.drainBegan d = none ∧
        u.reg R.pow_ABANDONED = (s.reg R.pow_ABANDONED + 1) % 2 ^ R.pow_ABANDONED.bits) ∧
      u = s.ran
        (State.sequence 8 ((((((s.advanceTo t).domDrained d).unitReady d).inc R.pow_ABANDONED).onPower fun p =>
          { p with slept := p.slept.erase d }).raise 0x8204 d))) ∧
  (∀ (t d b : Nat) (s : State), d < 107 → s.drainBegan d = some b → s.power.doing = 2 →
    s.power.trip = true → b + 1000000 ≤ (s.advanceTo t).mono →
    ∃ u, exec (.tripDrainCut t d) s = .next u ∧
      (∀ e ∈ powerGroup 2 s.power.group, e ≠ d → s.drainBegan e ≠ none → s.sched.arrived = [] →
        u.reg R.dom_STATE d = 2 ∧ u.drainBegan d = none ∧
        u.reg R.pow_ABANDONED = (s.reg R.pow_ABANDONED + 1) % 2 ^ R.pow_ABANDONED.bits) ∧
      u = s.ran (State.sequence 8 ((((s.advanceTo t).powerOff d).inc R.pow_ABANDONED).raise 0x8204 (d + 256))).takeArrived) ∧
  (∀ (t d : Nat) (image : List Byte) (results : List TrainResult) (s : State), d < 4 → s.reg R.pow_STATE ≠ 3 → s.reg R.dom_STATE d = 3 →
    ∃ u, exec (.domainPowerOnComplete t d image results) s = .next u ∧ (s.power.revive.contains d = false → u.reg R.dom_STATE d = 0) ∧
      u = s.ran ((((s.advanceTo t).trainStack d results).unitReady d).revived d)) ∧
  (∀ (t d : Nat) (image : List Byte) (results : List TrainResult) (s : State), 4 ≤ d → d < 100 → s.reg R.pow_STATE ≠ 3 →
    s.reg R.dom_STATE d = 3 →
    ∃ u, exec (.domainPowerOnComplete t d image results) s = .next u ∧ (s.power.revive.contains d = false → u.reg R.dom_STATE d = 0) ∧
      u = s.ran (((s.advanceTo t).unitReady d).revived d)) ∧
  (∀ (t d : Nat) (image : List Byte) (results : List TrainResult) (s : State), 100 ≤ d → d < 104 → s.reg R.pow_STATE ≠ 3 →
    s.reg R.dom_STATE d = 3 →
    exec (.domainPowerOnComplete t d image results) s = .next (s.ran (((s.advanceTo t).reloadQuadrant (d - 100) image).revived d))) ∧
  (∀ (t k : Nat) (image : List Byte) (results : List TrainResult) (s : State), k < 4 → s.reg R.pow_STATE = 3 → k ∈ s.power.refreshing →
    ∃ u, exec (.domainPowerOnComplete t k image results) s = .next u ∧
      (∀ j, j ≠ k → j ∈ s.power.refreshing → u.power.refreshing = s.power.refreshing.erase k ∧ u.reg R.pow_STATE = 3) ∧
      u = s.ran ((s.advanceTo t).leaveRefresh k).checkResumed) ∧
  (∀ (t code c : Nat) (v : State) (s : State), v = (s.advanceTo t).waitUntil s.power.adcAt → nth s.power.walk s.power.pos 0 = c →
    (24 ≤ c ∨ code % 4096 < 3300) →
    ∃ u, exec (.adcSample t code) s = .next u ∧ u.reg R.adc_CODE c = code % 4096 ∧ u.power.adcAt = v.mono + 1000 ∧
      u.regI R.adc_VALUE c = adcValue c (code % 4096) ∧
      (s.power.pos + 1 < s.power.walk.length → u.power.pos = s.power.pos + 1 ∧ u.power.walk = s.power.walk) ∧
      (36 ≤ c → u = s.ran
        (((v.onPower fun p => { p with adcAt := v.mono + 1000 }).sampleTo c (code % 4096)).samplePush c (code % 4096)).walkOn)) ∧
  (∀ (t code c : Nat) (s : State), nth s.power.walk s.power.pos 0 = c → c < 24 → 3300 ≤ code % 4096 →
    runOf s.power.hot c true ≠ 8 →
    ∃ u, exec (.adcSample t code) s = .next u ∧ u.reg R.adc_CODE c = code % 4096 ∧
      tget (fun _ => 0) u.power.hot c = runOf s.power.hot c true) ∧
  (∀ (t code c : Nat) (v : State) (s : State), v = (s.advanceTo t).waitUntil s.power.adcAt → nth s.power.walk s.power.pos 0 = c → c < 24 →
    3300 ≤ code % 4096 → runOf s.power.hot c true = 8 →
    exec (.adcSample t code) s = .next (s.ran
      ((((((v.onPower fun p => { p with adcAt := v.mono + 1000 }).sampleTo c (code % 4096)).samplePush c (code % 4096)).walkOn).onPower fun p =>
        { p with hot := tput (fun _ => 0) c 8 p.hot }).thermalTrip 0 c 0))) ∧
  (∀ s : State, ∃ u, exec .adcDataRead s = .next u ∧
    (s.power.fifo = [] → u.reply = ⟨true, 0, [0, 0]⟩) ∧
    (∀ (c code : Nat) (rest : List (Nat × Nat)), s.power.fifo = (c, code) :: rest →
      u.power.fifo = rest ∧ u.power.chan = c ∧ u.reply = ⟨true, 0, leBytes 2 code⟩)) ∧
  (∀ (t value : Nat) (s : State), s.coreRuns 0 = true →
    ∃ u, exec (.tripPortWrite t value) s = .next u ∧
      (s.power.doing = 2 → s.power.revive = [] → s.phase ≠ .held → s.phase ≠ .dark → u.power.trip = true ∧
        u.reg R.pow_LAST_TRIP_CAUSE = 2 ∧
        u.reg R.pow_TRIPS = (s.reg R.pow_TRIPS + 1) % 2 ^ R.pow_TRIPS.bits) ∧
      u = s.ran ((s.advanceTo t).thermalTrip 2 0 (value % 65536))) ∧
  (∀ (t k b : Nat) (s : State), k < 4 → 105 ≤ s.regI R.stk_TEMP k → b = tget (fun _ => 0) s.power.hotStacks k → b ≠ 0 →
    b + 1000000 ≤ (s.advanceTo t).mono + 1 →
    ∃ u, exec (.stackTemperatureTrip t k) s = .next u ∧
      (s.power.doing = 2 → s.power.revive = [] → s.phase ≠ .held → s.phase ≠ .dark → u.power.trip = true ∧
        u.reg R.pow_LAST_TRIP_CAUSE = 1 ∧ u.reg R.pow_TRIPS = (s.reg R.pow_TRIPS + 1) % 2 ^ R.pow_TRIPS.bits) ∧
      u = s.ran ((s.advanceTo t).thermalTrip 1 k 0)) ∧
  (∀ (t : Nat) (s : State), s.coreRuns 0 = true →
    ∃ u, exec (.wakePortWrite t) s = .next u ∧
      (s.phase = .night → s.reg R.pow_LAST_NIGHTFALL ≠ 2 → u.phase = .daybreak ∧ u.reg R.pow_LAST_WAKE = 3) ∧
      (s.phase ≠ .night → s.power.doing = 2 → u.power.held = some (s.power.held.getD 3)) ∧
      u = s.ran ((s.advanceTo t).wakeBy 3)) ∧
  (∀ (t : Nat) (s : State), ∃ u, exec (.wakePin t) s = .next u ∧ u.dusk.core0.irqPend.testBit 5 = true ∧
      (s.phase = .night → s.reg R.pow_LAST_NIGHTFALL ≠ 2 → u.phase = .daybreak ∧ u.reg R.pow_LAST_WAKE = 2) ∧
      (s.phase ≠ .night → s.power.doing = 2 → u.power.held = some (s.power.held.getD 2)) ∧
      u = s.ran (((s.advanceTo t).raiseLine 5).wakeBy 2)) ∧
  (∀ (t b : Nat) (s : State), s.power.timerFrom = some b → s.phase = .night →
    b + s.power.wakeAfter * 1000000000 ≤ (s.advanceTo t).mono →
    ∃ u, exec (.wakeTimer t) s = .next u ∧
      (s.reg R.pow_LAST_NIGHTFALL ≠ 2 → u.phase = .daybreak ∧ u.reg R.pow_LAST_WAKE = 4 ∧ u.power.timerFrom = none) ∧
      u = s.ran ((s.advanceTo t).wakeBy 4))

/-- R6, R481 to R487, R490, R493, R562. A power-on reset and a pin reset begin a full Daybreak and are told apart in LAST_WAKE; a step that may run
completes, step 1 with RESET_N high and every rail in range, steps 1 and 2 with event 0x1009 and nothing else but XSPI_RESET_N's 10 us, and one that may
not changes nothing; step 3 leaves the fuses' values, or zeros after a failed check, and step 4 an empty scratchpad; step 5 takes the first image that
verifies and leaves the device HELD after an earlier failure, or DARK where none does; after the last step the device runs; a steward restart runs
step 5 again and ends with BOOT_COUNT risen and events 0x1009 and 0x1007.
Model readings: log entries 14, 132, 133, 165 and 166. -/
def Obligations.ResetAndDaybreak : Prop :=
  (∀ s : State, exec .powerOnReset s = .next (s.ran (s.fullReset 0)) ∧ exec .pinReset s = .next (s.ran (s.fullReset 1))) ∧
  (∀ s : State, ∃ u v : State, exec .powerOnReset s = .next u ∧ u.reg R.pow_LAST_WAKE = 0 ∧ u.phase = .daybreak ∧ u.boot.done = [] ∧
    exec .pinReset s = .next v ∧ v.reg R.pow_LAST_WAKE = 1 ∧ v.phase = .daybreak ∧ v.boot.done = []) ∧
  (∀ (t n : Nat) (r : StepResult) (s : State), s.stepRuns n = true → (n = 1 → s.board.resetN = true ∧ s.railsOk = true) →
    (match n, r with
      | 1, .ok => True | 2, .ok => True | 3, .ok => True | 3, .fuseCheckFailed => True | 4, .ok => True | 4, .checkers _ => True
      | 6, .profilePins _ _ => True | 7, .image _ _ => True | 8, .trained _ => True | 9, .lanes _ => True | 10, .graphs _ => True
      | _, _ => False) →
    ∃ u : State, exec (.daybreakStepComplete t n r) s = .next u ∧ u.boot.done.head? = some n) ∧
  (∀ (t : Nat) (v s : State), s.stepRuns 1 = true → s.board.resetN = true → s.railsOk = true →
    v = ({ s.advanceTo t with boot := { (s.advanceTo t).boot with done := 1 :: (s.advanceTo t).boot.done } } : State).raise 0x1009
      (1 + (s.advanceTo t).sinceReset * 16) →
    exec (.daybreakStepComplete t 1 .ok) s = .next (s.ran { v with boot := { v.boot with flashFrom := some ((s.advanceTo t).mono + 10000) } })) ∧
  (∀ (t : Nat) (s : State), s.stepRuns 1 = true → (s.board.resetN = false ∨ s.railsOk = false) →
    exec (.daybreakStepComplete t 1 .ok) s = .next (s.ran (s.advanceTo t))) ∧
  (∀ (t : Nat) (s : State), s.stepRuns 2 = true →
    exec (.daybreakStepComplete t 2 .ok) s = .next (s.ran
      (({ s.advanceTo t with boot := { (s.advanceTo t).boot with done := 2 :: (s.advanceTo t).boot.done } } : State).raise 0x1009
        (2 + (s.advanceTo t).sinceReset * 16)))) ∧
  (∀ (t : Nat) (s : State), s.stepRuns 3 = true →
    ∃ u : State, exec (.daybreakStepComplete t 3 .ok) s = .next u ∧ u.reg R.ident_FUSE_CHECK = 1 ∧ u.reg R.ident_SPEED_BIN = 1 ∧
      u.reg R.ident_WAFER < 25 ∧ (u.dom R.ident_LOT).length = 6 ∧ u.reg R.ident_UNIQUE_ID ≠ 0 ∧
      u.reg R.lc_STATE = s.service.lifecycle % 2 ^ R.lc_STATE.bits ∧ u.boot.cause = s.boot.cause) ∧
  (∀ (t : Nat) (s : State), s.stepRuns 3 = true →
    ∃ u : State, exec (.daybreakStepComplete t 3 .fuseCheckFailed) s = .next u ∧ u.reg R.ident_FUSE_CHECK = 0 ∧
      u.reg R.ident_UNIQUE_ID = 0 ∧ u.boot.cause ≠ 0) ∧
  (∀ (t : Nat) (s : State), s.stepRuns 4 = true →
    ∃ u : State, exec (.daybreakStepComplete t 4 .ok) s = .next u ∧ u.scratch.words = []) ∧
  (∀ (t : Nat) (s : State), s.stepRuns 5 = true →
    ∃ u : State, exec (.daybreakStepComplete t 5 .ok) s = .next u ∧
      match s.bootImage with
      | none => u.phase = .dark ∧ u = s.ran (s.advanceTo t).goDark
      | some (image, _) => u.boot.done.head? = some 5 ∧ u.reg R.stw_FW_IMAGE = image % 2 ∧
        u.reg R.stw_BOOT_COUNT = (s.reg R.stw_BOOT_COUNT + 1) % 2 ^ 32 ∧ u.coreRuns 1 = true ∧
        u.phase = (if s.boot.cause = 0 then .daybreak else .held)) ∧
  (∀ (t : Nat) (images : List (List Byte)) (s : State), s.stepRuns 10 = true →
    ∃ u : State, exec (.daybreakStepComplete t 10 (.graphs images)) s = .next u ∧ u.phase = .run) ∧
  (∀ (t n : Nat) (r : StepResult) (s : State), 1 ≤ n → n ≤ 10 → s.stepRuns n = false →
    exec (.daybreakStepComplete t n r) s = .next (s.ran (s.advanceTo t))) ∧
  (∀ (t : Nat) (v s : State), s.boot.restarting = true →
    v = ({ s.advanceTo t with boot := { (s.advanceTo t).boot with restarting := false, restartEnd := some (s.advanceTo t).mono } } : State) →
    ∃ u : State, exec (.stewardRestartComplete t) s = .next u ∧ u.boot.restarting = false ∧
      match s.bootImage with
      | none => u.phase = .dark ∧ u = s.ran v.goDark
      | some (image, failed) => u.reg R.stw_FW_IMAGE = image % 2 ∧
        u.reg R.stw_BOOT_COUNT = (s.reg R.stw_BOOT_COUNT + 1) % 2 ^ 32 ∧
        u = s.ran (((v.bootSteward image failed).raise 0x1009 (5 + v.sinceReset * 16)).raise 0x1007
          (s.boot.restartCause + s.boot.restartCount % 16 * 16)))

/-! ## Log and integrity (chapter 18) and the ensemble (chapter 19) -/

/-- R504, R510, R511, R512, R513, R563. A bit written 1 to LATCHED clears it and leaves the others; ACK releases EVT_N[0] unless an event has been
logged since HEAD was read; CLEAR_PINNED frees the pinned records; RECORDS reads them; the oldest queued record is written with the next SEQ
while every rail of the store is in range (log entry 289), and a drop interval ends after one second with event 0x9003.
Model readings: log entries 15, 17 and 289. -/
def Obligations.LogCommandsTakeEffect : Prop :=
  (∀ (w : Who) (mask : Nat) (s : State), s.mayWrite w R.integ_LATCHED 0 = true → mask < 4096 →
    ∃ u : State, exec (.latched w mask) s = .next u ∧
      (∀ j, u.latched.testBit j = (s.latched.testBit j && !mask.testBit j)) ∧ u.reply = { answered := true, status := 0, value := [] }) ∧
  (∀ (w : Who) (s : State), s.mayWrite w R.integ_ACK 0 = true →
    exec (.ack w) s = .next (s.ran (if s.log.sinceHead then s else s.onLog fun l => { l with evt0 := false }).ok)) ∧
  (∀ (w : Who) (s : State), s.mayWrite w R.log_CLEAR_PINNED 0 = true →
    exec (.clearPinned w) s = .next (s.ran (s.onLog fun l => { l with pinned := [] }).ok)) ∧
  (∀ (w : Who) (s : State), s.dictAnswers w = true → s.readsClosed w 0x9001 = false →
    exec (.records w) s = .next (s.ran (s.answerWith s.recordsValue))) ∧
  (∀ (t : Nat) (r : EvRec) (rest : List EvRec) (s : State), s.log.queue = r :: rest →
    (s.advanceTo t).recentWrites.length < 4000 → s.storeAccepts = true → (s.dusk.core1.haltedAt = none ∨ s.phase = .night) →
    ∃ u, exec (.logRecordWrite t) s = .next u ∧ u.log.nextSeq = (s.log.nextSeq + 1) % 2 ^ 32 ∧
      u.log.ring = (s.log.ring ++ [{ r with seq := s.log.nextSeq }]).drop (s.log.ring.length + 1 - 65536) ∧
      (2 ≤ r.cls → s.log.pinned.length < 256 → u.log.pinned = s.log.pinned ++ [{ r with seq := s.log.nextSeq }]) ∧
      (r.cls < 2 → u.log.pinned = s.log.pinned) ∧ (r.cls = 2 → u.latched.testBit 11 = true) ∧
      ((s.advanceTo t).drivesPin { r with seq := s.log.nextSeq } = true → u.log.evt0 = true ∧ u.log.sinceHead = true) ∧
      u = s.ran (((s.advanceTo t).onLog fun l => { l with queue := rest }).writeRecord r)) ∧
  (∀ (t b : Nat) (s : State), s.log.dropStart = some b → b + 1000000000 ≤ (s.advanceTo t).mono →
    exec (.dropIntervalEnd t) s = .next (s.ran
      (((s.advanceTo t).onLog fun l => { l with dropStart := none, dropCount := 0 }).raise 0x9003 (min s.log.dropCount 0xFFFF))))

/-- R518, R520, R522, R524, R526, R531, R532, R534, Table 19.2. JOIN begins joining from SOLO with ENABLE 1; ENABLE takes effect, and taking it
back leaves the ensemble; a plan of up to 64 KiB is held; a council message from a member with a unique identity is heard, and counts when its
frame is the council's; one whose magic or identity is wrong, or whose link's partner is the device itself, is not; peer data of an open frame is written to
its version, that of another frame or a flow not BOUND is counted; the version of a started SINK operation is sent in packets.
Model readings: log entries 110, 171, 172, 173 and 175. -/
def Obligations.EnsembleCommandsTakeEffect : Prop :=
  (∀ (w : Who) (s : State), s.mayWrite w R.ens_COMMAND 0 = true → s.on R.ens_ENABLE = true → s.reg R.ens_STATE = 0 →
    ∃ u, exec (.join w) s = .next u ∧ u.reg R.ens_STATE = 1 ∧ u.reply = ⟨true, 0, []⟩ ∧ u = s.ran s.beginJoin.ok) ∧
  (∀ (w : Who) (on : Bool) (s : State), s.mayWrite w R.ens_ENABLE 0 = true →
    ∃ u, exec (.ensembleEnable w on) s = .next u ∧ u.on R.ens_ENABLE = on ∧ u.reply = ⟨true, 0, []⟩ ∧
      (on = true → s.on R.ens_ENABLE = false → u.reg R.ens_STATE = 1) ∧
      (on = false → s.on R.ens_ENABLE = true → u.reg R.ens_STATE = 0 ∧ u.reg R.ens_VIEW = 0 ∧ u.reg R.ens_LEADER = 0xFF ∧
        u.reg R.ens_OFFSET = 0) ∧
      u = s.ran (s.setEnsEnable on).ok) ∧
  (∀ (w : Who) (plan : List Byte) (s : State), s.mayWrite w R.ens_PLAN 0 = true → plan.length ≤ 65536 →
    ∃ u, exec (.planWrite w plan) s = .next u ∧ u.dom R.ens_PLAN = plan ∧ u.reply = ⟨true, 0, []⟩ ∧
      (∀ m < 8, s.reg R.mem_STATE m ≠ 4 →
        u.reg R.mem_DIGEST_MATCH m = b2n (tget (fun _ => []) s.ens.digests m == (sha384 plan).take 16)) ∧
      u = s.ran (s.setPlan plan).ok) ∧
  (∀ (t k : Nat) (x : CouncilMsg) (ids : List Nat) (v : State) (s : State), k < 256 → s.on R.ens_ENABLE = true →
    s.linkUp k = true → s.reg R.link_PARTNER_ID k ≠ s.reg R.ens_ENS_ID → x.magicOk = true →
    x.ident % 8 ≠ s.reg R.ens_ENS_ID → x.cadence ≠ s.reg R.ens_COUNCIL_CADENCE →
    ids = tget (fun _ => []) s.ens.idents (x.ident % 8) →
    v = ((s.advanceTo t).onEns fun e =>
      { e with idents := tput (fun _ => []) (x.ident % 8) (if ids.contains x.uniqueId then ids else ids ++ [x.uniqueId]) e.idents }) →
    v.partnerOk (x.ident % 8) = true →
    ∃ u, exec (.councilReceive t k x) s = .next u ∧ u.reg R.mem_STATE (x.ident % 8) = x.state % 2 ^ R.mem_STATE.bits ∧
      u.reg R.mem_UNIQUE_ID (x.ident % 8) = x.uniqueId % 2 ^ 64 ∧
      tget (fun _ => (0, 0)) u.ens.echo (x.ident % 8) = (x.tSend, (s.advanceTo t).mono) ∧
      u = s.ran (v.heardFrom (x.ident % 8) x)) ∧
  (∀ (t k : Nat) (x : CouncilMsg) (ids : List Nat) (v : State) (s : State), k < 256 → s.on R.ens_ENABLE = true →
    s.linkUp k = true → s.reg R.link_PARTNER_ID k ≠ s.reg R.ens_ENS_ID → x.magicOk = true →
    x.ident % 8 ≠ s.reg R.ens_ENS_ID → x.cadence = s.reg R.ens_COUNCIL_CADENCE →
    ids = tget (fun _ => []) s.ens.idents (x.ident % 8) →
    v = ((s.advanceTo t).onEns fun e =>
      { e with idents := tput (fun _ => []) (x.ident % 8) (if ids.contains x.uniqueId then ids else ids ++ [x.uniqueId]) e.idents }) →
    v.partnerOk (x.ident % 8) = true →
    (x.frame = (v.heardFrom (x.ident % 8) x).councilFrame ∨ x.frame + 1 = (v.heardFrom (x.ident % 8) x).councilFrame) →
    ∃ u, exec (.councilReceive t k x) s = .next u ∧
      tget (fun _ => 0) u.ens.heard (x.ident % 8) = s.ens.councils + 1 ∧
      u = s.ran ((((v.heardFrom (x.ident % 8) x).counted (x.ident % 8) x).refreshView).councilMeasure (x.ident % 8) x)) ∧
  (∀ (t k : Nat) (x : CouncilMsg) (s : State), k < 256 → s.on R.ens_ENABLE = true → s.linkUp k = true →
    (s.reg R.link_PARTNER_ID k = s.reg R.ens_ENS_ID ∨ x.magicOk = false ∨ x.ident % 8 = s.reg R.ens_ENS_ID) →
    exec (.councilReceive t k x) s = .next (s.ran (s.advanceTo t))) ∧
  (∀ (t k : Nat) (p : PeerData) (s : State), k < 256 → s.reg R.pf_LINK p.flow = k → s.reg R.flow_DIR p.flow = 0 → s.linkUp k = true →
    s.reg R.flow_STATE p.flow ≠ 0 → s.reg R.flow_STATE p.flow ≠ 2 →
    exec (.peerDataReceive t k p) s = .next (s.ran ((s.advanceTo t).inc R.flow_PAUSED_DROPS p.flow))) ∧
  (∀ (t k : Nat) (p : PeerData) (s : State), k < 256 → s.reg R.pf_LINK p.flow = k → s.reg R.flow_DIR p.flow = 0 → s.linkUp k = true →
    s.reg R.flow_STATE p.flow = 2 → (s.advanceTo t).inFrame? p.flow (fullFrame ((s.flowRun p.flow).newest.getD 0) p.frame) = none →
    exec (.peerDataReceive t k p) s = .next (s.ran
      ((s.advanceTo t).notOpen p.flow (fullFrame ((s.flowRun p.flow).newest.getD 0) p.frame) 1))) ∧
  (∀ (t k : Nat) (p : PeerData) (v : InFrame) (s : State), k < 256 → s.reg R.pf_LINK p.flow = k →
    s.reg R.flow_DIR p.flow = 0 → s.reg R.flow_STATE p.flow = 2 → s.linkUp k = true →
    (s.advanceTo t).inFrame? p.flow (fullFrame ((s.flowRun p.flow).newest.getD 0) p.frame) = some v →
    exec (.peerDataReceive t k p) s = .next (s.ran
      ((s.advanceTo t).peerWrite p.flow (fullFrame ((s.flowRun p.flow).newest.getD 0) p.frame) v.buf v p))) ∧
  (∀ (t f : Nat) (o : Oper) (b : BufferRec) (v : State) (s : State), f < 262144 → s.reg R.flow_STATE f = 2 →
    s.reg R.flow_DIR f = 1 → s.isPeer f = true → (s.advanceTo t).launchable f = some (o, b) →
    v = ((s.advanceTo t).each (List.range (ceilDiv b.size 2016)) fun s i =>
      s.peerPacket f ((s.advanceTo t).reg R.pf_LINK f) o.frame ((s.advanceTo t).sinkInput o).1 ((s.advanceTo t).sinkInput o).2 i b) →
    exec (.peerDataSend t f) s = .next (s.ran
      (if v.reg R.flow_POISON_PACKETS f = s.reg R.flow_POISON_PACKETS f then (v.inc R.flow_FRAMES f).endSink f o.frame false
       else ((v.raise 0x2206 f).inc R.flow_FRAMES f).endSink f o.frame true)))

/-! ## The Dusk cores and the lock unit (chapter 15) -/

/-- Table 15.3, R446. The ALU instructions, on an instruction that may issue: DST gets the sum, the difference, the bitwise results, the
shifts by SRC2[3:0] (logical and arithmetic), SRC1, the pointer, or the signed minimum and maximum, each modulo 2^16; the immediate forms use
DST and the constant, ADDI signed; MOVI writes a data register or a pointer. PC and CYCLES move on, and nothing else of the core changes.
Model readings: log entry 140. -/
def Obligations.DuskAluInstructions : Prop :=
  (∀ (c dst a b : Nat) (k : Core) (s : State), c < 2 → dst < 8 → a < 8 → b < 8 → k = s.core c → s.mayIssue c {} = true →
    exec (.duskAdd c dst a b) s = .next (s.ran (s.issued c fun u => u.setD c dst (k.dAt a + k.dAt b))) ∧
    exec (.duskAnd c dst a b) s = .next (s.ran (s.issued c fun u => u.setD c dst ((k.dAt a &&& k.dAt b)))) ∧
    exec (.duskOr c dst a b) s = .next (s.ran (s.issued c fun u => u.setD c dst ((k.dAt a ||| k.dAt b)))) ∧
    exec (.duskXor c dst a b) s = .next (s.ran (s.issued c fun u => u.setD c dst ((k.dAt a ^^^ k.dAt b)))) ∧
    exec (.duskShl c dst a b) s = .next (s.ran (s.issued c fun u => u.setD c dst (k.dAt a * 2 ^ (k.dAt b % 16)))) ∧
    exec (.duskShrl c dst a b) s = .next (s.ran (s.issued c fun u => u.setD c dst (k.dAt a / 2 ^ (k.dAt b % 16)))) ∧
    exec (.duskSub c dst a b) s = .next (s.ran (s.issued c fun u => u.setD c dst (k.dAt a + (2 ^ 16 - k.dAt b % 2 ^ 16)))) ∧
    exec (.duskShra c dst a b) s = .next (s.ran (s.issued c fun u => u.setD c dst (ofSigned 16 (k.dInt a / 2 ^ (k.dAt b % 16))))) ∧
    exec (.duskMin c dst a b) s = .next (s.ran (s.issued c fun u => u.setD c dst (ofSigned 16 (min (k.dInt a) (k.dInt b))))) ∧
    exec (.duskMax c dst a b) s = .next (s.ran (s.issued c fun u => u.setD c dst (ofSigned 16 (max (k.dInt a) (k.dInt b)))))) ∧
  (∀ (c dst a : Nat) (k : Core) (s : State), c < 2 → dst < 8 → a < 8 → k = s.core c → s.mayIssue c {} = true →
    exec (.duskMov c dst a) s = .next (s.ran (s.issued c fun u => u.setD c dst (k.dAt a))) ∧
    exec (.duskTop c dst a) s = .next (s.ran (s.issued c fun u => u.setP c (dst % 4) (k.dAt a))) ∧
    exec (.duskFromp c dst a) s = .next (s.ran (s.issued c fun u => u.setD c dst (k.pAt (a % 4))))) ∧
  (∀ (c dst imm : Nat) (k : Core) (s : State), c < 2 → dst < 8 → imm < 8192 → k = s.core c → s.mayIssue c {} = true →
    exec (.duskAddi c dst imm) s = .next (s.ran (s.issued c fun u =>
      u.setD c dst (k.dAt dst + (if imm < 4096 then imm else imm + (2 ^ 16 - 2 ^ 13))))) ∧
    exec (.duskAndi c dst imm) s = .next (s.ran (s.issued c fun u => u.setD c dst (k.dAt dst &&& imm))) ∧
    exec (.duskOri c dst imm) s = .next (s.ran (s.issued c fun u => u.setD c dst (k.dAt dst ||| imm))) ∧
    exec (.duskXori c dst imm) s = .next (s.ran (s.issued c fun u => u.setD c dst (k.dAt dst ^^^ imm)))) ∧
  (∀ (c target imm : Nat) (s : State), c < 2 → target < 12 → imm < 65536 → s.mayIssue c {} = true →
    exec (.duskMovi c target imm) s = .next (s.ran (s.issued c fun u =>
      if target < 8 then u.setD c target imm else u.setP c (target - 8) imm)))

/-- Table 15.3, Table 15.4, R447, R448. Memory, multiply and accumulator instructions that may issue: LD's word lands late and the pointer
moves; ST stores; an access of core 1's window sets out on ring VC3 instead (log entry 144); MPY, MAC, MSU and CLR give A the product, the
sum, the difference or 0 modulo 2^40, and with L = 1 load D6 and D7 too; the others move, shift, normalise, add and negate as the table says;
a NORM count outside -8 to 31 faults with code 8; a negation or magnitude that 40 bits do not hold is some value (log entry 142).
Model readings: log entries 140, 142 and 144. -/
def Obligations.DuskMemoryAndAccumulators : Prop :=
  (∀ (c d p mode offset : Nat) (k : Core) (s : State), c < 2 → d < 8 → p < 4 → mode < 6 → offset < 4096 → k = s.core c →
    s.mayIssue c {} = true → external c (k.dataAddr p mode offset) = false →
    (k.memFault c p mode offset true = none → mode = 0 ∨ mode = 5 →
      exec (.duskLd c d p mode offset) s = .next (s.ran (s.issued c fun u =>
        u.lateD c d ((u.core c).dataWord (k.dataAddr p mode offset) % 2 ^ 16)))) ∧
    (k.memFault c p mode offset true = none → 1 ≤ mode → mode ≤ 4 →
      exec (.duskLd c d p mode offset) s = .next (s.ran (s.issued c fun u =>
        (u.lateD c d ((u.core c).dataWord (k.dataAddr p mode offset) % 2 ^ 16)).setP c p (k.pointerAfter p mode)))) ∧
    (k.memFault c p mode offset false = none → mode = 0 ∨ mode = 5 →
      exec (.duskSt c d p mode offset) s = .next (s.ran (s.issued c fun u => u.storeData c (k.dataAddr p mode offset) (k.dAt d)))) ∧
    (k.memFault c p mode offset false = none → 1 ≤ mode → mode ≤ 4 →
      exec (.duskSt c d p mode offset) s = .next (s.ran (s.issued c fun u =>
        (u.storeData c (k.dataAddr p mode offset) (k.dAt d)).setP c p (k.pointerAfter p mode))))) ∧
  (∀ (d p mode offset : Nat) (k : Core) (s : State), d < 8 → p < 4 → mode < 6 → offset < 4096 → k = s.core 1 →
    s.mayIssue 1 {} = true → external 1 (k.dataAddr p mode offset) = true →
    (k.memFault 1 p mode offset true = none → mode = 0 ∨ mode = 5 →
      exec (.duskLd 1 d p mode offset) s = .next (s.ran (s.issued 1 fun u => u.windowAsk (k.dataAddr p mode offset) (some d) 0))) ∧
    (k.memFault 1 p mode offset true = none → 1 ≤ mode → mode ≤ 4 →
      exec (.duskLd 1 d p mode offset) s = .next (s.ran (s.issued 1 fun u =>
        (u.windowAsk (k.dataAddr p mode offset) (some d) 0).setP 1 p (k.pointerAfter p mode)))) ∧
    (k.memFault 1 p mode offset false = none → mode = 0 ∨ mode = 5 →
      exec (.duskSt 1 d p mode offset) s = .next (s.ran (s.issued 1 fun u => u.windowAsk (k.dataAddr p mode offset) none (k.dAt d)))) ∧
    (k.memFault 1 p mode offset false = none → 1 ≤ mode → mode ≤ 4 →
      exec (.duskSt 1 d p mode offset) s = .next (s.ran (s.issued 1 fun u =>
        (u.windowAsk (k.dataAddr p mode offset) none (k.dAt d)).setP 1 p (k.pointerAfter p mode))))) ∧
  (∀ (c acc dx dy : Nat) (frac : Bool) (k : Core) (x : Int) (s : State), c < 2 → acc < 2 → dx < 8 → dy < 8 → k = s.core c →
    s.mayIssue c {} = true → x = k.dInt dx * k.dInt dy * (if frac then 2 else 1) →
    exec (.duskMpy c acc frac dx dy false) s = .next (s.ran (s.issued c fun u => u.setA c acc x)) ∧
    exec (.duskMac c acc frac dx dy false) s = .next (s.ran (s.issued c fun u => u.setA c acc (k.aInt acc + x))) ∧
    exec (.duskMsu c acc frac dx dy false) s = .next (s.ran (s.issued c fun u => u.setA c acc (k.aInt acc - x))) ∧
    exec (.duskClr c acc false) s = .next (s.ran (s.issued c fun u => u.setA c acc 0)) ∧
    (k.dualFault c true = none →
      exec (.duskMpy c acc frac dx dy true) s = .next (s.ran (s.issued c fun u => (u.setA c acc x).dualLoad c k true)) ∧
      exec (.duskMac c acc frac dx dy true) s = .next (s.ran (s.issued c fun u => (u.setA c acc (k.aInt acc + x)).dualLoad c k true)) ∧
      exec (.duskMsu c acc frac dx dy true) s = .next (s.ran (s.issued c fun u => (u.setA c acc (k.aInt acc - x)).dualLoad c k true)) ∧
      exec (.duskClr c acc true) s = .next (s.ran (s.issued c fun u => (u.setA c acc 0).dualLoad c k true)))) ∧
  (∀ (c acc d : Nat) (k : Core) (s : State), c < 2 → acc < 2 → d < 8 → k = s.core c → s.mayIssue c {} = true →
    exec (.duskLda c acc d) s = .next (s.ran (s.issued c fun u => u.setA c acc (k.dInt d * 2 ^ 16))) ∧
    exec (.duskLdal c acc d) s = .next (s.ran (s.issued c fun u => u.setA c acc (k.dInt d))) ∧
    (k.sat = false → exec (.duskMovh c d acc) s = .next (s.ran (s.issued c fun u => u.setD c d (bits (k.aAt acc) 31 16)))) ∧
    (k.sat = true → bits (k.aAt acc) 39 31 ≠ 0 → bits (k.aAt acc) 39 31 ≠ 511 →
      exec (.duskMovh c d acc) s = .next (s.ran (s.issued c fun u => u.setD c d (if (k.aAt acc).testBit 39 then 0x8000 else 0x7FFF)))) ∧
    exec (.duskMovl c d acc) s = .next (s.ran (s.issued c fun u => u.setD c d (k.aAt acc))) ∧
    exec (.duskExp c d acc) s = .next (s.ran (s.issued c fun u => u.setD c d (ofSigned 16 ((leading (k.aAt acc) : Int) - 9)))) ∧
    (-8 ≤ k.dInt d → k.dInt d ≤ 31 →
      exec (.duskNorm c acc d) s = .next (s.ran (s.issued c fun u => u.setA c acc (shiftBy (k.aInt acc) (k.dInt d))))) ∧
    (k.dInt d < -8 ∨ 31 < k.dInt d → exec (.duskNorm c acc d) s = .next (s.ran (s.coreFault c 8)))) ∧
  (∀ (c acc : Nat) (n : Int) (k : Core) (s : State), c < 2 → acc < 2 → -32 ≤ n → n ≤ 31 → k = s.core c → s.mayIssue c {} = true →
    exec (.duskAsh c acc n) s = .next (s.ran (s.issued c fun u => u.setA c acc (shiftBy (k.aInt acc) n))) ∧
    exec (.duskAdda c acc) s = .next (s.ran (s.issued c fun u => u.setA c acc (k.aInt acc + k.aInt (1 - acc)))) ∧
    (-(2 ^ 39) < k.aInt acc → k.aInt acc < 2 ^ 39 →
      exec (.duskNeg c acc) s = .next (s.ran (s.issued c fun u => u.setA c acc (- k.aInt acc))) ∧
      exec (.duskAbs c acc) s = .next (s.ran (s.issued c fun u => u.setA c acc (k.aInt acc).natAbs))) ∧
    (k.aInt acc = -(2 ^ 39) →
      (∃ z : Int, exec (.duskNeg c acc) s = .next (s.ran (s.issued c fun u => (u.setA c acc z).took))) ∧
      (∃ z : Int, exec (.duskAbs c acc) s = .next (s.ran (s.issued c fun u => (u.setA c acc z).took)))))

/-- Table 15.3, R449, R451, R452. Control flow, ports and the rest, on an instruction that may issue: a branch, a call and a return change PC
after two delay slots, to the target or past the slots; REPEAT and BREP set their counts; LJMP jumps at once on core 1; IN and OUT move a
word; IDLE waits for a line; EI and DI set IE; TRAP faults with code 10.
Model readings: log entries 137 and 139. -/
def Obligations.DuskControlFlow : Prop :=
  (∀ (c cond d target : Nat) (k : Core) (s : State), c < 2 → cond < 7 → d < 8 → target < 4096 → k = s.core c →
    s.mayIssue c jumpPlaces = true →
    exec (.duskBranch c cond d target) s = .next (s.ran (s.issued c fun u => u.onCore c fun x => { x with slots := 2, target := if condHolds cond (k.dInt d) then pageTarget c k.pc target else pcWrap c (k.pc + 3) })) ∧
    (k.stack.length < 8 → exec (.duskCall c target) s = .next (s.ran (s.issued c fun u => (u.onCore c fun x => { x with stack := pcWrap c (k.pc + 3) :: x.stack }).onCore c fun x => { x with slots := 2, target := pageTarget c k.pc target })))) ∧
  (∀ (c x : Nat) (rest : List Nat) (k : Core) (s : State), c < 2 → k = s.core c → k.stack = x :: rest → s.mayIssue c jumpPlaces = true →
    exec (.duskRet c) s = .next (s.ran (s.issued c fun u =>
      (u.onCore c fun y => { y with stack := y.stack.drop 1, retInt := false }).onCore c fun y => { y with slots := 2, target := x })) ∧
    exec (.duskReti c) s = .next (s.ran (s.issued c fun u =>
      (u.onCore c fun y => { y with stack := y.stack.drop 1, retInt := true }).onCore c fun y => { y with slots := 2, target := x }))) ∧
  (∀ (c d n : Nat) (k : Core) (s : State), c < 2 → d < 8 → n < 4096 → k = s.core c → s.mayIssue c { inSlot := false, inRepeat := false } = true →
    exec (.duskRepeat c false d n) s = .next (s.ran (s.issued c fun u => u.onCore c fun x => { x with rep := n + 1 })) ∧
    (1 ≤ k.dAt d → k.dAt d ≤ 4096 →
      exec (.duskRepeat c true d n) s = .next (s.ran (s.issued c fun u => u.onCore c fun x => { x with rep := k.dAt d }))) ∧
    exec (.duskIdle c) s = .next (s.ran (s.issued c fun u => (u.coreState c 2).wakeIdle c))) ∧
  (∀ (c d last : Nat) (k : Core) (s : State), c < 2 → d < 8 → last < 4096 → k = s.core c → 1 ≤ k.dAt d → k.dAt d ≤ 4096 →
    (k.looping 0 && k.looping 1) = false → s.mayIssue c { inSlot := false, inRepeat := false } = true →
    exec (.duskBrep c d last) s = .next (s.ran (s.issued c fun u => u.onCore c fun x => { x with lc := upd x.lc (b2n (k.looping 0)) fun _ => k.dAt d, ls := upd x.ls (b2n (k.looping 0)) fun _ => x.pc % 65536, le := upd x.le (b2n (k.looping 0)) fun _ => pageTarget c k.pc last % 65536 }))) ∧
  (∀ (k : Core) (s : State), k = s.core 1 → s.mayIssue 1 { inSlot := false, inRepeat := false } = true →
    exec (.duskLjmp 1) s = .next (s.ran (s.issued 1 fun u => u.onCore 1 fun x => { x with pc := (k.dAt 0 + k.dAt 1 * 2 ^ 16) % 2 ^ 22 }))) ∧
  (∀ (c d port : Nat) (k : Core) (s : State), c < 2 → d < 8 → port < 1024 → k = s.core c → s.mayIssue c { inRepeat := false } = true →
    (inPort c port = true → exec (.duskIn c d port) s = .next (s.ran (s.issued c fun u =>
      (u.portTake c k port).1.lateD c d (u.portTake c k port).2))) ∧
    (outPort c port = true → exec (.duskOut c port d) s = .next (s.ran (s.issued c fun u => u.portPut c port (k.dAt d))))) ∧
  (∀ (c : Nat) (s : State), c < 2 → s.mayIssue c {} = true →
    exec (.duskNop c) s = .next (s.ran (s.issued c id)) ∧
    exec (.duskEi c) s = .next (s.ran (s.issued c fun u => u.onCore c fun k => { k with ie := true })) ∧
    exec (.duskDi c) s = .next (s.ran (s.issued c fun u => u.onCore c fun k => { k with ie := false })) ∧
    exec (.duskTrap c) s = .next (s.ran (s.coreFault c 10)))

/-- R450. A branch, CALL, return, REPEAT, BREP, IDLE or LJMP in a delay slot faults with code 2, and so does a block whose END is a branch, a
CALL, a return or a delay slot; a REPEAT of a branch, CALL, return, REPEAT, BREP, IDLE, IN, OUT or LJMP, and on core 1 of an access to external
memory, with code 3; a third BREP and a count of 0 or above 4,096 with code 4; a CALL onto a full stack and a return from an empty one with
code 9. The fault is all that such an instruction does (stated of a core that no patch unit works on, R550). -/
def Obligations.PlacementsFault : Prop :=
  (∀ (c cond d n target : Nat) (reg : Bool) (s : State), c < 2 → cond < 7 → d < 8 → n < 4096 → target < 4096 → s.mayIssue c {} = true →
    0 < (s.core c).slots →
    exec (.duskBranch c cond d target) s = .next (s.ran (s.coreFault c 2)) ∧ exec (.duskCall c target) s = .next (s.ran (s.coreFault c 2)) ∧
    exec (.duskRet c) s = .next (s.ran (s.coreFault c 2)) ∧ exec (.duskReti c) s = .next (s.ran (s.coreFault c 2)) ∧
    exec (.duskRepeat c reg d n) s = .next (s.ran (s.coreFault c 2)) ∧ exec (.duskBrep c d target) s = .next (s.ran (s.coreFault c 2)) ∧
    exec (.duskIdle c) s = .next (s.ran (s.coreFault c 2)) ∧ (c = 1 → exec (.duskLjmp c) s = .next (s.ran (s.coreFault c 2)))) ∧
  (∀ (c cond d target : Nat) (s : State), c < 2 → cond < 7 → d < 8 → target < 4096 → s.mayIssue c {} = true →
    ((s.core c).atEnd 0 = true ∨ (s.core c).atEnd 1 = true) →
    exec (.duskBranch c cond d target) s = .next (s.ran (s.coreFault c 2)) ∧ exec (.duskCall c target) s = .next (s.ran (s.coreFault c 2)) ∧
    exec (.duskRet c) s = .next (s.ran (s.coreFault c 2)) ∧ exec (.duskReti c) s = .next (s.ran (s.coreFault c 2))) ∧
  (∀ (c : Nat) (p : Places) (k : Core), (c = 0 → k.pc < k.words ∧ parityOk 32 (k.progWord k.pc) = true) → p.illegal = false → 0 < k.slots →
    (k.atEnd 0 = true ∨ k.atEnd 1 = true) → k.placeFault c p = some 2) ∧
  (∀ (c cond d n port target : Nat) (reg : Bool) (s : State), c < 2 → cond < 7 → d < 8 → n < 4096 → port < 1024 → target < 4096 →
    s.mayIssue c {} = true → (s.core c).slots = 0 → (s.core c).atEnd 0 = false → (s.core c).atEnd 1 = false → 0 < (s.core c).rep →
    exec (.duskBranch c cond d target) s = .next (s.ran (s.coreFault c 3)) ∧ exec (.duskCall c target) s = .next (s.ran (s.coreFault c 3)) ∧
    exec (.duskRet c) s = .next (s.ran (s.coreFault c 3)) ∧ exec (.duskReti c) s = .next (s.ran (s.coreFault c 3)) ∧
    exec (.duskRepeat c reg d n) s = .next (s.ran (s.coreFault c 3)) ∧ exec (.duskBrep c d target) s = .next (s.ran (s.coreFault c 3)) ∧
    exec (.duskIdle c) s = .next (s.ran (s.coreFault c 3)) ∧ exec (.duskIn c d port) s = .next (s.ran (s.coreFault c 3)) ∧
    exec (.duskOut c port d) s = .next (s.ran (s.coreFault c 3)) ∧ (c = 1 → exec (.duskLjmp c) s = .next (s.ran (s.coreFault c 3)))) ∧
  (∀ (d p mode offset : Nat) (s : State), d < 8 → p < 4 → mode < 6 → offset < 4096 → s.mayIssue 1 {} = true → 0 < (s.core 1).rep →
    (s.core 1).lengthBad p mode = false → external 1 ((s.core 1).dataAddr p mode offset) = true →
    exec (.duskLd 1 d p mode offset) s = .next (s.ran (s.coreFault 1 3)) ∧ exec (.duskSt 1 d p mode offset) s = .next (s.ran (s.coreFault 1 3))) ∧
  (∀ (acc dx dy : Nat) (frac : Bool) (s : State), acc < 2 → dx < 8 → dy < 8 → s.mayIssue 1 {} = true → 0 < (s.core 1).rep →
    (external 1 ((s.core 1).pAt 0) = true ∨ ((s.core 1).accessFault 1 ((s.core 1).pAt 0) true = none ∧ external 1 ((s.core 1).pAt 1) = true)) →
    exec (.duskMpy 1 acc frac dx dy true) s = .next (s.ran (s.coreFault 1 3)) ∧ exec (.duskMac 1 acc frac dx dy true) s = .next (s.ran (s.coreFault 1 3)) ∧
    exec (.duskMsu 1 acc frac dx dy true) s = .next (s.ran (s.coreFault 1 3)) ∧ exec (.duskClr 1 acc true) s = .next (s.ran (s.coreFault 1 3))) ∧
  (∀ (c d n target : Nat) (s : State), c < 2 → d < 8 → n < 4096 → target < 4096 → s.mayIssue c { inSlot := false, inRepeat := false } = true →
    ((s.core c).dAt d = 0 ∨ 4096 < (s.core c).dAt d →
      exec (.duskRepeat c true d n) s = .next (s.ran (s.coreFault c 4)) ∧ exec (.duskBrep c d target) s = .next (s.ran (s.coreFault c 4))) ∧
    ((s.core c).looping 0 = true → (s.core c).looping 1 = true → exec (.duskBrep c d target) s = .next (s.ran (s.coreFault c 4)))) ∧
  (∀ (c target : Nat) (s : State), c < 2 → target < 4096 → s.mayIssue c jumpPlaces = true →
    (8 ≤ (s.core c).stack.length → exec (.duskCall c target) s = .next (s.ran (s.coreFault c 9))) ∧
    ((s.core c).stack = [] →
      exec (.duskRet c) s = .next (s.ran (s.coreFault c 9)) ∧ exec (.duskReti c) s = .next (s.ran (s.coreFault c 9))))

/-- R452, R455, R460, R461, R462, Table 15.5. An interrupt pushes the return address, clears IE and enters at four times its line in 4 cycles;
the TIMER raises line 2; a kick in its window restarts the watchdog, its warning raises line 4, its expiry is counted with event 0x8002; the
host starts, stops and stores the watch program, which raises its events and hands over its mailbox where the steward takes requests.
Model readings: log entries 146, 148, 151 and 279. -/
def Obligations.InterruptsTimersAndWatchPrograms : Prop :=
  (∀ (c n : Nat) (k : Core) (s : State), c < 2 → k = s.core c → s.coreRuns c = true → k.ie = true → k.atBoundary = true →
    k.lowestLine = some n → k.stack.length < 8 →
    exec (.interruptEntry c) s = .next (s.ran
      ((((s.onCore c fun x => { x.landed with stack := x.landed.pc :: x.landed.stack, ie := false, pc := 4 * n }).add R.core_CYCLES c 4).peak
        R.core_IRQ_LATENCY_MAX c (s.mono - nth k.pendSince n 0 + 10)).haltIfDue c))) ∧
  (∀ (t : Nat) (k : Core) (s : State), k = (s.advanceTo t).dusk.core0 → k.timer ≠ 0 → k.timerFrom + k.timer * 1000 ≤ (s.advanceTo t).mono →
    (s.advanceTo t).watched 0 = true →
    exec (.timerExpiry t) s = .next (s.ran
      (((s.advanceTo t).onCore 0 fun x => { x with timerFrom := x.timerFrom + x.timer * 1000 }).raiseLine 2))) ∧
  (∀ (t c x : Nat) (s : State), c < 2 → (s.advanceTo t).coreRuns c = true → ((s.advanceTo t).core c).haltedAt = none →
    x = (s.advanceTo t).mono - ((s.advanceTo t).core c).kickAt → (s.advanceTo t).reg R.core_WDT_OPEN c * 1000 ≤ x →
    x < (s.advanceTo t).reg R.core_WDT_CLOSE c * 1000 →
    exec (.watchdogKick t c 0x5AC3) s = .next (s.ran
      (((s.advanceTo t).onCore c fun k => { k with kickAt := (s.advanceTo t).mono, warned := false }).inc R.core_KICKS c))) ∧
  (∀ (t c : Nat) (s : State), c < 2 → (s.advanceTo t).watched c = true → ((s.advanceTo t).core c).warned = false →
    ((s.advanceTo t).core c).kickAt + ((s.advanceTo t).reg R.core_WDT_CLOSE c - (s.advanceTo t).reg R.core_WDT_WARN c) * 1000 ≤ (s.advanceTo t).mono →
    exec (.watchdogWarning t c) s = .next (s.ran (((s.advanceTo t).onCore c fun k => { k with warned := true }).raiseCoreLine c 4))) ∧
  (∀ (t c : Nat) (s : State), c < 2 → (s.advanceTo t).watched c = true →
    ((s.advanceTo t).core c).kickAt + (s.advanceTo t).reg R.core_WDT_CLOSE c * 1000 ≤ (s.advanceTo t).mono →
    ∃ u, exec (.watchdogExpiry t c) s = .next u ∧
      u.reg R.core_WDT_EXPIRIES c = (s.reg R.core_WDT_EXPIRIES c + 1) % 2 ^ R.core_WDT_EXPIRIES.bits ∧
      (c = 1 ∨ s.dusk.stored = none → u.reg R.core_STATE c = 0) ∧ u = s.ran ((s.advanceTo t).watchdogExpire c 0)) ∧
  (∀ (w : Who) (s : State), s.mayWrite w R.wp_COMMAND 0 = true → s.watchStill = true →
    ∃ u, exec (.watchStart w) s = .next u ∧ u.reg R.wp_LOAD_RESULT = watchCheck (s.dom R.wp_IMAGE) % 2 ^ R.wp_LOAD_RESULT.bits ∧
      (watchCheck (s.dom R.wp_IMAGE) = 0 → u.coreRuns 0 = true ∧ u.dusk.core0.pc = leAt (s.dom R.wp_IMAGE) 8 2 ∧
        u.dusk.core0.words = leAt (s.dom R.wp_IMAGE) 6 2) ∧
      u.reply = ⟨true, 0, []⟩ ∧ u = s.ran (s.runImage (s.dom R.wp_IMAGE)).ok) ∧
  (∀ (w : Who) (s : State), s.mayWrite w R.wp_COMMAND 0 = true →
    ∃ u, exec (.watchStop w) s = .next u ∧ u.reg R.core_STATE 0 = 0 ∧ u.reply = ⟨true, 0, []⟩ ∧ u = s.ran s.resetCore0.ok) ∧
  (∀ (w : Who) (s : State), s.mayWrite w R.wp_COMMAND 0 = true → s.dom R.wp_IMAGE ≠ [] →
    exec (.watchStore w) s = .next (s.ran
      (({ s with dusk := { s.dusk with stored := some (s.dom R.wp_IMAGE) } } : State).setReg R.wp_STORED_CRC 0 (leAt (s.dom R.wp_IMAGE) 12 4)).ok)) ∧
  (∀ (data : Nat) (s : State), s.coreRuns 0 = true → s.recentRaises.length < 1000 →
    exec (.raiseData data) s = .next (s.ran
      ((({ s with dusk := { s.dusk with raises := s.mono :: s.recentRaises } } : State).inc R.wp_RAISED).raise
        (0x8080 + s.dusk.raiseCode % 128) (data % 2 ^ 16)))) ∧
  (∀ (addr : Nat) (s : State), s.coreRuns 0 = true → s.dusk.mbx = 1 ∨ s.mailboxOpen = false →
    exec (.mbxGo addr) s = .next (s.ran (s.inc R.wp_MBX_REFUSED))) ∧
  (∀ (addr : Nat) (s : State), s.coreRuns 0 = true → s.dusk.mbx ≠ 1 → s.mailboxOpen = true →
    ∃ u : State, exec (.mbxGo addr) s = .next u ∧ u.dusk.mbx = 1 ∧ u.dusk.mbxAddr = addr % 2 ^ 16 ∧ u.dusk.mbxReply = none ∧
      u.reg R.wp_MBX_REQUESTS = (s.reg R.wp_MBX_REQUESTS + 1) % 2 ^ 32) ∧
  (∀ (l : List Byte) (s : State), s.dusk.mbxReply = some l →
    exec .mailboxAnswer s = .next (s.ran
      (State.raiseLine { s.putRam s.dusk.mbxAddr l with dusk := { (s.putRam s.dusk.mbxAddr l).dusk with mbx := 2, mbxReply := none } } 3)))

/-- R458. Only the owner can change a held lock: RELEASE frees it, RENEW restarts its lease timer at LEASE (stated here where LEASE is
as it was at the acquire and no halt freezes the timer; LocksAreAcquiredAndExpire states the rest), CLEAR_SUSPECT clears the suspect flag. A core's
write for a lock it does not own is ignored and counted in MISUSE; a session's is refused with STATE. A release does not change the suspect flag,
and raises line 6 of core 0. -/
def Obligations.OnlyTheOwnerChangesALock : Prop :=
  (∀ (c n : Nat) (s : State), c < 2 → n < 64 → s.coreRuns c = true → s.reg R.lock_OWNER n = c + 1 →
    exec (.lockRelease (.core c) n) s = .next (s.ran (s.lockFree n)) ∧
    ((s.core c).haltedAt = none → (s.lease n).span = s.reg R.lock_LEASE n → exec (.lockRenew (.core c) n) s = .next (s.ran
      (s.setLease n { span := s.reg R.lock_LEASE n, ends := s.mono + s.reg R.lock_LEASE n * 1000 }))) ∧
    exec (.lockClearSuspect (.core c) n) s = .next (s.ran
      ((s.setReg R.lock_SUSPECT n 0).setReg R.lu_SUSPECT 0 (putBit (s.reg R.lu_SUSPECT) n false)))) ∧
  (∀ (c n : Nat) (s : State), c < 2 → n < 64 → s.coreRuns c = true → s.reg R.lock_OWNER n ≠ c + 1 →
    exec (.lockRelease (.core c) n) s = .next (s.ran (s.inc R.lu_MISUSE)) ∧
    exec (.lockRenew (.core c) n) s = .next (s.ran (s.inc R.lu_MISUSE)) ∧
    exec (.lockClearSuspect (.core c) n) s = .next (s.ran (s.inc R.lu_MISUSE))) ∧
  (∀ (w : Who) (k n : Nat) (s : State), n < 64 → w.slot = some k → s.reg R.lock_OWNER n = 16 + k →
    (s.mayWrite w R.lock_RELEASE n = true → exec (.lockRelease (.session w) n) s = .next (s.ran (s.lockFree n).ok)) ∧
    (s.mayWrite w R.lock_RENEW n = true → (s.lease n).span = s.reg R.lock_LEASE n → exec (.lockRenew (.session w) n) s = .next (s.ran
      (s.setLease n { span := s.reg R.lock_LEASE n, ends := s.mono + s.reg R.lock_LEASE n * 1000 }).ok)) ∧
    (s.mayWrite w R.lock_CLEAR_SUSPECT n = true → exec (.lockClearSuspect (.session w) n) s = .next (s.ran
      ((s.setReg R.lock_SUSPECT n 0).setReg R.lu_SUSPECT 0 (putBit (s.reg R.lu_SUSPECT) n false)).ok))) ∧
  (∀ (w : Who) (k n : Nat) (s : State), n < 64 → w.slot = some k → s.reg R.lock_OWNER n ≠ 16 + k →
    (s.mayWrite w R.lock_RELEASE n = true → exec (.lockRelease (.session w) n) s = .next (s.ran s.stateError)) ∧
    (s.mayWrite w R.lock_RENEW n = true → exec (.lockRenew (.session w) n) s = .next (s.ran s.stateError)) ∧
    (s.mayWrite w R.lock_CLEAR_SUSPECT n = true → exec (.lockClearSuspect (.session w) n) s = .next (s.ran s.stateError))) ∧
  (∀ (n : Nat) (s : State), n < 64 → (s.lockFree n).reg R.lock_OWNER n = 0 ∧ (s.lockFree n).reg R.lock_SUSPECT n = s.reg R.lock_SUSPECT n ∧
    (s.lockFree n).lease n = {} ∧ (s.lockFree n).dusk.core0.irqPend.testBit 6 = true)

/-- R457, R458, R459, Table 15.8. An acquire read takes a free lock for the reader, with its lease timer at LEASE, and answers the acquire word with
GRANTED; a held one only counts the contest and answers the owner; a renewed lease has the LEASE of its acquire (log entry 264); the leases of a
halted core are frozen; a lease that has run out releases the lock forcibly, with its suspect flag set; a session without a slot owns none (log entry
153).
Model readings: log entries 153, 191 and 264. -/
def Obligations.LocksAreAcquiredAndExpire : Prop :=
  (∀ (c n : Nat) (s : State), c < 2 → n < 64 → s.coreRuns c = true → s.reg R.lock_OWNER n = 0 →
    ∃ u : State, exec (.lockAcquire (.core c) n) s = .next u ∧ u.reg R.lock_OWNER n = c + 1 ∧
      u.lease n = (if (s.core c).haltedAt = none
        then { span := s.reg R.lock_LEASE n, ends := s.mono + s.reg R.lock_LEASE n * 1000 }
        else { span := s.reg R.lock_LEASE n, frozen := some (s.reg R.lock_LEASE n * 1000) }) ∧
      u.reply = ⟨true, 0, leBytes 2 (c + 1 + s.reg R.lock_SUSPECT n * 2 ^ 14 + 2 ^ 15)⟩) ∧
  (∀ (p : LockParty) (c n : Nat) (s : State), p = .core c → c < 2 → n < 64 → s.coreRuns c = true → s.reg R.lock_OWNER n ≠ 0 →
    exec (.lockAcquire p n) s = .next (s.ran
      ((s.inc R.lu_CONTESTS).answerWith (leBytes 2 (s.reg R.lock_OWNER n + s.reg R.lock_SUSPECT n * 2 ^ 14))))) ∧
  (∀ (w : Who) (k n : Nat) (s : State), n < 64 → w.slot = some k → k < 64 → s.dictAnswers w = true → s.readsClosed w 0x8101 = false →
    s.reg R.lock_OWNER n = 0 →
    ∃ u : State, exec (.lockAcquire (.session w) n) s = .next u ∧ u.reg R.lock_OWNER n = 16 + k ∧
      u.lease n = { span := s.reg R.lock_LEASE n, ends := s.mono + s.reg R.lock_LEASE n * 1000 } ∧
      u.reply = ⟨true, 0, leBytes 2 (16 + k + s.reg R.lock_SUSPECT n * 2 ^ 14 + 2 ^ 15)⟩) ∧
  (∀ (t n : Nat) (s : State), n < 64 → (s.advanceTo t).reg R.lock_OWNER n ≠ 0 → ((s.advanceTo t).lease n).frozen = none →
    ((s.advanceTo t).lease n).ends ≤ (s.advanceTo t).mono →
    ∃ u : State, exec (.leaseExpiry t n) s = .next u ∧ u.reg R.lock_OWNER n = 0 ∧ u.reg R.lock_SUSPECT n = 1 ∧
      u.reg R.lock_FORCED n = (s.reg R.lock_FORCED n + 1) % 2 ^ 32) ∧
  (∀ (c n : Nat) (s : State), c < 2 → n < 64 → s.coreRuns c = true → s.reg R.lock_OWNER n = c + 1 →
    ((s.core c).haltedAt = none → exec (.lockRenew (.core c) n) s = .next (s.ran
      (s.setLease n { span := (s.lease n).span, ends := s.mono + (s.lease n).span * 1000 }))) ∧
    ((s.core c).haltedAt ≠ none → exec (.lockRenew (.core c) n) s = .next (s.ran
      (s.setLease n { span := (s.lease n).span, frozen := some ((s.lease n).span * 1000) })))) ∧
  (∀ (w : Who) (k n : Nat) (s : State), n < 64 → w.slot = some k → s.reg R.lock_OWNER n = 16 + k → s.mayWrite w R.lock_RENEW n = true →
    exec (.lockRenew (.session w) n) s = .next (s.ran
      (s.setLease n { span := (s.lease n).span, ends := s.mono + (s.lease n).span * 1000 }).ok)) ∧
  (∀ (w : Who) (n : Nat) (s : State), n < 64 → w.slot = none →
    (s.mayWrite w R.lock_RELEASE n = true → exec (.lockRelease (.session w) n) s = .next (s.ran s.stateError)) ∧
    (s.mayWrite w R.lock_RENEW n = true → exec (.lockRenew (.session w) n) s = .next (s.ran s.stateError)) ∧
    (s.mayWrite w R.lock_CLEAR_SUSPECT n = true → exec (.lockClearSuspect (.session w) n) s = .next (s.ran s.stateError)))

/-- R99. Writes to subindices .2 to .7 of a handle whose USERS is nonzero are refused with a state status, and change nothing but the reply. -/
def Obligations.UsersProtectAHandle : Prop :=
  ∀ (w : Who) (i v : Nat) (s : State), s.reg R.hdl_USERS i ≠ 0 →
    (s.mayWrite w R.hdl_BASE i = true → v < 2 ^ 40 → exec (.registerWrite w ⟨0x5001, i, 2⟩ (leBytes 8 v)) s = .next (s.ran s.stateError)) ∧
    (s.mayWrite w R.hdl_STRIDE i = true → v < 2 ^ 32 → exec (.registerWrite w ⟨0x5001, i, 3⟩ (leBytes 4 v)) s = .next (s.ran s.stateError)) ∧
    (s.mayWrite w R.hdl_SLOTS i = true → 1 ≤ v → v ≤ 16 →
      exec (.registerWrite w ⟨0x5001, i, 4⟩ (leBytes 1 v)) s = .next (s.ran s.stateError)) ∧
    (s.mayWrite w R.hdl_SIZE i = true → v < 2 ^ 32 → exec (.registerWrite w ⟨0x5001, i, 5⟩ (leBytes 4 v)) s = .next (s.ran s.stateError)) ∧
    (s.mayWrite w R.hdl_MIRROR_BASE i = true → v < 2 ^ 40 →
      exec (.registerWrite w ⟨0x5001, i, 6⟩ (leBytes 8 v)) s = .next (s.ran s.stateError)) ∧
    (s.mayWrite w R.hdl_DEFINE i = true → s.defineOk i (s.writtenDef i) = true →
      exec (.registerWrite w ⟨0x5001, i, 7⟩ [1]) s = .next (s.ran s.stateError) ∧ exec (.handleDefine w i) s = .next (s.ran s.stateError)) ∧
    (s.mayWrite w R.hdl_DEFINE i = true →
      exec (.registerWrite w ⟨0x5001, i, 7⟩ [2]) s = .next (s.ran s.stateError) ∧ exec (.handleRelease w i) s = .next (s.ran s.stateError))

/-! ## The machine as a whole -/

/-- A step takes the command at the front of the queue and runs it with the queue's rest. With no command waiting, the fabric's logic and the
line of a lane make one change each; then core 0, if it runs, takes a pending line, or runs the instruction at its PC, or faults with code 1 on a
word that is none (stated where no patch unit works on it; what an empty queue does is the model's choice, log entries 1, 90 and 190). -/
def Obligations.StepRunsTheFrontCommand : Prop :=
  (∀ (c : Instr) (rest : List Instr) (s : State), s.pending = c :: rest → step s = exec c { s with pending := rest }) ∧
  (∀ (s t : State), s.pending = [] → t = s.logicTick.wireTick → t.coreRuns 0 = false → step s = .next t.settle) ∧
  (∀ (s t : State), s.pending = [] → t = s.logicTick.wireTick → t.coreRuns 0 = true → t.lineDue = true →
    step s = exec (.interruptEntry 0) t) ∧
  (∀ (s t : State) (i : Instr), s.pending = [] → t = s.logicTick.wireTick → t.coreRuns 0 = true → t.lineDue = false →
    t.fetched = some i → step s = exec i t) ∧
  (∀ (s t : State) (k : Core), s.pending = [] → t = s.logicTick.wireTick → t.coreRuns 0 = true → t.lineDue = false →
    t.fetched = none → t.unpatched 0 = true → k = t.dusk.core0 → k.asks = [] → k.placeFault 0 { illegal := true } = some 1 →
    step s = .next (t.ran (t.coreFault 0 1)))

/-- R6, R481, Tables 00.1, 02.1, 15.10, 16.9, 18.4, 20.10: after reset the device is in Daybreak with no step done, the part number is KN2564 and
no fuse is read yet, so the identity reads 0 and the life-cycle state is BLANK (the model's choice, log entries 14 and 286), every ring is
present, the cores are STOPPED, no source is active and the timebase is in FREERUN, every domain is ON and every slot EMPTY, no lock is held, the
log, its pinned area and its queue are empty (log entry 12), no command waits, no memory lists a word (the model's form, log entries 71 and 72),
and the conditions are true. -/
def Obligations.ResetIsAsTheManualSays : Prop :=
  State.reset.phase = .daybreak ∧ State.reset.boot.done = [] ∧ State.reset.pending = [] ∧ State.reset.memoryWf = true ∧
  State.reset.store.words = [] ∧ State.reset.scratch.words = [] ∧ State.reset.fabric.bram = [] ∧ State.reset.log.queue = [] ∧
  State.reset.log.ring = [] ∧ State.reset.log.pinned = [] ∧
  State.reset.viewBytes 0x1000 1 0 = some [75, 78, 50, 53, 54, 52] ∧ State.reset.reg R.ident_FUSE_CHECK = 0 ∧
  State.reset.reg R.ident_UNIQUE_ID = 0 ∧ State.reset.reg R.ident_SPEED_BIN = 0 ∧ State.reset.reg R.lc_STATE = 0 ∧
  State.reset.service.lifecycle = 0 ∧ State.reset.reg R.pres_RINGS = 0xFFFF ∧ (∀ d < 107, State.reset.reg R.dom_STATE d = 0) ∧
  State.reset.reg R.tb_STATE = 0 ∧ State.reset.reg R.tb_ACTIVE_SOURCE = 0 ∧ State.reset.reg R.core_STATE 0 = 0 ∧
  State.reset.reg R.core_STATE 1 = 0 ∧ State.reset.reg R.integ_STATE = integrityState State.reset.conds ∧
  State.reset.reg R.link_REPLAY_TIMEOUT 255 = 20 ∧ State.reset.reg R.lane_MARGIN_MIN 0 = 40 ∧ State.reset.reg R.core_WDT_CLOSE 0 = 1000000 ∧
  (∀ g < 64, State.reset.reg R.slot_STATE g = 0) ∧ (∀ n < 64, State.reset.reg R.lock_OWNER n = 0) ∧ State.reset.Truthful

/-- R504, Table 18.4: every step leaves CONDITIONS equal to the live and latched conditions and STATE as they make it, from every state in which
they are so (that they follow at the end of every command, and when a PC or flow counts as a single copy, are the model's readings, log entries 18
and 19). -/
def Obligations.ConditionsStayTruthful : Prop :=
  ∀ s t : State, s.Truthful → step s = .next t → t.Truthful

/-- Every command whose units and fields exist runs to a next state and leaves the queue's rest alone; one that names a unit the device does
not have stops, by name (the stop is the model's choice, log entry 2). -/
def Obligations.CommandsRunWhereTheirUnitsExist : Prop :=
  ∀ (i : Instr) (s : State), (i.wf = true → ∃ t, exec i s = .next t ∧ t.pending = s.pending) ∧
    (i.wf = false → exec i s = .fault .noSuchUnit)

/-- The memories keep their canonical form (the model's, log entries 71 and 72) under eight commands that store to them: SLICE_BANK_ACCESS,
SCRATCHPAD_SCRUB_ACCESS, WIPE_COMPLETE, BRAM_WRITE, ST, WR_DATA, WR_PROG and FILL_COMPLETE (R307, R309, R313, R322, R445, R545, R255). -/
def Obligations.MemoriesStayCanonical : Prop :=
  ∀ (i : Instr) (s t : State), s.memoryWf = true → exec i s = .next t →
    (match i with
      | .sliceBankAccess _ _ => True
      | .scratchpadScrubAccess _ => True
      | .wipeComplete _ => True
      | .bramWrite _ _ _ _ _ => True
      | .duskSt _ _ _ _ _ => True
      | .wrData _ _ _ => True
      | .wrProg _ _ _ => True
      | .fillComplete => True
      | _ => False) → t.memoryWf = true

/-- R446, Table 15.3: the decoder gives back every Dusk instruction from its word, with every operand at every value its field holds. -/
def Obligations.DuskWordsDecode : Prop :=
  ∀ (i : Instr) (w : Nat), i.wf = true → duskEncode i = some w → w < 2 ^ 24 ∧ ∃ c < 2, duskDecode c w = some i

/-- R229 to R233: the code word of any 32 bytes has no syndrome, so it decodes as clean to the same bytes, on a PC with or without a dead
lane. -/
def Obligations.WrittenWordsReadClean : Prop :=
  ∀ (d : Nat) (dead : Option Nat), d < 2 ^ 256 → decodeWord (encodeWord d) dead = .clean d
end

