-- ==== Sys2Proof/Laws/Table.lean ====
section
/-! SUPPORT. Laws of the sparse tables: reading after writing, and the canonical form every write keeps. -/

namespace Sys2Proof.Machine

variable {α : Type}

theorem tget_tins_same (d : Nat → α) (k : Nat) (v : α) (t : List (Nat × α)) : tget d (tins k v t) k = v := by
  induction t with
  | nil => simp [tins, tget]
  | cons p t ih =>
    obtain ⟨j, w⟩ := p
    simp only [tins]
    split
    · next h => simp [tget, Nat.ne_of_lt h, ih]
    · split <;> simp [tget]

theorem tget_tins_ne (d : Nat → α) {k k' : Nat} (h : k' ≠ k) (v : α) (t : List (Nat × α)) :
    tget d (tins k v t) k' = tget d t k' := by
  induction t with
  | nil => simp [tins, tget, Ne.symm h]
  | cons p t ih =>
    obtain ⟨j, w⟩ := p
    simp only [tins]
    split
    · simp [tget, ih]
    · split
      · next e => subst e; simp [tget, Ne.symm h]
      · simp [tget, Ne.symm h]

theorem tget_filter_same (d : Nat → α) (k : Nat) (t : List (Nat × α)) : tget d (t.filter fun p => p.1 != k) k = d k := by
  induction t with
  | nil => rfl
  | cons p t ih =>
    obtain ⟨j, w⟩ := p
    by_cases h : j = k <;> simp [h, tget, ih]

theorem tget_filter_ne (d : Nat → α) {k k' : Nat} (h : k' ≠ k) (t : List (Nat × α)) :
    tget d (t.filter fun p => p.1 != k) k' = tget d t k' := by
  induction t with
  | nil => rfl
  | cons p t ih =>
    obtain ⟨j, w⟩ := p
    by_cases e : j = k
    · subst e; simp [tget, Ne.symm h, ih]
    · simp [e, tget, ih]

variable [DecidableEq α]

/-- A written key reads back what was written, whatever the table. -/
@[simp] theorem tget_tput_same (d : Nat → α) (k : Nat) (v : α) (t : List (Nat × α)) : tget d (tput d k v t) k = v := by
  unfold tput
  split
  · next h => rw [tget_filter_same, h]
  · exact tget_tins_same d k v t

/-- Every other key reads as before. -/
theorem tget_tput_ne (d : Nat → α) {k k' : Nat} (h : k' ≠ k) (v : α) (t : List (Nat × α)) :
    tget d (tput d k v t) k' = tget d t k' := by
  unfold tput
  split
  · exact tget_filter_ne d h t
  · exact tget_tins_ne d h v t

theorem twfFrom_mono (d : Nat → α) {lo lo' : Nat} (h : lo' ≤ lo) {t : List (Nat × α)} (ht : twfFrom d lo t = true) :
    twfFrom d lo' t = true := by
  cases t with
  | nil => rfl
  | cons p t =>
    simp only [twfFrom, Bool.and_eq_true, decide_eq_true_eq] at ht ⊢
    exact ⟨⟨by omega, ht.1.2⟩, ht.2⟩

theorem twfFrom_filter (d : Nat → α) (q : Nat × α → Bool) {lo : Nat} {t : List (Nat × α)} (ht : twfFrom d lo t = true) :
    twfFrom d lo (t.filter q) = true := by
  induction t generalizing lo with
  | nil => rfl
  | cons p t ih =>
    simp only [twfFrom, Bool.and_eq_true, decide_eq_true_eq] at ht
    by_cases h : q p = true
    · simp only [List.filter_cons, h, if_true, twfFrom, Bool.and_eq_true, decide_eq_true_eq]
      exact ⟨ht.1, ih ht.2⟩
    · simp only [List.filter_cons, h]
      exact ih (twfFrom_mono d (by omega) ht.2)

theorem twfFrom_tins (d : Nat → α) {k : Nat} {v : α} (hv : v ≠ d k) {lo : Nat} (hk : lo ≤ k) {t : List (Nat × α)}
    (ht : twfFrom d lo t = true) : twfFrom d lo (tins k v t) = true := by
  induction t generalizing lo with
  | nil => simp [tins, twfFrom, hk, hv]
  | cons p t ih =>
    obtain ⟨j, w⟩ := p
    simp only [twfFrom, Bool.and_eq_true, decide_eq_true_eq] at ht
    simp only [tins]
    split
    · next h =>
      simp only [twfFrom, Bool.and_eq_true, decide_eq_true_eq]
      exact ⟨ht.1, ih (by omega) ht.2⟩
    · split
      · next e => subst e; simp [twfFrom, hk, hv, ht.2]
      · simp only [twfFrom, Bool.and_eq_true, decide_eq_true_eq]
        exact ⟨⟨hk, hv⟩, ⟨by omega, ht.1.2⟩, ht.2⟩

/-- A write keeps the canonical form. -/
theorem twf_tput (d : Nat → α) (k : Nat) (v : α) {t : List (Nat × α)} (ht : twf d t = true) : twf d (tput d k v t) = true := by
  unfold tput
  split
  · exact twfFrom_filter d _ ht
  · next h => exact twfFrom_tins d h (Nat.zero_le k) ht

end Sys2Proof.Machine
end

