-- ==== Sys2Proof/Laws/State.lean ====
section
/-! SUPPORT. What the shared updates of Machine/Ops.lean leave alone, field by field, and reading a register after one was set. -/

namespace Sys2Proof.Machine

variable (s : State)

/-! ### Registers -/

theorem regKey_eq {ref ref' i i' : Nat} (h : regKey ref i = regKey ref' i') : ref = ref' ∧ i % 2 ^ 24 = i' % 2 ^ 24 := by
  unfold regKey at h
  omega

/-- A register reads what it was set to, cut to its width. -/
@[simp] theorem reg_setReg_same (r : Reg) (i v : Nat) : (s.setReg r i v).reg r i = v % 2 ^ r.bits := by
  simp [State.reg, State.setReg]

/-- Another register reads as before. -/
theorem reg_setReg_of_ref {r r' : Reg} (h : r'.ref ≠ r.ref) (i j v : Nat) : (s.setReg r i v).reg r' j = s.reg r' j := by
  simp only [State.reg, State.setReg]
  exact tget_tput_ne _ (fun e => h (regKey_eq e).1) _ _

/-- Another instance of the register reads as before. -/
theorem reg_setReg_of_inst (r : Reg) {i j : Nat} (h : j % 2 ^ 24 ≠ i % 2 ^ 24) (v : Nat) : (s.setReg r i v).reg r j = s.reg r j := by
  simp only [State.reg, State.setReg]
  exact tget_tput_ne _ (fun e => h (regKey_eq e).2) _ _

theorem reg_add_of_ref {r r' : Reg} (h : r'.ref ≠ r.ref) (i j n : Nat) : (s.add r i n).reg r' j = s.reg r' j :=
  reg_setReg_of_ref s h i j _

theorem reg_inc_of_ref {r r' : Reg} (h : r'.ref ≠ r.ref) (i j : Nat) : (s.inc r i).reg r' j = s.reg r' j :=
  reg_setReg_of_ref s h i j _

@[simp] theorem reg_inc_same (r : Reg) (i : Nat) : (s.inc r i).reg r i = (s.reg r i + 1) % 2 ^ r.bits :=
  reg_setReg_same s r i _

theorem reg_peak_of_ref {r r' : Reg} (h : r'.ref ≠ r.ref) (i j n : Nat) : (s.peak r i n).reg r' j = s.reg r' j := by
  unfold State.peak
  split
  · exact reg_setReg_of_ref s h i j _
  · rfl


/-! ### setReg -/

@[simp] theorem setReg_now (r : Reg) (i v : Nat) : (s.setReg r i v).now = s.now := rfl
@[simp] theorem setReg_mono (r : Reg) (i v : Nat) : (s.setReg r i v).mono = s.mono := rfl
@[simp] theorem setReg_tbRun (r : Reg) (i v : Nat) : (s.setReg r i v).tbRun = s.tbRun := rfl
@[simp] theorem setReg_free (r : Reg) (i v : Nat) : (s.setReg r i v).free = s.free := rfl
@[simp] theorem setReg_reply (r : Reg) (i v : Nat) : (s.setReg r i v).reply = s.reply := rfl
@[simp] theorem setReg_doms (r : Reg) (i v : Nat) : (s.setReg r i v).doms = s.doms := rfl
@[simp] theorem setReg_log (r : Reg) (i v : Nat) : (s.setReg r i v).log = s.log := rfl
@[simp] theorem setReg_latched (r : Reg) (i v : Nat) : (s.setReg r i v).latched = s.latched := rfl
@[simp] theorem setReg_conds (r : Reg) (i v : Nat) : (s.setReg r i v).conds = s.conds := rfl
@[simp] theorem setReg_phase (r : Reg) (i v : Nat) : (s.setReg r i v).phase = s.phase := rfl
@[simp] theorem setReg_tb (r : Reg) (i v : Nat) : (s.setReg r i v).tb = s.tb := rfl
@[simp] theorem setReg_sched (r : Reg) (i v : Nat) : (s.setReg r i v).sched = s.sched := rfl
@[simp] theorem setReg_adm (r : Reg) (i v : Nat) : (s.setReg r i v).adm = s.adm := rfl
@[simp] theorem setReg_store (r : Reg) (i v : Nat) : (s.setReg r i v).store = s.store := rfl
@[simp] theorem setReg_boot (r : Reg) (i v : Nat) : (s.setReg r i v).boot = s.boot := rfl
@[simp] theorem setReg_streams (r : Reg) (i v : Nat) : (s.setReg r i v).streams = s.streams := rfl
@[simp] theorem setReg_rings (r : Reg) (i v : Nat) : (s.setReg r i v).rings = s.rings := rfl
@[simp] theorem setReg_ens (r : Reg) (i v : Nat) : (s.setReg r i v).ens = s.ens := rfl
@[simp] theorem setReg_engines (r : Reg) (i v : Nat) : (s.setReg r i v).engines = s.engines := rfl
@[simp] theorem setReg_scratch (r : Reg) (i v : Nat) : (s.setReg r i v).scratch = s.scratch := rfl
@[simp] theorem setReg_lanes (r : Reg) (i v : Nat) : (s.setReg r i v).lanes = s.lanes := rfl
@[simp] theorem setReg_steward (r : Reg) (i v : Nat) : (s.setReg r i v).steward = s.steward := rfl
@[simp] theorem setReg_dusk (r : Reg) (i v : Nat) : (s.setReg r i v).dusk = s.dusk := rfl
@[simp] theorem setReg_fabric (r : Reg) (i v : Nat) : (s.setReg r i v).fabric = s.fabric := rfl
@[simp] theorem setReg_config (r : Reg) (i v : Nat) : (s.setReg r i v).config = s.config := rfl
@[simp] theorem setReg_service (r : Reg) (i v : Nat) : (s.setReg r i v).service = s.service := rfl
@[simp] theorem setReg_power (r : Reg) (i v : Nat) : (s.setReg r i v).power = s.power := rfl
@[simp] theorem setReg_pending (r : Reg) (i v : Nat) : (s.setReg r i v).pending = s.pending := rfl

/-! ### add -/

@[simp] theorem add_now (r : Reg) (i n : Nat) : (s.add r i n).now = s.now := rfl
@[simp] theorem add_mono (r : Reg) (i n : Nat) : (s.add r i n).mono = s.mono := rfl
@[simp] theorem add_tbRun (r : Reg) (i n : Nat) : (s.add r i n).tbRun = s.tbRun := rfl
@[simp] theorem add_free (r : Reg) (i n : Nat) : (s.add r i n).free = s.free := rfl
@[simp] theorem add_reply (r : Reg) (i n : Nat) : (s.add r i n).reply = s.reply := rfl
@[simp] theorem add_doms (r : Reg) (i n : Nat) : (s.add r i n).doms = s.doms := rfl
@[simp] theorem add_log (r : Reg) (i n : Nat) : (s.add r i n).log = s.log := rfl
@[simp] theorem add_latched (r : Reg) (i n : Nat) : (s.add r i n).latched = s.latched := rfl
@[simp] theorem add_conds (r : Reg) (i n : Nat) : (s.add r i n).conds = s.conds := rfl
@[simp] theorem add_phase (r : Reg) (i n : Nat) : (s.add r i n).phase = s.phase := rfl
@[simp] theorem add_tb (r : Reg) (i n : Nat) : (s.add r i n).tb = s.tb := rfl
@[simp] theorem add_sched (r : Reg) (i n : Nat) : (s.add r i n).sched = s.sched := rfl
@[simp] theorem add_adm (r : Reg) (i n : Nat) : (s.add r i n).adm = s.adm := rfl
@[simp] theorem add_store (r : Reg) (i n : Nat) : (s.add r i n).store = s.store := rfl
@[simp] theorem add_boot (r : Reg) (i n : Nat) : (s.add r i n).boot = s.boot := rfl
@[simp] theorem add_streams (r : Reg) (i n : Nat) : (s.add r i n).streams = s.streams := rfl
@[simp] theorem add_rings (r : Reg) (i n : Nat) : (s.add r i n).rings = s.rings := rfl
@[simp] theorem add_ens (r : Reg) (i n : Nat) : (s.add r i n).ens = s.ens := rfl
@[simp] theorem add_engines (r : Reg) (i n : Nat) : (s.add r i n).engines = s.engines := rfl
@[simp] theorem add_scratch (r : Reg) (i n : Nat) : (s.add r i n).scratch = s.scratch := rfl
@[simp] theorem add_lanes (r : Reg) (i n : Nat) : (s.add r i n).lanes = s.lanes := rfl
@[simp] theorem add_steward (r : Reg) (i n : Nat) : (s.add r i n).steward = s.steward := rfl
@[simp] theorem add_dusk (r : Reg) (i n : Nat) : (s.add r i n).dusk = s.dusk := rfl
@[simp] theorem add_fabric (r : Reg) (i n : Nat) : (s.add r i n).fabric = s.fabric := rfl
@[simp] theorem add_config (r : Reg) (i n : Nat) : (s.add r i n).config = s.config := rfl
@[simp] theorem add_service (r : Reg) (i n : Nat) : (s.add r i n).service = s.service := rfl
@[simp] theorem add_power (r : Reg) (i n : Nat) : (s.add r i n).power = s.power := rfl
@[simp] theorem add_pending (r : Reg) (i n : Nat) : (s.add r i n).pending = s.pending := rfl

/-! ### inc -/

@[simp] theorem inc_now (r : Reg) (i : Nat) : (s.inc r i).now = s.now := rfl
@[simp] theorem inc_mono (r : Reg) (i : Nat) : (s.inc r i).mono = s.mono := rfl
@[simp] theorem inc_tbRun (r : Reg) (i : Nat) : (s.inc r i).tbRun = s.tbRun := rfl
@[simp] theorem inc_free (r : Reg) (i : Nat) : (s.inc r i).free = s.free := rfl
@[simp] theorem inc_reply (r : Reg) (i : Nat) : (s.inc r i).reply = s.reply := rfl
@[simp] theorem inc_doms (r : Reg) (i : Nat) : (s.inc r i).doms = s.doms := rfl
@[simp] theorem inc_log (r : Reg) (i : Nat) : (s.inc r i).log = s.log := rfl
@[simp] theorem inc_latched (r : Reg) (i : Nat) : (s.inc r i).latched = s.latched := rfl
@[simp] theorem inc_conds (r : Reg) (i : Nat) : (s.inc r i).conds = s.conds := rfl
@[simp] theorem inc_phase (r : Reg) (i : Nat) : (s.inc r i).phase = s.phase := rfl
@[simp] theorem inc_tb (r : Reg) (i : Nat) : (s.inc r i).tb = s.tb := rfl
@[simp] theorem inc_sched (r : Reg) (i : Nat) : (s.inc r i).sched = s.sched := rfl
@[simp] theorem inc_adm (r : Reg) (i : Nat) : (s.inc r i).adm = s.adm := rfl
@[simp] theorem inc_store (r : Reg) (i : Nat) : (s.inc r i).store = s.store := rfl
@[simp] theorem inc_boot (r : Reg) (i : Nat) : (s.inc r i).boot = s.boot := rfl
@[simp] theorem inc_streams (r : Reg) (i : Nat) : (s.inc r i).streams = s.streams := rfl
@[simp] theorem inc_rings (r : Reg) (i : Nat) : (s.inc r i).rings = s.rings := rfl
@[simp] theorem inc_ens (r : Reg) (i : Nat) : (s.inc r i).ens = s.ens := rfl
@[simp] theorem inc_engines (r : Reg) (i : Nat) : (s.inc r i).engines = s.engines := rfl
@[simp] theorem inc_scratch (r : Reg) (i : Nat) : (s.inc r i).scratch = s.scratch := rfl
@[simp] theorem inc_lanes (r : Reg) (i : Nat) : (s.inc r i).lanes = s.lanes := rfl
@[simp] theorem inc_steward (r : Reg) (i : Nat) : (s.inc r i).steward = s.steward := rfl
@[simp] theorem inc_dusk (r : Reg) (i : Nat) : (s.inc r i).dusk = s.dusk := rfl
@[simp] theorem inc_fabric (r : Reg) (i : Nat) : (s.inc r i).fabric = s.fabric := rfl
@[simp] theorem inc_config (r : Reg) (i : Nat) : (s.inc r i).config = s.config := rfl
@[simp] theorem inc_service (r : Reg) (i : Nat) : (s.inc r i).service = s.service := rfl
@[simp] theorem inc_power (r : Reg) (i : Nat) : (s.inc r i).power = s.power := rfl
@[simp] theorem inc_pending (r : Reg) (i : Nat) : (s.inc r i).pending = s.pending := rfl

/-! ### peak -/

@[simp] theorem peak_now (r : Reg) (i n : Nat) : (s.peak r i n).now = s.now := by
  unfold State.peak; split <;> rfl
@[simp] theorem peak_mono (r : Reg) (i n : Nat) : (s.peak r i n).mono = s.mono := by
  unfold State.peak; split <;> rfl
@[simp] theorem peak_tbRun (r : Reg) (i n : Nat) : (s.peak r i n).tbRun = s.tbRun := by
  unfold State.peak; split <;> rfl
@[simp] theorem peak_free (r : Reg) (i n : Nat) : (s.peak r i n).free = s.free := by
  unfold State.peak; split <;> rfl
@[simp] theorem peak_reply (r : Reg) (i n : Nat) : (s.peak r i n).reply = s.reply := by
  unfold State.peak; split <;> rfl
@[simp] theorem peak_doms (r : Reg) (i n : Nat) : (s.peak r i n).doms = s.doms := by
  unfold State.peak; split <;> rfl
@[simp] theorem peak_log (r : Reg) (i n : Nat) : (s.peak r i n).log = s.log := by
  unfold State.peak; split <;> rfl
@[simp] theorem peak_latched (r : Reg) (i n : Nat) : (s.peak r i n).latched = s.latched := by
  unfold State.peak; split <;> rfl
@[simp] theorem peak_conds (r : Reg) (i n : Nat) : (s.peak r i n).conds = s.conds := by
  unfold State.peak; split <;> rfl
@[simp] theorem peak_phase (r : Reg) (i n : Nat) : (s.peak r i n).phase = s.phase := by
  unfold State.peak; split <;> rfl
@[simp] theorem peak_tb (r : Reg) (i n : Nat) : (s.peak r i n).tb = s.tb := by
  unfold State.peak; split <;> rfl
@[simp] theorem peak_sched (r : Reg) (i n : Nat) : (s.peak r i n).sched = s.sched := by
  unfold State.peak; split <;> rfl
@[simp] theorem peak_adm (r : Reg) (i n : Nat) : (s.peak r i n).adm = s.adm := by
  unfold State.peak; split <;> rfl
@[simp] theorem peak_store (r : Reg) (i n : Nat) : (s.peak r i n).store = s.store := by
  unfold State.peak; split <;> rfl
@[simp] theorem peak_boot (r : Reg) (i n : Nat) : (s.peak r i n).boot = s.boot := by
  unfold State.peak; split <;> rfl
@[simp] theorem peak_streams (r : Reg) (i n : Nat) : (s.peak r i n).streams = s.streams := by
  unfold State.peak; split <;> rfl
@[simp] theorem peak_rings (r : Reg) (i n : Nat) : (s.peak r i n).rings = s.rings := by
  unfold State.peak; split <;> rfl
@[simp] theorem peak_ens (r : Reg) (i n : Nat) : (s.peak r i n).ens = s.ens := by
  unfold State.peak; split <;> rfl
@[simp] theorem peak_engines (r : Reg) (i n : Nat) : (s.peak r i n).engines = s.engines := by
  unfold State.peak; split <;> rfl
@[simp] theorem peak_scratch (r : Reg) (i n : Nat) : (s.peak r i n).scratch = s.scratch := by
  unfold State.peak; split <;> rfl
@[simp] theorem peak_lanes (r : Reg) (i n : Nat) : (s.peak r i n).lanes = s.lanes := by
  unfold State.peak; split <;> rfl
@[simp] theorem peak_steward (r : Reg) (i n : Nat) : (s.peak r i n).steward = s.steward := by
  unfold State.peak; split <;> rfl
@[simp] theorem peak_dusk (r : Reg) (i n : Nat) : (s.peak r i n).dusk = s.dusk := by
  unfold State.peak; split <;> rfl
@[simp] theorem peak_fabric (r : Reg) (i n : Nat) : (s.peak r i n).fabric = s.fabric := by
  unfold State.peak; split <;> rfl
@[simp] theorem peak_config (r : Reg) (i n : Nat) : (s.peak r i n).config = s.config := by
  unfold State.peak; split <;> rfl
@[simp] theorem peak_service (r : Reg) (i n : Nat) : (s.peak r i n).service = s.service := by
  unfold State.peak; split <;> rfl
@[simp] theorem peak_power (r : Reg) (i n : Nat) : (s.peak r i n).power = s.power := by
  unfold State.peak; split <;> rfl
@[simp] theorem peak_pending (r : Reg) (i n : Nat) : (s.peak r i n).pending = s.pending := by
  unfold State.peak; split <;> rfl

/-! ### setDom -/

@[simp] theorem setDom_now (r : Reg) (i : Nat) (l : List Byte) : (s.setDom r i l).now = s.now := rfl
@[simp] theorem setDom_mono (r : Reg) (i : Nat) (l : List Byte) : (s.setDom r i l).mono = s.mono := rfl
@[simp] theorem setDom_tbRun (r : Reg) (i : Nat) (l : List Byte) : (s.setDom r i l).tbRun = s.tbRun := rfl
@[simp] theorem setDom_free (r : Reg) (i : Nat) (l : List Byte) : (s.setDom r i l).free = s.free := rfl
@[simp] theorem setDom_reply (r : Reg) (i : Nat) (l : List Byte) : (s.setDom r i l).reply = s.reply := rfl
@[simp] theorem setDom_regs (r : Reg) (i : Nat) (l : List Byte) : (s.setDom r i l).regs = s.regs := rfl
@[simp] theorem setDom_log (r : Reg) (i : Nat) (l : List Byte) : (s.setDom r i l).log = s.log := rfl
@[simp] theorem setDom_latched (r : Reg) (i : Nat) (l : List Byte) : (s.setDom r i l).latched = s.latched := rfl
@[simp] theorem setDom_conds (r : Reg) (i : Nat) (l : List Byte) : (s.setDom r i l).conds = s.conds := rfl
@[simp] theorem setDom_phase (r : Reg) (i : Nat) (l : List Byte) : (s.setDom r i l).phase = s.phase := rfl
@[simp] theorem setDom_tb (r : Reg) (i : Nat) (l : List Byte) : (s.setDom r i l).tb = s.tb := rfl
@[simp] theorem setDom_sched (r : Reg) (i : Nat) (l : List Byte) : (s.setDom r i l).sched = s.sched := rfl
@[simp] theorem setDom_adm (r : Reg) (i : Nat) (l : List Byte) : (s.setDom r i l).adm = s.adm := rfl
@[simp] theorem setDom_store (r : Reg) (i : Nat) (l : List Byte) : (s.setDom r i l).store = s.store := rfl
@[simp] theorem setDom_boot (r : Reg) (i : Nat) (l : List Byte) : (s.setDom r i l).boot = s.boot := rfl
@[simp] theorem setDom_streams (r : Reg) (i : Nat) (l : List Byte) : (s.setDom r i l).streams = s.streams := rfl
@[simp] theorem setDom_rings (r : Reg) (i : Nat) (l : List Byte) : (s.setDom r i l).rings = s.rings := rfl
@[simp] theorem setDom_ens (r : Reg) (i : Nat) (l : List Byte) : (s.setDom r i l).ens = s.ens := rfl
@[simp] theorem setDom_engines (r : Reg) (i : Nat) (l : List Byte) : (s.setDom r i l).engines = s.engines := rfl
@[simp] theorem setDom_scratch (r : Reg) (i : Nat) (l : List Byte) : (s.setDom r i l).scratch = s.scratch := rfl
@[simp] theorem setDom_lanes (r : Reg) (i : Nat) (l : List Byte) : (s.setDom r i l).lanes = s.lanes := rfl
@[simp] theorem setDom_steward (r : Reg) (i : Nat) (l : List Byte) : (s.setDom r i l).steward = s.steward := rfl
@[simp] theorem setDom_dusk (r : Reg) (i : Nat) (l : List Byte) : (s.setDom r i l).dusk = s.dusk := rfl
@[simp] theorem setDom_fabric (r : Reg) (i : Nat) (l : List Byte) : (s.setDom r i l).fabric = s.fabric := rfl
@[simp] theorem setDom_config (r : Reg) (i : Nat) (l : List Byte) : (s.setDom r i l).config = s.config := rfl
@[simp] theorem setDom_service (r : Reg) (i : Nat) (l : List Byte) : (s.setDom r i l).service = s.service := rfl
@[simp] theorem setDom_power (r : Reg) (i : Nat) (l : List Byte) : (s.setDom r i l).power = s.power := rfl
@[simp] theorem setDom_pending (r : Reg) (i : Nat) (l : List Byte) : (s.setDom r i l).pending = s.pending := rfl

/-! ### answer -/

@[simp] theorem answer_now (n : Nat) : (s.answer n).now = s.now := rfl
@[simp] theorem answer_mono (n : Nat) : (s.answer n).mono = s.mono := rfl
@[simp] theorem answer_tbRun (n : Nat) : (s.answer n).tbRun = s.tbRun := rfl
@[simp] theorem answer_free (n : Nat) : (s.answer n).free = s.free := rfl
@[simp] theorem answer_regs (n : Nat) : (s.answer n).regs = s.regs := rfl
@[simp] theorem answer_doms (n : Nat) : (s.answer n).doms = s.doms := rfl
@[simp] theorem answer_log (n : Nat) : (s.answer n).log = s.log := rfl
@[simp] theorem answer_latched (n : Nat) : (s.answer n).latched = s.latched := rfl
@[simp] theorem answer_conds (n : Nat) : (s.answer n).conds = s.conds := rfl
@[simp] theorem answer_phase (n : Nat) : (s.answer n).phase = s.phase := rfl
@[simp] theorem answer_tb (n : Nat) : (s.answer n).tb = s.tb := rfl
@[simp] theorem answer_sched (n : Nat) : (s.answer n).sched = s.sched := rfl
@[simp] theorem answer_adm (n : Nat) : (s.answer n).adm = s.adm := rfl
@[simp] theorem answer_store (n : Nat) : (s.answer n).store = s.store := rfl
@[simp] theorem answer_boot (n : Nat) : (s.answer n).boot = s.boot := rfl
@[simp] theorem answer_streams (n : Nat) : (s.answer n).streams = s.streams := rfl
@[simp] theorem answer_rings (n : Nat) : (s.answer n).rings = s.rings := rfl
@[simp] theorem answer_ens (n : Nat) : (s.answer n).ens = s.ens := rfl
@[simp] theorem answer_engines (n : Nat) : (s.answer n).engines = s.engines := rfl
@[simp] theorem answer_scratch (n : Nat) : (s.answer n).scratch = s.scratch := rfl
@[simp] theorem answer_lanes (n : Nat) : (s.answer n).lanes = s.lanes := rfl
@[simp] theorem answer_steward (n : Nat) : (s.answer n).steward = s.steward := rfl
@[simp] theorem answer_dusk (n : Nat) : (s.answer n).dusk = s.dusk := rfl
@[simp] theorem answer_fabric (n : Nat) : (s.answer n).fabric = s.fabric := rfl
@[simp] theorem answer_config (n : Nat) : (s.answer n).config = s.config := rfl
@[simp] theorem answer_service (n : Nat) : (s.answer n).service = s.service := rfl
@[simp] theorem answer_power (n : Nat) : (s.answer n).power = s.power := rfl
@[simp] theorem answer_pending (n : Nat) : (s.answer n).pending = s.pending := rfl

/-! ### answerWith -/

@[simp] theorem answerWith_now (l : List Byte) : (s.answerWith l).now = s.now := rfl
@[simp] theorem answerWith_mono (l : List Byte) : (s.answerWith l).mono = s.mono := rfl
@[simp] theorem answerWith_tbRun (l : List Byte) : (s.answerWith l).tbRun = s.tbRun := rfl
@[simp] theorem answerWith_free (l : List Byte) : (s.answerWith l).free = s.free := rfl
@[simp] theorem answerWith_regs (l : List Byte) : (s.answerWith l).regs = s.regs := rfl
@[simp] theorem answerWith_doms (l : List Byte) : (s.answerWith l).doms = s.doms := rfl
@[simp] theorem answerWith_log (l : List Byte) : (s.answerWith l).log = s.log := rfl
@[simp] theorem answerWith_latched (l : List Byte) : (s.answerWith l).latched = s.latched := rfl
@[simp] theorem answerWith_conds (l : List Byte) : (s.answerWith l).conds = s.conds := rfl
@[simp] theorem answerWith_phase (l : List Byte) : (s.answerWith l).phase = s.phase := rfl
@[simp] theorem answerWith_tb (l : List Byte) : (s.answerWith l).tb = s.tb := rfl
@[simp] theorem answerWith_sched (l : List Byte) : (s.answerWith l).sched = s.sched := rfl
@[simp] theorem answerWith_adm (l : List Byte) : (s.answerWith l).adm = s.adm := rfl
@[simp] theorem answerWith_store (l : List Byte) : (s.answerWith l).store = s.store := rfl
@[simp] theorem answerWith_boot (l : List Byte) : (s.answerWith l).boot = s.boot := rfl
@[simp] theorem answerWith_streams (l : List Byte) : (s.answerWith l).streams = s.streams := rfl
@[simp] theorem answerWith_rings (l : List Byte) : (s.answerWith l).rings = s.rings := rfl
@[simp] theorem answerWith_ens (l : List Byte) : (s.answerWith l).ens = s.ens := rfl
@[simp] theorem answerWith_engines (l : List Byte) : (s.answerWith l).engines = s.engines := rfl
@[simp] theorem answerWith_scratch (l : List Byte) : (s.answerWith l).scratch = s.scratch := rfl
@[simp] theorem answerWith_lanes (l : List Byte) : (s.answerWith l).lanes = s.lanes := rfl
@[simp] theorem answerWith_steward (l : List Byte) : (s.answerWith l).steward = s.steward := rfl
@[simp] theorem answerWith_dusk (l : List Byte) : (s.answerWith l).dusk = s.dusk := rfl
@[simp] theorem answerWith_fabric (l : List Byte) : (s.answerWith l).fabric = s.fabric := rfl
@[simp] theorem answerWith_config (l : List Byte) : (s.answerWith l).config = s.config := rfl
@[simp] theorem answerWith_service (l : List Byte) : (s.answerWith l).service = s.service := rfl
@[simp] theorem answerWith_power (l : List Byte) : (s.answerWith l).power = s.power := rfl
@[simp] theorem answerWith_pending (l : List Byte) : (s.answerWith l).pending = s.pending := rfl

/-! ### silent -/

@[simp] theorem silent_now  : (s.silent).now = s.now := rfl
@[simp] theorem silent_mono  : (s.silent).mono = s.mono := rfl
@[simp] theorem silent_tbRun  : (s.silent).tbRun = s.tbRun := rfl
@[simp] theorem silent_free  : (s.silent).free = s.free := rfl
@[simp] theorem silent_regs  : (s.silent).regs = s.regs := rfl
@[simp] theorem silent_doms  : (s.silent).doms = s.doms := rfl
@[simp] theorem silent_log  : (s.silent).log = s.log := rfl
@[simp] theorem silent_latched  : (s.silent).latched = s.latched := rfl
@[simp] theorem silent_conds  : (s.silent).conds = s.conds := rfl
@[simp] theorem silent_phase  : (s.silent).phase = s.phase := rfl
@[simp] theorem silent_tb  : (s.silent).tb = s.tb := rfl
@[simp] theorem silent_sched  : (s.silent).sched = s.sched := rfl
@[simp] theorem silent_adm  : (s.silent).adm = s.adm := rfl
@[simp] theorem silent_store  : (s.silent).store = s.store := rfl
@[simp] theorem silent_boot  : (s.silent).boot = s.boot := rfl
@[simp] theorem silent_streams  : (s.silent).streams = s.streams := rfl
@[simp] theorem silent_rings  : (s.silent).rings = s.rings := rfl
@[simp] theorem silent_ens  : (s.silent).ens = s.ens := rfl
@[simp] theorem silent_engines  : (s.silent).engines = s.engines := rfl
@[simp] theorem silent_scratch  : (s.silent).scratch = s.scratch := rfl
@[simp] theorem silent_lanes  : (s.silent).lanes = s.lanes := rfl
@[simp] theorem silent_steward  : (s.silent).steward = s.steward := rfl
@[simp] theorem silent_dusk  : (s.silent).dusk = s.dusk := rfl
@[simp] theorem silent_fabric  : (s.silent).fabric = s.fabric := rfl
@[simp] theorem silent_config  : (s.silent).config = s.config := rfl
@[simp] theorem silent_service  : (s.silent).service = s.service := rfl
@[simp] theorem silent_power  : (s.silent).power = s.power := rfl
@[simp] theorem silent_pending  : (s.silent).pending = s.pending := rfl

/-! ### took -/

@[simp] theorem took_now  : (s.took).now = s.now := rfl
@[simp] theorem took_mono  : (s.took).mono = s.mono := rfl
@[simp] theorem took_tbRun  : (s.took).tbRun = s.tbRun := rfl
@[simp] theorem took_reply  : (s.took).reply = s.reply := rfl
@[simp] theorem took_regs  : (s.took).regs = s.regs := rfl
@[simp] theorem took_doms  : (s.took).doms = s.doms := rfl
@[simp] theorem took_log  : (s.took).log = s.log := rfl
@[simp] theorem took_latched  : (s.took).latched = s.latched := rfl
@[simp] theorem took_conds  : (s.took).conds = s.conds := rfl
@[simp] theorem took_phase  : (s.took).phase = s.phase := rfl
@[simp] theorem took_tb  : (s.took).tb = s.tb := rfl
@[simp] theorem took_sched  : (s.took).sched = s.sched := rfl
@[simp] theorem took_adm  : (s.took).adm = s.adm := rfl
@[simp] theorem took_store  : (s.took).store = s.store := rfl
@[simp] theorem took_boot  : (s.took).boot = s.boot := rfl
@[simp] theorem took_streams  : (s.took).streams = s.streams := rfl
@[simp] theorem took_rings  : (s.took).rings = s.rings := rfl
@[simp] theorem took_ens  : (s.took).ens = s.ens := rfl
@[simp] theorem took_engines  : (s.took).engines = s.engines := rfl
@[simp] theorem took_scratch  : (s.took).scratch = s.scratch := rfl
@[simp] theorem took_lanes  : (s.took).lanes = s.lanes := rfl
@[simp] theorem took_steward  : (s.took).steward = s.steward := rfl
@[simp] theorem took_dusk  : (s.took).dusk = s.dusk := rfl
@[simp] theorem took_fabric  : (s.took).fabric = s.fabric := rfl
@[simp] theorem took_config  : (s.took).config = s.config := rfl
@[simp] theorem took_service  : (s.took).service = s.service := rfl
@[simp] theorem took_power  : (s.took).power = s.power := rfl
@[simp] theorem took_pending  : (s.took).pending = s.pending := rfl

/-! ### advanceTo -/

@[simp] theorem advanceTo_tbRun (t : Nat) : (s.advanceTo t).tbRun = s.tbRun := by
  simp only [State.advanceTo]; split <;> rfl
@[simp] theorem advanceTo_free (t : Nat) : (s.advanceTo t).free = s.free := by
  simp only [State.advanceTo]; split <;> rfl
@[simp] theorem advanceTo_reply (t : Nat) : (s.advanceTo t).reply = s.reply := by
  simp only [State.advanceTo]; split <;> rfl
@[simp] theorem advanceTo_regs (t : Nat) : (s.advanceTo t).regs = s.regs := by
  simp only [State.advanceTo]; split <;> rfl
@[simp] theorem advanceTo_doms (t : Nat) : (s.advanceTo t).doms = s.doms := by
  simp only [State.advanceTo]; split <;> rfl
@[simp] theorem advanceTo_log (t : Nat) : (s.advanceTo t).log = s.log := by
  simp only [State.advanceTo]; split <;> rfl
@[simp] theorem advanceTo_latched (t : Nat) : (s.advanceTo t).latched = s.latched := by
  simp only [State.advanceTo]; split <;> rfl
@[simp] theorem advanceTo_conds (t : Nat) : (s.advanceTo t).conds = s.conds := by
  simp only [State.advanceTo]; split <;> rfl
@[simp] theorem advanceTo_phase (t : Nat) : (s.advanceTo t).phase = s.phase := by
  simp only [State.advanceTo]; split <;> rfl
@[simp] theorem advanceTo_sched (t : Nat) : (s.advanceTo t).sched = s.sched := by
  simp only [State.advanceTo]; split <;> rfl
@[simp] theorem advanceTo_adm (t : Nat) : (s.advanceTo t).adm = s.adm := by
  simp only [State.advanceTo]; split <;> rfl
@[simp] theorem advanceTo_store (t : Nat) : (s.advanceTo t).store = s.store := by
  simp only [State.advanceTo]; split <;> rfl
@[simp] theorem advanceTo_boot (t : Nat) : (s.advanceTo t).boot = s.boot := by
  simp only [State.advanceTo]; split <;> rfl
@[simp] theorem advanceTo_streams (t : Nat) : (s.advanceTo t).streams = s.streams := by
  simp only [State.advanceTo]; split <;> rfl
@[simp] theorem advanceTo_rings (t : Nat) : (s.advanceTo t).rings = s.rings := by
  simp only [State.advanceTo]; split <;> rfl
@[simp] theorem advanceTo_ens (t : Nat) : (s.advanceTo t).ens = s.ens := by
  simp only [State.advanceTo]; split <;> rfl
@[simp] theorem advanceTo_engines (t : Nat) : (s.advanceTo t).engines = s.engines := by
  simp only [State.advanceTo]; split <;> rfl
@[simp] theorem advanceTo_scratch (t : Nat) : (s.advanceTo t).scratch = s.scratch := by
  simp only [State.advanceTo]; split <;> rfl
@[simp] theorem advanceTo_lanes (t : Nat) : (s.advanceTo t).lanes = s.lanes := by
  simp only [State.advanceTo]; split <;> rfl
@[simp] theorem advanceTo_steward (t : Nat) : (s.advanceTo t).steward = s.steward := by
  simp only [State.advanceTo]; split <;> rfl
@[simp] theorem advanceTo_dusk (t : Nat) : (s.advanceTo t).dusk = s.dusk := by
  simp only [State.advanceTo]; split <;> rfl
@[simp] theorem advanceTo_fabric (t : Nat) : (s.advanceTo t).fabric = s.fabric := by
  simp only [State.advanceTo]; split <;> rfl
@[simp] theorem advanceTo_config (t : Nat) : (s.advanceTo t).config = s.config := by
  simp only [State.advanceTo]; split <;> rfl
@[simp] theorem advanceTo_service (t : Nat) : (s.advanceTo t).service = s.service := by
  simp only [State.advanceTo]; split <;> rfl
@[simp] theorem advanceTo_power (t : Nat) : (s.advanceTo t).power = s.power := by
  simp only [State.advanceTo]; split <;> rfl
@[simp] theorem advanceTo_pending (t : Nat) : (s.advanceTo t).pending = s.pending := by
  simp only [State.advanceTo]; split <;> rfl

/-! ### setQueue -/

@[simp] theorem setQueue_now (q : List EvRec) : (s.setQueue q).now = s.now := rfl
@[simp] theorem setQueue_mono (q : List EvRec) : (s.setQueue q).mono = s.mono := rfl
@[simp] theorem setQueue_tbRun (q : List EvRec) : (s.setQueue q).tbRun = s.tbRun := rfl
@[simp] theorem setQueue_free (q : List EvRec) : (s.setQueue q).free = s.free := rfl
@[simp] theorem setQueue_reply (q : List EvRec) : (s.setQueue q).reply = s.reply := rfl
@[simp] theorem setQueue_regs (q : List EvRec) : (s.setQueue q).regs = s.regs := rfl
@[simp] theorem setQueue_doms (q : List EvRec) : (s.setQueue q).doms = s.doms := rfl
@[simp] theorem setQueue_latched (q : List EvRec) : (s.setQueue q).latched = s.latched := rfl
@[simp] theorem setQueue_conds (q : List EvRec) : (s.setQueue q).conds = s.conds := rfl
@[simp] theorem setQueue_phase (q : List EvRec) : (s.setQueue q).phase = s.phase := rfl
@[simp] theorem setQueue_tb (q : List EvRec) : (s.setQueue q).tb = s.tb := rfl
@[simp] theorem setQueue_sched (q : List EvRec) : (s.setQueue q).sched = s.sched := rfl
@[simp] theorem setQueue_adm (q : List EvRec) : (s.setQueue q).adm = s.adm := rfl
@[simp] theorem setQueue_store (q : List EvRec) : (s.setQueue q).store = s.store := rfl
@[simp] theorem setQueue_boot (q : List EvRec) : (s.setQueue q).boot = s.boot := rfl
@[simp] theorem setQueue_streams (q : List EvRec) : (s.setQueue q).streams = s.streams := rfl
@[simp] theorem setQueue_rings (q : List EvRec) : (s.setQueue q).rings = s.rings := rfl
@[simp] theorem setQueue_ens (q : List EvRec) : (s.setQueue q).ens = s.ens := rfl
@[simp] theorem setQueue_engines (q : List EvRec) : (s.setQueue q).engines = s.engines := rfl
@[simp] theorem setQueue_scratch (q : List EvRec) : (s.setQueue q).scratch = s.scratch := rfl
@[simp] theorem setQueue_lanes (q : List EvRec) : (s.setQueue q).lanes = s.lanes := rfl
@[simp] theorem setQueue_steward (q : List EvRec) : (s.setQueue q).steward = s.steward := rfl
@[simp] theorem setQueue_dusk (q : List EvRec) : (s.setQueue q).dusk = s.dusk := rfl
@[simp] theorem setQueue_fabric (q : List EvRec) : (s.setQueue q).fabric = s.fabric := rfl
@[simp] theorem setQueue_config (q : List EvRec) : (s.setQueue q).config = s.config := rfl
@[simp] theorem setQueue_service (q : List EvRec) : (s.setQueue q).service = s.service := rfl
@[simp] theorem setQueue_power (q : List EvRec) : (s.setQueue q).power = s.power := rfl
@[simp] theorem setQueue_pending (q : List EvRec) : (s.setQueue q).pending = s.pending := rfl

/-! ### latch -/

@[simp] theorem latch_now (m : Nat) : (s.latch m).now = s.now := rfl
@[simp] theorem latch_mono (m : Nat) : (s.latch m).mono = s.mono := rfl
@[simp] theorem latch_tbRun (m : Nat) : (s.latch m).tbRun = s.tbRun := rfl
@[simp] theorem latch_free (m : Nat) : (s.latch m).free = s.free := rfl
@[simp] theorem latch_reply (m : Nat) : (s.latch m).reply = s.reply := rfl
@[simp] theorem latch_regs (m : Nat) : (s.latch m).regs = s.regs := rfl
@[simp] theorem latch_doms (m : Nat) : (s.latch m).doms = s.doms := rfl
@[simp] theorem latch_log (m : Nat) : (s.latch m).log = s.log := rfl
@[simp] theorem latch_conds (m : Nat) : (s.latch m).conds = s.conds := rfl
@[simp] theorem latch_phase (m : Nat) : (s.latch m).phase = s.phase := rfl
@[simp] theorem latch_tb (m : Nat) : (s.latch m).tb = s.tb := rfl
@[simp] theorem latch_sched (m : Nat) : (s.latch m).sched = s.sched := rfl
@[simp] theorem latch_adm (m : Nat) : (s.latch m).adm = s.adm := rfl
@[simp] theorem latch_store (m : Nat) : (s.latch m).store = s.store := rfl
@[simp] theorem latch_boot (m : Nat) : (s.latch m).boot = s.boot := rfl
@[simp] theorem latch_streams (m : Nat) : (s.latch m).streams = s.streams := rfl
@[simp] theorem latch_rings (m : Nat) : (s.latch m).rings = s.rings := rfl
@[simp] theorem latch_ens (m : Nat) : (s.latch m).ens = s.ens := rfl
@[simp] theorem latch_engines (m : Nat) : (s.latch m).engines = s.engines := rfl
@[simp] theorem latch_scratch (m : Nat) : (s.latch m).scratch = s.scratch := rfl
@[simp] theorem latch_lanes (m : Nat) : (s.latch m).lanes = s.lanes := rfl
@[simp] theorem latch_steward (m : Nat) : (s.latch m).steward = s.steward := rfl
@[simp] theorem latch_dusk (m : Nat) : (s.latch m).dusk = s.dusk := rfl
@[simp] theorem latch_fabric (m : Nat) : (s.latch m).fabric = s.fabric := rfl
@[simp] theorem latch_config (m : Nat) : (s.latch m).config = s.config := rfl
@[simp] theorem latch_service (m : Nat) : (s.latch m).service = s.service := rfl
@[simp] theorem latch_power (m : Nat) : (s.latch m).power = s.power := rfl
@[simp] theorem latch_pending (m : Nat) : (s.latch m).pending = s.pending := rfl

/-! ### countDrop -/

@[simp] theorem countDrop_now  : (s.countDrop).now = s.now := rfl
@[simp] theorem countDrop_mono  : (s.countDrop).mono = s.mono := rfl
@[simp] theorem countDrop_tbRun  : (s.countDrop).tbRun = s.tbRun := rfl
@[simp] theorem countDrop_free  : (s.countDrop).free = s.free := rfl
@[simp] theorem countDrop_reply  : (s.countDrop).reply = s.reply := rfl
@[simp] theorem countDrop_doms  : (s.countDrop).doms = s.doms := rfl
@[simp] theorem countDrop_latched  : (s.countDrop).latched = s.latched := rfl
@[simp] theorem countDrop_conds  : (s.countDrop).conds = s.conds := rfl
@[simp] theorem countDrop_phase  : (s.countDrop).phase = s.phase := rfl
@[simp] theorem countDrop_tb  : (s.countDrop).tb = s.tb := rfl
@[simp] theorem countDrop_sched  : (s.countDrop).sched = s.sched := rfl
@[simp] theorem countDrop_adm  : (s.countDrop).adm = s.adm := rfl
@[simp] theorem countDrop_store  : (s.countDrop).store = s.store := rfl
@[simp] theorem countDrop_boot  : (s.countDrop).boot = s.boot := rfl
@[simp] theorem countDrop_streams  : (s.countDrop).streams = s.streams := rfl
@[simp] theorem countDrop_rings  : (s.countDrop).rings = s.rings := rfl
@[simp] theorem countDrop_ens  : (s.countDrop).ens = s.ens := rfl
@[simp] theorem countDrop_engines  : (s.countDrop).engines = s.engines := rfl
@[simp] theorem countDrop_scratch  : (s.countDrop).scratch = s.scratch := rfl
@[simp] theorem countDrop_lanes  : (s.countDrop).lanes = s.lanes := rfl
@[simp] theorem countDrop_steward  : (s.countDrop).steward = s.steward := rfl
@[simp] theorem countDrop_dusk  : (s.countDrop).dusk = s.dusk := rfl
@[simp] theorem countDrop_fabric  : (s.countDrop).fabric = s.fabric := rfl
@[simp] theorem countDrop_config  : (s.countDrop).config = s.config := rfl
@[simp] theorem countDrop_service  : (s.countDrop).service = s.service := rfl
@[simp] theorem countDrop_power  : (s.countDrop).power = s.power := rfl
@[simp] theorem countDrop_pending  : (s.countDrop).pending = s.pending := rfl

/-! ### queueRecord -/

@[simp] theorem queueRecord_now (r : EvRec) : (s.queueRecord r).now = s.now := by
  simp only [State.queueRecord]; split <;> simp
@[simp] theorem queueRecord_mono (r : EvRec) : (s.queueRecord r).mono = s.mono := by
  simp only [State.queueRecord]; split <;> simp
@[simp] theorem queueRecord_tbRun (r : EvRec) : (s.queueRecord r).tbRun = s.tbRun := by
  simp only [State.queueRecord]; split <;> simp
@[simp] theorem queueRecord_free (r : EvRec) : (s.queueRecord r).free = s.free := by
  simp only [State.queueRecord]; split <;> simp
@[simp] theorem queueRecord_reply (r : EvRec) : (s.queueRecord r).reply = s.reply := by
  simp only [State.queueRecord]; split <;> simp
@[simp] theorem queueRecord_doms (r : EvRec) : (s.queueRecord r).doms = s.doms := by
  simp only [State.queueRecord]; split <;> simp
@[simp] theorem queueRecord_latched (r : EvRec) : (s.queueRecord r).latched = s.latched := by
  simp only [State.queueRecord]; split <;> simp
@[simp] theorem queueRecord_conds (r : EvRec) : (s.queueRecord r).conds = s.conds := by
  simp only [State.queueRecord]; split <;> simp
@[simp] theorem queueRecord_phase (r : EvRec) : (s.queueRecord r).phase = s.phase := by
  simp only [State.queueRecord]; split <;> simp
@[simp] theorem queueRecord_tb (r : EvRec) : (s.queueRecord r).tb = s.tb := by
  simp only [State.queueRecord]; split <;> simp
@[simp] theorem queueRecord_sched (r : EvRec) : (s.queueRecord r).sched = s.sched := by
  simp only [State.queueRecord]; split <;> simp
@[simp] theorem queueRecord_adm (r : EvRec) : (s.queueRecord r).adm = s.adm := by
  simp only [State.queueRecord]; split <;> simp
@[simp] theorem queueRecord_store (r : EvRec) : (s.queueRecord r).store = s.store := by
  simp only [State.queueRecord]; split <;> simp
@[simp] theorem queueRecord_boot (r : EvRec) : (s.queueRecord r).boot = s.boot := by
  simp only [State.queueRecord]; split <;> simp
@[simp] theorem queueRecord_streams (r : EvRec) : (s.queueRecord r).streams = s.streams := by
  simp only [State.queueRecord]; split <;> simp
@[simp] theorem queueRecord_rings (r : EvRec) : (s.queueRecord r).rings = s.rings := by
  simp only [State.queueRecord]; split <;> simp
@[simp] theorem queueRecord_ens (r : EvRec) : (s.queueRecord r).ens = s.ens := by
  simp only [State.queueRecord]; split <;> simp
@[simp] theorem queueRecord_engines (r : EvRec) : (s.queueRecord r).engines = s.engines := by
  simp only [State.queueRecord]; split <;> simp
@[simp] theorem queueRecord_scratch (r : EvRec) : (s.queueRecord r).scratch = s.scratch := by
  simp only [State.queueRecord]; split <;> simp
@[simp] theorem queueRecord_lanes (r : EvRec) : (s.queueRecord r).lanes = s.lanes := by
  simp only [State.queueRecord]; split <;> simp
@[simp] theorem queueRecord_steward (r : EvRec) : (s.queueRecord r).steward = s.steward := by
  simp only [State.queueRecord]; split <;> simp
@[simp] theorem queueRecord_dusk (r : EvRec) : (s.queueRecord r).dusk = s.dusk := by
  simp only [State.queueRecord]; split <;> simp
@[simp] theorem queueRecord_fabric (r : EvRec) : (s.queueRecord r).fabric = s.fabric := by
  simp only [State.queueRecord]; split <;> simp
@[simp] theorem queueRecord_config (r : EvRec) : (s.queueRecord r).config = s.config := by
  simp only [State.queueRecord]; split <;> simp
@[simp] theorem queueRecord_service (r : EvRec) : (s.queueRecord r).service = s.service := by
  simp only [State.queueRecord]; split <;> simp
@[simp] theorem queueRecord_power (r : EvRec) : (s.queueRecord r).power = s.power := by
  simp only [State.queueRecord]; split <;> simp
@[simp] theorem queueRecord_pending (r : EvRec) : (s.queueRecord r).pending = s.pending := by
  simp only [State.queueRecord]; split <;> simp

/-! ### countRaise -/

@[simp] theorem countRaise_now (c : Nat) : (s.countRaise c).now = s.now := by
  simp only [State.countRaise]; split <;> rfl
@[simp] theorem countRaise_mono (c : Nat) : (s.countRaise c).mono = s.mono := by
  simp only [State.countRaise]; split <;> rfl
@[simp] theorem countRaise_tbRun (c : Nat) : (s.countRaise c).tbRun = s.tbRun := by
  simp only [State.countRaise]; split <;> rfl
@[simp] theorem countRaise_free (c : Nat) : (s.countRaise c).free = s.free := by
  simp only [State.countRaise]; split <;> rfl
@[simp] theorem countRaise_reply (c : Nat) : (s.countRaise c).reply = s.reply := by
  simp only [State.countRaise]; split <;> rfl
@[simp] theorem countRaise_doms (c : Nat) : (s.countRaise c).doms = s.doms := by
  simp only [State.countRaise]; split <;> rfl
@[simp] theorem countRaise_log (c : Nat) : (s.countRaise c).log = s.log := by
  simp only [State.countRaise]; split <;> rfl
@[simp] theorem countRaise_latched (c : Nat) : (s.countRaise c).latched = s.latched := by
  simp only [State.countRaise]; split <;> rfl
@[simp] theorem countRaise_conds (c : Nat) : (s.countRaise c).conds = s.conds := by
  simp only [State.countRaise]; split <;> rfl
@[simp] theorem countRaise_phase (c : Nat) : (s.countRaise c).phase = s.phase := by
  simp only [State.countRaise]; split <;> rfl
@[simp] theorem countRaise_tb (c : Nat) : (s.countRaise c).tb = s.tb := by
  simp only [State.countRaise]; split <;> rfl
@[simp] theorem countRaise_sched (c : Nat) : (s.countRaise c).sched = s.sched := by
  simp only [State.countRaise]; split <;> rfl
@[simp] theorem countRaise_adm (c : Nat) : (s.countRaise c).adm = s.adm := by
  simp only [State.countRaise]; split <;> rfl
@[simp] theorem countRaise_store (c : Nat) : (s.countRaise c).store = s.store := by
  simp only [State.countRaise]; split <;> rfl
@[simp] theorem countRaise_boot (c : Nat) : (s.countRaise c).boot = s.boot := by
  simp only [State.countRaise]; split <;> rfl
@[simp] theorem countRaise_streams (c : Nat) : (s.countRaise c).streams = s.streams := by
  simp only [State.countRaise]; split <;> rfl
@[simp] theorem countRaise_rings (c : Nat) : (s.countRaise c).rings = s.rings := by
  simp only [State.countRaise]; split <;> rfl
@[simp] theorem countRaise_ens (c : Nat) : (s.countRaise c).ens = s.ens := by
  simp only [State.countRaise]; split <;> rfl
@[simp] theorem countRaise_engines (c : Nat) : (s.countRaise c).engines = s.engines := by
  simp only [State.countRaise]; split <;> rfl
@[simp] theorem countRaise_scratch (c : Nat) : (s.countRaise c).scratch = s.scratch := by
  simp only [State.countRaise]; split <;> rfl
@[simp] theorem countRaise_lanes (c : Nat) : (s.countRaise c).lanes = s.lanes := by
  simp only [State.countRaise]; split <;> rfl
@[simp] theorem countRaise_steward (c : Nat) : (s.countRaise c).steward = s.steward := by
  simp only [State.countRaise]; split <;> rfl
@[simp] theorem countRaise_dusk (c : Nat) : (s.countRaise c).dusk = s.dusk := by
  simp only [State.countRaise]; split <;> rfl
@[simp] theorem countRaise_fabric (c : Nat) : (s.countRaise c).fabric = s.fabric := by
  simp only [State.countRaise]; split <;> rfl
@[simp] theorem countRaise_config (c : Nat) : (s.countRaise c).config = s.config := by
  simp only [State.countRaise]; split <;> rfl
@[simp] theorem countRaise_service (c : Nat) : (s.countRaise c).service = s.service := by
  simp only [State.countRaise]; split <;> rfl
@[simp] theorem countRaise_power (c : Nat) : (s.countRaise c).power = s.power := by
  simp only [State.countRaise]; split <;> rfl
@[simp] theorem countRaise_pending (c : Nat) : (s.countRaise c).pending = s.pending := by
  simp only [State.countRaise]; split <;> rfl

/-! ### Reading a register after an update that leaves the register file -/

theorem reg_of_regs {u v : State} (h : u.regs = v.regs) (r : Reg) (i : Nat) : u.reg r i = v.reg r i := by simp only [State.reg, h]

@[simp] theorem setDom_reg (q : Reg) (k : Nat) (l : List Byte) (r : Reg) (i : Nat) : (s.setDom q k l).reg r i = s.reg r i := rfl
@[simp] theorem answer_reg (n : Nat) (r : Reg) (i : Nat) : (s.answer n).reg r i = s.reg r i := rfl
@[simp] theorem answerWith_reg (l : List Byte) (r : Reg) (i : Nat) : (s.answerWith l).reg r i = s.reg r i := rfl
@[simp] theorem silent_reg (r : Reg) (i : Nat) : s.silent.reg r i = s.reg r i := rfl
@[simp] theorem took_reg (r : Reg) (i : Nat) : s.took.reg r i = s.reg r i := rfl
@[simp] theorem setQueue_reg (q : List EvRec) (r : Reg) (i : Nat) : (s.setQueue q).reg r i = s.reg r i := rfl
@[simp] theorem latch_reg (m : Nat) (r : Reg) (i : Nat) : (s.latch m).reg r i = s.reg r i := rfl
@[simp] theorem advanceTo_reg (t : Nat) (r : Reg) (i : Nat) : (s.advanceTo t).reg r i = s.reg r i :=
  reg_of_regs (advanceTo_regs s t) r i

/-- Of the timebase's own state, the passing of time changes only the offset being slewed and its carry. -/
theorem advanceTo_tb (t : Nat) : ∃ z r, (s.advanceTo t).tb = { s.tb with slew := z, slewRest := r } := by
  simp only [State.advanceTo]
  split
  · exact ⟨_, _, rfl⟩
  · exact ⟨s.tb.slew, s.tb.slewRest, rfl⟩

@[simp] theorem advanceTo_tb_ptpGood (t : Nat) : (s.advanceTo t).tb.ptpGood = s.tb.ptpGood := by
  obtain ⟨z, r, h⟩ := advanceTo_tb s t; rw [h]
@[simp] theorem advanceTo_tb_ptpBad (t : Nat) : (s.advanceTo t).tb.ptpBad = s.tb.ptpBad := by
  obtain ⟨z, r, h⟩ := advanceTo_tb s t; rw [h]
@[simp] theorem advanceTo_tb_refGood (t : Nat) : (s.advanceTo t).tb.refGood = s.tb.refGood := by
  obtain ⟨z, r, h⟩ := advanceTo_tb s t; rw [h]
@[simp] theorem advanceTo_tb_refBad (t : Nat) : (s.advanceTo t).tb.refBad = s.tb.refBad := by
  obtain ⟨z, r, h⟩ := advanceTo_tb s t; rw [h]
@[simp] theorem advanceTo_tb_ptpUsable (t : Nat) : (s.advanceTo t).tb.ptpUsable = s.tb.ptpUsable := by
  obtain ⟨z, r, h⟩ := advanceTo_tb s t; rw [h]
@[simp] theorem advanceTo_tb_refUsable (t : Nat) : (s.advanceTo t).tb.refUsable = s.tb.refUsable := by
  obtain ⟨z, r, h⟩ := advanceTo_tb s t; rw [h]
@[simp] theorem advanceTo_tb_holdStart (t : Nat) : (s.advanceTo t).tb.holdStart = s.tb.holdStart := by
  obtain ⟨z, r, h⟩ := advanceTo_tb s t; rw [h]
@[simp] theorem advanceTo_tb_masters (t : Nat) : (s.advanceTo t).tb.masters = s.tb.masters := by
  obtain ⟨z, r, h⟩ := advanceTo_tb s t; rw [h]
@[simp] theorem advanceTo_tb_cadFrom (t : Nat) : (s.advanceTo t).tb.cadFrom = s.tb.cadFrom := by
  obtain ⟨z, r, h⟩ := advanceTo_tb s t; rw [h]
@[simp] theorem advanceTo_tb_lastTick (t : Nat) : (s.advanceTo t).tb.lastTick = s.tb.lastTick := by
  obtain ⟨z, r, h⟩ := advanceTo_tb s t; rw [h]
@[simp] theorem advanceTo_tb_sets (t : Nat) : (s.advanceTo t).tb.sets = s.tb.sets := by
  obtain ⟨z, r, h⟩ := advanceTo_tb s t; rw [h]

/-! ### Raising an event -/

/-- The registers that raising an event keeps for itself: RAISED, BREACHES, QUEUE_PEAK, DROPPED. -/
def raiseRefs : List Nat := [R.ev_RAISED.ref, R.integ_BREACHES.ref, R.log_QUEUE_PEAK.ref, R.log_DROPPED.ref]

/-- What raising an event does, said once: registers other than its own read as before. -/
theorem raiseX_reg {r : Reg} (h : r.ref ∉ raiseRefs) (c d x j : Nat) : (s.raiseX c d x).reg r j = s.reg r j := by
  have h1 : r.ref ≠ R.ev_RAISED.ref := fun e => h (by rw [e]; decide)
  have h2 : r.ref ≠ R.integ_BREACHES.ref := fun e => h (by rw [e]; decide)
  have h3 : r.ref ≠ R.log_QUEUE_PEAK.ref := fun e => h (by rw [e]; decide)
  have h4 : r.ref ≠ R.log_DROPPED.ref := fun e => h (by rw [e]; decide)
  have hc : ∀ u : State, u.countDrop.reg r j = u.reg r j := fun u => reg_inc_of_ref u h4 0 j
  have hq : ∀ (u : State) (e : EvRec), (u.queueRecord e).reg r j = u.reg r j := fun u e => by
    simp only [State.queueRecord]
    split
    · rw [hc, reg_peak_of_ref _ h3]; rfl
    · rw [reg_peak_of_ref _ h3]; rfl
  have hr : (s.countRaise c).reg r j = s.reg r j := by
    simp only [State.countRaise]
    split <;> simp only [reg_inc_of_ref _ h1, reg_inc_of_ref _ h2]
  exact (hq _ _).trans hr

theorem raise_reg {r : Reg} (h : r.ref ∉ raiseRefs) (c d j : Nat) : (s.raise c d).reg r j = s.reg r j := raiseX_reg s h c d 0 j

@[simp] theorem raiseX_now (c d x : Nat) : (s.raiseX c d x).now = s.now := by
  simp [State.raiseX]
@[simp] theorem raise_now (c d : Nat) : (s.raise c d).now = s.now := raiseX_now s c d 0
@[simp] theorem raiseX_mono (c d x : Nat) : (s.raiseX c d x).mono = s.mono := by
  simp [State.raiseX]
@[simp] theorem raise_mono (c d : Nat) : (s.raise c d).mono = s.mono := raiseX_mono s c d 0
@[simp] theorem raiseX_tbRun (c d x : Nat) : (s.raiseX c d x).tbRun = s.tbRun := by
  simp [State.raiseX]
@[simp] theorem raise_tbRun (c d : Nat) : (s.raise c d).tbRun = s.tbRun := raiseX_tbRun s c d 0
@[simp] theorem raiseX_free (c d x : Nat) : (s.raiseX c d x).free = s.free := by
  simp [State.raiseX]
@[simp] theorem raise_free (c d : Nat) : (s.raise c d).free = s.free := raiseX_free s c d 0
@[simp] theorem raiseX_reply (c d x : Nat) : (s.raiseX c d x).reply = s.reply := by
  simp [State.raiseX]
@[simp] theorem raise_reply (c d : Nat) : (s.raise c d).reply = s.reply := raiseX_reply s c d 0
@[simp] theorem raiseX_doms (c d x : Nat) : (s.raiseX c d x).doms = s.doms := by
  simp [State.raiseX]
@[simp] theorem raise_doms (c d : Nat) : (s.raise c d).doms = s.doms := raiseX_doms s c d 0
@[simp] theorem raiseX_conds (c d x : Nat) : (s.raiseX c d x).conds = s.conds := by
  simp [State.raiseX]
@[simp] theorem raise_conds (c d : Nat) : (s.raise c d).conds = s.conds := raiseX_conds s c d 0
@[simp] theorem raiseX_phase (c d x : Nat) : (s.raiseX c d x).phase = s.phase := by
  simp [State.raiseX]
@[simp] theorem raise_phase (c d : Nat) : (s.raise c d).phase = s.phase := raiseX_phase s c d 0
@[simp] theorem raiseX_tb (c d x : Nat) : (s.raiseX c d x).tb = s.tb := by
  simp [State.raiseX]
@[simp] theorem raise_tb (c d : Nat) : (s.raise c d).tb = s.tb := raiseX_tb s c d 0
@[simp] theorem raiseX_sched (c d x : Nat) : (s.raiseX c d x).sched = s.sched := by
  simp [State.raiseX]
@[simp] theorem raise_sched (c d : Nat) : (s.raise c d).sched = s.sched := raiseX_sched s c d 0
@[simp] theorem raiseX_adm (c d x : Nat) : (s.raiseX c d x).adm = s.adm := by
  simp [State.raiseX]
@[simp] theorem raise_adm (c d : Nat) : (s.raise c d).adm = s.adm := raiseX_adm s c d 0
@[simp] theorem raiseX_store (c d x : Nat) : (s.raiseX c d x).store = s.store := by
  simp [State.raiseX]
@[simp] theorem raise_store (c d : Nat) : (s.raise c d).store = s.store := raiseX_store s c d 0
@[simp] theorem raiseX_boot (c d x : Nat) : (s.raiseX c d x).boot = s.boot := by
  simp [State.raiseX]
@[simp] theorem raise_boot (c d : Nat) : (s.raise c d).boot = s.boot := raiseX_boot s c d 0
@[simp] theorem raiseX_streams (c d x : Nat) : (s.raiseX c d x).streams = s.streams := by
  simp [State.raiseX]
@[simp] theorem raise_streams (c d : Nat) : (s.raise c d).streams = s.streams := raiseX_streams s c d 0
@[simp] theorem raiseX_rings (c d x : Nat) : (s.raiseX c d x).rings = s.rings := by
  simp [State.raiseX]
@[simp] theorem raise_rings (c d : Nat) : (s.raise c d).rings = s.rings := raiseX_rings s c d 0
@[simp] theorem raiseX_ens (c d x : Nat) : (s.raiseX c d x).ens = s.ens := by
  simp [State.raiseX]
@[simp] theorem raise_ens (c d : Nat) : (s.raise c d).ens = s.ens := raiseX_ens s c d 0
@[simp] theorem raiseX_engines (c d x : Nat) : (s.raiseX c d x).engines = s.engines := by
  simp [State.raiseX]
@[simp] theorem raise_engines (c d : Nat) : (s.raise c d).engines = s.engines := raiseX_engines s c d 0
@[simp] theorem raiseX_scratch (c d x : Nat) : (s.raiseX c d x).scratch = s.scratch := by
  simp [State.raiseX]
@[simp] theorem raise_scratch (c d : Nat) : (s.raise c d).scratch = s.scratch := raiseX_scratch s c d 0
@[simp] theorem raiseX_lanes (c d x : Nat) : (s.raiseX c d x).lanes = s.lanes := by
  simp [State.raiseX]
@[simp] theorem raise_lanes (c d : Nat) : (s.raise c d).lanes = s.lanes := raiseX_lanes s c d 0
@[simp] theorem raiseX_steward (c d x : Nat) : (s.raiseX c d x).steward = s.steward := by
  simp [State.raiseX]
@[simp] theorem raise_steward (c d : Nat) : (s.raise c d).steward = s.steward := raiseX_steward s c d 0
@[simp] theorem raiseX_dusk (c d x : Nat) : (s.raiseX c d x).dusk = s.dusk := by
  simp [State.raiseX]
@[simp] theorem raise_dusk (c d : Nat) : (s.raise c d).dusk = s.dusk := raiseX_dusk s c d 0
@[simp] theorem raiseX_fabric (c d x : Nat) : (s.raiseX c d x).fabric = s.fabric := by
  simp [State.raiseX]
@[simp] theorem raise_fabric (c d : Nat) : (s.raise c d).fabric = s.fabric := raiseX_fabric s c d 0
@[simp] theorem raiseX_config (c d x : Nat) : (s.raiseX c d x).config = s.config := by
  simp [State.raiseX]
@[simp] theorem raise_config (c d : Nat) : (s.raise c d).config = s.config := raiseX_config s c d 0
@[simp] theorem raiseX_service (c d x : Nat) : (s.raiseX c d x).service = s.service := by
  simp [State.raiseX]
@[simp] theorem raise_service (c d : Nat) : (s.raise c d).service = s.service := raiseX_service s c d 0
@[simp] theorem raiseX_power (c d x : Nat) : (s.raiseX c d x).power = s.power := by
  simp [State.raiseX]
@[simp] theorem raise_power (c d : Nat) : (s.raise c d).power = s.power := raiseX_power s c d 0
@[simp] theorem raiseX_pending (c d x : Nat) : (s.raiseX c d x).pending = s.pending := by
  simp [State.raiseX]
@[simp] theorem raise_pending (c d : Nat) : (s.raise c d).pending = s.pending := raiseX_pending s c d 0

/-- An event outside class BREACH, and neither 0x3008 nor 0x7105, latches nothing. -/
theorem raise_latched {c : Nat} (h : raiseLatches c = 0) (d : Nat) : (s.raise c d).latched = s.latched := by
  simp [State.raise, State.raiseX, State.latch, h]

end Sys2Proof.Machine
end

