-- ==== Sys2Proof/Laws/Settle.lean ====
section
/-! SUPPORT. What the settling of the integrity conditions leaves alone, and what every command leaves beside its own effect. -/

namespace Sys2Proof.Machine

/-- A fold keeps what each of its steps keeps. -/
theorem each_keeps {α β : Type} (g : State → β) (f : State → α → State) (h : ∀ u a, g (f u a) = g u) (s : State) (l : List α) :
    g (s.each l f) = g s := by
  unfold State.each
  induction l generalizing s with
  | nil => rfl
  | cons a l ih => rw [List.foldl_cons, ih, h]

/-- A fold keeps a property that each of its steps keeps. -/
theorem each_induct {α : Type} (P : State → Prop) (f : State → α → State) (h : ∀ u a, P u → P (f u a)) {s : State} (hs : P s)
    (l : List α) : P (s.each l f) := by
  unfold State.each
  induction l generalizing s with
  | nil => exact hs
  | cons a l ih => exact ih (h s a hs)

@[simp] theorem each_nil {α : Type} (f : State → α → State) (s : State) : s.each [] f = s := rfl

/-- The registers that a command may change beside its own effect: those of raising an event, and STATE and CHANGES of 0x9000. -/
def settleRefs : List Nat := raiseRefs ++ [R.integ_STATE.ref, R.integ_STATE_CHANGES.ref]

/-- A register that no command changes but through its own effect. -/
abbrev Reg.own (r : Reg) : Prop := r.ref ∉ settleRefs

theorem Reg.own.notRaise {r : Reg} (h : r.own) : r.ref ∉ raiseRefs := fun e => h (List.mem_append_left _ e)

variable (s : State)

theorem toConditions_reg {r : Reg} (h : r.own) (v j : Nat) : (s.toConditions v).reg r j = s.reg r j := by
  unfold State.toConditions
  exact (each_keeps (fun u => u.reg r j) _ (fun u _ => raise_reg u h.notRaise _ _ _) _ _).trans rfl

theorem toIntegrity_reg {r : Reg} (h : r.own) (v j : Nat) : (s.toIntegrity v).reg r j = s.reg r j := by
  have h1 : r.ref ≠ R.integ_STATE.ref := fun e => h (by rw [e]; decide)
  have h2 : r.ref ≠ R.integ_STATE_CHANGES.ref := fun e => h (by rw [e]; decide)
  simp only [State.toIntegrity]
  split
  · rfl
  · rw [raise_reg _ h.notRaise, reg_inc_of_ref _ h2, reg_setReg_of_ref _ h1]

/-- Settling keeps every register but its own. -/
theorem settle_reg {r : Reg} (h : r.own) (j : Nat) : s.settle.reg r j = s.reg r j := by
  simp only [State.settle]
  rw [toIntegrity_reg _ h]
  split
  · rfl
  · rw [toConditions_reg _ h]

@[simp] theorem toIntegrity_now (v : Nat) : (s.toIntegrity v).now = s.now := by
  simp only [State.toIntegrity]; split <;> simp
@[simp] theorem toConditions_now (v : Nat) : (s.toConditions v).now = s.now :=
  (each_keeps (fun u => u.now) _ (fun u _ => raise_now u _ _) _ _).trans rfl
@[simp] theorem settle_now : s.settle.now = s.now := by
  simp only [State.settle]; split <;> simp
@[simp] theorem toIntegrity_mono (v : Nat) : (s.toIntegrity v).mono = s.mono := by
  simp only [State.toIntegrity]; split <;> simp
@[simp] theorem toConditions_mono (v : Nat) : (s.toConditions v).mono = s.mono :=
  (each_keeps (fun u => u.mono) _ (fun u _ => raise_mono u _ _) _ _).trans rfl
@[simp] theorem settle_mono : s.settle.mono = s.mono := by
  simp only [State.settle]; split <;> simp
@[simp] theorem toIntegrity_tbRun (v : Nat) : (s.toIntegrity v).tbRun = s.tbRun := by
  simp only [State.toIntegrity]; split <;> simp
@[simp] theorem toConditions_tbRun (v : Nat) : (s.toConditions v).tbRun = s.tbRun :=
  (each_keeps (fun u => u.tbRun) _ (fun u _ => raise_tbRun u _ _) _ _).trans rfl
@[simp] theorem settle_tbRun : s.settle.tbRun = s.tbRun := by
  simp only [State.settle]; split <;> simp
@[simp] theorem toIntegrity_free (v : Nat) : (s.toIntegrity v).free = s.free := by
  simp only [State.toIntegrity]; split <;> simp
@[simp] theorem toConditions_free (v : Nat) : (s.toConditions v).free = s.free :=
  (each_keeps (fun u => u.free) _ (fun u _ => raise_free u _ _) _ _).trans rfl
@[simp] theorem settle_free : s.settle.free = s.free := by
  simp only [State.settle]; split <;> simp
@[simp] theorem toIntegrity_reply (v : Nat) : (s.toIntegrity v).reply = s.reply := by
  simp only [State.toIntegrity]; split <;> simp
@[simp] theorem toConditions_reply (v : Nat) : (s.toConditions v).reply = s.reply :=
  (each_keeps (fun u => u.reply) _ (fun u _ => raise_reply u _ _) _ _).trans rfl
@[simp] theorem settle_reply : s.settle.reply = s.reply := by
  simp only [State.settle]; split <;> simp
@[simp] theorem toIntegrity_doms (v : Nat) : (s.toIntegrity v).doms = s.doms := by
  simp only [State.toIntegrity]; split <;> simp
@[simp] theorem toConditions_doms (v : Nat) : (s.toConditions v).doms = s.doms :=
  (each_keeps (fun u => u.doms) _ (fun u _ => raise_doms u _ _) _ _).trans rfl
@[simp] theorem settle_doms : s.settle.doms = s.doms := by
  simp only [State.settle]; split <;> simp
@[simp] theorem settle_latched : s.settle.latched = s.latched := by
  have h1 : ∀ (u : State) (v : Nat), (u.toIntegrity v).latched = u.latched := fun u v => by
    simp only [State.toIntegrity]; split
    · rfl
    · rw [raise_latched _ (by decide)]; simp
  have h2 : ∀ (u : State) (v : Nat), (u.toConditions v).latched = u.latched := fun u v =>
    (each_keeps (fun u => u.latched) _ (fun u _ => raise_latched u (by decide) _) _ _).trans rfl
  simp only [State.settle]
  rw [h1]; split
  · rfl
  · rw [h2]

@[simp] theorem toIntegrity_phase (v : Nat) : (s.toIntegrity v).phase = s.phase := by
  simp only [State.toIntegrity]; split <;> simp
@[simp] theorem toConditions_phase (v : Nat) : (s.toConditions v).phase = s.phase :=
  (each_keeps (fun u => u.phase) _ (fun u _ => raise_phase u _ _) _ _).trans rfl
@[simp] theorem settle_phase : s.settle.phase = s.phase := by
  simp only [State.settle]; split <;> simp
@[simp] theorem toIntegrity_tb (v : Nat) : (s.toIntegrity v).tb = s.tb := by
  simp only [State.toIntegrity]; split <;> simp
@[simp] theorem toConditions_tb (v : Nat) : (s.toConditions v).tb = s.tb :=
  (each_keeps (fun u => u.tb) _ (fun u _ => raise_tb u _ _) _ _).trans rfl
@[simp] theorem settle_tb : s.settle.tb = s.tb := by
  simp only [State.settle]; split <;> simp
@[simp] theorem toIntegrity_sched (v : Nat) : (s.toIntegrity v).sched = s.sched := by
  simp only [State.toIntegrity]; split <;> simp
@[simp] theorem toConditions_sched (v : Nat) : (s.toConditions v).sched = s.sched :=
  (each_keeps (fun u => u.sched) _ (fun u _ => raise_sched u _ _) _ _).trans rfl
@[simp] theorem settle_sched : s.settle.sched = s.sched := by
  simp only [State.settle]; split <;> simp
@[simp] theorem toIntegrity_adm (v : Nat) : (s.toIntegrity v).adm = s.adm := by
  simp only [State.toIntegrity]; split <;> simp
@[simp] theorem toConditions_adm (v : Nat) : (s.toConditions v).adm = s.adm :=
  (each_keeps (fun u => u.adm) _ (fun u _ => raise_adm u _ _) _ _).trans rfl
@[simp] theorem settle_adm : s.settle.adm = s.adm := by
  simp only [State.settle]; split <;> simp
@[simp] theorem toIntegrity_store (v : Nat) : (s.toIntegrity v).store = s.store := by
  simp only [State.toIntegrity]; split <;> simp
@[simp] theorem toConditions_store (v : Nat) : (s.toConditions v).store = s.store :=
  (each_keeps (fun u => u.store) _ (fun u _ => raise_store u _ _) _ _).trans rfl
@[simp] theorem settle_store : s.settle.store = s.store := by
  simp only [State.settle]; split <;> simp
@[simp] theorem toIntegrity_boot (v : Nat) : (s.toIntegrity v).boot = s.boot := by
  simp only [State.toIntegrity]; split <;> simp
@[simp] theorem toConditions_boot (v : Nat) : (s.toConditions v).boot = s.boot :=
  (each_keeps (fun u => u.boot) _ (fun u _ => raise_boot u _ _) _ _).trans rfl
@[simp] theorem settle_boot : s.settle.boot = s.boot := by
  simp only [State.settle]; split <;> simp
@[simp] theorem toIntegrity_streams (v : Nat) : (s.toIntegrity v).streams = s.streams := by
  simp only [State.toIntegrity]; split <;> simp
@[simp] theorem toConditions_streams (v : Nat) : (s.toConditions v).streams = s.streams :=
  (each_keeps (fun u => u.streams) _ (fun u _ => raise_streams u _ _) _ _).trans rfl
@[simp] theorem settle_streams : s.settle.streams = s.streams := by
  simp only [State.settle]; split <;> simp
@[simp] theorem toIntegrity_rings (v : Nat) : (s.toIntegrity v).rings = s.rings := by
  simp only [State.toIntegrity]; split <;> simp
@[simp] theorem toConditions_rings (v : Nat) : (s.toConditions v).rings = s.rings :=
  (each_keeps (fun u => u.rings) _ (fun u _ => raise_rings u _ _) _ _).trans rfl
@[simp] theorem settle_rings : s.settle.rings = s.rings := by
  simp only [State.settle]; split <;> simp
@[simp] theorem toIntegrity_ens (v : Nat) : (s.toIntegrity v).ens = s.ens := by
  simp only [State.toIntegrity]; split <;> simp
@[simp] theorem toConditions_ens (v : Nat) : (s.toConditions v).ens = s.ens :=
  (each_keeps (fun u => u.ens) _ (fun u _ => raise_ens u _ _) _ _).trans rfl
@[simp] theorem settle_ens : s.settle.ens = s.ens := by
  simp only [State.settle]; split <;> simp
@[simp] theorem toIntegrity_engines (v : Nat) : (s.toIntegrity v).engines = s.engines := by
  simp only [State.toIntegrity]; split <;> simp
@[simp] theorem toConditions_engines (v : Nat) : (s.toConditions v).engines = s.engines :=
  (each_keeps (fun u => u.engines) _ (fun u _ => raise_engines u _ _) _ _).trans rfl
@[simp] theorem settle_engines : s.settle.engines = s.engines := by
  simp only [State.settle]; split <;> simp
@[simp] theorem toIntegrity_scratch (v : Nat) : (s.toIntegrity v).scratch = s.scratch := by
  simp only [State.toIntegrity]; split <;> simp
@[simp] theorem toConditions_scratch (v : Nat) : (s.toConditions v).scratch = s.scratch :=
  (each_keeps (fun u => u.scratch) _ (fun u _ => raise_scratch u _ _) _ _).trans rfl
@[simp] theorem settle_scratch : s.settle.scratch = s.scratch := by
  simp only [State.settle]; split <;> simp
@[simp] theorem toIntegrity_lanes (v : Nat) : (s.toIntegrity v).lanes = s.lanes := by
  simp only [State.toIntegrity]; split <;> simp
@[simp] theorem toConditions_lanes (v : Nat) : (s.toConditions v).lanes = s.lanes :=
  (each_keeps (fun u => u.lanes) _ (fun u _ => raise_lanes u _ _) _ _).trans rfl
@[simp] theorem settle_lanes : s.settle.lanes = s.lanes := by
  simp only [State.settle]; split <;> simp
@[simp] theorem toIntegrity_steward (v : Nat) : (s.toIntegrity v).steward = s.steward := by
  simp only [State.toIntegrity]; split <;> simp
@[simp] theorem toConditions_steward (v : Nat) : (s.toConditions v).steward = s.steward :=
  (each_keeps (fun u => u.steward) _ (fun u _ => raise_steward u _ _) _ _).trans rfl
@[simp] theorem settle_steward : s.settle.steward = s.steward := by
  simp only [State.settle]; split <;> simp
@[simp] theorem toIntegrity_dusk (v : Nat) : (s.toIntegrity v).dusk = s.dusk := by
  simp only [State.toIntegrity]; split <;> simp
@[simp] theorem toConditions_dusk (v : Nat) : (s.toConditions v).dusk = s.dusk :=
  (each_keeps (fun u => u.dusk) _ (fun u _ => raise_dusk u _ _) _ _).trans rfl
@[simp] theorem settle_dusk : s.settle.dusk = s.dusk := by
  simp only [State.settle]; split <;> simp
@[simp] theorem toIntegrity_fabric (v : Nat) : (s.toIntegrity v).fabric = s.fabric := by
  simp only [State.toIntegrity]; split <;> simp
@[simp] theorem toConditions_fabric (v : Nat) : (s.toConditions v).fabric = s.fabric :=
  (each_keeps (fun u => u.fabric) _ (fun u _ => raise_fabric u _ _) _ _).trans rfl
@[simp] theorem settle_fabric : s.settle.fabric = s.fabric := by
  simp only [State.settle]; split <;> simp
@[simp] theorem toIntegrity_config (v : Nat) : (s.toIntegrity v).config = s.config := by
  simp only [State.toIntegrity]; split <;> simp
@[simp] theorem toConditions_config (v : Nat) : (s.toConditions v).config = s.config :=
  (each_keeps (fun u => u.config) _ (fun u _ => raise_config u _ _) _ _).trans rfl
@[simp] theorem settle_config : s.settle.config = s.config := by
  simp only [State.settle]; split <;> simp
@[simp] theorem toIntegrity_service (v : Nat) : (s.toIntegrity v).service = s.service := by
  simp only [State.toIntegrity]; split <;> simp
@[simp] theorem toConditions_service (v : Nat) : (s.toConditions v).service = s.service :=
  (each_keeps (fun u => u.service) _ (fun u _ => raise_service u _ _) _ _).trans rfl
@[simp] theorem settle_service : s.settle.service = s.service := by
  simp only [State.settle]; split <;> simp
@[simp] theorem toIntegrity_power (v : Nat) : (s.toIntegrity v).power = s.power := by
  simp only [State.toIntegrity]; split <;> simp
@[simp] theorem toConditions_power (v : Nat) : (s.toConditions v).power = s.power :=
  (each_keeps (fun u => u.power) _ (fun u _ => raise_power u _ _) _ _).trans rfl
@[simp] theorem settle_power : s.settle.power = s.power := by
  simp only [State.settle]; split <;> simp
@[simp] theorem toIntegrity_pending (v : Nat) : (s.toIntegrity v).pending = s.pending := by
  simp only [State.toIntegrity]; split <;> simp
@[simp] theorem toConditions_pending (v : Nat) : (s.toConditions v).pending = s.pending :=
  (each_keeps (fun u => u.pending) _ (fun u _ => raise_pending u _ _) _ _).trans rfl
@[simp] theorem settle_pending : s.settle.pending = s.pending := by
  simp only [State.settle]; split <;> simp

/-! ### What a command leaves -/

theorem ran_reg (u : State) {r : Reg} (h : r.own) (j : Nat) : (s.ran u).reg r j = u.reg r j := settle_reg u h j

@[simp] theorem ran_now (u : State) : (s.ran u).now = u.now := settle_now u
@[simp] theorem ran_mono (u : State) : (s.ran u).mono = u.mono := settle_mono u
@[simp] theorem ran_tbRun (u : State) : (s.ran u).tbRun = u.tbRun := settle_tbRun u
@[simp] theorem ran_free (u : State) : (s.ran u).free = u.free := settle_free u
@[simp] theorem ran_reply (u : State) : (s.ran u).reply = u.reply := settle_reply u
@[simp] theorem ran_doms (u : State) : (s.ran u).doms = u.doms := settle_doms u
@[simp] theorem ran_latched (u : State) : (s.ran u).latched = u.latched := settle_latched u
@[simp] theorem ran_phase (u : State) : (s.ran u).phase = u.phase := settle_phase u
@[simp] theorem ran_tb (u : State) : (s.ran u).tb = u.tb := settle_tb u
@[simp] theorem ran_sched (u : State) : (s.ran u).sched = u.sched := settle_sched u
@[simp] theorem ran_adm (u : State) : (s.ran u).adm = u.adm := settle_adm u
@[simp] theorem ran_store (u : State) : (s.ran u).store = u.store := settle_store u
@[simp] theorem ran_boot (u : State) : (s.ran u).boot = u.boot := settle_boot u
@[simp] theorem ran_streams (u : State) : (s.ran u).streams = u.streams := settle_streams u
@[simp] theorem ran_rings (u : State) : (s.ran u).rings = u.rings := settle_rings u
@[simp] theorem ran_ens (u : State) : (s.ran u).ens = u.ens := settle_ens u
@[simp] theorem ran_engines (u : State) : (s.ran u).engines = u.engines := settle_engines u
@[simp] theorem ran_scratch (u : State) : (s.ran u).scratch = u.scratch := settle_scratch u
@[simp] theorem ran_lanes (u : State) : (s.ran u).lanes = u.lanes := settle_lanes u
@[simp] theorem ran_steward (u : State) : (s.ran u).steward = u.steward := settle_steward u
@[simp] theorem ran_dusk (u : State) : (s.ran u).dusk = u.dusk := settle_dusk u
@[simp] theorem ran_fabric (u : State) : (s.ran u).fabric = u.fabric := settle_fabric u
@[simp] theorem ran_config (u : State) : (s.ran u).config = u.config := settle_config u
@[simp] theorem ran_service (u : State) : (s.ran u).service = u.service := settle_service u
@[simp] theorem ran_power (u : State) : (s.ran u).power = u.power := settle_power u
@[simp] theorem ran_pending (u : State) : (s.ran u).pending = s.pending := rfl

/-- A command whose units exist runs. -/
theorem command_next {ok : Bool} (h : ok = true) (f : State → State) : command ok f s = .next (s.ran (f s)) := by
  simp [command, h, State.ran]

/-- A command that answers a next state has its units, and the next state is its effect, settled. -/
theorem command_eq_next {ok : Bool} {f : State → State} {t : State} (h : command ok f s = .next t) : ok = true ∧ t = s.ran (f s) := by
  unfold command at h
  split at h
  · next e => exact ⟨e, by injection h with h; exact h.symm⟩
  · exact absurd h (by simp)

/-- No command refuses. -/
theorem command_ne_refused (ok : Bool) (f : State → State) (r : Refusal) : command ok f s ≠ .refused r := by
  unfold command
  split <;> simp

end Sys2Proof.Machine
end

