-- ==== Sys2Proof/Laws/Access.lean ====
section
/-! SUPPORT. What the checks of a dictionary write let through. -/

namespace Sys2Proof.Machine

/-- A write that the checks permit, of a good value, is the write itself. -/
theorem writeAs_of_mayWrite {s : State} {w : Who} {r : Reg} {inst : Nat} (h : s.mayWrite w r inst = true) {ok : Bool} (hok : ok = true)
    (k : State → State) : s.writeAs w r inst ok k = k s := by
  simp only [State.mayWrite, Bool.and_eq_true, Bool.not_eq_true'] at h
  obtain ⟨⟨h1, h2⟩, h3⟩ := h
  cases e : findRow ⟨r.ref / 256, inst, r.ref % 256⟩ with
  | none => simp [e] at h3
  | some row =>
    simp only [e, Bool.and_eq_true, Bool.not_eq_true'] at h3
    obtain ⟨⟨⟨h3, h4⟩, h5⟩, h6⟩ := h3
    simp [State.writeAs, State.writeChecked, State.writeOrdered, e, h1, h2, h3, h4, h5, h6, hok]

/-- A write of a number in the range of its row. -/
theorem writeNum_of_mayWrite {s : State} {w : Who} {r : Reg} {inst : Nat} (h : s.mayWrite w r inst = true) {v : Int}
    (hv : ∀ row, findRow ⟨r.ref / 256, inst, r.ref % 256⟩ = some row → row.lo ≤ v ∧ v ≤ row.hi) (k : State → State) :
    s.writeNum w r inst v k = k s := by
  unfold State.writeNum
  apply writeAs_of_mayWrite h
  split
  · next row e => simp [hv row e]
  · rfl

/-- A write that the checks do not answer changes nothing but the reply. -/
theorem writeAs_refused {s : State} {w : Who} {r : Reg} {inst : Nat} (h : s.mayWrite w r inst = false) (ok : Bool) (k : State → State) :
    ∃ p, s.writeAs w r inst ok k = { s with reply := p } := by
  simp only [State.writeAs, State.writeChecked, State.writeOrdered]
  split
  · exact ⟨_, rfl⟩
  · next h1 =>
    split
    · exact ⟨_, rfl⟩
    · next row e =>
      split
      · exact ⟨_, rfl⟩
      · next h2 =>
        split
        · exact ⟨_, rfl⟩
        · split
          · exact ⟨_, rfl⟩
          · split
            · exact ⟨_, rfl⟩
            · next h3 =>
              exfalso
              simp only [State.mayWrite, e] at h
              simp_all

end Sys2Proof.Machine
end

