-- ==== Sys2Proof/Laws/Parts.lean ====
section
/-! SUPPORT. What the updates of one part of the state leave alone: the other parts, the registers, the time and the reply. -/

namespace Sys2Proof.Machine

variable (s : State)

/-! ### onCore -/

@[simp] theorem onCore_now (c : Nat) (u : Core → Core) : (s.onCore c u).now = s.now := by
  unfold State.onCore; split <;> rfl
@[simp] theorem onCore_mono (c : Nat) (u : Core → Core) : (s.onCore c u).mono = s.mono := by
  unfold State.onCore; split <;> rfl
@[simp] theorem onCore_free (c : Nat) (u : Core → Core) : (s.onCore c u).free = s.free := by
  unfold State.onCore; split <;> rfl
@[simp] theorem onCore_reply (c : Nat) (u : Core → Core) : (s.onCore c u).reply = s.reply := by
  unfold State.onCore; split <;> rfl
@[simp] theorem onCore_regs (c : Nat) (u : Core → Core) : (s.onCore c u).regs = s.regs := by
  unfold State.onCore; split <;> rfl
@[simp] theorem onCore_doms (c : Nat) (u : Core → Core) : (s.onCore c u).doms = s.doms := by
  unfold State.onCore; split <;> rfl
@[simp] theorem onCore_log (c : Nat) (u : Core → Core) : (s.onCore c u).log = s.log := by
  unfold State.onCore; split <;> rfl
@[simp] theorem onCore_conds (c : Nat) (u : Core → Core) : (s.onCore c u).conds = s.conds := by
  unfold State.onCore; split <;> rfl
@[simp] theorem onCore_latched (c : Nat) (u : Core → Core) : (s.onCore c u).latched = s.latched := by
  unfold State.onCore; split <;> rfl
@[simp] theorem onCore_phase (c : Nat) (u : Core → Core) : (s.onCore c u).phase = s.phase := by
  unfold State.onCore; split <;> rfl
@[simp] theorem onCore_tb (c : Nat) (u : Core → Core) : (s.onCore c u).tb = s.tb := by
  unfold State.onCore; split <;> rfl
@[simp] theorem onCore_sched (c : Nat) (u : Core → Core) : (s.onCore c u).sched = s.sched := by
  unfold State.onCore; split <;> rfl
@[simp] theorem onCore_store (c : Nat) (u : Core → Core) : (s.onCore c u).store = s.store := by
  unfold State.onCore; split <;> rfl
@[simp] theorem onCore_scratch (c : Nat) (u : Core → Core) : (s.onCore c u).scratch = s.scratch := by
  unfold State.onCore; split <;> rfl
@[simp] theorem onCore_rings (c : Nat) (u : Core → Core) : (s.onCore c u).rings = s.rings := by
  unfold State.onCore; split <;> rfl
@[simp] theorem onCore_fabric (c : Nat) (u : Core → Core) : (s.onCore c u).fabric = s.fabric := by
  unfold State.onCore; split <;> rfl
@[simp] theorem onCore_reg (c : Nat) (u : Core → Core) (x : Reg) (y : Nat) : (s.onCore c u).reg x y = s.reg x y := reg_of_regs (onCore_regs s c u) x y

/-! ### setLease -/

@[simp] theorem setLease_now (n : Nat) (l : Lease) : (s.setLease n l).now = s.now := rfl
@[simp] theorem setLease_mono (n : Nat) (l : Lease) : (s.setLease n l).mono = s.mono := rfl
@[simp] theorem setLease_free (n : Nat) (l : Lease) : (s.setLease n l).free = s.free := rfl
@[simp] theorem setLease_reply (n : Nat) (l : Lease) : (s.setLease n l).reply = s.reply := rfl
@[simp] theorem setLease_regs (n : Nat) (l : Lease) : (s.setLease n l).regs = s.regs := rfl
@[simp] theorem setLease_doms (n : Nat) (l : Lease) : (s.setLease n l).doms = s.doms := rfl
@[simp] theorem setLease_log (n : Nat) (l : Lease) : (s.setLease n l).log = s.log := rfl
@[simp] theorem setLease_conds (n : Nat) (l : Lease) : (s.setLease n l).conds = s.conds := rfl
@[simp] theorem setLease_latched (n : Nat) (l : Lease) : (s.setLease n l).latched = s.latched := rfl
@[simp] theorem setLease_phase (n : Nat) (l : Lease) : (s.setLease n l).phase = s.phase := rfl
@[simp] theorem setLease_tb (n : Nat) (l : Lease) : (s.setLease n l).tb = s.tb := rfl
@[simp] theorem setLease_sched (n : Nat) (l : Lease) : (s.setLease n l).sched = s.sched := rfl
@[simp] theorem setLease_store (n : Nat) (l : Lease) : (s.setLease n l).store = s.store := rfl
@[simp] theorem setLease_scratch (n : Nat) (l : Lease) : (s.setLease n l).scratch = s.scratch := rfl
@[simp] theorem setLease_rings (n : Nat) (l : Lease) : (s.setLease n l).rings = s.rings := rfl
@[simp] theorem setLease_fabric (n : Nat) (l : Lease) : (s.setLease n l).fabric = s.fabric := rfl
@[simp] theorem setLease_reg (n : Nat) (l : Lease) (x : Reg) (y : Nat) : (s.setLease n l).reg x y = s.reg x y := reg_of_regs (setLease_regs s n l) x y

/-! ### setD -/

@[simp] theorem setD_now (c i v : Nat) : (s.setD c i v).now = s.now := onCore_now s _ _
@[simp] theorem setD_mono (c i v : Nat) : (s.setD c i v).mono = s.mono := onCore_mono s _ _
@[simp] theorem setD_free (c i v : Nat) : (s.setD c i v).free = s.free := onCore_free s _ _
@[simp] theorem setD_reply (c i v : Nat) : (s.setD c i v).reply = s.reply := onCore_reply s _ _
@[simp] theorem setD_regs (c i v : Nat) : (s.setD c i v).regs = s.regs := onCore_regs s _ _
@[simp] theorem setD_doms (c i v : Nat) : (s.setD c i v).doms = s.doms := onCore_doms s _ _
@[simp] theorem setD_log (c i v : Nat) : (s.setD c i v).log = s.log := onCore_log s _ _
@[simp] theorem setD_conds (c i v : Nat) : (s.setD c i v).conds = s.conds := onCore_conds s _ _
@[simp] theorem setD_latched (c i v : Nat) : (s.setD c i v).latched = s.latched := onCore_latched s _ _
@[simp] theorem setD_phase (c i v : Nat) : (s.setD c i v).phase = s.phase := onCore_phase s _ _
@[simp] theorem setD_tb (c i v : Nat) : (s.setD c i v).tb = s.tb := onCore_tb s _ _
@[simp] theorem setD_sched (c i v : Nat) : (s.setD c i v).sched = s.sched := onCore_sched s _ _
@[simp] theorem setD_store (c i v : Nat) : (s.setD c i v).store = s.store := onCore_store s _ _
@[simp] theorem setD_scratch (c i v : Nat) : (s.setD c i v).scratch = s.scratch := onCore_scratch s _ _
@[simp] theorem setD_rings (c i v : Nat) : (s.setD c i v).rings = s.rings := onCore_rings s _ _
@[simp] theorem setD_fabric (c i v : Nat) : (s.setD c i v).fabric = s.fabric := onCore_fabric s _ _
@[simp] theorem setD_reg (c i v : Nat) (x : Reg) (y : Nat) : (s.setD c i v).reg x y = s.reg x y := reg_of_regs (setD_regs s c i v) x y

/-! ### setP -/

@[simp] theorem setP_now (c i v : Nat) : (s.setP c i v).now = s.now := onCore_now s _ _
@[simp] theorem setP_mono (c i v : Nat) : (s.setP c i v).mono = s.mono := onCore_mono s _ _
@[simp] theorem setP_free (c i v : Nat) : (s.setP c i v).free = s.free := onCore_free s _ _
@[simp] theorem setP_reply (c i v : Nat) : (s.setP c i v).reply = s.reply := onCore_reply s _ _
@[simp] theorem setP_regs (c i v : Nat) : (s.setP c i v).regs = s.regs := onCore_regs s _ _
@[simp] theorem setP_doms (c i v : Nat) : (s.setP c i v).doms = s.doms := onCore_doms s _ _
@[simp] theorem setP_log (c i v : Nat) : (s.setP c i v).log = s.log := onCore_log s _ _
@[simp] theorem setP_conds (c i v : Nat) : (s.setP c i v).conds = s.conds := onCore_conds s _ _
@[simp] theorem setP_latched (c i v : Nat) : (s.setP c i v).latched = s.latched := onCore_latched s _ _
@[simp] theorem setP_phase (c i v : Nat) : (s.setP c i v).phase = s.phase := onCore_phase s _ _
@[simp] theorem setP_tb (c i v : Nat) : (s.setP c i v).tb = s.tb := onCore_tb s _ _
@[simp] theorem setP_sched (c i v : Nat) : (s.setP c i v).sched = s.sched := onCore_sched s _ _
@[simp] theorem setP_store (c i v : Nat) : (s.setP c i v).store = s.store := onCore_store s _ _
@[simp] theorem setP_scratch (c i v : Nat) : (s.setP c i v).scratch = s.scratch := onCore_scratch s _ _
@[simp] theorem setP_rings (c i v : Nat) : (s.setP c i v).rings = s.rings := onCore_rings s _ _
@[simp] theorem setP_fabric (c i v : Nat) : (s.setP c i v).fabric = s.fabric := onCore_fabric s _ _
@[simp] theorem setP_reg (c i v : Nat) (x : Reg) (y : Nat) : (s.setP c i v).reg x y = s.reg x y := reg_of_regs (setP_regs s c i v) x y

/-! ### setA -/

@[simp] theorem setA_now (c i : Nat) (z : Int) : (s.setA c i z).now = s.now := onCore_now s _ _
@[simp] theorem setA_mono (c i : Nat) (z : Int) : (s.setA c i z).mono = s.mono := onCore_mono s _ _
@[simp] theorem setA_free (c i : Nat) (z : Int) : (s.setA c i z).free = s.free := onCore_free s _ _
@[simp] theorem setA_reply (c i : Nat) (z : Int) : (s.setA c i z).reply = s.reply := onCore_reply s _ _
@[simp] theorem setA_regs (c i : Nat) (z : Int) : (s.setA c i z).regs = s.regs := onCore_regs s _ _
@[simp] theorem setA_doms (c i : Nat) (z : Int) : (s.setA c i z).doms = s.doms := onCore_doms s _ _
@[simp] theorem setA_log (c i : Nat) (z : Int) : (s.setA c i z).log = s.log := onCore_log s _ _
@[simp] theorem setA_conds (c i : Nat) (z : Int) : (s.setA c i z).conds = s.conds := onCore_conds s _ _
@[simp] theorem setA_latched (c i : Nat) (z : Int) : (s.setA c i z).latched = s.latched := onCore_latched s _ _
@[simp] theorem setA_phase (c i : Nat) (z : Int) : (s.setA c i z).phase = s.phase := onCore_phase s _ _
@[simp] theorem setA_tb (c i : Nat) (z : Int) : (s.setA c i z).tb = s.tb := onCore_tb s _ _
@[simp] theorem setA_sched (c i : Nat) (z : Int) : (s.setA c i z).sched = s.sched := onCore_sched s _ _
@[simp] theorem setA_store (c i : Nat) (z : Int) : (s.setA c i z).store = s.store := onCore_store s _ _
@[simp] theorem setA_scratch (c i : Nat) (z : Int) : (s.setA c i z).scratch = s.scratch := onCore_scratch s _ _
@[simp] theorem setA_rings (c i : Nat) (z : Int) : (s.setA c i z).rings = s.rings := onCore_rings s _ _
@[simp] theorem setA_fabric (c i : Nat) (z : Int) : (s.setA c i z).fabric = s.fabric := onCore_fabric s _ _
@[simp] theorem setA_reg (c i : Nat) (z : Int) (x : Reg) (y : Nat) : (s.setA c i z).reg x y = s.reg x y := reg_of_regs (setA_regs s c i z) x y

/-! ### lateD -/

@[simp] theorem lateD_now (c i v : Nat) : (s.lateD c i v).now = s.now := onCore_now s _ _
@[simp] theorem lateD_mono (c i v : Nat) : (s.lateD c i v).mono = s.mono := onCore_mono s _ _
@[simp] theorem lateD_free (c i v : Nat) : (s.lateD c i v).free = s.free := onCore_free s _ _
@[simp] theorem lateD_reply (c i v : Nat) : (s.lateD c i v).reply = s.reply := onCore_reply s _ _
@[simp] theorem lateD_regs (c i v : Nat) : (s.lateD c i v).regs = s.regs := onCore_regs s _ _
@[simp] theorem lateD_doms (c i v : Nat) : (s.lateD c i v).doms = s.doms := onCore_doms s _ _
@[simp] theorem lateD_log (c i v : Nat) : (s.lateD c i v).log = s.log := onCore_log s _ _
@[simp] theorem lateD_conds (c i v : Nat) : (s.lateD c i v).conds = s.conds := onCore_conds s _ _
@[simp] theorem lateD_latched (c i v : Nat) : (s.lateD c i v).latched = s.latched := onCore_latched s _ _
@[simp] theorem lateD_phase (c i v : Nat) : (s.lateD c i v).phase = s.phase := onCore_phase s _ _
@[simp] theorem lateD_tb (c i v : Nat) : (s.lateD c i v).tb = s.tb := onCore_tb s _ _
@[simp] theorem lateD_sched (c i v : Nat) : (s.lateD c i v).sched = s.sched := onCore_sched s _ _
@[simp] theorem lateD_store (c i v : Nat) : (s.lateD c i v).store = s.store := onCore_store s _ _
@[simp] theorem lateD_scratch (c i v : Nat) : (s.lateD c i v).scratch = s.scratch := onCore_scratch s _ _
@[simp] theorem lateD_rings (c i v : Nat) : (s.lateD c i v).rings = s.rings := onCore_rings s _ _
@[simp] theorem lateD_fabric (c i v : Nat) : (s.lateD c i v).fabric = s.fabric := onCore_fabric s _ _
@[simp] theorem lateD_reg (c i v : Nat) (x : Reg) (y : Nat) : (s.lateD c i v).reg x y = s.reg x y := reg_of_regs (lateD_regs s c i v) x y

/-! ### onPort -/

@[simp] theorem onPort_now (q : Nat) (u : PortRun → PortRun) : (s.onPort q u).now = s.now := rfl
@[simp] theorem onPort_mono (q : Nat) (u : PortRun → PortRun) : (s.onPort q u).mono = s.mono := rfl
@[simp] theorem onPort_free (q : Nat) (u : PortRun → PortRun) : (s.onPort q u).free = s.free := rfl
@[simp] theorem onPort_reply (q : Nat) (u : PortRun → PortRun) : (s.onPort q u).reply = s.reply := rfl
@[simp] theorem onPort_regs (q : Nat) (u : PortRun → PortRun) : (s.onPort q u).regs = s.regs := rfl
@[simp] theorem onPort_doms (q : Nat) (u : PortRun → PortRun) : (s.onPort q u).doms = s.doms := rfl
@[simp] theorem onPort_log (q : Nat) (u : PortRun → PortRun) : (s.onPort q u).log = s.log := rfl
@[simp] theorem onPort_conds (q : Nat) (u : PortRun → PortRun) : (s.onPort q u).conds = s.conds := rfl
@[simp] theorem onPort_latched (q : Nat) (u : PortRun → PortRun) : (s.onPort q u).latched = s.latched := rfl
@[simp] theorem onPort_phase (q : Nat) (u : PortRun → PortRun) : (s.onPort q u).phase = s.phase := rfl
@[simp] theorem onPort_tb (q : Nat) (u : PortRun → PortRun) : (s.onPort q u).tb = s.tb := rfl
@[simp] theorem onPort_sched (q : Nat) (u : PortRun → PortRun) : (s.onPort q u).sched = s.sched := rfl
@[simp] theorem onPort_store (q : Nat) (u : PortRun → PortRun) : (s.onPort q u).store = s.store := rfl
@[simp] theorem onPort_scratch (q : Nat) (u : PortRun → PortRun) : (s.onPort q u).scratch = s.scratch := rfl
@[simp] theorem onPort_rings (q : Nat) (u : PortRun → PortRun) : (s.onPort q u).rings = s.rings := rfl
@[simp] theorem onPort_dusk (q : Nat) (u : PortRun → PortRun) : (s.onPort q u).dusk = s.dusk := rfl
@[simp] theorem onPort_reg (q : Nat) (u : PortRun → PortRun) (x : Reg) (y : Nat) : (s.onPort q u).reg x y = s.reg x y := reg_of_regs (onPort_regs s q u) x y

/-! ### putBram -/

@[simp] theorem putBram_now (m k v : Nat) : (s.putBram m k v).now = s.now := rfl
@[simp] theorem putBram_mono (m k v : Nat) : (s.putBram m k v).mono = s.mono := rfl
@[simp] theorem putBram_free (m k v : Nat) : (s.putBram m k v).free = s.free := rfl
@[simp] theorem putBram_reply (m k v : Nat) : (s.putBram m k v).reply = s.reply := rfl
@[simp] theorem putBram_regs (m k v : Nat) : (s.putBram m k v).regs = s.regs := rfl
@[simp] theorem putBram_doms (m k v : Nat) : (s.putBram m k v).doms = s.doms := rfl
@[simp] theorem putBram_log (m k v : Nat) : (s.putBram m k v).log = s.log := rfl
@[simp] theorem putBram_conds (m k v : Nat) : (s.putBram m k v).conds = s.conds := rfl
@[simp] theorem putBram_latched (m k v : Nat) : (s.putBram m k v).latched = s.latched := rfl
@[simp] theorem putBram_phase (m k v : Nat) : (s.putBram m k v).phase = s.phase := rfl
@[simp] theorem putBram_tb (m k v : Nat) : (s.putBram m k v).tb = s.tb := rfl
@[simp] theorem putBram_sched (m k v : Nat) : (s.putBram m k v).sched = s.sched := rfl
@[simp] theorem putBram_store (m k v : Nat) : (s.putBram m k v).store = s.store := rfl
@[simp] theorem putBram_scratch (m k v : Nat) : (s.putBram m k v).scratch = s.scratch := rfl
@[simp] theorem putBram_rings (m k v : Nat) : (s.putBram m k v).rings = s.rings := rfl
@[simp] theorem putBram_dusk (m k v : Nat) : (s.putBram m k v).dusk = s.dusk := rfl
@[simp] theorem putBram_reg (m k v : Nat) (x : Reg) (y : Nat) : (s.putBram m k v).reg x y = s.reg x y := reg_of_regs (putBram_regs s m k v) x y

/-! ### onLane -/

@[simp] theorem onLane_now (l : Nat) (u : LaneRun → LaneRun) : (s.onLane l u).now = s.now := rfl
@[simp] theorem onLane_mono (l : Nat) (u : LaneRun → LaneRun) : (s.onLane l u).mono = s.mono := rfl
@[simp] theorem onLane_free (l : Nat) (u : LaneRun → LaneRun) : (s.onLane l u).free = s.free := rfl
@[simp] theorem onLane_reply (l : Nat) (u : LaneRun → LaneRun) : (s.onLane l u).reply = s.reply := rfl
@[simp] theorem onLane_regs (l : Nat) (u : LaneRun → LaneRun) : (s.onLane l u).regs = s.regs := rfl
@[simp] theorem onLane_doms (l : Nat) (u : LaneRun → LaneRun) : (s.onLane l u).doms = s.doms := rfl
@[simp] theorem onLane_log (l : Nat) (u : LaneRun → LaneRun) : (s.onLane l u).log = s.log := rfl
@[simp] theorem onLane_conds (l : Nat) (u : LaneRun → LaneRun) : (s.onLane l u).conds = s.conds := rfl
@[simp] theorem onLane_latched (l : Nat) (u : LaneRun → LaneRun) : (s.onLane l u).latched = s.latched := rfl
@[simp] theorem onLane_phase (l : Nat) (u : LaneRun → LaneRun) : (s.onLane l u).phase = s.phase := rfl
@[simp] theorem onLane_tb (l : Nat) (u : LaneRun → LaneRun) : (s.onLane l u).tb = s.tb := rfl
@[simp] theorem onLane_sched (l : Nat) (u : LaneRun → LaneRun) : (s.onLane l u).sched = s.sched := rfl
@[simp] theorem onLane_store (l : Nat) (u : LaneRun → LaneRun) : (s.onLane l u).store = s.store := rfl
@[simp] theorem onLane_scratch (l : Nat) (u : LaneRun → LaneRun) : (s.onLane l u).scratch = s.scratch := rfl
@[simp] theorem onLane_rings (l : Nat) (u : LaneRun → LaneRun) : (s.onLane l u).rings = s.rings := rfl
@[simp] theorem onLane_fabric (l : Nat) (u : LaneRun → LaneRun) : (s.onLane l u).fabric = s.fabric := rfl
@[simp] theorem onLane_dusk (l : Nat) (u : LaneRun → LaneRun) : (s.onLane l u).dusk = s.dusk := rfl
@[simp] theorem onLane_reg (l : Nat) (u : LaneRun → LaneRun) (x : Reg) (y : Nat) : (s.onLane l u).reg x y = s.reg x y := reg_of_regs (onLane_regs s l u) x y

/-! ### onLink -/

@[simp] theorem onLink_now (k : Nat) (u : LinkRun → LinkRun) : (s.onLink k u).now = s.now := rfl
@[simp] theorem onLink_mono (k : Nat) (u : LinkRun → LinkRun) : (s.onLink k u).mono = s.mono := rfl
@[simp] theorem onLink_free (k : Nat) (u : LinkRun → LinkRun) : (s.onLink k u).free = s.free := rfl
@[simp] theorem onLink_reply (k : Nat) (u : LinkRun → LinkRun) : (s.onLink k u).reply = s.reply := rfl
@[simp] theorem onLink_regs (k : Nat) (u : LinkRun → LinkRun) : (s.onLink k u).regs = s.regs := rfl
@[simp] theorem onLink_doms (k : Nat) (u : LinkRun → LinkRun) : (s.onLink k u).doms = s.doms := rfl
@[simp] theorem onLink_log (k : Nat) (u : LinkRun → LinkRun) : (s.onLink k u).log = s.log := rfl
@[simp] theorem onLink_conds (k : Nat) (u : LinkRun → LinkRun) : (s.onLink k u).conds = s.conds := rfl
@[simp] theorem onLink_latched (k : Nat) (u : LinkRun → LinkRun) : (s.onLink k u).latched = s.latched := rfl
@[simp] theorem onLink_phase (k : Nat) (u : LinkRun → LinkRun) : (s.onLink k u).phase = s.phase := rfl
@[simp] theorem onLink_tb (k : Nat) (u : LinkRun → LinkRun) : (s.onLink k u).tb = s.tb := rfl
@[simp] theorem onLink_sched (k : Nat) (u : LinkRun → LinkRun) : (s.onLink k u).sched = s.sched := rfl
@[simp] theorem onLink_store (k : Nat) (u : LinkRun → LinkRun) : (s.onLink k u).store = s.store := rfl
@[simp] theorem onLink_scratch (k : Nat) (u : LinkRun → LinkRun) : (s.onLink k u).scratch = s.scratch := rfl
@[simp] theorem onLink_rings (k : Nat) (u : LinkRun → LinkRun) : (s.onLink k u).rings = s.rings := rfl
@[simp] theorem onLink_fabric (k : Nat) (u : LinkRun → LinkRun) : (s.onLink k u).fabric = s.fabric := rfl
@[simp] theorem onLink_dusk (k : Nat) (u : LinkRun → LinkRun) : (s.onLink k u).dusk = s.dusk := rfl
@[simp] theorem onLink_reg (k : Nat) (u : LinkRun → LinkRun) (x : Reg) (y : Nat) : (s.onLink k u).reg x y = s.reg x y := reg_of_regs (onLink_regs s k u) x y

/-! ### onLog -/

@[simp] theorem onLog_now (u : LogState → LogState) : (s.onLog u).now = s.now := rfl
@[simp] theorem onLog_mono (u : LogState → LogState) : (s.onLog u).mono = s.mono := rfl
@[simp] theorem onLog_free (u : LogState → LogState) : (s.onLog u).free = s.free := rfl
@[simp] theorem onLog_reply (u : LogState → LogState) : (s.onLog u).reply = s.reply := rfl
@[simp] theorem onLog_regs (u : LogState → LogState) : (s.onLog u).regs = s.regs := rfl
@[simp] theorem onLog_doms (u : LogState → LogState) : (s.onLog u).doms = s.doms := rfl
@[simp] theorem onLog_conds (u : LogState → LogState) : (s.onLog u).conds = s.conds := rfl
@[simp] theorem onLog_latched (u : LogState → LogState) : (s.onLog u).latched = s.latched := rfl
@[simp] theorem onLog_phase (u : LogState → LogState) : (s.onLog u).phase = s.phase := rfl
@[simp] theorem onLog_tb (u : LogState → LogState) : (s.onLog u).tb = s.tb := rfl
@[simp] theorem onLog_sched (u : LogState → LogState) : (s.onLog u).sched = s.sched := rfl
@[simp] theorem onLog_store (u : LogState → LogState) : (s.onLog u).store = s.store := rfl
@[simp] theorem onLog_scratch (u : LogState → LogState) : (s.onLog u).scratch = s.scratch := rfl
@[simp] theorem onLog_rings (u : LogState → LogState) : (s.onLog u).rings = s.rings := rfl
@[simp] theorem onLog_fabric (u : LogState → LogState) : (s.onLog u).fabric = s.fabric := rfl
@[simp] theorem onLog_dusk (u : LogState → LogState) : (s.onLog u).dusk = s.dusk := rfl
@[simp] theorem onLog_reg (u : LogState → LogState) (x : Reg) (y : Nat) : (s.onLog u).reg x y = s.reg x y := reg_of_regs (onLog_regs s u) x y

/-! ### onPower -/

@[simp] theorem onPower_now (u : Power → Power) : (s.onPower u).now = s.now := rfl
@[simp] theorem onPower_mono (u : Power → Power) : (s.onPower u).mono = s.mono := rfl
@[simp] theorem onPower_free (u : Power → Power) : (s.onPower u).free = s.free := rfl
@[simp] theorem onPower_reply (u : Power → Power) : (s.onPower u).reply = s.reply := rfl
@[simp] theorem onPower_regs (u : Power → Power) : (s.onPower u).regs = s.regs := rfl
@[simp] theorem onPower_doms (u : Power → Power) : (s.onPower u).doms = s.doms := rfl
@[simp] theorem onPower_log (u : Power → Power) : (s.onPower u).log = s.log := rfl
@[simp] theorem onPower_conds (u : Power → Power) : (s.onPower u).conds = s.conds := rfl
@[simp] theorem onPower_latched (u : Power → Power) : (s.onPower u).latched = s.latched := rfl
@[simp] theorem onPower_phase (u : Power → Power) : (s.onPower u).phase = s.phase := rfl
@[simp] theorem onPower_tb (u : Power → Power) : (s.onPower u).tb = s.tb := rfl
@[simp] theorem onPower_sched (u : Power → Power) : (s.onPower u).sched = s.sched := rfl
@[simp] theorem onPower_store (u : Power → Power) : (s.onPower u).store = s.store := rfl
@[simp] theorem onPower_scratch (u : Power → Power) : (s.onPower u).scratch = s.scratch := rfl
@[simp] theorem onPower_rings (u : Power → Power) : (s.onPower u).rings = s.rings := rfl
@[simp] theorem onPower_fabric (u : Power → Power) : (s.onPower u).fabric = s.fabric := rfl
@[simp] theorem onPower_dusk (u : Power → Power) : (s.onPower u).dusk = s.dusk := rfl
@[simp] theorem onPower_reg (u : Power → Power) (x : Reg) (y : Nat) : (s.onPower u).reg x y = s.reg x y := reg_of_regs (onPower_regs s u) x y

/-! ### onService -/

@[simp] theorem onService_now (u : Service → Service) : (s.onService u).now = s.now := rfl
@[simp] theorem onService_mono (u : Service → Service) : (s.onService u).mono = s.mono := rfl
@[simp] theorem onService_free (u : Service → Service) : (s.onService u).free = s.free := rfl
@[simp] theorem onService_reply (u : Service → Service) : (s.onService u).reply = s.reply := rfl
@[simp] theorem onService_regs (u : Service → Service) : (s.onService u).regs = s.regs := rfl
@[simp] theorem onService_doms (u : Service → Service) : (s.onService u).doms = s.doms := rfl
@[simp] theorem onService_log (u : Service → Service) : (s.onService u).log = s.log := rfl
@[simp] theorem onService_conds (u : Service → Service) : (s.onService u).conds = s.conds := rfl
@[simp] theorem onService_latched (u : Service → Service) : (s.onService u).latched = s.latched := rfl
@[simp] theorem onService_phase (u : Service → Service) : (s.onService u).phase = s.phase := rfl
@[simp] theorem onService_tb (u : Service → Service) : (s.onService u).tb = s.tb := rfl
@[simp] theorem onService_sched (u : Service → Service) : (s.onService u).sched = s.sched := rfl
@[simp] theorem onService_store (u : Service → Service) : (s.onService u).store = s.store := rfl
@[simp] theorem onService_scratch (u : Service → Service) : (s.onService u).scratch = s.scratch := rfl
@[simp] theorem onService_rings (u : Service → Service) : (s.onService u).rings = s.rings := rfl
@[simp] theorem onService_fabric (u : Service → Service) : (s.onService u).fabric = s.fabric := rfl
@[simp] theorem onService_dusk (u : Service → Service) : (s.onService u).dusk = s.dusk := rfl
@[simp] theorem onService_reg (u : Service → Service) (x : Reg) (y : Nat) : (s.onService u).reg x y = s.reg x y := reg_of_regs (onService_regs s u) x y

/-! ### onSess -/

@[simp] theorem onSess_now (n : Nat) (u : SessRun → SessRun) : (s.onSess n u).now = s.now := rfl
@[simp] theorem onSess_mono (n : Nat) (u : SessRun → SessRun) : (s.onSess n u).mono = s.mono := rfl
@[simp] theorem onSess_free (n : Nat) (u : SessRun → SessRun) : (s.onSess n u).free = s.free := rfl
@[simp] theorem onSess_reply (n : Nat) (u : SessRun → SessRun) : (s.onSess n u).reply = s.reply := rfl
@[simp] theorem onSess_regs (n : Nat) (u : SessRun → SessRun) : (s.onSess n u).regs = s.regs := rfl
@[simp] theorem onSess_doms (n : Nat) (u : SessRun → SessRun) : (s.onSess n u).doms = s.doms := rfl
@[simp] theorem onSess_log (n : Nat) (u : SessRun → SessRun) : (s.onSess n u).log = s.log := rfl
@[simp] theorem onSess_conds (n : Nat) (u : SessRun → SessRun) : (s.onSess n u).conds = s.conds := rfl
@[simp] theorem onSess_latched (n : Nat) (u : SessRun → SessRun) : (s.onSess n u).latched = s.latched := rfl
@[simp] theorem onSess_phase (n : Nat) (u : SessRun → SessRun) : (s.onSess n u).phase = s.phase := rfl
@[simp] theorem onSess_tb (n : Nat) (u : SessRun → SessRun) : (s.onSess n u).tb = s.tb := rfl
@[simp] theorem onSess_sched (n : Nat) (u : SessRun → SessRun) : (s.onSess n u).sched = s.sched := rfl
@[simp] theorem onSess_store (n : Nat) (u : SessRun → SessRun) : (s.onSess n u).store = s.store := rfl
@[simp] theorem onSess_scratch (n : Nat) (u : SessRun → SessRun) : (s.onSess n u).scratch = s.scratch := rfl
@[simp] theorem onSess_rings (n : Nat) (u : SessRun → SessRun) : (s.onSess n u).rings = s.rings := rfl
@[simp] theorem onSess_fabric (n : Nat) (u : SessRun → SessRun) : (s.onSess n u).fabric = s.fabric := rfl
@[simp] theorem onSess_dusk (n : Nat) (u : SessRun → SessRun) : (s.onSess n u).dusk = s.dusk := rfl
@[simp] theorem onSess_reg (n : Nat) (u : SessRun → SessRun) (x : Reg) (y : Nat) : (s.onSess n u).reg x y = s.reg x y := reg_of_regs (onSess_regs s n u) x y

/-! ### onSteward -/

@[simp] theorem onSteward_now (u : Steward → Steward) : (s.onSteward u).now = s.now := rfl
@[simp] theorem onSteward_mono (u : Steward → Steward) : (s.onSteward u).mono = s.mono := rfl
@[simp] theorem onSteward_free (u : Steward → Steward) : (s.onSteward u).free = s.free := rfl
@[simp] theorem onSteward_reply (u : Steward → Steward) : (s.onSteward u).reply = s.reply := rfl
@[simp] theorem onSteward_regs (u : Steward → Steward) : (s.onSteward u).regs = s.regs := rfl
@[simp] theorem onSteward_doms (u : Steward → Steward) : (s.onSteward u).doms = s.doms := rfl
@[simp] theorem onSteward_log (u : Steward → Steward) : (s.onSteward u).log = s.log := rfl
@[simp] theorem onSteward_conds (u : Steward → Steward) : (s.onSteward u).conds = s.conds := rfl
@[simp] theorem onSteward_latched (u : Steward → Steward) : (s.onSteward u).latched = s.latched := rfl
@[simp] theorem onSteward_phase (u : Steward → Steward) : (s.onSteward u).phase = s.phase := rfl
@[simp] theorem onSteward_tb (u : Steward → Steward) : (s.onSteward u).tb = s.tb := rfl
@[simp] theorem onSteward_sched (u : Steward → Steward) : (s.onSteward u).sched = s.sched := rfl
@[simp] theorem onSteward_store (u : Steward → Steward) : (s.onSteward u).store = s.store := rfl
@[simp] theorem onSteward_scratch (u : Steward → Steward) : (s.onSteward u).scratch = s.scratch := rfl
@[simp] theorem onSteward_rings (u : Steward → Steward) : (s.onSteward u).rings = s.rings := rfl
@[simp] theorem onSteward_fabric (u : Steward → Steward) : (s.onSteward u).fabric = s.fabric := rfl
@[simp] theorem onSteward_dusk (u : Steward → Steward) : (s.onSteward u).dusk = s.dusk := rfl
@[simp] theorem onSteward_reg (u : Steward → Steward) (x : Reg) (y : Nat) : (s.onSteward u).reg x y = s.reg x y := reg_of_regs (onSteward_regs s u) x y

/-! ### onEns -/

@[simp] theorem onEns_now (u : Ensemble → Ensemble) : (s.onEns u).now = s.now := rfl
@[simp] theorem onEns_mono (u : Ensemble → Ensemble) : (s.onEns u).mono = s.mono := rfl
@[simp] theorem onEns_free (u : Ensemble → Ensemble) : (s.onEns u).free = s.free := rfl
@[simp] theorem onEns_reply (u : Ensemble → Ensemble) : (s.onEns u).reply = s.reply := rfl
@[simp] theorem onEns_regs (u : Ensemble → Ensemble) : (s.onEns u).regs = s.regs := rfl
@[simp] theorem onEns_doms (u : Ensemble → Ensemble) : (s.onEns u).doms = s.doms := rfl
@[simp] theorem onEns_log (u : Ensemble → Ensemble) : (s.onEns u).log = s.log := rfl
@[simp] theorem onEns_conds (u : Ensemble → Ensemble) : (s.onEns u).conds = s.conds := rfl
@[simp] theorem onEns_latched (u : Ensemble → Ensemble) : (s.onEns u).latched = s.latched := rfl
@[simp] theorem onEns_phase (u : Ensemble → Ensemble) : (s.onEns u).phase = s.phase := rfl
@[simp] theorem onEns_tb (u : Ensemble → Ensemble) : (s.onEns u).tb = s.tb := rfl
@[simp] theorem onEns_sched (u : Ensemble → Ensemble) : (s.onEns u).sched = s.sched := rfl
@[simp] theorem onEns_store (u : Ensemble → Ensemble) : (s.onEns u).store = s.store := rfl
@[simp] theorem onEns_scratch (u : Ensemble → Ensemble) : (s.onEns u).scratch = s.scratch := rfl
@[simp] theorem onEns_rings (u : Ensemble → Ensemble) : (s.onEns u).rings = s.rings := rfl
@[simp] theorem onEns_fabric (u : Ensemble → Ensemble) : (s.onEns u).fabric = s.fabric := rfl
@[simp] theorem onEns_dusk (u : Ensemble → Ensemble) : (s.onEns u).dusk = s.dusk := rfl
@[simp] theorem onEns_reg (u : Ensemble → Ensemble) (x : Reg) (y : Nat) : (s.onEns u).reg x y = s.reg x y := reg_of_regs (onEns_regs s u) x y

/-! ### onFlow -/

@[simp] theorem onFlow_now (f : Nat) (u : FlowRun → FlowRun) : (s.onFlow f u).now = s.now := rfl
@[simp] theorem onFlow_mono (f : Nat) (u : FlowRun → FlowRun) : (s.onFlow f u).mono = s.mono := rfl
@[simp] theorem onFlow_free (f : Nat) (u : FlowRun → FlowRun) : (s.onFlow f u).free = s.free := rfl
@[simp] theorem onFlow_reply (f : Nat) (u : FlowRun → FlowRun) : (s.onFlow f u).reply = s.reply := rfl
@[simp] theorem onFlow_regs (f : Nat) (u : FlowRun → FlowRun) : (s.onFlow f u).regs = s.regs := rfl
@[simp] theorem onFlow_doms (f : Nat) (u : FlowRun → FlowRun) : (s.onFlow f u).doms = s.doms := rfl
@[simp] theorem onFlow_log (f : Nat) (u : FlowRun → FlowRun) : (s.onFlow f u).log = s.log := rfl
@[simp] theorem onFlow_conds (f : Nat) (u : FlowRun → FlowRun) : (s.onFlow f u).conds = s.conds := rfl
@[simp] theorem onFlow_latched (f : Nat) (u : FlowRun → FlowRun) : (s.onFlow f u).latched = s.latched := rfl
@[simp] theorem onFlow_phase (f : Nat) (u : FlowRun → FlowRun) : (s.onFlow f u).phase = s.phase := rfl
@[simp] theorem onFlow_tb (f : Nat) (u : FlowRun → FlowRun) : (s.onFlow f u).tb = s.tb := rfl
@[simp] theorem onFlow_sched (f : Nat) (u : FlowRun → FlowRun) : (s.onFlow f u).sched = s.sched := rfl
@[simp] theorem onFlow_store (f : Nat) (u : FlowRun → FlowRun) : (s.onFlow f u).store = s.store := rfl
@[simp] theorem onFlow_scratch (f : Nat) (u : FlowRun → FlowRun) : (s.onFlow f u).scratch = s.scratch := rfl
@[simp] theorem onFlow_rings (f : Nat) (u : FlowRun → FlowRun) : (s.onFlow f u).rings = s.rings := rfl
@[simp] theorem onFlow_fabric (f : Nat) (u : FlowRun → FlowRun) : (s.onFlow f u).fabric = s.fabric := rfl
@[simp] theorem onFlow_dusk (f : Nat) (u : FlowRun → FlowRun) : (s.onFlow f u).dusk = s.dusk := rfl
@[simp] theorem onFlow_reg (f : Nat) (u : FlowRun → FlowRun) (x : Reg) (y : Nat) : (s.onFlow f u).reg x y = s.reg x y := reg_of_regs (onFlow_regs s f u) x y

/-! ### onVersion -/

@[simp] theorem onVersion_now (h f : Nat) (u : Version → Version) : (s.onVersion h f u).now = s.now := rfl
@[simp] theorem onVersion_mono (h f : Nat) (u : Version → Version) : (s.onVersion h f u).mono = s.mono := rfl
@[simp] theorem onVersion_free (h f : Nat) (u : Version → Version) : (s.onVersion h f u).free = s.free := rfl
@[simp] theorem onVersion_reply (h f : Nat) (u : Version → Version) : (s.onVersion h f u).reply = s.reply := rfl
@[simp] theorem onVersion_regs (h f : Nat) (u : Version → Version) : (s.onVersion h f u).regs = s.regs := rfl
@[simp] theorem onVersion_doms (h f : Nat) (u : Version → Version) : (s.onVersion h f u).doms = s.doms := rfl
@[simp] theorem onVersion_log (h f : Nat) (u : Version → Version) : (s.onVersion h f u).log = s.log := rfl
@[simp] theorem onVersion_conds (h f : Nat) (u : Version → Version) : (s.onVersion h f u).conds = s.conds := rfl
@[simp] theorem onVersion_latched (h f : Nat) (u : Version → Version) : (s.onVersion h f u).latched = s.latched := rfl
@[simp] theorem onVersion_phase (h f : Nat) (u : Version → Version) : (s.onVersion h f u).phase = s.phase := rfl
@[simp] theorem onVersion_tb (h f : Nat) (u : Version → Version) : (s.onVersion h f u).tb = s.tb := rfl
@[simp] theorem onVersion_store (h f : Nat) (u : Version → Version) : (s.onVersion h f u).store = s.store := rfl
@[simp] theorem onVersion_scratch (h f : Nat) (u : Version → Version) : (s.onVersion h f u).scratch = s.scratch := rfl
@[simp] theorem onVersion_rings (h f : Nat) (u : Version → Version) : (s.onVersion h f u).rings = s.rings := rfl
@[simp] theorem onVersion_fabric (h f : Nat) (u : Version → Version) : (s.onVersion h f u).fabric = s.fabric := rfl
@[simp] theorem onVersion_dusk (h f : Nat) (u : Version → Version) : (s.onVersion h f u).dusk = s.dusk := rfl
@[simp] theorem onVersion_reg (h f : Nat) (u : Version → Version) (x : Reg) (y : Nat) : (s.onVersion h f u).reg x y = s.reg x y := reg_of_regs (onVersion_regs s h f u) x y

/-! ### onOp -/

@[simp] theorem onOp_now (i f : Nat) (u : Oper → Oper) : (s.onOp i f u).now = s.now := rfl
@[simp] theorem onOp_mono (i f : Nat) (u : Oper → Oper) : (s.onOp i f u).mono = s.mono := rfl
@[simp] theorem onOp_free (i f : Nat) (u : Oper → Oper) : (s.onOp i f u).free = s.free := rfl
@[simp] theorem onOp_reply (i f : Nat) (u : Oper → Oper) : (s.onOp i f u).reply = s.reply := rfl
@[simp] theorem onOp_regs (i f : Nat) (u : Oper → Oper) : (s.onOp i f u).regs = s.regs := rfl
@[simp] theorem onOp_doms (i f : Nat) (u : Oper → Oper) : (s.onOp i f u).doms = s.doms := rfl
@[simp] theorem onOp_log (i f : Nat) (u : Oper → Oper) : (s.onOp i f u).log = s.log := rfl
@[simp] theorem onOp_conds (i f : Nat) (u : Oper → Oper) : (s.onOp i f u).conds = s.conds := rfl
@[simp] theorem onOp_latched (i f : Nat) (u : Oper → Oper) : (s.onOp i f u).latched = s.latched := rfl
@[simp] theorem onOp_phase (i f : Nat) (u : Oper → Oper) : (s.onOp i f u).phase = s.phase := rfl
@[simp] theorem onOp_tb (i f : Nat) (u : Oper → Oper) : (s.onOp i f u).tb = s.tb := rfl
@[simp] theorem onOp_store (i f : Nat) (u : Oper → Oper) : (s.onOp i f u).store = s.store := rfl
@[simp] theorem onOp_scratch (i f : Nat) (u : Oper → Oper) : (s.onOp i f u).scratch = s.scratch := rfl
@[simp] theorem onOp_rings (i f : Nat) (u : Oper → Oper) : (s.onOp i f u).rings = s.rings := rfl
@[simp] theorem onOp_fabric (i f : Nat) (u : Oper → Oper) : (s.onOp i f u).fabric = s.fabric := rfl
@[simp] theorem onOp_dusk (i f : Nat) (u : Oper → Oper) : (s.onOp i f u).dusk = s.dusk := rfl
@[simp] theorem onOp_reg (i f : Nat) (u : Oper → Oper) (x : Reg) (y : Nat) : (s.onOp i f u).reg x y = s.reg x y := reg_of_regs (onOp_regs s i f u) x y

/-! ### setRun -/

@[simp] theorem setRun_now (o : Nat) (r : Option RunOp) : (s.setRun o r).now = s.now := rfl
@[simp] theorem setRun_mono (o : Nat) (r : Option RunOp) : (s.setRun o r).mono = s.mono := rfl
@[simp] theorem setRun_free (o : Nat) (r : Option RunOp) : (s.setRun o r).free = s.free := rfl
@[simp] theorem setRun_reply (o : Nat) (r : Option RunOp) : (s.setRun o r).reply = s.reply := rfl
@[simp] theorem setRun_regs (o : Nat) (r : Option RunOp) : (s.setRun o r).regs = s.regs := rfl
@[simp] theorem setRun_doms (o : Nat) (r : Option RunOp) : (s.setRun o r).doms = s.doms := rfl
@[simp] theorem setRun_log (o : Nat) (r : Option RunOp) : (s.setRun o r).log = s.log := rfl
@[simp] theorem setRun_conds (o : Nat) (r : Option RunOp) : (s.setRun o r).conds = s.conds := rfl
@[simp] theorem setRun_latched (o : Nat) (r : Option RunOp) : (s.setRun o r).latched = s.latched := rfl
@[simp] theorem setRun_phase (o : Nat) (r : Option RunOp) : (s.setRun o r).phase = s.phase := rfl
@[simp] theorem setRun_tb (o : Nat) (r : Option RunOp) : (s.setRun o r).tb = s.tb := rfl
@[simp] theorem setRun_sched (o : Nat) (r : Option RunOp) : (s.setRun o r).sched = s.sched := rfl
@[simp] theorem setRun_store (o : Nat) (r : Option RunOp) : (s.setRun o r).store = s.store := rfl
@[simp] theorem setRun_scratch (o : Nat) (r : Option RunOp) : (s.setRun o r).scratch = s.scratch := rfl
@[simp] theorem setRun_rings (o : Nat) (r : Option RunOp) : (s.setRun o r).rings = s.rings := rfl
@[simp] theorem setRun_fabric (o : Nat) (r : Option RunOp) : (s.setRun o r).fabric = s.fabric := rfl
@[simp] theorem setRun_dusk (o : Nat) (r : Option RunOp) : (s.setRun o r).dusk = s.dusk := rfl
@[simp] theorem setRun_reg (o : Nat) (r : Option RunOp) (x : Reg) (y : Nat) : (s.setRun o r).reg x y = s.reg x y := reg_of_regs (setRun_regs s o r) x y

/-! ### putScratch -/

@[simp] theorem putScratch_now (w : Nat) (c : CodeWord) : (s.putScratch w c).now = s.now := rfl
@[simp] theorem putScratch_mono (w : Nat) (c : CodeWord) : (s.putScratch w c).mono = s.mono := rfl
@[simp] theorem putScratch_free (w : Nat) (c : CodeWord) : (s.putScratch w c).free = s.free := rfl
@[simp] theorem putScratch_reply (w : Nat) (c : CodeWord) : (s.putScratch w c).reply = s.reply := rfl
@[simp] theorem putScratch_regs (w : Nat) (c : CodeWord) : (s.putScratch w c).regs = s.regs := rfl
@[simp] theorem putScratch_doms (w : Nat) (c : CodeWord) : (s.putScratch w c).doms = s.doms := rfl
@[simp] theorem putScratch_log (w : Nat) (c : CodeWord) : (s.putScratch w c).log = s.log := rfl
@[simp] theorem putScratch_conds (w : Nat) (c : CodeWord) : (s.putScratch w c).conds = s.conds := rfl
@[simp] theorem putScratch_latched (w : Nat) (c : CodeWord) : (s.putScratch w c).latched = s.latched := rfl
@[simp] theorem putScratch_phase (w : Nat) (c : CodeWord) : (s.putScratch w c).phase = s.phase := rfl
@[simp] theorem putScratch_tb (w : Nat) (c : CodeWord) : (s.putScratch w c).tb = s.tb := rfl
@[simp] theorem putScratch_sched (w : Nat) (c : CodeWord) : (s.putScratch w c).sched = s.sched := rfl
@[simp] theorem putScratch_store (w : Nat) (c : CodeWord) : (s.putScratch w c).store = s.store := rfl
@[simp] theorem putScratch_rings (w : Nat) (c : CodeWord) : (s.putScratch w c).rings = s.rings := rfl
@[simp] theorem putScratch_fabric (w : Nat) (c : CodeWord) : (s.putScratch w c).fabric = s.fabric := rfl
@[simp] theorem putScratch_dusk (w : Nat) (c : CodeWord) : (s.putScratch w c).dusk = s.dusk := rfl
@[simp] theorem putScratch_reg (w : Nat) (c : CodeWord) (x : Reg) (y : Nat) : (s.putScratch w c).reg x y = s.reg x y := reg_of_regs (putScratch_regs s w c) x y

/-! ### setSliceEntries -/

@[simp] theorem setSliceEntries_now (k : Nat) (l : List PcReq) : (s.setSliceEntries k l).now = s.now := rfl
@[simp] theorem setSliceEntries_mono (k : Nat) (l : List PcReq) : (s.setSliceEntries k l).mono = s.mono := rfl
@[simp] theorem setSliceEntries_free (k : Nat) (l : List PcReq) : (s.setSliceEntries k l).free = s.free := rfl
@[simp] theorem setSliceEntries_reply (k : Nat) (l : List PcReq) : (s.setSliceEntries k l).reply = s.reply := rfl
@[simp] theorem setSliceEntries_regs (k : Nat) (l : List PcReq) : (s.setSliceEntries k l).regs = s.regs := rfl
@[simp] theorem setSliceEntries_doms (k : Nat) (l : List PcReq) : (s.setSliceEntries k l).doms = s.doms := rfl
@[simp] theorem setSliceEntries_log (k : Nat) (l : List PcReq) : (s.setSliceEntries k l).log = s.log := rfl
@[simp] theorem setSliceEntries_conds (k : Nat) (l : List PcReq) : (s.setSliceEntries k l).conds = s.conds := rfl
@[simp] theorem setSliceEntries_latched (k : Nat) (l : List PcReq) : (s.setSliceEntries k l).latched = s.latched := rfl
@[simp] theorem setSliceEntries_phase (k : Nat) (l : List PcReq) : (s.setSliceEntries k l).phase = s.phase := rfl
@[simp] theorem setSliceEntries_tb (k : Nat) (l : List PcReq) : (s.setSliceEntries k l).tb = s.tb := rfl
@[simp] theorem setSliceEntries_sched (k : Nat) (l : List PcReq) : (s.setSliceEntries k l).sched = s.sched := rfl
@[simp] theorem setSliceEntries_store (k : Nat) (l : List PcReq) : (s.setSliceEntries k l).store = s.store := rfl
@[simp] theorem setSliceEntries_rings (k : Nat) (l : List PcReq) : (s.setSliceEntries k l).rings = s.rings := rfl
@[simp] theorem setSliceEntries_fabric (k : Nat) (l : List PcReq) : (s.setSliceEntries k l).fabric = s.fabric := rfl
@[simp] theorem setSliceEntries_dusk (k : Nat) (l : List PcReq) : (s.setSliceEntries k l).dusk = s.dusk := rfl
@[simp] theorem setSliceEntries_reg (k : Nat) (l : List PcReq) (x : Reg) (y : Nat) : (s.setSliceEntries k l).reg x y = s.reg x y := reg_of_regs (setSliceEntries_regs s k l) x y

/-! ### setWriteBack -/

@[simp] theorem setWriteBack_now (b : Nat) (w : Option WriteBack) : (s.setWriteBack b w).now = s.now := rfl
@[simp] theorem setWriteBack_mono (b : Nat) (w : Option WriteBack) : (s.setWriteBack b w).mono = s.mono := rfl
@[simp] theorem setWriteBack_free (b : Nat) (w : Option WriteBack) : (s.setWriteBack b w).free = s.free := rfl
@[simp] theorem setWriteBack_reply (b : Nat) (w : Option WriteBack) : (s.setWriteBack b w).reply = s.reply := rfl
@[simp] theorem setWriteBack_regs (b : Nat) (w : Option WriteBack) : (s.setWriteBack b w).regs = s.regs := rfl
@[simp] theorem setWriteBack_doms (b : Nat) (w : Option WriteBack) : (s.setWriteBack b w).doms = s.doms := rfl
@[simp] theorem setWriteBack_log (b : Nat) (w : Option WriteBack) : (s.setWriteBack b w).log = s.log := rfl
@[simp] theorem setWriteBack_conds (b : Nat) (w : Option WriteBack) : (s.setWriteBack b w).conds = s.conds := rfl
@[simp] theorem setWriteBack_latched (b : Nat) (w : Option WriteBack) : (s.setWriteBack b w).latched = s.latched := rfl
@[simp] theorem setWriteBack_phase (b : Nat) (w : Option WriteBack) : (s.setWriteBack b w).phase = s.phase := rfl
@[simp] theorem setWriteBack_tb (b : Nat) (w : Option WriteBack) : (s.setWriteBack b w).tb = s.tb := rfl
@[simp] theorem setWriteBack_sched (b : Nat) (w : Option WriteBack) : (s.setWriteBack b w).sched = s.sched := rfl
@[simp] theorem setWriteBack_store (b : Nat) (w : Option WriteBack) : (s.setWriteBack b w).store = s.store := rfl
@[simp] theorem setWriteBack_rings (b : Nat) (w : Option WriteBack) : (s.setWriteBack b w).rings = s.rings := rfl
@[simp] theorem setWriteBack_fabric (b : Nat) (w : Option WriteBack) : (s.setWriteBack b w).fabric = s.fabric := rfl
@[simp] theorem setWriteBack_dusk (b : Nat) (w : Option WriteBack) : (s.setWriteBack b w).dusk = s.dusk := rfl
@[simp] theorem setWriteBack_reg (b : Nat) (w : Option WriteBack) (x : Reg) (y : Nat) : (s.setWriteBack b w).reg x y = s.reg x y := reg_of_regs (setWriteBack_regs s b w) x y

/-! ### putCodeWord -/

@[simp] theorem putCodeWord_now (a : Nat) (c : CodeWord) : (s.putCodeWord a c).now = s.now := rfl
@[simp] theorem putCodeWord_mono (a : Nat) (c : CodeWord) : (s.putCodeWord a c).mono = s.mono := rfl
@[simp] theorem putCodeWord_free (a : Nat) (c : CodeWord) : (s.putCodeWord a c).free = s.free := rfl
@[simp] theorem putCodeWord_reply (a : Nat) (c : CodeWord) : (s.putCodeWord a c).reply = s.reply := rfl
@[simp] theorem putCodeWord_regs (a : Nat) (c : CodeWord) : (s.putCodeWord a c).regs = s.regs := rfl
@[simp] theorem putCodeWord_doms (a : Nat) (c : CodeWord) : (s.putCodeWord a c).doms = s.doms := rfl
@[simp] theorem putCodeWord_log (a : Nat) (c : CodeWord) : (s.putCodeWord a c).log = s.log := rfl
@[simp] theorem putCodeWord_conds (a : Nat) (c : CodeWord) : (s.putCodeWord a c).conds = s.conds := rfl
@[simp] theorem putCodeWord_latched (a : Nat) (c : CodeWord) : (s.putCodeWord a c).latched = s.latched := rfl
@[simp] theorem putCodeWord_phase (a : Nat) (c : CodeWord) : (s.putCodeWord a c).phase = s.phase := rfl
@[simp] theorem putCodeWord_tb (a : Nat) (c : CodeWord) : (s.putCodeWord a c).tb = s.tb := rfl
@[simp] theorem putCodeWord_sched (a : Nat) (c : CodeWord) : (s.putCodeWord a c).sched = s.sched := rfl
@[simp] theorem putCodeWord_scratch (a : Nat) (c : CodeWord) : (s.putCodeWord a c).scratch = s.scratch := rfl
@[simp] theorem putCodeWord_rings (a : Nat) (c : CodeWord) : (s.putCodeWord a c).rings = s.rings := rfl
@[simp] theorem putCodeWord_fabric (a : Nat) (c : CodeWord) : (s.putCodeWord a c).fabric = s.fabric := rfl
@[simp] theorem putCodeWord_dusk (a : Nat) (c : CodeWord) : (s.putCodeWord a c).dusk = s.dusk := rfl
@[simp] theorem putCodeWord_reg (a : Nat) (c : CodeWord) (x : Reg) (y : Nat) : (s.putCodeWord a c).reg x y = s.reg x y := reg_of_regs (putCodeWord_regs s a c) x y

/-! ### onPc -/

@[simp] theorem onPc_now (n : Nat) (u : PcState → PcState) : (s.onPc n u).now = s.now := rfl
@[simp] theorem onPc_mono (n : Nat) (u : PcState → PcState) : (s.onPc n u).mono = s.mono := rfl
@[simp] theorem onPc_free (n : Nat) (u : PcState → PcState) : (s.onPc n u).free = s.free := rfl
@[simp] theorem onPc_reply (n : Nat) (u : PcState → PcState) : (s.onPc n u).reply = s.reply := rfl
@[simp] theorem onPc_regs (n : Nat) (u : PcState → PcState) : (s.onPc n u).regs = s.regs := rfl
@[simp] theorem onPc_doms (n : Nat) (u : PcState → PcState) : (s.onPc n u).doms = s.doms := rfl
@[simp] theorem onPc_log (n : Nat) (u : PcState → PcState) : (s.onPc n u).log = s.log := rfl
@[simp] theorem onPc_conds (n : Nat) (u : PcState → PcState) : (s.onPc n u).conds = s.conds := rfl
@[simp] theorem onPc_latched (n : Nat) (u : PcState → PcState) : (s.onPc n u).latched = s.latched := rfl
@[simp] theorem onPc_phase (n : Nat) (u : PcState → PcState) : (s.onPc n u).phase = s.phase := rfl
@[simp] theorem onPc_tb (n : Nat) (u : PcState → PcState) : (s.onPc n u).tb = s.tb := rfl
@[simp] theorem onPc_sched (n : Nat) (u : PcState → PcState) : (s.onPc n u).sched = s.sched := rfl
@[simp] theorem onPc_scratch (n : Nat) (u : PcState → PcState) : (s.onPc n u).scratch = s.scratch := rfl
@[simp] theorem onPc_rings (n : Nat) (u : PcState → PcState) : (s.onPc n u).rings = s.rings := rfl
@[simp] theorem onPc_fabric (n : Nat) (u : PcState → PcState) : (s.onPc n u).fabric = s.fabric := rfl
@[simp] theorem onPc_dusk (n : Nat) (u : PcState → PcState) : (s.onPc n u).dusk = s.dusk := rfl
@[simp] theorem onPc_reg (n : Nat) (u : PcState → PcState) (x : Reg) (y : Nat) : (s.onPc n u).reg x y = s.reg x y := reg_of_regs (onPc_regs s n u) x y

/-! ### setCredit -/

@[simp] theorem setCredit_now (g d : Nat) (vc : VC) (n : Nat) : (s.setCredit g d vc n).now = s.now := rfl
@[simp] theorem setCredit_mono (g d : Nat) (vc : VC) (n : Nat) : (s.setCredit g d vc n).mono = s.mono := rfl
@[simp] theorem setCredit_free (g d : Nat) (vc : VC) (n : Nat) : (s.setCredit g d vc n).free = s.free := rfl
@[simp] theorem setCredit_reply (g d : Nat) (vc : VC) (n : Nat) : (s.setCredit g d vc n).reply = s.reply := rfl
@[simp] theorem setCredit_regs (g d : Nat) (vc : VC) (n : Nat) : (s.setCredit g d vc n).regs = s.regs := rfl
@[simp] theorem setCredit_doms (g d : Nat) (vc : VC) (n : Nat) : (s.setCredit g d vc n).doms = s.doms := rfl
@[simp] theorem setCredit_log (g d : Nat) (vc : VC) (n : Nat) : (s.setCredit g d vc n).log = s.log := rfl
@[simp] theorem setCredit_conds (g d : Nat) (vc : VC) (n : Nat) : (s.setCredit g d vc n).conds = s.conds := rfl
@[simp] theorem setCredit_latched (g d : Nat) (vc : VC) (n : Nat) : (s.setCredit g d vc n).latched = s.latched := rfl
@[simp] theorem setCredit_phase (g d : Nat) (vc : VC) (n : Nat) : (s.setCredit g d vc n).phase = s.phase := rfl
@[simp] theorem setCredit_tb (g d : Nat) (vc : VC) (n : Nat) : (s.setCredit g d vc n).tb = s.tb := rfl
@[simp] theorem setCredit_sched (g d : Nat) (vc : VC) (n : Nat) : (s.setCredit g d vc n).sched = s.sched := rfl
@[simp] theorem setCredit_store (g d : Nat) (vc : VC) (n : Nat) : (s.setCredit g d vc n).store = s.store := rfl
@[simp] theorem setCredit_scratch (g d : Nat) (vc : VC) (n : Nat) : (s.setCredit g d vc n).scratch = s.scratch := rfl
@[simp] theorem setCredit_fabric (g d : Nat) (vc : VC) (n : Nat) : (s.setCredit g d vc n).fabric = s.fabric := rfl
@[simp] theorem setCredit_dusk (g d : Nat) (vc : VC) (n : Nat) : (s.setCredit g d vc n).dusk = s.dusk := rfl
@[simp] theorem setCredit_reg (g d : Nat) (vc : VC) (n : Nat) (x : Reg) (y : Nat) : (s.setCredit g d vc n).reg x y = s.reg x y := reg_of_regs (setCredit_regs s g d vc n) x y

/-! ### setBuffer -/

/-- What has drained of an ingress buffer concerns the streams alone. -/
theorem ingressUntil_eq (s : State) (i : Nat) : ∃ x, s.ingressUntil i = { s with streams := x } := by
  unfold State.ingressUntil
  split
  · split
    · exact ⟨_, rfl⟩
    · exact ⟨s.streams, rfl⟩
  · exact ⟨s.streams, rfl⟩

@[simp] theorem setBuffer_now (i : Nat) (vc : VC) (l : List Buffered) : (s.setBuffer i vc l).now = s.now := by
  obtain ⟨x, h⟩ := ingressUntil_eq s i; simp [State.setBuffer, h]
@[simp] theorem setBuffer_mono (i : Nat) (vc : VC) (l : List Buffered) : (s.setBuffer i vc l).mono = s.mono := by
  obtain ⟨x, h⟩ := ingressUntil_eq s i; simp [State.setBuffer, h]
@[simp] theorem setBuffer_free (i : Nat) (vc : VC) (l : List Buffered) : (s.setBuffer i vc l).free = s.free := by
  obtain ⟨x, h⟩ := ingressUntil_eq s i; simp [State.setBuffer, h]
@[simp] theorem setBuffer_reply (i : Nat) (vc : VC) (l : List Buffered) : (s.setBuffer i vc l).reply = s.reply := by
  obtain ⟨x, h⟩ := ingressUntil_eq s i; simp [State.setBuffer, h]
@[simp] theorem setBuffer_regs (i : Nat) (vc : VC) (l : List Buffered) : (s.setBuffer i vc l).regs = s.regs := by
  obtain ⟨x, h⟩ := ingressUntil_eq s i; simp [State.setBuffer, h]
@[simp] theorem setBuffer_doms (i : Nat) (vc : VC) (l : List Buffered) : (s.setBuffer i vc l).doms = s.doms := by
  obtain ⟨x, h⟩ := ingressUntil_eq s i; simp [State.setBuffer, h]
@[simp] theorem setBuffer_log (i : Nat) (vc : VC) (l : List Buffered) : (s.setBuffer i vc l).log = s.log := by
  obtain ⟨x, h⟩ := ingressUntil_eq s i; simp [State.setBuffer, h]
@[simp] theorem setBuffer_conds (i : Nat) (vc : VC) (l : List Buffered) : (s.setBuffer i vc l).conds = s.conds := by
  obtain ⟨x, h⟩ := ingressUntil_eq s i; simp [State.setBuffer, h]
@[simp] theorem setBuffer_latched (i : Nat) (vc : VC) (l : List Buffered) : (s.setBuffer i vc l).latched = s.latched := by
  obtain ⟨x, h⟩ := ingressUntil_eq s i; simp [State.setBuffer, h]
@[simp] theorem setBuffer_phase (i : Nat) (vc : VC) (l : List Buffered) : (s.setBuffer i vc l).phase = s.phase := by
  obtain ⟨x, h⟩ := ingressUntil_eq s i; simp [State.setBuffer, h]
@[simp] theorem setBuffer_tb (i : Nat) (vc : VC) (l : List Buffered) : (s.setBuffer i vc l).tb = s.tb := by
  obtain ⟨x, h⟩ := ingressUntil_eq s i; simp [State.setBuffer, h]
@[simp] theorem setBuffer_sched (i : Nat) (vc : VC) (l : List Buffered) : (s.setBuffer i vc l).sched = s.sched := by
  obtain ⟨x, h⟩ := ingressUntil_eq s i; simp [State.setBuffer, h]
@[simp] theorem setBuffer_store (i : Nat) (vc : VC) (l : List Buffered) : (s.setBuffer i vc l).store = s.store := by
  obtain ⟨x, h⟩ := ingressUntil_eq s i; simp [State.setBuffer, h]
@[simp] theorem setBuffer_scratch (i : Nat) (vc : VC) (l : List Buffered) : (s.setBuffer i vc l).scratch = s.scratch := by
  obtain ⟨x, h⟩ := ingressUntil_eq s i; simp [State.setBuffer, h]
@[simp] theorem setBuffer_fabric (i : Nat) (vc : VC) (l : List Buffered) : (s.setBuffer i vc l).fabric = s.fabric := by
  obtain ⟨x, h⟩ := ingressUntil_eq s i; simp [State.setBuffer, h]
@[simp] theorem setBuffer_dusk (i : Nat) (vc : VC) (l : List Buffered) : (s.setBuffer i vc l).dusk = s.dusk := by
  obtain ⟨x, h⟩ := ingressUntil_eq s i; simp [State.setBuffer, h]
@[simp] theorem setBuffer_reg (i : Nat) (vc : VC) (l : List Buffered) (x : Reg) (y : Nat) : (s.setBuffer i vc l).reg x y = s.reg x y := reg_of_regs (setBuffer_regs s i vc l) x y

end Sys2Proof.Machine
end

