-- ==== Sys2Proof/Laws/Cores.lean ====
section
/-! SUPPORT. What an instruction of a Dusk core can do when it issues, and the numbers it writes. -/

namespace Sys2Proof.Machine

/-! ### Patch units -/

/-- With no patch unit at work on a core, none is found in any mode but OFF. -/
theorem patchUnits_of_unpatched {s : State} {c mode : Nat} (h : s.unpatched c = true) (hm : mode ≠ 0) : s.patchUnits mode c = [] := by
  simp only [State.unpatched, List.all_eq_true, Bool.or_eq_true, beq_iff_eq, bne_iff_ne] at h
  simp only [State.patchUnits, List.filter_eq_nil_iff, Bool.and_eq_true, beq_iff_eq, not_and]
  intro u hu e
  rcases h u hu with h0 | h0
  · exact absurd (e.symm.trans h0) hm
  · exact h0

theorem fixUnit_of_unpatched {s : State} {c : Nat} (h : s.unpatched c = true) : s.fixUnit c = none := by
  unfold State.fixUnit
  split
  · rename_i e; subst e; rw [patchUnits_of_unpatched h (by decide)]; rfl
  · rfl

theorem fetchHits_of_unpatched {s : State} {c : Nat} (h : s.unpatched c = true) : s.fetchHits c = s := by
  have hb : s.breakUnits c = [] := by simp [State.breakUnits, patchUnits_of_unpatched h]
  simp only [State.fetchHits, fixUnit_of_unpatched h, hb]

theorem watchHits_of_unpatched {s : State} {c : Nat} (h : s.unpatched c = true) (a : Nat) (w : Bool) : s.watchHits c a w = s := by
  simp [State.watchHits, State.watchUnits, patchUnits_of_unpatched h]

/-- A core on which no patch unit works may issue any instruction. -/
theorem serves_of_unpatched {s : State} {c : Nat} (h : s.unpatched c = true) (i : Instr) : s.serves c i = true := by
  simp [State.serves, State.fixWord, fixUnit_of_unpatched h]

/-- What may issue is on a core on which no patch unit works. -/
theorem unpatched_of_mayIssue {s : State} {c : Nat} {p : Places} (h : s.mayIssue c p = true) : s.unpatched c = true := by
  simp only [State.mayIssue, Bool.and_eq_true] at h
  exact h.1.2

/-- A command of a core on which no patch unit works runs its instruction. -/
theorem duskCommand_of_unpatched {s : State} {c : Nat} {i : Instr} {ok : Bool} {f : State → State} (h : s.unpatched c = true) :
    duskCommand c i ok f s = command ok f s := by
  simp [duskCommand, command, serves_of_unpatched h]

/-! ### Issue -/

/-- An instruction that may issue, and whose own conditions hold, does its work. -/
theorem issue_of_mayIssue {s : State} {c : Nat} {p : Places} (h : s.mayIssue c p = true) {fault : Core → Option Nat}
    (hf : fault (s.core c) = none) (act : Core → State → State) : s.issue c p fault act = s.issued c (act (s.core c)) := by
  have hu := unpatched_of_mayIssue h
  simp only [State.mayIssue, Bool.and_eq_true, Option.isNone_iff_eq_none] at h
  simp [State.issue, State.issued, h.1.1.1, h.1.1.2, fetchHits_of_unpatched hu, h.2, hf]

/-- An instruction whose place is at fault does nothing but fault. -/
theorem issue_of_placeFault {s : State} {c : Nat} {p : Places} {code : Nat} (hr : s.coreRuns c = true)
    (ha : (s.core c).asks.isEmpty = true) (hu : s.unpatched c = true) (h : (s.core c).placeFault c p = some code)
    (fault : Core → Option Nat) (act : Core → State → State) : s.issue c p fault act = s.coreFault c code := by
  simp [State.issue, hr, ha, fetchHits_of_unpatched hu, h]

/-- An instruction in a good place whose own conditions fail does nothing but fault. -/
theorem issue_of_fault {s : State} {c : Nat} {p : Places} (h : s.mayIssue c p = true) {fault : Core → Option Nat} {code : Nat}
    (hf : fault (s.core c) = some code) (act : Core → State → State) : s.issue c p fault act = s.coreFault c code := by
  have hu := unpatched_of_mayIssue h
  simp only [State.mayIssue, Bool.and_eq_true, Option.isNone_iff_eq_none] at h
  simp [State.issue, h.1.1.1, h.1.1.2, fetchHits_of_unpatched hu, h.2, hf]

/-- A core that does not run issues nothing. -/
theorem issue_of_not_runs {s : State} {c : Nat} (h : s.coreRuns c = false) (p : Places) (fault : Core → Option Nat)
    (act : Core → State → State) : s.issue c p fault act = s := by
  simp [State.issue, h]

/-! ### The record of a core -/

@[simp] theorem onCore_core (s : State) (c : Nat) (u : Core → Core) : (s.onCore c u).core c = u (s.core c) := by
  unfold State.onCore State.core; split <;> rfl

/-- A core's state register is not in its own record. -/
@[simp] theorem onCore_coreRuns (s : State) (c : Nat) (u : Core → Core) (d : Nat) : (s.onCore c u).coreRuns d = s.coreRuns d := by
  simp [State.coreRuns]

@[simp] theorem setReg_core (s : State) (r : Reg) (i v c : Nat) : (s.setReg r i v).core c = s.core c := rfl

@[simp] theorem inc_core (s : State) (r : Reg) (i c : Nat) : (s.inc r i).core c = s.core c := rfl

/-- The 16-bit pattern of a natural number. -/
theorem ofSigned_natCast (w n : Nat) : ofSigned w (n : Int) = n % 2 ^ w := by
  simp only [ofSigned]
  have : ((n : Int) % ((2 ^ w : Nat) : Int)) = ((n % 2 ^ w : Nat) : Int) := by rw [Int.natCast_emod]
  rw [this]; rfl

/-- A pattern lies below 2^w. -/
theorem ofSigned_lt (w : Nat) (z : Int) : ofSigned w z < 2 ^ w := by
  have h : (0 : Int) < ((2 ^ w : Nat) : Int) := by exact_mod_cast Nat.pos_of_ne_zero (by simp)
  have h1 := Int.emod_nonneg z (Int.ne_of_gt h)
  have h2 := Int.emod_lt_of_pos z h
  simp only [ofSigned]
  omega

end Sys2Proof.Machine
end

