-- ==== Sys2Proof/Laws/Line.lean ====
section
/-! SUPPORT. What the block's own clock leaves alone while no command waits: the fabric's logic and the lines change none of the state of the cores,
and only their own registers. -/

namespace Sys2Proof.Machine

variable (s : State)

/-- The registers that a line counts in. -/
def wireRefs : List Nat := raiseRefs ++ [R.lane_HEADER_ERRORS.ref, R.lane_FEC_CORRECTED.ref]

/-! ### Blocks and words -/

@[simp] theorem sendWord_regs (l w : Nat) : (s.sendWord l w).regs = s.regs := rfl
@[simp] theorem sendWord_dusk (l w : Nat) : (s.sendWord l w).dusk = s.dusk := rfl

@[simp] theorem sendBlock_regs (l : Nat) (b : Bool) (x : Nat × Nat) : (s.sendBlock l b x).regs = s.regs := by
  unfold State.sendBlock; split <;> rfl
@[simp] theorem sendBlock_dusk (l : Nat) (b : Bool) (x : Nat × Nat) : (s.sendBlock l b x).dusk = s.dusk := by
  unfold State.sendBlock; split <;> rfl

@[simp] theorem sendStream_regs (k i : Nat) : (s.sendStream k i).regs = s.regs := by
  unfold State.sendStream; dsimp only; split <;> exact sendBlock_regs _ _ _ _
@[simp] theorem sendStream_dusk (k i : Nat) : (s.sendStream k i).dusk = s.dusk := by
  unfold State.sendStream; dsimp only; split <;> exact sendBlock_dusk _ _ _ _

@[simp] theorem sendRow_regs (k : Nat) : (s.sendRow k).regs = s.regs := by
  unfold State.sendRow; dsimp only; split
  · rfl
  · split <;> (rw [each_keeps (fun u => u.regs)]; · rfl) <;> (intro u a; simp)
@[simp] theorem sendRow_dusk (k : Nat) : (s.sendRow k).dusk = s.dusk := by
  unfold State.sendRow; dsimp only; split
  · rfl
  · split <;> (rw [each_keeps (fun u => u.dusk)]; · rfl) <;> (intro u a; simp)

@[simp] theorem testWord_regs (l : Nat) : (s.testWord l).regs = s.regs := by
  unfold State.testWord; dsimp only; split <;> rfl
@[simp] theorem testWord_dusk (l : Nat) : (s.testWord l).dusk = s.dusk := by
  unfold State.testWord; dsimp only; split <;> rfl

@[simp] theorem ethWord_regs (l : Nat) : (s.ethWord l).regs = s.regs := by
  unfold State.ethWord; split <;> rfl
@[simp] theorem ethWord_dusk (l : Nat) : (s.ethWord l).dusk = s.dusk := by
  unfold State.ethWord; split <;> rfl

@[simp] theorem tuneFir_regs (l : Nat) : (s.tuneFir l).regs = s.regs := by
  unfold State.tuneFir; dsimp only; split <;> rfl
@[simp] theorem tuneFir_dusk (l : Nat) : (s.tuneFir l).dusk = s.dusk := by
  unfold State.tuneFir; dsimp only; split <;> rfl

/-! ### Counts of a line -/

theorem lineError_reg {r : Reg} (h : r.ref ∉ wireRefs) (l j : Nat) : (s.lineError l).reg r j = s.reg r j := by
  have e : r.ref ≠ R.lane_HEADER_ERRORS.ref := fun e => h (by rw [e]; decide)
  unfold State.lineError; split
  · exact reg_inc_of_ref s e l j
  · rfl
@[simp] theorem lineError_dusk (l : Nat) : (s.lineError l).dusk = s.dusk := by
  unfold State.lineError; split <;> rfl

theorem fecWord_reg {r : Reg} (h : r.ref ∉ wireRefs) (l j : Nat) (b : Bool) : (s.fecWord l b).reg r j = s.reg r j := by
  have e : r.ref ≠ R.lane_FEC_CORRECTED.ref := fun e => h (by rw [e]; decide)
  unfold State.fecWord; split
  · rfl
  · split
    · exact reg_inc_of_ref s e l j
    · dsimp only
      split
      · rfl
      · exact (raise_reg _ (fun e => h (List.mem_append_left _ e)) _ _ j).trans rfl
@[simp] theorem fecWord_dusk (l : Nat) (b : Bool) : (s.fecWord l b).dusk = s.dusk := by
  unfold State.fecWord; split
  · rfl
  · split
    · rfl
    · dsimp only
      split
      · rfl
      · exact (raise_dusk _ _ _).trans rfl

/-- What a line changes of the registers, said once. -/
theorem wireTick_reg {r : Reg} (h : r.ref ∉ wireRefs) (j : Nat) : s.wireTick.reg r j = s.reg r j := by
  have k : ∀ {t : State}, t.regs = s.took.regs → t.reg r j = s.reg r j := fun e => by
    unfold State.reg; rw [e]; rfl
  unfold State.wireTick; dsimp only
  split
  · exact lineError_reg s.took h _ j
  · exact fecWord_reg s.took h _ j true
  · exact fecWord_reg s.took h _ j false
  · exact k (testWord_regs s.took _)
  · exact k (tuneFir_regs s.took _)
  · exact k (ethWord_regs s.took _)
  · exact k (sendRow_regs s.took _)

@[simp] theorem wireTick_dusk : s.wireTick.dusk = s.dusk := by
  unfold State.wireTick; dsimp only
  split
  · exact lineError_dusk s.took _
  · exact fecWord_dusk s.took _ true
  · exact fecWord_dusk s.took _ false
  · exact testWord_dusk s.took _
  · exact tuneFir_dusk s.took _
  · exact ethWord_dusk s.took _
  · exact sendRow_dusk s.took _

/-! ### The fabric's logic -/

@[simp] theorem pinTick_regs (n p : Nat) : (s.pinTick n p).regs = s.regs := by
  unfold State.pinTick; dsimp only
  repeat' split
  all_goals rfl
@[simp] theorem pinTick_dusk (n p : Nat) : (s.pinTick n p).dusk = s.dusk := by
  unfold State.pinTick; dsimp only
  repeat' split
  all_goals rfl

@[simp] theorem logicTick_regs : s.logicTick.regs = s.regs := by
  unfold State.logicTick; dsimp only; split
  · rfl
  · split
    · unfold State.clusterTick; dsimp only; split <;> rfl
    · unfold State.sliceTick; dsimp only; split <;> rfl
    · exact (pinTick_regs _ _ _).trans rfl
@[simp] theorem logicTick_dusk : s.logicTick.dusk = s.dusk := by
  unfold State.logicTick; dsimp only; split
  · rfl
  · split
    · unfold State.clusterTick; dsimp only; split <;> rfl
    · unfold State.sliceTick; dsimp only; split <;> rfl
    · exact (pinTick_dusk _ _ _).trans rfl

/-- The cores see nothing of the block's own clock. -/
theorem ownClock_dusk : s.logicTick.wireTick.dusk = s.dusk := (wireTick_dusk _).trans (logicTick_dusk s)
theorem ownClock_coreRuns (c : Nat) : s.logicTick.wireTick.coreRuns c = s.coreRuns c := by
  unfold State.coreRuns
  rw [wireTick_reg _ (by decide), State.reg, logicTick_regs]; rfl

theorem ownClock_unpatched (c : Nat) : s.logicTick.wireTick.unpatched c = s.unpatched c := by
  have h {r : Reg} (n : r.ref ∉ wireRefs) (u : Nat) : s.logicTick.wireTick.reg r u = s.reg r u := by
    rw [wireTick_reg _ n, State.reg, logicTick_regs]; rfl
  unfold State.unpatched
  rw [funext (h (r := R.pu_MODE) (by decide)), funext (h (r := R.pu_CORE) (by decide))]

end Sys2Proof.Machine
end

