-- ==== Sys2Proof/Laws/Memory.lean ====
section
/-! SUPPORT. Every operation that stores to an addressed memory keeps its canonical form (frame store, scratchpad, block memories, the
RAMs of the Dusk cores), and reset has it. -/

namespace Sys2Proof.Machine

variable {α : Type} [DecidableEq α]

theorem twf_filter (d : Nat → α) (q : Nat × α → Bool) {t : List (Nat × α)} (h : twf d t = true) : twf d (t.filter q) = true :=
  twfFrom_filter d q h

/-- A table keeps its form under another reading of unlisted keys, where its entries are kept apart from that too. -/
theorem twfFrom_change (d e : Nat → α) (q : Nat × α → Bool) {lo : Nat} {t : List (Nat × α)} (h : twfFrom d lo t = true)
    (hq : ∀ p ∈ t, q p = true → p.2 ≠ d p.1 → p.2 ≠ e p.1) : twfFrom e lo (t.filter q) = true := by
  induction t generalizing lo with
  | nil => rfl
  | cons p t ih =>
    simp only [twfFrom, Bool.and_eq_true, decide_eq_true_eq] at h
    have ht := fun x hx => hq x (List.mem_cons_of_mem p hx)
    by_cases hp : q p = true
    · simp only [List.filter_cons, hp, if_true, twfFrom, Bool.and_eq_true, decide_eq_true_eq]
      exact ⟨⟨h.1.1, hq p List.mem_cons_self hp h.1.2⟩, ih h.2 ht⟩
    · simp only [List.filter_cons, hp]
      exact ih (twfFrom_mono d (by omega) h.2) ht

/-- The table a loaded program becomes: words in address order, none of them zero. -/
theorem twf_numbered (f : Nat → Nat) (n : Nat) :
    twf (fun _ => 0) (((List.range n).map fun i => (i, f i)).filter fun e => e.2 != 0) = true := by
  suffices ∀ k lo, lo ≤ k → twfFrom (fun _ => 0) lo (((List.range' k n).map fun i => (i, f i)).filter fun e => e.2 != 0) = true by
    rw [List.range_eq_range']; exact this 0 0 (Nat.le_refl 0)
  induction n with
  | zero => intros; rfl
  | succ n ih =>
    intro k lo hk
    by_cases h : f k = 0
    · simpa [List.range'_succ, h] using ih (k + 1) lo (by omega)
    · simpa [List.range'_succ, h, twfFrom, hk] using ih (k + 1) (k + 1) (Nat.le_refl _)

/-- Two states with the same addressed memories are canonical together. -/
theorem memoryWf_of_eq {s u : State} (hs : u.store = s.store) (hp : u.scratch = s.scratch) (hf : u.fabric = s.fabric) (hd : u.dusk = s.dusk) :
    u.memoryWf = s.memoryWf := by unfold State.memoryWf; rw [hs, hp, hf, hd]

theorem memoryWf_reset : State.reset.memoryWf = true := by decide

theorem memoryWf_putCodeWord {s : State} (h : s.memoryWf = true) (a : Nat) (c : CodeWord) : (s.putCodeWord a c).memoryWf = true := by
  simp only [State.memoryWf, State.putCodeWord, Bool.and_eq_true] at h ⊢
  simpa [h] using twf_tput _ (a / 32) (some c) h.1.1.1.1.1.1

theorem memoryWf_putScratch {s : State} (h : s.memoryWf = true) (w : Nat) (c : CodeWord) : (s.putScratch w c).memoryWf = true := by
  simp only [State.memoryWf, State.putScratch, Bool.and_eq_true] at h ⊢
  simpa [h] using twf_tput _ w _ h.1.1.1.1.1.2

theorem memoryWf_clearScratch {s : State} (h : s.memoryWf = true) : s.clearScratch.memoryWf = true := by
  simp only [State.memoryWf, State.clearScratch, Bool.and_eq_true] at h ⊢
  exact ⟨⟨⟨⟨⟨⟨h.1.1.1.1.1.1, rfl⟩, h.1.1.1.1.2⟩, h.1.1.1.2⟩, h.1.1.2⟩, h.1.2⟩, h.2⟩

theorem memoryWf_putBram {s : State} (h : s.memoryWf = true) (m k v : Nat) : (s.putBram m k v).memoryWf = true := by
  simp only [State.memoryWf, State.putBram, Bool.and_eq_true] at h ⊢
  simpa [h] using twf_tput _ (m * 65536 + k) v h.1.1.1.1.2

/-- A region or quadrant that loses its contents lists none of its block memories. -/
theorem memoryWf_dropBram {s : State} (h : s.memoryWf = true) (q : Nat × Nat → Bool) :
    State.memoryWf { s with fabric := { s.fabric with bram := s.fabric.bram.filter q } } = true := by
  simp only [State.memoryWf, Bool.and_eq_true] at h ⊢
  simpa [h] using twf_filter _ q h.1.1.1.1.2

/-- The wipe of the secure region (R312). -/
theorem memoryWf_wipe {s : State} (h : s.memoryWf = true) (q : Nat × Option CodeWord → Bool) (w : Bool) :
    State.memoryWf { s with scratch := { s.scratch with words := s.scratch.words.filter q, wiping := w } } = true := by
  simp only [State.memoryWf, Bool.and_eq_true] at h ⊢
  simpa [h] using twf_filter _ q h.1.1.1.1.1.2

/-- A core that keeps its RAMs keeps their form. -/
theorem memoryWf_onCore {s : State} (h : s.memoryWf = true) (c : Nat) (f : Core → Core)
    (hp : ∀ k : Core, twf (fun _ => 0) k.prog = true → twf (fun _ => 0) (f k).prog = true)
    (hd : ∀ k : Core, twf (fun _ => 0) k.data = true → twf (fun _ => 0) (f k).data = true) : (s.onCore c f).memoryWf = true := by
  simp only [State.memoryWf, Bool.and_eq_true] at h
  unfold State.onCore
  split <;> simp only [State.memoryWf, Bool.and_eq_true] <;> simp [h, hp, hd]

theorem memoryWf_storeData {s : State} (h : s.memoryWf = true) (c a v : Nat) (hx : external c a = false) :
    (s.storeData c a v).memoryWf = true := by
  unfold State.storeData
  rw [if_neg (by simp [hx])]
  exact memoryWf_onCore h c _ (fun _ hk => hk) (fun _ hk => twf_tput _ _ _ hk)

theorem memoryWf_loseStack {s : State} (h : s.memoryWf = true) (k : Nat) : (s.loseStack k).memoryWf = true := by
  simp only [State.memoryWf, State.loseStack, Bool.and_eq_true] at h ⊢
  refine ⟨⟨⟨⟨⟨⟨twfFrom_change _ _ _ h.1.1.1.1.1.1 ?_, h.1.1.1.1.1.2⟩, h.1.1.1.1.2⟩, h.1.1.1.2⟩, h.1.1.2⟩, h.1.2⟩, h.2⟩
  intro p _ hq _ e
  simp [← e] at hq

theorem memoryWf_fillWords {s : State} (h : s.memoryWf = true) (base len : Nat) : (s.fillWords base len).memoryWf = true := by
  simp only [State.memoryWf, State.fillWords, Bool.and_eq_true] at h ⊢
  refine ⟨⟨⟨⟨⟨⟨twfFrom_change _ _ _ h.1.1.1.1.1.1 ?_, h.1.1.1.1.1.2⟩, h.1.1.1.1.2⟩, h.1.1.1.2⟩, h.1.1.2⟩, h.1.2⟩, h.2⟩
  intro p _ hq hne e
  cases hin : (decide (base ≤ p.1 * 32) && decide (p.1 * 32 < base + len) && s.stacksOn.testBit (bits (p.1 * 32) 7 6) &&
      !s.pageRetired (p.1 * 32 / 2 ^ 17)) with
  | false =>
    apply hne
    rw [e]
    unfold storeDefault
    simp only [List.any_cons]
    have : (decide (base ≤ p.1 * 32) && decide (p.1 * 32 < base + len) && s.stacksOn.testBit (bits (p.1 * 32) 7 6) &&
        !pageRetiredBy s.store.retired s.maps (p.1 * 32 / 2 ^ 17)) = false := hin
    simp only [this, Bool.false_or]
  | true =>
    have hz : p.2 ≠ some 0 := by
      have h2 := hq
      simp only [hin, Bool.not_true, Bool.false_or, Bool.and_eq_true, bne_iff_ne] at h2
      exact h2.2
    apply hz
    rw [e]
    unfold storeDefault
    simp only [List.any_cons]
    have : (decide (base ≤ p.1 * 32) && decide (p.1 * 32 < base + len) && s.stacksOn.testBit (bits (p.1 * 32) 7 6) &&
        !pageRetiredBy s.store.retired s.maps (p.1 * 32 / 2 ^ 17)) = true := hin
    exact if_pos (by rw [this, Bool.true_or])

end Sys2Proof.Machine
end

