-- ==== Sys2Proof/Laws/Scheduler.lean ====
section
/-! SUPPORT. What the scheduler may touch while it runs to rest: the operations, versions and delay lists DL1 and DL2, and its own counters;
everything else it leaves alone. -/

namespace Sys2Proof.Machine

/-- The registers the scheduler writes of itself. -/
def schedRefs : List Nat :=
  [R.sched_COMMITS.ref, R.sched_SUBSTITUTIONS.ref, R.sched_DEADLINE_MISSES.ref, R.sched_IN_FLIGHT_PEAK.ref, R.node_META.ref,
   R.node_LAST_COMMITTED.ref, R.node_SUBSTITUTIONS.ref, R.node_DEADLINE_MISSES.ref, R.opr_PAUSED.ref, R.flow_STATE.ref]

/-- An observation of the state that the scheduler's steps do not reach. -/
structure SchedKeeps {β : Type} (g : State → β) : Prop where
  sched : ∀ (s : State) (x : Sched), x.dl0 = s.sched.dl0 → x.dl3 = s.sched.dl3 → x.overflow = s.sched.overflow →
    x.tableOnly = s.sched.tableOnly → x.graphs = s.sched.graphs → x.handles = s.sched.handles → g { s with sched := x } = g s
  adm : ∀ (s : State) (l : List Nat), g { s with adm := { s.adm with breached := l } } = g s
  reg : ∀ (s : State) (r : Reg) (i v : Nat), r.ref ∈ schedRefs → g (s.setReg r i v) = g s
  raise : ∀ (s : State) (c d : Nat), g (s.raise c d) = g s

namespace SchedKeeps

variable {β : Type} {g : State → β} (k : SchedKeeps g) (s : State)
include k

theorem inc {r : Reg} (h : r.ref ∈ schedRefs) (i : Nat) : g (s.inc r i) = g s := k.reg s r i _ h

theorem peak {r : Reg} (h : r.ref ∈ schedRefs) (i n : Nat) : g (s.peak r i n) = g s := by
  unfold State.peak; split
  · exact k.reg s r i _ h
  · rfl

theorem onOp (a b : Nat) (u : Oper → Oper) : g (s.onOp a b u) = g s := k.sched s _ rfl rfl rfl rfl rfl rfl

theorem dropOp (a b : Nat) : g (s.dropOp a b) = g s := k.sched s _ rfl rfl rfl rfl rfl rfl

theorem mapVersions (u : Version → Version) : g (s.mapVersions u) = g s := k.sched s _ rfl rfl rfl rfl rfl rfl

theorem onVersion (a b : Nat) (u : Version → Version) : g (s.onVersion a b u) = g s := k.mapVersions s _

theorem freeVersions : g s.freeVersions = g s := by
  simp only [State.freeVersions, k.mapVersions]

theorem breach (c d : Nat) (p : Nat → Bool) : g (s.breach c d p) = g s := by
  simp only [State.breach]; rw [k.adm, k.raise]

theorem clearStale (i : Nat) : g (s.clearStale i) = g s := by
  simp only [State.clearStale]
  split
  · rw [k.raise]; exact k.sched s _ rfl rfl rfl rfl rfl rfl
  · exact k.sched s _ rfl rfl rfl rfl rfl rfl

theorem refreshStale (h f : Nat) : g (s.refreshStale h f) = g s := by
  simp only [State.refreshStale]
  split
  · split
    · split
      · rfl
      · split
        · exact k.clearStale s _
        · exact k.sched s _ rfl rfl rfl rfl rfl rfl
    · rfl
  · rfl

theorem commitVersion (h f : Nat) : g (s.commitVersion h f) = g s := by
  simp only [State.commitVersion]
  have h0 : ∀ (u : State) (l : List (Nat × Nat)), g u = g s → g (State.inc { u with sched := { u.sched with commits := l } } R.sched_COMMITS) = g s :=
    fun u l h => (k.inc (r := R.sched_COMMITS) _ (by decide) 0).trans ((k.sched u { u.sched with commits := l } rfl rfl rfl rfl rfl rfl).trans h)
  rw [each_keeps g]
  · rw [k.refreshStale]; exact h0 _ _ (k.onVersion s _ _ _)
  · intro u a
    split
    · refine each_keeps g _ (fun w v => ?_) _ _
      split
      · split
        · split
          · rw [k.reg _ R.node_LAST_COMMITTED _ _ (by decide), k.dropOp, k.reg _ R.node_META _ _ (by decide)]
          · rw [k.reg _ R.node_META _ _ (by decide)]
        · rfl
      · rfl
    · rfl

theorem substitute (id f t : Nat) (b : Bool) : g (s.substitute id f t b) = g s := by
  simp only [State.substitute]
  split
  · rfl
  · rw [k.raise, k.inc (r := R.node_SUBSTITUTIONS) _ (by decide), k.inc (r := R.sched_SUBSTITUTIONS) _ (by decide), k.commitVersion, k.onVersion]

theorem settleVersion (v : Version) : g (s.settleVersion v) = g s := by
  simp only [State.settleVersion]
  split
  · rw [k.substitute, k.onVersion]
  · exact k.commitVersion s _ _

theorem commitOp (o : Oper) : g (s.commitOp o) = g s := by
  simp only [State.commitOp]
  rw [k.freeVersions, k.dropOp]
  have h1 : g (s.setReg R.node_LAST_COMMITTED o.node o.frame) = g s := k.reg _ _ _ _ (by decide)
  have h2 : ∀ u : State, g (((u.inc R.sched_DEADLINE_MISSES).inc R.node_DEADLINE_MISSES o.node).breachNode 0x5011 o.node o.frame) = g u := fun u => by
    simp only [State.breachNode]
    rw [k.breach, k.inc (r := R.node_DEADLINE_MISSES) _ (by decide), k.inc (r := R.sched_DEADLINE_MISSES) _ (by decide)]
  split
  · split
    · exact (h2 _).trans h1
    · exact h1
  · rw [k.onVersion]
    split
    · exact (h2 _).trans h1
    · exact h1

theorem takeEntry (id f : Nat) (b : Bool) : g (s.takeEntry id f b) = g s := by
  have hb : ∀ u : State, g { u with sched := { u.sched with beyondReserved := true } } = g u :=
    fun u => k.sched u { u.sched with beyondReserved := true } rfl rfl rfl rfl rfl rfl
  have he : ∀ (u : State) (l : List (Nat × Nat)), g { u with sched := { u.sched with entryGen := l } } = g u :=
    fun u l => k.sched u { u.sched with entryGen := l } rfl rfl rfl rfl rfl rfl
  have h : ∀ (u : State) (n : Nat), g (u.peak R.sched_IN_FLIGHT_PEAK 0 n) = g u := fun u n =>
    k.peak (r := R.sched_IN_FLIGHT_PEAK) u (by decide) 0 n
  unfold State.takeEntry
  split
  · rfl
  · dsimp only
    split
    · unfold State.breachLists
      rw [k.breach, hb, h, k.onOp, he]
    · rw [h, k.onOp, he]

theorem substituteAbsent (o : Oper) (n : Nat) : g (s.substituteAbsent o n) = g s := by
  simp only [State.substituteAbsent]
  rw [k.onOp]
  split
  · rfl
  · rw [k.raise]; exact k.sched s _ rfl rfl rfl rfl rfl rfl

theorem toReady (o : Oper) (b : Bool) : g (s.toReady o b) = g s := by
  have hf : ∀ u : State, g u = g s → g { u with sched := { u.sched with full := o.operator :: u.sched.full } } = g s :=
    fun u h => (k.sched u { u.sched with full := o.operator :: u.sched.full } rfl rfl rfl rfl rfl rfl).trans h
  simp only [State.toReady]
  split
  · exact k.onOp s _ _ _
  · split
    · split
      · rw [k.onOp, k.takeEntry, k.onOp]
      · exact k.onOp s _ _ _
    · split
      · exact k.substituteAbsent s _ _
      · split
        · split
          · exact hf _ (k.onOp s _ _ _)
          · exact k.onOp s _ _ _
        · split
          · simp only [State.breachNode]; rw [k.breach, k.onOp]
          · exact k.onOp s _ _ _

theorem leaveStaged (o : Oper) : g (s.leaveStaged o) = g s := by
  simp only [State.leaveStaged]
  split
  · split
    · split
      · rw [k.onOp]; exact k.sched s _ rfl rfl rfl rfl rfl rfl
      · simp only [State.breachLists]; rw [k.toReady, k.breach]
    · split
      · rw [k.onOp]; exact k.sched s _ rfl rfl rfl rfl rfl rfl
      · exact k.sched s _ rfl rfl rfl rfl rfl rfl
  · exact k.toReady s _ _

theorem schedStep {t : State} (h : s.schedStep = some t) : g t = g s := by
  simp only [State.schedStep] at h
  split at h
  · cases h; rw [k.freeVersions, k.settleVersion]
  · split at h
    · cases h; exact k.commitOp s _
    · split at h
      · cases h; exact k.toReady s _ _
      · split at h
        · cases h; exact k.leaveStaged s _
        · split at h
          · cases h; exact k.toReady s _ _
          · cases h

theorem schedRun (n : Nat) : g (State.schedRun n s) = g s := by
  induction n generalizing s with
  | zero => rfl
  | succ n ih =>
    simp only [State.schedRun]
    split
    · rfl
    · next t h => rw [ih, k.schedStep s h]

theorem refreshFlows : g s.refreshFlows = g s := by
  unfold State.refreshFlows
  refine each_keeps g _ (fun u a => ?_) _ _
  split
  · refine each_keeps g _ (fun w v => ?_) _ _
    split
    · exact k.reg _ R.flow_STATE _ _ (by decide)
    · rfl
  · rfl

theorem refreshPauses : g s.refreshPauses = g s := by
  simp only [State.refreshPauses]
  split
  · rfl
  · rw [k.refreshFlows, each_keeps g]
    · exact k.sched s _ rfl rfl rfl rfl rfl rfl
    · exact fun u i => k.reg _ R.opr_PAUSED _ _ (by decide)

theorem noteWaiting : g s.noteWaiting = g s := k.sched s _ rfl rfl rfl rfl rfl rfl

/-- What the scheduler does not reach is as it was when it has run to rest. -/
theorem schedule : g s.schedule = g s := by
  unfold State.schedule; rw [k.refreshPauses, k.noteWaiting, k.schedRun]

end SchedKeeps

/-- A register the scheduler does not write. -/
theorem schedKeeps_reg {r : Reg} (h : r.ref ∉ raiseRefs) (h2 : r.ref ∉ schedRefs) (j : Nat) : SchedKeeps fun s => s.reg r j where
  sched _ _ _ _ _ _ _ _ := rfl
  adm _ _ := rfl
  reg s q i v hq := reg_setReg_of_ref s (fun e => h2 (by rw [e]; exact hq)) i j v
  raise s c d := raise_reg s h c d j

theorem schedule_reg (s : State) {r : Reg} (h : r.ref ∉ raiseRefs) (h2 : r.ref ∉ schedRefs) (j : Nat) : s.schedule.reg r j = s.reg r j :=
  (schedKeeps_reg h h2 j).schedule s

@[simp] theorem schedule_now (s : State) : s.schedule.now = s.now :=
  SchedKeeps.schedule (g := State.now) ⟨fun _ _ _ _ _ _ _ _ => rfl, fun _ _ => rfl, fun _ _ _ _ _ => rfl, fun s c d => raise_now s c d⟩ s
@[simp] theorem schedule_mono (s : State) : s.schedule.mono = s.mono :=
  SchedKeeps.schedule (g := State.mono) ⟨fun _ _ _ _ _ _ _ _ => rfl, fun _ _ => rfl, fun _ _ _ _ _ => rfl, fun s c d => raise_mono s c d⟩ s
@[simp] theorem schedule_tb (s : State) : s.schedule.tb = s.tb :=
  SchedKeeps.schedule (g := State.tb) ⟨fun _ _ _ _ _ _ _ _ => rfl, fun _ _ => rfl, fun _ _ _ _ _ => rfl, fun s c d => raise_tb s c d⟩ s
@[simp] theorem schedule_reply (s : State) : s.schedule.reply = s.reply :=
  SchedKeeps.schedule (g := State.reply) ⟨fun _ _ _ _ _ _ _ _ => rfl, fun _ _ => rfl, fun _ _ _ _ _ => rfl, fun s c d => raise_reply s c d⟩ s
@[simp] theorem schedule_engines (s : State) : s.schedule.engines = s.engines :=
  SchedKeeps.schedule (g := State.engines) ⟨fun _ _ _ _ _ _ _ _ => rfl, fun _ _ => rfl, fun _ _ _ _ _ => rfl, fun s c d => raise_engines s c d⟩ s
@[simp] theorem schedule_streams (s : State) : s.schedule.streams = s.streams :=
  SchedKeeps.schedule (g := State.streams) ⟨fun _ _ _ _ _ _ _ _ => rfl, fun _ _ => rfl, fun _ _ _ _ _ => rfl, fun s c d => raise_streams s c d⟩ s
@[simp] theorem schedule_dl0 (s : State) : s.schedule.sched.dl0 = s.sched.dl0 :=
  SchedKeeps.schedule (g := fun s => s.sched.dl0) ⟨fun _ _ h _ _ _ _ _ => h, fun _ _ => rfl, fun _ _ _ _ _ => rfl, fun s c d => by simp⟩ s
@[simp] theorem schedule_dl3 (s : State) : s.schedule.sched.dl3 = s.sched.dl3 :=
  SchedKeeps.schedule (g := fun s => s.sched.dl3) ⟨fun _ _ _ h _ _ _ _ => h, fun _ _ => rfl, fun _ _ _ _ _ => rfl, fun s c d => by simp⟩ s
@[simp] theorem schedule_overflow (s : State) : s.schedule.sched.overflow = s.sched.overflow :=
  SchedKeeps.schedule (g := fun s => s.sched.overflow) ⟨fun _ _ _ _ h _ _ _ => h, fun _ _ => rfl, fun _ _ _ _ _ => rfl, fun s c d => by simp⟩ s
@[simp] theorem schedule_tableOnly (s : State) : s.schedule.sched.tableOnly = s.sched.tableOnly :=
  SchedKeeps.schedule (g := fun s => s.sched.tableOnly) ⟨fun _ _ _ _ _ h _ _ => h, fun _ _ => rfl, fun _ _ _ _ _ => rfl, fun s c d => by simp⟩ s

/-! ### Commits of live sources and cut-offs -/

@[simp] theorem dropInFrame_sched (s : State) (f n : Nat) : (s.dropInFrame f n).sched = s.sched := rfl

@[simp] theorem flowSubstituted_sched (s : State) (f n : Nat) : (s.flowSubstituted f n).sched = s.sched := by
  unfold State.flowSubstituted
  split
  · dsimp only
    split <;> simp [State.add]
  · rfl

@[simp] theorem flowCommitted_sched (s : State) (f n : Nat) : (s.flowCommitted f n).sched = s.sched := by
  unfold State.flowCommitted
  split
  · simp [State.inc, State.add]
  · rfl

/-- A decided substitution leaves every cut-off where it is. -/
theorem decideSubst_lists (s : State) (id f stamp : Nat) :
    (s.decideSubst id f stamp).sched.dl0 = s.sched.dl0 ∧ (s.decideSubst id f stamp).sched.overflow = s.sched.overflow ∧
      (s.decideSubst id f stamp).sched.tableOnly = s.sched.tableOnly := by
  unfold State.decideSubst
  split
  · simp
  · simp [State.onVersion, State.mapVersions]

/-- A live commit takes its cut-off out of whichever list holds it. -/
theorem commitSource_lists (s : State) (id h flow f stamp : Nat) :
    (s.commitSource id h flow f stamp).sched.dl0 = dlRemove id f s.sched.dl0 ∧
      (s.commitSource id h flow f stamp).sched.overflow = dlRemove id f s.sched.overflow ∧
      (s.commitSource id h flow f stamp).sched.tableOnly = dlRemove id f s.sched.tableOnly := by
  simp [State.commitSource, State.removeCutoff, State.onVersion, State.mapVersions]

@[simp] theorem dlRemove_dlRemove (id f : Nat) (l : List DlEntry) : dlRemove id f (dlRemove id f l) = dlRemove id f l := by
  simp [dlRemove]

/-- A cut-off that is processed leaves whichever list holds it, whatever becomes of its version. -/
theorem processCutoff_lists (s : State) (x : DlEntry) :
    (s.processCutoff x).sched.dl0 = dlRemove x.node x.frame s.sched.dl0 ∧
      (s.processCutoff x).sched.overflow = dlRemove x.node x.frame s.sched.overflow ∧
      (s.processCutoff x).sched.tableOnly = dlRemove x.node x.frame s.sched.tableOnly := by
  unfold State.processCutoff
  split
  · simp [State.removeCutoff]
  · dsimp only
    split
    · simp [State.removeCutoff]
    · split
      · simp [State.removeCutoff]
      · split
        · simp only [commitSource_lists]
          simp [State.removeCutoff]
        · split
          · simp [State.removeCutoff]
          · simp only [schedule_dl0, schedule_overflow, schedule_tableOnly, flowSubstituted_sched, decideSubst_lists]
            simp [State.removeCutoff]

end Sys2Proof.Machine
end

