-- ==== Sys2Proof/Machine/TimePort.lean ====
section
/-! DEFINITION. The signals of the time port that every clock region receives (R329), as they stand at the last edge of TB_CLK. The pulses of MARK
and TICK are set by FRAME_MARK and SCHEDULER_TICK (State.pulse). -/

namespace Sys2Proof.Machine

/-- TB_SEC and TB_NSEC: the TIME80 value at the current edge. -/
def State.tbSec (s : State) : Nat := s.tbClk / 1000000000 % 2 ^ 48
def State.tbNsec (s : State) : Nat := s.tbClk % 1000000000

/-- MARK and TICK, in the cycle of their edge only. -/
def State.timePulse (s : State) : Option TimePulse := if s.tbRun then s.fabric.time.find? fun p => p.edge == s.tbClk else none
def State.markPulse (s : State) : Nat := s.timePulse.elim 0 TimePulse.marks
def State.tickPulse (s : State) : Bool := s.timePulse.elim false TimePulse.tick

/-- SAMPLE: a sample tick (R50) falls on the current edge, or after the one before. -/
def State.samplePulse (s : State) : Bool :=
  s.tbRun && decide (sampleTick (sampleFrom (s.tbClk - 3)) ≤ s.tbClk)

end Sys2Proof.Machine
end

