-- ==== Sys2Proof/Tests/Slice0.lean ====
section
/-! SUPPORT. Tests: ill-formed commands refused, instruction words written out from Table 15.3, worked examples of the manual, and for
every statement with hypotheses a witness that meets them. -/

namespace Sys2Proof.Machine.Tests

section
set_option Elab.async false
set_option maxRecDepth 4000
set_option linter.unusedVariables false

/-- A request of class HOST outside any session. -/
def host : Who := ⟨.host, none⟩

/-- A device that runs: Daybreak done, in ACTIVE. -/
def up : State := { State.reset with phase := .run, tbRun := true, boot := { State.reset.boot with done := [10, 9, 8, 7, 6, 5, 4, 3, 2, 1] } }

/-- A state with some registers set: register, instance and value. -/
def withRegs (s : State) (l : List (Reg × Nat × Nat)) : State := l.foldl (fun s p => s.setReg p.1 p.2.1 p.2.2) s

/-- The image of a graph of one best-effort SINK node of flow 7 that reads the external buffer with handle 0x10000. -/
def sinkImage : List Byte :=
  let body := leBytes 32 (0x10000 ||| 2 <<< 32 ||| 1 <<< 37 ||| 1 <<< 47 ||| 96 <<< 96) ++
    leBytes 32 (2 <<< 16 ||| 7 <<< 36 ||| 1 <<< 185) ++ leBytes 16 0
  let head := leBytes 4 0x6B677266 ++ leBytes 2 1 ++ leBytes 2 1 ++ leBytes 4 1 ++ leBytes 2 1 ++ leBytes 1 0 ++ leBytes 1 1 ++
    leBytes 4 64 ++ leBytes 4 96 ++ leBytes 4 128 ++ leBytes 4 0 ++ leBytes 4 0 ++ leBytes 4 0 ++ leBytes 4 0 ++ leBytes 4 144 ++ leBytes 12 0
  head ++ leBytes 4 (crc32 (head ++ [0, 0, 0, 0] ++ body)) ++ body

/-- A graph of one SOURCE node of flow 7 whose buffer has the handle 0x10000. -/
def sourceGraph : Graph :=
  { bufs := [⟨0x10000, 2, 1, true, 1, false, 0, 0, 0, 96, 0, 0⟩], nodes := [⟨0, 1, 0, 0, 7, 1000, 0, 0, 0, 0, 0, 0, 1, 0, 0⟩],
    edges := [⟨0, true, 0, 0, 0, 0, 0, 0, 0, 0⟩] }

/-- A guaranteed graph of no nodes, with its cost table header. -/
def emptyGraph : Graph := { cost := leBytes 2 1 ++ leBytes 30 0 }

/-- A graph of one SINK node of flow 7 that reads a picture of `w` by `h` pixels of format 4 with the handle 0x10000. -/
def sinkGraph (w h : Nat) : Graph :=
  { bufs := [⟨0x10000, 2, 0, false, 1, true, w, h, 4, 96, 32, 0⟩], nodes := [⟨0, 2, 0, 0, 7, 0, 0, 0, 0, 0, 0, 1, 0, 0, 0⟩],
    edges := [⟨0, false, 0, 0, 0, 0, 0, 0, 0, 0⟩] }

/-- A datagram to port 20000 with SSRC 9 and no payload. -/
def datagram : Datagram := ⟨1, 2, 20000, 2, 96, 9, 3, 0, 90000, true, false, false, [], []⟩

/-- A graph of one node that reads the buffer with handle 0x10000 and writes the one with handle 0x10001; a picture has 2 by 1 pixels of format 4. -/
def opGraph (opclass operator : Nat) : Graph :=
  { bufs := [⟨0x10000, 2, 0, false, 1, true, 2, 1, 4, 32, 32, 0⟩, ⟨0x10001, 2, 0, false, 1, false, 2, 1, 4, 32, 32, 0⟩],
    nodes := [⟨0, 0, opclass, operator, 0, 0, 0, 5, 0, 0, 0, 1, 1, 0, 3⟩], edges := [⟨0, false, 0, 0, 0, 0, 0, 0, 0, 0⟩, ⟨1, true, 0, 0, 0, 0, 0, 0, 0, 0⟩] }

/-- A device with that graph in slot 0, both its versions of frame 2 in storage, and words of a parameter block in the scratchpad. -/
def opState (opclass operator : Nat) (block : List Nat) : State :=
  (block.zipIdx.foldl (fun (s : State) p => s.putScratch (262144 + p.2) (encodeWord p.1)) { up with
    store := { up.store with filled := [⟨0, 65536, 15, [], []⟩] },
    sched := { up.sched with graphs := [(0, opGraph opclass operator)], handles := [(0, ⟨0, 32, 2, 32, 0⟩), (1, ⟨4096, 32, 2, 32, 0⟩)],
                             versions := [⟨0x10000, 2, .committed, some 0, .own, 0, none, false, 0, 0⟩, ⟨0x10001, 2, .opened, some 0, .own, 1, none, false, 0, 0⟩] } }).setReg R.slot_STATE 0 2

/-- The header of a conversion of a 2 by 1 picture of format 4 to the same. -/
def convHeader : List Nat :=
  [1 ||| 4 <<< 16 ||| 4 <<< 22 ||| 32 <<< 112 ||| 32 <<< 144 ||| 2 <<< 176 ||| 1 <<< 189 ||| 2 <<< 202 ||| 1 <<< 215 ||| 3 <<< 228,
   2 <<< 26 ||| 1 <<< 39 ||| 2 <<< 90 ||| 1 <<< 103, 0]

/-- Its operation prefetched on raster engine 0, and the same running there. -/
def convPrefetched : State :=
  let s := opState 0 0 convHeader
  { s with sched := { s.sched with ops := [⟨0, 2, .prefetched, true, 0, 100, 0, 9, 0, 0, false⟩] } }
def convRunning : State := convPrefetched.setRun 0 (some { node := 0, frame := 2, tag := 9, start := 0 })
def convRun : RunOp := { node := 0, frame := 2, tag := 9, start := 0 }
def convU : State := (((convRunning.advanceTo 5).silent.add R.eng_TABLE_CORRECTED 0 1).readParams 0 0 3).1
def convL : List Byte := (((convRunning.advanceTo 5).silent.add R.eng_TABLE_CORRECTED 0 1).readParams 0 0 3).2.getD []
def convU2 : State := (convU.add R.eng_PIXELS_IN 0 (convParams convL).pixelsIn).add R.eng_PIXELS_OUT 0 ((convParams convL).pixelsOut (convU.outRegion 0))
def convU3 : State × Option ConvTables := convU2.readTables 0 convRun.node (convParams convL) (nth (convU.inAddrs convRun.node convRun.frame) 2 0)
def convRows : ReadRun × InRows :=
  (ReadRun.mk convU3.1 0 false).rows 0 (convParams convL) (convU.inAddrs convRun.node convRun.frame) 0 ((convParams convL).cropH / unitH (convParams convL).inFormat)

/-- A buffer. -/
def someBuf : BufferRec := ⟨0x10000, 2, 1, true, 1, false, 0, 0, 0, 96, 0, 0⟩
/-- A COPY running on move engine 0. -/
def copyRunning : State := (opState 1 32 [3]).setRun 32 (some { node := 0, frame := 2, tag := 9, start := 0 })
def copyRead : State × Option (List Byte) := (copyRunning.advanceTo 5).silent.readParams 0 0 1
def copyDone : State × Bool := (copyRead.1.setRun 32 none).moveWork 0 1 0 4096 0 ⟨1, true, 0, 0, 0, 0, 0, 0, 0, 0⟩ ⟨0x10001, 2, 0, false, 1, false, 2, 1, 4, 32, 32, 0⟩ (copyRead.2.getD [])

/-- A state whose PC `n` has the controller `p`. -/
def withPc (s : State) (n : Nat) (p : PcState) : State := { s with store := { s.store with pcs := [(n, p)] } }

/-- A write and a read that wait at PC 127 for bank 63. -/
def writeEntry : PcEntry := ⟨⟨96, true, 2 ^ 32 - 1, 5, false, .vc0, 3, 1⟩, 63, 5, false, 0⟩
def readEntry : PcEntry := ⟨⟨96, false, 2 ^ 32 - 1, 0, false, .vc0, 3, 1⟩, 63, 5, false, 0⟩
/-- A PC 127 with a read of a zero word waiting. -/
def readWaits : State := { withPc up 127 { entries := [readEntry] } with store := { (withPc up 127 { entries := [readEntry] }).store with filled := [⟨0, 4096, 15, [], []⟩] } }
/-- A device whose page 0 is valid and holds zero words. -/
def scrubbed : State := { up with store := { up.store with filled := [⟨0, 131072, 15, [], []⟩], valid := [(0, 1)] } }

/-- A read request from stop 3 to stop 10 of ring 0, and a response from there. -/
def readFlit : Flit := withCrc ⟨.vc1, .read, 0, 10, 0, 3, 0, 0, true, false, false, false, 5, 0, 0, 0, none⟩

/-- Slice 15 with one request for its bank 31. -/
def sliceState (r : PcReq) : State := { up with scratch := { up.scratch with entries := [(15, [r])] } }
def sliceRead : PcReq := ⟨scratchBase + 0x3000000 + 16352, false, 2 ^ 32 - 1, 0, false, .vc1, 3, 1⟩

/-- An operation that runs on fabric port 511, whose port is up. -/
def portRun : RunOp := { node := 0, frame := 2, tag := 9, start := 0 }
def portState (p : PortRun) : State :=
  { ((opState 4 607 [7, 0, 0]).setRun 607 (some portRun)).setReg R.port_PRESENT 511 1 with fabric := { up.fabric with ports := [(511, p)] } }
def loadJob : LoadJob := { target := 16, streamed := true, start := 0, last := 0 }
def loading (j : LoadJob) : State := { up with config := { up.config with job := some j } }

/-- A BOUNDARY block and a TRAIN block, with their check bytes. -/
def withBlockCrc (b : Nat) : Nat := b + blockCrc b * 2 ^ 56
def boundaryBlock : Nat := withBlockCrc 0x5AC33C2D
def trainBlock : Nat := withBlockCrc 0x0001014B

/-- A request frame of one operation: READ of the cadence register 0x1301.1 of cadence 3. -/
def requestFrame : List Byte :=
  let head := leBytes 2 0x4F42 ++ [1, 1] ++ leBytes 4 0 ++ leBytes 4 0 ++ leBytes 2 1 ++ leBytes 2 16 ++ leBytes 4 0
  let body := [1, 1] ++ leBytes 2 0x1301 ++ leBytes 3 3 ++ leBytes 9 0
  head ++ leBytes 4 (crc32 (head ++ leBytes 4 0 ++ body)) ++ body

/-- The same as parsed. -/
def parsedRequest : ObpFrame := ⟨0, 0, false, [⟨1, ⟨0x1301, 3, 1⟩, 0, 0, 0, []⟩]⟩

/-- A device with that request in the HOST queue. -/
def requested : State := { up with steward := { up.steward with queues := [[⟨.spi, requestFrame, false⟩], [], [], [], []] } }

/-- An open session in slot `n`. -/
def inSession (n ident : Nat) : State := withRegs up [(R.ses_ID, n, ident)]

/-- A profile record of no entries. -/
def emptyRecord : List Byte :=
  let l := leBytes 4 0x6B706C66 ++ leBytes 2 1 ++ List.replicate 34 0 ++ leBytes 4 64 ++ List.replicate 20 0
  l.take 60 ++ leBytes 4 (crc32 l)

/-- An outstanding challenge, and a device locked out in a life-cycle state. -/
def challenge : Challenge := ⟨1, [1, 2, 3], [4, 5, 6]⟩
def locked (v : Nat) : State := { withRegs up [(R.lc_STATE, 0, v)] with service := { up.service with lockUntil := 1000 } }

/-- A council message of the member with ENS_ID 7, and a member that has heard it before on link 255. -/
def councilMsg (magicOk : Bool) : CouncilMsg := ⟨magicOk, 7, 1, 0, 0, 0, 3, 1, 0, 0, 0, 0, [], 9⟩
def ensState : State := { withRegs up [(R.ens_ENABLE, 0, 1), (R.link_STATE, 255, 2), (R.link_PARTNER_ID, 255, 7)] with ens := { up.ens with idents := [(7, [9])] } }

/-- A started SINK operation of peer flow 7 on link 255. -/
def peerSender : State :=
  { withRegs up [(R.pf_LINK, 7, 255), (R.flow_STATE, 7, 2), (R.flow_DIR, 7, 1), (R.flow_HANDLE, 7, 65536), (R.link_STATE, 255, 2)] with
    streams := { up.streams with active := [7], flows := [(7, { slot := 0 })] }, store := { up.store with filled := [⟨0, 4096, 15, [], []⟩] },
    sched := { up.sched with ops := [⟨0, 2, .active, false, 608, 100, 0, 9, 0, 0, false⟩], graphs := [(0, sinkGraph 2 1)], handles := [(0, ⟨0, 96, 2, 96, 0⟩)] } }

/-- A device whose core 0 runs a program of 4,096 zero words as `k` says, and whose core 1 runs as `k` too. -/
def coreState (k : Core) : State :=
  { withRegs up [(R.core_STATE, 0, 1), (R.core_STATE, 1, 1)] with dusk := { up.dusk with core0 := { k with words := 4096 }, core1 := k } }

/-! ### Ill-formed commands: for each check of WellFormed.lean a command it refuses -/

theorem test_ill_formed_0 :
    (∀ (x0 : Nat) (m : SyncMeasurement), (Instr.ptpSync x0 256 m).wf = false) ∧
    (∀ (x0 : Nat) (x2 : Announce), (Instr.ptpAnnounce x0 256 x2).wf = false) ∧
    (∀ (x0 : Nat), (Instr.ptpSourceLost x0 256).wf = false) ∧
    (∀ (x1 : Nat), (Instr.frameMark 16 x1).wf = false) ∧
    (∀ (x1 : Nat), (Instr.commitLeadCheck 16 x1).wf = false) ∧
    ((Instr.loadCheckDone 64).wf = false) ∧
    (∀ (x0 x2 x3 : Nat), (Instr.operationCompletion x0 608 x2 x3).wf = false) ∧
    ((Instr.dispatch 608).wf = false) ∧
    (∀ (x0 : Nat), (Instr.operationStart x0 608).wf = false) ∧
    (∀ (x1 x2 : Nat), (Instr.commitRequest 262144 x1 x2).wf = false) ∧
    ((Instr.graphDrained 64).wf = false) ∧
    ((Instr.admissionImpair 64).wf = false) ∧
    (∀ (x0 : Nat) (x2 : EthFrame), (Instr.ethFrameReceive x0 256 x2).wf = false) ∧
    (∀ (x0 x2 : Nat), (Instr.mergeWindowExpiry x0 262144 x2).wf = false) ∧
    (∀ (x0 x2 : Nat), (Instr.legTimeout x0 262144 x2).wf = false) ∧
    (∀ (x0 x1 : Nat), (Instr.legTimeout x0 x1 2).wf = false) ∧
    (∀ (x0 : Nat), (Instr.sdiFrameBegin x0 256).wf = false) ∧
    (∀ (x0 : Nat) (x2 : SdiLine), (Instr.sdiLineReceive x0 256 x2).wf = false) ∧
    (∀ (x0 : Nat), (Instr.egressLaunch x0 262144).wf = false) ∧
    (∀ (x0 : Nat), (Instr.egressPacketSend x0 256).wf = false) ∧
    (∀ (x1 : Nat), (Instr.sdiRepeatCheck 256 x1).wf = false) ∧
    (∀ (x1 : Nat), (Instr.sdiEgressFrame 256 x1).wf = false) ∧
    (∀ (x0 x2 : Nat) (x3 : Bool), (Instr.convertComplete x0 32 x2 x3).wf = false) ∧
    (∀ (x0 x2 : Nat), (Instr.abortOrder x0 608 x2).wf = false) ∧
    (∀ (x0 : Nat), (Instr.abortComplete x0 32).wf = false) ∧
    (∀ (x0 : Nat), (Instr.moveOperationComplete x0 64).wf = false) ∧
    (∀ (x1 : PcReq), (Instr.pcRequestAccept 128 x1).wf = false) ∧
    ((Instr.pcBurstIssue 128).wf = false) ∧
    (∀ (x1 : Nat), (Instr.rowPrechargeTimeout 128 x1).wf = false) ∧
    (∀ (x0 : Nat), (Instr.rowPrechargeTimeout x0 64).wf = false) ∧
    (∀ (x1 : Nat), (Instr.refreshDue 128 x1).wf = false) ∧
    (∀ (x0 : Nat), (Instr.refreshDue x0 64).wf = false) ∧
    (∀ (x1 : Nat), (Instr.refreshIssue 128 x1).wf = false) ∧
    (∀ (x0 : Nat), (Instr.refreshIssue x0 64).wf = false) ∧
    ((Instr.scrubAccess 128).wf = false) ∧
    (∀ (x1 : Nat), (Instr.retrainWindow 128 x1).wf = false) ∧
    ((Instr.sweepEnd 128).wf = false) ∧
    ((Instr.sweepRetry 128).wf = false) ∧
    (∀ (x0 : Nat), (Instr.degradedIntervalEnd x0 128).wf = false) ∧
    (∀ (x0 x2 : Nat), (Instr.fenceRecord x0 128 x2).wf = false) := by
  refine ⟨?_, ?_, ?_, ?_, ?_, ?_, ?_, ?_, ?_, ?_, ?_, ?_, ?_, ?_, ?_, ?_, ?_, ?_, ?_, ?_, ?_, ?_, ?_, ?_, ?_, ?_, ?_, ?_, ?_, ?_, ?_, ?_, ?_, ?_, ?_, ?_, ?_, ?_, ?_, ?_⟩ <;> intros <;> simp [Instr.wf]

theorem test_ill_formed_1 :
    (∀ (x0 x1 : Nat), (Instr.fenceRecord x0 x1 386).wf = false) ∧
    (∀ (x0 : Nat) (x2 : List Nat), (Instr.rateChangeComplete x0 4 x2).wf = false) ∧
    (∀ (x1 : Int), (Instr.stackThrottle 4 x1).wf = false) ∧
    (∀ (x1 : MasterReq), (Instr.masterRequest 386 x1).wf = false) ∧
    (∀ (x1 : Nat), (Instr.flitSend 384 x1).wf = false) ∧
    (∀ (x0 : Nat), (Instr.flitSend x0 2).wf = false) ∧
    (∀ (x1 : Nat) (x2 : Flit), (Instr.flitReceive 384 x1 x2).wf = false) ∧
    (∀ (x0 : Nat) (x2 : Flit), (Instr.flitReceive x0 2 x2).wf = false) ∧
    (∀ (x1 x2 : Nat), (Instr.sideWordReceive 384 x1 x2).wf = false) ∧
    (∀ (x0 x2 : Nat), (Instr.sideWordReceive x0 2 x2).wf = false) ∧
    (∀ (x1 : Nat) (x2 : AckStatus), (Instr.acknowledgementReceive 386 x1 x2).wf = false) ∧
    (∀ (x1 : Nat) (x2 : ReadAnswer), (Instr.readResponseReceive 386 x1 x2).wf = false) ∧
    ((Instr.arbiterDecision (.exchange 18)).wf = false) ∧
    ((Instr.arbiterDecision (.slice 16)).wf = false) ∧
    ((Instr.arbiterDecision (.pc 128)).wf = false) ∧
    ((Instr.starvation (.exchange 18)).wf = false) ∧
    ((Instr.starvation (.slice 16)).wf = false) ∧
    ((Instr.starvation (.pc 128)).wf = false) ∧
    (∀ (x1 : Nat) (x2 : VC), (Instr.partialTransferTimeout 384 x1 x2).wf = false) ∧
    (∀ (x0 : Nat) (x2 : VC), (Instr.partialTransferTimeout x0 2 x2).wf = false) ∧
    (∀ (x1 : Nat), (Instr.transferTimeout 386 x1).wf = false) ∧
    (∀ (x0 x2 x3 : Nat), (Instr.segmentFault x0 16 x2 x3).wf = false) ∧
    (∀ (x0 x1 x3 : Nat), (Instr.segmentFault x0 x1 24 x3).wf = false) ∧
    (∀ (x0 x1 x2 : Nat), (Instr.segmentFault x0 x1 x2 3).wf = false) ∧
    (∀ (x0 : Nat), (Instr.detourEnter x0 16).wf = false) ∧
    (∀ (x1 : Nat), (Instr.sliceBankAccess 16 x1).wf = false) ∧
    (∀ (x0 : Nat), (Instr.sliceBankAccess x0 32).wf = false) ∧
    ((Instr.scratchpadScrubAccess 512).wf = false) ∧
    (∀ (x0 : Nat), (Instr.wipeStart x0 4).wf = false) ∧
    (∀ (x1 : Nat) (x2 : BramPort), (Instr.bramRead 10240 x1 x2).wf = false) ∧
    (∀ (x1 x2 : Nat) (x3 : BramPort) (x4 : Bool), (Instr.bramWrite 10240 x1 x2 x3 x4).wf = false) ∧
    ((Instr.pllLockLoss 48).wf = false) ∧
    (∀ (x1 : Nat), (Instr.pllLock 48 x1).wf = false) ∧
    (∀ (x0 : Nat) (x2 : Bool), (Instr.portUpChange x0 512 x2).wf = false) ∧
    ((Instr.descriptorHandshake 512).wf = false) ∧
    ((Instr.parameterHandshake 512).wf = false) ∧
    (∀ (x0 x2 x3 x4 : Nat), (Instr.doneHandshake x0 512 x2 x3 x4).wf = false) ∧
    (∀ (x0 : Nat), (Instr.completionForward x0 512).wf = false) ∧
    (∀ (x1 x2 x4 : Nat) (x3 : Bool), (Instr.readRequestHandshake 512 x1 x2 x3 x4).wf = false) ∧
    ((Instr.readResponseHandshake 512).wf = false) := by
  refine ⟨?_, ?_, ?_, ?_, ?_, ?_, ?_, ?_, ?_, ?_, ?_, ?_, ?_, ?_, ?_, ?_, ?_, ?_, ?_, ?_, ?_, ?_, ?_, ?_, ?_, ?_, ?_, ?_, ?_, ?_, ?_, ?_, ?_, ?_, ?_, ?_, ?_, ?_, ?_, ?_⟩ <;> intros <;> simp [Instr.wf, ArbId.wf]

theorem test_ill_formed_2 :
    (∀ (x1 : WrFlit), (Instr.writeFlitHandshake 512 x1).wf = false) ∧
    (∀ (x0 : Nat), (Instr.forcedAbort x0 512).wf = false) ∧
    (∀ (x0 : Nat), (Instr.exchangeComplete x0 16).wf = false) ∧
    (∀ (x0 : Nat), (Instr.referenceLoss x0 16).wf = false) ∧
    ((Instr.txPllLockFail 256).wf = false) ∧
    (∀ (x0 : Nat), (Instr.signalDetected x0 256).wf = false) ∧
    (∀ (x0 : Nat), (Instr.bringupTimeout x0 256).wf = false) ∧
    (∀ (x0 : Nat) (x2 : LossCause), (Instr.laneLoss x0 256 x2).wf = false) ∧
    (∀ (x0 : Nat) (x2 : Bool), (Instr.anPageReceive x0 256 x2).wf = false) ∧
    (∀ (x0 : Nat), (Instr.polarityToggle x0 256).wf = false) ∧
    (∀ (x0 : Nat), (Instr.sdiRateTry x0 256).wf = false) ∧
    (∀ (x0 x2 x3 x4 : Nat), (Instr.boundaryReceive x0 256 x2 x3 x4).wf = false) ∧
    (∀ (x0 x2 : Nat), (Instr.deskewComplete x0 256 x2).wf = false) ∧
    (∀ (x0 x2 : Nat), (Instr.trainBlockReceive x0 256 x2).wf = false) ∧
    ((Instr.fillerRowArrive 256).wf = false) ∧
    (∀ (x1 : Nat), (Instr.marginCheck 256 x1).wf = false) ∧
    (∀ (x1 : List Byte), (Instr.eqSave 256 x1).wf = false) ∧
    (∀ (x0 : Nat), (Instr.packetSend x0 256).wf = false) ∧
    (∀ (x0 : Nat) (x2 : LinkPacket), (Instr.packetReceive x0 256 x2).wf = false) ∧
    ((Instr.ackSend 256).wf = false) ∧
    (∀ (x1 : Nat) (x2 : Bool), (Instr.ackReceive 256 x1 x2).wf = false) ∧
    (∀ (x1 : Nat) (x2 : Bool), (Instr.nakReceive 256 x1 x2).wf = false) ∧
    (∀ (x0 : Nat), (Instr.replayTimeout x0 256).wf = false) ∧
    (∀ (x1 x2 : Nat), (Instr.eyeScanComplete 256 x1 x2).wf = false) ∧
    (∀ (x0 : Nat) (x2 : List Byte), (Instr.obpFrameReceive x0 (.link 256) x2).wf = false) ∧
    (∀ (x1 : Nat), (Instr.obpOpen (.link 256) x1).wf = false) ∧
    (∀ (x0 : Nat), (Instr.sessionTimeout x0 64).wf = false) ∧
    (∀ (x0 : Nat), (Instr.notifySend x0 64).wf = false) ∧
    (∀ (x1 x2 x3 : Nat), (Instr.duskAdd 2 x1 x2 x3).wf = false) ∧
    (∀ (x0 x2 x3 : Nat), (Instr.duskAdd x0 8 x2 x3).wf = false) ∧
    (∀ (x0 x1 x3 : Nat), (Instr.duskAdd x0 x1 8 x3).wf = false) ∧
    (∀ (x0 x1 x2 : Nat), (Instr.duskAdd x0 x1 x2 8).wf = false) ∧
    (∀ (x1 x2 x3 : Nat), (Instr.duskSub 2 x1 x2 x3).wf = false) ∧
    (∀ (x0 x2 x3 : Nat), (Instr.duskSub x0 8 x2 x3).wf = false) ∧
    (∀ (x0 x1 x3 : Nat), (Instr.duskSub x0 x1 8 x3).wf = false) ∧
    (∀ (x0 x1 x2 : Nat), (Instr.duskSub x0 x1 x2 8).wf = false) ∧
    (∀ (x1 x2 x3 : Nat), (Instr.duskAnd 2 x1 x2 x3).wf = false) ∧
    (∀ (x0 x2 x3 : Nat), (Instr.duskAnd x0 8 x2 x3).wf = false) ∧
    (∀ (x0 x1 x3 : Nat), (Instr.duskAnd x0 x1 8 x3).wf = false) ∧
    (∀ (x0 x1 x2 : Nat), (Instr.duskAnd x0 x1 x2 8).wf = false) := by
  refine ⟨?_, ?_, ?_, ?_, ?_, ?_, ?_, ?_, ?_, ?_, ?_, ?_, ?_, ?_, ?_, ?_, ?_, ?_, ?_, ?_, ?_, ?_, ?_, ?_, ?_, ?_, ?_, ?_, ?_, ?_, ?_, ?_, ?_, ?_, ?_, ?_, ?_, ?_, ?_, ?_⟩ <;> intros <;> simp [Instr.wf, ObpPort.wf]

theorem test_ill_formed_3 :
    (∀ (x1 x2 x3 : Nat), (Instr.duskOr 2 x1 x2 x3).wf = false) ∧
    (∀ (x0 x2 x3 : Nat), (Instr.duskOr x0 8 x2 x3).wf = false) ∧
    (∀ (x0 x1 x3 : Nat), (Instr.duskOr x0 x1 8 x3).wf = false) ∧
    (∀ (x0 x1 x2 : Nat), (Instr.duskOr x0 x1 x2 8).wf = false) ∧
    (∀ (x1 x2 x3 : Nat), (Instr.duskXor 2 x1 x2 x3).wf = false) ∧
    (∀ (x0 x2 x3 : Nat), (Instr.duskXor x0 8 x2 x3).wf = false) ∧
    (∀ (x0 x1 x3 : Nat), (Instr.duskXor x0 x1 8 x3).wf = false) ∧
    (∀ (x0 x1 x2 : Nat), (Instr.duskXor x0 x1 x2 8).wf = false) ∧
    (∀ (x1 x2 x3 : Nat), (Instr.duskShl 2 x1 x2 x3).wf = false) ∧
    (∀ (x0 x2 x3 : Nat), (Instr.duskShl x0 8 x2 x3).wf = false) ∧
    (∀ (x0 x1 x3 : Nat), (Instr.duskShl x0 x1 8 x3).wf = false) ∧
    (∀ (x0 x1 x2 : Nat), (Instr.duskShl x0 x1 x2 8).wf = false) ∧
    (∀ (x1 x2 x3 : Nat), (Instr.duskShra 2 x1 x2 x3).wf = false) ∧
    (∀ (x0 x2 x3 : Nat), (Instr.duskShra x0 8 x2 x3).wf = false) ∧
    (∀ (x0 x1 x3 : Nat), (Instr.duskShra x0 x1 8 x3).wf = false) ∧
    (∀ (x0 x1 x2 : Nat), (Instr.duskShra x0 x1 x2 8).wf = false) ∧
    (∀ (x1 x2 x3 : Nat), (Instr.duskShrl 2 x1 x2 x3).wf = false) ∧
    (∀ (x0 x2 x3 : Nat), (Instr.duskShrl x0 8 x2 x3).wf = false) ∧
    (∀ (x0 x1 x3 : Nat), (Instr.duskShrl x0 x1 8 x3).wf = false) ∧
    (∀ (x0 x1 x2 : Nat), (Instr.duskShrl x0 x1 x2 8).wf = false) ∧
    (∀ (x1 x2 : Nat), (Instr.duskMov 2 x1 x2).wf = false) ∧
    (∀ (x0 x2 : Nat), (Instr.duskMov x0 8 x2).wf = false) ∧
    (∀ (x0 x1 : Nat), (Instr.duskMov x0 x1 8).wf = false) ∧
    (∀ (x1 x2 : Nat), (Instr.duskTop 2 x1 x2).wf = false) ∧
    (∀ (x0 x2 : Nat), (Instr.duskTop x0 8 x2).wf = false) ∧
    (∀ (x0 x1 : Nat), (Instr.duskTop x0 x1 8).wf = false) ∧
    (∀ (x1 x2 : Nat), (Instr.duskFromp 2 x1 x2).wf = false) ∧
    (∀ (x0 x2 : Nat), (Instr.duskFromp x0 8 x2).wf = false) ∧
    (∀ (x0 x1 : Nat), (Instr.duskFromp x0 x1 8).wf = false) ∧
    (∀ (x1 x2 x3 : Nat), (Instr.duskMin 2 x1 x2 x3).wf = false) ∧
    (∀ (x0 x2 x3 : Nat), (Instr.duskMin x0 8 x2 x3).wf = false) ∧
    (∀ (x0 x1 x3 : Nat), (Instr.duskMin x0 x1 8 x3).wf = false) ∧
    (∀ (x0 x1 x2 : Nat), (Instr.duskMin x0 x1 x2 8).wf = false) ∧
    (∀ (x1 x2 x3 : Nat), (Instr.duskMax 2 x1 x2 x3).wf = false) ∧
    (∀ (x0 x2 x3 : Nat), (Instr.duskMax x0 8 x2 x3).wf = false) ∧
    (∀ (x0 x1 x3 : Nat), (Instr.duskMax x0 x1 8 x3).wf = false) ∧
    (∀ (x0 x1 x2 : Nat), (Instr.duskMax x0 x1 x2 8).wf = false) ∧
    (∀ (x1 x2 : Nat), (Instr.duskAddi 2 x1 x2).wf = false) ∧
    (∀ (x0 x2 : Nat), (Instr.duskAddi x0 8 x2).wf = false) ∧
    (∀ (x0 x1 : Nat), (Instr.duskAddi x0 x1 8192).wf = false) := by
  refine ⟨?_, ?_, ?_, ?_, ?_, ?_, ?_, ?_, ?_, ?_, ?_, ?_, ?_, ?_, ?_, ?_, ?_, ?_, ?_, ?_, ?_, ?_, ?_, ?_, ?_, ?_, ?_, ?_, ?_, ?_, ?_, ?_, ?_, ?_, ?_, ?_, ?_, ?_, ?_, ?_⟩ <;> intros <;> simp [Instr.wf]

theorem test_ill_formed_4 :
    (∀ (x1 x2 : Nat), (Instr.duskAndi 2 x1 x2).wf = false) ∧
    (∀ (x0 x2 : Nat), (Instr.duskAndi x0 8 x2).wf = false) ∧
    (∀ (x0 x1 : Nat), (Instr.duskAndi x0 x1 8192).wf = false) ∧
    (∀ (x1 x2 : Nat), (Instr.duskOri 2 x1 x2).wf = false) ∧
    (∀ (x0 x2 : Nat), (Instr.duskOri x0 8 x2).wf = false) ∧
    (∀ (x0 x1 : Nat), (Instr.duskOri x0 x1 8192).wf = false) ∧
    (∀ (x1 x2 : Nat), (Instr.duskXori 2 x1 x2).wf = false) ∧
    (∀ (x0 x2 : Nat), (Instr.duskXori x0 8 x2).wf = false) ∧
    (∀ (x0 x1 : Nat), (Instr.duskXori x0 x1 8192).wf = false) ∧
    (∀ (x1 x2 : Nat), (Instr.duskMovi 2 x1 x2).wf = false) ∧
    (∀ (x0 x2 : Nat), (Instr.duskMovi x0 16 x2).wf = false) ∧
    (∀ (x0 x1 : Nat), (Instr.duskMovi x0 x1 65536).wf = false) ∧
    (∀ (x1 x2 x3 x4 : Nat), (Instr.duskLd 2 x1 x2 x3 x4).wf = false) ∧
    (∀ (x0 x2 x3 x4 : Nat), (Instr.duskLd x0 8 x2 x3 x4).wf = false) ∧
    (∀ (x0 x1 x3 x4 : Nat), (Instr.duskLd x0 x1 4 x3 x4).wf = false) ∧
    (∀ (x0 x1 x2 x4 : Nat), (Instr.duskLd x0 x1 x2 8 x4).wf = false) ∧
    (∀ (x0 x1 x2 x3 : Nat), (Instr.duskLd x0 x1 x2 x3 4096).wf = false) ∧
    (∀ (x1 x2 x3 x4 : Nat), (Instr.duskSt 2 x1 x2 x3 x4).wf = false) ∧
    (∀ (x0 x2 x3 x4 : Nat), (Instr.duskSt x0 8 x2 x3 x4).wf = false) ∧
    (∀ (x0 x1 x3 x4 : Nat), (Instr.duskSt x0 x1 4 x3 x4).wf = false) ∧
    (∀ (x0 x1 x2 x4 : Nat), (Instr.duskSt x0 x1 x2 8 x4).wf = false) ∧
    (∀ (x0 x1 x2 x3 : Nat), (Instr.duskSt x0 x1 x2 x3 4096).wf = false) ∧
    (∀ (x1 x3 x4 : Nat) (x2 x5 : Bool), (Instr.duskMpy 2 x1 x2 x3 x4 x5).wf = false) ∧
    (∀ (x0 x3 x4 : Nat) (x2 x5 : Bool), (Instr.duskMpy x0 2 x2 x3 x4 x5).wf = false) ∧
    (∀ (x0 x1 x4 : Nat) (x2 x5 : Bool), (Instr.duskMpy x0 x1 x2 8 x4 x5).wf = false) ∧
    (∀ (x0 x1 x3 : Nat) (x2 x5 : Bool), (Instr.duskMpy x0 x1 x2 x3 8 x5).wf = false) ∧
    (∀ (x1 x3 x4 : Nat) (x2 x5 : Bool), (Instr.duskMac 2 x1 x2 x3 x4 x5).wf = false) ∧
    (∀ (x0 x3 x4 : Nat) (x2 x5 : Bool), (Instr.duskMac x0 2 x2 x3 x4 x5).wf = false) ∧
    (∀ (x0 x1 x4 : Nat) (x2 x5 : Bool), (Instr.duskMac x0 x1 x2 8 x4 x5).wf = false) ∧
    (∀ (x0 x1 x3 : Nat) (x2 x5 : Bool), (Instr.duskMac x0 x1 x2 x3 8 x5).wf = false) ∧
    (∀ (x1 x3 x4 : Nat) (x2 x5 : Bool), (Instr.duskMsu 2 x1 x2 x3 x4 x5).wf = false) ∧
    (∀ (x0 x3 x4 : Nat) (x2 x5 : Bool), (Instr.duskMsu x0 2 x2 x3 x4 x5).wf = false) ∧
    (∀ (x0 x1 x4 : Nat) (x2 x5 : Bool), (Instr.duskMsu x0 x1 x2 8 x4 x5).wf = false) ∧
    (∀ (x0 x1 x3 : Nat) (x2 x5 : Bool), (Instr.duskMsu x0 x1 x2 x3 8 x5).wf = false) ∧
    (∀ (x1 : Nat) (x2 : Bool), (Instr.duskClr 2 x1 x2).wf = false) ∧
    (∀ (x0 : Nat) (x2 : Bool), (Instr.duskClr x0 2 x2).wf = false) ∧
    (∀ (x1 x2 : Nat), (Instr.duskLda 2 x1 x2).wf = false) ∧
    (∀ (x0 x2 : Nat), (Instr.duskLda x0 2 x2).wf = false) ∧
    (∀ (x0 x1 : Nat), (Instr.duskLda x0 x1 8).wf = false) ∧
    (∀ (x1 x2 : Nat), (Instr.duskLdal 2 x1 x2).wf = false) := by
  refine ⟨?_, ?_, ?_, ?_, ?_, ?_, ?_, ?_, ?_, ?_, ?_, ?_, ?_, ?_, ?_, ?_, ?_, ?_, ?_, ?_, ?_, ?_, ?_, ?_, ?_, ?_, ?_, ?_, ?_, ?_, ?_, ?_, ?_, ?_, ?_, ?_, ?_, ?_, ?_, ?_⟩ <;> intros <;> simp [Instr.wf]

theorem test_ill_formed_5 :
    (∀ (x0 x2 : Nat), (Instr.duskLdal x0 2 x2).wf = false) ∧
    (∀ (x0 x1 : Nat), (Instr.duskLdal x0 x1 8).wf = false) ∧
    (∀ (x1 x2 : Nat), (Instr.duskMovh 2 x1 x2).wf = false) ∧
    (∀ (x0 x2 : Nat), (Instr.duskMovh x0 8 x2).wf = false) ∧
    (∀ (x0 x1 : Nat), (Instr.duskMovh x0 x1 2).wf = false) ∧
    (∀ (x1 x2 : Nat), (Instr.duskMovl 2 x1 x2).wf = false) ∧
    (∀ (x0 x2 : Nat), (Instr.duskMovl x0 8 x2).wf = false) ∧
    (∀ (x0 x1 : Nat), (Instr.duskMovl x0 x1 2).wf = false) ∧
    (∀ (x1 : Nat) (x2 : Int), (Instr.duskAsh 2 x1 x2).wf = false) ∧
    (∀ (x0 : Nat) (x2 : Int), (Instr.duskAsh x0 2 x2).wf = false) ∧
    (∀ (x0 x1 : Nat), (Instr.duskAsh x0 x1 (-33)).wf = false) ∧
    (∀ (x0 x1 : Nat), (Instr.duskAsh x0 x1 32).wf = false) ∧
    (∀ (x1 x2 : Nat), (Instr.duskNorm 2 x1 x2).wf = false) ∧
    (∀ (x0 x2 : Nat), (Instr.duskNorm x0 2 x2).wf = false) ∧
    (∀ (x0 x1 : Nat), (Instr.duskNorm x0 x1 8).wf = false) ∧
    (∀ (x1 x2 : Nat), (Instr.duskExp 2 x1 x2).wf = false) ∧
    (∀ (x0 x2 : Nat), (Instr.duskExp x0 8 x2).wf = false) ∧
    (∀ (x0 x1 : Nat), (Instr.duskExp x0 x1 2).wf = false) ∧
    (∀ (x1 : Nat), (Instr.duskAdda 2 x1).wf = false) ∧
    (∀ (x0 : Nat), (Instr.duskAdda x0 2).wf = false) ∧
    (∀ (x1 : Nat), (Instr.duskNeg 2 x1).wf = false) ∧
    (∀ (x0 : Nat), (Instr.duskNeg x0 2).wf = false) ∧
    (∀ (x1 : Nat), (Instr.duskAbs 2 x1).wf = false) ∧
    (∀ (x0 : Nat), (Instr.duskAbs x0 2).wf = false) ∧
    (∀ (x1 x2 x3 : Nat), (Instr.duskBranch 2 x1 x2 x3).wf = false) ∧
    (∀ (x0 x2 x3 : Nat), (Instr.duskBranch x0 16 x2 x3).wf = false) ∧
    (∀ (x0 x1 x3 : Nat), (Instr.duskBranch x0 x1 8 x3).wf = false) ∧
    (∀ (x0 x1 x2 : Nat), (Instr.duskBranch x0 x1 x2 4096).wf = false) ∧
    (∀ (x1 : Nat), (Instr.duskCall 2 x1).wf = false) ∧
    (∀ (x0 : Nat), (Instr.duskCall x0 4096).wf = false) ∧
    ((Instr.duskRet 2).wf = false) ∧
    ((Instr.duskReti 2).wf = false) ∧
    (∀ (x1 : Bool) (x2 x3 : Nat), (Instr.duskRepeat 2 x1 x2 x3).wf = false) ∧
    (∀ (x0 x3 : Nat) (x1 : Bool), (Instr.duskRepeat x0 x1 8 x3).wf = false) ∧
    (∀ (x0 x2 : Nat) (x1 : Bool), (Instr.duskRepeat x0 x1 x2 4096).wf = false) ∧
    (∀ (x1 x2 : Nat), (Instr.duskBrep 2 x1 x2).wf = false) ∧
    (∀ (x0 x2 : Nat), (Instr.duskBrep x0 8 x2).wf = false) ∧
    (∀ (x0 x1 : Nat), (Instr.duskBrep x0 x1 4096).wf = false) ∧
    (∀ (x1 x2 : Nat), (Instr.duskIn 2 x1 x2).wf = false) ∧
    (∀ (x0 x2 : Nat), (Instr.duskIn x0 8 x2).wf = false) := by
  refine ⟨?_, ?_, ?_, ?_, ?_, ?_, ?_, ?_, ?_, ?_, ?_, ?_, ?_, ?_, ?_, ?_, ?_, ?_, ?_, ?_, ?_, ?_, ?_, ?_, ?_, ?_, ?_, ?_, ?_, ?_, ?_, ?_, ?_, ?_, ?_, ?_, ?_, ?_, ?_, ?_⟩ <;> intros <;> simp [Instr.wf]

theorem test_ill_formed_6 :
    (∀ (x0 x1 : Nat), (Instr.duskIn x0 x1 1024).wf = false) ∧
    (∀ (x1 x2 : Nat), (Instr.duskOut 2 x1 x2).wf = false) ∧
    (∀ (x0 x2 : Nat), (Instr.duskOut x0 1024 x2).wf = false) ∧
    (∀ (x0 x1 : Nat), (Instr.duskOut x0 x1 8).wf = false) ∧
    ((Instr.duskNop 2).wf = false) ∧
    ((Instr.duskIdle 2).wf = false) ∧
    ((Instr.duskEi 2).wf = false) ∧
    ((Instr.duskDi 2).wf = false) ∧
    ((Instr.duskTrap 2).wf = false) ∧
    ((Instr.duskLjmp 2).wf = false) ∧
    ((Instr.interruptEntry 2).wf = false) ∧
    (∀ (x0 x2 : Nat), (Instr.watchdogKick x0 2 x2).wf = false) ∧
    (∀ (x0 : Nat), (Instr.watchdogWarning x0 2).wf = false) ∧
    (∀ (x0 : Nat), (Instr.watchdogExpiry x0 2).wf = false) ∧
    (∀ (x1 : Nat), (Instr.lockAcquire (.core 2) x1).wf = false) ∧
    ((Instr.lockAcquire (.core 1) 64).wf = false) ∧
    (∀ (x1 : Nat), (Instr.lockRelease (.core 2) x1).wf = false) ∧
    ((Instr.lockRelease (.core 1) 64).wf = false) ∧
    (∀ (x1 : Nat), (Instr.lockRenew (.core 2) x1).wf = false) ∧
    ((Instr.lockRenew (.core 1) 64).wf = false) ∧
    (∀ (x1 : Nat), (Instr.lockClearSuspect (.core 2) x1).wf = false) ∧
    ((Instr.lockClearSuspect (.core 1) 64).wf = false) ∧
    (∀ (x0 : Nat), (Instr.leaseExpiry x0 64).wf = false) ∧
    (∀ (x0 : Nat), (Instr.tripDrainCut x0 107).wf = false) ∧
    (∀ (x0 : Nat), (Instr.drainComplete x0 107).wf = false) ∧
    (∀ (x0 : Nat), (Instr.drainAbandon x0 107).wf = false) ∧
    (∀ (x0 : Nat) (x2 : CouncilMsg), (Instr.councilReceive x0 256 x2).wf = false) ∧
    (∀ (x0 : Nat) (x2 : PeerData), (Instr.peerDataReceive x0 256 x2).wf = false) ∧
    (∀ (x0 : Nat), (Instr.peerDataSend x0 262144).wf = false) ∧
    ((Instr.patchBreakHit 32).wf = false) ∧
    (∀ (x1 : WatchAccess), (Instr.patchWatchHit 32 x1).wf = false) ∧
    (∀ (x0 : Nat), (Instr.clockLockAchieved x0 256).wf = false) ∧
    (∀ (x0 : Nat), (Instr.blockLockAchieved x0 256).wf = false) ∧
    (∀ (x0 : Nat) (x2 : Bool), (Instr.wordLockAchieved x0 256 x2).wf = false) ∧
    (∀ (x0 : Nat), (Instr.trainingComplete x0 256).wf = false) ∧
    ((Instr.adaptationFreeze 256).wf = false) ∧
    (∀ (x0 : Nat), (Instr.adaptationResume x0 256).wf = false) ∧
    ((Instr.prbsLock 256).wf = false) ∧
    ((Instr.prbsLockLoss 256).wf = false) ∧
    (∀ (x1 : Nat), (Instr.referencePairReturn 16 x1).wf = false) := by
  refine ⟨?_, ?_, ?_, ?_, ?_, ?_, ?_, ?_, ?_, ?_, ?_, ?_, ?_, ?_, ?_, ?_, ?_, ?_, ?_, ?_, ?_, ?_, ?_, ?_, ?_, ?_, ?_, ?_, ?_, ?_, ?_, ?_, ?_, ?_, ?_, ?_, ?_, ?_, ?_, ?_⟩ <;> intros <;> simp [Instr.wf, LockParty.wf]

theorem test_ill_formed_7 :
    (∀ (x0 : Nat), (Instr.nakPendingExpiry x0 256).wf = false) ∧
    (∀ (x0 : Nat), (Instr.stackTemperatureTrip x0 4).wf = false) ∧
    (∀ (x0 : Nat) (x2 : List Byte) (x3 : List TrainResult), (Instr.domainPowerOnComplete x0 107 x2 x3).wf = false) ∧
    (∀ (x0 : Nat) (x2 : StepResult), (Instr.daybreakStepComplete x0 0 x2).wf = false) ∧
    (∀ (x0 : Nat) (x2 : StepResult), (Instr.daybreakStepComplete x0 11 x2).wf = false) ∧
    (∀ (x1 : Int), (Instr.ptpDelayResp 256 x1).wf = false) := by
  refine ⟨?_, ?_, ?_, ?_, ?_, ?_⟩ <;> intros <;> simp [Instr.wf]

/-! ### Instruction words, bit by bit from Table 15.3 -/

theorem test_decode_alu :
    duskDecode 0 0b0000_0001_011_001_010_0000000 = some (.duskSub 0 3 1 2) ∧ duskDecode 1 0b0000_1010_111_011_000_0000000 = some (.duskFromp 1 7 3) ∧
    duskDecode 0 0b0000_1101_000_000_000_0000000 = none ∧ duskDecode 0 0b0000_0000_000_000_000_0000001 = none ∧
    duskDecode 0 0b0001_0000_101_1111111111111 = some (.duskAddi 0 5 8191) ∧ duskDecode 0 0b0010_1011_1010101010101010 = some (.duskMovi 0 11 0xAAAA) := by
  decide +kernel

theorem test_decode_memory :
    duskDecode 0 0b0011_110_01_011_000000000111 = some (.duskLd 0 6 1 3 7) ∧ duskDecode 1 0b0100_001_11_101_100000000000 = some (.duskSt 1 1 3 5 2048) := by
  decide +kernel

theorem test_decode_multiply :
    duskDecode 0 0b0101_010_1_1_011_100_1_00000000 = some (.duskMsu 0 1 true 3 4 true) ∧ duskDecode 0 0b0101_100_0_0_000_000_0_00000000 = none ∧
    duskDecode 0 0b0110_0100_1_000_100000_000000 = some (.duskAsh 0 1 (-32)) ∧ duskDecode 0 0b0110_0110_0_101_000000_000000 = some (.duskExp 0 5 0) := by
  decide +kernel

theorem test_decode_control :
    duskDecode 0 0b0111_0110_010_0_000000001001 = some (.duskBranch 0 6 2 9) ∧ duskDecode 0 0b1000_00000000_111111111111 = some (.duskCall 0 4095) ∧
    duskDecode 0 0b1001_0001_0000000000000000 = some (.duskReti 0) ∧ duskDecode 0 0b1010_1_011_0000_000000000101 = some (.duskRepeat 0 true 3 5) ∧
    duskDecode 0 0b1011_0_100_0000_000000001000 = some (.duskBrep 0 4 8) ∧ duskDecode 0 0b1100_1_111_0001000000_000000 = some (.duskOut 0 64 7) ∧
    duskDecode 0 0b1111_0100_0000000000000000 = some (.duskTrap 0) ∧ duskDecode 0 0b1110_0000_0000000000000000 = none := by decide +kernel

/-- Whether a run ends in a state with a property. -/
def after (o : Host.Outcome State Fault Refusal) (p : State → Bool) : Bool := match o with | .next u => p u | _ => false

/-! ### Worked examples of the manual -/

/-- Chapter 08, a worked encode: byte 0 is 0x01, the check symbols are 0x40, 0x78, 0x36 and 0x0F. -/
theorem test_encode_example : encodeWord 1 = BitVec.ofNat 288 (1 + 0x0F367840 * 2 ^ 256) := by decide +kernel

/-- Chapter 08, a worked decode: 0x80 at data byte 5, position 9, is corrected; with byte 6 wrong as well the word is uncorrectable. -/
theorem test_decode_example :
    decodeWord (BitVec.ofNat 288 (1 + 0x80 * 2 ^ 40 + 0x0F367840 * 2 ^ 256)) none = .corrected 1 9 0x80 ∧
    decodeWord (BitVec.ofNat 288 (1 + 0x80 * 2 ^ 40 + 0x80 * 2 ^ 48 + 0x0F367840 * 2 ^ 256)) none = .uncorrectable := by decide +kernel

/-- Chapter 13, the worked link: four lanes at 53,125,000 kbit/s carry 25,550,104 kB/s (R400). -/
theorem test_capacity_example : linkCapacity 4 53125000 = 25550104 := by decide +kernel

/-- Chapter 06: r(1,424,000, 10) = 1,391 and r(25,432,040, 13) = 3,104. -/
theorem test_rounding_examples : rnd 1424000 10 = 1391 ∧ rnd 25432040 13 = 3104 := by decide +kernel

/-- R448: EXP of zero gives 31, of 0x00_4000_0000 gives 0. -/
theorem test_exp_examples : (leading 0 : Int) - 9 = 31 ∧ (leading 0x0040000000 : Int) - 9 = 0 := by decide +kernel

/-- Table 15.3: ADD is modulo 2^16; the source may be the destination. -/
theorem test_add_wraps :
    after (exec (.duskAdd 1 1 1 2) (coreState { d := [0, 0xFFFF, 2, 0, 0, 0, 0, 0] })) (fun u => decide ((u.core 1).dAt 1 = 1 ∧ (u.core 1).dAt 2 = 2 ∧ (u.core 1).pc = 1)) = true := by decide +kernel

/-- Table 15.3: SHRA keeps the sign, SHRL does not. -/
theorem test_shifts :
    after (exec (.duskShra 1 3 1 2) (coreState { d := [0, 0x8000, 0x13, 0, 0, 0, 0, 0] })) (fun u => decide ((u.core 1).dAt 3 = 0xF000)) = true ∧
    after (exec (.duskShrl 1 3 1 2) (coreState { d := [0, 0x8000, 0x13, 0, 0, 0, 0, 0] })) (fun u => decide ((u.core 1).dAt 3 = 0x1000)) = true := by decide +kernel

/-- Table 15.2, mode 3: at the last word of a circular buffer of 4 from 100 on, the pointer goes back to its base. -/
theorem test_circular :
    after (exec (.duskSt 1 0 0 3 0) (coreState { p := [103, 0, 0, 0], pb := [100, 0, 0, 0], pl := [4, 0, 0, 0], ps := [1, 0, 0, 0], d := [9, 0, 0, 0, 0, 0, 0, 0] })) (fun u => decide ((u.core 1).pAt 0 = 100 ∧ tget (fun _ => 0) (u.core 1).data 103 % 2 ^ 16 = 9)) = true := by decide +kernel

/-- R447: with SAT and A[39:31] not all equal, MOVH gives 0x7FFF for positive A. -/
theorem test_movh_saturates :
    after (exec (.duskMovh 1 2 0) (coreState { sat := true, a := [0x0080000000, 0] })) (fun u => decide ((u.core 1).dAt 2 = 0x7FFF)) = true := by decide +kernel

/-- Table 20.2: IDCODE shifts out 0x2A5646DB, low byte first. -/
theorem test_idcode :
    after (exec .tapIdcode up) (fun u => decide (u.reply.value = [0xDB, 0x46, 0x56, 0x2A])) = true := by decide +kernel

/-- R427, Table 14.8: 1,001 is above REPLAY_TIMEOUT's range, and changes nothing. -/
theorem test_write_range :
    after (exec (.registerWrite host ⟨0x2010, 255, 7⟩ [0xE9, 3]) up) (fun u => decide (u.reg R.link_REPLAY_TIMEOUT 255 = 20 ∧ u.reply.status = 5)) = true := by decide +kernel

/-- A step runs the command in front and leaves the rest of the queue. -/
theorem test_step :
    after (step { up with pending := [.tapIdcode, .tapBypass] }) (fun u => decide (u.pending = [.tapBypass] ∧ u.service.tap = 1)) = true := by decide +kernel

/-! ### Witnesses: states and operands that meet the hypotheses of each statement, clause by clause -/

/-- Another profile is active: then CAPTURE may run, and no writable PROFILE object differs from its default. -/
def other : State := up.setReg R.prof_ACTIVE 0 1

/-- An object whose value is its register or its bytes, and not ACTIVE of the profiles. -/
def plainKey (a b : Nat) : Bool := a != 0x3100 && a*256+b != R.prof_ACTIVE.ref && !([0x130004, 0x130108, 0x130109, 0x13010b, 0x500001, 0x500004, 0x500005, 0x500006, 0x500007, 0x500008, 0x500306, 0x510001, 0x510002, 0x510004, 0x510005, 0x510006, 0x520008, 0x520104, 0x210008, 0x300201, 0x300202, 0x310017, 0x310101, 0x310102, 0x400008, 0x400201, 0x400202, 0x410002, 0x410003, 0x320008, 0x320101, 0x320102, 0x700001, 0x700002, 0x700003, 0x700004, 0x700005, 0x700008, 0x701001, 0x701002, 0x701003, 0x701004, 0x701005, 0x701006, 0x701007, 0x701102, 0x701201, 0x701202, 0x701203, 0x702005, 0x703002, 0x703003, 0x703005, 0x70400a, 0x70410e, 0x20001d, 0x20001e, 0x110004, 0x110202, 0x110206, 0x810108, 0x820101, 0x820202, 0x820301, 0x820302, 0x900002, 0x900003, 0x900006, 0x900101, 0x900102, 0x900106, 0x900201, 0xa00007, 0xa00104, 0x100001, 0x100002, 0x100003, 0x101020, 0x220028, 0x310107, 0x40010b, 0x400204, 0x400205, 0x400206, 0x400207, 0x320103, 0x700009, 0x701104, 0x710008, 0x710009, 0x200011, 0x200012, 0x11000b, 0x900104, 0x900105, 0x910008, 0x300001, 0x200013, 0x200019].contains (a * 256 + b))

theorem other_1 (a b i) (h : plainKey a b = true) : other.viewStream a b i = State.reset.viewStream a b i := by
  unfold State.viewStream
  split <;> first | (exfalso; revert h; decide) | rfl

theorem other_2 (a b i) (h : plainKey a b = true) : other.viewMemory a b i = State.reset.viewMemory a b i := by
  unfold State.viewMemory
  split <;> first | (exfalso; revert h; decide) | rfl

theorem other_3 (a b i) (h : plainKey a b = true) : other.viewControl a b i = State.reset.viewControl a b i := by
  unfold State.viewControl
  split <;> first | (exfalso; revert h; decide) | rfl

theorem other_4 (a b i) (h : plainKey a b = true) : other.viewBytes a b i = State.reset.viewBytes a b i := by
  unfold State.viewBytes
  split <;> first | (exfalso; revert h; decide) | rfl

theorem other_dom (r i) : other.dom r i = State.reset.dom r i := rfl

theorem other_doms : other.doms = State.reset.doms := rfl

theorem other_regs (a b i : Nat) (h : plainKey a b = true) (hi : i < 2 ^ 24) :
    tget regKeyDefault other.regs (regKey (a * 256 + b) i) = tget regKeyDefault State.reset.regs (regKey (a * 256 + b) i) := by
  have hk : regKey (a * 256 + b) i ≠ regKey R.prof_ACTIVE.ref 0 := by
    have : a * 256 + b ≠ R.prof_ACTIVE.ref := by intro e; simp [plainKey, e] at h
    unfold regKey; omega
  exact tget_tput_ne regKeyDefault hk (1 % 2 ^ R.prof_ACTIVE.bits) State.reset.regs

theorem other_value (r : ObjRef) (row : Row) (h : plainKey r.index r.sub = true) (hi : r.inst < 2 ^ 24) : other.valueOf r row = State.reset.valueOf r row := by
  unfold State.valueOf State.numberOf
  simp only [other_1 _ _ _ h, other_2 _ _ _ h, other_3 _ _ _ h, other_4 _ _ _ h, other_doms, other_regs _ _ _ h hi]

theorem table_plain : (objsByIndex.all fun o => decide (o.instances ≤ 2 ^ 24) && o.rows.all fun row =>
    !(profileObjects.contains (o.index * 256 + row.sub) || row.acc == .rw) || plainKey o.index row.sub) = true := by decide +kernel

theorem other_capture : other.captureEntries = [] := by
  unfold State.captureEntries
  simp only [List.flatMap_eq_nil_iff, List.filterMap_eq_nil_iff]
  intro o ho i hi row hrow
  have ht := table_plain
  simp only [List.all_eq_true, Bool.and_eq_true, decide_eq_true_eq, Bool.or_eq_true, Bool.not_eq_true'] at ht
  obtain ⟨h1, h2⟩ := ht o ho
  rcases h2 row hrow with h | h
  · have hp : isProfile o.index row.sub row = false := by
      simp only [Bool.or_eq_false_iff] at h
      rw [isProfile, h.1, h.2]; rfl
    simp [hp]
  · have e := other_value ⟨o.index, i, row.sub⟩ row h (Nat.lt_of_lt_of_le (List.mem_range.1 hi) h1)
    simp [factoryValue, e]

theorem capture_small : (other.captured []).length = 64 := by
  unfold State.captured; rw [other_capture]; decide


/-- The data set of a master, at an interval of 1 s. -/
def master : Announce := ⟨3, 128, 6, 32, 0, 128, 7, 0, 37, 0⟩

theorem witness_SourceEventsTakeEffect :
    (∃ (t : Nat) (port : Nat) (interval : Int) (off : Int) (a : Announce) (s : State), port < 256 ∧
      s.bestMaster = some (port, a) ∧
      -7 ≤ interval ∧
      interval ≤ 0 ∧
      s.reg R.tb_SOURCE = 1 ∧
      s.reg R.tb_ACTIVE_SOURCE = 1 ∧
      s.reg R.tb_STATE = 2 ∧
      s.ens.resync = false ∧
      s.reg R.adm_ADMITTED ≠ 0 ∧
      off.natAbs ≤ 1000) ∧
    (∃ (t : Nat) (port : Nat) (a : Announce) (s : State), port < 256 ∧
      s.on R.ptp_ENABLE port = true ∧
      s.reg R.ptp_DOMAIN port = a.domain ∧
      -3 ≤ a.interval ∧
      a.interval ≤ 1) ∧
    (∃ (t : Nat) (port : Nat) (s : State), port < 256 ∧
      s.bestPort = some port ∧
      s.tb.ptpUsable = true ∧
      (s.advanceTo t).ptpLost port = true) ∧
    (∃ (port : Nat) (d : Int) (s : State), port < 256 ∧
      s.on R.ptp_ENABLE port = true) ∧
    (∃ (t : Nat) (format : Nat) (num : Nat) (den : Nat) (s : State), (num, den) ∈ refRates format ∧
      syncAccepted s.syncMv s.board.refOffset = true) ∧
    (∃ (t : Nat) (format : Nat) (num : Nat) (den : Nat) (s : State), ((num, den) ∉ refRates format ∨ syncAccepted s.syncMv s.board.refOffset = false)) ∧
    (∃ (t : Nat) (s : State), s.on R.ref_PRESENT = true ∧
      s.tb.refEdge + s.tb.refLine + 10000 ≤ (s.advanceTo t).mono) ∧
    (∃ (t : Nat) (s : State), s.reg R.tb_STATE = 3 ∧
      s.tb.holdStart + s.reg R.tb_HOLDOVER_LIMIT * 1000000000 ≤ (s.advanceTo t).mono) :=
  ⟨⟨1000, 255, -7, -1000, master, { withRegs up [(R.tb_SOURCE, 0, 1), (R.tb_ACTIVE_SOURCE, 0, 1), (R.tb_STATE, 0, 2), (R.ptp_ENABLE, 255, 1), (R.adm_ADMITTED, 0, 1)] with tb := { up.tb with masters := [(255, master)] } }, by decide +kernel⟩,
    ⟨0, 0, { master with interval := -3 }, { withRegs up [(R.ptp_ENABLE, 0, 1), (R.ptp_DOMAIN, 0, 3)] with tb := { up.tb with masters := [(5, master)] } }, by decide +kernel⟩,
    ⟨4000000000, 9, { withRegs up [(R.ptp_ENABLE, 9, 1), (R.eth_LINK, 9, 1)] with tb := { up.tb with masters := [(9, master)], ptpUsable := true } }, by decide +kernel⟩,
    ⟨255, -5, withRegs up [(R.ptp_ENABLE, 255, 1)], by decide +kernel⟩,
    ⟨1, 3, 30000, 1001, up, by decide +kernel⟩,
    ⟨1, 3, 30000, 1000, withRegs up [(R.ref_PRESENT, 0, 1)], by decide +kernel⟩,
    ⟨64000 + 10000, { withRegs up [(R.ref_PRESENT, 0, 1), (R.ref_LOSSES, 0, 4294967295)] with tb := { up.tb with refLine := 64000 } }, by decide +kernel⟩,
    ⟨60000000000, withRegs up [(R.tb_STATE, 0, 3), (R.tb_HOLDOVER_LIMIT, 0, 60)], by decide +kernel⟩⟩

theorem witness_TimeAndCadenceWritesTakeEffect :
    (∃ (w : Who) (sec : Nat) (ns : Nat) (s : State), s.mayWrite w R.tb_SET_TIME 0 = true ∧
      ns < 1000000000 ∧
      sec < 2 ^ 48 ∧
      s.reg R.adm_ADMITTED = 0) ∧
    (∃ (w : Who) (sec : Nat) (ns : Nat) (s : State), s.mayWrite w R.tb_SET_TIME 0 = true ∧
      ns < 1000000000 ∧
      sec < 2 ^ 48 ∧
      s.reg R.adm_ADMITTED = 0 ∧
      s.tb.sets = [] ∧
      s.sched.ops = [] ∧
      s.sched.versions = [] ∧
      s.sched.full = [] ∧
      (∀ g, g < 64 → s.reg R.slot_STATE g = 0)) ∧
    (∃ (w : Who) (c : Nat) (s : State), s.mayWrite w R.cad_ENABLE c = true ∧
      s.reg R.cad_ENABLE c = 0) ∧
    (∃ (w : Who) (c : Nat) (s : State), s.mayWrite w R.cad_ENABLE c = true ∧
      s.reg R.cad_ENABLE c ≠ 0 ∧
      s.reg R.cad_USERS c = 0 ∧
      s.pendingSets c = 0 ∧
      (∀ g, g < 64 → s.reg R.slot_CADENCE g ≠ c)) ∧
    (∃ (k : Nat) (t : Nat) (s : State), t = k * s.reg R.tb_TICK_NS ∧
      s.now ≤ t ∧
      s.sched.retry = []) :=
  ⟨⟨host, 281474976710655, 999999999, up, by decide +kernel⟩,
    ⟨host, 1000, 0, up, by decide +kernel⟩,
    ⟨host, 15, up, by decide +kernel⟩,
    ⟨host, 3, withRegs up [(R.cad_ENABLE, 3, 1)], by decide +kernel⟩,
    ⟨8, 2000, up, by decide +kernel⟩⟩

theorem witness_MarksTakeEffect :
    (∃ (c : Nat) (n : Nat) (t : Nat) (lower : List (Nat × Nat)) (u : State) (s : State), c < 16 ∧
      s.makesMarks c = true ∧
      t = s.markTime c n ∧
      s.cadStart c ≤ t ∧
      u = s.advanceTo t ∧
      lower = (u.marksAt t).filter (fun p => decide (p.1 < c))) ∧
    (∃ (c : Nat) (n : Nat) (t : Nat) (s : State), c < 16 ∧
      s.makesMarks c = true ∧
      t = s.markTime c n ∧
      s.cadStart c ≤ t ∧
      ((s.advanceTo t).marksAt t).filter (fun p => decide (p.1 < c)) = [] ∧
      (s.advanceTo t).setsAt t = [] ∧
      s.sched.ops = [] ∧
      s.sched.versions = [] ∧
      s.sched.full = [] ∧
      s.scratch.rebuild = [] ∧
      (∀ g, g < 64 → s.reg R.slot_STATE g = 0) ∧
      s.reg R.ens_COUNCIL_CADENCE ≠ c) ∧
    (∃ (c : Nat) (n : Nat) (s : State), c < 16 ∧
      (s.makesMarks c = false ∨ s.markTime c n < s.cadStart c)) ∧
    (∃ (c : Nat) (n : Nat) (x : CommitSet) (s : State), c < 16 ∧
      (s.tb.sets.find? fun x => x.isAt c n && !x.ready) = some x ∧
      (s.advanceTo (s.markTime c n - commitLead)).setReady x = true ∧
      (s.advanceTo (s.markTime c n - commitLead)).now < s.markTime c n) ∧
    (∃ (c : Nat) (n : Nat) (m : Nat) (x : CommitSet) (v : State) (s : State), c < 16 ∧
      (s.tb.sets.find? fun x => x.isAt c n && !x.ready) = some x ∧
      v = s.advanceTo (s.markTime c n - commitLead) ∧
      (v.setReady x = false ∨ s.markTime c n ≤ v.now) ∧
      (∀ r, .exchange r ∉ x.members) ∧
      x.moves < 8 ∧
      m = max (n + 1) (v.firstArmable c)) ∧
    (∃ (c : Nat) (n : Nat) (x : CommitSet) (v : State) (s : State), c < 16 ∧
      (s.tb.sets.find? fun x => x.isAt c n && !x.ready) = some x ∧
      v = s.advanceTo (s.markTime c n - commitLead) ∧
      (v.setReady x = false ∨ s.markTime c n ≤ v.now) ∧
      (∀ r, .exchange r ∉ x.members) ∧
      8 ≤ x.moves) ∧
    (∃ (c : Nat) (n : Nat) (s : State), c < 16 ∧
      (s.tb.sets.find? fun x => x.isAt c n && !x.ready) = none) :=
  ⟨⟨0, 4, up.markTime 0 4, [], State.advanceTo { up with tb := { up.tb with sets := [⟨0, 4, 0, true, []⟩] } } (up.markTime 0 4), { up with tb := { up.tb with sets := [⟨0, 4, 0, true, []⟩] } }, by decide +kernel⟩,
    ⟨0, 4, up.markTime 0 4, withRegs up [(R.ens_COUNCIL_CADENCE, 0, 3)], by decide +kernel⟩,
    ⟨15, 0, State.reset, by decide +kernel⟩,
    ⟨1, 4, ⟨1, 4, 0, false, []⟩, { up with tb := { up.tb with sets := [⟨1, 4, 0, false, []⟩] } }, by decide +kernel⟩,
    ⟨1, 4, 5, ⟨1, 4, 0, false, [.graphStart 0]⟩, State.advanceTo { up with tb := { up.tb with sets := [⟨1, 4, 0, false, [.graphStart 0]⟩] } } (up.markTime 1 4 - commitLead), { up with tb := { up.tb with sets := [⟨1, 4, 0, false, [.graphStart 0]⟩] } }, by refine ⟨by decide, by decide +kernel, by rfl, Or.inl (by decide +kernel), by simp, by decide, by decide +kernel⟩⟩,
    ⟨1, 4, ⟨1, 4, 8, false, [.graphStart 0]⟩, State.advanceTo { up with tb := { up.tb with sets := [⟨1, 4, 8, false, [.graphStart 0]⟩] } } (up.markTime 1 4 - commitLead), { up with tb := { up.tb with sets := [⟨1, 4, 8, false, [.graphStart 0]⟩] } }, by refine ⟨by decide, by decide +kernel, by rfl, Or.inl (by decide +kernel), by simp, by decide⟩⟩,
    ⟨0, 0, State.reset, by decide +kernel⟩⟩

theorem witness_SlotsAreLoadedAndEmptied :
    (∃ (w : Who) (g : Nat) (x : Nat) (s : State), s.mayWrite w R.slot_COMMAND g = true ∧
      s.reg R.slot_STATE g = 0 ∧
      g ∉ s.sched.loading ∧
      s.paramPlace (leAt (s.dom R.slot_IMAGE g) 32 4) = some x) ∧
    (∃ (g : Nat) (s : State), g < 64 ∧
      g ∈ s.sched.loading ∧
      (State.loadCheck { s with sched := { s.sched with loading := s.sched.loading.filter fun x => x != g } } g (s.dom R.slot_IMAGE g)) = 0) ∧
    (∃ (g : Nat) (code : Nat) (s : State), g < 64 ∧
      g ∈ s.sched.loading ∧
      code ≠ 0 ∧
      (State.loadCheck { s with sched := { s.sched with loading := s.sched.loading.filter fun x => x != g } } g (s.dom R.slot_IMAGE g)) = code) ∧
    (∃ (w : Who) (g : Nat) (s : State), s.mayWrite w R.slot_COMMAND g = true ∧
      s.reg R.slot_STATE g = 1 ∧
      s.reg R.sadm_STATE g = 0) ∧
    (∃ (g : Nat) (s : State), g < 64 ∧
      s.reg R.slot_STATE g = 3 ∧
      (s.sched.ops.all fun o => slotOf o.node != g) = true) :=
  ⟨⟨host, 63, 0, up, by decide +kernel⟩,
    ⟨63, { (withRegs up [(R.cad_ENABLE, 0, 1), (R.hdl_HANDLE, 0, 65536), (R.flow_STATE, 7, 1), (R.flow_DIR, 7, 1)]).setDom R.slot_IMAGE 63 sinkImage with sched := { up.sched with loading := [63], handles := [(0, ⟨0, 96, 2, 96, 0⟩)] } }, by decide +kernel⟩,
    ⟨0, 1, { up with sched := { up.sched with loading := [0] } }, by decide +kernel⟩,
    ⟨host, 5, withRegs up [(R.slot_STATE, 5, 1)], by decide +kernel⟩,
    ⟨5, withRegs up [(R.slot_STATE, 5, 3)], by decide +kernel⟩⟩

theorem witness_ArmingAGraph :
    (∃ (w : Who) (g : Nat) (s : State), s.mayWrite w R.slot_COMMAND g = true ∧
      s.reg R.slot_STATE g = 1 ∧
      s.named g = false ∧
      s.reg R.cad_ENABLE (s.reg R.slot_CADENCE g) ≠ 0 ∧
      s.runsTooLong g = false ∧
      s.delayRoom g = true) ∧
    (∃ (w : Who) (g : Nat) (s : State), s.mayWrite w R.slot_COMMAND g = true ∧
      s.reg R.slot_STATE g = 2 ∧
      s.named g = false ∧
      s.reg R.cad_ENABLE (s.reg R.slot_CADENCE g) ≠ 0 ∧
      s.readElsewhere g = false) ∧
    (∃ (w : Who) (g : Nat) (b : Nat) (s : State), s.mayWrite w R.slot_COMMAND g = true ∧
      s.reg R.slot_STATE g = 2 ∧
      s.reg R.slot_SWITCH_TO g = b ∧
      b ≠ g ∧
      s.named g = false ∧
      s.named b = false ∧
      s.reg R.cad_ENABLE (s.reg R.slot_CADENCE g) ≠ 0) ∧
    (∃ (w : Who) (g : Nat) (m : Member) (s : State), s.mayWrite w R.slot_COMMAND g = true ∧
      g ∉ s.sched.loading ∧
      s.armed.find? (fun m => m.from g) = some m) :=
  ⟨⟨host, 5, withRegs up [(R.slot_STATE, 5, 1), (R.cad_ENABLE, 0, 1), (R.cad_RATE_NUM, 0, 50), (R.cad_RATE_DEN, 0, 1)], by decide +kernel⟩,
    ⟨host, 5, withRegs up [(R.slot_STATE, 5, 2), (R.cad_ENABLE, 0, 1), (R.cad_RATE_NUM, 0, 50), (R.cad_RATE_DEN, 0, 1)], by decide +kernel⟩,
    ⟨host, 5, 63, withRegs up [(R.slot_STATE, 5, 2), (R.slot_SWITCH_TO, 5, 63), (R.cad_ENABLE, 0, 1), (R.cad_RATE_NUM, 0, 50), (R.cad_RATE_DEN, 0, 1)], by decide +kernel⟩,
    ⟨host, 5, .graphStart 5, { up with tb := { up.tb with sets := [⟨0, 9, 0, false, [.graphStart 5]⟩] } }, by decide +kernel⟩⟩

theorem witness_HandlesAreDefinedAndReleased :
    (∃ (w : Who) (i : Nat) (s : State), i < 65536 ∧
      s.mayWrite w R.hdl_DEFINE i = true ∧
      s.defineOk i (s.writtenDef i) = true ∧
      s.reg R.hdl_USERS i = 0 ∧
      (tget (fun _ => 0) s.sched.generation i < 65535) ∧
      s.reg R.hdl_MIRROR_BASE i = 0) ∧
    (∃ (w : Who) (i : Nat) (s : State), i < 65536 ∧
      s.mayWrite w R.hdl_DEFINE i = true ∧
      s.reg R.hdl_HANDLE i ≠ 0 ∧
      s.reg R.hdl_USERS i = 0) :=
  ⟨⟨host, 65535, withRegs up [(R.hdl_SLOTS, 65535, 1), (R.hdl_SIZE, 65535, 96), (R.hdl_STRIDE, 65535, 96)], by decide +kernel⟩,
    ⟨host, 65535, withRegs up [(R.hdl_HANDLE, 65535, 131071)], by decide +kernel⟩⟩



/-- The SOURCE of flow 7 with frame 2 OPEN, whose picture has arrived complete and is closed, and its cut-off in DL0. -/
def sourceState : State :=
  { withRegs up [(R.slot_STATE, 0, 2)] with
    streams := { up.streams with active := [7], flows := [(7, { slot := 0, frames := [{ frame := 2, addr := 0, buf := someBuf, complete := true, closed := some 5, ready := some 5 }] })] }
    sched := { up.sched with graphs := [(0, sourceGraph)], ops := [⟨0, 2, .staged, false, 4096, 100, 0, 0, 0, 0, false⟩], dl0 := [⟨0, 0, 2⟩],
                             versions := [⟨65536, 2, .opened, some 0, .own, 1, none, false, 0, 0⟩] } }
/-- The same without the picture. -/
def sourceWaits : State := { sourceState with streams := up.streams }
/-- An operation on raster engine 0, in a state of its own. -/
def oneOp (x : OpState) (tag : Nat) : Oper := ⟨0, 2, x, true, 0, 100, 0, tag, 0, 0, false⟩
def opWaits (x : OpState) : State := { opState 0 0 [] with sched := { (opState 0 0 []).sched with ops := [oneOp x 0] } }

theorem witness_SchedulerEventsTakeEffect :
    (∃ (t : Nat) (o : Nat) (tag : Nat) (status : Nat) (x : Oper) (s : State), o < 608 ∧
      s.sched.arrived = [] ∧
      (s.advanceTo t).tieNext = false ∧
      (96 ≤ o → (o, tag, status) ∈ s.fabric.forwarded) ∧
      s.tagged? o tag = some x) ∧
    (∃ (t : Nat) (o : Nat) (tag : Nat) (status : Nat) (x : Oper) (s : State), o < 608 ∧
      s.sched.arrived = [] ∧
      (s.advanceTo t).tieNext = false ∧
      (96 ≤ o → (o, tag, status) ∈ s.fabric.forwarded) ∧
      s.sched.ops = [x] ∧
      x.operator = o ∧
      x.state = .active ∧
      x.fullTag = tag ∧
      s.sched.versions = []) ∧
    (∃ (t : Nat) (o : Nat) (tag : Nat) (status : Nat) (s : State), o < 608 ∧
      (s.advanceTo t).tieNext = true ∧
      (96 ≤ o → (o, tag, status) ∈ s.fabric.forwarded)) ∧
    (∃ (t : Nat) (o : Nat) (tag : Nat) (status : Nat) (s : State), 96 ≤ o ∧
      o < 608 ∧
      (o, tag, status) ∉ s.fabric.forwarded) ∧
    (∃ (t : Nat) (o : Nat) (tag : Nat) (status : Nat) (s : State), o < 608 ∧
      s.sched.arrived = [] ∧
      (s.advanceTo t).tieNext = false ∧
      (96 ≤ o → (o, tag, status) ∈ s.fabric.forwarded) ∧
      s.tagged? o tag = none) ∧
    (∃ (o : Nat) (x : Oper) (l : List Oper) (s : State), o < 608 ∧
      s.prefetched? o = none ∧
      sortReady (s.readyOps o) = x :: l ∧
      s.outputRoom x = true ∧
      s.entryFor x.guaranteed = true ∧
      (x.guaranteed = true ∨ s.reg R.opr_PAUSED x.operator = 0)) ∧
    (∃ (x : DlEntry) (o : Oper) (s : State), s.nextRelease = some (1, x) ∧
      s.sched.ops.find? (fun o => o.node == x.node && o.frame == x.frame) = some o ∧
      s.needsBad o = false ∧
      (s.nodeRec o.node).kind = 0 ∧
      s.operatorPresent o.operator = true ∧
      s.readyOcc o.operator < s.reg R.opr_READY_DEPTH o.operator) ∧
    (∃ (x : DlEntry) (e : EdgeRec) (b : BufferRec) (v : Version) (s : State), s.nextRelease = some (0, x) ∧
      s.outBuffer x.node = some (e, b) ∧
      s.version? b.handle x.frame = some v ∧
      v.isPast = false ∧
      v.waiting = false ∧
      s.inTime (s.nodeRec x.node).flow x.frame x.time = none ∧
      s.tripping = false) ∧
    (∃ (x : DlEntry) (s : State), s.dueHead s.sched.overflow = some x) ∧
    (∃ (t : Nat) (x : DlEntry) (l : List DlEntry) (s : State), s.sched.tableOnly = x :: l ∧
      x.time ≤ (s.advanceTo t).now) ∧
    (∃ (x : DlEntry) (s : State), s.nextRelease = some (3, x)) ∧
    (∃ (flow : Nat) (f : Nat) (stamp : Nat) (id : Nat) (t : Nat) (e : EdgeRec) (b : BufferRec) (x : InFrame) (v : Version) (s : State), flow < 262144 ∧
      s.sourceOf flow f = some id ∧
      s.outBuffer id = some (e, b) ∧
      s.inFrame? flow f = some x ∧
      x.ready = some t ∧
      t ≤ stamp ∧
      s.version? b.handle f = some v ∧
      v.state = .opened ∧
      v.waiting = false ∧
      stamp < s.markTime (s.graph (slotOf id)).cad f + (s.nodeRec id).deadline) ∧
    (∃ (flow : Nat) (f : Nat) (stamp : Nat) (id : Nat) (s : State), flow < 262144 ∧
      s.sourceOf flow f = some id ∧
      s.markTime (s.graph (slotOf id)).cad f + (s.nodeRec id).deadline ≤ stamp) :=
  ⟨⟨77, 0, 9, 3, oneOp .active 9, { up with sched := { up.sched with ops := [oneOp .active 9], dl3 := [⟨100, 0, 2⟩, ⟨200, 1, 2⟩] } }, by decide +kernel⟩,
    ⟨0, 0, 9, 0, oneOp .active 9, { up with sched := { up.sched with ops := [oneOp .active 9] } }, by decide +kernel⟩,
    ⟨5, 0, 9, 0, { up with sched := { up.sched with ops := [oneOp .active 9] }, pending := [.operationCompletion 5 1 8 0] }, by decide +kernel⟩,
    ⟨0, 607, 65535, 1, up, by decide +kernel⟩,
    ⟨0, 607, 65535, 1, { up with sched := { up.sched with ops := [oneOp .active 9] }, fabric := { up.fabric with forwarded := [(607, 65535, 1)] } }, by decide +kernel⟩,
    ⟨0, oneOp .ready 0, [], opWaits .ready, by decide +kernel⟩,
    ⟨⟨0, 0, 2⟩, oneOp .delayed 0, { opWaits .delayed with sched := { (opWaits .delayed).sched with dl1 := [⟨0, 0, 2⟩] } }, by decide +kernel⟩,
    ⟨⟨0, 0, 2⟩, ⟨0, true, 0, 0, 0, 0, 0, 0, 0, 0⟩, ⟨0x10000, 2, 1, true, 1, false, 0, 0, 0, 96, 0, 0⟩, ⟨65536, 2, .opened, some 0, .own, 1, none, false, 0, 0⟩, sourceWaits, by decide +kernel⟩,
    ⟨⟨0, 3, 1⟩, { up with sched := { up.sched with overflow := [⟨0, 3, 1⟩] } }, by decide +kernel⟩,
    ⟨8, ⟨8, 3, 1⟩, [], { up with sched := { up.sched with tableOnly := [⟨8, 3, 1⟩] } }, by decide +kernel⟩,
    ⟨⟨0, 0, 2⟩, { up with sched := { up.sched with dl3 := [⟨0, 0, 2⟩], ops := [oneOp .active 9] } }, by decide +kernel⟩,
    ⟨7, 2, 39999999, 0, 5, ⟨0, true, 0, 0, 0, 0, 0, 0, 0, 0⟩, ⟨0x10000, 2, 1, true, 1, false, 0, 0, 0, 96, 0, 0⟩, { frame := 2, addr := 0, buf := someBuf, complete := true, closed := some 5, ready := some 5 }, ⟨65536, 2, .opened, some 0, .own, 1, none, false, 0, 0⟩, sourceState, by decide +kernel⟩,
    ⟨7, 2, 40001000, 0, sourceWaits, by decide +kernel⟩⟩

theorem witness_AdmissionCommandsTakeEffect :
    (∃ (w : Who) (g : Nat) (s : State), s.mayWrite w R.adm_REQUEST 0 = true ∧
      g < 64 ∧
      s.reg R.adm_BUSY = 0) ∧
    (∃ (us : Nat) (g : Nat) (m : Nat) (l : Nat) (s : State), s.adm.checking = some (g, m) ∧
      s.dusk.core1.haltedAt = none ∧
      s.scratch.recovery = [] ∧
      s.admissionCheck g = .inr l) ∧
    (∃ (us : Nat) (g : Nat) (m : Nat) (x : Refused) (s : State), s.adm.checking = some (g, m) ∧
      s.dusk.core1.haltedAt = none ∧
      s.scratch.recovery = [] ∧
      s.admissionCheck g = .inl x) ∧
    (∃ (w : Who) (g : Nat) (s : State), s.mayWrite w R.adm_RELEASE 0 = true ∧
      g < 64 ∧
      s.reg R.sadm_STATE g ≠ 0 ∧
      s.reg R.slot_STATE g = 1) ∧
    (∃ (g : Nat) (i : Nat) (s : State), g < 64 ∧
      s.reg R.sadm_STATE g = 1 ∧
      s.absentUnit g false = some i) :=
  ⟨⟨host, 63, up, by decide +kernel⟩,
    ⟨25, 63, 0, deliveryBound [] (({ withRegs up [(R.slot_STATE, 63, 1), (R.adm_BUSY, 0, 1), (R.cad_RATE_NUM, 0, 50), (R.cad_RATE_DEN, 0, 1)] with adm := { checking := some (63, 0) }, sched := { up.sched with graphs := [(63, emptyGraph)] } } : State).offsets []) 63, { withRegs up [(R.slot_STATE, 63, 1), (R.adm_BUSY, 0, 1), (R.cad_RATE_NUM, 0, 50), (R.cad_RATE_DEN, 0, 1)] with adm := { checking := some (63, 0) }, sched := { up.sched with graphs := [(63, emptyGraph)] } }, by decide +kernel⟩,
    ⟨25, 63, 0, ⟨1, 63, 0, 0⟩, { withRegs up [(R.adm_BUSY, 0, 1)] with adm := { checking := some (63, 0) } }, by decide +kernel⟩,
    ⟨host, 63, withRegs up [(R.slot_STATE, 63, 1), (R.sadm_STATE, 63, 2), (R.sadm_L, 63, 7)], by decide +kernel⟩,
    ⟨63, 419, { withRegs up [(R.sadm_STATE, 63, 1), (R.pres_RASTER, 0, 0xFFFFFFF7), (R.pres_RINGS, 0, 65535)] with sched := { up.sched with graphs := [(63, { nodes := [⟨0, 0, 0, 3, 0, 0, 0, 0, 0, 0, 0, 0, 0, 0, 0⟩] })] } }, by decide +kernel⟩⟩

theorem witness_PortsAndFlowsAreSwitched :
    (∃ (w : Who) (p : Nat) (ty : PortType) (s : State), s.mayWrite w R.eth_ENABLE p = true ∧
      s.reg R.eth_ENABLE p = 0 ∧
      portType (s.reg R.eth_TYPE p) = some ty ∧
      ((s.portLanes p).all fun l => s.lanePresent l && s.reg R.lane_MODE l == 1 && s.reg R.lane_LINE_RATE l == ty.rate && (s.portOf l).isNone && (ty.lanes != 8 || s.reg R.lane_MEDIUM l == 0)) = true) ∧
    (∃ (w : Who) (p : Nat) (s : State), s.mayWrite w R.eth_ENABLE p = true ∧
      s.reg R.eth_ENABLE p ≠ 0) ∧
    (∃ (w : Who) (f : Nat) (s : State), s.mayWrite w R.flow_COMMAND f = true ∧
      s.configureValues f = true ∧
      s.reg R.flow_STATE f = 0 ∧
      s.configureFull f = false) ∧
    (∃ (w : Who) (f : Nat) (s : State), s.mayWrite w R.flow_COMMAND f = true ∧
      s.reg R.flow_STATE f = 1) :=
  ⟨⟨host, 255, ⟨1, 10312500, false, 1250000⟩, withRegs up [(R.eth_TYPE, 255, 1), (R.lane_MODE, 255, 1), (R.lane_LINE_RATE, 255, 10312500)], by decide +kernel⟩,
    ⟨host, 255, withRegs up [(R.eth_ENABLE, 255, 1), (R.eth_TYPE, 255, 1), (R.eth_LINK, 255, 1)], by decide +kernel⟩,
    ⟨host, 262143, withRegs up [(R.eth_TYPE, 255, 1), (R.flow_PORT_A, 262143, 255)], by decide +kernel⟩,
    ⟨host, 262143, { withRegs up [(R.flow_STATE, 262143, 1)] with streams := { up.streams with active := [262143] } }, by decide +kernel⟩⟩


/-- A BOUND video flow 7 on port 255, whose version of frame 50 is open. -/
def videoIn : State :=
  { withRegs up [(R.eth_LINK, 255, 1), (R.eth_MAX_FRAME, 255, 1522), (R.flow_PORT_A, 7, 255), (R.flow_STATE, 7, 2), (R.flow_DEST_ADDR, 7, 2),
                 (R.flow_UDP_PORT, 7, 20000), (R.flow_SSRC, 7, 9), (R.flow_PT, 7, 96), (R.flow_HANDLE, 7, 0x10000)] with
    streams := { up.streams with active := [7], flows := [(7, { slot := 0, frames := [{ frame := 50, addr := 0, buf := ⟨0x10000, 2, 0, false, 1, true, 2, 1, 4, 96, 32, 0⟩ }] })] }
    store := { up.store with filled := [⟨0, 65536, 15, [], []⟩] }, sched := { up.sched with graphs := [(0, sinkGraph 2 1)] } }
def rowDatagram : Datagram := { datagram with srds := [⟨0, 0, 0, false⟩] }
def listens : State := withRegs up [(R.eth_LINK, 255, 1), (R.eth_MAX_FRAME, 255, 1522), (R.eth_IPV4, 255, 77)]
/-- A port that is UP with a frame of 64 bytes counted and in the buffer. -/
def entered (s : State) : State := ((s.advanceTo 5).inc R.eth_RX_FRAMES 255).ingressEnter 63 64

theorem witness_PortsReceiveFrames :
    (∃ (t : Nat) (p : Nat) (fr : EthFrame) (s : State), p < 256 ∧
      s.reg R.eth_LINK p ≠ 0 ∧
      ((s.advanceTo t).portSpoilt p = true ∨ fr.body = .fcsError ∨ s.reg R.eth_MAX_FRAME p < fr.length ∨ fr.length < 64)) ∧
    (∃ (t : Nat) (p : Nat) (fr : EthFrame) (s : State), p < 256 ∧
      s.reg R.eth_LINK p ≠ 0 ∧
      (s.advanceTo t).portSpoilt p = false ∧
      fr.body ≠ .fcsError ∧
      fr.length ≤ s.reg R.eth_MAX_FRAME p ∧
      64 ≤ fr.length ∧
      524288 < (s.advanceTo t).ingressFill (p / 4) + fr.length) ∧
    (∃ (t : Nat) (p : Nat) (f : Nat) (n : Nat) (d : Datagram) (u : State) (s : State), p < 256 ∧
      s.reg R.eth_LINK p ≠ 0 ∧
      (s.advanceTo t).portSpoilt p = false ∧
      n ≤ s.reg R.eth_MAX_FRAME p ∧
      64 ≤ n ∧
      (s.advanceTo t).ingressFill (p / 4) + n ≤ 524288 ∧
      u = (((s.advanceTo t).inc R.eth_RX_FRAMES p).ingressEnter (p / 4) n) ∧
      u.classify p d = some f) ∧
    (∃ (t : Nat) (p : Nat) (f : Nat) (n : Nat) (m : Nat) (k : Bool) (d : Datagram) (b : BufferRec) (l : List (Nat × Nat × Nat)) (u : State) (s : State), p < 256 ∧
      s.reg R.eth_LINK p ≠ 0 ∧
      (s.advanceTo t).portSpoilt p = false ∧
      n ≤ s.reg R.eth_MAX_FRAME p ∧
      64 ≤ n ∧
      (s.advanceTo t).ingressFill (p / 4) + n ≤ 524288 ∧
      u = (((s.advanceTo t).inc R.eth_RX_FRAMES p).ingressEnter (p / 4) n) ∧
      u.classify p d = some f ∧
      s.reg R.flow_PAIRED f = 0 ∧
      s.reg R.flow_STATE f = 2 ∧
      s.reg R.flow_KIND f = 0 ∧
      u.badRtp f d = false ∧
      u.openBuffer f m = some b ∧
      u.frameOfStamp (u.graph (u.flowRun f).slot).cad d.timestamp (u.regI R.flow_RTP_OFFSET f) = (some m, k) ∧
      ((u.flowRun f).position (d.extSeq % 65536 * 65536 + d.seq % 65536) = .first ∨ (u.flowRun f).position (d.extSeq % 65536 * 65536 + d.seq % 65536) = .above ∨ (u.flowRun f).position (d.extSeq % 65536 * 65536 + d.seq % 65536) = .fill) ∧
      placeRows b d.srds = some l) ∧
    (∃ (t : Nat) (p : Nat) (n : Nat) (d : Datagram) (u : State) (s : State), p < 256 ∧
      s.reg R.eth_LINK p ≠ 0 ∧
      (s.advanceTo t).portSpoilt p = false ∧
      n ≤ s.reg R.eth_MAX_FRAME p ∧
      64 ≤ n ∧
      (s.advanceTo t).ingressFill (p / 4) + n ≤ 524288 ∧
      u = (((s.advanceTo t).inc R.eth_RX_FRAMES p).ingressEnter (p / 4) n) ∧
      u.classify p d = none) ∧
    (∃ (t : Nat) (p : Nat) (n : Nat) (target : Nat) (mac : Nat) (ip : Nat) (u : State) (s : State), p < 256 ∧
      s.reg R.eth_LINK p ≠ 0 ∧
      (s.advanceTo t).portSpoilt p = false ∧
      n ≤ s.reg R.eth_MAX_FRAME p ∧
      64 ≤ n ∧
      (s.advanceTo t).ingressFill (p / 4) + n ≤ 524288 ∧
      u = (((s.advanceTo t).inc R.eth_RX_FRAMES p).ingressEnter (p / 4) n) ∧
      target = s.reg R.eth_IPV4 p) ∧
    (∃ (t : Nat) (p : Nat) (fr : EthFrame) (s : State), p < 256 ∧
      s.reg R.eth_LINK p = 0) ∧
    (∃ (t : Nat) (f : Nat) (n : Nat) (v : InFrame) (m : Nat × Nat) (ms : List (Nat × Nat)) (s : State), f < 262144 ∧
      s.inFrame? f n = some v ∧
      v.markers = m :: ms ∧
      v.closed = none ∧
      v.complete = false ∧
      (ms.map Prod.snd).foldl min m.2 + s.reg R.flow_MERGE_WINDOW f * 1000 ≤ (s.advanceTo t).now) ∧
    (∃ (t : Nat) (f : Nat) (n : Nat) (v : InFrame) (m : Nat × Nat) (ms : List (Nat × Nat)) (s : State), f < 262144 ∧
      s.inFrame? f n = some v ∧
      v.markers = m :: ms ∧
      v.closed = none ∧
      (ms.map Prod.snd).foldl min m.2 + s.reg R.flow_MERGE_WINDOW f * 1000 ≤ (s.advanceTo t).now) ∧
    (∃ (t : Nat) (f : Nat) (leg : Nat) (s : State), f < 262144 ∧
      leg < 2 ∧
      s.legged f = true ∧
      (s.reg R.flow_LEG_STATE f).testBit leg = true ∧
      ((s.flowRun f).legSeen.any fun p => p.1 == leg && decide (p.2 + s.reg R.flow_LEG_TIMEOUT f * 1000000 ≤ (s.advanceTo t).now)) = true) :=
  ⟨⟨5, 255, ⟨63, .fcsError⟩, withRegs up [(R.eth_LINK, 255, 1)], by decide +kernel⟩,
    ⟨0, 255, ⟨1522, .igmpQuery⟩, { listens with streams := { up.streams with ingress := [(63, (524288, 0))] } }, by decide +kernel⟩,
    ⟨5, 255, 7, 64, datagram, entered videoIn, videoIn, by decide +kernel⟩,
    ⟨1000000005, 255, 7, 64, 50, false, rowDatagram, ⟨0x10000, 2, 0, false, 1, true, 2, 1, 4, 96, 32, 0⟩, [(0, 0, 0)], (((videoIn.advanceTo 1000000005).inc R.eth_RX_FRAMES 255).ingressEnter 63 64), videoIn, by decide +kernel⟩,
    ⟨5, 255, 64, datagram, entered listens, listens, by decide +kernel⟩,
    ⟨5, 255, 64, 77, 1, 2, entered listens, listens, by decide +kernel⟩,
    ⟨5, 255, ⟨64, .igmpQuery⟩, up, by decide +kernel⟩,
    ⟨2000000, 7, 2, { frame := 2, addr := 0, buf := someBuf, markers := [(0, 1)] }, (0, 1), [], { withRegs up [(R.flow_MERGE_WINDOW, 7, 1000)] with streams := { up.streams with flows := [(7, { frames := [{ frame := 2, addr := 0, buf := someBuf, markers := [(0, 1)] }] })] } }, by decide +kernel⟩,
    ⟨2000000, 7, 2, { frame := 2, addr := 0, buf := someBuf, markers := [(0, 1)] }, (0, 1), [], { withRegs up [(R.flow_MERGE_WINDOW, 7, 1000)] with streams := { up.streams with flows := [(7, { frames := [{ frame := 2, addr := 0, buf := someBuf, markers := [(0, 1)] }] })] } }, by decide +kernel⟩,
    ⟨1000000, 7, 1, { withRegs up [(R.flow_LEG_TIMEOUT, 7, 1), (R.flow_PAIRED, 7, 1), (R.flow_STATE, 7, 2), (R.flow_LEG_STATE, 7, 3)] with streams := { up.streams with flows := [(7, { legSeen := [(1, 0)] })] } }, by decide +kernel⟩⟩

/-- A BOUND SDI flow 7 on lane 255 that receives as `x` says. -/
def sdiState (x : SdiIn) : State :=
  { withRegs up [(R.lane_MODE, 255, 2), (R.flow_KIND, 7, 4), (R.flow_STATE, 7, 2), (R.flow_PORT_A, 7, 255), (R.flow_HANDLE, 7, 65536)] with
    streams := { up.streams with active := [7], flows := [(7, { slot := 0, frames := [{ frame := 2, addr := 0, buf := ⟨65536, 2, 0, true, 1, false, 2, 1, 4, 96, 32, 0⟩ }] })], sdi := [(255, x)] },
    sched := { up.sched with graphs := [(0, { bufs := [⟨65536, 2, 0, true, 1, false, 2, 1, 4, 96, 32, 0⟩] })] } }

theorem witness_SdiLanesReceive :
    (∃ (t : Nat) (l : Nat) (f : Nat) (n : Nat) (s : State), l < 256 ∧
      s.reg R.lane_MODE l = 2 ∧
      s.sdiFlow l 0 = some f ∧
      s.reg R.flow_STATE f = 2 ∧
      n = (s.advanceTo t).frameAt (s.graph (s.flowRun f).slot).cad (s.advanceTo t).now ∧
      (s.sdiIn l).began ≠ some n) ∧
    (∃ (t : Nat) (l : Nat) (f : Nat) (n : Nat) (s : State), l < 256 ∧
      s.reg R.lane_MODE l = 2 ∧
      s.sdiFlow l 0 = some f ∧
      s.reg R.flow_STATE f = 2 ∧
      n = (s.advanceTo t).frameAt (s.graph (s.flowRun f).slot).cad (s.advanceTo t).now ∧
      (s.sdiIn l).began = some n) ∧
    (∃ (t : Nat) (l : Nat) (x : SdiLine) (s : State), l < 256 ∧
      s.reg R.lane_MODE l = 2 ∧
      (s.sdiIn l).frame = none) ∧
    (∃ (t : Nat) (l : Nat) (f : Nat) (n : Nat) (k : Nat) (data : List Byte) (b : BufferRec) (p : Nat × Nat × Nat) (s : State), l < 256 ∧
      s.reg R.lane_MODE l = 2 ∧
      s.sdiFlow l 0 = some f ∧
      (s.sdiIn l).frame = some n ∧
      s.openBuffer f n = some b ∧
      placeRow b ⟨k, 0, data.length, false⟩ = some p) ∧
    (∃ (t : Nat) (l : Nat) (x : SdiLine) (s : State), l < 256 ∧
      s.reg R.lane_MODE l ≠ 2) :=
  ⟨⟨40000000, 255, 7, 2, sdiState {}, by decide +kernel⟩,
    ⟨40000000, 255, 7, 2, sdiState { began := some 2 }, by decide +kernel⟩,
    ⟨5, 255, { line := none, lastActive := true, crcOk := false, payloadId := some 7, data := [], anc := [] }, sdiState {}, by decide +kernel⟩,
    ⟨5, 255, 7, 2, 0, [1, 2, 3, 4], ⟨65536, 2, 0, true, 1, false, 2, 1, 4, 96, 32, 0⟩, (0, 0, 4), sdiState { frame := some 2 }, by decide +kernel⟩,
    ⟨5, 255, { line := none, lastActive := true, crcOk := true, payloadId := none, data := [], anc := [] }, up, by decide +kernel⟩⟩



/-- A started SINK operation of flow 7, of the kind given, whose version is a picture of 2 by 1 pixels. -/
def egress (kind : Nat) (ops : List Oper) : State :=
  { withRegs up [(R.flow_KIND, 7, kind), (R.lane_MODE, 255, 2), (R.flow_STATE, 7, 2), (R.flow_DIR, 7, 1), (R.flow_PORT_A, 7, 255), (R.flow_HANDLE, 7, 65536),
                 (R.flow_ALIGN_OFS, 7, 60000)] with
    streams := { up.streams with active := [7], flows := [(7, { slot := 0 })], sdiOut := [(255, { picture := [1, 2, 3] })] },
    store := { up.store with filled := [⟨0, 4096, 15, [], []⟩] },
    sched := { up.sched with ops := ops, graphs := [(0, sinkGraph 2 1)], handles := [(0, ⟨0, 96, 2, 96, 0⟩)] } }
def sinkOp : Oper := ⟨0, 2, .active, false, 608, 100, 0, 9, 0, 0, false⟩
def picture : BufferRec := ⟨65536, 2, 0, false, 1, true, 2, 1, 4, 96, 32, 0⟩
def outFrame : State := (egress 4 [sinkOp]).silent.advanceTo 40060000

theorem witness_EgressTakesEffect :
    (∃ (t : Nat) (f : Nat) (o : Oper) (b : BufferRec) (s : State), f < 262144 ∧
      s.reg R.flow_STATE f = 2 ∧
      s.reg R.flow_DIR f = 1 ∧
      s.reg R.flow_KIND f ≠ 4 ∧
      s.isPeer f = false ∧
      (s.advanceTo t).launchable f = some (o, b) ∧
      (s.reg R.flow_ALIGN_OFS f = 0 ∨ s.markTime (s.graph (slotOf o.node)).cad o.frame + s.reg R.flow_ALIGN_OFS f ≤ (s.advanceTo t).now)) ∧
    (∃ (t : Nat) (p : Nat) (x : OutPacket) (s : State), p < 256 ∧
      nextPacket (tget (fun _ => []) s.streams.queues p) = some x ∧
      x.due ≤ (s.advanceTo t).now ∧
      s.reg R.eth_LINK p ≠ 0 ∧
      x.copy = 0) ∧
    (∃ (l : Nat) (n : Nat) (f : Nat) (u : State) (s : State), l < 256 ∧
      s.sdiFlow l 1 = some f ∧
      s.rasterOn l f = true ∧
      u = s.advanceTo (s.markTime (s.rasterCadence l f) n + s.reg R.flow_ALIGN_OFS f - 50000) ∧
      ((u.sinkOps f).any fun o => o.frame == n) = false) ∧
    (∃ (l : Nat) (n : Nat) (f : Nat) (s : State), l < 256 ∧
      s.sdiFlow l 1 = some f ∧
      s.rasterOn l f = true ∧
      s.sinkOps f = [] ∧
      (s.sdiOut l).picture ≠ []) ∧
    (∃ (l : Nat) (n : Nat) (f : Nat) (o : Oper) (b : BufferRec) (pic : List Byte) (met : Bool) (u : State) (v : State) (s : State), l < 256 ∧
      s.sdiFlow l 1 = some f ∧
      s.rasterOn l f = true ∧
      s.tripping = false ∧
      u = s.silent.advanceTo (s.markTime (s.rasterCadence l f) n + s.reg R.flow_ALIGN_OFS f) ∧
      (u.sinkOps f).find? (fun o => o.frame == n) = some o ∧
      ((u.sinkOps f).all fun o => decide (n ≤ o.frame)) = true ∧
      (s.sdiOut l).repeating ≠ some n ∧
      u.sinkBuffer o = some b ∧
      u.sdiPicture f l (u.sinkInput o).1 b = (v, pic, met)) :=
  ⟨⟨50000000, 7, sinkOp, picture, egress 0 [sinkOp], by decide +kernel⟩,
    ⟨5, 255, ⟨5, 7, 1, 2, 3, true, [], [], [1], 0⟩, { withRegs up [(R.eth_LINK, 255, 1)] with streams := { up.streams with queues := [(255, [⟨5, 7, 1, 2, 3, true, [], [], [1], 0⟩])] } }, by decide +kernel⟩,
    ⟨255, 2, 7, (egress 4 []).advanceTo 40010000, egress 4 [], by decide +kernel⟩,
    ⟨255, 2, 7, egress 4 [], by decide +kernel⟩,
    ⟨255, 2, 7, sinkOp, picture, (outFrame.sdiPicture 7 255 (outFrame.sinkInput sinkOp).1 picture).2.1, false, outFrame, (outFrame.sdiPicture 7 255 (outFrame.sinkInput sinkOp).1 picture).1, egress 4 [sinkOp], by decide +kernel⟩⟩



/-- An operation the scheduler has prefetched for operator `o`, and one it has ordered that operator to abandon, which the operator runs. -/
def prefetchedFor (o : Nat) : State := { up with sched := { up.sched with ops := [⟨0, 2, .prefetched, true, o, 100, 0, 9, 0, 0, false⟩] } }
def abandons (o : Nat) : State :=
  { up.setRun o (some convRun) with sched := { up.sched with ops := [⟨0, 2, .active, true, o, 100, 0, 9, 0, 0, true⟩] } }
def badPrefetched : State := { convPrefetched with scratch := (opState 0 0 [1 ||| 4 <<< 16 ||| 4 <<< 22, 0, 0]).scratch }

theorem witness_OperationsRun :
    (∃ (t : Nat) (o : Nat) (p : Oper) (s : State), 32 ≤ o ∧
      o < 608 ∧
      s.runOp o = none ∧
      s.prefetched? o = some p ∧
      s.sched.dl3.length < 4096) ∧
    (∃ (t : Nat) (o : Nat) (r : RunOp) (l : List Byte) (u : State) (s : State), o < 32 ∧
      s.runOp o = none ∧
      ((s.advanceTo t).silent.startOp o).runOp o = some r ∧
      (((s.advanceTo t).silent.startOp o).setReg R.eng_STATE o 1).readParams r.node 0 3 = (u, some l) ∧
      (convParams l).check (u.outRegion r.node) (decide (1 ≤ (u.inAddrs r.node r.frame).length)) (decide (2 ≤ (u.inAddrs r.node r.frame).length)) (decide (3 ≤ (u.inAddrs r.node r.frame).length)) = 0) ∧
    (∃ (t : Nat) (o : Nat) (code : Nat) (r : RunOp) (l : List Byte) (u : State) (s : State), o < 32 ∧
      s.runOp o = none ∧
      ((s.advanceTo t).silent.startOp o).runOp o = some r ∧
      (((s.advanceTo t).silent.startOp o).setReg R.eng_STATE o 1).readParams r.node 0 3 = (u, some l) ∧
      (convParams l).check (u.outRegion r.node) (decide (1 ≤ (u.inAddrs r.node r.frame).length)) (decide (2 ≤ (u.inAddrs r.node r.frame).length)) (decide (3 ≤ (u.inAddrs r.node r.frame).length)) = code ∧
      code ≠ 0) ∧
    (∃ (t : Nat) (e : Nat) (n : Nat) (out : Nat) (r : RunOp) (l : List Byte) (u : State) (u2 : State) (u3 : State) (tab : ConvTables) (rr : ReadRun) (rows : InRows) (s : State), e < 32 ∧
      (s.advanceTo t).silent.runOp e = some r ∧
      r.aborting = false ∧
      r.fault = 0 ∧
      s.engineWriting e = false ∧
      r.met = 0 ∧
      ((s.advanceTo t).silent.add R.eng_TABLE_CORRECTED e n).readParams r.node 0 3 = (u, some l) ∧
      u2 = (u.add R.eng_PIXELS_IN e (convParams l).pixelsIn).add R.eng_PIXELS_OUT e ((convParams l).pixelsOut (u.outRegion r.node)) ∧
      u2.readTables e r.node (convParams l) (nth (u.inAddrs r.node r.frame) 2 0) = (u3, some tab) ∧
      (ReadRun.mk u3 0 false).rows e (convParams l) (u.inAddrs r.node r.frame) 0 ((convParams l).cropH / unitH (convParams l).inFormat) = (rr, rows) ∧
      rr.stopped = false ∧
      rr.met = 0 ∧
      rr.s.sched.arrived = [] ∧
      rr.s.outAddr r.node r.frame = some out) ∧
    (∃ (t : Nat) (m : Nat) (out : Nat) (h : Nat) (r : RunOp) (block : List Byte) (u : State) (v : State) (flagged : Bool) (eb : EdgeRec × BufferRec) (s : State), m < 64 ∧
      (s.advanceTo t).silent.runOp (m + 32) = some r ∧
      (s.advanceTo t).silent.readParams r.node 0 (if (s.nodeRec r.node).opclass = 3 then 2 else 1) = (u, some block) ∧
      leAt block 0 2 = (s.nodeRec r.node).opclass + 2 ∧
      (u.setRun (m + 32) none).outBuffer r.node = some eb ∧
      (u.setRun (m + 32) none).outAddr r.node r.frame = some out ∧
      nth ((u.setRun (m + 32) none).inAddrs r.node r.frame) 0 0 = h ∧
      (u.setRun (m + 32) none).moveWork m (s.nodeRec r.node).opclass r.node out h eb.1 eb.2 block = (v, flagged)) ∧
    (∃ (t : Nat) (o : Nat) (tag : Nat) (r : RunOp) (s : State), o < 32 ∧
      s.runOp o = some r ∧
      r.aborting = false ∧
      s.fullTag r = tag ∧
      s.abortOrdered o tag = true) ∧
    (∃ (t : Nat) (o : Nat) (tag : Nat) (r : RunOp) (s : State), 32 ≤ o ∧
      o < 96 ∧
      s.runOp o = some r ∧
      r.aborting = false ∧
      s.fullTag r = tag ∧
      s.abortOrdered o tag = true) ∧
    (∃ (t : Nat) (o : Nat) (tag : Nat) (r : RunOp) (s : State), 96 ≤ o ∧
      o < 608 ∧
      s.runOp o = some r ∧
      r.aborting = false ∧
      s.fullTag r = tag ∧
      s.abortOrdered o tag = true) ∧
    (∃ (t : Nat) (e : Nat) (r : RunOp) (s : State), e < 32 ∧
      s.runOp e = some r ∧
      r.aborting = true ∧
      s.engineWriting e = false) :=
  ⟨⟨5, 607, ⟨0, 2, .prefetched, true, 607, 100, 0, 9, 0, 0, false⟩, prefetchedFor 607, by decide +kernel⟩,
    ⟨5, 0, { node := 0, frame := 2, tag := 9, start := 5 }, ((((convPrefetched.advanceTo 5).silent.startOp 0).setReg R.eng_STATE 0 1).readParams 0 0 3).2.getD [], ((((convPrefetched.advanceTo 5).silent.startOp 0).setReg R.eng_STATE 0 1).readParams 0 0 3).1, convPrefetched, by decide +kernel⟩,
    ⟨5, 0, 1, { node := 0, frame := 2, tag := 9, start := 5 }, ((((badPrefetched.advanceTo 5).silent.startOp 0).setReg R.eng_STATE 0 1).readParams 0 0 3).2.getD [], ((((badPrefetched.advanceTo 5).silent.startOp 0).setReg R.eng_STATE 0 1).readParams 0 0 3).1, badPrefetched, by decide +kernel⟩,
    ⟨5, 0, 1, 4096, convRun, convL, convU, convU2, convU3.1, convU3.2.getD ⟨[], [], [], []⟩, convRows.1, convRows.2, convRunning, by decide +kernel, by decide +kernel, by decide +kernel, by decide +kernel, by decide +kernel, by decide +kernel, by decide +kernel, by decide +kernel, by decide +kernel, (Prod.eta convRows).symm, by decide +kernel, by decide +kernel, by decide +kernel, by decide +kernel⟩,
    ⟨5, 0, 4096, 0, convRun, copyRead.2.getD [], copyRead.1, copyDone.1, copyDone.2, (⟨1, true, 0, 0, 0, 0, 0, 0, 0, 0⟩, ⟨0x10001, 2, 0, false, 1, false, 2, 1, 4, 32, 32, 0⟩), copyRunning, by decide +kernel⟩,
    ⟨5, 31, 9, convRun, abandons 31, by decide +kernel⟩,
    ⟨5, 95, 9, convRun, abandons 95, by decide +kernel⟩,
    ⟨5, 607, 9, convRun, abandons 607, by decide +kernel⟩,
    ⟨5, 31, { convRun with aborting := true }, up.setRun 31 (some { convRun with aborting := true }), by decide +kernel⟩⟩

theorem witness_PcControllerRuns :
    (∃ (n : Nat) (r : PcReq) (s : State), n < 128 ∧
      s.reg R.pc_STATE n ≠ 2 ∧
      r ∉ s.movingTo n ∧
      s.pcRoom n 1 r.vc = true ∧
      (r.write = true → (s.pcState n).writeBack = none)) ∧
    (∃ (n : Nat) (r : PcReq) (s : State), n < 128 ∧
      s.reg R.pc_STATE n = 2 ∧
      r.write = true) ∧
    (∃ (n : Nat) (b : Nat) (e : PcEntry) (u : State) (s : State), n < 128 ∧
      s.reg R.pc_STATE n < 2 ∧
      s.reg R.stk_CHANGING (n / 32) = 0 ∧
      s.inWindow n = false ∧
      u = s.silent.fillEntries n 96 ∧
      (u.pcState n).nextBank (u.burstLimit n) = some b ∧
      bankHead ((u.pcState n).servable (u.burstLimit n)) b = some e ∧
      e.scrub = false ∧
      e.req.write = true ∧
      (s.locate e.req.addr).index = n ∧
      e.req.poison = false ∧
      e.req.mask % 2 ^ 32 = fullMask ∧
      (s.pcState n).writeBack = none) ∧
    (∃ (n : Nat) (b : Nat) (d : Nat) (e : PcEntry) (u : State) (v : State) (s : State), n < 128 ∧
      s.reg R.pc_STATE n < 2 ∧
      s.reg R.stk_CHANGING (n / 32) = 0 ∧
      s.inWindow n = false ∧
      u = s.silent.fillEntries n 96 ∧
      (u.pcState n).nextBank (u.burstLimit n) = some b ∧
      bankHead ((u.pcState n).servable (u.burstLimit n)) b = some e ∧
      e.scrub = false ∧
      e.req.write = false ∧
      State.readNow (((if (u.pcState n).throttledBurst (u.burstLimit n) then u.inc R.pc_BE_THROTTLED n else u).onPc n fun p => p.served (u.burstLimit n) b e).pcOcc n) e.req.addr = (v, some d)) ∧
    (∃ (n : Nat) (b : Nat) (s : State), n < 128 ∧
      b < 64 ∧
      ((s.pcState n).entries.any fun e => e.bank == b) = false) ∧
    (∃ (n : Nat) (b : Nat) (s : State), n < 128 ∧
      b < 64 ∧
      s.reg R.pc_STATE n < 2 ∧
      s.storeRuns = true ∧
      s.reg R.stk_CHANGING (n / 32) = 0) ∧
    (∃ (n : Nat) (b : Nat) (s : State), n < 128 ∧
      b < 64 ∧
      s.reg R.pc_STATE n < 2 ∧
      s.reg R.stk_CHANGING (n / 32) = 0 ∧
      tget (fun _ => 0) (s.pcState n).debts b ≠ 0 ∧
      (((s.pcState n).entries.any fun e => e.bank == b) = false ∨ 8 ≤ tget (fun _ => 0) (s.pcState n).debts b)) :=
  ⟨⟨127, ⟨96, true, 2 ^ 32 - 1, 5, false, .vc0, 3, 1⟩, up, by decide +kernel⟩,
    ⟨127, ⟨96, true, 2 ^ 32 - 1, 5, false, .vc0, 3, 1⟩, withRegs up [(R.pc_STATE, 127, 2)], by decide +kernel⟩,
    ⟨33, 0, { writeEntry with bank := 0, row := 0 }, (withPc up 33 { entries := [{ writeEntry with bank := 0, row := 0 }] }).silent.fillEntries 33 96, withPc up 33 { entries := [{ writeEntry with bank := 0, row := 0 }] }, by decide +kernel⟩,
    ⟨127, 63, 0, readEntry, readWaits.silent.fillEntries 127 96, ((readWaits.silent.onPc 127 fun p => p.served (readWaits.burstLimit 127) 63 readEntry).pcOcc 127 |>.readNow 96).1, readWaits, by decide +kernel⟩,
    ⟨127, 63, withPc up 127 { openRows := [(63, 5)] }, by decide +kernel⟩,
    ⟨127, 63, up, by decide +kernel⟩,
    ⟨127, 63, withPc up 127 { entries := [readEntry], debts := [(63, 8)], openRows := [(63, 5)] }, by decide +kernel⟩⟩

theorem witness_SweepsAndDegradedPcs :
    (∃ (n : Nat) (pass : Nat) (s : State), n < 128 ∧
      s.reg R.pc_STATE n < 2 ∧
      s.reg R.stk_CHANGING (n / 32) = 0 ∧
      s.storeRuns = true ∧
      (s.pcState n).sweeping = true ∧
      (s.pcState n).cand < 64) ∧
    (∃ (n : Nat) (s : State), n < 128 ∧
      s.reg R.pc_STATE n < 2 ∧
      (s.pcState n).sweeping = true ∧
      64 ≤ (s.pcState n).cand ∧
      (∀ l, l < 37 → (nth ((s.pcState n).passes.map chosenSetting) l none).isSome = true)) ∧
    (∃ (n : Nat) (k : Nat) (s : State), n < 128 ∧
      s.reg R.pc_STATE n < 2 ∧
      (s.pcState n).sweeping = true ∧
      64 ≤ (s.pcState n).cand ∧
      s.reg R.pc_DEAD_LANE n = 0xFF ∧
      k < 36 ∧
      (∀ l, l < 37 → (nth ((s.pcState n).passes.map chosenSetting) l none).isSome = (l != k))) ∧
    (∃ (n : Nat) (s : State), n < 128 ∧
      s.reg R.pc_STATE n < 2 ∧
      (s.pcState n).sweeping = true ∧
      64 ≤ (s.pcState n).cand ∧
      nth ((s.pcState n).passes.map chosenSetting) 36 none = none) ∧
    (∃ (n : Nat) (s : State), n < 128 ∧
      s.reg R.pc_STATE n < 2 ∧
      (s.pcState n).sweeping = false) ∧
    (∃ (t : Nat) (n : Nat) (s : State), n < 128 ∧
      s.reg R.pc_STATE n = 1 ∧
      (s.pcState n).degradedAt + 1000000000 ≤ (s.advanceTo t).mono) :=
  ⟨⟨127, 1, withPc up 127 { cand := 63 }, by decide +kernel⟩,
    ⟨127, withPc up 127 { cand := 64, passes := List.replicate 37 (2 ^ 64 - 1) }, by decide +kernel⟩,
    ⟨127, 35, withPc up 127 { cand := 64, passes := List.replicate 35 (2 ^ 64 - 1) ++ [7, 2 ^ 64 - 1] }, by decide +kernel⟩,
    ⟨127, withPc up 127 { cand := 64 }, by decide +kernel⟩,
    ⟨127, withPc up 127 { sweeping := false }, by decide +kernel⟩,
    ⟨1000000000, 127, withRegs up [(R.pc_STATE, 127, 1)], by decide +kernel⟩⟩

theorem witness_StacksChange :
    (∃ (t : Nat) (n : Nat) (g : Nat) (s : State), n < 128 ∧
      g < 386 ∧
      s.reg R.pc_STATE n = 2 ∧
      g ∉ (s.pcState n).recorded ∧
      (s.advanceTo t).isMasterStop g = true) ∧
    (∃ (w : Who) (k : Nat) (v : Nat) (s : State), s.mayWrite w R.stk_MAP k = true ∧
      v ≤ 2 ∧
      s.anyHandle = false) ∧
    (∃ (w : Who) (k : Nat) (r : Nat) (s : State), s.mayWrite w R.stk_RATE_CMD k = true ∧
      r ≤ 2 ∧
      (∀ j, j < 4 → s.reg R.stk_CHANGING j = 0) ∧
      k ∉ s.power.refreshing ∧
      s.reg R.dom_STATE k = 0 ∧
      (s.reg R.stk_RATES_OK k).testBit r = true ∧
      (∀ g, g < 64 → s.reg R.sadm_STATE g = 0) ∧
      (∀ p, p < 32 → s.reg R.pcb_DEMAND (k * 32 + p) ≤ rateCeiling r)) ∧
    (∃ (t : Nat) (k : Nat) (failed : List Nat) (s : State), k < 4 ∧
      s.reg R.stk_CHANGING k ≠ 0 ∧
      (∀ n, (s.pcState n).fenceLater = none)) ∧
    (∃ (k : Nat) (temp : Int) (s : State), k < 4 ∧
      s.reg R.stk_THROTTLED k = 0 ∧
      s.regI R.stk_THROTTLE_TEMP k ≤ temp) ∧
    (∃ (k : Nat) (temp : Int) (s : State), k < 4 ∧
      s.reg R.stk_THROTTLED k ≠ 0 ∧
      temp < s.regI R.stk_THROTTLE_TEMP k - 3) :=
  ⟨⟨5, 127, 385, withRegs up [(R.pc_STATE, 127, 2)], by decide +kernel⟩,
    ⟨host, 3, 2, up, by decide +kernel⟩,
    ⟨host, 3, 2, withRegs up [(R.stk_RATES_OK, 3, 7)], by decide +kernel⟩,
    ⟨5, 3, [127], withRegs up [(R.stk_CHANGING, 3, 1)], by decide +kernel, by decide +kernel, fun _ => rfl⟩,
    ⟨3, 95, withRegs up [(R.stk_THROTTLE_TEMP, 3, 95)], by decide +kernel⟩,
    ⟨3, 91, withRegs up [(R.stk_THROTTLE_TEMP, 3, 95), (R.stk_THROTTLED, 3, 1)], by decide +kernel⟩⟩


/-- A scrub access of the word at 96 on PC 33, which waits alone, and a PC that serves it next. -/
def scrubEntry (write : Bool) : PcEntry := ⟨⟨96, write, 0, 0, false, .vc1, 0, 0⟩, 0, 0, true, 0⟩
def scrubServed (p : PcState) (c : CodeWord) : State := (withPc up 33 p).putCodeWord 96 c

theorem witness_StoreServicesTakeEffect :
    (∃ (w : Who) (n : Nat) (mask : Nat) (s : State), s.mayWrite w R.mlog_VALID n = true) ∧
    (∃ (w : Who) (base : Nat) (len : Nat) (s : State), s.mayWrite w R.code_FILL 0 = true ∧
      fillRangeOk base len = true ∧
      s.store.fill = none ∧
      (∀ j, j < 4 → s.reg R.stk_CHANGING j = 0) ∧
      (s.sched.handles.any fun p => s.on R.hdl_USERS p.1 && p.2.meets base len) = false) ∧
    (∃ (j : FillJob) (s : State), s.store.fill = some j ∧
      (∀ n, n < 128 → s.fillWaits j n = false)) ∧
    (∃ (j : FillJob) (n : Nat) (s : State), s.store.fill = some j ∧
      n < 128 ∧
      s.fillWaits j n = true) ∧
    (∃ (j : FillJob) (s : State), s.store.fill = some j ∧
      (∀ n, n < 128 → s.fillWaits j n = false) ∧
      (∀ n, n < 128 → ∀ e ∈ (s.pcState n).entries, e.scrub = true ∨ e.req.addr < j.base ∨ j.base + j.len ≤ e.req.addr)) ∧
    (∃ (w : Who) (a : Nat) (s : State), s.mayWrite w R.code_RETIRE_ROW 0 = true ∧
      a < frameStoreEnd ∧
      s.retireBlocked ⟨(s.locate a).index, (s.locate a).bank, some (s.locate a).row⟩ = false ∧
      (s.store.retired.filter fun x => x.row.isSome).length < 4096) ∧
    (∃ (w : Who) (v : Nat) (s : State), s.mayWrite w R.code_RETIRE_BANK 0 = true ∧
      v < 2 ^ 14 ∧
      v.testBit 7 = false ∧
      s.retireBlocked ⟨v % 128, v / 256, none⟩ = false ∧
      (s.store.retired.filter fun x => x.row.isNone).length < 16) ∧
    (∃ (n : Nat) (w : WriteBack) (s : State), n < 128 ∧
      s.reg R.pc_STATE n < 2 ∧
      s.reg R.stk_CHANGING (n / 32) = 0 ∧
      ((s.pcState n).entries.any fun e => e.scrub) = false ∧
      (s.pcState n).writeBack = some w) ∧
    (∃ (n : Nat) (i : Nat) (s : State), n < 128 ∧
      s.reg R.pc_STATE n < 2 ∧
      s.reg R.stk_CHANGING (n / 32) = 0 ∧
      ((s.pcState n).entries.any fun e => e.scrub) = false ∧
      (s.pcState n).writeBack = none ∧
      s.store.valid ≠ [] ∧
      s.nextScrub n = some i) ∧
    (∃ (n : Nat) (b : Nat) (e : PcEntry) (w : WriteBack) (u : State) (s : State), n < 128 ∧
      s.reg R.pc_STATE n < 2 ∧
      s.reg R.stk_CHANGING (n / 32) = 0 ∧
      s.inWindow n = false ∧
      u = s.silent.fillEntries n 96 ∧
      (u.pcState n).nextBank (u.burstLimit n) = some b ∧
      bankHead ((u.pcState n).servable (u.burstLimit n)) b = some e ∧
      e.scrub = true ∧
      e.req.write = true ∧
      (u.pcState n).writeBack = some w) ∧
    (∃ (n : Nat) (b : Nat) (d : Nat) (j : Nat) (x : Nat) (c : CodeWord) (e : PcEntry) (u : State) (s : State), n < 128 ∧
      s.reg R.pc_STATE n = 0 ∧
      s.reg R.stk_CHANGING (n / 32) = 0 ∧
      s.inWindow n = false ∧
      u = s.silent.fillEntries n 96 ∧
      (u.pcState n).nextBank (u.burstLimit n) = some b ∧
      bankHead ((u.pcState n).servable (u.burstLimit n)) b = some e ∧
      e.scrub = true ∧
      e.req.write = false ∧
      s.codeWord e.req.addr = some c ∧
      decodeWord c (s.deadSymbol n) = .corrected d j x ∧
      s.deadSymbol n ≠ some j) ∧
    (∃ (b : Nat) (w : WriteBack) (s : State), b < 512 ∧
      s.phase = .run ∧
      s.reg R.pow_STATE = 0 ∧
      s.scratch.wiping = false ∧
      tget (fun _ => none) s.scratch.writeBack b = some w) :=
  ⟨⟨host, 143, 5, withRegs up [(R.mlog_VALID, 143, 65535)], by decide +kernel⟩,
    ⟨host, 0, frameStoreEnd, up, by decide +kernel⟩,
    ⟨⟨0, 32, false⟩, { up with store := { up.store with fill := some ⟨0, 32, false⟩ } }, by decide +kernel⟩,
    ⟨⟨0, 32, false⟩, 0, { withRegs up [(R.pc_STATE, 0, 3)] with store := { up.store with fill := some ⟨0, 32, false⟩ } }, by decide +kernel⟩,
    ⟨⟨0, 32, false⟩, { up with store := { up.store with fill := some ⟨0, 32, false⟩ } }, by decide +kernel⟩,
    ⟨host, frameStoreEnd - 1, up, by decide +kernel⟩,
    ⟨host, 16255, up, by decide +kernel⟩,
    ⟨33, ⟨96, 0, true, 0⟩, withPc up 33 { writeBack := some ⟨96, 0, true, 0⟩ }, by decide +kernel⟩,
    ⟨0, 0, scrubbed, by decide +kernel⟩,
    ⟨33, 0, scrubEntry true, ⟨96, poisonWord, true, 1⟩, (scrubServed { entries := [scrubEntry true], writeBack := some ⟨96, poisonWord, true, 1⟩ } 1).silent.fillEntries 33 96, scrubServed { entries := [scrubEntry true], writeBack := some ⟨96, poisonWord, true, 1⟩ } 1, by decide +kernel⟩,
    ⟨33, 0, 5, 20, 128, addSymbol (encodeWord 5) 20 128, scrubEntry false, (scrubServed { entries := [scrubEntry false] } (addSymbol (encodeWord 5) 20 128)).silent.fillEntries 33 96, scrubServed { entries := [scrubEntry false] } (addSymbol (encodeWord 5) 20 128), by decide +kernel⟩,
    ⟨511, ⟨32, 0, false, 0⟩, { up with scratch := { up.scratch with writeBack := [(511, some ⟨32, 0, false, 0⟩)] } }, by decide +kernel⟩⟩

/-- A read of one word on PC 127 by raster engine 0, queued at the PC's own stop, and a state that holds some flits in one buffer. -/
def pcRead : Flit := withCrc (mkFlit (rasterStop 0) (pcStop 127) .vc1 .read 5 0 true (encodeWord (requestWord (addressIn 0 ⟨3, 31, 0, 0, 0⟩) 1 false)) none false false none)
def queued (s : State) (input : Nat) (vc : VC) (l : List Flit) : State := s.setBuffer input vc (l.map fun f => ⟨0, 512, f, false⟩)

theorem witness_RingEpochsAndStarvation :
    (∃ (t : Nat) (c : Nat) (s : State), s.rings.swapAt = some c) ∧
    (∃ (t : Nat) (s : State), s.on R.rsys_DRAINING = true ∧
      s.oldFlits = 0) ∧
    (∃ (t : Nat) (s : State), s.on R.rsys_DRAINING = true ∧
      s.rings.drainStart + 2000 ≤ (s.advanceTo t).mono ∧
      s.oldFlits ≠ 0) ∧
    (∃ (a : ArbId) (c : Contender) (s : State), a.wf = true ∧
      (s.contenders a).filter (fun x => vcClass x.vc == 2 && !s.rings.starved.contains (x.input, x.vc, x.stamp) && !(s.rings.holding.any fun h => h.input == x.input && h.vc == x.vc)) = [c]) :=
  ⟨⟨5, 2048, { up with rings := { up.rings with swapAt := some 2048 } }, by decide +kernel⟩,
    ⟨5, withRegs up [(R.rsys_DRAINING, 0, 1)], by decide +kernel⟩,
    ⟨2000, { withRegs up [(R.rsys_DRAINING, 0, 1), (R.rsys_EPOCH, 0, 1)] with rings := { up.rings with out := [(0, [(0, readFlit)])] } }, by decide +kernel⟩,
    ⟨.pc 127, ⟨3 * pcStop 127, .vc1, rasterStop 0, 0⟩, queued up (3 * pcStop 127) .vc1 [pcRead], by decide +kernel⟩⟩



/-- Every ring present, and a transfer that stop 3 holds. -/
def ringsUp : State := withRegs up [(R.pres_RINGS, 0, 65535)]
def holds (h : HeldTransfer) : State := { up with rings := { up.rings with held := [h] } }
/-- The first cycle of stop 5's direction 0, when its injected flits have been settled. -/
def sends : State := queued ringsUp (inputOf 5 2) .vc1 [readFlit]
def sendsAt : State := (sends.waitCycle (max sends.ringCycle (tget (fun _ => 0) sends.rings.sentLast 10))) |>.each [0, 1, 2] (fun s i => s.settleInput (inputOf 5 i)) |>.orderLocal 5 0

theorem witness_RingsCarryTransfers :
    (∃ (g : Nat) (r : MasterReq) (l : List Nat) (run : List (Nat × Nat)) (more : List (List (Nat × Nat))) (s : State), g < 386 ∧
      s.isMasterStop g = true ∧
      s.servesMaster g r = true ∧
      r.kind ≠ .fabric ∧
      r.write = false ∧
      r.mirror = false ∧
      (∀ h ∈ s.rings.held, h.stop = g → h.tag = r.tag → r.tag = 0) ∧
      s.engineAborting r = false ∧
      (∀ a ∈ r.addr :: l, s.mayAccess r.kind r.unit false false a = true) ∧
      (∀ a ∈ l, s.mirrorRange a = none) ∧
      s.wordAddrs r.addr ((r.count - 1) % 16 + 1) = some l ∧
      s.runsOf (l.map some).zipIdx = run :: more) ∧
    (∃ (g : Nat) (r : MasterReq) (l : List Nat) (runs : List (List (Nat × Nat))) (s : State), g < 386 ∧
      s.isMasterStop g = true ∧
      s.servesMaster g r = true ∧
      r.kind ≠ .fabric ∧
      r.write = true ∧
      r.posted = false ∧
      (r.masked = true → r.words.length = 1) ∧
      r.tag ≠ 0 ∧
      (∀ h ∈ s.rings.held, h.stop = g → h.tag ≠ r.tag) ∧
      s.engineAborting r = false ∧
      (∀ a ∈ r.addr :: l, s.mayAccess r.kind r.unit true r.mirror a = true) ∧
      (∀ a ∈ l, s.mirrorRange a = none) ∧
      s.wordAddrs r.addr (r.words.take 16).length = some l ∧
      runs = s.runsOf (l.map some).zipIdx ∧
      runs ≠ []) ∧
    (∃ (g : Nat) (dir : Nat) (i : Nat) (vc : VC) (b : Buffered) (v : State) (s : State), g < 384 ∧
      dir < 2 ∧
      s.ringPresent (g / 24) = true ∧
      s.detourSegment (g / 24) ≠ segmentOut g dir ∧
      v = ((s.waitCycle (max s.ringCycle (tget (fun _ => 0) s.rings.sentLast (2 * g + dir)))).each [0, 1, 2] (fun s i => s.settleInput (inputOf g i))).orderLocal g dir ∧
      v.pick g dir = some (i, vc) ∧
      v.sendable g dir i vc = some b) ∧
    (∃ (g : Nat) (dir : Nat) (f : Flit) (d0 : Nat) (d1 : Nat) (s : State), g < 384 ∧
      dir < 2 ∧
      s.ringPresent (g / 24) = true ∧
      s.detourSegment (g / 24) ≠ segmentIn g dir ∧
      (∀ vc, s.buffer (inputOf g dir) vc = []) ∧
      f.crc = flitCrc f ∧
      isWrite f = false ∧
      flitDst f ≠ g ∧
      leavesRing g f = false ∧
      decodeWord f.word0 none = .clean d0 ∧
      decodeWord f.word1 none = .clean d1) ∧
    (∃ (g : Nat) (dir : Nat) (side : Nat) (s : State), g < 384 ∧
      dir < 2 ∧
      side / 2 ^ 64 % 256 = crc8From0 64 (side % 2 ^ 64) ∧
      side.testBit 36 = false ∧
      side.testBit 60 = false) ∧
    (∃ (g : Nat) (tag : Nat) (h : HeldTransfer) (s : State), g < 386 ∧
      1 < h.left ∧
      s.rings.held.find? (fun x => x.stop == g && x.tag == tag && x.write) = some h) ∧
    (∃ (g : Nat) (tag : Nat) (h : HeldTransfer) (s : State), g < 386 ∧
      h.left ≤ 1 ∧
      h.kind ≠ .fabric ∧
      h.kind ≠ .steward ∧
      s.rings.held.find? (fun x => x.stop == g && x.tag == tag && x.write) = some h) ∧
    (∃ (g : Nat) (tag : Nat) (ws : List (Nat × Bool)) (vs : List (Nat × Bool)) (h : HeldTransfer) (s : State), g < 386 ∧
      h.kind ≠ .fabric ∧
      h.kind ≠ .steward ∧
      h.kind ≠ .raster ∧
      h.asks.length ≤ 1 ∧
      h.words ws = vs ∧
      vs.length = h.addrs.length ∧
      (∀ w ∈ vs, w.2 = false) ∧
      s.rings.held.find? (fun x => x.stop == g && x.tag == tag && !x.write) = some h) ∧
    (∃ (g : Nat) (tag : Nat) (ws : List (Nat × Bool)) (h : HeldTransfer) (s : State), g < 386 ∧
      1 < h.asks.length ∧
      s.rings.held.find? (fun x => x.stop == g && x.tag == tag && !x.write) = some h) :=
  ⟨⟨rasterStop 31, ⟨.raster, 31, false, false, false, 0, 1, false, .vc1, 5, [], 0⟩, [0], [(0, 0)], [], ringsUp, by decide +kernel⟩,
    ⟨rasterStop 31, ⟨.raster, 31, true, false, false, 0, 1, false, .vc1, 5, [7, 8], 0⟩, [0, 4096], ringsUp.runsOf [(some 0, 0), (some 4096, 1)], ringsUp, by decide +kernel⟩,
    ⟨5, 0, 2, .vc1, ⟨0, 512, readFlit, false⟩, sendsAt, sends, by decide +kernel⟩,
    ⟨9, 0, readFlit, 0, 0, { ringsUp with rings := { up.rings with out := [(16, [(3, readFlit)])] } }, by decide +kernel, by decide +kernel, by decide +kernel, by decide +kernel, (by intro vc; cases vc <;> decide), by decide +kernel, by decide +kernel, by decide +kernel, by decide +kernel, by decide +kernel, by decide +kernel⟩,
    ⟨383, 1, (2 ^ 56 ||| 2 ^ 63) ||| (crc8From0 64 (2 ^ 56 ||| 2 ^ 63)) <<< 64, up, by decide +kernel⟩,
    ⟨3, 5, ⟨3, 5, .stream, 0, true, .vc1, [0, 32], none, 2, false, [], []⟩, holds ⟨3, 5, .stream, 0, true, .vc1, [0, 32], none, 2, false, [], []⟩, by decide +kernel⟩,
    ⟨3, 5, ⟨3, 5, .stream, 0, true, .vc1, [0, 32], none, 1, false, [], []⟩, holds ⟨3, 5, .stream, 0, true, .vc1, [0, 32], none, 1, false, [], []⟩, by decide +kernel⟩,
    ⟨3, 5, [(7, false)], [(7, false)], ⟨3, 5, .stream, 0, false, .vc1, [0], none, 1, false, [[(0, 0)]], []⟩, holds ⟨3, 5, .stream, 0, false, .vc1, [0], none, 1, false, [[(0, 0)]], []⟩, by decide +kernel⟩,
    ⟨3, 5, [(7, false)], ⟨3, 5, .stream, 0, false, .vc1, [0, 4096], none, 1, false, [[(0, 0)], [(1, 4096)]], []⟩, holds ⟨3, 5, .stream, 0, false, .vc1, [0, 4096], none, 1, false, [[(0, 0)], [(1, 4096)]], []⟩, by decide +kernel⟩⟩


/-- PC 127 with a candidate, and with one that holds its port. -/
def asks : State := queued up (3 * pcStop 127) .vc1 [pcRead]
def granted : State := { asks with rings := { asks.rings with holding := [⟨.pc 127, 3 * pcStop 127, .vc1, 0, 0⟩] } }
/-- A guaranteed flit left output 15 of the exchange this cycle. -/
def leaving : State := { up with rings := { up.rings with vc0At := [(15, up.ringCycle + 1)] } }

theorem witness_RingArbitersAndFaults :
    (∃ (a : ArbId) (v : State) (s : State), a.wf = true ∧
      v = s.silent.each (arbInputs a) State.settleInput ∧
      v.holder a = none ∧
      v.vc0Holds a = false ∧
      ((v.contenders a).filter fun c => v.roomFor a c) ≠ []) ∧
    (∃ (a : ArbId) (v : State) (s : State), a.wf = true ∧
      v = s.silent.each (arbInputs a) State.settleInput ∧
      v.holder a = none ∧
      v.vc0Holds a = true) ∧
    (∃ (a : ArbId) (h : Holder) (v : State) (s : State), a.wf = true ∧
      v = s.silent.each (arbInputs a) State.settleInput ∧
      v.holder a = some h ∧
      (∀ k, a = .exchange k → 16 ≤ k) ∧
      runWhole (v.headAt h.input h.vc) = true) ∧
    (∃ (g : Nat) (dir : Nat) (vc : VC) (s : State), g < 384 ∧
      dir < 2 ∧
      s.buffer (inputOf g dir) vc ≠ [] ∧
      (∀ b ∈ s.buffer (inputOf g dir) vc, b.flit.last = false) ∧
      (∀ v, v ≠ vc → s.buffer (inputOf g dir) v = [])) ∧
    (∃ (g : Nat) (tag : Nat) (t : Nat) (h : HeldTransfer) (s : State), g < 384 ∧
      s.rings.held.find? (fun x => x.stop == g && x.tag == tag) = some h ∧
      h.since = some t ∧
      h.vc ≠ .vc3 ∧
      h.write = true) ∧
    (∃ (t : Nat) (k : Nat) (seg : Nat) (dir : Nat) (s : State), k < 16 ∧
      seg < 24 ∧
      dir < 2 ∧
      s.ringPresent k = true ∧
      s.reg R.ring_FAULT_SEGMENT k = 0xFF) ∧
    (∃ (t : Nat) (k : Nat) (seg : Nat) (s : State), k < 16 ∧
      seg < 24) ∧
    (∃ (t : Nat) (k : Nat) (s : State), k < 16 ∧
      s.ringPresent k = true ∧
      s.reg R.ring_FAULT_SEGMENT k ≠ 0xFF ∧
      s.reg R.ring_STATE k = 0) :=
  ⟨⟨.pc 127, asks.silent.each (arbInputs (.pc 127)) State.settleInput, asks, by decide +kernel⟩,
    ⟨.exchange 15, leaving.silent.each (arbInputs (.exchange 15)) State.settleInput, leaving, by decide +kernel⟩,
    ⟨.pc 127, ⟨.pc 127, 3 * pcStop 127, .vc1, 0, 0⟩, granted.silent.each (arbInputs (.pc 127)) State.settleInput, granted, by decide +kernel, by decide +kernel, by decide +kernel, (by intro k h; cases h), by decide +kernel⟩,
    ⟨383, 1, .vc0, queued up (inputOf 383 1) .vc0 [{ readFlit with vc := .vc0, last := false }], by decide +kernel, by decide +kernel, by decide +kernel, by decide +kernel, (by intro v h; cases v <;> first | exact absurd rfl h | decide)⟩,
    ⟨3, 5, 0, ⟨3, 5, .stream, 0, true, .vc0, [0], some 0, 1, false, [], []⟩, holds ⟨3, 5, .stream, 0, true, .vc0, [0], some 0, 1, false, [], []⟩, by decide +kernel⟩,
    ⟨5, 15, 23, 1, withRegs up [(R.pres_RINGS, 0, 65535), (R.ring_FAULT_SEGMENT, 15, 255)], by decide +kernel⟩,
    ⟨5, 15, 23, withRegs up [(R.pres_RINGS, 0, 65535)], by decide +kernel⟩,
    ⟨5, 15, withRegs up [(R.pres_RINGS, 0, 65535), (R.ring_FAULT_SEGMENT, 15, 23)], by decide +kernel⟩⟩

theorem witness_ScratchpadServes :
    (∃ (k : Nat) (b : Nat) (r : PcReq) (d : Nat) (u : State) (s : State), k < 16 ∧
      b < 32 ∧
      (s.bankEntries k b).find? (fun r => !(s.scratch.wiping && padSecure r)) = some r ∧
      r.write = false ∧
      (s.silent.leavePad k r ((s.bankEntries k b).length - 1)).scratchRead (padWord r) = (u, some d)) ∧
    (∃ (k : Nat) (b : Nat) (r : PcReq) (s : State), k < 16 ∧
      b < 32 ∧
      (s.bankEntries k b).find? (fun r => !(s.scratch.wiping && padSecure r)) = some r ∧
      r.write = true) ∧
    (∃ (b : Nat) (d : Nat) (s : State), b < 512 ∧
      s.phase = .run ∧
      s.on R.pow_STATE = false ∧
      s.scratch.wiping = false ∧
      tget (fun _ => none) s.scratch.writeBack b = none ∧
      tget (fun _ => 0) s.scratch.scrubRow b < 4095 ∧
      decodeWord (s.scratchWord (scratchOffset b (tget (fun _ => 0) s.scratch.scrubRow b) / 32)) none = .clean d) ∧
    (∃ (t : Nat) (s : State), (s.advanceTo t).scratch.wiping = true) :=
  ⟨⟨15, 31, sliceRead, 0, (((sliceState sliceRead).silent.setSliceEntries 15 []).add R.sp_BANK_CONFLICTS 0 0 |>.scratchRead (padWord sliceRead)).1, sliceState sliceRead, by decide +kernel⟩,
    ⟨15, 31, { sliceRead with write := true }, sliceState { sliceRead with write := true }, by decide +kernel⟩,
    ⟨511, 0, { up with scratch := { up.scratch with scrubRow := [(511, 4094)] } }, by decide +kernel⟩,
    ⟨5, { up with scratch := { up.scratch with wiping := true } }, by decide +kernel⟩⟩

/-- Block memory 10,239 in the mode `k`, with a number at its place 127. -/
def bramWith (k v : Nat) : State := (withRegs up [(R.cfg_FABRIC_STATE, 0, 2), (R.bm_MODE, 10239, k)]).putBram 10239 127 v

theorem witness_BlockMemoriesAndPlls :
    (∃ (m : Nat) (addr : Nat) (d : Nat) (p : BramPort) (s : State), m < 10240 ∧
      s.bramRuns m = true ∧
      s.reg R.bm_MODE m = 1 ∧
      s.on R.bm_SELFTEST_FAIL m = false ∧
      decodeWord (BitVec.ofNat 288 ((s.bramOpen m p).bramBefore m (addr % 128))) none = .clean d) ∧
    (∃ (m : Nat) (addr : Nat) (d : Nat) (j : Nat) (x : Nat) (p : BramPort) (s : State), m < 10240 ∧
      s.bramRuns m = true ∧
      s.reg R.bm_MODE m = 1 ∧
      s.on R.bm_SELFTEST_FAIL m = false ∧
      decodeWord (BitVec.ofNat 288 ((s.bramOpen m p).bramBefore m (addr % 128))) none = .corrected d j x) ∧
    (∃ (m : Nat) (addr : Nat) (p : BramPort) (s : State), m < 10240 ∧
      s.bramRuns m = true ∧
      s.reg R.bm_MODE m = 1 ∧
      s.on R.bm_SELFTEST_FAIL m = false ∧
      decodeWord (BitVec.ofNat 288 ((s.bramOpen m p).bramBefore m (addr % 128))) none = .poison) ∧
    (∃ (m : Nat) (addr : Nat) (p : BramPort) (s : State), m < 10240 ∧
      s.bramRuns m = true ∧
      s.reg R.bm_MODE m = 1 ∧
      s.on R.bm_SELFTEST_FAIL m = false ∧
      decodeWord (BitVec.ofNat 288 ((s.bramOpen m p).bramBefore m (addr % 128))) none = .uncorrectable) ∧
    (∃ (m : Nat) (addr : Nat) (p : BramPort) (s : State), m < 10240 ∧
      s.bramRuns m = true ∧
      s.reg R.bm_MODE m = 1 ∧
      s.on R.bm_SELFTEST_FAIL m = true) ∧
    (∃ (m : Nat) (addr : Nat) (data : Nat) (p : BramPort) (wp : Bool) (s : State), m < 10240 ∧
      s.bramRuns m = true ∧
      s.reg R.bm_MODE m = 1) ∧
    (∃ (m : Nat) (addr : Nat) (d : Nat) (data : Nat) (p : BramPort) (q : BramPort) (wp : Bool) (s : State), m < 10240 ∧
      s.bramRuns m = true ∧
      s.reg R.bm_MODE m = 1 ∧
      s.on R.bm_SELFTEST_FAIL m = false ∧
      q.same = true ∧
      decodeWord (BitVec.ofNat 288 ((s.bramOpen m p).bramBefore m (addr % 128))) none = .clean d) ∧
    (∃ (m : Nat) (addr : Nat) (p : BramPort) (s : State), m < 10240 ∧
      s.bramRuns m = true ∧
      s.reg R.bm_MODE m = 2 ∧
      p.same = false) ∧
    (∃ (m : Nat) (addr : Nat) (data : Nat) (p : BramPort) (wp : Bool) (s : State), m < 10240 ∧
      s.bramRuns m = true ∧
      s.reg R.bm_MODE m = 2 ∧
      p.same = false) ∧
    (∃ (m : Nat) (addr : Nat) (a : Nat) (b : Nat) (same : Bool) (wp : Bool) (wq : Bool) (s : State), m < 10240 ∧
      s.bramRuns m = true ∧
      s.reg R.bm_MODE m = 2) ∧
    (∃ (p : Nat) (s : State), p < 48 ∧
      s.on R.pll_LOCKED p = true) ∧
    (∃ (p : Nat) (khz : Nat) (s : State), p < 48 ∧
      s.on R.pll_LOCKED p = false ∧
      10000 ≤ khz ∧
      khz ≤ 800000) ∧
    (∃ (p : Nat) (khz : Nat) (s : State), p < 48 ∧
      s.on R.pll_LOCKED p = false ∧
      (khz < 10000 ∨ 800000 < khz)) :=
  ⟨⟨10239, 127, 7, ⟨true, true⟩, bramWith 1 (encodeWord 7).toNat, by decide +kernel⟩,
    ⟨10239, 127, 7, 4, 1, ⟨false, false⟩, bramWith 1 ((encodeWord 7).toNat ^^^ 1), by decide +kernel⟩,
    ⟨10239, 127, ⟨false, false⟩, bramWith 1 poisonWord.toNat, by decide +kernel⟩,
    ⟨10239, 127, ⟨false, false⟩, bramWith 1 ((encodeWord 7).toNat ^^^ 0x1000100000001), by decide +kernel⟩,
    ⟨10239, 127, ⟨true, false⟩, (bramWith 1 7).setReg R.bm_SELFTEST_FAIL 10239 1, by decide +kernel⟩,
    ⟨10239, 127, 7, ⟨true, true⟩, true, bramWith 1 7, by decide +kernel⟩,
    ⟨10239, 127, 7, 9, ⟨false, false⟩, ⟨true, true⟩, false, bramWith 1 (encodeWord 7).toNat, by decide +kernel⟩,
    ⟨10239, 32767, ⟨true, false⟩, bramWith 2 0, by decide +kernel⟩,
    ⟨10239, 32767, 2 ^ 72 - 1, ⟨true, false⟩, true, bramWith 2 0, by decide +kernel⟩,
    ⟨10239, 32767, 2 ^ 72 - 1, 0, true, true, true, bramWith 2 0, by decide +kernel⟩,
    ⟨47, withRegs up [(R.pll_LOCKED, 47, 1)], by decide +kernel⟩,
    ⟨47, 800000, up, by decide +kernel⟩,
    ⟨47, 800001, up, by decide +kernel⟩⟩

/-- Port 511 whose operation's parameter block has its word 1 presented, poisoned or not. -/
def portBlock (poison : Bool) : State :=
  (portState { taken := true, param := 1, paramLen := some 3 }).putScratch 262145 (if poison then poisonWord else encodeWord 5)
def portEnds (p : PortRun) (aborting : Bool) : State := (portState p).setRun 607 (some { portRun with aborting := aborting })

theorem witness_PortOperationsHandshake :
    (∃ (t : Nat) (q : Nat) (p : Bool) (v : State) (s : State), q < 512 ∧
      v = (s.advanceTo t).onPort q (fun x => { x with up := p })) ∧
    (∃ (q : Nat) (r : RunOp) (s : State), q < 512 ∧
      s.portUp q = true ∧
      s.portOp q = some r ∧
      (s.port q).taken = false) ∧
    (∃ (q : Nat) (n : Nat) (d : Nat) (r : RunOp) (u : State) (s : State), q < 512 ∧
      s.portUp q = true ∧
      s.portOp q = some r ∧
      (s.port q).presents = true ∧
      n = (if (s.port q).param = 0 then max 1 (bits d 47 32) else (s.port q).paramLen.getD 1) ∧
      s.paramWord q r (s.port q).param = (u, some d)) ∧
    (∃ (q : Nat) (n : Nat) (r : RunOp) (u : State) (s : State), q < 512 ∧
      s.portUp q = true ∧
      s.portOp q = some r ∧
      (s.port q).presents = true ∧
      n = (if (s.port q).param = 0 then 1 else (s.port q).paramLen.getD 1) ∧
      s.paramWord q r (s.port q).param = (u, none)) ∧
    (∃ (t : Nat) (q : Nat) (status : Nat) (code : Nat) (r : RunOp) (s : State), q < 512 ∧
      (s.advanceTo t).portUp q = true ∧
      (s.advanceTo t).runOp (96 + q) = some r ∧
      ((s.advanceTo t).port q).done = none ∧
      r.aborting = false ∧
      status ≠ 3) ∧
    (∃ (t : Nat) (q : Nat) (code : Nat) (r : RunOp) (s : State), q < 512 ∧
      (s.advanceTo t).portUp q = true ∧
      (s.advanceTo t).runOp (96 + q) = some r ∧
      ((s.advanceTo t).port q).done = none ∧
      r.aborting = false) ∧
    (∃ (t : Nat) (q : Nat) (status : Nat) (code : Nat) (r : RunOp) (s : State), q < 512 ∧
      (s.advanceTo t).portUp q = true ∧
      (s.advanceTo t).runOp (96 + q) = some r ∧
      ((s.advanceTo t).port q).done = none ∧
      r.aborting = true) ∧
    (∃ (t : Nat) (q : Nat) (tag : Nat) (status : Nat) (code : Nat) (s : State), q < 512 ∧
      (s.advanceTo t).portUp q = true ∧
      (∀ r, (s.advanceTo t).runOp (96 + q) = some r → tag ≠ (s.advanceTo t).fullTag r)) ∧
    (∃ (t : Nat) (q : Nat) (status : Nat) (code : Nat) (r : RunOp) (p : PortRun) (s : State), q < 512 ∧
      (s.advanceTo t).portUp q = true ∧
      (s.advanceTo t).runOp (96 + q) = some r ∧
      p = (s.advanceTo t).port q ∧
      p.done = some (status, code) ∧
      p.outstanding r.tag = false) ∧
    (∃ (t : Nat) (q : Nat) (r : RunOp) (s : State), q < 512 ∧
      (s.advanceTo t).portOp q = some r ∧
      r.aborting = true ∧
      r.abortedAt + 2000 ≤ (s.advanceTo t).mono ∧
      (s.advanceTo t).portUp q = true) :=
  ⟨⟨5, 511, true, (up.advanceTo 5).onPort 511 (fun x => { x with up := true }), up, by decide +kernel⟩,
    ⟨511, portRun, portState {}, by decide +kernel⟩,
    ⟨511, 3, 5, portRun, ((portBlock false).paramWord 511 portRun 1).1, portBlock false, by decide +kernel⟩,
    ⟨511, 3, portRun, ((portBlock true).paramWord 511 portRun 1).1, portBlock true, by decide +kernel⟩,
    ⟨5, 511, 2, 7, portRun, portState { taken := true }, by decide +kernel⟩,
    ⟨5, 511, 7, portRun, portState { taken := true }, by decide +kernel⟩,
    ⟨5, 511, 0, 7, { portRun with aborting := true }, portEnds { taken := true } true, by decide +kernel⟩,
    ⟨5, 511, 0, 7, 7, portState { taken := true }, by decide +kernel, by decide +kernel, (by intro r h; cases h; decide +kernel)⟩,
    ⟨5, 511, 0, 0, portRun, { taken := true, done := some (0, 0) }, portState { taken := true, done := some (0, 0) }, by decide +kernel⟩,
    ⟨2000, 511, { portRun with aborting := true }, portEnds {} true, by decide +kernel⟩⟩

/-- A write flit, the last of its transfer or not, and a transfer of one flit. -/
def lineFlit (last : Bool) : WrFlit := ⟨0, 1, 2, true, last, 2 ^ 32 - 1, 0, true, 63⟩
def lineWrite : PortWrite := { tag := 9, ident := 63, addr := 0, mask := 2 ^ 32 - 1, posted := true, guaranteed := false, words := [(1, false), (2, false)], flits := 1, bad := 0 }

theorem witness_PortTransfersHandshake :
    (∃ (q : Nat) (addr : Nat) (count : Nat) (ident : Nat) (mirror : Bool) (r : PortRead) (s : State), q < 512 ∧
      s.portUp q = true ∧
      s.portAborting q = false ∧
      (s.port q).reads.length < 64 ∧
      (s.port q).bufferUsed + ceilDiv (count % 16 + 1) 2 ≤ 128 ∧
      r = { tag := s.portTag q, ident := ident % 64, addr := addr % 2 ^ 35 * 32, count := count % 16 + 1, mirror := mirror, guaranteed := s.portGuaranteed q }) ∧
    (∃ (q : Nat) (own : Bool) (r : RsFlit) (rest : List RsFlit) (s : State), q < 512 ∧
      s.portUp q = true ∧
      (s.port q).responses = r :: rest ∧
      own = (r.tag != 0 && r.tag == (s.runOp (96 + q)).elim 0 RunOp.tag)) ∧
    (∃ (q : Nat) (f : WrFlit) (x : PortWrite) (s : State), q < 512 ∧
      s.portUp q = true ∧
      (s.port q).cur = none ∧
      s.portAborting q = false ∧
      (f.posted = true ∨ ((s.port q).writes.filter fun w => !w.posted).length < 64) ∧
      (f.poison.testBit 1 && !f.two) = false ∧
      f.last = false ∧
      x = { tag := s.portTag q, ident := f.ident % 64, addr := f.addr % 2 ^ 35 * 32, mask := f.mask % 2 ^ 32, posted := f.posted, guaranteed := s.portGuaranteed q, words := wrWords f, flits := 1, bad := if f.mask % 2 ^ 32 ≠ fullMask ∧ f.two = true then 1 else 0 }) ∧
    (∃ (q : Nat) (f : WrFlit) (w : PortWrite) (s : State), q < 512 ∧
      s.portUp q = true ∧
      (s.port q).cur = some w ∧
      (f.poison.testBit 1 && !f.two) = false ∧
      f.last = false ∧
      w.flits < 7 ∧
      w.mask = fullMask ∧
      f.mask % 2 ^ 32 = fullMask) ∧
    (∃ (q : Nat) (f : WrFlit) (w : PortWrite) (s : State), q < 512 ∧
      s.portUp q = true ∧
      (s.port q).cur = some w ∧
      (f.poison.testBit 1 && !f.two) = false ∧
      f.last = true ∧
      w.bad = 0 ∧
      w.mask = fullMask ∧
      f.mask % 2 ^ 32 = fullMask) :=
  ⟨⟨511, 0, 15, 63, true, { tag := (portState {}).portTag 511, ident := 63, addr := 0, count := 16, mirror := true, guaranteed := (portState {}).portGuaranteed 511 }, portState {}, by decide +kernel⟩,
    ⟨511, false, ⟨63, 0, 0, true, true, 3, 0, 0⟩, [], portState { responses := [⟨63, 0, 0, true, true, 3, 0, 0⟩] }, by decide +kernel⟩,
    ⟨511, lineFlit false, { tag := (portState {}).portTag 511, ident := 63, addr := 0, mask := 2 ^ 32 - 1, posted := true, guaranteed := (portState {}).portGuaranteed 511, words := wrWords (lineFlit false), flits := 1, bad := 0 }, portState {}, by decide +kernel⟩,
    ⟨511, lineFlit false, lineWrite, portState { cur := some lineWrite }, by decide +kernel⟩,
    ⟨511, lineFlit true, lineWrite, portState { cur := some lineWrite }, by decide +kernel⟩⟩

theorem witness_ConfigurationCommandsTakeEffect :
    (∃ (w : Who) (s : State), s.mayWrite w R.cfg_COMMAND 0 = true ∧
      s.config.job = none ∧
      s.opInUse (fun o => decide (96 ≤ o)) = false ∧
      s.exchangeArmed (fun _ => true) = false ∧
      ((List.range 4).any fun d => !s.quadrantOn d) = false) ∧
    (∃ (w : Who) (offset : Nat) (src : Nat) (data : List Byte) (j : LoadJob) (s : State), s.mayWrite w R.cfg_IMAGE_DATA 0 = true ∧
      s.config.job = some j ∧
      streamSource w.cls = some src ∧
      j.streamed = true ∧
      j.bad = none ∧
      (j.source = none ∨ j.source = some src) ∧
      offset = j.data.length) ∧
    (∃ (w : Who) (n : Nat) (s : State), s.mayWrite w R.swap_COMMAND n = true ∧
      s.config.job = none ∧
      s.on R.swap_ARMED n = false ∧
      s.reg R.cfg_FABRIC_STATE = 2 ∧
      s.swapPresent n = true) ∧
    (∃ (w : Who) (n : Nat) (s : State), s.mayWrite w R.swap_COMMAND n = true ∧
      2 ≤ s.reg R.swap_SHADOW n ∧
      s.swapPresent n = true ∧
      s.on R.swap_ARMED n = false ∧
      s.reg R.swap_CADENCE n < 16 ∧
      s.on R.cad_ENABLE (s.reg R.swap_CADENCE n) = true) ∧
    (∃ (w : Who) (n : Nat) (s : State), s.mayWrite w R.swap_COMMAND n = true ∧
      s.on R.swap_ARMED n = true) ∧
    (∃ (w : Who) (n : Nat) (s : State), s.mayWrite w R.swap_COMMAND n = true ∧
      s.on R.swap_ARMED n = false ∧
      s.reg R.swap_SHADOW n ≠ 1) ∧
    (∃ (w : Who) (n : Nat) (s : State), s.mayWrite w R.swap_COMMAND n = true) :=
  ⟨⟨host, up, by decide +kernel⟩,
    ⟨⟨.peer, none⟩, 0, 1, default, { loadJob with source := some 1 }, loading { loadJob with source := some 1 }, by decide +kernel⟩,
    ⟨host, 15, withRegs up [(R.cfg_FABRIC_STATE, 0, 2), (R.pres_SWAP, 0, 65535)], by decide +kernel⟩,
    ⟨host, 15, withRegs up [(R.swap_SHADOW, 15, 2), (R.pres_SWAP, 0, 65535), (R.cad_ENABLE, 0, 1), (R.cad_RATE_NUM, 0, 50), (R.cad_RATE_DEN, 0, 1)], by decide +kernel⟩,
    ⟨host, 15, withRegs up [(R.swap_ARMED, 15, 1)], by decide +kernel⟩,
    ⟨host, 15, withRegs up [(R.swap_SHADOW, 15, 2)], by decide +kernel⟩,
    ⟨host, 15, up, by decide +kernel⟩⟩



/-- A segment of 64 frames of zeros, and a state with one frame to repair. -/
def zeroHead : List Byte := leBytes 8 0 ++ leBytes 16 0x55555555555555555555555555555555 ++ leBytes 8 0
def zeroSegment : List Byte := zeroHead ++ leBytes 4 (crc32 zeroHead) ++ leBytes 12 0
def repairing (f : Nat) : State := { up with config := { up.config with repairs := [f] } }

theorem witness_ConfigurationEventsTakeEffect :
    (∃ (t : Nat) (j : LoadJob) (s : State), (s.advanceTo t).config.job = some j ∧
      j.streamed = true ∧
      j.last + (s.advanceTo t).reg R.cfg_STREAM_TIMEOUT * 1000000 ≤ (s.advanceTo t).mono) ∧
    (∃ (t : Nat) (data : List Byte) (j : LoadJob) (s : State), (s.advanceTo t).config.job = some j ∧
      j.streamed = false) ∧
    (∃ (t : Nat) (data : List Byte) (j : LoadJob) (s : State), (s.advanceTo t).config.job = some j ∧
      j.streamed = false) ∧
    (∃ (t : Nat) (data : List Byte) (c : Nat) (j : LoadJob) (s : State), (s.advanceTo t).config.job = some j ∧
      j.streamed = true ∧
      j.bad = some c) ∧
    (∃ (t : Nat) (n : Nat) (start : Nat) (f : Nat) (id : Nat) (v : State) (s : State), n < 16 ∧
      (s.advanceTo t).config.exchanging.find? (fun p => p.1 == n) = some (n, start, f, id) ∧
      start + 1000 ≤ (s.advanceTo t).mono ∧
      v = { s.advanceTo t with config := { (s.advanceTo t).config with exchanging := (s.advanceTo t).config.exchanging.filter fun x => x.1 != n } }) ∧
    (∃ (t : Nat) (f : Nat) (v : State) (s : State), (s.advanceTo t).scrubberRuns = true ∧
      v = (s.advanceTo t).nextConfigScrub.flushWriteBack ∧
      v.nextFrame 300 v.config.scrubPos = some f) ∧
    (∃ (t : Nat) (f : Nat) (v : State) (s : State), (s.advanceTo t).scrubberRuns = true ∧
      v = (s.advanceTo t).nextConfigScrub.flushWriteBack ∧
      v.nextFrame 300 v.config.scrubPos = none ∧
      v.endPass.nextFrame 300 0 = some f) ∧
    (∃ (t : Nat) (f : Nat) (rest : List Nat) (segment : List Byte) (fs : List (Nat × List Nat)) (l : List Byte) (p : Nat × List Nat) (v : State) (s : State), (s.advanceTo t).config.repairs = f :: rest ∧
      parseSegment ((s.advanceTo t).frameImage f).encrypted (s.advanceTo t).imageKeyBytes ((s.advanceTo t).frameImage f).nonce (f / 64) segment = .good fs l ∧
      fs.find? (fun p => p.1 == f) = some p ∧
      v = { s.advanceTo t with config := { (s.advanceTo t).config with repairs := rest } }) ∧
    (∃ (t : Nat) (f : Nat) (rest : List Nat) (segment : List Byte) (s : State), (s.advanceTo t).config.repairs = f :: rest ∧
      (∀ fs l, parseSegment ((s.advanceTo t).frameImage f).encrypted (s.advanceTo t).imageKeyBytes ((s.advanceTo t).frameImage f).nonce (f / 64) segment = .good fs l → fs.find? (fun p => p.1 == f) = none)) ∧
    (∃ (w : Who) (f : Nat) (v : State) (s : State), s.mayWrite w R.rb_FRAME 0 = true ∧
      s.reg R.cfg_FABRIC_STATE ≠ 1 ∧
      f < liveFrames ∧
      s.frameValid f = true ∧
      v = (s.setReg R.rb_FRAME 0 f).flushWriteBack) :=
  ⟨⟨5000000, loadJob, withRegs (loading loadJob) [(R.cfg_STREAM_TIMEOUT, 0, 5)], by decide +kernel⟩,
    ⟨5, [], { loadJob with streamed := false }, loading { loadJob with streamed := false }, by decide +kernel⟩,
    ⟨5, [], { loadJob with streamed := false }, loading { loadJob with streamed := false }, by decide +kernel⟩,
    ⟨5, [], 6, { loadJob with bad := some 6 }, loading { loadJob with bad := some 6 }, by decide +kernel⟩,
    ⟨1000, 15, 0, 7, 9, { up.advanceTo 1000 with config := { (up.advanceTo 1000).config with exchanging := [] } }, { up with config := { up.config with exchanging := [(15, 0, 7, 9)] } }, by decide +kernel⟩,
    ⟨5, 0, ((withRegs up [(R.cfg_FABRIC_STATE, 0, 2)]).advanceTo 5).nextConfigScrub.flushWriteBack, withRegs up [(R.cfg_FABRIC_STATE, 0, 2)], by decide +kernel⟩,
    ⟨5, 0, (({ withRegs up [(R.cfg_FABRIC_STATE, 0, 2)] with config := { up.config with scrubPos := allFrames } } : State).advanceTo 5).nextConfigScrub.flushWriteBack, { withRegs up [(R.cfg_FABRIC_STATE, 0, 2)] with config := { up.config with scrubPos := allFrames } }, by decide +kernel⟩,
    ⟨5, 3, [], zeroSegment, (expandFrames zeroSegment [] 0 0 64 0 (List.replicate 32 0)), [], (3, List.replicate 32 0), { up.advanceTo 5 with config := { (up.advanceTo 5).config with repairs := [] } }, repairing 3, by decide +kernel⟩,
    ⟨5, 3, [], [1] ++ List.replicate 31 0, repairing 3, by decide +kernel, fun fs l h => nomatch (by decide +kernel : parseSegment (((repairing 3).advanceTo 5).frameImage 3).encrypted ((repairing 3).advanceTo 5).imageKeyBytes (((repairing 3).advanceTo 5).frameImage 3).nonce (3 / 64) ([1] ++ List.replicate 31 0) = Parsed.bad 6).symm.trans h⟩,
    ⟨host, 0, (withRegs up [(R.cfg_FABRIC_STATE, 0, 2)]).flushWriteBack, withRegs up [(R.cfg_FABRIC_STATE, 0, 2)], by decide +kernel⟩⟩

theorem witness_LanesComeAndGo :
    (∃ (t : Nat) (j : Nat) (v : State) (s : State), j < 16 ∧
      (s.advanceTo t).on R.rp_PRESENT j = true ∧
      v = (((((s.advanceTo t).setReg R.rp_PRESENT j 0).inc R.rp_LOSSES j).setReg R.rp_FREQ_KHZ j ((s.advanceTo t).freeBits 32)).took).raise 0x2009 j) ∧
    (∃ (l : Nat) (s : State), l < 256 ∧
      (s.reg R.lane_TX_REF l = 1 ∨ s.on R.rp_PRESENT (l / 16) = true) ∧
      s.lanePresent l = true) ∧
    (∃ (w : Who) (l : Nat) (s : State), s.mayWrite w R.lane_RETIRE l = true) ∧
    (∃ (t : Nat) (l : Nat) (n : Nat) (v : State) (s : State), l < 256 ∧
      v = (s.advanceTo t).took.hearSignal l (86 + (s.advanceTo t).freeBits 11) ∧
      ((s.laneState l = 1 ∧ (s.laneRun l).since + 4000 ≤ (s.advanceTo t).mono) ∨ s.laneState l = 2) ∧
      n = (if s.laneAn l = true then 3 else s.afterAn l)) ∧
    (∃ (t : Nat) (l : Nat) (c : LossCause) (s : State), l < 256 ∧
      3 ≤ s.laneState l ∧
      s.laneState l ≤ 11) ∧
    (∃ (j : Nat) (khz : Nat) (s : State), j < 16 ∧
      s.on R.rp_PRESENT j = false ∧
      100000 ≤ khz ∧
      khz ≤ 400000) :=
  ⟨⟨5, 15, (((((withRegs up [(R.rp_PRESENT, 15, 1)]).advanceTo 5).setReg R.rp_PRESENT 15 0).inc R.rp_LOSSES 15).setReg R.rp_FREQ_KHZ 15 (((withRegs up [(R.rp_PRESENT, 15, 1)]).advanceTo 5).freeBits 32)).took.raise 0x2009 15, withRegs up [(R.rp_PRESENT, 15, 1)], by exact ⟨by decide, by decide +kernel, rfl⟩⟩,
    ⟨255, withRegs up [(R.lane_TX_REF, 255, 1)], by decide +kernel⟩,
    ⟨host, 255, up, by decide +kernel⟩,
    ⟨4000, 255, (if (withRegs up [(R.lane_STATE, 255, 1), (R.lane_MODE, 255, 1), (R.lane_MEDIUM, 255, 1), (R.lane_AN_ENABLE, 255, 1)]).laneAn 255 = true then 3 else (withRegs up [(R.lane_STATE, 255, 1), (R.lane_MODE, 255, 1), (R.lane_MEDIUM, 255, 1), (R.lane_AN_ENABLE, 255, 1)]).afterAn 255), ((withRegs up [(R.lane_STATE, 255, 1), (R.lane_MODE, 255, 1), (R.lane_MEDIUM, 255, 1), (R.lane_AN_ENABLE, 255, 1)]).advanceTo 4000).took.hearSignal 255 (86 + ((withRegs up [(R.lane_STATE, 255, 1), (R.lane_MODE, 255, 1), (R.lane_MEDIUM, 255, 1), (R.lane_AN_ENABLE, 255, 1)]).advanceTo 4000).freeBits 11), withRegs up [(R.lane_STATE, 255, 1), (R.lane_MODE, 255, 1), (R.lane_MEDIUM, 255, 1), (R.lane_AN_ENABLE, 255, 1)], by exact ⟨by decide, rfl, by decide +kernel, rfl⟩⟩,
    ⟨5, 255, .signal, withRegs up [(R.lane_STATE, 255, 11)], by decide +kernel⟩,
    ⟨15, 400000, up, by decide +kernel⟩⟩

theorem witness_LanesComeUp :
    (∃ (t : Nat) (l : Nat) (s : State), l < 256 ∧
      1 ≤ s.laneState l ∧
      s.laneState l < 11 ∧
      (s.advanceTo t).stateBegan l + (s.advanceTo t).laneTimeout l ≤ (s.advanceTo t).mono) ∧
    (∃ (t : Nat) (l : Nat) (s : State), l < 256 ∧
      s.laneState l = 3 ∧
      ((s.laneGroup l).head? = some l ∨ (s.laneGroup l).getLast? = some l)) ∧
    (∃ (t : Nat) (l : Nat) (s : State), l < 256 ∧
      s.laneState l = 6 ∧
      (s.laneRun l).tried + 1000000 ≤ (s.advanceTo t).mono) ∧
    (∃ (t : Nat) (l : Nat) (s : State), l < 256 ∧
      s.laneState l = 5 ∧
      s.reg R.lane_MODE l = 2 ∧
      s.on R.lane_SDI_AUTO l = true ∧
      (s.laneRun l).rateIdx < 9 ∧
      (s.laneRun l).tried + 1000000 ≤ (s.advanceTo t).mono) ∧
    (∃ (t : Nat) (l : Nat) (s : State), l < 256 ∧
      s.laneState l = 4) ∧
    (∃ (t : Nat) (l : Nat) (s : State), l < 256 ∧
      s.laneState l = 5) ∧
    (∃ (t : Nat) (l : Nat) (s : State), l < 256 ∧
      (s.laneGroup l).all (fun x => s.laneState x == 6) = true) ∧
    (∃ (t : Nat) (l : Nat) (levelB : Bool) (s : State), l < 256 ∧
      s.laneState l = 7) :=
  ⟨⟨1000000, 255, withRegs up [(R.lane_STATE, 255, 5)], by decide +kernel⟩,
    ⟨5, 255, withRegs up [(R.lane_STATE, 255, 3)], by decide +kernel⟩,
    ⟨1000000, 255, withRegs up [(R.lane_STATE, 255, 6)], by decide +kernel⟩,
    ⟨1000000, 255, withRegs up [(R.lane_STATE, 255, 5), (R.lane_MODE, 255, 2), (R.lane_SDI_AUTO, 255, 1)], by decide +kernel⟩,
    ⟨5, 255, withRegs up [(R.lane_STATE, 255, 4)], by decide +kernel⟩,
    ⟨5, 255, withRegs up [(R.lane_STATE, 255, 5), (R.lane_MODE, 255, 3)], by decide +kernel⟩,
    ⟨5, 255, withRegs up [(R.lane_STATE, 255, 6)], by decide +kernel⟩,
    ⟨5, 255, true, withRegs up [(R.lane_STATE, 255, 7), (R.lane_LINE_RATE, 255, 2970000)], by decide +kernel⟩⟩

/-- A lane whose adaptation has resumed, with MARGIN_MIN 254. -/
def lowMargin : State := { withRegs up [(R.lane_MARGIN_MIN, 254, 254)] with lanes := { up.lanes with lanes := [(254, { resumed := some 5 })] } }

theorem witness_LanesAdaptAndAreTested :
    (∃ (l : Nat) (s : State), l < 256 ∧
      s.adapting l = true ∧
      s.on R.lane_FROZEN l = false) ∧
    (∃ (t : Nat) (l : Nat) (s : State), l < 256 ∧
      s.adapting l = true ∧
      s.on R.lane_FROZEN l = true) ∧
    (∃ (l : Nat) (margin : Nat) (t : Nat) (s : State), l < 256 ∧
      (s.laneRun l).resumed = some t ∧
      s.reg R.lane_MARGIN_MIN l ≤ margin) ∧
    (∃ (l : Nat) (margin : Nat) (t : Nat) (v : State) (s : State), l < 256 ∧
      (s.laneRun l).resumed = some t ∧
      margin < s.reg R.lane_MARGIN_MIN l ∧
      v = ((s.waitUntil (t + 4000)).setReg R.lane_MARGIN l margin).onLane l (fun r => { r with resumed := none, marginAt := some ((s.waitUntil (t + 4000)).mono / 100000), eqBad := true })) ∧
    (∃ (l : Nat) (eq : List Byte) (v : State) (s : State), l < 256 ∧
      s.laneState l = 11 ∧
      v = s.waitUntil ((s.laneRun l).eqFrom + 1000000) ∧
      s.on R.lane_FROZEN l = false ∧
      (s.laneRun l).eqBad = false ∧
      v.marginStayed l (v.mono - 1000000) = true) ∧
    (∃ (l : Nat) (eq : List Byte) (v : State) (s : State), l < 256 ∧
      s.laneState l = 11 ∧
      v = s.waitUntil ((s.laneRun l).eqFrom + 1000000) ∧
      (s.on R.lane_FROZEN l = true ∨ (s.laneRun l).eqBad = true ∨ v.marginStayed l (v.mono - 1000000) = false)) ∧
    (∃ (w : Who) (l : Nat) (s : State), s.mayWrite w R.lane_PRBS_CLEAR l = true) ∧
    (∃ (l : Nat) (s : State), l < 256 ∧
      s.reg R.lane_MODE l = 4 ∧
      s.laneState l = 11 ∧
      s.on R.lane_PRBS_RX l = true ∧
      s.on R.lane_PRBS_LOCK l = false ∧
      s.prbsHeard l = true) ∧
    (∃ (l : Nat) (s : State), l < 256 ∧
      s.on R.lane_PRBS_LOCK l = true ∧
      (s.looped l && s.prbsHeard l) = false) ∧
    (∃ (w : Who) (l : Nat) (raw : List Byte) (s : State), s.mayWrite w R.lane_EYE_SCAN l = true ∧
      raw.length = 3 ∧
      -32 ≤ toSigned 8 (leAt raw 0 1) ∧
      toSigned 8 (leAt raw 0 1) ≤ 31 ∧
      leAt raw 1 1 ≠ 128 ∧
      10 ≤ leAt raw 2 1 ∧
      leAt raw 2 1 ≤ 40) ∧
    (∃ (l : Nat) (errors : Nat) (bits : Nat) (s : State), l < 256 ∧
      s.laneState l = 11 ∧
      (s.dom R.lane_EYE_SCAN l).length = 20 ∧
      leAt (s.dom R.lane_EYE_SCAN l) 19 1 = 0) :=
  ⟨⟨255, withRegs up [(R.lane_STATE, 255, 11)], by decide +kernel⟩,
    ⟨5, 255, withRegs up [(R.lane_STATE, 255, 5), (R.lane_FROZEN, 255, 1)], by decide +kernel⟩,
    ⟨255, 255, 5, { withRegs up [(R.lane_MARGIN_MIN, 255, 255)] with lanes := { up.lanes with lanes := [(255, { resumed := some 5 })] } }, by decide +kernel⟩,
    ⟨254, 253, 5, (((lowMargin.waitUntil 4005).setReg R.lane_MARGIN 254 253).onLane 254 fun r => { r with resumed := none, marginAt := some ((lowMargin.waitUntil 4005).mono / 100000), eqBad := true }), lowMargin, by decide +kernel⟩,
    ⟨255, List.replicate 14 1, (withRegs up [(R.lane_STATE, 255, 11), (R.lane_MARGIN_MIN, 255, 0)]).waitUntil 1000000, withRegs up [(R.lane_STATE, 255, 11), (R.lane_MARGIN_MIN, 255, 0)], by decide +kernel, by decide +kernel, by decide +kernel, by decide +kernel, by decide +kernel, (by simp only [State.marginStayed, List.all_eq_true, decide_eq_true_eq]; intro i _; exact Nat.le_trans (by decide +kernel) (Nat.zero_le _))⟩,
    ⟨255, List.replicate 14 1, (withRegs up [(R.lane_STATE, 255, 11), (R.lane_FROZEN, 255, 1)]).waitUntil 1000000, withRegs up [(R.lane_STATE, 255, 11), (R.lane_FROZEN, 255, 1)], by decide +kernel, by decide +kernel, rfl, Or.inl (by decide +kernel)⟩,
    ⟨host, 255, up, by decide +kernel⟩,
    ⟨255, withRegs up [(R.lane_STATE, 255, 11), (R.lane_MODE, 255, 4), (R.lane_PRBS_RX, 255, 1)], by decide +kernel⟩,
    ⟨255, withRegs up [(R.lane_PRBS_LOCK, 255, 1)], by decide +kernel⟩,
    ⟨host, 255, [224, 127, 40], up, by decide +kernel⟩,
    ⟨255, 3, 4, (withRegs up [(R.lane_STATE, 255, 11), (R.lane_LINE_RATE, 255, 1000000), (R.lane_RATE_DEN, 255, 1)]).setDom R.lane_EYE_SCAN 255 ([224, 127, 40] ++ List.replicate 17 0), by decide +kernel⟩⟩

theorem witness_LinksAlign :
    (∃ (t : Nat) (l : Nat) (position : Nat) (header : Nat) (block : Nat) (b : Nat) (s : State), l < 256 ∧
      s.laneState l = 8 ∧
      s.portOf l = none ∧
      (∀ k, s.linkOf l = some k → s.linkUp k = false) ∧
      boundarySeen (s.reg R.lane_MODULATION l == 1) header block = some (b, false) ∧
      16384 * 66 ≤ position ∧
      (position - 16384 * 66) ∈ (s.laneRun l).markers) ∧
    (∃ (t : Nat) (l : Nat) (position : Nat) (header : Nat) (block : Nat) (b : Nat) (s : State), l < 256 ∧
      s.laneState l = 8 ∧
      boundarySeen (s.reg R.lane_MODULATION l == 1) header block = some (b, true) ∧
      (s.laneRun l).markers = []) ∧
    (∃ (t : Nat) (k : Nat) (skew : Nat) (s : State), k < 256 ∧
      s.on R.link_ENABLE k = true ∧
      (s.linkLanes k).all (fun l => s.laneState l == 9) = true ∧
      s.markersAgree k = true ∧
      skew ≤ 64) ∧
    (∃ (t : Nat) (k : Nat) (block : Nat) (s : State), k < 256 ∧
      s.on R.link_ENABLE k = true ∧
      (s.linkLanes k).all (fun l => s.laneState l == 10) = true ∧
      controlBlock 0x4B 2 block = true ∧
      (blockByte block 1 = 1 ∨ blockByte block 1 = 2) ∧
      blockByte block 3 = widthCode (s.reg R.link_WIDTH k) ∧
      3 ≤ (s.linkRun k).ready ∧
      (s.laneRun k).since + s.handshakeNs k ≤ (s.advanceTo t).mono) ∧
    (∃ (t : Nat) (k : Nat) (block : Nat) (s : State), k < 256 ∧
      s.on R.link_ENABLE k = true ∧
      (s.linkLanes k).all (fun l => s.laneState l == 10) = true ∧
      controlBlock 0x4B 2 block = true ∧
      (blockByte block 1 = 1 ∨ blockByte block 1 = 2) ∧
      blockByte block 3 = widthCode (s.reg R.link_WIDTH k) ∧
      (s.linkRun k).ready < 3) ∧
    (∃ (t : Nat) (k : Nat) (block : Nat) (s : State), k < 256 ∧
      s.on R.link_ENABLE k = true ∧
      (s.linkLanes k).all (fun l => s.laneState l == 10) = true ∧
      blockKnown block = true ∧
      controlBlock 0x4B 2 block = false) ∧
    (∃ (k : Nat) (v : State) (s : State), k < 256 ∧
      (s.linkLanes k).all (fun l => decide (10 ≤ s.laneState l) && decide (s.laneState l ≤ 11)) = true ∧
      v = s.waitUntil ((s.linkRun k).fillerAt.elim 0 fun t => t + fillerNs (s.reg R.lane_LINE_RATE k))) ∧
    (∃ (w : Who) (k : Nat) (s : State), s.mayWrite w R.link_ENABLE k = true ∧
      s.on R.link_ENABLE k = false ∧
      ((s.linkLanes k).all fun l => s.lanePresent l && s.reg R.lane_MODE l == 3 && s.reg R.lane_LINE_RATE l == s.reg R.lane_LINE_RATE k && (s.linkOf l).isNone) = true) ∧
    (∃ (w : Who) (k : Nat) (s : State), s.mayWrite w R.link_ENABLE k = true ∧
      s.on R.link_ENABLE k = true) :=
  ⟨⟨5, 255, 16384 * 66, 2, boundaryBlock, boundaryBlock, { withRegs up [(R.lane_STATE, 255, 8)] with lanes := { up.lanes with lanes := [(255, { markers := [0] })] } }, by decide +kernel, by decide +kernel, by decide +kernel, (fun k h => by rw [show State.linkOf _ _ = none by decide +kernel] at h; cases h), by decide +kernel, by decide +kernel, by decide +kernel⟩,
    ⟨5, 255, 77, 1, (2 ^ 64 - 1) ^^^ boundaryBlock, boundaryBlock, withRegs up [(R.lane_STATE, 255, 8)], by decide +kernel⟩,
    ⟨5, 255, 64, withRegs up [(R.link_ENABLE, 255, 1), (R.link_WIDTH, 255, 1), (R.lane_STATE, 255, 9), (R.lane_GROUP_POS, 255, 0)], by decide +kernel⟩,
    ⟨5, 255, trainBlock, { withRegs up [(R.link_ENABLE, 255, 1), (R.link_WIDTH, 255, 1), (R.lane_STATE, 255, 10)] with lanes := { up.lanes with links := [(255, { ready := 3 })] } }, by decide +kernel⟩,
    ⟨5, 255, trainBlock, { withRegs up [(R.link_ENABLE, 255, 1), (R.link_WIDTH, 255, 1), (R.lane_STATE, 255, 10)] with lanes := { up.lanes with links := [(255, { ready := 2 })] } }, by decide +kernel⟩,
    ⟨5, 255, boundaryBlock, { withRegs up [(R.link_ENABLE, 255, 1), (R.link_WIDTH, 255, 1), (R.lane_STATE, 255, 10)] with lanes := { up.lanes with links := [(255, { ready := 2 })] } }, by decide +kernel⟩,
    ⟨255, (withRegs up [(R.link_WIDTH, 255, 1), (R.lane_STATE, 255, 11)]).waitUntil 0, withRegs up [(R.link_WIDTH, 255, 1), (R.lane_STATE, 255, 11)], by decide +kernel⟩,
    ⟨host, 255, withRegs up [(R.link_WIDTH, 255, 1), (R.lane_MODE, 255, 3)], by decide +kernel⟩,
    ⟨host, 255, withRegs up [(R.link_WIDTH, 255, 1), (R.lane_MODE, 255, 3), (R.link_ENABLE, 255, 1), (R.lane_STATE, 255, 11), (R.link_STATE, 255, 2)], by decide +kernel⟩⟩

theorem witness_LinksCarryPackets :
    (∃ (t : Nat) (k : Nat) (c : Nat) (p : List Byte) (r : LinkRun) (l : List Byte) (s : State), k < 256 ∧
      s.linkUp k = true ∧
      (s.linkRun k).replay.findIdx? (fun p => p.resend) = none ∧
      (s.linkRun k).nextPacket = some (c, p, r) ∧
      r.replay.length < 256 ∧
      r.held + p.length ≤ 524288 ∧
      l = packetBlocks r.nextSeq c ((s.advanceTo t).stampCouncil c p)) ∧
    (∃ (t : Nat) (k : Nat) (i : Nat) (s : State), k < 256 ∧
      s.linkUp k = true ∧
      (s.linkRun k).replay.findIdx? (fun p => p.resend) = some i) ∧
    (∃ (t : Nat) (k : Nat) (p : LinkPacket) (s : State), k < 256 ∧
      s.linkUp k = true ∧
      p.seq = (s.linkRun k).expected ∧
      p.seq < 65536 ∧
      packetGood p = true ∧
      p.channel < 3) ∧
    (∃ (t : Nat) (k : Nat) (p : LinkPacket) (s : State), k < 256 ∧
      s.linkUp k = true ∧
      32768 ≤ (p.seq + 65536 - (s.linkRun k).expected) % 65536) ∧
    (∃ (t : Nat) (k : Nat) (p : LinkPacket) (s : State), k < 256 ∧
      s.linkUp k = true ∧
      p.seq = (s.linkRun k).expected ∧
      p.seq < 65536 ∧
      packetGood p = false) ∧
    (∃ (k : Nat) (s : State), k < 256 ∧
      s.linkUp k = true ∧
      (s.linkRun k).unacked ≠ 0) ∧
    (∃ (k : Nat) (seq : Nat) (s : State), k < 256 ∧
      s.linkUp k = true ∧
      ((s.linkRun k).replay.filter fun p => !ackCovers seq p.seq).length ≠ (s.linkRun k).replay.length) ∧
    (∃ (k : Nat) (seq : Nat) (i : Nat) (s : State), k < 256 ∧
      s.linkUp k = true ∧
      (s.linkRun k).replay.findIdx? (fun p => p.seq == seq) = some i) ∧
    (∃ (t : Nat) (k : Nat) (p : SentPacket) (rest : List SentPacket) (s : State), k < 256 ∧
      s.linkUp k = true ∧
      (s.linkRun k).replay = p :: rest ∧
      p.sentAt + s.reg R.link_REPLAY_TIMEOUT k * 1000 ≤ (s.advanceTo t).mono ∧
      p.again < 7) ∧
    (∃ (t : Nat) (k : Nat) (a : Nat) (s : State), k < 256 ∧
      (s.linkRun k).nakAt = some a ∧
      a + s.reg R.link_REPLAY_TIMEOUT k * 1000 ≤ (s.advanceTo t).mono) :=
  ⟨⟨5, 255, 2, [1, 2, 3, 4, 5, 6, 7, 8], {}, packetBlocks 0 2 [1, 2, 3, 4, 5, 6, 7, 8], { withRegs up [(R.link_STATE, 255, 2)] with lanes := { up.lanes with links := [(255, { data := [[1, 2, 3, 4, 5, 6, 7, 8]] })] } }, by decide +kernel⟩,
    ⟨5, 255, 1, { withRegs up [(R.link_STATE, 255, 2)] with lanes := { up.lanes with links := [(255, { replay := [⟨65535, 2, [1], 0, 2, false⟩, ⟨1, 2, [1], 0, 2, true⟩] })] } }, by decide +kernel⟩,
    ⟨5, 255, ⟨65535, 2, 1, [1, 2, 3, 4, 5, 6, 7, 8], packetCrc 65535 2 [1, 2, 3, 4, 5, 6, 7, 8], true⟩, { withRegs up [(R.link_STATE, 255, 2)] with lanes := { up.lanes with links := [(255, { expected := 65535 })] } }, by decide +kernel⟩,
    ⟨5, 255, ⟨0, 2, 1, [1], 0, true⟩, { withRegs up [(R.link_STATE, 255, 2)] with lanes := { up.lanes with links := [(255, { expected := 32768 })] } }, by decide +kernel⟩,
    ⟨5, 255, ⟨65535, 2, 1, [1], 0, true⟩, { withRegs up [(R.link_STATE, 255, 2)] with lanes := { up.lanes with links := [(255, { expected := 65535 })] } }, by decide +kernel⟩,
    ⟨255, { withRegs up [(R.link_STATE, 255, 2)] with lanes := { up.lanes with links := [(255, { unacked := 1 })] } }, by decide +kernel⟩,
    ⟨255, 0, { withRegs up [(R.link_STATE, 255, 2)] with lanes := { up.lanes with links := [(255, { replay := [⟨65535, 2, [1], 0, 2, false⟩, ⟨1, 2, [1], 0, 2, false⟩] })] } }, by decide +kernel⟩,
    ⟨255, 1, 1, { withRegs up [(R.link_STATE, 255, 2)] with lanes := { up.lanes with links := [(255, { replay := [⟨65535, 2, [1], 0, 2, false⟩, ⟨1, 2, [1], 0, 2, false⟩] })] } }, by decide +kernel⟩,
    ⟨5000, 255, ⟨1, 2, [1], 0, 0, false⟩, [], { withRegs up [(R.link_STATE, 255, 2), (R.link_REPLAY_TIMEOUT, 255, 5)] with lanes := { up.lanes with links := [(255, { replay := [⟨1, 2, [1], 0, 0, false⟩] })] } }, by decide +kernel⟩,
    ⟨5000, 255, 0, { withRegs up [(R.link_REPLAY_TIMEOUT, 255, 5)] with lanes := { up.lanes with links := [(255, { nakAt := some 0 })] } }, by decide +kernel⟩⟩

theorem witness_ObjectsAreReadAndWritten :
    (∃ (w : Who) (k : Nat) (v : Nat) (s : State), s.mayWrite w R.link_REPLAY_TIMEOUT k = true ∧
      5 ≤ v ∧
      v ≤ 1000) ∧
    (∃ (w : Who) (k : Nat) (v : Nat) (s : State), s.mayWrite w R.link_REPLAY_TIMEOUT k = true ∧
      v < 65536 ∧
      (v < 5 ∨ 1000 < v)) ∧
    (∃ (w : Who) (r : ObjRef) (raw : List Byte) (s : State), s.dictAnswers w = true ∧
      findRow r = none) ∧
    (∃ (w : Who) (r : ObjRef) (row : Row) (raw : List Byte) (s : State), s.dictAnswers w = true ∧
      findRow r = some row ∧
      s.writeDenied w r row raw = false ∧
      row.ty.isDomain = false ∧
      isImageData r.index r.sub = false ∧
      row.lengthOk raw.length = true ∧
      row.inRange raw = true) ∧
    (∃ (w : Who) (r : ObjRef) (row : Row) (data : List Byte) (value : List Byte) (offset : Nat) (s : State), s.dictAnswers w = true ∧
      findRow r = some row ∧
      s.writeDenied w r row data = false ∧
      row.ty.isDomain = true ∧
      isImageData r.index r.sub = false ∧
      value = (if offset = 0 then [] else (s.heldBytes w r).getD []) ++ data ∧
      value.length = offset + data.length ∧
      (offset ≠ 0 → (s.heldBytes w r).isSome = true) ∧
      value.length ≤ row.maxLen ∧
      w.slot.isSome = true ∧
      s.writesClosed w = false) ∧
    (∃ (w : Who) (r : ObjRef) (row : Row) (s : State), s.dictAnswers w = true ∧
      findRow r = some row ∧
      row.acc.readable = true ∧
      row.acc ≠ .rs ∧
      s.readDenied r = false ∧
      row.ty.isDomain = false ∧
      s.readsClosed w r.index = false ∧
      (s.valueOf r row).length ≤ frameLimit w.cls - 40) ∧
    (∃ (w : Who) (r : ObjRef) (row : Row) (len : Nat) (room : Nat) (s : State), s.dictAnswers w = true ∧
      findRow r = some row ∧
      row.acc.readable = true ∧
      s.readDenied r = false ∧
      row.ty.isDomain = true ∧
      s.readsClosed w r.index = false ∧
      room = (if len = 0 then frameLimit w.cls - 40 else min len (frameLimit w.cls - 40))) ∧
    (∃ (w : Who) (r : ObjRef) (row : Row) (len : Nat) (s : State), s.dictAnswers w = true ∧
      findRow r = some row ∧
      s.readsClosed w 0 = false) ∧
    (∃ (w : Who) (row : Row) (s : State), s.dictAnswers w = true ∧
      findRow ⟨0x1010, 0, 32⟩ = some row ∧
      s.readsClosed w 0x1010 = false) :=
  ⟨⟨host, 255, 1000, up, by decide +kernel⟩,
    ⟨host, 255, 1001, up, by decide +kernel⟩,
    ⟨host, ⟨0x1307, 0, 1⟩, default, up, by decide +kernel⟩,
    ⟨host, ⟨0x2010, 255, 7⟩, (findRow ⟨0x2010, 255, 7⟩).get (by decide), [232, 3], up, by decide +kernel⟩,
    ⟨⟨.host, some 3⟩, ⟨0x3101, 0, 3⟩, (findRow ⟨0x3101, 0, 3⟩).get (by decide), [7], [7], 0, inSession 3 67, by decide +kernel⟩,
    ⟨host, ⟨0x2010, 255, 7⟩, (findRow ⟨0x2010, 255, 7⟩).get (by decide), up, by decide +kernel⟩,
    ⟨host, ⟨0x1010, 0, 32⟩, (findRow ⟨0x1010, 0, 32⟩).get (by decide), 8, 8, up, by decide +kernel⟩,
    ⟨host, ⟨0x2010, 255, 7⟩, (findRow ⟨0x2010, 255, 7⟩).get (by decide), 16, up, by decide +kernel⟩,
    ⟨host, (findRow ⟨0x1010, 0, 32⟩).get (by decide), up, by decide +kernel⟩⟩


/-- A device with a line of the terminal in the SERVICE queue. -/
def typed : State := { up with steward := { up.steward with queues := [[], [], [], [⟨.service, ascii "r 1301.1", true⟩], []] } }

theorem witness_PortsOfTheDictionary :
    (∃ (data : List Byte) (s : State), s.silent.spiOpen = true ∧
      s.steward.spiIn.length < 4) ∧
    (∃ (data : List Byte) (whole : Bool) (s : State), s.silent.spiOpen = true ∧
      4 ≤ s.steward.spiIn.length) ∧
    (∃ (data : List Byte) (s : State), s.silent.spiOpen = true ∧
      s.steward.spiIn.length < 4) ∧
    (∃ (l : List Byte) (rest : List (List Byte)) (s : State), s.spiOpen = true ∧
      s.steward.spiOut = l :: rest) ∧
    (∃ (s : State), s.spiOpen = true ∧
      s.steward.spiOut = []) ∧
    (∃ (l : List Byte) (rest : List (List Byte)) (s : State), s.spiOpen = true ∧
      s.steward.spiOut = l :: rest) ∧
    (∃ (t : Nat) (src : Nat) (srcPort : Nat) (data : List Byte) (s : State), ((src ^^^ s.reg R.mgmt_ALLOW_ADDR) &&& s.reg R.mgmt_ALLOW_MASK) = 0 ∧
      s.on R.mgmt_LINK = true ∧
      s.on R.mgmt_IPV4 = true ∧
      (s.advanceTo t).silent.dictUp ⟨.operator, none⟩ = true) ∧
    (∃ (t : Nat) (src : Nat) (srcPort : Nat) (s : State), s.on R.mgmt_LINK = true ∧
      s.on R.mgmt_IPV4 = true ∧
      (s.advanceTo t).silent.dictUp ⟨.operator, none⟩ = true) ∧
    (∃ (t : Nat) (src : Nat) (srcPort : Nat) (s : State), s.on R.mgmt_LINK = true ∧
      s.on R.mgmt_IPV4 = true ∧
      (s.advanceTo t).silent.dictUp ⟨.operator, none⟩ = true ∧
      (s.advanceTo t).silent.mgmtAllows src = true) ∧
    (∃ (t : Nat) (src : Nat) (srcPort : Nat) (b : MgmtBody) (s : State), s.on R.mgmt_LINK = true ∧
      s.on R.mgmt_IPV4 = true ∧
      (s.advanceTo t).silent.dictUp ⟨.operator, none⟩ = true ∧
      (s.advanceTo t).silent.mgmtAllows src = false ∧
      (∀ a, b ≠ .arpRequest a)) ∧
    (∃ (t : Nat) (k : Nat) (data : List Byte) (s : State), k < 256 ∧
      s.linkUp k = true ∧
      (s.advanceTo t).silent.dictUp ⟨.peer, none⟩ = true) ∧
    (∃ (t : Nat) (data : List Byte) (s : State), s.on R.dbg_SESSION = true ∧
      (s.advanceTo t).silent.dictUp ⟨.service, none⟩ = true) ∧
    (∃ (t : Nat) (src : Nat) (srcPort : Nat) (data : List Byte) (s : State), s.on R.mgmt_LINK = true ∧
      s.on R.mgmt_IPV4 = true ∧
      (s.advanceTo t).silent.dictUp ⟨.operator, none⟩ = true ∧
      (s.advanceTo t).silent.mgmtAllows src = true ∧
      src < 2 ^ 32 ∧
      srcPort < 2 ^ 16) ∧
    (∃ (t : Nat) (c : Nat) (q : Request) (rest : List Request) (f : ObpFrame) (v : State) (s : State), v = (((s.advanceTo t).serveTerminal).silent).pumpSpi 4 ∧
      v.dictUp ⟨.service, none⟩ = true ∧
      v.nextClass = some c ∧
      c < 4 ∧
      v.queueOf c = q :: rest ∧
      q.console = false ∧
      parseFrame q.data = some f) ∧
    (∃ (t : Nat) (c : Nat) (q : Request) (rest : List Request) (v : State) (s : State), v = (((s.advanceTo t).serveTerminal).silent).pumpSpi 4 ∧
      v.dictUp ⟨.service, none⟩ = true ∧
      v.nextClass = some c ∧
      v.queueOf c = q :: rest ∧
      (c = 4 ∨ q.console = true)) ∧
    (∃ (goes : Bool) (s : State), s.on R.mgmt_LINK = !goes) ∧
    (∃ (r : ObjRef) (s : State), s.coreRuns 1 = true) ∧
    (∃ (r : ObjRef) (data : List Byte) (s : State), s.coreRuns 1 = true) :=
  ⟨⟨[1, 2], up, by decide +kernel⟩,
    ⟨[1], false, { up with steward := { up.steward with spiIn := [[], [], [], []] } }, by decide +kernel⟩,
    ⟨[1], up, by decide +kernel⟩,
    ⟨[1], [], { up with steward := { up.steward with spiOut := [[1]] } }, by decide +kernel⟩,
    ⟨up, by decide +kernel⟩,
    ⟨[1], [], { up with steward := { up.steward with spiOut := [[1]] } }, by decide +kernel⟩,
    ⟨5, 7, 9, [1, 2], withRegs up [(R.mgmt_LINK, 0, 1), (R.mgmt_IPV4, 0, 77)], by decide +kernel⟩,
    ⟨5, 7, 9, withRegs up [(R.mgmt_LINK, 0, 1), (R.mgmt_IPV4, 0, 77)], by decide +kernel⟩,
    ⟨5, 7, 9, withRegs up [(R.mgmt_LINK, 0, 1), (R.mgmt_IPV4, 0, 77)], by decide +kernel⟩,
    ⟨5, 7, 9, .other, withRegs up [(R.mgmt_LINK, 0, 1), (R.mgmt_IPV4, 0, 77), (R.mgmt_ALLOW_ADDR, 0, 9), (R.mgmt_ALLOW_MASK, 0, 2 ^ 32 - 1)], by decide +kernel, by decide +kernel, by decide +kernel, by decide +kernel, (fun a h => by cases h)⟩,
    ⟨5, 255, requestFrame, withRegs up [(R.link_STATE, 255, 2)], by decide +kernel⟩,
    ⟨5, requestFrame, withRegs up [(R.dbg_SESSION, 0, 1)], by decide +kernel⟩,
    ⟨5, 7, 65535, requestFrame, withRegs up [(R.mgmt_LINK, 0, 1), (R.mgmt_IPV4, 0, 77)], by decide +kernel⟩,
    ⟨5, 0, ⟨.spi, requestFrame, false⟩, [], parsedRequest, (((requested.advanceTo 5).serveTerminal).silent).pumpSpi 4, requested, by decide +kernel⟩,
    ⟨5, 3, ⟨.service, ascii "r 1301.1", true⟩, [], (((typed.advanceTo 5).serveTerminal).silent).pumpSpi 4, typed, by decide +kernel⟩,
    ⟨true, up, by decide +kernel⟩,
    ⟨⟨0x1301, 0, 1⟩, withRegs up [(R.core_STATE, 1, 1)], by decide +kernel⟩,
    ⟨⟨0x1301, 900, 1⟩, [1], withRegs up [(R.core_STATE, 1, 1)], by decide +kernel⟩⟩

theorem witness_SessionsOpenAndClose :
    (∃ (port : ObpPort) (c : Nat) (nonce : Nat) (n : Nat) (s : State), (match port with | .link k => decide (k < 256) && s.reg R.link_STATE k == 2 | .service => s.on R.dbg_SESSION | _ => true) = true ∧
      c = classCode (portClass port) ∧
      s.dictAnswers ⟨portClass port, none⟩ = true ∧
      s.opensClosed ⟨portClass port, none⟩ = false ∧
      s.sameOpen c nonce (s.sourceOfPort port) = none ∧
      (classSlots c).find? (fun n => !s.on R.ses_ID n) = some n) ∧
    (∃ (nonce : Nat) (n : Nat) (s : State), s.dictAnswers ⟨.host, none⟩ = true ∧
      s.opensClosed ⟨.host, none⟩ = false ∧
      s.sameOpen (classCode .host) nonce (s.sourceOfPort .spi) = some n) ∧
    (∃ (w : Who) (n : Nat) (s : State), s.dictAnswers w = true ∧
      s.readsClosed w 0 = false ∧
      w.slot = some n ∧
      s.on R.ses_ID n = true) ∧
    (∃ (t : Nat) (n : Nat) (s : State), n < 64 ∧
      s.dusk.core1.haltedAt = none ∧
      (s.sess n).lastReq + s.reg R.ses_TIMEOUT n * 1000000000 ≤ (s.advanceTo t).mono) ∧
    (∃ (w : Who) (n : Nat) (s : State), s.mayWrite w R.ses_COMMAND n = true ∧
      s.on R.ses_ID n = true) ∧
    (∃ (w : Who) (n : Nat) (s : State), s.mayWrite w R.stw_LOCK_OWNER 0 = true ∧
      w.slot = some n ∧
      s.reg R.ses_ID n ≠ 0 ∧
      s.reg R.stw_LOCK_OWNER = 0) ∧
    (∃ (w : Who) (n : Nat) (s : State), s.mayWrite w R.stw_LOCK_OWNER 0 = true ∧
      w.slot = some n ∧
      s.reg R.stw_LOCK_OWNER = s.reg R.ses_ID n ∧
      s.reg R.ses_ID n ≠ 0) ∧
    (∃ (t : Nat) (n : Nat) (s : State), n < 64 ∧
      s.on R.ses_ID n = true ∧
      (s.sess n).events ≠ [] ∧
      (slotClass n ≠ some 0 ∨ s.steward.spiOut.length < 8) ∧
      ((s.advanceTo t).recentNotify n).length < 1000 ∧
      (s.advanceTo t).dictUp ⟨.service, none⟩ = true) :=
  ⟨⟨.link 255, 2, 5, 36, withRegs up [(R.link_STATE, 255, 2)], by decide +kernel⟩,
    ⟨5, 3, { inSession 3 67 with steward := { up.steward with opens := [{ cls := 0, nonce := 5, source := 0, ident := 67 }] } }, by decide +kernel⟩,
    ⟨⟨.host, some 3⟩, 3, inSession 3 9, by decide +kernel⟩,
    ⟨5000000000, 63, withRegs (inSession 63 9) [(R.ses_TIMEOUT, 63, 5)], by decide +kernel⟩,
    ⟨⟨.host, some 3⟩, 3, inSession 3 9, by decide +kernel⟩,
    ⟨⟨.host, some 3⟩, 3, inSession 3 9, by decide +kernel⟩,
    ⟨⟨.host, some 3⟩, 3, withRegs (inSession 3 9) [(R.stw_LOCK_OWNER, 0, 9)], by decide +kernel⟩,
    ⟨5, 3, { inSession 3 9 with steward := { up.steward with sessions := [(3, { events := [⟨1, 2, 3, 4, 5, 6, 7, 8⟩] })] } }, by decide +kernel⟩⟩

theorem witness_ProfilesChange :
    (∃ (w : Who) (p : Nat) (l : List Byte) (s : State), s.mayWrite w R.sprof_RECORD p = true ∧
      profileRecordOk l = true ∧
      l.length ≤ 262144) ∧
    (∃ (w : Who) (s : State), s.mayWrite w R.prof_COMMAND 0 = true ∧
      s.on R.sprof_VALID (s.reg R.prof_TARGET) = true ∧
      s.on R.prof_ARMED = false ∧
      s.reg R.prof_CADENCE < 16 ∧
      s.on R.cad_ENABLE (s.reg R.prof_CADENCE) = true) ∧
    (∃ (w : Who) (s : State), s.mayWrite w R.prof_COMMAND 0 = true ∧
      s.on R.prof_ARMED = true) ∧
    (∃ (w : Who) (p : Nat) (l : List Byte) (s : State), s.mayWrite w R.prof_COMMAND 0 = true ∧
      p = s.reg R.prof_TARGET ∧
      s.profileInUse p = false ∧
      s.captureEntries.length ≤ 4096 ∧
      l = s.captured (s.dom R.sprof_RECORD p) ∧
      l.length ≤ 262144 ∧
      s.captureEntries.any (fun e => decide (65535 < e.value.length)) = false) ∧
    (∃ (w : Who) (p : Nat) (s : State), s.mayWrite w R.prof_COMMAND 0 = true ∧
      p = s.reg R.prof_TARGET ∧
      s.profileInUse p = false) :=
  ⟨⟨host, 7, emptyRecord, up, by decide +kernel⟩,
    ⟨host, withRegs up [(R.sprof_VALID, 0, 1), (R.cad_ENABLE, 0, 1), (R.cad_RATE_NUM, 0, 50), (R.cad_RATE_DEN, 0, 1)], by decide +kernel⟩,
    ⟨host, withRegs up [(R.prof_ARMED, 0, 1)], by decide +kernel⟩,
    ⟨host, 0, other.captured [], other, by exact ⟨by decide +kernel, by decide +kernel, by decide +kernel, by rw [other_capture]; decide, congrArg other.captured (by decide +kernel), by rw [capture_small]; decide, by rw [other_capture]; rfl⟩⟩,
    ⟨host, 7, withRegs up [(R.prof_TARGET, 0, 7)], by decide +kernel⟩⟩

theorem witness_TamperAndLifecycle :
    (∃ (t : Nat) (source : Nat) (s : State), source < 4 ∧
      s.phase ≠ .night) ∧
    (∃ (w : Who) (s : State), s.mayCommit w = true ∧
      s.mayWrite w R.lc_COMMIT 0 = true ∧
      s.service.commit = none ∧
      (nextLifecycle (s.reg R.lc_STATE)).contains (s.reg R.lc_TARGET) = true ∧
      s.service.ready (s.reg R.lc_TARGET) = true) ∧
    (∃ (v : Nat) (s : State), s.service.commit = some v ∧
      s.scratch.wiping = false ∧
      s.storeAccepts = true) ∧
    (∃ (s : State), s.storeAccepts = false) ∧
    (∃ (w : Who) (l : List Byte) (s : State), s.mayWrite w R.lc_DEV_DIGEST 0 = true ∧
      l.length = 48 ∧
      s.service.devDigest = none ∧
      s.reg R.lc_STATE ≤ 1) ∧
    (∃ (w : Who) (l : List Byte) (s : State), s.mayWrite w R.lc_SERVICE_KEY_DIGEST 0 = true ∧
      l.length = 48 ∧
      s.service.serviceKeyDigest = none ∧
      s.reg R.lc_STATE ≤ 1) ∧
    (∃ (w : Who) (l : List Byte) (s : State), s.mayWrite w R.lc_IMAGE_KEY 0 = true ∧
      l.length = 32 ∧
      s.service.imageKey = none ∧
      s.reg R.lc_STATE ≤ 1) ∧
    (∃ (source : Nat) (rest : List Nat) (s : State), s.scratch.recovery = source :: rest ∧
      s.dusk.core1.haltedAt = none ∧
      s.boot.restarting = false ∧
      s.boot.stopped = false ∧
      s.boot.done.contains 5 = true) :=
  ⟨⟨5, 3, up, by decide +kernel⟩,
    ⟨host, withRegs up [(R.lc_TARGET, 0, 4)], by decide +kernel⟩,
    ⟨4, { up with service := { up.service with commit := some 4 } }, by decide +kernel⟩,
    ⟨{ up with board := { up.board with codes := [(33, 0)] } }, by decide +kernel⟩,
    ⟨host, List.replicate 48 7, up, by decide +kernel⟩,
    ⟨host, List.replicate 48 7, withRegs up [(R.lc_STATE, 0, 1)], by decide +kernel⟩,
    ⟨host, List.replicate 32 7, up, by decide +kernel⟩,
    ⟨3, [0], { up with scratch := { up.scratch with recovery := [3, 0] } }, by decide +kernel⟩⟩

theorem witness_TapInstructionsTakeEffect :
    (∃ (s : State), s.board.trstN = true) ∧
    (∃ (s : State), s.board.trstN = true) ∧
    (∃ (s : State), s.board.trstN = false) ∧
    (∃ (s : State), (s.reg R.dbg_RIGHTS).testBit 3 = true) ∧
    (∃ (s : State), (s.reg R.dbg_RIGHTS).testBit 3 = false) ∧
    (∃ (data : List Byte) (v : State) (s : State), s.board.trstN = true ∧
      s.reg R.lc_STATE ≠ 4 ∧
      v = ((s.tapTo 0x10).onService fun x => { x with out := x.out.drop data.length, stream := x.stream ++ data })) ∧
    (∃ (data : List Byte) (s : State), s.board.trstN = true ∧
      s.reg R.lc_STATE = 4) ∧
    (∃ (data : List Byte) (s : State), s.board.trstN = false) :=
  ⟨⟨up, by decide +kernel⟩,
    ⟨up, by decide +kernel⟩,
    ⟨{ up with board := { up.board with trstN := false } }, by decide +kernel⟩,
    ⟨withRegs up [(R.dbg_RIGHTS, 0, 8)], by decide +kernel⟩,
    ⟨up, by decide +kernel⟩,
    ⟨[1, 2], (up.tapTo 0x10).onService fun x => { x with out := x.out.drop 2, stream := x.stream ++ [1, 2] }, up, by decide +kernel⟩,
    ⟨[1, 2], withRegs up [(R.lc_STATE, 0, 4)], by decide +kernel⟩,
    ⟨[1, 2], { up with board := { up.board with trstN := false } }, by decide +kernel⟩⟩

theorem witness_ServiceSessionsOpenAndEnd :
    (∃ (t : Nat) (v : State) (s : State), s.board.trstN = true ∧
      (s.reg R.lc_STATE = 4 ∨ (s.advanceTo t).mono < s.service.lockUntil) ∧
      v = (((s.advanceTo t).endService 5).onService fun x => { x with challenge := none })) ∧
    (∃ (t : Nat) (s : State), s.board.trstN = true ∧
      s.reg R.lc_STATE = 0 ∧
      s.service.lockUntil ≤ (s.advanceTo t).mono) ∧
    (∃ (t : Nat) (s : State), s.board.trstN = true ∧
      s.reg R.lc_STATE ≠ 4 ∧
      s.reg R.lc_STATE ≠ 0 ∧
      s.service.lockUntil ≤ (s.advanceTo t).mono) ∧
    (∃ (t : Nat) (secret : List Byte) (c : Challenge) (s : State), s.reg R.lc_STATE = 1 ∧
      s.service.challenge = some c ∧
      some (sha384 (secret ++ leBytes 8 (s.reg R.ident_UNIQUE_ID))) = s.service.devDigest) ∧
    (∃ (t : Nat) (secret : List Byte) (s : State), s.reg R.lc_STATE = 1 ∧
      (s.service.challenge = none ∨ some (sha384 (secret ++ leBytes 8 (s.reg R.ident_UNIQUE_ID))) ≠ s.service.devDigest)) ∧
    (∃ (t : Nat) (rights : Nat) (qt : List Byte) (pubkey : List Byte) (sig : List Byte) (c : Challenge) (ok : Bool) (s : State), (s.reg R.lc_STATE = 2 ∨ s.reg R.lc_STATE = 3) ∧
      s.service.challenge = some c ∧
      ok = (some (sha384 pubkey) == (if s.reg R.lc_STATE = 2 then s.service.serviceKeyDigest else some Config.returnKeyDigest) && Config.ecdsaVerify pubkey (sha384 (c.nd ++ c.qd ++ qt ++ leBytes 8 (s.reg R.ident_UNIQUE_ID) ++ leBytes 1 rights)) sig)) ∧
    (∃ (t : Nat) (frame : List Byte) (s : State), s.on R.dbg_SESSION = true ∧
      (s.advanceTo t).silent.dictAnswers ⟨.service, none⟩ = true) ∧
    (∃ (t : Nat) (s : State), s.service.lastRecord + s.reg R.dbg_TIMEOUT * 1000000000 ≤ (s.advanceTo t).mono) ∧
    (∃ (w : Who) (s : State), s.mayWrite w R.dbg_COMMAND 0 = true) :=
  ⟨⟨5, ((((locked 0).advanceTo 5).endService 5).onService fun x => { x with challenge := none }), locked 0, by decide +kernel⟩,
    ⟨5, up, by decide +kernel⟩,
    ⟨5, withRegs up [(R.lc_STATE, 0, 3)], by decide +kernel⟩,
    ⟨5, [1], challenge, { withRegs up [(R.lc_STATE, 0, 1)] with service := { up.service with challenge := some challenge, devDigest := some (sha384 ([1] ++ leBytes 8 0)) } }, by decide +kernel⟩,
    ⟨5, [1], withRegs up [(R.lc_STATE, 0, 1)], by decide +kernel⟩,
    ⟨5, 63, [], [], [], challenge, false, { withRegs up [(R.lc_STATE, 0, 2)] with service := { up.service with challenge := some challenge } }, by decide +kernel⟩,
    ⟨5, [1], withRegs up [(R.dbg_SESSION, 0, 1)], by decide +kernel⟩,
    ⟨300000000000, withRegs up [(R.dbg_SESSION, 0, 1), (R.dbg_TIMEOUT, 0, 300)], by decide +kernel⟩,
    ⟨⟨.service, none⟩, withRegs up [(R.dbg_SESSION, 0, 1)], by decide +kernel⟩⟩


/-- Core 1 halted inside a service session. -/
def resuming : State := withRegs up [(R.dbg_SESSION, 0, 1), (R.dbg_RIGHTS, 0, 1), (R.core_STATE, 1, 4), (R.core_WDT_CLOSE, 1, 10000), (R.core_WDT_WARN, 1, 5000)]
def resumeAge : Nat := min ((resuming.advanceTo 5).frozenAge 1) ((resuming.reg R.core_WDT_CLOSE 1 - 1000) * 1000)
/-- Core 1 runs, and FIX unit 31 serves a NOP at its PC. -/
def fixed : State := { withRegs up [(R.pu_MODE, 31, 1), (R.pu_CORE, 31, 1), (R.core_STATE, 1, 1)] with service := { up.service with patch := [(31, (duskEncode (.duskNop 1)).getD 0)] } }

theorem witness_DebugControlsTheCores :
    (∃ (t : Nat) (c : Nat) (s : State), s.on R.dbg_SESSION = true ∧
      (s.reg R.dbg_RIGHTS).testBit 0 = true ∧
      s.coreAwake c = true) ∧
    (∃ (t : Nat) (c : Nat) (age : Nat) (v : State) (w : State) (s : State), s.on R.dbg_SESSION = true ∧
      (s.reg R.dbg_RIGHTS).testBit 0 = true ∧
      c < 2 ∧
      s.coreHalted c = true ∧
      age = min ((s.advanceTo t).frozenAge c) ((s.reg R.core_WDT_CLOSE c - 1000) * 1000) ∧
      v = (s.advanceTo t).heardRecord.leaveHalt c age none ∧
      w = (if (s.reg R.core_WDT_CLOSE c - s.reg R.core_WDT_WARN c) * 1000 ≤ age then (v.onCore c fun k => { k with warned := true }).raiseCoreLine c 4 else v)) ∧
    (∃ (t : Nat) (c : Nat) (s : State), s.on R.dbg_SESSION = true ∧
      (s.reg R.dbg_RIGHTS).testBit 0 = true ∧
      c < 2 ∧
      s.coreHalted c = true) ∧
    (∃ (n : Nat) (s : State), n < 32 ∧
      s.reg R.pu_MODE n = 2 ∧
      s.coreRuns (s.reg R.pu_CORE n) = true ∧
      (s.core (s.reg R.pu_CORE n)).asks = [] ∧
      (s.core (s.reg R.pu_CORE n)).pc = s.reg R.pu_ADDRESS n ∧
      n ∉ (s.core (s.reg R.pu_CORE n)).met) ∧
    (∃ (n : Nat) (a : WatchAccess) (s : State), n < 32 ∧
      s.reg R.pu_MODE n = 3 ∧
      a.core = s.reg R.pu_CORE n ∧
      s.coreRuns a.core = true ∧
      a.addr &&& s.reg R.pu_MASK n = s.reg R.pu_ADDRESS n &&& s.reg R.pu_MASK n ∧
      (s.reg R.pu_ACCESS n = 2 ∨ s.reg R.pu_ACCESS n = b2n a.write)) ∧
    (∃ (n : Nat) (w : Nat) (s : State), s.fixUnit 1 = some n ∧
      s.fixWord 1 = some w ∧
      duskEncode (.duskNop 1) = some w ∧
      s.coreRuns 1 = true ∧
      (s.core 1).asks = [] ∧
      s.breakUnits 1 = [] ∧
      (s.core 1).placeFault 1 plain = none) ∧
    (∃ (w : Nat) (dst : Nat) (a : Nat) (b : Nat) (s : State), dst < 8 ∧
      a < 8 ∧
      b < 8 ∧
      s.fixWord 1 = some w ∧
      duskEncode (.duskAdd 1 dst a b) ≠ some w) :=
  ⟨⟨5, 1, withRegs up [(R.dbg_SESSION, 0, 1), (R.dbg_RIGHTS, 0, 1), (R.core_STATE, 1, 1)], by decide +kernel⟩,
    ⟨5, 1, resumeAge, (resuming.advanceTo 5).heardRecord.leaveHalt 1 resumeAge none, (resuming.advanceTo 5).heardRecord.leaveHalt 1 resumeAge none, resuming, by decide +kernel⟩,
    ⟨5, 1, withRegs up [(R.dbg_SESSION, 0, 1), (R.dbg_RIGHTS, 0, 1), (R.core_STATE, 1, 4)], by decide +kernel⟩,
    ⟨31, withRegs up [(R.pu_MODE, 31, 2), (R.core_STATE, 1, 1)], by decide +kernel⟩,
    ⟨31, ⟨0, 5, true⟩, withRegs up [(R.pu_MODE, 31, 3), (R.pu_CORE, 31, 0), (R.core_STATE, 0, 1), (R.pu_ACCESS, 31, 1), (R.pu_ADDRESS, 31, 5), (R.pu_MASK, 31, 65535)], by decide +kernel⟩,
    ⟨31, (duskEncode (.duskNop 1)).getD 0, fixed, by decide +kernel⟩,
    ⟨(duskEncode (.duskNop 1)).getD 0, 1, 2, 3, fixed, by decide +kernel⟩⟩

theorem witness_DebugAccessesTakeEffect :
    (∃ (c : Nat) (addr : Nat) (v : Nat) (take : Bool) (s : State), s.on R.dbg_SESSION = true ∧
      (s.reg R.dbg_RIGHTS).testBit 0 = true ∧
      c < 2 ∧
      s.coreHalted c = true ∧
      (s.core c).debugReg addr = some v) ∧
    (∃ (c : Nat) (port : Nat) (v : Nat) (s : State), s.on R.dbg_SESSION = true ∧
      (s.reg R.dbg_RIGHTS).testBit 0 = true ∧
      c < 2 ∧
      s.coreHalted c = true ∧
      inPort c port = true ∧
      s.portPeek c (s.core c) port = some v) ∧
    (∃ (c : Nat) (port : Nat) (s : State), s.on R.dbg_SESSION = true ∧
      (s.reg R.dbg_RIGHTS).testBit 0 = true ∧
      c < 2 ∧
      s.coreHalted c = true ∧
      inPort c port = true) ∧
    (∃ (c : Nat) (port : Nat) (data : Nat) (s : State), s.on R.dbg_SESSION = true ∧
      (s.reg R.dbg_RIGHTS).testBit 0 = true ∧
      c < 2 ∧
      s.coreHalted c = true ∧
      outPort c port = true) ∧
    (∃ (c : Nat) (addr : Nat) (data : Nat) (s : State), s.on R.dbg_SESSION = true ∧
      (s.reg R.dbg_RIGHTS).testBit 0 = true ∧
      c < 2 ∧
      s.coreHalted c = true ∧
      addr ≤ 16) ∧
    (∃ (c : Nat) (addr : Nat) (s : State), s.on R.dbg_SESSION = true ∧
      (s.reg R.dbg_RIGHTS).testBit 0 = true ∧
      c < 2 ∧
      s.coreHalted c = true ∧
      dataExists c addr = true) ∧
    (∃ (c : Nat) (addr : Nat) (data : Nat) (s : State), s.on R.dbg_SESSION = true ∧
      (s.reg R.dbg_RIGHTS).testBit 0 = true ∧
      c < 2 ∧
      s.coreHalted c = true ∧
      dataExists c addr = true) ∧
    (∃ (addr : Nat) (data : Nat) (s : State), s.on R.dbg_SESSION = true ∧
      (s.reg R.dbg_RIGHTS).testBit 0 = true ∧
      s.coreHalted 0 = true ∧
      addr < 4096) ∧
    (∃ (addr : Nat) (data : Nat) (s : State), s.on R.dbg_SESSION = true ∧
      (s.reg R.dbg_RIGHTS).testBit 0 = true ∧
      s.coreHalted 1 = true) ∧
    (∃ (addr : Nat) (s : State), s.on R.dbg_SESSION = true ∧
      (s.reg R.dbg_RIGHTS).testBit 1 = true ∧
      addr % 4 = 0 ∧
      addr < firmwareBytes) ∧
    (∃ (addr : Nat) (data : Nat) (s : State), s.on R.dbg_SESSION = true ∧
      (s.reg R.dbg_RIGHTS).testBit 1 = true ∧
      addr % 4 = 0 ∧
      addr < firmwareBytes ∧
      s.coreHalted 1 = true ∧
      s.storeAccepts = true) ∧
    (∃ (s : State), s.on R.dbg_SESSION = true ∧
      (s.reg R.dbg_RIGHTS).testBit 5 = true) ∧
    (∃ (word : Nat) (s : State), s.on R.dbg_SESSION = true ∧
      s.heardRecord.serveTerminal.service.termIn = none) ∧
    (∃ (word : Nat) (x : Nat) (s : State), s.on R.dbg_SESSION = true ∧
      s.heardRecord.serveTerminal.service.termOut = some x) :=
  ⟨⟨1, 16, 0, true, withRegs up [(R.dbg_SESSION, 0, 1), (R.dbg_RIGHTS, 0, 1), (R.core_STATE, 1, 4)], by decide +kernel⟩,
    ⟨1, 0x20, 0, withRegs up [(R.dbg_SESSION, 0, 1), (R.dbg_RIGHTS, 0, 1), (R.core_STATE, 1, 4)], by decide +kernel⟩,
    ⟨1, 0x20, withRegs up [(R.dbg_SESSION, 0, 1), (R.dbg_RIGHTS, 0, 1), (R.core_STATE, 1, 4)], by decide +kernel⟩,
    ⟨1, 0x107, 7, withRegs up [(R.dbg_SESSION, 0, 1), (R.dbg_RIGHTS, 0, 1), (R.core_STATE, 1, 4)], by decide +kernel⟩,
    ⟨1, 16, 7, withRegs up [(R.dbg_SESSION, 0, 1), (R.dbg_RIGHTS, 0, 1), (R.core_STATE, 1, 4)], by decide +kernel⟩,
    ⟨1, 65535, withRegs up [(R.dbg_SESSION, 0, 1), (R.dbg_RIGHTS, 0, 1), (R.core_STATE, 1, 4)], by decide +kernel⟩,
    ⟨0, 4095, 7, withRegs up [(R.dbg_SESSION, 0, 1), (R.dbg_RIGHTS, 0, 1), (R.core_STATE, 0, 4)], by decide +kernel⟩,
    ⟨4095, 7, withRegs up [(R.dbg_SESSION, 0, 1), (R.dbg_RIGHTS, 0, 1), (R.core_STATE, 0, 4)], by decide +kernel⟩,
    ⟨4095, 7, withRegs up [(R.dbg_SESSION, 0, 1), (R.dbg_RIGHTS, 0, 1), (R.core_STATE, 1, 4)], by decide +kernel⟩,
    ⟨8388604, withRegs up [(R.dbg_SESSION, 0, 1), (R.dbg_RIGHTS, 0, 2)], by decide +kernel⟩,
    ⟨8388604, 7, withRegs up [(R.dbg_SESSION, 0, 1), (R.dbg_RIGHTS, 0, 2), (R.core_STATE, 1, 4)], by decide +kernel⟩,
    ⟨withRegs up [(R.dbg_SESSION, 0, 1), (R.dbg_RIGHTS, 0, 32)], by decide +kernel⟩,
    ⟨7, withRegs up [(R.dbg_SESSION, 0, 1)], by decide +kernel⟩,
    ⟨7, 9, { withRegs up [(R.dbg_SESSION, 0, 1)] with service := { up.service with termOut := some 9 } }, by decide +kernel⟩⟩

theorem witness_PowerCommandsTakeEffect :
    (∃ (w : Who) (d : Nat) (s : State), s.mayWrite w R.dom_COMMAND d = true ∧
      ¬ (104 ≤ d ∧ d ≤ 106) ∧
      s.isActive = true ∧
      s.reg R.dom_STATE d = 0 ∧
      s.domainBusy d = false) ∧
    (∃ (w : Who) (d : Nat) (s : State), s.mayWrite w R.dom_COMMAND d = true ∧
      ¬ (104 ≤ d ∧ d ≤ 106) ∧
      s.isActive = true ∧
      s.reg R.dom_STATE d = 2 ∧
      (d < 100 ∨ s.on R.cfg_SOURCE = false)) ∧
    (∃ (w : Who) (d : Nat) (s : State), s.mayWrite w R.dom_COMMAND d = true ∧
      ¬ (104 ≤ d ∧ d ≤ 106) ∧
      s.isActive = false) ∧
    (∃ (w : Who) (s : State), s.mayWrite w R.pow_COMMAND 0 = true ∧
      s.isActive = true ∧
      s.powerBusy = false) ∧
    (∃ (w : Who) (s : State), s.mayWrite w R.pow_COMMAND 0 = true ∧
      (s.isActive = true ∨ s.reg R.pow_STATE = 2) ∧
      s.powerBusy = false) ∧
    (∃ (w : Who) (s : State), s.mayWrite w R.pow_COMMAND 0 = true ∧
      s.reg R.pow_STATE = 2) :=
  ⟨⟨host, 103, up, by decide +kernel⟩,
    ⟨host, 103, withRegs up [(R.dom_STATE, 103, 2)], by decide +kernel⟩,
    ⟨host, 103, withRegs up [(R.pow_STATE, 0, 2)], by decide +kernel⟩,
    ⟨host, up, by decide +kernel⟩,
    ⟨host, withRegs up [(R.pow_STATE, 0, 2)], by decide +kernel⟩,
    ⟨host, { withRegs up [(R.pow_STATE, 0, 2)] with power := { up.power with offs := [99, 3] } }, by decide +kernel⟩⟩

theorem witness_PowerEventsTakeEffect :
    (∃ (t : Nat) (d : Nat) (b : Nat) (s : State), d < 107 ∧
      s.drainBegan d = some b ∧
      (s.advanceTo t).drained d = true) ∧
    (∃ (t : Nat) (d : Nat) (b : Nat) (s : State), d < 107 ∧
      s.drainBegan d = some b ∧
      b + s.reg R.pow_DRAIN_LIMIT * 1000000 ≤ (s.advanceTo t).mono ∧
      s.power.doing = 2 ∧
      s.power.trip = false) ∧
    (∃ (t : Nat) (d : Nat) (b : Nat) (s : State), d < 107 ∧
      s.drainBegan d = some b ∧
      b + s.reg R.pow_DRAIN_LIMIT * 1000000 ≤ (s.advanceTo t).mono ∧
      s.power.doing ≠ 2) ∧
    (∃ (t : Nat) (d : Nat) (b : Nat) (s : State), d < 107 ∧
      s.drainBegan d = some b ∧
      s.power.doing = 2 ∧
      s.power.trip = true ∧
      b + 1000000 ≤ (s.advanceTo t).mono) ∧
    (∃ (t : Nat) (d : Nat) (image : List Byte) (results : List TrainResult) (s : State), d < 4 ∧
      s.reg R.pow_STATE ≠ 3 ∧
      s.reg R.dom_STATE d = 3) ∧
    (∃ (t : Nat) (d : Nat) (image : List Byte) (results : List TrainResult) (s : State), 4 ≤ d ∧
      d < 100 ∧
      s.reg R.pow_STATE ≠ 3 ∧
      s.reg R.dom_STATE d = 3) ∧
    (∃ (t : Nat) (d : Nat) (image : List Byte) (results : List TrainResult) (s : State), 100 ≤ d ∧
      d < 104 ∧
      s.reg R.pow_STATE ≠ 3 ∧
      s.reg R.dom_STATE d = 3) ∧
    (∃ (t : Nat) (k : Nat) (image : List Byte) (results : List TrainResult) (s : State), k < 4 ∧
      s.reg R.pow_STATE = 3 ∧
      k ∈ s.power.refreshing) ∧
    (∃ (t : Nat) (code : Nat) (c : Nat) (v : State) (s : State), v = (s.advanceTo t).waitUntil s.power.adcAt ∧
      nth s.power.walk s.power.pos 0 = c ∧
      (24 ≤ c ∨ code % 4096 < 3300)) ∧
    (∃ (t : Nat) (code : Nat) (c : Nat) (s : State), nth s.power.walk s.power.pos 0 = c ∧
      c < 24 ∧
      3300 ≤ code % 4096 ∧
      runOf s.power.hot c true ≠ 8) ∧
    (∃ (t : Nat) (code : Nat) (c : Nat) (v : State) (s : State), v = (s.advanceTo t).waitUntil s.power.adcAt ∧
      nth s.power.walk s.power.pos 0 = c ∧
      c < 24 ∧
      3300 ≤ code % 4096 ∧
      runOf s.power.hot c true = 8) ∧
    (∃ (t : Nat) (value : Nat) (s : State), s.coreRuns 0 = true) ∧
    (∃ (t : Nat) (k : Nat) (b : Nat) (s : State), k < 4 ∧
      105 ≤ s.regI R.stk_TEMP k ∧
      b = tget (fun _ => 0) s.power.hotStacks k ∧
      b ≠ 0 ∧
      b + 1000000 ≤ (s.advanceTo t).mono + 1) ∧
    (∃ (t : Nat) (s : State), s.coreRuns 0 = true) ∧
    (∃ (t : Nat) (b : Nat) (s : State), s.power.timerFrom = some b ∧
      s.phase = .night ∧
      b + s.power.wakeAfter * 1000000000 ≤ (s.advanceTo t).mono) :=
  ⟨⟨5, 99, 0, { up with power := { up.power with drains := [(99, 0)] } }, by decide +kernel⟩,
    ⟨1000000, 99, 0, { withRegs up [(R.pow_DRAIN_LIMIT, 0, 1)] with power := { up.power with drains := [(99, 0)], doing := 2 } }, by decide +kernel⟩,
    ⟨1000000, 99, 0, { withRegs up [(R.pow_DRAIN_LIMIT, 0, 1)] with power := { up.power with drains := [(99, 0)] } }, by decide +kernel⟩,
    ⟨1000000, 99, 0, { up with power := { up.power with drains := [(99, 0)], doing := 2, trip := true } }, by decide +kernel⟩,
    ⟨5, 3, [], [], withRegs up [(R.dom_STATE, 3, 3)], by decide +kernel⟩,
    ⟨5, 67, [], [], withRegs up [(R.dom_STATE, 67, 3)], by decide +kernel⟩,
    ⟨5, 103, [], [], withRegs up [(R.dom_STATE, 103, 3)], by decide +kernel⟩,
    ⟨5, 3, [], [], { withRegs up [(R.pow_STATE, 0, 3)] with power := { up.power with refreshing := [3] } }, by decide +kernel⟩,
    ⟨5, 9, 36, (State.advanceTo { up with power := { up.power with walk := [36] } } 5).waitUntil up.power.adcAt, { up with power := { up.power with walk := [36] } }, by decide +kernel⟩,
    ⟨5, 3300, 23, { up with power := { up.power with walk := [23] } }, by decide +kernel⟩,
    ⟨5, 3300, 23, (State.advanceTo { up with power := { up.power with walk := [23], hot := [(23, 7)] } } 5).waitUntil up.power.adcAt, { up with power := { up.power with walk := [23], hot := [(23, 7)] } }, by decide +kernel⟩,
    ⟨5, 9, withRegs up [(R.core_STATE, 0, 1)], by decide +kernel⟩,
    ⟨1000000, 3, 1, { withRegs up [(R.stk_TEMP, 3, 105)] with power := { up.power with hotStacks := [(3, 1)] } }, by decide +kernel⟩,
    ⟨5, withRegs up [(R.core_STATE, 0, 1)], by decide +kernel⟩,
    ⟨1000000000, 0, { up with phase := .night, power := { up.power with timerFrom := some 0, wakeAfter := 1 } }, by decide +kernel⟩⟩

theorem witness_ResetAndDaybreak :
    (∃ (t : Nat) (n : Nat) (r : StepResult) (s : State), s.stepRuns n = true ∧
      (n = 1 → s.board.resetN = true ∧ s.railsOk = true) ∧
      (match n, r with | 1, .ok => True | 2, .ok => True | 3, .ok => True | 3, .fuseCheckFailed => True | 4, .ok => True | 4, .checkers _ => True | 6, .profilePins _ _ => True | 7, .image _ _ => True | 8, .trained _ => True | 9, .lanes _ => True | 10, .graphs _ => True | _, _ => False)) ∧
    (∃ (t : Nat) (v : State) (s : State), s.stepRuns 1 = true ∧
      s.board.resetN = true ∧
      s.railsOk = true ∧
      v = ({ s.advanceTo t with boot := { (s.advanceTo t).boot with done := 1 :: (s.advanceTo t).boot.done } } : State).raise 0x1009 (1 + (s.advanceTo t).sinceReset * 16)) ∧
    (∃ (t : Nat) (s : State), s.stepRuns 1 = true ∧
      (s.board.resetN = false ∨ s.railsOk = false)) ∧
    (∃ (t : Nat) (s : State), s.stepRuns 2 = true) ∧
    (∃ (t : Nat) (s : State), s.stepRuns 3 = true) ∧
    (∃ (t : Nat) (s : State), s.stepRuns 3 = true) ∧
    (∃ (t : Nat) (s : State), s.stepRuns 4 = true) ∧
    (∃ (t : Nat) (s : State), s.stepRuns 5 = true) ∧
    (∃ (t : Nat) (images : List (List Byte)) (s : State), s.stepRuns 10 = true) ∧
    (∃ (t : Nat) (n : Nat) (r : StepResult) (s : State), 1 ≤ n ∧
      n ≤ 10 ∧
      s.stepRuns n = false) ∧
    (∃ (t : Nat) (v : State) (s : State), s.boot.restarting = true ∧
      v = ({ s.advanceTo t with boot := { (s.advanceTo t).boot with restarting := false, restartEnd := some (s.advanceTo t).mono } } : State)) :=
  ⟨⟨5, 9, .lanes [], { State.reset with boot := { State.reset.boot with done := [8, 6, 5, 4, 3, 2, 1] } }, by exact ⟨by decide +kernel, by decide +kernel, trivial⟩⟩,
    ⟨5, State.raise { State.reset.advanceTo 5 with boot := { (State.reset.advanceTo 5).boot with done := 1 :: (State.reset.advanceTo 5).boot.done } } 0x1009 (1 + (State.reset.advanceTo 5).sinceReset * 16), State.reset, by decide +kernel⟩,
    ⟨5, { State.reset with board := { State.reset.board with resetN := false } }, by decide +kernel⟩,
    ⟨5, { State.reset with boot := { State.reset.boot with done := [1] } }, by decide +kernel⟩,
    ⟨5, { State.reset with boot := { State.reset.boot with done := [2, 1] } }, by decide +kernel⟩,
    ⟨5, { State.reset with boot := { State.reset.boot with done := [2, 1] } }, by decide +kernel⟩,
    ⟨5, { State.reset with boot := { State.reset.boot with done := [3, 2, 1] } }, by decide +kernel⟩,
    ⟨5, { State.reset with boot := { State.reset.boot with done := [4, 3, 2, 1] } }, by decide +kernel⟩,
    ⟨5, [], { State.reset with boot := { State.reset.boot with done := [9, 8, 7, 6, 5, 4, 3, 2, 1] } }, by decide +kernel⟩,
    ⟨5, 10, .ok, up, by decide +kernel⟩,
    ⟨5, { State.advanceTo { up with boot := { up.boot with restarting := true } } 5 with boot := { (State.advanceTo { up with boot := { up.boot with restarting := true } } 5).boot with restarting := false, restartEnd := some (State.advanceTo { up with boot := { up.boot with restarting := true } } 5).mono } }, { up with boot := { up.boot with restarting := true } }, by decide +kernel⟩⟩

theorem witness_LogCommandsTakeEffect :
    (∃ (w : Who) (mask : Nat) (s : State), s.mayWrite w R.integ_LATCHED 0 = true ∧
      mask < 4096) ∧
    (∃ (w : Who) (s : State), s.mayWrite w R.integ_ACK 0 = true) ∧
    (∃ (w : Who) (s : State), s.mayWrite w R.log_CLEAR_PINNED 0 = true) ∧
    (∃ (w : Who) (s : State), s.dictAnswers w = true ∧
      s.readsClosed w 0x9001 = false) ∧
    (∃ (t : Nat) (r : EvRec) (rest : List EvRec) (s : State), s.log.queue = r :: rest ∧
      (s.advanceTo t).recentWrites.length < 4000 ∧
      s.storeAccepts = true ∧
      (s.dusk.core1.haltedAt = none ∨ s.phase = .night)) ∧
    (∃ (t : Nat) (b : Nat) (s : State), s.log.dropStart = some b ∧
      b + 1000000000 ≤ (s.advanceTo t).mono) :=
  ⟨⟨host, 4095, { up with latched := 2048 }, by decide +kernel⟩,
    ⟨host, up, by decide +kernel⟩,
    ⟨host, up, by decide +kernel⟩,
    ⟨host, up, by decide +kernel⟩,
    ⟨5, ⟨1, 2, 3, 4, 5, 6, 7, 8⟩, [], { up with log := { up.log with queue := [⟨1, 2, 3, 4, 5, 6, 7, 8⟩] } }, by decide +kernel⟩,
    ⟨1000000000, 0, { up with log := { up.log with dropStart := some 0, dropCount := 3 } }, by decide +kernel⟩⟩

theorem witness_EnsembleCommandsTakeEffect :
    (∃ (w : Who) (s : State), s.mayWrite w R.ens_COMMAND 0 = true ∧
      s.on R.ens_ENABLE = true ∧
      s.reg R.ens_STATE = 0) ∧
    (∃ (w : Who) (on : Bool) (s : State), s.mayWrite w R.ens_ENABLE 0 = true) ∧
    (∃ (w : Who) (plan : List Byte) (s : State), s.mayWrite w R.ens_PLAN 0 = true ∧
      plan.length ≤ 65536) ∧
    (∃ (t : Nat) (k : Nat) (x : CouncilMsg) (ids : List Nat) (v : State) (s : State), k < 256 ∧
      s.on R.ens_ENABLE = true ∧
      s.linkUp k = true ∧
      s.reg R.link_PARTNER_ID k ≠ s.reg R.ens_ENS_ID ∧
      x.magicOk = true ∧
      x.ident % 8 ≠ s.reg R.ens_ENS_ID ∧
      x.cadence ≠ s.reg R.ens_COUNCIL_CADENCE ∧
      ids = tget (fun _ => []) s.ens.idents (x.ident % 8) ∧
      v = ((s.advanceTo t).onEns fun e => { e with idents := tput (fun _ => []) (x.ident % 8) (if ids.contains x.uniqueId then ids else ids ++ [x.uniqueId]) e.idents }) ∧
      v.partnerOk (x.ident % 8) = true) ∧
    (∃ (t : Nat) (k : Nat) (x : CouncilMsg) (ids : List Nat) (v : State) (s : State), k < 256 ∧
      s.on R.ens_ENABLE = true ∧
      s.linkUp k = true ∧
      s.reg R.link_PARTNER_ID k ≠ s.reg R.ens_ENS_ID ∧
      x.magicOk = true ∧
      x.ident % 8 ≠ s.reg R.ens_ENS_ID ∧
      x.cadence = s.reg R.ens_COUNCIL_CADENCE ∧
      ids = tget (fun _ => []) s.ens.idents (x.ident % 8) ∧
      v = ((s.advanceTo t).onEns fun e => { e with idents := tput (fun _ => []) (x.ident % 8) (if ids.contains x.uniqueId then ids else ids ++ [x.uniqueId]) e.idents }) ∧
      v.partnerOk (x.ident % 8) = true ∧
      (x.frame = (v.heardFrom (x.ident % 8) x).councilFrame ∨ x.frame + 1 = (v.heardFrom (x.ident % 8) x).councilFrame)) ∧
    (∃ (t : Nat) (k : Nat) (x : CouncilMsg) (s : State), k < 256 ∧
      s.on R.ens_ENABLE = true ∧
      s.linkUp k = true ∧
      (s.reg R.link_PARTNER_ID k = s.reg R.ens_ENS_ID ∨ x.magicOk = false ∨ x.ident % 8 = s.reg R.ens_ENS_ID)) ∧
    (∃ (t : Nat) (k : Nat) (p : PeerData) (s : State), k < 256 ∧
      s.reg R.pf_LINK p.flow = k ∧
      s.reg R.flow_DIR p.flow = 0 ∧
      s.linkUp k = true ∧
      s.reg R.flow_STATE p.flow ≠ 0 ∧
      s.reg R.flow_STATE p.flow ≠ 2) ∧
    (∃ (t : Nat) (k : Nat) (p : PeerData) (s : State), k < 256 ∧
      s.reg R.pf_LINK p.flow = k ∧
      s.reg R.flow_DIR p.flow = 0 ∧
      s.linkUp k = true ∧
      s.reg R.flow_STATE p.flow = 2 ∧
      (s.advanceTo t).inFrame? p.flow (fullFrame ((s.flowRun p.flow).newest.getD 0) p.frame) = none) ∧
    (∃ (t : Nat) (k : Nat) (p : PeerData) (v : InFrame) (s : State), k < 256 ∧
      s.reg R.pf_LINK p.flow = k ∧
      s.reg R.flow_DIR p.flow = 0 ∧
      s.reg R.flow_STATE p.flow = 2 ∧
      s.linkUp k = true ∧
      (s.advanceTo t).inFrame? p.flow (fullFrame ((s.flowRun p.flow).newest.getD 0) p.frame) = some v) ∧
    (∃ (t : Nat) (f : Nat) (o : Oper) (b : BufferRec) (v : State) (s : State), f < 262144 ∧
      s.reg R.flow_STATE f = 2 ∧
      s.reg R.flow_DIR f = 1 ∧
      s.isPeer f = true ∧
      (s.advanceTo t).launchable f = some (o, b) ∧
      v = ((s.advanceTo t).each (List.range (ceilDiv b.size 2016)) fun s i => s.peerPacket f ((s.advanceTo t).reg R.pf_LINK f) o.frame ((s.advanceTo t).sinkInput o).1 ((s.advanceTo t).sinkInput o).2 i b)) :=
  ⟨⟨host, withRegs up [(R.ens_ENABLE, 0, 1)], by decide +kernel⟩,
    ⟨host, true, up, by decide +kernel⟩,
    ⟨host, [1], up, by decide +kernel⟩,
    ⟨5, 255, councilMsg true, tget (fun _ => []) ensState.ens.idents 7, (((ensState.advanceTo 5)).onEns fun e => { e with idents := tput (fun _ => []) 7 (if (tget (fun _ => []) ensState.ens.idents 7).contains 9 then tget (fun _ => []) ensState.ens.idents 7 else tget (fun _ => []) ensState.ens.idents 7 ++ [9]) e.idents }), ensState, by decide +kernel⟩,
    ⟨5, 255, { councilMsg true with cadence := 0 }, tget (fun _ => []) ensState.ens.idents 7, (((ensState.advanceTo 5)).onEns fun e => { e with idents := tput (fun _ => []) 7 (if (tget (fun _ => []) ensState.ens.idents 7).contains 9 then tget (fun _ => []) ensState.ens.idents 7 else tget (fun _ => []) ensState.ens.idents 7 ++ [9]) e.idents }), ensState, by decide +kernel⟩,
    ⟨5, 255, councilMsg false, ensState, by decide +kernel⟩,
    ⟨5, 255, ⟨7, true, true, 2, 0, 0, [1, 2, 3, 4]⟩, withRegs up [(R.pf_LINK, 7, 255), (R.flow_STATE, 7, 3), (R.link_STATE, 255, 2), (R.flow_HANDLE, 7, 65536)], by decide +kernel⟩,
    ⟨5, 255, ⟨7, true, true, 2, 0, 0, [1, 2, 3, 4]⟩, withRegs up [(R.pf_LINK, 7, 255), (R.flow_STATE, 7, 2), (R.link_STATE, 255, 2), (R.flow_HANDLE, 7, 65536)], by decide +kernel⟩,
    ⟨5, 255, ⟨7, true, true, 2, 0, 0, [1, 2, 3, 4]⟩, { frame := 2, addr := 0, buf := someBuf }, { withRegs up [(R.pf_LINK, 7, 255), (R.flow_STATE, 7, 2), (R.link_STATE, 255, 2), (R.flow_HANDLE, 7, 65536)] with streams := { up.streams with flows := [(7, { slot := 0, frames := [{ frame := 2, addr := 0, buf := someBuf }] })] }, sched := { up.sched with graphs := [(0, sourceGraph)] } }, by decide +kernel⟩,
    ⟨5, 7, ⟨0, 2, .active, false, 608, 100, 0, 9, 0, 0, false⟩, ⟨65536, 2, 0, false, 1, true, 2, 1, 4, 96, 32, 0⟩, ((peerSender.advanceTo 5).each (List.range (ceilDiv 96 2016)) fun s i => s.peerPacket 7 255 2 ((peerSender.advanceTo 5).sinkInput ⟨0, 2, .active, false, 608, 100, 0, 9, 0, 0, false⟩).1 ((peerSender.advanceTo 5).sinkInput ⟨0, 2, .active, false, 608, 100, 0, 9, 0, 0, false⟩).2 i ⟨65536, 2, 0, false, 1, true, 2, 1, 4, 96, 32, 0⟩), peerSender, by decide +kernel⟩⟩

theorem witness_DuskAluInstructions :
    (∃ (c : Nat) (dst : Nat) (a : Nat) (b : Nat) (k : Core) (s : State), c < 2 ∧
      dst < 8 ∧
      a < 8 ∧
      b < 8 ∧
      k = s.core c ∧
      s.mayIssue c {} = true) ∧
    (∃ (c : Nat) (dst : Nat) (a : Nat) (b : Nat) (k : Core) (s : State), c < 2 ∧
      dst < 8 ∧
      a < 8 ∧
      b < 8 ∧
      k = s.core c ∧
      s.mayIssue c {} = true) ∧
    (∃ (c : Nat) (dst : Nat) (a : Nat) (k : Core) (s : State), c < 2 ∧
      dst < 8 ∧
      a < 8 ∧
      k = s.core c ∧
      s.mayIssue c {} = true) ∧
    (∃ (c : Nat) (dst : Nat) (imm : Nat) (k : Core) (s : State), c < 2 ∧
      dst < 8 ∧
      imm < 8192 ∧
      k = s.core c ∧
      s.mayIssue c {} = true) ∧
    (∃ (c : Nat) (target : Nat) (imm : Nat) (s : State), c < 2 ∧
      target < 12 ∧
      imm < 65536 ∧
      s.mayIssue c {} = true) :=
  ⟨⟨0, 7, 1, 2, { words := 4096, d := [0, 65535, 32769, 0, 0, 0, 0, 0] }, coreState { d := [0, 65535, 32769, 0, 0, 0, 0, 0] }, by decide +kernel⟩,
    ⟨1, 2, 1, 2, { d := [0, 65535, 17, 0, 0, 0, 0, 0] }, coreState { d := [0, 65535, 17, 0, 0, 0, 0, 0] }, by decide +kernel⟩,
    ⟨1, 7, 7, { d := [0, 0, 0, 0, 0, 0, 0, 9] }, coreState { d := [0, 0, 0, 0, 0, 0, 0, 9] }, by decide +kernel⟩,
    ⟨0, 7, 8191, { words := 4096 }, coreState {}, by decide +kernel⟩,
    ⟨0, 11, 65535, coreState {}, by decide +kernel⟩⟩

theorem witness_DuskMemoryAndAccumulators :
    (∃ (c : Nat) (d : Nat) (p : Nat) (mode : Nat) (offset : Nat) (k : Core) (s : State), c < 2 ∧
      d < 8 ∧
      p < 4 ∧
      mode < 6 ∧
      offset < 4096 ∧
      k = s.core c ∧
      s.mayIssue c {} = true ∧
      external c (k.dataAddr p mode offset) = false) ∧
    (∃ (d : Nat) (p : Nat) (mode : Nat) (offset : Nat) (k : Core) (s : State), d < 8 ∧
      p < 4 ∧
      mode < 6 ∧
      offset < 4096 ∧
      k = s.core 1 ∧
      s.mayIssue 1 {} = true ∧
      external 1 (k.dataAddr p mode offset) = true) ∧
    (∃ (c : Nat) (acc : Nat) (dx : Nat) (dy : Nat) (frac : Bool) (k : Core) (x : Int) (s : State), c < 2 ∧
      acc < 2 ∧
      dx < 8 ∧
      dy < 8 ∧
      k = s.core c ∧
      s.mayIssue c {} = true ∧
      x = k.dInt dx * k.dInt dy * (if frac then 2 else 1)) ∧
    (∃ (c : Nat) (acc : Nat) (d : Nat) (k : Core) (s : State), c < 2 ∧
      acc < 2 ∧
      d < 8 ∧
      k = s.core c ∧
      s.mayIssue c {} = true) ∧
    (∃ (c : Nat) (acc : Nat) (n : Int) (k : Core) (s : State), c < 2 ∧
      acc < 2 ∧
      -32 ≤ n ∧
      n ≤ 31 ∧
      k = s.core c ∧
      s.mayIssue c {} = true) :=
  ⟨⟨0, 7, 3, 5, 4095, { words := 4096 }, coreState {}, by decide +kernel⟩,
    ⟨7, 3, 5, 4095, { p := [0, 0, 0, 65535 - 4095] }, coreState { p := [0, 0, 0, 65535 - 4095] }, by decide +kernel⟩,
    ⟨1, 1, 7, 7, true, { p := [0, 0, 0, 9], ps := [0, 0, 0, 2] }, default, coreState { p := [0, 0, 0, 9], ps := [0, 0, 0, 2] }, by decide +kernel⟩,
    ⟨1, 1, 7, { d := [0, 32768, 0, 0, 0, 0, 0, 32768] }, coreState { d := [0, 32768, 0, 0, 0, 0, 0, 32768] }, by decide +kernel⟩,
    ⟨1, 1, default, { d := [0, 0, 0, 0, 0, 0, 0, 65528], a := [0, 2 ^ 39 + 5] }, coreState { d := [0, 0, 0, 0, 0, 0, 0, 65528], a := [0, 2 ^ 39 + 5] }, by decide +kernel⟩⟩

theorem witness_DuskControlFlow :
    (∃ (c : Nat) (cond : Nat) (d : Nat) (target : Nat) (k : Core) (s : State), c < 2 ∧
      cond < 7 ∧
      d < 8 ∧
      target < 4096 ∧
      k = s.core c ∧
      s.mayIssue c jumpPlaces = true ∧
      k.stack.length < 8) ∧
    (∃ (c : Nat) (x : Nat) (rest : List Nat) (k : Core) (s : State), c < 2 ∧
      k = s.core c ∧
      k.stack = x :: rest ∧
      s.mayIssue c jumpPlaces = true) ∧
    (∃ (c : Nat) (d : Nat) (n : Nat) (k : Core) (s : State), c < 2 ∧
      d < 8 ∧
      n < 4096 ∧
      k = s.core c ∧
      s.mayIssue c { inSlot := false, inRepeat := false } = true ∧
      1 ≤ k.dAt d ∧
      k.dAt d ≤ 4096) ∧
    (∃ (c : Nat) (d : Nat) (last : Nat) (k : Core) (s : State), c < 2 ∧
      d < 8 ∧
      last < 4096 ∧
      k = s.core c ∧
      1 ≤ k.dAt d ∧
      k.dAt d ≤ 4096 ∧
      (k.looping 0 && k.looping 1) = false ∧
      s.mayIssue c { inSlot := false, inRepeat := false } = true) ∧
    (∃ (k : Core) (s : State), k = s.core 1 ∧
      s.mayIssue 1 { inSlot := false, inRepeat := false } = true) ∧
    (∃ (c : Nat) (d : Nat) (port : Nat) (k : Core) (s : State), c < 2 ∧
      d < 8 ∧
      port < 1024 ∧
      k = s.core c ∧
      s.mayIssue c { inRepeat := false } = true ∧
      inPort c port = true) ∧
    (∃ (c : Nat) (d : Nat) (port : Nat) (k : Core) (s : State), c < 2 ∧
      d < 8 ∧
      port < 1024 ∧
      k = s.core c ∧
      s.mayIssue c { inRepeat := false } = true ∧
      outPort c port = true) ∧
    (∃ (c : Nat) (s : State), c < 2 ∧
      s.mayIssue c {} = true) ∧
    (∃ (c : Nat) (s : State), c < 2 ∧
      s.mayIssue c {} = true) :=
  ⟨⟨0, 6, 7, 4095, { words := 4096, stack := [1, 2, 3, 4, 5, 6, 7] }, coreState { stack := [1, 2, 3, 4, 5, 6, 7] }, by decide +kernel⟩,
    ⟨1, 5, [], { stack := [5] }, coreState { stack := [5] }, by decide +kernel⟩,
    ⟨1, 7, 4095, { d := [0, 0, 0, 0, 0, 0, 0, 4096] }, coreState { d := [0, 0, 0, 0, 0, 0, 0, 4096] }, by decide +kernel⟩,
    ⟨1, 7, 4095, { d := [0, 0, 0, 0, 0, 0, 0, 4096] }, coreState { d := [0, 0, 0, 0, 0, 0, 0, 4096] }, by decide +kernel⟩,
    ⟨{ d := [5, 6, 0, 0, 0, 0, 0, 0] }, coreState { d := [5, 6, 0, 0, 0, 0, 0, 0] }, by decide +kernel⟩,
    ⟨0, 7, 1, { words := 4096 }, coreState {}, by decide +kernel⟩,
    ⟨0, 7, 64, { words := 4096 }, coreState {}, by decide +kernel⟩,
    ⟨0, coreState {}, by decide +kernel⟩,
    ⟨1, coreState {}, by decide +kernel⟩⟩

theorem witness_PlacementsFault :
    (∃ (c : Nat) (cond : Nat) (d : Nat) (n : Nat) (target : Nat) (reg : Bool) (s : State), c < 2 ∧
      cond < 7 ∧
      d < 8 ∧
      n < 4096 ∧
      target < 4096 ∧
      s.mayIssue c {} = true ∧
      0 < (s.core c).slots) ∧
    (∃ (c : Nat) (cond : Nat) (d : Nat) (target : Nat) (s : State), c < 2 ∧
      cond < 7 ∧
      d < 8 ∧
      target < 4096 ∧
      s.mayIssue c {} = true ∧
      ((s.core c).atEnd 0 = true ∨ (s.core c).atEnd 1 = true)) ∧
    (∃ (c : Nat) (p : Places) (k : Core), (c = 0 → k.pc < k.words ∧ parityOk 32 (k.progWord k.pc) = true) ∧
      p.illegal = false ∧
      0 < k.slots ∧
      (k.atEnd 0 = true ∨ k.atEnd 1 = true)) ∧
    (∃ (c : Nat) (cond : Nat) (d : Nat) (n : Nat) (port : Nat) (target : Nat) (reg : Bool) (s : State), c < 2 ∧
      cond < 7 ∧
      d < 8 ∧
      n < 4096 ∧
      port < 1024 ∧
      target < 4096 ∧
      s.mayIssue c {} = true ∧
      (s.core c).slots = 0 ∧
      (s.core c).atEnd 0 = false ∧
      (s.core c).atEnd 1 = false ∧
      0 < (s.core c).rep) ∧
    (∃ (d : Nat) (p : Nat) (mode : Nat) (offset : Nat) (s : State), d < 8 ∧
      p < 4 ∧
      mode < 6 ∧
      offset < 4096 ∧
      s.mayIssue 1 {} = true ∧
      0 < (s.core 1).rep ∧
      (s.core 1).lengthBad p mode = false ∧
      external 1 ((s.core 1).dataAddr p mode offset) = true) ∧
    (∃ (acc : Nat) (dx : Nat) (dy : Nat) (frac : Bool) (s : State), acc < 2 ∧
      dx < 8 ∧
      dy < 8 ∧
      s.mayIssue 1 {} = true ∧
      0 < (s.core 1).rep ∧
      (external 1 ((s.core 1).pAt 0) = true ∨ ((s.core 1).accessFault 1 ((s.core 1).pAt 0) true = none ∧ external 1 ((s.core 1).pAt 1) = true))) ∧
    (∃ (c : Nat) (d : Nat) (n : Nat) (target : Nat) (s : State), c < 2 ∧
      d < 8 ∧
      n < 4096 ∧
      target < 4096 ∧
      s.mayIssue c { inSlot := false, inRepeat := false } = true) ∧
    (∃ (c : Nat) (target : Nat) (s : State), c < 2 ∧
      target < 4096 ∧
      s.mayIssue c jumpPlaces = true) :=
  ⟨⟨0, 6, 7, 4095, 4095, true, coreState { slots := 1 }, by decide +kernel⟩,
    ⟨1, 6, 7, 4095, coreState { lc := [1, 0], le := [0, 0] }, by decide +kernel⟩,
    ⟨1, { inSlot := false }, { slots := 1, lc := [1, 0], le := [0, 0] }, by decide +kernel⟩,
    ⟨0, 6, 7, 7, 7, 7, true, coreState { rep := 1 }, by decide +kernel⟩,
    ⟨7, 3, 5, 7, coreState { rep := 1, p := [0, 0, 0, 60000] }, by decide +kernel⟩,
    ⟨1, 7, 7, true, coreState { rep := 1, p := [0, 65535, 0, 0] }, by decide +kernel⟩,
    ⟨1, 7, 7, 7, coreState { d := [0, 0, 0, 0, 0, 0, 0, 4097], lc := [1, 1], le := [9, 9] }, by decide +kernel⟩,
    ⟨1, 4095, coreState {}, by decide +kernel⟩⟩

theorem witness_InterruptsTimersAndWatchPrograms :
    (∃ (c : Nat) (n : Nat) (k : Core) (s : State), c < 2 ∧
      k = s.core c ∧
      s.coreRuns c = true ∧
      k.ie = true ∧
      k.atBoundary = true ∧
      k.lowestLine = some n ∧
      k.stack.length < 8) ∧
    (∃ (t : Nat) (k : Core) (s : State), k = (s.advanceTo t).dusk.core0 ∧
      k.timer ≠ 0 ∧
      k.timerFrom + k.timer * 1000 ≤ (s.advanceTo t).mono ∧
      (s.advanceTo t).watched 0 = true) ∧
    (∃ (t : Nat) (c : Nat) (x : Nat) (s : State), c < 2 ∧
      (s.advanceTo t).coreRuns c = true ∧
      ((s.advanceTo t).core c).haltedAt = none ∧
      x = (s.advanceTo t).mono - ((s.advanceTo t).core c).kickAt ∧
      (s.advanceTo t).reg R.core_WDT_OPEN c * 1000 ≤ x ∧
      x < (s.advanceTo t).reg R.core_WDT_CLOSE c * 1000) ∧
    (∃ (t : Nat) (c : Nat) (s : State), c < 2 ∧
      (s.advanceTo t).watched c = true ∧
      ((s.advanceTo t).core c).warned = false ∧
      ((s.advanceTo t).core c).kickAt + ((s.advanceTo t).reg R.core_WDT_CLOSE c - (s.advanceTo t).reg R.core_WDT_WARN c) * 1000 ≤ (s.advanceTo t).mono) ∧
    (∃ (t : Nat) (c : Nat) (s : State), c < 2 ∧
      (s.advanceTo t).watched c = true ∧
      ((s.advanceTo t).core c).kickAt + (s.advanceTo t).reg R.core_WDT_CLOSE c * 1000 ≤ (s.advanceTo t).mono) ∧
    (∃ (w : Who) (s : State), s.mayWrite w R.wp_COMMAND 0 = true ∧
      s.watchStill = true) ∧
    (∃ (w : Who) (s : State), s.mayWrite w R.wp_COMMAND 0 = true) ∧
    (∃ (w : Who) (s : State), s.mayWrite w R.wp_COMMAND 0 = true ∧
      s.dom R.wp_IMAGE ≠ []) ∧
    (∃ (data : Nat) (s : State), s.coreRuns 0 = true ∧
      s.recentRaises.length < 1000) ∧
    (∃ (addr : Nat) (s : State), s.coreRuns 0 = true ∧
      (s.dusk.mbx = 1 ∨ s.mailboxOpen = false)) ∧
    (∃ (addr : Nat) (s : State), s.coreRuns 0 = true ∧
      s.dusk.mbx ≠ 1 ∧
      s.mailboxOpen = true) ∧
    (∃ (l : List Byte) (s : State), s.dusk.mbxReply = some l) :=
  ⟨⟨1, 15, { ie := true, irqEn := 65535, irqPend := 32768, stack := [1, 2, 3, 4, 5, 6, 7] }, coreState { ie := true, irqEn := 65535, irqPend := 32768, stack := [1, 2, 3, 4, 5, 6, 7] }, by decide +kernel⟩,
    ⟨65535000, { words := 4096, timer := 65535 }, coreState { timer := 65535 }, by decide +kernel⟩,
    ⟨9999999, 1, 9999999, withRegs (coreState {}) [(R.core_WDT_OPEN, 1, 5000), (R.core_WDT_CLOSE, 1, 10000)], by decide +kernel⟩,
    ⟨9000000, 0, withRegs (coreState {}) [(R.core_WDT_CLOSE, 0, 10000), (R.core_WDT_WARN, 0, 1000)], by decide +kernel⟩,
    ⟨10000000, 0, withRegs (coreState {}) [(R.core_WDT_CLOSE, 0, 10000)], by decide +kernel⟩,
    ⟨host, up, by decide +kernel⟩,
    ⟨host, coreState {}, by decide +kernel⟩,
    ⟨host, up.setDom R.wp_IMAGE 0 [1, 2], by decide +kernel⟩,
    ⟨7, coreState {}, by decide +kernel⟩,
    ⟨7, { coreState {} with dusk := { (coreState {}).dusk with mbx := 1 } }, by decide +kernel⟩,
    ⟨7, coreState {}, by decide +kernel⟩,
    ⟨[1, 2], { coreState {} with dusk := { (coreState {}).dusk with mbx := 1, mbxAddr := 4, mbxReply := some [1, 2] } }, by decide +kernel⟩⟩

theorem witness_OnlyTheOwnerChangesALock :
    (∃ (c : Nat) (n : Nat) (s : State), c < 2 ∧
      n < 64 ∧
      s.coreRuns c = true ∧
      s.reg R.lock_OWNER n = c + 1) ∧
    (∃ (c : Nat) (n : Nat) (s : State), c < 2 ∧
      n < 64 ∧
      s.coreRuns c = true ∧
      s.reg R.lock_OWNER n ≠ c + 1) ∧
    (∃ (w : Who) (k : Nat) (n : Nat) (s : State), n < 64 ∧
      w.slot = some k ∧
      s.reg R.lock_OWNER n = 16 + k) ∧
    (∃ (w : Who) (k : Nat) (n : Nat) (s : State), n < 64 ∧
      w.slot = some k ∧
      s.reg R.lock_OWNER n ≠ 16 + k) ∧
    (∃ (n : Nat) (s : State), n < 64) :=
  ⟨⟨1, 63, withRegs { coreState {} with dusk := { (coreState {}).dusk with leases := [(63, { span := 1000 })] } } [(R.lock_OWNER, 63, 2), (R.lock_SUSPECT, 63, 1)], by decide +kernel⟩,
    ⟨0, 63, withRegs (coreState {}) [(R.lock_OWNER, 63, 2)], by decide +kernel⟩,
    ⟨⟨.host, some 3⟩, 3, 63, withRegs { inSession 3 9 with dusk := { (inSession 3 9).dusk with leases := [(63, { span := 500 })] } } [(R.lock_OWNER, 63, 19), (R.lock_LEASE, 63, 500)], by decide +kernel⟩,
    ⟨⟨.host, some 3⟩, 3, 63, withRegs (inSession 3 9) [(R.lock_OWNER, 63, 2)], by decide +kernel⟩,
    ⟨63, up, by decide +kernel⟩⟩

theorem witness_LocksAreAcquiredAndExpire :
    (∃ (c : Nat) (n : Nat) (s : State), c < 2 ∧
      n < 64 ∧
      s.coreRuns c = true ∧
      s.reg R.lock_OWNER n = 0) ∧
    (∃ (p : LockParty) (c : Nat) (n : Nat) (s : State), p = .core c ∧
      c < 2 ∧
      n < 64 ∧
      s.coreRuns c = true ∧
      s.reg R.lock_OWNER n ≠ 0) ∧
    (∃ (w : Who) (k : Nat) (n : Nat) (s : State), n < 64 ∧
      w.slot = some k ∧
      k < 64 ∧
      s.dictAnswers w = true ∧
      s.readsClosed w 0x8101 = false ∧
      s.reg R.lock_OWNER n = 0) ∧
    (∃ (t : Nat) (n : Nat) (s : State), n < 64 ∧
      (s.advanceTo t).reg R.lock_OWNER n ≠ 0 ∧
      ((s.advanceTo t).lease n).frozen = none ∧
      ((s.advanceTo t).lease n).ends ≤ (s.advanceTo t).mono) ∧
    (∃ (c : Nat) (n : Nat) (s : State), c < 2 ∧
      n < 64 ∧
      s.coreRuns c = true ∧
      s.reg R.lock_OWNER n = c + 1) ∧
    (∃ (w : Who) (k : Nat) (n : Nat) (s : State), n < 64 ∧
      w.slot = some k ∧
      s.reg R.lock_OWNER n = 16 + k ∧
      s.mayWrite w R.lock_RENEW n = true) ∧
    (∃ (w : Who) (n : Nat) (s : State), n < 64 ∧
      w.slot = none) :=
  ⟨⟨1, 63, withRegs (coreState {}) [(R.lock_SUSPECT, 63, 1), (R.lock_LEASE, 63, 500)], by decide +kernel⟩,
    ⟨.core 1, 1, 63, withRegs (coreState {}) [(R.lock_OWNER, 63, 2)], by decide +kernel⟩,
    ⟨⟨.service, some 63⟩, 63, 63, up, by decide +kernel⟩,
    ⟨5, 63, withRegs up [(R.lock_OWNER, 63, 2)], by decide +kernel⟩,
    ⟨1, 63, withRegs { coreState {} with dusk := { (coreState {}).dusk with leases := [(63, { span := 1000 })] } } [(R.lock_OWNER, 63, 2)], by decide +kernel⟩,
    ⟨⟨.host, some 3⟩, 3, 63, withRegs { inSession 3 9 with dusk := { (inSession 3 9).dusk with leases := [(63, { span := 400 })] } } [(R.lock_OWNER, 63, 19), (R.lock_LEASE, 63, 500)], by decide +kernel⟩,
    ⟨⟨.service, none⟩, 63, withRegs up [(R.lock_OWNER, 63, 2)], by decide +kernel⟩⟩

theorem witness_UsersProtectAHandle :
    (∃ (w : Who) (i : Nat) (v : Nat) (s : State), s.reg R.hdl_USERS i ≠ 0 ∧
      s.mayWrite w R.hdl_BASE i = true ∧
      v < 2 ^ 40 ∧
      s.mayWrite w R.hdl_STRIDE i = true ∧
      v < 2 ^ 32 ∧
      s.mayWrite w R.hdl_SLOTS i = true ∧
      1 ≤ v ∧
      v ≤ 16 ∧
      s.mayWrite w R.hdl_SIZE i = true ∧
      s.mayWrite w R.hdl_MIRROR_BASE i = true ∧
      s.mayWrite w R.hdl_DEFINE i = true ∧
      s.defineOk i (s.writtenDef i) = true) :=
  ⟨host, 65535, 16, withRegs up [(R.hdl_USERS, 65535, 1), (R.hdl_SLOTS, 65535, 1), (R.hdl_SIZE, 65535, 96)], by decide +kernel⟩

theorem witness_StepRunsTheFrontCommand :
    (∃ (c : Instr) (rest : List Instr) (s : State), s.pending = c :: rest) ∧
    (∃ (s t : State), s.pending = [] ∧ t = s.logicTick.wireTick ∧ t.coreRuns 0 = false) ∧
    (∃ (s t : State), s.pending = [] ∧ t = s.logicTick.wireTick ∧ t.coreRuns 0 = true ∧ t.lineDue = true) ∧
    (∃ (s t : State) (i : Instr), s.pending = [] ∧ t = s.logicTick.wireTick ∧ t.coreRuns 0 = true ∧ t.lineDue = false ∧
      t.fetched = some i) ∧
    (∃ (s t : State) (k : Core), s.pending = [] ∧ t = s.logicTick.wireTick ∧ t.coreRuns 0 = true ∧ t.lineDue = false ∧
      t.fetched = none ∧ t.unpatched 0 = true ∧ k = t.dusk.core0 ∧ k.asks = [] ∧ k.placeFault 0 { illegal := true } = some 1) :=
  ⟨⟨.tapBypass, [.tapIdcode], { up with pending := [.tapBypass, .tapIdcode] }, by decide +kernel⟩,
    ⟨up, _, rfl, rfl, (ownClock_coreRuns _ 0).trans (by decide +kernel)⟩,
    ⟨coreState { ie := true, irqPend := 4, irqEn := 4 }, _, rfl, rfl, (ownClock_coreRuns _ 0).trans (by decide +kernel),
      by unfold State.lineDue; rw [ownClock_dusk]; decide +kernel⟩,
    ⟨coreState { prog := [(0, 0xF00000)] }, _, .duskNop 0, rfl, rfl, (ownClock_coreRuns _ 0).trans (by decide +kernel),
      by unfold State.lineDue; rw [ownClock_dusk]; decide +kernel, by unfold State.fetched; rw [ownClock_dusk]; decide +kernel⟩,
    ⟨coreState { prog := [(0, 0xFFFFFF)] }, _, _, rfl, rfl, (ownClock_coreRuns _ 0).trans (by decide +kernel),
      by unfold State.lineDue; rw [ownClock_dusk]; decide +kernel, by unfold State.fetched; rw [ownClock_dusk]; decide +kernel,
      (ownClock_unpatched _ 0).trans (by decide +kernel), rfl,
      by rw [ownClock_dusk]; decide +kernel, by rw [ownClock_dusk]; decide +kernel⟩⟩

theorem witness_ConditionsStayTruthful :
    (∃ (s : State) (t : State), s.Truthful ∧
      step s = .next t) :=
  ⟨{ State.reset with pending := [.tapBypass] }, _, ⟨by decide +kernel, by decide +kernel⟩, rfl⟩

theorem witness_CommandsRunWhereTheirUnitsExist :
    (∃ (i : Instr), i.wf = true) ∧
    (∃ (i : Instr), i.wf = false) :=
  ⟨⟨.ptpSync 0 255 ⟨0, 0, 0⟩, by decide +kernel⟩,
    ⟨.ptpSync 0 256 ⟨0, 0, 0⟩, by decide +kernel⟩⟩

theorem witness_DuskWordsDecode :
    (∃ (i : Instr) (w : Nat), i.wf = true ∧
      duskEncode i = some w) :=
  ⟨.duskMovi 1 11 65535, 0x2BFFFF, by decide +kernel⟩

theorem witness_WrittenWordsReadClean :
    (∃ (d : Nat), d < 2 ^ 256) :=
  ⟨2 ^ 256 - 1, by decide +kernel⟩

/-- A block memory in the ECC mode of a fabric that runs. -/
def bramState : State := withRegs up [(R.cfg_FABRIC_STATE, 0, 2), (R.bm_MODE, 0, 1)]

theorem witness_MemoriesStayCanonical :
    ∃ (i : Instr) (s t : State), s.memoryWf = true ∧ exec i s = .next t ∧
      (match i with
        | .sliceBankAccess _ _ => True
        | .scratchpadScrubAccess _ => True
        | .wipeComplete _ => True
        | .bramWrite _ _ _ _ _ => True
        | .duskSt _ _ _ _ _ => True
        | .wrData _ _ _ => True
        | .wrProg _ _ _ => True
        | .fillComplete => True
        | _ => False) :=
  ⟨.bramWrite 0 5 7 ⟨false, false⟩ false, bramState, _, by decide +kernel, rfl, trivial⟩

/-- Table 08.7: every pattern decodes to what a checker must answer. -/
theorem test_self_test_patterns : (selfTestPatterns.all fun p => (decodeWord p.1 none).answer == p.2) = true := by decide +kernel

/-- Chapter 21: ball DK37 (column 66) is VCORE; LANE_TX_P[200] is CG80 and LANE_RX_N[200] is CG77 (column 44). -/
theorem test_ball_examples :
    columnName 66 = ['D', 'K'] ∧ ballAt 66 37 = some (.supply .vcore) ∧ columnName 44 = ['C', 'G'] ∧
    ballAt 44 80 = some (.lane 200 0) ∧ ballAt 44 77 = some (.lane 200 3) := by decide

/-- Chapter 21: the lid may reach 78.8 °C at 460 W, and 82.75 °C at a truck load of 300 W. -/
theorem test_lid_examples : lidLimit 460 28 95 = 78800 ∧ lidLimit 300 25 95 = 82750 := by decide

/-- Chapter 09, the worked reservation: stop 19 of M1 has HOPS 5 in slot 100, stop 0 of M0 has HOPS 4 and IN 1 in slot 116. -/
theorem test_reservation_example :
    slotEntry [{ src := 43, dst := 4, slot := 100, key := 0, owners := [0] }] 43 0 100 = 1 + 2 * 5 ∧
    slotEntry [{ src := 43, dst := 4, slot := 100, key := 0, owners := [0] }] 0 0 116 = 1 + 2 * 4 + 64 * 1 ∧
    slotEntry [{ src := 43, dst := 4, slot := 100, key := 0, owners := [0] }] 0 0 117 = 0 := by decide

/-- A header and its words, taken apart again, are the flit (Table 09.2). -/
theorem test_flit_bits : flitOfBits (flitBits readFlit) none = readFlit := by decide +kernel

/-- R319: INIT 0x8 in split mode makes O5 the conjunction of A1 and A2. -/
theorem test_element :
    ElementConfig.o5 ⟨8, true, ⟨.o5, 0, 0, false, false⟩, ⟨.o6, 0, 0, false, false⟩⟩ ⟨3, false, false⟩ = true ∧
    ElementConfig.o5 ⟨8, true, ⟨.o5, 0, 0, false, false⟩, ⟨.o6, 0, 0, false, false⟩⟩ ⟨2, false, false⟩ = false ∧
    ElementConfig.o6 ⟨8, true, ⟨.o5, 0, 0, false, false⟩, ⟨.o6, 0, 0, false, false⟩⟩ ⟨3, false, false⟩ = false := by decide

/-- R325: the pre-adder wraps, A + D = 2^23 is read as −2^23, and the product is subtracted from Z. -/
theorem test_sliceNormal_wraps : sliceNormal true ((PreAdd.aPlusD.apply 0x7FFFFF 1).signExtend 44 * BitVec.signExtend 44 (2 : BitVec 20)) 5 = 0x1000005 := by decide

/-- R326: −1 × 3 in the low lane borrows nothing from the high lane, which holds 2 × (−1) + 7. -/
theorem test_sliceVideo_lanes : sliceVideo (SliceConfig.product ⟨true, false, .a, .zero, false, false, false, false, false⟩ {} ⟨0x002FFF, 0xFFC03, 0, 0⟩) 0x0000000700000000 = 0x00000005FFFFFFFD := by decide

end

end Sys2Proof.Machine.Tests
end

section
/-! The scope of the device (chapter 00): its state after reset, and which commands run. -/

namespace Sys2Proof.Machine

/-! ### The state after reset -/

/-- A key that no entry lists reads its default. -/
theorem tget_of_unlisted {α : Type} (d : Nat → α) {k : Nat} {t : List (Nat × α)} (h : ∀ p ∈ t, p.1 ≠ k) : tget d t k = d k := by
  induction t with
  | nil => rfl
  | cons p t ih =>
    obtain ⟨j, v⟩ := p
    have hj : j ≠ k := h (j, v) List.mem_cons_self
    rw [tget, if_neg hj]
    exact ih fun q hq => h q (List.mem_cons_of_mem _ hq)

/-- A key names its register. -/
theorem regKey_ref (ref i : Nat) : regKey ref i / 2 ^ 24 = ref := by
  unfold regKey
  omega

/-- The registers of the cadence objects that Table 02.7 fills at reset: ENABLE, KIND, RATE_NUM, RATE_DEN, LINES. -/
def cadenceRefs : List Nat := [0x130101, 0x130102, 0x130103, 0x130104, 0x130105]

/-- After reset only registers of the cadence objects are listed. -/
theorem resetRegs_cadence : ∀ p ∈ resetRegs, p.1 / 2 ^ 24 ∈ cadenceRefs := by decide

/-- After reset every register but those of the cadence objects reads the Default column of its table. -/
theorem reset_reg {r : Reg} (h : r.ref ∉ cadenceRefs) (i : Nat) : State.reset.reg r i = regDefault r.ref := by
  have hk : ∀ p ∈ resetRegs, p.1 ≠ regKey r.ref i := fun p hp e => h (by
    have hm := resetRegs_cadence p hp
    rwa [e, regKey_ref] at hm)
  have hd : regKeyDefault (regKey r.ref i) = regDefault r.ref := by rw [regKeyDefault, regKey_ref]
  exact (tget_of_unlisted regKeyDefault hk).trans hd

/-- After reset no condition of Table 18.4 is live. -/
theorem reset_liveConditions : State.reset.liveConditions = 0 := by decide +kernel

/-- After reset the integrity conditions tell the truth. -/
theorem reset_truthful : State.reset.Truthful :=
  ⟨by rw [reset_liveConditions]; rfl, reset_reg (by decide) 0⟩

/-- Settles O55: no register but a cadence's is listed at reset, so each reads its Default. -/
theorem resetIsAsTheManualSays : Obligations.ResetIsAsTheManualSays := by
  unfold Obligations.ResetIsAsTheManualSays
  refine ⟨rfl, rfl, rfl, memoryWf_reset, rfl, rfl, rfl, rfl, rfl, rfl, by decide, ?_, ?_, ?_, ?_, rfl, ?_, fun d _ => ?_, ?_, ?_, ?_, ?_, ?_, ?_, ?_, ?_,
    fun g _ => ?_, fun n _ => ?_, reset_truthful⟩
  all_goals exact (reset_reg (by decide) _).trans (by decide)

/-! ### Commands and their units -/

/-- SIDE_WORD_RECEIVE runs on every stop and direction there is, whatever the side word: 72 bits or more. -/
theorem exec_sideWordReceive_next {g dir : Nat} (hg : g < 384) (hd : dir < 2) (side : Nat) (s : State) :
    exec (.sideWordReceive g dir side) s = .next (s.ran (opSideWordReceive g dir side s)) :=
  command_next s (by simp [hg, hd]) _

/-- Refutes O57: a side word of 73 bits is ill-formed (R271), and SIDE_WORD_RECEIVE runs with it. -/
theorem not_commandsRunWhereTheirUnitsExist : ¬ Obligations.CommandsRunWhereTheirUnitsExist := by
  unfold Obligations.CommandsRunWhereTheirUnitsExist
  intro h
  have hill : (Instr.sideWordReceive 0 0 (2 ^ 72)).wf = false := by decide
  have hstop : exec (.sideWordReceive 0 0 (2 ^ 72)) State.reset = .fault .noSuchUnit := (h _ _).2 hill
  have hruns := exec_sideWordReceive_next (g := 0) (dir := 0) (by decide) (by decide) (2 ^ 72) State.reset
  rw [hruns] at hstop
  cases hstop

end Sys2Proof.Machine
end

section
/-! Resets, Daybreak and restarts of the steward (chapters 00 and 17). -/

namespace Sys2Proof.Machine

/-! ### Where the device is in its life -/

/-- The phase of the device with its record of Daybreak and of the steward's restarts. -/
def State.life (s : State) : Phase × Boot := (s.phase, s.boot)

variable (s : State)

theorem phase_of_life {s u : State} (h : u.life = s.life) : u.phase = s.phase := congrArg Prod.fst h
theorem boot_of_life {s u : State} (h : u.life = s.life) : u.boot = s.boot := congrArg Prod.snd h

@[simp] theorem setReg_life (r : Reg) (i v : Nat) : (s.setReg r i v).life = s.life := rfl
@[simp] theorem setDom_life (r : Reg) (i : Nat) (l : List Byte) : (s.setDom r i l).life = s.life := rfl
@[simp] theorem inc_life (r : Reg) (i : Nat) : (s.inc r i).life = s.life := rfl
@[simp] theorem setLease_life (n : Nat) (l : Lease) : (s.setLease n l).life = s.life := rfl
@[simp] theorem onService_life (f : Service → Service) : (s.onService f).life = s.life := rfl
@[simp] theorem raise_life (c d : Nat) : (s.raise c d).life = s.life := by simp [State.life]
@[simp] theorem advanceTo_life (t : Nat) : (s.advanceTo t).life = s.life := by simp [State.life]
@[simp] theorem onCore_life (c : Nat) (f : Core → Core) : (s.onCore c f).life = s.life := by
  unfold State.onCore; split <;> rfl

/-! ### The cores -/

@[simp] theorem coreState_life (c v : Nat) : (s.coreState c v).life = s.life := by
  simp only [State.coreState]
  split
  · rfl
  · split <;> simp

@[simp] theorem endStep_life (c : Nat) : (s.endStep c).life = s.life := by
  unfold State.endStep
  split <;> simp [State.waitUntil]

@[simp] theorem freezeLeases_life (who : Nat) : (s.freezeLeases who).life = s.life :=
  each_keeps State.life _ (fun u n => by split <;> simp) s _

@[simp] theorem haltCore_life (c cause unit : Nat) : (s.haltCore c cause unit).life = s.life := by simp [State.haltCore]

@[simp] theorem haltIfDue_life (c : Nat) : (s.haltIfDue c).life = s.life := by
  unfold State.haltIfDue
  split
  · split <;> simp
  · rfl

@[simp] theorem wakeIdle_life (c : Nat) : (s.wakeIdle c).life = s.life := by
  unfold State.wakeIdle
  split <;> simp

@[simp] theorem raiseLine_life (n : Nat) : (s.raiseLine n).life = s.life := by
  simp only [State.raiseLine, State.raiseCoreLine]
  split <;> simp

@[simp] theorem startCore_life (c entry : Nat) : (s.startCore c entry).life = s.life := by simp [State.startCore]

/-- A core's STATE is what it was set to. -/
theorem coreState_state (c v : Nat) : (s.coreState c v).reg R.core_STATE c = if s.reg R.core_STATE c = v then v else v % 2 ^ 8 := by
  simp only [State.coreState]
  split
  · assumption
  · split
    · rw [raise_reg _ (by decide), reg_setReg_same]
    · rw [reg_setReg_same]

/-- A core that was started runs. -/
@[simp] theorem startCore_runs (c entry : Nat) : (s.startCore c entry).coreRuns c = true := by
  simp [State.startCore, State.coreRuns, coreState_state]

/-- Starting a core writes its STATE alone. -/
theorem startCore_reg {r : Reg} (h : r.own) (hr : r.ref ≠ R.core_STATE.ref) (c entry j : Nat) :
    (s.startCore c entry).reg r j = s.reg r j := by
  simp only [State.startCore, State.coreState]
  split
  · simp
  · split
    · rw [raise_reg _ h.notRaise, reg_setReg_of_ref _ hr, onCore_reg]
    · rw [reg_setReg_of_ref _ hr, onCore_reg]

/-! ### A full reset (R481, R482) -/

@[simp] theorem retireUnits_life : s.retireUnits.life = s.life := by
  simp only [State.retireUnits]
  rw [each_keeps State.life, each_keeps State.life] <;> intros <;> simp

@[simp] theorem bare_phase : s.bare.phase = .daybreak := phase_of_life (retireUnits_life _)
@[simp] theorem bare_done : s.bare.boot.done = [] := congrArg Boot.done (boot_of_life (retireUnits_life _))

@[simp] theorem sessionsLost_life (d : State) : (d.sessionsLost s).life = d.life :=
  each_keeps State.life _ (fun u n => by
    split
    · split <;> simp
    · rfl) d _

@[simp] theorem locksLost_life (d : State) : (d.locksLost s).life = d.life :=
  each_keeps State.life _ (fun u n => by dsimp only; split <;> simp) d _

theorem sessionsLost_reg {r : Reg} (h : r.ref ∉ raiseRefs) (d : State) (j : Nat) : (d.sessionsLost s).reg r j = d.reg r j :=
  each_keeps (fun u => u.reg r j) _ (fun u n => by
    split
    · split <;> simp only [raise_reg _ h]
    · rfl) d _

theorem locksLost_reg {r : Reg} (h : r.ref ∉ raiseRefs) (d : State) (j : Nat) : (d.locksLost s).reg r j = d.reg r j :=
  each_keeps (fun u => u.reg r j) _ (fun u n => by dsimp only; split <;> simp [raise_reg _ h]) d _

/-- A full reset begins Daybreak. -/
theorem fullReset_phase (kind : Nat) : (s.fullReset kind).phase = .daybreak := by
  refine (phase_of_life ((locksLost_life _ _).trans (sessionsLost_life _ _))).trans ?_
  split <;> simp

/-- A full reset leaves no step done. -/
theorem fullReset_done (kind : Nat) : (s.fullReset kind).boot.done = [] := by
  refine (congrArg Boot.done (boot_of_life ((locksLost_life _ _).trans (sessionsLost_life _ _)))).trans ?_
  split <;> simp

/-- LAST_WAKE tells the kinds of full reset apart. -/
theorem fullReset_lastWake (kind : Nat) : (s.fullReset kind).reg R.pow_LAST_WAKE = kind % 2 ^ 8 := by
  simp only [State.fullReset]
  rw [locksLost_reg _ (by decide), sessionsLost_reg _ (by decide), reg_setReg_same]

/-! ### Time passes before a step ends -/

@[simp] theorem advanceTo_board (t : Nat) : (s.advanceTo t).board = s.board := by unfold State.advanceTo; split <;> rfl
@[simp] theorem advanceTo_railsOk (t : Nat) : (s.advanceTo t).railsOk = s.railsOk := by
  simp only [State.railsOk, State.channelOk, advanceTo_board]
@[simp] theorem advanceTo_stepRuns (t n : Nat) : (s.advanceTo t).stepRuns n = s.stepRuns n := by simp [State.stepRuns]

/-! ### Steps that may run (R483) -/

variable {s}

/-- A step that may run is one of the ten. -/
theorem stepRuns_bounds {n : Nat} (h : s.stepRuns n = true) : 1 ≤ n ∧ n ≤ 10 := by
  simp only [State.stepRuns, Bool.and_eq_true, decide_eq_true_eq] at h
  obtain ⟨⟨⟨⟨⟨_, h1⟩, h2⟩, _⟩, _⟩, _⟩ := h
  exact ⟨h1, h2⟩

/-- A step runs in Daybreak. -/
theorem stepRuns_phase {n : Nat} (h : s.stepRuns n = true) : s.phase = .daybreak := by
  simp only [State.stepRuns, Bool.and_eq_true, beq_iff_eq] at h
  obtain ⟨⟨⟨⟨⟨hp, _⟩, _⟩, _⟩, _⟩, _⟩ := h
  exact hp

/-- The completion of one of the ten steps is a command. -/
theorem exec_daybreakStepComplete {n : Nat} (h1 : 1 ≤ n) (h2 : n ≤ 10) (t : Nat) (r : StepResult) (s : State) :
    exec (.daybreakStepComplete t n r) s = .next (s.ran (opDaybreakStepComplete t n r s)) :=
  command_next s (by simp [h1, h2]) _

/-- The completion of a step that runs, once its effect is known. -/
theorem exec_runningStep {n t : Nat} {r : StepResult} {u : State} (h : s.stepRuns n = true) (hu : opDaybreakStepComplete t n r s = u) :
    exec (.daybreakStepComplete t n r) s = .next (s.ran u) := by
  rw [exec_daybreakStepComplete (stepRuns_bounds h).1 (stepRuns_bounds h).2, hu]

/-- A step that may not run passes the time alone. -/
theorem daybreakStep_idle {n : Nat} (h : s.stepRuns n = false) (t : Nat) (r : StepResult) : opDaybreakStepComplete t n r s = s.advanceTo t := by
  unfold opDaybreakStepComplete
  exact if_pos (by simp [h])

/-- A step that may run passes its check. -/
theorem ite_stepRuns {n : Nat} (h : s.stepRuns n = true) (t : Nat) (a b : State) :
    (if (!(s.advanceTo t).stepRuns n) = true then a else b) = b := by simp [h]

/-! What each step does with each of its results. The check of the step is rewritten alone: what the other steps do is not to be looked at. -/

section
variable (t : Nat)

theorem daybreakStep1_ok (h : s.stepRuns 1 = true) :
    opDaybreakStepComplete t 1 .ok s = (s.advanceTo t).leaveStep1 := by
  unfold opDaybreakStepComplete
  simp only [ite_stepRuns h]
theorem daybreakStep2_ok (h : s.stepRuns 2 = true) :
    opDaybreakStepComplete t 2 .ok s = (s.advanceTo t).stepDone 2 := by
  unfold opDaybreakStepComplete
  simp only [ite_stepRuns h]
theorem daybreakStep3_ok (h : s.stepRuns 3 = true) :
    opDaybreakStepComplete t 3 .ok s = (s.advanceTo t).loadFuses.stepDone 3 := by
  unfold opDaybreakStepComplete
  simp only [ite_stepRuns h]
theorem daybreakStep3_failed (h : s.stepRuns 3 = true) :
    opDaybreakStepComplete t 3 .fuseCheckFailed s = (s.advanceTo t).fuseFailed.stepDone 3 := by
  unfold opDaybreakStepComplete
  simp only [ite_stepRuns h]
theorem daybreakStep4_ok (h : s.stepRuns 4 = true) :
    opDaybreakStepComplete t 4 .ok s = (s.advanceTo t).clearScratch.stepDone 4 := by
  unfold opDaybreakStepComplete
  simp only [ite_stepRuns h]
theorem daybreakStep4_checkers (h : s.stepRuns 4 = true) (l : List CheckReport) :
    opDaybreakStepComplete t 4 (.checkers l) s = ((s.advanceTo t).each (l.filter fun r => !checkerPasses r) fun s r =>
      s.checkerFailed (r.kind, r.number)).clearScratch.stepDone 4 := by
  unfold opDaybreakStepComplete
  simp only [ite_stepRuns h]
theorem daybreakStep5_ok (h : s.stepRuns 5 = true) :
    opDaybreakStepComplete t 5 .ok s = (s.advanceTo t).runFirmware := by
  unfold opDaybreakStepComplete
  simp only [ite_stepRuns h]
theorem daybreakStep6_profile (h : s.stepRuns 6 = true) (p e : Nat) :
    opDaybreakStepComplete t 6 (.profilePins p e) s = (s.advanceTo t).startProfile p e := by
  unfold opDaybreakStepComplete
  simp only [ite_stepRuns h]
theorem daybreakStep7_image (h : s.stepRuns 7 = true) (a b : Option (List Byte)) :
    opDaybreakStepComplete t 7 (.image a b) s = (s.advanceTo t).loadFabric a b := by
  unfold opDaybreakStepComplete
  simp only [ite_stepRuns h]
theorem daybreakStep8_trained (h : s.stepRuns 8 = true) (l : List TrainResult) :
    opDaybreakStepComplete t 8 (.trained l) s = (s.advanceTo t).trainStore l := by
  unfold opDaybreakStepComplete
  simp only [ite_stepRuns h]
theorem daybreakStep9_lanes (h : s.stepRuns 9 = true) (l : List Nat) :
    opDaybreakStepComplete t 9 (.lanes l) s = (s.advanceTo t).powerLanes l := by
  unfold opDaybreakStepComplete
  simp only [ite_stepRuns h]
theorem daybreakStep10_graphs (h : s.stepRuns 10 = true) (l : List (List Byte)) :
    opDaybreakStepComplete t 10 (.graphs l) s = (s.advanceTo t).runGraphs l := by
  unfold opDaybreakStepComplete
  simp only [ite_stepRuns h]

end

/-! ### What a completed step leaves -/

variable (s)

@[simp] theorem stepDone_boot (n : Nat) : (s.stepDone n).boot = { s.boot with done := n :: s.boot.done } := by simp [State.stepDone]
@[simp] theorem stepDone_phase (n : Nat) : (s.stepDone n).phase = s.phase := by simp [State.stepDone]
@[simp] theorem stepDone_doms (n : Nat) : (s.stepDone n).doms = s.doms := by simp [State.stepDone]
@[simp] theorem stepDone_scratch (n : Nat) : (s.stepDone n).scratch = s.scratch := by simp [State.stepDone]
theorem stepDone_reg {r : Reg} (h : r.ref ∉ raiseRefs) (n j : Nat) : (s.stepDone n).reg r j = s.reg r j := raise_reg _ h _ _ j

/-- Step 1 ends with RESET_N high and every rail in range (R483, R562). -/
theorem leaveStep1_ready {s : State} (hn : s.board.resetN = true) (hr : s.railsOk = true) :
    s.leaveStep1 = { s.stepDone 1 with boot := { (s.stepDone 1).boot with flashFrom := some (s.mono + 10000) } } :=
  if_pos (by simp [hn, hr])

/-- Otherwise step 1 runs on. -/
theorem leaveStep1_waits {s : State} (h : s.board.resetN = false ∨ s.railsOk = false) : s.leaveStep1 = s :=
  if_neg (by rcases h with h | h <;> simp [h])

/-! ### Step 3 (R6) -/

theorem dom_setDom_same (r : Reg) (i : Nat) (l : List Byte) : (s.setDom r i l).dom r i = l := tget_tput_same _ _ _ _
theorem dom_of_doms {s u : State} (h : u.doms = s.doms) (r : Reg) (i : Nat) : u.dom r i = s.dom r i := by simp only [State.dom, h]
theorem dom_setReg (q r : Reg) (i j v : Nat) : (s.setReg q i v).dom r j = s.dom r j := dom_of_doms (setReg_doms s q i v) r j

theorem loadFuses_fuseCheck : s.loadFuses.reg R.ident_FUSE_CHECK = 1 := by
  unfold State.loadFuses
  simp (disch := decide) only [reg_setReg_of_ref, reg_setReg_same, Nat.reducePow, Nat.reduceMod]
theorem loadFuses_speedBin : s.loadFuses.reg R.ident_SPEED_BIN = 1 := by
  unfold State.loadFuses
  simp (disch := decide) only [reg_setReg_of_ref, reg_setReg_same, Nat.reducePow, Nat.reduceMod]
theorem loadFuses_wafer : s.loadFuses.reg R.ident_WAFER < 25 := by
  unfold State.loadFuses
  simp (disch := decide) only [reg_setReg_of_ref, reg_setReg_same]
  omega
theorem loadFuses_uniqueId : s.loadFuses.reg R.ident_UNIQUE_ID ≠ 0 := by
  unfold State.loadFuses
  simp (disch := decide) only [reg_setReg_of_ref, reg_setReg_same]
  omega
theorem loadFuses_lot : (s.loadFuses.dom R.ident_LOT).length = 6 := by
  unfold State.loadFuses
  simp only [dom_setReg, dom_setDom_same, List.length_map, List.length_range]

/-- Loading the fuses keeps what writes of registers and strings keep. -/
theorem loadFuses_keeps {β : Type} {g : State → β} (hr : ∀ (u : State) r i v, g (u.setReg r i v) = g u)
    (hd : ∀ (u : State) r i l, g (u.setDom r i l) = g u) : g s.loadFuses = g s := by
  unfold State.loadFuses
  simp only [hr, hd]

@[simp] theorem loadFuses_boot : s.loadFuses.boot = s.boot := loadFuses_keeps s setReg_boot setDom_boot

theorem loadFuses_lifecycle : s.loadFuses.reg R.lc_STATE = s.service.lifecycle % 2 ^ R.lc_STATE.bits := by
  have hr : ∀ (u : State) r i v, (u.setReg r i v).service = u.service := setReg_service
  have hd : ∀ (u : State) r i l, (u.setDom r i l).service = u.service := setDom_service
  unfold State.loadFuses
  simp only [reg_setReg_same, hr, hd]

@[simp] theorem holdFor_regs (cause : Nat) : (s.holdFor cause).regs = s.regs := by
  unfold State.holdFor
  split <;> rfl

/-- A failure leaves a cause to hold the device (Table 17.3). -/
theorem holdFor_cause {cause : Nat} (h : cause ≠ 0) : (s.holdFor cause).boot.cause ≠ 0 := by
  unfold State.holdFor
  split <;> assumption

theorem fuseFailed_fuseCheck : s.fuseFailed.reg R.ident_FUSE_CHECK = 0 := by
  refine (reg_of_regs (holdFor_regs _ _) _ _).trans ?_
  simp
theorem fuseFailed_uniqueId : s.fuseFailed.reg R.ident_UNIQUE_ID = 0 := by
  refine (reg_of_regs (holdFor_regs _ _) _ _).trans ?_
  simp [reg_setReg_of_ref]
theorem fuseFailed_cause : s.fuseFailed.boot.cause ≠ 0 := holdFor_cause _ (by decide)

/-! ### Step 5 (R486, R487) -/

/-- Which image verifies is a matter of the boot selector and of the firmware area. The definition is unfolded as a function, and the
check of an image stays a variable: comparing applied forms would run it on the whole area. -/
theorem bootImage_congr {s u : State} (hb : u.boot.selector = s.boot.selector) (hs : u.service.store = s.service.store) :
    u.bootImage = s.bootImage := by
  have hf : u.fwBytes = s.fwBytes := by
    funext i
    simp only [State.fwBytes, hs]
  have e := Eq.refl State.bootImage
  conv at e => rhs; delta State.bootImage
  rw [e]
  generalize fwFault = fault
  simp only [hb, hf]

@[simp] theorem advanceTo_bootImage (t : Nat) : (s.advanceTo t).bootImage = s.bootImage :=
  bootImage_congr (by rw [advanceTo_boot]) (by rw [advanceTo_service])

/-- The FIX units of an image are set in their own registers and in the patch RAM. -/
theorem setFixUnits_reg {r : Reg} (h : r.ref ∉ [R.pu_MODE.ref, R.pu_CORE.ref, R.pu_ADDRESS.ref]) (version j : Nat) :
    (s.setFixUnits version).reg r j = s.reg r j := by
  simp only [List.mem_cons, List.not_mem_nil, or_false, not_or] at h
  obtain ⟨hm, hc, ha⟩ := h
  refine each_keeps (fun u => u.reg r j) _ (fun u e => ?_) s _
  dsimp only
  rw [onService_reg, reg_setReg_of_ref _ ha, reg_setReg_of_ref _ hc, reg_setReg_of_ref _ hm]

@[simp] theorem setFixUnits_life (version : Nat) : (s.setFixUnits version).life = s.life :=
  each_keeps State.life _ (fun u e => by simp) s _

section
variable (image : Nat) (failed : Option Nat)

@[simp] theorem bootSteward_life : (s.bootSteward image failed).life = s.life := by
  unfold State.bootSteward
  cases failed <;> simp

/-- The steward's core runs. -/
theorem bootSteward_runs : (s.bootSteward image failed).coreRuns 1 = true := startCore_runs _ _ _

theorem bootSteward_image : (s.bootSteward image failed).reg R.stw_FW_IMAGE = image % 2 := by
  unfold State.bootSteward
  dsimp only
  rw [startCore_reg _ (by decide) (by decide), setFixUnits_reg _ (by decide), reg_inc_of_ref _ (by decide), reg_setReg_of_ref _ (by decide),
    reg_setReg_same]
  exact Nat.mod_eq_of_lt (Nat.lt_of_lt_of_le (Nat.mod_lt _ (by decide)) (by decide))

theorem bootSteward_bootCount : (s.bootSteward image failed).reg R.stw_BOOT_COUNT = (s.reg R.stw_BOOT_COUNT + 1) % 2 ^ 32 := by
  unfold State.bootSteward
  dsimp only
  rw [startCore_reg _ (by decide) (by decide), setFixUnits_reg _ (by decide), reg_inc_same, reg_setReg_of_ref _ (by decide),
    reg_setReg_of_ref _ (by decide)]
  cases failed with
  | none => rfl
  | some reason => rw [raise_reg _ (by decide)]

end

@[simp] theorem domState_life (d v : Nat) : (s.domState d v).life = s.life := by
  unfold State.domState
  split <;> simp

theorem domState_reg {r : Reg} (h : r.ref ∉ raiseRefs) (hd : r.ref ≠ R.dom_STATE.ref) (d v j : Nat) : (s.domState d v).reg r j = s.reg r j := by
  unfold State.domState
  split
  · rfl
  · rw [raise_reg _ h, reg_setReg_of_ref _ hd]

/-- Holding the device switches domains off; the rest of the registers stays. -/
theorem hold_reg {r : Reg} (h : r.ref ∉ raiseRefs) (hd : r.ref ≠ R.dom_STATE.ref) (j : Nat) : s.hold.reg r j = s.reg r j := by
  unfold State.hold
  generalize List.range 105 = domains
  dsimp only
  rw [raise_reg _ h]
  exact each_keeps (fun u => u.reg r j) _ (fun u d => domState_reg u h hd d 2 j) s domains

@[simp] theorem hold_boot : s.hold.boot = s.boot := by
  unfold State.hold
  generalize List.range 105 = domains
  have hd : (s.each domains fun u d => u.domState d 2).boot = s.boot :=
    boot_of_life (each_keeps State.life _ (fun u d => domState_life u d 2) s domains)
  exact (raise_boot _ _ _).trans hd

@[simp] theorem hold_phase : s.hold.phase = .held := raise_phase _ _ _

@[simp] theorem goDark_phase : s.goDark.phase = .dark := raise_phase _ _ _
@[simp] theorem goDark_boot : s.goDark.boot = s.boot := raise_boot _ _ _

variable {s}

/-- With no image that verifies step 5 goes DARK. -/
theorem runFirmware_dark (h : s.bootImage = none) : s.runFirmware = s.goDark := by
  have e := Eq.refl State.runFirmware
  conv at e => rhs; delta State.runFirmware
  refine (congrFun e s).trans ?_
  rw [h]

/-- An image that verifies runs, and an earlier failure holds the device. -/
theorem runFirmware_boots {image : Nat} {failed : Option Nat} (h : s.bootImage = some (image, failed)) :
    s.runFirmware = if s.boot.cause = 0 then (s.bootSteward image failed).stepDone 5 else ((s.bootSteward image failed).stepDone 5).hold := by
  have hc : ((s.bootSteward image failed).stepDone 5).boot.cause = s.boot.cause := by
    rw [stepDone_boot, boot_of_life (bootSteward_life s image failed)]
  have e := Eq.refl State.runFirmware
  conv at e => rhs; delta State.runFirmware
  refine (congrFun e s).trans ?_
  rw [h]
  simp only [hc]

section
variable {image : Nat} {failed : Option Nat} (h : s.bootImage = some (image, failed))
include h

theorem runFirmware_reg {r : Reg} (hr : r.ref ∉ raiseRefs) (hd : r.ref ≠ R.dom_STATE.ref) (j : Nat) :
    s.runFirmware.reg r j = (s.bootSteward image failed).reg r j := by
  rw [runFirmware_boots h]
  split
  · exact stepDone_reg _ hr 5 j
  · rw [hold_reg _ hr hd, stepDone_reg _ hr]

theorem runFirmware_boot : s.runFirmware.boot = { s.boot with done := 5 :: s.boot.done } := by
  rw [runFirmware_boots h]
  split <;> simp [boot_of_life (bootSteward_life s image failed)]

theorem runFirmware_phase : s.runFirmware.phase = if s.boot.cause = 0 then s.phase else .held := by
  rw [runFirmware_boots h]
  split <;> simp [phase_of_life (bootSteward_life s image failed)]

end

/-! ### The restart of the steward (R493) -/

/-- The state in which the restart is over, before the firmware is started. -/
def State.restartOver (s : State) : State := { s with boot := { s.boot with restarting := false, restartEnd := some s.mono } }

@[simp] theorem restartOver_bootImage : s.restartOver.bootImage = s.bootImage := bootImage_congr rfl rfl
@[simp] theorem restartOver_reg (r : Reg) (j : Nat) : s.restartOver.reg r j = s.reg r j := rfl

section
variable (h : s.boot.restarting = true) (t : Nat)
include h

/-- With no image that verifies a restart ends DARK. The test for an image stays a variable here, as in `bootImage_congr`. -/
theorem stewardRestart_dark (hb : s.bootImage = none) : opStewardRestartComplete t s = (s.advanceTo t).restartOver.goDark := by
  have hv : (s.advanceTo t).restartOver.bootImage = none := by simpa using hb
  have e := Eq.refl opStewardRestartComplete
  conv at e => rhs; delta opStewardRestartComplete
  refine (congrFun (congrFun e t) s).trans ?_
  generalize State.bootImage = boots at hv ⊢
  simp only [State.restartOver, advanceTo_boot, h, if_true] at hv ⊢
  rw [hv]

/-- With an image that verifies a restart ends with events 0x1009 and 0x1007. -/
theorem stewardRestart_boots {image : Nat} {failed : Option Nat} (hb : s.bootImage = some (image, failed)) :
    opStewardRestartComplete t s =
      (((s.advanceTo t).restartOver.bootSteward image failed).raise 0x1009 (5 + (s.advanceTo t).restartOver.sinceReset * 16)).raise 0x1007
        (s.boot.restartCause + s.boot.restartCount % 16 * 16) := by
  have hv : (s.advanceTo t).restartOver.bootImage = some (image, failed) := by simpa using hb
  have e := Eq.refl opStewardRestartComplete
  conv at e => rhs; delta opStewardRestartComplete
  refine (congrFun (congrFun e t) s).trans ?_
  generalize State.bootImage = boots at hv ⊢
  simp only [State.restartOver, advanceTo_boot, h, if_true] at hv ⊢
  rw [hv]

end

/-! ### Step 10 (R490) -/

variable (s)

@[simp] theorem powerChanged_life (v cause : Nat) : (s.powerChanged v cause).life = s.life := by simp [State.powerChanged]

/-- After its last step the device runs. -/
@[simp] theorem becomeActive_life : s.becomeActive.life = (.run, s.boot) := by
  simp only [State.becomeActive]
  split
  · rw [powerChanged_life, raise_life]
    rfl
  · rw [raise_life]
    rfl

/-! ### The commands of reset, Daybreak and restart -/

theorem exec_powerOnReset (s : State) : exec .powerOnReset s = .next (s.ran (s.fullReset 0)) := command_next s rfl _
theorem exec_pinReset (s : State) : exec .pinReset s = .next (s.ran (s.fullReset 1)) := command_next s rfl _
theorem exec_stewardRestartComplete (t : Nat) (s : State) :
    exec (.stewardRestartComplete t) s = .next (s.ran (opStewardRestartComplete t s)) := command_next s rfl _

/-- A command that ends a step leaves that step the last one done. -/
theorem ran_stepDone_head (s u : State) (n : Nat) : (s.ran (u.stepDone n)).boot.done.head? = some n := by simp

/-- What a step did can be read after the command, but for what settling writes. -/
theorem ran_stepDone_reg {r : Reg} (h : r.own) (u : State) (n j : Nat) : (s.ran (u.stepDone n)).reg r j = u.reg r j :=
  (ran_reg s _ h j).trans (stepDone_reg u h.notRaise n j)

theorem becomeActive_phase : s.becomeActive.phase = .run := congrArg Prod.fst (becomeActive_life s)
theorem becomeActive_boot : s.becomeActive.boot = s.boot := congrArg Prod.snd (becomeActive_life s)

theorem runGraphs_phase (l : List (List Byte)) : (s.runGraphs l).phase = .run := by
  unfold State.runGraphs
  exact becomeActive_phase _
theorem runGraphs_done (l : List (List Byte)) : (s.runGraphs l).boot.done.head? = some 10 := by
  unfold State.runGraphs
  rw [becomeActive_boot, stepDone_boot]
  rfl
theorem startProfile_done (p e : Nat) : (s.startProfile p e).boot.done.head? = some 6 := by
  unfold State.startProfile
  dsimp only
  rw [stepDone_boot]
  rfl
theorem loadFabric_done (a b : Option (List Byte)) : (s.loadFabric a b).boot.done.head? = some 7 := by
  unfold State.loadFabric
  dsimp only
  rw [stepDone_boot]
  rfl
theorem trainStore_done (l : List TrainResult) : (s.trainStore l).boot.done.head? = some 8 := by
  unfold State.trainStore
  dsimp only
  rw [stepDone_boot]
  rfl
theorem powerLanes_done (l : List Nat) : (s.powerLanes l).boot.done.head? = some 9 := by
  unfold State.powerLanes
  dsimp only
  rw [stepDone_boot]
  rfl

/-- The kinds of full reset are told apart in LAST_WAKE (R481, R482). -/
theorem ran_fullReset (s : State) (kind : Nat) : (s.ran (s.fullReset kind)).reg R.pow_LAST_WAKE = kind % 2 ^ 8 ∧
    (s.ran (s.fullReset kind)).phase = .daybreak ∧ (s.ran (s.fullReset kind)).boot.done = [] :=
  ⟨(ran_reg s _ (by decide) 0).trans (fullReset_lastWake s kind), (ran_phase s _).trans (fullReset_phase s kind),
    (congrArg Boot.done (ran_boot s _)).trans (fullReset_done s kind)⟩

section
variable {s} (t : Nat)

/-- Step 1 that may end: event 0x1009, and the 10 µs of XSPI_RESET_N (R571). -/
theorem exec_step1_ready (h : s.stepRuns 1 = true) (hn : s.board.resetN = true) (hr : s.railsOk = true) :
    exec (.daybreakStepComplete t 1 .ok) s = .next (s.ran { (s.advanceTo t).stepDone 1 with
      boot := { ((s.advanceTo t).stepDone 1).boot with flashFrom := some ((s.advanceTo t).mono + 10000) } }) := by
  rw [exec_runningStep h (daybreakStep1_ok t h), leaveStep1_ready (by simpa using hn) (by simpa using hr)]

theorem exec_step1_waits (h : s.stepRuns 1 = true) (hw : s.board.resetN = false ∨ s.railsOk = false) :
    exec (.daybreakStepComplete t 1 .ok) s = .next (s.ran (s.advanceTo t)) := by
  rw [exec_runningStep h (daybreakStep1_ok t h), leaveStep1_waits (by simpa using hw)]

/-- Step 3 after a good check: each value in the range of Table 00.1. -/
theorem exec_step3_ok (h : s.stepRuns 3 = true) : ∃ u : State, exec (.daybreakStepComplete t 3 .ok) s = .next u ∧
    u.reg R.ident_FUSE_CHECK = 1 ∧ u.reg R.ident_SPEED_BIN = 1 ∧ u.reg R.ident_WAFER < 25 ∧ (u.dom R.ident_LOT).length = 6 ∧
    u.reg R.ident_UNIQUE_ID ≠ 0 ∧ u.reg R.lc_STATE = s.service.lifecycle % 2 ^ R.lc_STATE.bits ∧ u.boot.cause = s.boot.cause := by
  refine ⟨_, exec_runningStep h (daybreakStep3_ok t h), ?_, ?_, ?_, ?_, ?_, ?_, ?_⟩
  · rw [ran_stepDone_reg _ (by decide), loadFuses_fuseCheck]
  · rw [ran_stepDone_reg _ (by decide), loadFuses_speedBin]
  · rw [ran_stepDone_reg _ (by decide)]
    exact loadFuses_wafer _
  · rw [dom_of_doms (ran_doms s _), dom_of_doms (stepDone_doms _ _), loadFuses_lot]
  · rw [ran_stepDone_reg _ (by decide)]
    exact loadFuses_uniqueId _
  · rw [ran_stepDone_reg _ (by decide), loadFuses_lifecycle, advanceTo_service]
  · rw [ran_boot, stepDone_boot, loadFuses_boot, advanceTo_boot]

/-- Step 3 after a failed check: zeros, and a cause to hold the device. -/
theorem exec_step3_failed (h : s.stepRuns 3 = true) : ∃ u : State, exec (.daybreakStepComplete t 3 .fuseCheckFailed) s = .next u ∧
    u.reg R.ident_FUSE_CHECK = 0 ∧ u.reg R.ident_UNIQUE_ID = 0 ∧ u.boot.cause ≠ 0 := by
  refine ⟨_, exec_runningStep h (daybreakStep3_failed t h), ?_, ?_, ?_⟩
  · rw [ran_stepDone_reg _ (by decide), fuseFailed_fuseCheck]
  · rw [ran_stepDone_reg _ (by decide), fuseFailed_uniqueId]
  · rw [ran_boot, stepDone_boot]
    exact fuseFailed_cause _

/-- Step 5 with an image that verifies: it runs, and the device is HELD after an earlier failure (R486, R487). -/
theorem ran_step5_boots (h : s.stepRuns 5 = true) {image : Nat} {failed : Option Nat} (hb : s.bootImage = some (image, failed)) :
    let u := s.ran (s.advanceTo t).runFirmware
    u.boot.done.head? = some 5 ∧ u.reg R.stw_FW_IMAGE = image % 2 ∧ u.reg R.stw_BOOT_COUNT = (s.reg R.stw_BOOT_COUNT + 1) % 2 ^ 32 ∧
      u.coreRuns 1 = true ∧ u.phase = if s.boot.cause = 0 then .daybreak else .held := by
  have ht := (advanceTo_bootImage s t).trans hb
  have hreg : ∀ {r : Reg}, r.own → r.ref ≠ R.dom_STATE.ref → ∀ j,
      (s.ran (s.advanceTo t).runFirmware).reg r j = ((s.advanceTo t).bootSteward image failed).reg r j :=
    fun hr hd j => (ran_reg s _ hr j).trans (runFirmware_reg ht hr.notRaise hd j)
  refine ⟨?_, ?_, ?_, ?_, ?_⟩
  · rw [ran_boot, runFirmware_boot ht]
    rfl
  · rw [hreg (by decide) (by decide), bootSteward_image]
  · rw [hreg (by decide) (by decide), bootSteward_bootCount, advanceTo_reg]
  · rw [State.coreRuns, hreg (by decide) (by decide)]
    exact bootSteward_runs _ image failed
  · rw [ran_phase, runFirmware_phase ht, advanceTo_boot, advanceTo_phase, stepRuns_phase h]

/-- The end of a restart with an image that verifies: the restart is over, FW_IMAGE names the image and BOOT_COUNT has risen (R493). -/
theorem ran_restart_boots (h : s.boot.restarting = true) {image : Nat} {failed : Option Nat} (hb : s.bootImage = some (image, failed)) :
    let u := s.ran (opStewardRestartComplete t s)
    u.boot.restarting = false ∧ u.reg R.stw_FW_IMAGE = image % 2 ∧
      u.reg R.stw_BOOT_COUNT = (s.reg R.stw_BOOT_COUNT + 1) % 2 ^ 32 := by
  rw [stewardRestart_boots h t hb]
  refine ⟨?_, ?_, ?_⟩
  · rw [ran_boot, raise_boot, raise_boot, boot_of_life (bootSteward_life _ image failed)]
    rfl
  · rw [ran_reg s _ (by decide), raise_reg _ (by decide), raise_reg _ (by decide), bootSteward_image]
  · rw [ran_reg s _ (by decide), raise_reg _ (by decide), raise_reg _ (by decide), bootSteward_bootCount, restartOver_reg, advanceTo_reg]

end

/-- Settles O43: each command's effect by its equation above, each claim about that effect by the lemma that reads it. -/
theorem resetAndDaybreak : Obligations.ResetAndDaybreak := by
  unfold Obligations.ResetAndDaybreak
  refine ⟨fun s => ⟨exec_powerOnReset s, exec_pinReset s⟩, fun s => ?resets, fun t n r s hs hready hr => ?done, fun t v s hs hn hrails hv => ?leaves,
    fun t s => exec_step1_waits t, fun t s hs => exec_runningStep hs (daybreakStep2_ok t hs), fun t s => exec_step3_ok t,
    fun t s => exec_step3_failed t, fun t s hs => ?scratch, fun t s hs => ?firmware, fun t images s hs => ?last,
    fun t n r s h1 h2 hs => ?idle, fun t v s hs hv => ?restart⟩
  case resets =>
    obtain ⟨hwake, hphase, hdone⟩ := ran_fullReset s 0
    exact ⟨_, _, exec_powerOnReset s, hwake, hphase, hdone, exec_pinReset s, ran_fullReset s 1⟩
  case done =>
    split at hr
    · obtain ⟨hn, hrails⟩ := hready rfl
      exact ⟨_, exec_step1_ready t hs hn hrails, by simp⟩
    · exact ⟨_, exec_runningStep hs (daybreakStep2_ok t hs), ran_stepDone_head s _ 2⟩
    · exact ⟨_, exec_runningStep hs (daybreakStep3_ok t hs), ran_stepDone_head s _ 3⟩
    · exact ⟨_, exec_runningStep hs (daybreakStep3_failed t hs), ran_stepDone_head s _ 3⟩
    · exact ⟨_, exec_runningStep hs (daybreakStep4_ok t hs), ran_stepDone_head s _ 4⟩
    · exact ⟨_, exec_runningStep hs (daybreakStep4_checkers t hs _), ran_stepDone_head s _ 4⟩
    · exact ⟨_, exec_runningStep hs (daybreakStep6_profile t hs _ _), by rw [ran_boot, startProfile_done]⟩
    · exact ⟨_, exec_runningStep hs (daybreakStep7_image t hs _ _), by rw [ran_boot, loadFabric_done]⟩
    · exact ⟨_, exec_runningStep hs (daybreakStep8_trained t hs _), by rw [ran_boot, trainStore_done]⟩
    · exact ⟨_, exec_runningStep hs (daybreakStep9_lanes t hs _), by rw [ran_boot, powerLanes_done]⟩
    · exact ⟨_, exec_runningStep hs (daybreakStep10_graphs t hs _), by rw [ran_boot, runGraphs_done]⟩
    · exact hr.elim
  case leaves =>
    rw [exec_step1_ready t hs hn hrails, hv]
    rfl
  case scratch =>
    refine ⟨_, exec_runningStep hs (daybreakStep4_ok t hs), ?_⟩
    rw [ran_scratch, stepDone_scratch]
    rfl
  case firmware =>
    refine ⟨_, exec_runningStep hs (daybreakStep5_ok t hs), ?_⟩
    rcases hb : s.bootImage with _ | ⟨image, failed⟩
    · have hdark := runFirmware_dark ((advanceTo_bootImage s t).trans hb)
      exact ⟨by rw [ran_phase, hdark, goDark_phase], by rw [hdark]⟩
    · exact ran_step5_boots t hs hb
  case last =>
    exact ⟨_, exec_runningStep hs (daybreakStep10_graphs t hs images), by rw [ran_phase, runGraphs_phase]⟩
  case idle =>
    rw [exec_daybreakStepComplete h1 h2, daybreakStep_idle hs]
  case restart =>
    have hover : v = (s.advanceTo t).restartOver := hv
    refine ⟨_, exec_stewardRestartComplete t s, ?_⟩
    rcases hb : s.bootImage with _ | ⟨image, failed⟩
    · rw [stewardRestart_dark hs t hb, ran_boot, ran_phase, goDark_boot, goDark_phase, hover]
      exact ⟨rfl, rfl, rfl⟩
    · obtain ⟨hend, himage, hcount⟩ := ran_restart_boots t hs hb
      exact ⟨hend, himage, hcount, by rw [stewardRestart_boots hs t hb, hover]⟩

end Sys2Proof.Machine
end

section
/-! Arming and disarming commit set members (R54, R55, R94). -/

namespace Sys2Proof.Machine

/-! ### Members of commit sets -/

/-- A changed element stands in the changed list. -/
theorem mem_upd {α : Type} {l : List α} {i : Nat} (h : i < l.length) (f : α → α) : f l[i] ∈ upd l i f := by
  unfold upd
  have hi : i < (l.modify i f).length := by simpa using h
  have e : (l.modify i f)[i] = f l[i] := by simp
  exact e ▸ List.getElem_mem hi

variable (s : State)

@[simp] theorem armMember_reg (c n : Nat) (m : Member) (r : Reg) (j : Nat) : (s.armMember c n m).reg r j = s.reg r j := rfl

/-- An armed member stands in a set. -/
theorem armMember_arms (c n : Nat) (m : Member) : ((s.armMember c n m).tb.sets.any fun x => x.members.contains m) = true := by
  rw [List.any_eq_true]
  simp only [State.armMember]
  split
  next i hi =>
    obtain ⟨hlt, _⟩ := List.findIdx?_eq_some_iff_getElem.mp hi
    exact ⟨_, mem_upd hlt _, by simp⟩
  next => exact ⟨⟨c, n, 0, false, [m]⟩, by simp, by simp⟩

/-- A member that leaves its sets stands in none. -/
theorem dropMembers_drops {p : Member → Bool} {m : Member} (h : p m = true) :
    ((s.dropMembers p).tb.sets.any fun x => x.members.contains m) = false := by
  rw [List.any_eq_false]
  intro x hx
  simp only [State.dropMembers, List.mem_filter, List.mem_map] at hx
  obtain ⟨⟨y, _, rfl⟩, _⟩ := hx
  simp [h]

/-- Cancelling an epoch changes no set. -/
theorem cancelEpoch_tb (g : Nat) (add : Bool) : ((Member.epoch g add).cancel s).tb = s.tb := by
  unfold Member.cancel
  dsimp only
  split <;> rfl

/-! ### Arming a graph -/

/-- The frame that an arming of slot `g` uses (R55). -/
def State.frameUsed (s : State) (g : Nat) : Nat := s.armFrame (s.reg R.slot_CADENCE g) (s.reg R.slot_TARGET_FRAME g)

/-- Arming a graph, said once: its member joins the set of the frame used, after an epoch that writes STAGED alone. -/
theorem armGraph_eq (g : Nat) (m : Member) : ∃ v : State, (∀ (r : Reg) j, r.ref ≠ R.rsys_STAGED.ref → v.reg r j = s.reg r j) ∧
    s.armGraph g m = ((v.armMember (s.reg R.slot_CADENCE g) (s.frameUsed g) m).setReg R.slot_TARGET_FRAME g (s.frameUsed g)).answerWith
      (leBytes 8 (s.frameUsed g)) := by
  unfold State.armGraph State.frameUsed
  dsimp only
  refine ⟨_, fun r j hr => ?_, rfl⟩
  split
  · split
    · exact (reg_setReg_of_ref _ hr _ _ _).trans rfl
    · rfl
  · rfl

/-- What an armed graph leaves: the reply and TARGET_FRAME name the frame used, the member is armed, and no slot changes its state. -/
theorem ran_armGraph (g : Nat) (m : Member) :
    (s.ran (s.armGraph g m)).reply = ⟨true, 0, leBytes 8 (s.frameUsed g)⟩ ∧
    ((s.ran (s.armGraph g m)).tb.sets.any fun x => x.members.contains m) = true ∧
    (∀ j, (s.ran (s.armGraph g m)).reg R.slot_STATE j = s.reg R.slot_STATE j) ∧
    (s.ran (s.armGraph g m)).reg R.slot_TARGET_FRAME g = s.frameUsed g % 2 ^ 64 := by
  obtain ⟨v, hv, e⟩ := armGraph_eq s g m
  rw [e]
  refine ⟨by simp [State.answerWith], ?_, fun j => ?_, ?_⟩
  · rw [ran_tb]
    exact armMember_arms v _ _ m
  · rw [ran_reg _ _ (by decide), answerWith_reg, reg_setReg_of_ref _ (by decide), armMember_reg, hv _ _ (by decide)]
  · rw [ran_reg _ _ (by decide), answerWith_reg, reg_setReg_same]

section
variable {s} {w : Who} {g : Nat} (hw : s.mayWrite w R.slot_COMMAND g = true)
include hw

/-- ARM_START that R94, R100, R116 and R573 let through. -/
theorem exec_armStart (hn : s.named g = false) (hs : s.reg R.slot_STATE g = 1) (hc : s.reg R.cad_ENABLE (s.reg R.slot_CADENCE g) ≠ 0)
    (hl : s.runsTooLong g = false) (hd : s.delayRoom g = true) :
    exec (.armStart w g) s = .next (s.ran (s.armGraph g (.graphStart g))) := by
  have hop : opArmStart w g s = s.armGraph g (.graphStart g) := by
    rw [opArmStart, writeAs_of_mayWrite hw rfl, if_neg (by simp [hs, hn, hl, State.on, hc]), if_neg (by simp [hd])]
  exact hop ▸ command_next s rfl (opArmStart w g)

/-- ARM_STOP that R94, R95 and R573 let through. -/
theorem exec_armStop (hn : s.named g = false) (hs : s.reg R.slot_STATE g = 2) (hc : s.reg R.cad_ENABLE (s.reg R.slot_CADENCE g) ≠ 0)
    (hr : s.readElsewhere g = false) : exec (.armStop w g) s = .next (s.ran (s.armGraph g (.graphStop g))) := by
  have hop : opArmStop w g s = s.armGraph g (.graphStop g) := by
    rw [opArmStop, writeAs_of_mayWrite hw rfl, if_neg (by simp [hs, hn, hr, State.on, hc])]
  exact hop ▸ command_next s rfl (opArmStop w g)

/-- ARM_SWITCH that R94 and R573 let through. -/
theorem exec_armSwitch {b : Nat} (hn : s.named g = false) (hs : s.reg R.slot_STATE g = 2)
    (hc : s.reg R.cad_ENABLE (s.reg R.slot_CADENCE g) ≠ 0) (hb : s.reg R.slot_SWITCH_TO g = b) (hne : b ≠ g) (hnb : s.named b = false) :
    exec (.armSwitch w g) s = .next (s.ran (s.armGraph g (.graphSwitch g b))) := by
  have hop : opArmSwitch w g s = s.armGraph g (.graphSwitch g b) := by
    rw [opArmSwitch, writeAs_of_mayWrite hw rfl]
    simp only [hb]
    rw [if_neg (by simp [hs, hn, hnb, hne, State.on, hc])]
  exact hop ▸ command_next s rfl (opArmSwitch w g)

/-- DISARM of a slot that an armed member names takes the member back (R94). -/
theorem exec_graphDisarm {m : Member} (hl : g ∉ s.sched.loading) (hm : s.armed.find? (fun m => m.from g) = some m) :
    ∃ v : State, (v.tb.sets.any fun x => x.members.contains m) = false ∧ exec (.graphDisarm w g) s = .next (s.ran v.ok) := by
  have hloading : s.sched.loading.contains g = false := by simpa using hl
  have hop := command_next s rfl (opGraphDisarm w g)
  rw [opGraphDisarm, writeAs_of_mayWrite hw rfl] at hop
  simp only [hloading, hm, Bool.false_eq_true, if_false] at hop
  refine ⟨_, ?_, hop⟩
  rw [cancelEpoch_tb]
  exact dropMembers_drops s (by simp)

end

/-- Settles O5: each command arms its member by `State.armGraph`, and DISARM drops the member its slot names. -/
theorem armingAGraph : Obligations.ArmingAGraph := by
  unfold Obligations.ArmingAGraph
  refine ⟨fun w g s hw hs hn hc hl hd => ⟨_, exec_armStart hw hn hs hc hl hd, ran_armGraph s g _⟩,
    fun w g s hw hs hn hc hr => ⟨_, exec_armStop hw hn hs hc hr, ran_armGraph s g _⟩,
    fun w g b s hw hs hb hne hn hnb hc => ⟨_, exec_armSwitch hw hn hs hc hb hne hnb, ran_armGraph s g _⟩,
    fun w g m s hw hl hm => ?disarm⟩
  case disarm =>
    obtain ⟨v, hv, hexec⟩ := exec_graphDisarm hw hl hm
    exact ⟨_, hexec, ran_reply s _, by rw [ran_tb]; exact hv⟩

end Sys2Proof.Machine
end

section
/-! Frame marks and the commit lead (R48, R54, R56, R76). -/

namespace Sys2Proof.Machine

variable (s : State)

/-! ### The clockwork -/

/-- The time, the timebase and the fabric with its time port: what staging and the scheduler leave alone. -/
def State.clockwork (s : State) : Nat × Timebase × Fabric := (s.now, s.tb, s.fabric)

theorem clockwork_eq {now : Nat} {tb : Timebase} {fabric : Fabric} (h : s.clockwork = (now, tb, fabric)) :
    s.now = now ∧ s.tb = tb ∧ s.fabric = fabric := by simpa [State.clockwork] using h

@[simp] theorem raise_clockwork (c d : Nat) : (s.raise c d).clockwork = s.clockwork := by simp [State.clockwork]
@[simp] theorem inc_clockwork (r : Reg) (i : Nat) : (s.inc r i).clockwork = s.clockwork := rfl

theorem schedKeeps_clockwork : SchedKeeps State.clockwork where
  sched _ _ _ _ _ _ _ _ := rfl
  adm _ _ := rfl
  reg _ _ _ _ _ := rfl
  raise := raise_clockwork

theorem complete_clockwork (o tag status : Nat) : (s.complete o tag status).clockwork = s.clockwork := by
  unfold State.complete
  split
  · simp [State.clockwork]
  · dsimp only
    rw [schedKeeps_clockwork.schedule, schedKeeps_clockwork.onOp]
    split <;> simp [State.clockwork]

theorem completed_clockwork (o tag status : Nat) : (s.completed o tag status).clockwork = s.clockwork := by
  unfold State.completed
  dsimp only
  rw [complete_clockwork]
  split <;> rfl

theorem takeArrived_clockwork : s.takeArrived.clockwork = s.clockwork := by
  unfold State.takeArrived
  split
  · rfl
  · exact (each_keeps State.clockwork _ (fun u x => completed_clockwork u _ _ _) _ _).trans rfl

/-! ### Marks -/

/-- A fold none of whose steps does anything. -/
theorem each_of_idle {α : Type} {f : State → α → State} {l : List α} (h : ∀ a ∈ l, f s a = s) : s.each l f = s := by
  unfold State.each
  induction l with
  | nil => rfl
  | cons a l ih => rw [List.foldl_cons, h a List.mem_cons_self, ih fun b hb => h b (List.mem_cons_of_mem a hb)]

@[simp] theorem advanceTo_markTime (t c n : Nat) : (s.advanceTo t).markTime c n = s.markTime c n := by simp [State.markTime]

/-- What a mark that its cadence makes does at its instant `t`. -/
def State.marked (u : State) (c n t : Nat) : State :=
  let lower := (u.marksAt t).filter fun p => decide (p.1 < c)
  (State.makeMark (((u.each (u.setsAt t) fun s x => s.applySet x).pulse t ((lower.map fun p => 2 ^ p.1).sum + 2 ^ c) false).each lower
    fun s p => s.makeMark p.1 p.2) c n).takeArrived

section
variable {s} {c n : Nat}

theorem frameMark_made (hm : s.makesMarks c = true) (ht : s.cadStart c ≤ s.markTime c n) :
    opFrameMark c n s = (s.advanceTo (s.markTime c n)).marked c n (s.markTime c n) :=
  if_neg (by simp [hm, ht])

theorem frameMark_notMade (h : s.makesMarks c = false ∨ s.markTime c n < s.cadStart c) : opFrameMark c n s = s :=
  if_pos (by rcases h with h | h <;> simp [h])

theorem exec_frameMark (hc : c < 16) : exec (.frameMark c n) s = .next (s.ran (opFrameMark c n s)) :=
  command_next s (by simp [hc]) _

end

/-- A mark alone at its instant, with no set to apply. -/
theorem marked_alone {c n t : Nat} (hl : (s.marksAt t).filter (fun p => decide (p.1 < c)) = []) (hs : s.setsAt t = []) :
    s.marked c n t = ((s.pulse t (2 ^ c) false).makeMark c n).takeArrived := by
  simp only [State.marked, hl, hs, each_nil, List.map_nil, List.sum_nil, Nat.zero_add]

section
variable (t marks : Nat) (tick : Bool)

@[simp] theorem pulse_now : (s.pulse t marks tick).now = s.now := rfl
@[simp] theorem pulse_tb : (s.pulse t marks tick).tb = s.tb := rfl
@[simp] theorem pulse_sched : (s.pulse t marks tick).sched = s.sched := rfl
@[simp] theorem pulse_scratch : (s.pulse t marks tick).scratch = s.scratch := rfl
@[simp] theorem pulse_reg (r : Reg) (j : Nat) : (s.pulse t marks tick).reg r j = s.reg r j := rfl
@[simp] theorem pulse_markTime (c n : Nat) : (s.pulse t marks tick).markTime c n = s.markTime c n := rfl

end

/-- A pulse on the MARK bit of a cadence stands in the cycle of its edge (R329). -/
theorem pulse_mark (t c : Nat) (tick : Bool) :
    ((s.pulse t (2 ^ c) tick).fabric.time.any fun p => p.edge == tbEdge t && p.marks.testBit c) = true := by
  simp [State.pulse, Nat.testBit_or, Nat.testBit_two_pow_self]

/-- With no word to rebuild a mark rewrites entries of the scheduler's tables alone. -/
theorem rewriteEntries_of_clean (h : s.scratch.rebuild = []) (c : Nat) :
    (s.rewriteEntries c).regs = s.regs ∧ (s.rewriteEntries c).clockwork = s.clockwork := by
  unfold State.rewriteEntries
  simp only [h, List.filter_nil, each_nil]
  exact ⟨rfl, rfl⟩

/-- With no slot RUNNING a mark stages no operation (R76). -/
theorem stageFrame_of_idle (h : ∀ g, g < 64 → s.running g = false) (c n : Nat) :
    s.stageFrame c n = (State.freeVersions { s with
      sched := { s.sched with beyondReserved := false },
      tb := { s.tb with cadFrom := upd s.tb.cadFrom c fun _ => s.markTime c n + 1 } }).schedule := by
  have hnone : (allSlots.filter fun g => s.running g && (s.graph g).cad == c) = [] := by
    rw [List.filter_eq_nil_iff]
    intro g hg
    simp [h g (List.mem_range.mp hg)]
  unfold State.stageFrame
  simp only [State.running, State.graph, State.reg] at hnone ⊢
  rw [hnone]
  rfl

/-- A mark with nothing to rebuild and nothing to stage, of a cadence that is not the council's, is past (R48). -/
theorem makeMark_clockwork {c n : Nat} (hr : s.scratch.rebuild = []) (hi : ∀ g, g < 64 → s.reg R.slot_STATE g = 0)
    (hc : s.reg R.ens_COUNCIL_CADENCE ≠ c) : (s.makeMark c n).clockwork =
      (s.now, { s.tb with cadFrom := upd s.tb.cadFrom c fun _ => s.markTime c n + 1 }, s.fabric) := by
  obtain ⟨hregs, hclock⟩ := rewriteEntries_of_clean s hr c
  have hreg : ∀ (r : Reg) j, (s.rewriteEntries c).reg r j = s.reg r j := reg_of_regs hregs
  have hidle : ∀ g, g < 64 → (s.rewriteEntries c).running g = false := fun g hg => by simp [State.running, hreg, hi g hg]
  have hmark : (s.rewriteEntries c).markTime c n = s.markTime c n := by simp only [State.markTime, hreg]
  have hcouncil : ((s.rewriteEntries c).stageFrame c n).reg R.ens_COUNCIL_CADENCE = s.reg R.ens_COUNCIL_CADENCE := by
    rw [stageFrame_of_idle _ hidle, schedule_reg _ (by decide) (by decide), (schedKeeps_reg (by decide) (by decide) 0).freeVersions]
    exact hreg _ 0
  simp only [State.makeMark, hcouncil, if_neg hc]
  rw [stageFrame_of_idle _ hidle, schedKeeps_clockwork.schedule, schedKeeps_clockwork.freeVersions, hmark]
  obtain ⟨hnow, htb, hfabric⟩ := clockwork_eq _ hclock
  simp only [State.clockwork, hnow, htb, hfabric]

/-- A mark alone at its instant with nothing to apply, rebuild or stage is past, and pulses in the cycle of its edge. -/
theorem marked_idle {c n t : Nat} (ht : t = s.markTime c n) (hl : (s.marksAt t).filter (fun p => decide (p.1 < c)) = [])
    (hs : s.setsAt t = []) (hr : s.scratch.rebuild = []) (hi : ∀ g, g < 64 → s.reg R.slot_STATE g = 0)
    (hc : s.reg R.ens_COUNCIL_CADENCE ≠ c) :
    (s.marked c n t).tb = { s.tb with cadFrom := upd s.tb.cadFrom c fun _ => t + 1 } ∧
      ((s.marked c n t).fabric.time.any fun p => p.edge == tbEdge t && p.marks.testBit c) = true := by
  have hclock : (s.marked c n t).clockwork = (s.now, { s.tb with cadFrom := upd s.tb.cadFrom c fun _ => t + 1 },
      (s.pulse t (2 ^ c) false).fabric) := by
    rw [marked_alone s hl hs, takeArrived_clockwork,
      makeMark_clockwork _ (by rw [pulse_scratch, hr]) (fun g hg => by rw [pulse_reg, hi g hg]) (by rwa [pulse_reg])]
    simp only [pulse_now, pulse_tb, pulse_markTime, ht]
  obtain ⟨_, htb, hfabric⟩ := clockwork_eq _ hclock
  exact ⟨htb, by rw [hfabric]; exact pulse_mark s t c false⟩

/-! ### The commit lead (R54) -/

theorem isAt_iff {x : CommitSet} {c n : Nat} : x.isAt c n = true ↔ x.cad = c ∧ x.target = n := by simp [CommitSet.isAt]

/-- A set that no check has found ready, at its cadence and target. -/
theorem find_unready {l : List CommitSet} {c n : Nat} {x : CommitSet} (h : (l.find? fun x => x.isAt c n && !x.ready) = some x) :
    x ∈ l ∧ x.cad = c ∧ x.target = n := by
  have hx := List.find?_some h
  rw [Bool.and_eq_true, isAt_iff] at hx
  exact ⟨List.mem_of_find?_eq_some h, hx.1⟩

/-- A set found ready stands ready at its mark. -/
theorem markReady_ready {x : CommitSet} (hx : x ∈ s.tb.sets) :
    ((s.markReady x).tb.sets.any fun y => y.isAt x.cad x.target && y.ready) = true := by
  rw [List.any_eq_true]
  refine ⟨{ x with ready := true }, List.mem_map.mpr ⟨x, hx, by simp⟩, ?_⟩
  simp [CommitSet.isAt]

/-- A set without an exchange that is not ready moves, or is cancelled after its eighth move. -/
theorem setNotReady_of_noExchange {x : CommitSet} (h : ∀ r, .exchange r ∉ x.members) : s.setNotReady x =
    if x.moves < 8 then s.moveSet x (max (x.target + 1) (s.firstArmable x.cad)) else s.cancelSet x := by
  unfold State.setNotReady
  rw [each_of_idle s]
  intro m hm
  split
  · exact absurd hm (h _)
  · rfl

/-- A set that moves raises event 0x1306, and its members stand in a set at the new target that is yet to be checked. -/
theorem moveSet_joins (x : CommitSet) (n : Nat) : ∃ w : State, s.moveSet x n = w.raise 0x1306 (x.cad + (x.moves + 1) * 16) ∧
    (w.tb.sets.any fun y => y.isAt x.cad n && !y.ready && x.members.all y.members.contains) = true := by
  refine ⟨_, rfl, ?_⟩
  rw [List.any_eq_true]
  dsimp only
  split
  next i hi =>
    obtain ⟨hlt, hat, _⟩ := List.findIdx?_eq_some_iff_getElem.mp hi
    refine ⟨_, mem_upd hlt _, ?_⟩
    have hjoined := isAt_iff.mp hat
    simp +contextual [isAt_iff, hjoined]
  next => exact ⟨{ x with target := n, moves := x.moves + 1, ready := false }, by simp, by simp [CommitSet.isAt]⟩

section
variable {s} {c n : Nat}

theorem exec_commitLeadCheck (hc : c < 16) : exec (.commitLeadCheck c n) s = .next (s.ran (opCommitLeadCheck c n s)) :=
  command_next s (by simp [hc]) _

theorem commitLeadCheck_none (h : (s.tb.sets.find? fun x => x.isAt c n && !x.ready) = none) : opCommitLeadCheck c n s = s := by
  simp only [opCommitLeadCheck, h]

variable {x : CommitSet} {v : State} (h : (s.tb.sets.find? fun x => x.isAt c n && !x.ready) = some x)
  (hv : v = s.advanceTo (s.markTime c n - commitLead))
include h hv

theorem commitLeadCheck_ready (hr : v.setReady x = true) (ht : v.now < s.markTime c n) : opCommitLeadCheck c n s = v.markReady x := by
  subst hv
  simp only [opCommitLeadCheck, h, advanceTo_markTime]
  exact if_pos (by simp [hr, ht])

theorem commitLeadCheck_notReady (hr : v.setReady x = false ∨ s.markTime c n ≤ v.now) : opCommitLeadCheck c n s = v.setNotReady x := by
  subst hv
  simp only [opCommitLeadCheck, h, advanceTo_markTime]
  exact if_neg (by rcases hr with hr | hr <;> simp [hr])

end

/-- Settles O3: a mark made does what `State.marked` says; the commit lead marks ready, moves or cancels the set it finds. -/
theorem marksTakeEffect : Obligations.MarksTakeEffect := by
  unfold Obligations.MarksTakeEffect
  refine ⟨fun c n t lower u s hc hm ht hstart hu hlower => ?made,
    fun c n t s hc hm ht hstart hlower hsets _ _ _ hrebuild hidle hcouncil => ?alone, fun c n s hc h => ?notMade,
    fun c n x s hc hx hready hnow => ?ready, fun c n m x v s hc hx hv hnot hex hmoves hm => ?moves,
    fun c n x v s hc hx hv hnot hex hmoves => ?cancelled, fun c n s hc hx => ?nothing⟩
  case made =>
    subst ht hu hlower
    rw [exec_frameMark hc, frameMark_made hm hstart]
    rfl
  case alone =>
    subst ht
    have hv : s.markTime c n = (s.advanceTo (s.markTime c n)).markTime c n := (advanceTo_markTime s _ c n).symm
    obtain ⟨htb, htime⟩ := marked_idle (s.advanceTo (s.markTime c n)) hv hlower hsets (by simpa using hrebuild) (by simpa using hidle)
      (by simpa using hcouncil)
    refine ⟨_, exec_frameMark hc, ?_⟩
    rw [frameMark_made hm hstart, ran_tb, ran_fabric, htb]
    exact ⟨by simp, by simp, htime⟩
  case notMade => rw [exec_frameMark hc, frameMark_notMade h]
  case ready =>
    obtain ⟨hmem, hcad, htarget⟩ := find_unready hx
    refine ⟨_, exec_commitLeadCheck hc, ?_⟩
    rw [commitLeadCheck_ready hx rfl hready hnow, ran_tb]
    refine ⟨by simp [State.markReady], ?_⟩
    subst hcad htarget
    exact markReady_ready _ (by simpa using hmem)
  case moves =>
    obtain ⟨_, hcad, htarget⟩ := find_unready hx
    rw [exec_commitLeadCheck hc, commitLeadCheck_notReady hx hv hnot, setNotReady_of_noExchange v hex, if_pos hmoves, hcad, htarget, ← hm]
    exact ⟨rfl, hcad ▸ moveSet_joins v x m⟩
  case cancelled =>
    obtain ⟨_, hcad, htarget⟩ := find_unready hx
    rw [exec_commitLeadCheck hc, commitLeadCheck_notReady hx hv hnot, setNotReady_of_noExchange v hex, if_neg (by omega), State.cancelSet,
      hcad, htarget]
  case nothing => rw [exec_commitLeadCheck hc, commitLeadCheck_none hx]

end Sys2Proof.Machine
end

section
/-! The timebase: its sources, steps of the time, and the switches of cadences (R31 to R51). -/

namespace Sys2Proof.Machine

variable (s : State)

/-! ### Steps of the time (R40, R41) -/

/-- A register outside a list keeps its value when one of the list is set. -/
theorem reg_setReg_of_notMem {l : List Nat} {r q : Reg} (hr : r.ref ∉ l) (hq : q.ref ∈ l) (i v j : Nat) :
    (s.setReg q i v).reg r j = s.reg r j :=
  reg_setReg_of_ref s (fun e => hr (by rw [e]; exact hq)) i j v

/-- The registers that a step of the time may change: those of the sets it cancels, the graphs it stops, and the scheduler. -/
def stepRefs : List Nat := raiseRefs ++ schedRefs ++
  [R.swap_SHADOW_ID.ref, R.swap_SHADOW.ref, R.swap_ARMED.ref, R.prof_ARMED.ref, R.rsys_STAGED.ref, R.slot_STATE.ref, R.slot_LAST_FRAME.ref]

/-- What a step clears away before the time is new: event 0x1305, the pending sets, the RUNNING best-effort graphs. -/
def State.clearedFor (s : State) (new : Nat) : State :=
  let u := s.raise 0x1305 (stepMicros (Int.ofNat new - Int.ofNat s.now))
  (u.each u.tb.sets fun s x => s.cancelSet x).each allSlots fun s g => s.stopBestEffort g

/-- The time is new: nothing is left to slew, and every cadence resumes from it. -/
def State.resumeAt (s : State) (new : Nat) : State :=
  { s with now := new, tb := { s.tb with slew := 0, slewRest := 0, cadFrom := List.replicate 16 new, lastTick := 0 } }

theorem stepTime_eq (new : Nat) :
    s.stepTime new = ((s.clearedFor (new % timeSpan)).resumeAt (new % timeSpan)).freeVersions.schedule := by
  simp only [State.stepTime, State.clearedFor, State.resumeAt]

@[simp] theorem resumeAt_reg (new : Nat) (r : Reg) (j : Nat) : (s.resumeAt new).reg r j = s.reg r j := rfl

section
variable {r : Reg} (h : r.ref ∉ stepRefs) (j : Nat)
include h

theorem notRaise_of_notStep : r.ref ∉ raiseRefs := fun e => h (List.mem_append_left _ (List.mem_append_left _ e))
theorem notSched_of_notStep : r.ref ∉ schedRefs := fun e => h (List.mem_append_left _ (List.mem_append_right _ e))

theorem shadowState_reg (n v : Nat) : (s.shadowState n v).reg r j = s.reg r j := by
  have hid : (if v = 0 ∨ v = 1 then s.setReg R.swap_SHADOW_ID n 0 else s).reg r j = s.reg r j := by
    split
    · exact reg_setReg_of_notMem s h (by decide) _ _ _
    · rfl
  simp only [State.shadowState]
  generalize (if v = 0 ∨ v = 1 then s.setReg R.swap_SHADOW_ID n 0 else s) = u at hid ⊢
  split
  · exact hid
  · rw [raise_reg _ (notRaise_of_notStep h), reg_setReg_of_notMem _ h (by decide), hid]

theorem cancel_reg (m : Member) : (m.cancel s).reg r j = s.reg r j := by
  cases m with
  | exchange n =>
    have hset := reg_setReg_of_notMem s h (q := R.swap_ARMED) (by decide) n 0 j
    simp only [Member.cancel]
    split
    · rw [shadowState_reg _ h, hset]
    · exact hset
  | profile p => exact (reg_setReg_of_notMem _ h (by decide) _ _ _).trans rfl
  | epoch g add =>
    simp only [Member.cancel]
    split
    · rfl
    · exact reg_setReg_of_notMem _ h (by decide) _ _ _
  | graphStart g => rfl
  | graphStop g => rfl
  | graphSwitch g b => rfl

theorem cancelSet_reg (x : CommitSet) : (s.cancelSet x).reg r j = s.reg r j := by
  simp only [State.cancelSet]
  rw [raise_reg _ (notRaise_of_notStep h), each_keeps (fun u => u.reg r j) _ fun u m => cancel_reg u h j m]
  rfl

theorem stopBestEffort_reg (g : Nat) : (s.stopBestEffort g).reg r j = s.reg r j := by
  have hraise := notRaise_of_notStep h
  unfold State.stopBestEffort
  split
  · rw [raise_reg _ hraise, raise_reg _ hraise, State.stopGraph, reg_setReg_of_notMem _ h (by decide), reg_setReg_of_notMem _ h (by decide)]
  · rfl

theorem clearedFor_reg (new : Nat) : (s.clearedFor new).reg r j = s.reg r j := by
  unfold State.clearedFor
  dsimp only
  rw [each_keeps (fun u => u.reg r j) _ fun u g => stopBestEffort_reg u h j g, each_keeps (fun u => u.reg r j) _ fun u x => cancelSet_reg u h j x]
  exact raise_reg s (notRaise_of_notStep h) _ _ j

theorem stepTime_reg (new : Nat) : (s.stepTime new).reg r j = s.reg r j := by
  have hkeeps := schedKeeps_reg (notRaise_of_notStep h) (notSched_of_notStep h) j
  have hschedule : ∀ u : State, u.schedule.reg r j = u.reg r j := hkeeps.schedule
  have hfree : ∀ u : State, u.freeVersions.reg r j = u.reg r j := hkeeps.freeVersions
  rw [stepTime_eq, hschedule, hfree, resumeAt_reg, clearedFor_reg s h]

end

/-- After a step the time is the new one, the slew has ended, and every cadence resumes from it (R40, R41). -/
theorem stepTime_clockwork (new : Nat) : ∃ u : State, (s.stepTime new).clockwork = (u.resumeAt (new % timeSpan)).clockwork :=
  ⟨s.clearedFor (new % timeSpan), by rw [stepTime_eq, schedKeeps_clockwork.schedule, schedKeeps_clockwork.freeVersions]⟩

/-! ### Writes and ticks -/

theorem secondsNs_lt {sec ns : Nat} (hs : sec < 2 ^ 48) (hn : ns < 1000000000) : sec * 1000000000 + ns < timeSpan := by
  unfold timeSpan
  omega

/-- SET_TIME while no graph is admitted (R31, R40). -/
theorem exec_setTime {s : State} {w : Who} {sec ns : Nat} (hw : s.mayWrite w R.tb_SET_TIME 0 = true) (hn : ns < 1000000000)
    (hs : sec < 2 ^ 48) (ha : s.reg R.adm_ADMITTED = 0) :
    exec (.setTime w sec ns) s = .next (s.ran (s.stepTime (sec * 1000000000 + ns)).ok) := by
  have hop : opSetTime w sec ns s = (s.stepTime (sec * 1000000000 + ns)).ok := by
    rw [opSetTime, writeAs_of_mayWrite hw (by rw [decide_eq_true hn, decide_eq_true hs]; rfl), if_neg (by simp [State.on, ha])]
  exact hop ▸ command_next s rfl (opSetTime w sec ns)

theorem exec_cadenceEnable {s : State} {w : Who} {c : Nat} (hw : s.mayWrite w R.cad_ENABLE c = true) (hoff : s.reg R.cad_ENABLE c = 0) :
    exec (.cadenceEnable w c) s = .next (s.ran ({ s.setReg R.cad_ENABLE c 1 with
      tb := { s.tb with cadFrom := upd s.tb.cadFrom c fun _ => s.now + 100000 } } : State).ok) := by
  have hop := command_next s rfl (opCadenceEnable w c)
  rw [opCadenceEnable, writeAs_of_mayWrite hw rfl, if_neg (by simp [State.on, hoff])] at hop
  exact hop

/-- Writing 0 to ENABLE of a cadence that no graph uses stops no graph (R51, R573). -/
theorem exec_cadenceDisable {s : State} {w : Who} {c : Nat} (hw : s.mayWrite w R.cad_ENABLE c = true) (hon : s.reg R.cad_ENABLE c ≠ 0)
    (hu : s.reg R.cad_USERS c = 0) (hp : s.pendingSets c = 0) (hg : ∀ g, g < 64 → s.reg R.slot_CADENCE g ≠ c) :
    exec (.cadenceDisable w c) s = .next (s.ran (s.setReg R.cad_ENABLE c 0).freeVersions.schedule.ok) := by
  have hop := command_next s rfl (opCadenceDisable w c)
  rw [opCadenceDisable, writeAs_of_mayWrite hw rfl, if_neg (by simp [State.on, hon]), if_neg (by simp [State.on, hu, hp])] at hop
  dsimp only at hop
  rw [each_of_idle] at hop
  · exact hop
  · intro g hmem
    rw [reg_setReg_of_ref _ (by decide), if_neg (by simpa using hg g (List.mem_range.mp hmem))]

/-- A scheduler tick that has come, with no insertion to retry (R50, R329). -/
theorem schedulerTick_eq {s : State} {k t : Nat} (ht : t = k * s.reg R.tb_TICK_NS) (hnow : s.now ≤ t) (hr : s.sched.retry = []) :
    opSchedulerTick k s = State.pulse { s.advanceTo t with tb := { (s.advanceTo t).tb with lastTick := t } } t 0 true := by
  subst ht
  unfold opSchedulerTick
  dsimp only
  rw [if_neg (by omega), if_pos (by simp [hr])]

/-- Settles O2: each write by its equation; of SET_TIME the clockwork after a step gives the rest. -/
theorem timeAndCadenceWritesTakeEffect : Obligations.TimeAndCadenceWritesTakeEffect := by
  unfold Obligations.TimeAndCadenceWritesTakeEffect
  refine ⟨fun w sec ns s hw hn hs ha => exec_setTime hw hn hs ha, fun w sec ns s hw hn hs ha _ _ _ _ _ => ?setTime,
    fun w c s hw hoff => exec_cadenceEnable hw hoff, fun w c s hw hon hu hp hg => exec_cadenceDisable hw hon hu hp hg,
    fun k t s ht hnow hr => ?tick⟩
  case setTime =>
    obtain ⟨u, hu⟩ := stepTime_clockwork s (sec * 1000000000 + ns)
    rw [Nat.mod_eq_of_lt (secondsNs_lt hs hn)] at hu
    obtain ⟨hnow, htb, _⟩ := clockwork_eq _ hu
    refine ⟨_, exec_setTime hw hn hs ha, ?_, ?_, ran_reply s _, ?_⟩
    · rw [ran_now, State.ok, answer_now, hnow]; rfl
    · rw [ran_tb, State.ok, answer_tb, htb]; rfl
    · rw [ran_tb, State.ok, answer_tb, htb]; rfl
  case tick =>
    rw [← schedulerTick_eq ht hnow hr]
    exact command_next s rfl (opSchedulerTick k)

end Sys2Proof.Machine
end

section
/-! Measurements, announcements and losses of the two sources (R38 to R47). -/

namespace Sys2Proof.Machine

variable (s : State)

/-! ### What disciplining the timebase may write -/

/-- The registers that a measurement or a loss of a source may change, PORT_STATE aside. -/
def sourceRefs : List Nat := stepRefs ++
  [R.tb_STATE.ref, R.tb_LOCK_LOSSES.ref, R.tb_ACTIVE_SOURCE.ref, R.tb_OFFSET.ref, R.tb_OTHER_OFFSET.ref]

@[simp] theorem countMeasure_regs (x : Nat) (off : Int) : (s.countMeasure x off).regs = s.regs := by
  unfold State.countMeasure
  dsimp only
  split <;> rfl
@[simp] theorem countMeasure_reg (x : Nat) (off : Int) (r : Reg) (j : Nat) : (s.countMeasure x off).reg r j = s.reg r j :=
  reg_of_regs (countMeasure_regs s x off) r j
@[simp] theorem unuse_reg (x : Nat) (r : Reg) (j : Nat) : (s.unuse x).reg r j = s.reg r j := by
  unfold State.unuse
  split <;> rfl
@[simp] theorem slewBy_reg (off : Int) (r : Reg) (j : Nat) : (s.slewBy off).reg r j = s.reg r j := rfl

section
variable {r : Reg} (h : r.ref ∉ sourceRefs) (j : Nat)
include h

theorem notStep_of_notSource : r.ref ∉ stepRefs := fun e => h (List.mem_append_left _ e)
theorem notRaise_of_notSource : r.ref ∉ raiseRefs := notRaise_of_notStep (notStep_of_notSource h)

theorem setRegI_reg_of_notSource {q : Reg} (hq : q.ref ∈ sourceRefs) (i : Nat) (z : Int) : (s.setRegI q i z).reg r j = s.reg r j :=
  reg_setReg_of_notMem s h hq i _ j

theorem setLock_reg (new : Nat) : (s.setLock new).reg r j = s.reg r j := by
  simp only [State.setLock]
  split
  · rfl
  · rw [raise_reg _ (notRaise_of_notSource h), reg_setReg_of_notMem _ h (by decide)]
    split
    · exact reg_setReg_of_notMem s h (by decide) _ _ _
    · rfl

theorem correct_reg (off : Int) : (s.correct off).reg r j = s.reg r j := by
  unfold State.correct
  split
  · rfl
  · exact stepTime_reg s (notStep_of_notSource h) j _

theorem acquire_reg (off : Int) : (s.acquire off).reg r j = s.reg r j := by
  rw [State.acquire, correct_reg _ h, setLock_reg _ h]

theorem judge_reg (x : Nat) (off : Int) : (s.judge x off).reg r j = s.reg r j := by
  unfold State.judge
  split
  · dsimp only
    split
    · rw [setLock_reg _ h, correct_reg _ h]
    · exact correct_reg s h j off
  · split
    · exact acquire_reg s h j off
    · exact correct_reg s h j off
  · exact acquire_reg s h j off

theorem activate_reg (x : Nat) : (s.activate x).reg r j = s.reg r j :=
  (reg_of_regs rfl r j).trans (reg_setReg_of_notMem s h (q := R.tb_ACTIVE_SOURCE) (by decide) 0 x j)

theorem switchSource_reg (x : Nat) : (s.switchSource x).reg r j = s.reg r j := by
  rw [State.switchSource, raise_reg _ (notRaise_of_notSource h), activate_reg s h]

theorem takeSeconds_reg (off : Int) : (s.takeSeconds off).reg r j = s.reg r j := by
  unfold State.takeSeconds
  dsimp only
  split
  · rfl
  · exact stepTime_reg s (notStep_of_notSource h) j _

/-- The offset of an active source is recorded and judged. -/
theorem judgeOffset_reg (x : Nat) (off : Int) : ((s.setRegI R.tb_OFFSET 0 off).judge x off).reg r j = s.reg r j := by
  rw [judge_reg _ h, setRegI_reg_of_notSource s h j (by decide)]

theorem measure_reg (x : Nat) (off : Int) : (s.measure x off).reg r j = s.reg r j := by
  have hcount := countMeasure_reg s x off r j
  unfold State.measure
  split
  · rfl
  dsimp only
  generalize s.countMeasure x off = u at hcount ⊢
  rw [← hcount]
  split
  · split
    · exact setRegI_reg_of_notSource u h j (by decide) 0 off
    · rfl
  split
  · rw [judgeOffset_reg _ h, activate_reg u h]
  split
  · exact judgeOffset_reg u h j x off
  split
  · rw [judgeOffset_reg _ h, switchSource_reg u h]
  have hother : (if u.preferred = x then u else u.setRegI R.tb_OTHER_OFFSET 0 (-off)).reg r j = u.reg r j := by
    split
    · rfl
    · exact setRegI_reg_of_notSource u h j (by decide) 0 (-off)
  split
  · rw [takeSeconds_reg _ h, hother]
  · exact hother

theorem handOver_reg (x : Nat) : (s.handOver x).reg r j = s.reg r j := by
  have hactive := reg_setReg_of_notMem (s.unuse x) h (q := R.tb_ACTIVE_SOURCE) (by decide) 0 0 j
  unfold State.handOver
  dsimp only
  split
  · exact unuse_reg s x r j
  · split
    · rw [switchSource_reg _ h, unuse_reg]
    · split
      · exact (reg_of_regs rfl r j).trans ((setLock_reg _ h j 3).trans (hactive.trans (unuse_reg s x r j)))
      · exact hactive.trans (unuse_reg s x r j)

theorem loseSource_reg (x : Nat) : (s.loseSource x).reg r j = s.reg r j := by
  unfold State.loseSource
  dsimp only
  rw [handOver_reg _ h]
  split <;> rfl

end

/-! ### Which masters and sources are left -/

/-- The masters heard, and which sources are usable. -/
def State.heard (s : State) : List (Nat × Announce) × Bool × Bool := (s.tb.masters, s.tb.ptpUsable, s.tb.refUsable)

@[simp] theorem raise_heard (c d : Nat) : (s.raise c d).heard = s.heard := by simp [State.heard]
@[simp] theorem setReg_heard (r : Reg) (i v : Nat) : (s.setReg r i v).heard = s.heard := rfl

theorem setLock_heard (new : Nat) : (s.setLock new).heard = s.heard := by
  simp only [State.setLock]
  split
  · rfl
  · rw [raise_heard, setReg_heard]
    split <;> rfl

/-- Losing a source takes that source's use alone. -/
theorem handOver_heard (x : Nat) : (s.handOver x).heard = (s.unuse x).heard := by
  unfold State.handOver
  dsimp only
  split
  · rfl
  · split
    · rw [State.switchSource, raise_heard]
      rfl
    · split
      · exact (setLock_heard _ 3).trans rfl
      · rfl

theorem loseSource_heard (x : Nat) : (s.loseSource x).heard = (s.unuse x).heard := by
  unfold State.loseSource
  dsimp only
  rw [handOver_heard]
  unfold State.unuse
  split <;> split <;> rfl

theorem loseSource_masters (x : Nat) : (s.loseSource x).tb.masters = s.tb.masters := by
  have hunuse : (s.unuse x).tb.masters = s.tb.masters := by
    unfold State.unuse
    split <;> rfl
  exact (congrArg Prod.fst (loseSource_heard s x)).trans hunuse

theorem loseSource_ptpUsable : (s.loseSource 1).tb.ptpUsable = false := congrArg (fun p => p.2.1) (loseSource_heard s 1)
theorem loseSource_refUsable : (s.loseSource 2).tb.refUsable = false := congrArg (fun p => p.2.2) (loseSource_heard s 2)

/-! ### PORT_STATE follows -/

theorem ptpStates_reg {r : Reg} (h : r.ref ≠ R.ptp_PORT_STATE.ref) (j : Nat) : s.ptpStates.reg r j = s.reg r j :=
  each_keeps (fun u => u.reg r j) _ (fun u _ => reg_setReg_of_ref u h _ j _) s _
@[simp] theorem ptpStates_tb : s.ptpStates.tb = s.tb := each_keeps State.tb _ (fun u _ => setReg_tb u _ _ _) s _
@[simp] theorem ptpStates_now : s.ptpStates.now = s.now := each_keeps State.now _ (fun u _ => setReg_now u _ _ _) s _

/-! ### PTP -/

@[simp] theorem onPtp_reg (p : Nat) (f : PtpPort → PtpPort) (r : Reg) (j : Nat) : (s.onPtp p f).reg r j = s.reg r j := rfl
@[simp] theorem onPtp_ens (p : Nat) (f : PtpPort → PtpPort) : (s.onPtp p f).ens = s.ens := rfl
@[simp] theorem onPtp_now (p : Nat) (f : PtpPort → PtpPort) : (s.onPtp p f).now = s.now := rfl

@[simp] theorem advanceTo_bestMaster (t : Nat) : (s.advanceTo t).bestMaster = s.bestMaster := by simp [State.bestMaster, State.on]

/-- A 64-bit register reads the signed value it was set to. -/
theorem toSigned_ofSigned {z : Int} (hlo : -2 ^ 63 ≤ z) (hhi : z < 2 ^ 63) : toSigned 64 (ofSigned 64 z % 2 ^ 64) = z := by
  unfold toSigned ofSigned
  split <;> omega

/-- A measurement of at most 1 µs is none outside the unlock limit (Table 02.3). -/
theorem countMeasure_bads {off : Int} (h : off.natAbs ≤ 1000) (x : Nat) : (s.countMeasure x off).bads x = 0 := by
  unfold State.countMeasure State.bads
  dsimp only
  split <;> exact if_neg (by omega)

theorem countMeasure_ens (x : Nat) (off : Int) : (s.countMeasure x off).ens = s.ens := by
  unfold State.countMeasure
  dsimp only
  split <;> rfl
theorem countMeasure_now (x : Nat) (off : Int) : (s.countMeasure x off).now = s.now := by
  unfold State.countMeasure
  dsimp only
  split <;> rfl

/-- While a graph is admitted an offset is slewed away (R39). -/
theorem correct_of_admitted {s : State} (h : s.reg R.adm_ADMITTED ≠ 0) (off : Int) : s.correct off = s.slewBy off :=
  if_pos (Or.inl (by simpa [State.on] using h))

/-- A LOCKED timebase corrects each offset of its source while none lies outside the unlock limit (Table 02.2). -/
theorem judge_of_locked {s : State} {x : Nat} (h : s.reg R.tb_STATE = 2) (hb : s.bads x = 0) (off : Int) :
    s.judge x off = s.correct off := by
  unfold State.judge
  rw [h]
  exact if_neg (by omega)

/-- The active source of a LOCKED timebase, measured inside the unlock limit while a graph is admitted: OFFSET, and a slew (R39). -/
theorem measure_locked {s : State} {x : Nat} {off : Int} (hx : x ≠ 0) (hs : s.sources.contains x = true) (hres : s.ens.resync = false)
    (hact : s.reg R.tb_ACTIVE_SOURCE = x) (hst : s.reg R.tb_STATE = 2) (hadm : s.reg R.adm_ADMITTED ≠ 0) (hoff : off.natAbs ≤ 1000) :
    s.measure x off = ((s.countMeasure x off).setRegI R.tb_OFFSET 0 off).slewBy off := by
  have hreg : ∀ r : Reg, r.ref ≠ R.tb_OFFSET.ref → ((s.countMeasure x off).setRegI R.tb_OFFSET 0 off).reg r = s.reg r := fun r hr =>
    (reg_setReg_of_ref _ hr _ _ _).trans (countMeasure_reg s x off r 0)
  have hjudge : ((s.countMeasure x off).setRegI R.tb_OFFSET 0 off).judge x off =
      ((s.countMeasure x off).setRegI R.tb_OFFSET 0 off).slewBy off := by
    rw [judge_of_locked ((hreg _ (by decide)).trans hst) (countMeasure_bads s hoff x),
      correct_of_admitted (by rwa [hreg _ (by decide)])]
  unfold State.measure
  simp only [hs, countMeasure_ens, hres, countMeasure_reg, hact, if_neg hx, Bool.not_true, Bool.false_eq_true, if_false, if_true, hjudge]

/-- A Sync of the best master, at an interval of the profile, is a measurement of PTP (R42). -/
theorem ptpSync_measures {s : State} {t port : Nat} {interval off : Int} {a : Announce} (hb : s.bestMaster = some (port, a))
    (hlo : -7 ≤ interval) (hhi : interval ≤ 0) : ∃ f, opPtpSync t port ⟨a.identity, interval, off⟩ s =
      (((s.advanceTo t).onPtp port f).measure 1 off).ptpStates := by
  unfold opPtpSync
  dsimp only
  rw [advanceTo_bestMaster, hb, if_neg]
  · exact ⟨_, rfl⟩
  · rintro (h | h | h)
    · omega
    · omega
    · exact h rfl

theorem mem_hearMaster_self (ms : List (Nat × Announce)) (port : Nat) (a : Announce) : (port, a) ∈ hearMaster ms port a := by
  simp [hearMaster]
theorem mem_hearMaster_of_other {ms : List (Nat × Announce)} {port : Nat} {a : Announce} {p : Nat × Announce} (hp : p ∈ ms)
    (hne : ¬(p.1 = port ∧ p.2.identity = a.identity)) : p ∈ hearMaster ms port a := by
  have hkept : (!(p.1 == port && p.2.identity == a.identity)) = true := by
    rw [Bool.not_eq_true', ← Bool.not_eq_true, Bool.and_eq_true, beq_iff_eq, beq_iff_eq]
    exact hne
  exact List.mem_append_left _ (List.mem_filter.mpr ⟨hp, hkept⟩)

theorem portMaster_of_masters {s u : State} (h : u.tb.masters = s.tb.masters) (p : Nat) : u.portMaster p = s.portMaster p := by
  simp only [State.portMaster, h]

/-- An Announce that the port accepts, said once: the masters, MASTER_ID, and UTC_OFFSET where `b` says so (R42). -/
theorem ptpAnnounce_eq {s : State} {t port : Nat} {a : Announce} (hon : s.on R.ptp_ENABLE port = true)
    (hd : s.reg R.ptp_DOMAIN port = a.domain) (hlo : -3 ≤ a.interval) (hhi : a.interval ≤ 1) :
    ∃ (v : State) (b : Bool), v.tb.masters = hearMaster s.tb.masters port a ∧
      opPtpAnnounce t port a s = State.ptpStates (if b then (v.setReg R.ptp_MASTER_ID port
        (((v.portMaster port).map Announce.identity).getD 0)).setRegI R.tb_UTC_OFFSET 0 a.utcOffset
        else v.setReg R.ptp_MASTER_ID port (((v.portMaster port).map Announce.identity).getD 0)) := by
  have hon' : s.reg R.ptp_ENABLE port ≠ 0 := by simpa [State.on] using hon
  unfold opPtpAnnounce
  dsimp only
  rw [if_neg (by simp [State.on, hon', hd, hlo, hhi])]
  exact ⟨_, _, by simp [State.onPtp], rfl⟩

/-- An Announce that the port accepts joins the masters heard, and MASTER_ID names the best of the port (R42). -/
theorem ptpAnnounce_hears {s : State} {t port : Nat} {a : Announce} (hon : s.on R.ptp_ENABLE port = true)
    (hd : s.reg R.ptp_DOMAIN port = a.domain) (hlo : -3 ≤ a.interval) (hhi : a.interval ≤ 1) :
    (opPtpAnnounce t port a s).tb.masters = hearMaster s.tb.masters port a ∧ (opPtpAnnounce t port a s).reg R.ptp_MASTER_ID port =
      (((opPtpAnnounce t port a s).portMaster port).map Announce.identity).getD 0 % 2 ^ 64 := by
  obtain ⟨v, b, hv, e⟩ := ptpAnnounce_eq (t := t) hon hd hlo hhi
  have htb : (opPtpAnnounce t port a s).tb = v.tb := by
    rw [e, ptpStates_tb]
    split <;> rfl
  refine ⟨by rw [htb, hv], ?_⟩
  rw [portMaster_of_masters (s := v) (by rw [htb]), e, ptpStates_reg _ (by decide)]
  split
  · rw [State.setRegI, reg_setReg_of_ref _ (by decide), reg_setReg_same]
  · rw [reg_setReg_same]

/-- The port of the best master is lost (R44), said once. -/
theorem ptpSourceLost_eq {s : State} {t port : Nat} (hb : s.bestPort = some port) (hu : s.tb.ptpUsable = true)
    (hl : (s.advanceTo t).ptpLost port = true) : ∃ v : State, v.tb.masters = s.tb.masters.filter (fun p => p.1 != port) ∧
      (∀ r j, v.reg r j = s.reg r j) ∧
      opPtpSourceLost t port s = (((v.inc R.ptp_SYNC_LOSSES port).raise 0x1302 port).loseSource 1).ptpStates := by
  have hport : (s.advanceTo t).bestPort = some port := by rw [State.bestPort, advanceTo_bestMaster]; exact hb
  unfold opPtpSourceLost
  dsimp only
  rw [if_pos (by simp [hport, hu, hl])]
  exact ⟨_, by simp [State.onPtp], fun r j => by rw [onPtp_reg]; exact advanceTo_reg s t r j, rfl⟩

/-! ### REF_IN -/

theorem advanceTo_syncMv (t : Nat) : (s.advanceTo t).syncMv = s.syncMv := by simp only [State.syncMv, advanceTo_board]

/-- What an accepted format fits into (R45). -/
theorem refRates_bounds {format num den : Nat} (h : (num, den) ∈ refRates format) : format < 2 ^ 8 ∧ num < 2 ^ 32 ∧ den < 2 ^ 32 := by
  unfold refRates at h
  split at h
  all_goals simp only [List.mem_cons, Prod.mk.injEq, List.not_mem_nil, or_false] at h
  all_goals omega

/-- A reference is present: its format and rate are what was found. -/
def State.refFound (s : State) (format num den : Nat) : State :=
  (((s.setReg R.ref_FORMAT 0 format).setReg R.ref_PRESENT 0 1).setReg R.ref_RATE_NUM 0 num).setReg R.ref_RATE_DEN 0 den

/-- What was found reads back, each field being wide enough. -/
theorem refFound_reads {format num den : Nat} (hf : format < 2 ^ 8) (hn : num < 2 ^ 32) (hd : den < 2 ^ 32) :
    (s.refFound format num den).reg R.ref_FORMAT = format ∧ (s.refFound format num den).reg R.ref_PRESENT = 1 ∧
      (s.refFound format num den).reg R.ref_RATE_NUM = num ∧ (s.refFound format num den).reg R.ref_RATE_DEN = den := by
  unfold State.refFound
  refine ⟨?_, ?_, ?_, ?_⟩
  · rw [reg_setReg_of_ref _ (by decide), reg_setReg_of_ref _ (by decide), reg_setReg_of_ref _ (by decide), reg_setReg_same,
      Nat.mod_eq_of_lt hf]
  · rw [reg_setReg_of_ref _ (by decide), reg_setReg_of_ref _ (by decide), reg_setReg_same, Nat.mod_eq_of_lt (by decide)]
  · rw [reg_setReg_of_ref _ (by decide), reg_setReg_same, Nat.mod_eq_of_lt hn]
  · rw [reg_setReg_same, Nat.mod_eq_of_lt hd]

/-- An accepted reference frame start writes what was found, and the rest of its effect concerns the timebase (R45, R46). -/
theorem refInFrame_accepted {s : State} {t format num den : Nat} (hr : (num, den) ∈ refRates format)
    (hsync : syncAccepted s.syncMv s.board.refOffset = true) {r : Reg} (h : r.ref ∉ sourceRefs) (hp : r.ref ≠ R.ptp_PORT_STATE.ref) (j : Nat) :
    (opRefInFrame t format num den s).reg r j =
      (s.refFound format num den).reg r j := by
  have hcond : ¬(!(refRates format).contains (num, den) || !syncAccepted (s.advanceTo t).syncMv (s.advanceTo t).board.refOffset) = true := by
    simp [advanceTo_syncMv, hr, hsync]
  have hfound : ((s.advanceTo t).refFound format num den).reg r j = (s.refFound format num den).reg r j :=
    reg_of_regs (by simp [State.refFound, State.setReg]) r j
  unfold opRefInFrame
  dsimp only
  rw [if_neg hcond, ptpStates_reg _ hp]
  split
  · rw [measure_reg _ h]
    exact hfound
  · rw [loseSource_reg _ h]
    exact hfound

section
variable {s} (h : s.on R.ref_PRESENT = true)
include h

/-- The loss of a reference that is present (R47). -/
theorem refLost_of_present : s.refLost =
    (((((s.setReg R.ref_PRESENT 0 0).inc R.ref_LOSSES).raise 0x1303 0).loseSource 2).ptpStates) := if_pos h

theorem refLost_losses : s.refLost.reg R.ref_LOSSES = (s.reg R.ref_LOSSES + 1) % 2 ^ 32 := by
  rw [refLost_of_present h, ptpStates_reg _ (by decide), loseSource_reg _ (by decide), raise_reg _ (by decide), reg_inc_same,
    reg_setReg_of_ref _ (by decide)]

theorem refLost_refUsable : s.refLost.tb.refUsable = false := by
  rw [refLost_of_present h, ptpStates_tb, loseSource_refUsable]

end

/-- After its loss a reference is not present (R47). -/
theorem refLost_present : s.refLost.reg R.ref_PRESENT = 0 := by
  by_cases h : s.on R.ref_PRESENT = true
  · rw [refLost_of_present h, ptpStates_reg _ (by decide), loseSource_reg _ (by decide), raise_reg _ (by decide),
      reg_inc_of_ref _ (by decide), reg_setReg_same, Nat.zero_mod]
  · rw [State.refLost, if_neg h]
    simpa [State.on] using h

/-- A reference frame start that REF_IN does not accept (R45, R568). -/
theorem refInFrame_rejected {s : State} {t format num den : Nat}
    (h : (num, den) ∉ refRates format ∨ syncAccepted s.syncMv s.board.refOffset = false) :
    opRefInFrame t format num den s = ((s.advanceTo t).refLost.setReg R.ref_FORMAT 0 0).setReg R.ref_RATE_NUM 0 0 := by
  unfold opRefInFrame
  exact if_pos (by rcases h with h | h <;> simp [advanceTo_syncMv, h])

/-- The first missing sync edge is 10 µs overdue (R47). -/
theorem refInLost_due {s : State} {t : Nat} (h : s.tb.refEdge + s.tb.refLine + 10000 ≤ (s.advanceTo t).mono) :
    opRefInLost t s = (s.advanceTo t).refLost := by
  obtain ⟨z, c, htb⟩ := advanceTo_tb s t
  unfold opRefInLost
  exact if_pos (by rwa [htb])

/-! ### HOLDOVER -/

/-- HOLDOVER that has lasted HOLDOVER_LIMIT (Table 02.2). -/
theorem holdoverTimeout_due {s : State} {t : Nat} (hs : s.reg R.tb_STATE = 3)
    (h : s.tb.holdStart + s.reg R.tb_HOLDOVER_LIMIT * 1000000000 ≤ (s.advanceTo t).mono) :
    opHoldoverTimeout t s = ((s.advanceTo t).setReg R.tb_STATE 0 0).raise 0x1301 3 := by
  unfold opHoldoverTimeout
  dsimp only
  rw [if_pos ⟨by simpa using hs, by simpa using h⟩]
  simp [State.setLock, hs]

/-! ### The commands -/

theorem exec_ptpSync {port : Nat} (h : port < 256) (t : Nat) (m : SyncMeasurement) (s : State) :
    exec (.ptpSync t port m) s = .next (s.ran (opPtpSync t port m s)) := command_next s (by simp [h]) _
theorem exec_ptpAnnounce {port : Nat} (h : port < 256) (t : Nat) (a : Announce) (s : State) :
    exec (.ptpAnnounce t port a) s = .next (s.ran (opPtpAnnounce t port a s)) := command_next s (by simp [h]) _
theorem exec_ptpSourceLost {port : Nat} (h : port < 256) (t : Nat) (s : State) :
    exec (.ptpSourceLost t port) s = .next (s.ran (opPtpSourceLost t port s)) := command_next s (by simp [h]) _
theorem exec_ptpDelayResp {port : Nat} (h : port < 256) (d : Int) (s : State) :
    exec (.ptpDelayResp port d) s = .next (s.ran (opPtpDelayResp port d s)) := command_next s (by simp [h]) _
theorem exec_refInFrame (t format num den : Nat) (s : State) :
    exec (.refInFrame t format num den) s = .next (s.ran (opRefInFrame t format num den s)) := command_next s rfl _
theorem exec_refInLost (t : Nat) (s : State) : exec (.refInLost t) s = .next (s.ran (opRefInLost t s)) := command_next s rfl _
theorem exec_holdoverTimeout (t : Nat) (s : State) :
    exec (.holdoverTimeout t) s = .next (s.ran (opHoldoverTimeout t s)) := command_next s rfl _

/-- Settles O1: each event by the equation of its operation, read through what disciplining the timebase leaves alone. -/
theorem sourceEventsTakeEffect : Obligations.SourceEventsTakeEffect := by
  unfold Obligations.SourceEventsTakeEffect
  refine ⟨fun t port interval off a s hp hb hlo hhi hsrc hact hst hres hadm hoff => ?sync, fun t port a s hp hon hd hlo hhi => ?announce,
    fun t port s hp hb hu hl => ?lost, fun port d s hp hon => ?delay, fun t format num den s hr hsync => ?frame,
    fun t format num den s hr => ?noFrame, fun t s hon hdue => ?refLost, fun t s hs hdue => ?holdover⟩
  case sync =>
    obtain ⟨f, hf⟩ := ptpSync_measures (t := t) (off := off) hb hlo hhi
    have hlocked : ((s.advanceTo t).onPtp port f).measure 1 off =
        ((((s.advanceTo t).onPtp port f).countMeasure 1 off).setRegI R.tb_OFFSET 0 off).slewBy off :=
      measure_locked (by decide) (by simp [State.sources, hsrc, sourcesOf]) (by simpa using hres) (by simpa using hact) (by simpa using hst)
        (by simpa using hadm) hoff
    rw [hlocked] at hf
    refine ⟨_, exec_ptpSync hp _ _ s, ?_⟩
    rw [hf, State.regI, ran_reg _ _ (by decide), ran_reg _ _ (by decide), ptpStates_reg _ (by decide), ptpStates_reg _ (by decide), slewBy_reg,
      slewBy_reg, State.setRegI, reg_setReg_same, reg_setReg_of_ref _ (by decide), countMeasure_reg, onPtp_reg, advanceTo_reg, ran_tb,
      ptpStates_tb, ran_now, ptpStates_now]
    exact ⟨toSigned_ofSigned (by omega) (by omega), rfl, hst, countMeasure_now _ _ _⟩
  case announce =>
    obtain ⟨hmasters, hid⟩ := ptpAnnounce_hears (t := t) hon hd hlo hhi
    refine ⟨_, exec_ptpAnnounce hp t a s, ?_⟩
    rw [portMaster_of_masters (s := opPtpAnnounce t port a s) (by rw [ran_tb]), ran_tb, ran_reg _ _ (by decide), hmasters]
    exact ⟨mem_hearMaster_self _ _ _, fun p hmem hne => mem_hearMaster_of_other hmem hne, hid⟩
  case lost =>
    obtain ⟨v, hv, hreg, e⟩ := ptpSourceLost_eq hb hu hl
    refine ⟨_, exec_ptpSourceLost hp t s, ?_, fun a => ?_, ?_⟩
    · rw [ran_reg _ _ (by decide), e, ptpStates_reg _ (by decide), loseSource_reg _ (by decide), raise_reg _ (by decide), reg_inc_same, hreg]
    · rw [ran_tb, e, ptpStates_tb, loseSource_masters, raise_tb, inc_tb, hv]
      simp
    · rw [ran_tb, e, ptpStates_tb, loseSource_ptpUsable]
  case delay =>
    rw [exec_ptpDelayResp hp, opPtpDelayResp, if_pos hon]
  case frame =>
    obtain ⟨hformat, hnum, hden⟩ := refRates_bounds hr
    have hreg : ∀ r : Reg, r.own → r.ref ∉ sourceRefs → r.ref ≠ R.ptp_PORT_STATE.ref →
        (s.ran (opRefInFrame t format num den s)).reg r = (s.refFound format num den).reg r := fun r ho h hne =>
      (ran_reg s _ ho 0).trans (refInFrame_accepted hr hsync h hne 0)
    refine ⟨_, exec_refInFrame t format num den s, ?_⟩
    rw [hreg _ (by decide) (by decide) (by decide), hreg _ (by decide) (by decide) (by decide), hreg _ (by decide) (by decide) (by decide),
      hreg _ (by decide) (by decide) (by decide)]
    exact refFound_reads s hformat hnum hden
  case noFrame =>
    refine ⟨_, exec_refInFrame t format num den s, ?_, ?_⟩
    · rw [ran_reg _ _ (by decide), refInFrame_rejected hr, reg_setReg_of_ref _ (by decide), reg_setReg_of_ref _ (by decide), refLost_present]
    · rw [ran_reg _ _ (by decide), refInFrame_rejected hr, reg_setReg_of_ref _ (by decide), reg_setReg_same, Nat.zero_mod]
  case refLost =>
    have hpresent : (s.advanceTo t).on R.ref_PRESENT = true := by simpa [State.on] using hon
    refine ⟨_, exec_refInLost t s, ?_, ?_, ?_⟩
    · rw [ran_reg _ _ (by decide), refInLost_due hdue, refLost_present]
    · rw [ran_reg _ _ (by decide), refInLost_due hdue, refLost_losses hpresent, advanceTo_reg]
    · rw [ran_tb, refInLost_due hdue, refLost_refUsable hpresent]
  case holdover => rw [exec_holdoverTimeout, holdoverTimeout_due hs hdue]

end Sys2Proof.Machine
end

section
/-! Admission: request, reply, release and impairment (R102 to R105, R124). -/

namespace Sys2Proof.Machine

variable (s : State)

/-! ### What follows the admitted graphs -/

/-- The registers that follow the admitted graphs: those of their reservations (Tables 04.6 to 04.9, 03.15, 02.6), and STAGED, which reads
the epoch that changes the slot tables (R105). -/
def reservationRefs : List Nat := [R.adm_ADMITTED.ref, R.sched_GUAR_RESERVED.ref, R.opb_GUAR_READY.ref, R.opb_LOAD.ref, R.opb_BACKLOG.ref,
  R.pcb_DEMAND.ref, R.cad_USERS.ref, R.rsys_STAGED.ref]

/-- Refreshing the reservations keeps whatever writes of their registers keep. -/
theorem refreshAdmission_keeps {β : Type} {g : State → β}
    (h : ∀ (u : State) (q : Reg) (i v : Nat), q.ref ∈ reservationRefs → g (u.setReg q i v) = g u) : g s.refreshAdmission = g s := by
  unfold State.refreshAdmission
  generalize List.range 608 = operators, List.range 128 = pcs, List.range 16 = cadences
  dsimp only
  rw [each_keeps g _ fun u c => h u R.cad_USERS _ _ (by decide), each_keeps g _ fun u n => h u R.pcb_DEMAND _ _ (by decide),
    each_keeps g, h _ R.sched_GUAR_RESERVED _ _ (by decide), h _ R.adm_ADMITTED _ _ (by decide)]
  intro u o
  rw [h _ R.opb_BACKLOG _ _ (by decide), h _ R.opb_LOAD _ _ (by decide), h _ R.opb_GUAR_READY _ _ (by decide)]

@[simp] theorem refreshAdmission_doms : s.refreshAdmission.doms = s.doms :=
  refreshAdmission_keeps (g := State.doms) s fun _ _ _ _ _ => rfl

@[simp] theorem armEpoch_doms (c target g : Nat) (add : Bool) : (s.armEpoch c target g add).doms = s.doms := rfl

@[simp] theorem joinEpoch_doms (g : Nat) : (s.joinEpoch g).doms = s.doms := by
  unfold State.joinEpoch
  split <;> simp

section
variable {r : Reg} (h : r.ref ∉ reservationRefs)
include h

theorem refreshAdmission_reg (j : Nat) : s.refreshAdmission.reg r j = s.reg r j :=
  refreshAdmission_keeps (g := fun u => u.reg r j) s fun u _ _ _ hq => reg_setReg_of_ref u (ne_of_mem_of_not_mem hq h).symm _ _ _

theorem armEpoch_reg (c target g : Nat) (add : Bool) (j : Nat) : (s.armEpoch c target g add).reg r j = s.reg r j := by
  have hs : r.ref ≠ R.rsys_STAGED.ref := fun e => h (by rw [e]; decide)
  rw [State.armEpoch, reg_setReg_of_ref _ hs, armMember_reg]

theorem joinEpoch_reg (g j : Nat) : (s.joinEpoch g).reg r j = s.reg r j := by
  unfold State.joinEpoch
  split
  · exact armEpoch_reg s h _ _ _ _ j
  · rfl

end

/-! ### The end of a check (R103) -/

/-- The check of slot `g` has ended after `us` µs, with a reply record. -/
def State.checkEnded (s : State) (g us : Nat) (record : List Byte) : State :=
  (((({ s with adm := { s.adm with checking := none } } : State).setReg R.adm_BUSY 0 0).peak R.adm_CHECK_MAX 0 us).setDom R.adm_REPLY 0
    record).setDom R.sadm_REPLY g record

theorem checkEnded_busy (g us : Nat) (record : List Byte) : (s.checkEnded g us record).reg R.adm_BUSY = 0 := by
  rw [State.checkEnded, setDom_reg, setDom_reg, reg_peak_of_ref _ (by decide), reg_setReg_same, Nat.zero_mod]

theorem checkEnded_reg {r : Reg} (hb : r.ref ≠ R.adm_BUSY.ref) (hm : r.ref ≠ R.adm_CHECK_MAX.ref) (g us : Nat) (record : List Byte)
    (j : Nat) : (s.checkEnded g us record).reg r j = s.reg r j := by
  rw [State.checkEnded, setDom_reg, setDom_reg, reg_peak_of_ref _ hm, reg_setReg_of_ref _ hb]
  rfl

theorem checkEnded_record (g us : Nat) (record : List Byte) : (s.checkEnded g us record).dom R.sadm_REPLY g = record :=
  dom_setDom_same _ _ _ _

/-- The admission of slot `g` with delivery bound `l`: its own registers, its epoch, and the reservations. -/
def State.granted (s : State) (g l : Nat) : State :=
  let u := (s.setReg R.sadm_STATE g 1).setReg R.sadm_L g l
  let v := (u.setReg R.sadm_ENTRIES g (inFlightCharge (u.models g))).joinEpoch g
  State.refreshAdmission { v with adm := { v.adm with granted := v.adm.granted.erase g ++ [g], breached := v.adm.breached.erase g } }

theorem granted_doms (g l : Nat) : (s.granted g l).doms = s.doms := by simp [State.granted]

/-- Beside ENTRIES and the reservations, granting writes STATE and L of the slot alone. -/
theorem granted_reg {r : Reg} (h : r.ref ∉ reservationRefs) (he : r.ref ≠ R.sadm_ENTRIES.ref) (g l j : Nat) :
    (s.granted g l).reg r j = ((s.setReg R.sadm_STATE g 1).setReg R.sadm_L g l).reg r j := by
  refine (refreshAdmission_reg _ h j).trans ?_
  exact (joinEpoch_reg _ h g j).trans (reg_setReg_of_ref _ he _ _ _)

theorem granted_state (g l : Nat) : (s.granted g l).reg R.sadm_STATE g = 1 := by
  rw [granted_reg s (by decide) (by decide), reg_setReg_of_ref _ (by decide), reg_setReg_same, Nat.mod_eq_of_lt (by decide)]

theorem granted_bound (g l : Nat) : (s.granted g l).reg R.sadm_L g = l % 2 ^ 32 := by
  rw [granted_reg s (by decide) (by decide), reg_setReg_same]

theorem granted_busy (g l : Nat) : (s.granted g l).reg R.adm_BUSY = s.reg R.adm_BUSY := by
  rw [granted_reg s (by decide) (by decide), reg_setReg_of_ref _ (by decide), reg_setReg_of_ref _ (by decide)]

/-- A refusal is counted; what it names of an absent operator is a free value (Table 04.4, code 3). -/
def State.refused (s : State) (x : Refused) : State :=
  if x.code = 3 then (s.inc R.adm_REFUSALS).took else s.inc R.adm_REFUSALS

@[simp] theorem refused_doms (x : Refused) : (s.refused x).doms = s.doms := by
  unfold State.refused
  split <;> rfl

theorem refused_reg (x : Refused) (r : Reg) (j : Nat) : (s.refused x).reg r j = (s.inc R.adm_REFUSALS).reg r j := by
  unfold State.refused
  split <;> rfl

section
variable {s} {g m : Nat} (hc : s.adm.checking = some (g, m)) (hh : s.dusk.core1.haltedAt = none) (hr : s.scratch.recovery = [])
include hc hh hr

theorem admissionReply_grants {l : Nat} (h : s.admissionCheck g = .inr l) (us : Nat) :
    opAdmissionReply us s = ((s.checkEnded g us (replyRecord g us l ⟨0, 0, 0, 0⟩)).granted g l).raise 0x5030 g := by
  unfold opAdmissionReply
  rw [hc, hh, hr]
  simp only [Option.filter, Option.isNone, if_true, h]
  rfl

theorem admissionReply_refuses {x : Refused} (h : s.admissionCheck g = .inl x) (us : Nat) :
    opAdmissionReply us s = ((s.checkEnded g us (replyRecord g us 0 x)).refused x).raise 0x5031 (g + x.code * 256) := by
  unfold opAdmissionReply
  rw [hc, hh, hr]
  simp only [Option.filter, Option.isNone, if_true, h]
  rfl

end

theorem exec_admissionReply (us : Nat) (s : State) : exec (.admissionReply us) s = .next (s.ran (opAdmissionReply us s)) :=
  command_next s rfl _

/-! ### Requests (R102) -/

/-- A request while no check runs starts one. -/
theorem exec_admissionRequest {s : State} {w : Who} {g : Nat} (hw : s.mayWrite w R.adm_REQUEST 0 = true) (hg : g < 64)
    (hb : s.reg R.adm_BUSY = 0) : exec (.admissionRequest w g) s =
      .next (s.ran (({ s with adm := { s.adm with checking := some (g, s.mono) } } : State).setReg R.adm_BUSY 0 1).ok) := by
  have hop := command_next s rfl (opAdmissionRequest w g)
  rwa [opAdmissionRequest, writeAs_of_mayWrite hw (decide_eq_true hg), if_neg (by simp [State.on, hb])] at hop

/-! ### Releases (R104, R105) -/

/-- The registers of the admission of slot `g`, cleared. -/
def State.unadmitted (s : State) (g : Nat) : State :=
  (((s.setReg R.sadm_STATE g 0).setReg R.sadm_L g 0).setReg R.sadm_ENTRIES g 0).setReg R.sadm_IMPAIRED_BY g 0

theorem unadmitted_reads (g : Nat) : (s.unadmitted g).reg R.sadm_STATE g = 0 ∧ (s.unadmitted g).reg R.sadm_L g = 0 ∧
    (s.unadmitted g).reg R.sadm_ENTRIES g = 0 := by
  simp [State.unadmitted, reg_setReg_of_ref]

/-- A release clears the registers of the slot's admission; the rest of its effect concerns the reservations. -/
theorem releaseAdmission_reg {r : Reg} (hr : r.ref ∉ raiseRefs) (h : r.ref ∉ reservationRefs) (g j : Nat) :
    (s.releaseAdmission g).reg r j = (s.unadmitted g).reg r j := by
  unfold State.releaseAdmission
  dsimp only
  rw [raise_reg _ hr, armEpoch_reg _ h, refreshAdmission_reg _ h, State.unadmitted]

/-- A release of an admission whose slot is not live. -/
theorem exec_admissionRelease {s : State} {w : Who} {g : Nat} (hw : s.mayWrite w R.adm_RELEASE 0 = true) (hg : g < 64)
    (ha : s.reg R.sadm_STATE g ≠ 0) (hs : s.live g = false) :
    exec (.admissionRelease w g) s = .next (s.ran (s.releaseAdmission g).ok) := by
  have hop := command_next s rfl (opAdmissionRelease w g)
  rwa [opAdmissionRelease, writeAs_of_mayWrite hw (decide_eq_true hg), if_neg (by simp [State.on, ha, hs])] at hop

/-! ### Impairment (R124) -/

/-- An admission that uses an absent unit is impaired by it. -/
theorem exec_admissionImpair {s : State} {g i : Nat} (hg : g < 64) (ha : s.reg R.sadm_STATE g = 1) (hi : s.absentUnit g false = some i) :
    exec (.admissionImpair g) s =
      .next (s.ran (((s.setReg R.sadm_STATE g 2).setReg R.sadm_IMPAIRED_BY g i).raise 0x5032 g)) := by
  have hop : opAdmissionImpair g s = ((s.setReg R.sadm_STATE g 2).setReg R.sadm_IMPAIRED_BY g i).raise 0x5032 g := by
    rw [opAdmissionImpair, hi]
    exact if_pos ha
  exact hop ▸ command_next s (decide_eq_true hg) (opAdmissionImpair g)

/-- Settles O8: each command by its equation above, what a reply or a release leaves by what the reservations leave alone. -/
theorem admissionCommandsTakeEffect : Obligations.AdmissionCommandsTakeEffect := by
  unfold Obligations.AdmissionCommandsTakeEffect
  refine ⟨fun w g s => exec_admissionRequest, fun us g m l s hc hh hr h => ?grants, fun us g m x s hc hh hr h => ?refuses,
    fun w g s hw hg ha hs => ?releases, fun g i s => exec_admissionImpair⟩
  case grants =>
    have hop := admissionReply_grants hc hh hr h us
    refine ⟨_, exec_admissionReply us s, ⟨_, by rw [hop]⟩, ?_⟩
    rw [hop, ran_reg _ _ (by decide), ran_reg _ _ (by decide), ran_reg _ _ (by decide), raise_reg _ (by decide), raise_reg _ (by decide),
      raise_reg _ (by decide), granted_busy, checkEnded_busy, granted_state, granted_bound, dom_of_doms (ran_doms _ _),
      dom_of_doms (raise_doms _ _ _), dom_of_doms (granted_doms _ _ _), checkEnded_record]
    exact ⟨rfl, rfl, rfl, rfl⟩
  case refuses =>
    have hop := admissionReply_refuses hc hh hr h us
    have hreg : ∀ r : Reg, r.own → ∀ j, (s.ran (opAdmissionReply us s)).reg r j =
        ((s.checkEnded g us (replyRecord g us 0 x)).inc R.adm_REFUSALS).reg r j := fun r ho j => by
      rw [ran_reg _ _ ho, hop, raise_reg _ ho.notRaise, refused_reg]
    refine ⟨_, exec_admissionReply us s, ?_, ?_, ?_, ?_⟩
    · rw [hreg _ (by decide), reg_inc_of_ref _ (by decide), checkEnded_busy]
    · rw [hreg _ (by decide), reg_inc_of_ref _ (by decide), checkEnded_reg _ (by decide) (by decide)]
    · rw [hreg _ (by decide), reg_inc_same, checkEnded_reg _ (by decide) (by decide)]
    · rw [dom_of_doms (ran_doms _ _), hop, dom_of_doms (raise_doms _ _ _), dom_of_doms (refused_doms _ _), checkEnded_record]
  case releases =>
    have hreg : ∀ r : Reg, r.own → r.ref ∉ reservationRefs → (s.ran (s.releaseAdmission g).ok).reg r g = (s.unadmitted g).reg r g :=
      fun r ho h => by rw [ran_reg _ _ ho, State.ok, answer_reg, releaseAdmission_reg _ ho.notRaise h]
    obtain ⟨hstate, hl, hentries⟩ := unadmitted_reads s g
    refine ⟨_, exec_admissionRelease hw hg ha (by simp [State.live, hs]), ?_, ?_, ?_, ran_reply s _⟩
    · rw [hreg _ (by decide) (by decide), hstate]
    · rw [hreg _ (by decide) (by decide), hl]
    · rw [hreg _ (by decide) (by decide), hentries]

end Sys2Proof.Machine
end

section
/-! What writing the frame store leaves alone (R204, R205, R213 to R215, R243): everything but the store, the rings' traffic, the
stale masks and the counters of the accesses. -/

namespace Sys2Proof.Machine

/-- The registers that an access of one copy in the frame store may write: the counts and logs of PCs, and what a fence of one changes (R215, R225). -/
def accessRefs : List Nat :=
  [R.pc_BURSTS.ref, R.pc_FENCED_WRITES.ref, R.pc_POISON_WRITES.ref, R.pc_QUEUE_OCC.ref, R.pc_QUEUE_PEAK.ref, R.pc_CORRECTED.ref,
   R.pc_DEAD_LANE_CORRECTED.ref, R.pc_UNCORRECTABLE.ref, R.pc_STATE.ref, R.pc_PRESENT.ref, R.pcb_CEILING.ref, R.mlog_VALID.ref,
   R.mlog_OVERFLOW.ref, R.mlog_POISON_READS.ref, R.code_UNCORR_SUPPRESSED.ref, R.pres_PCS0.ref, R.pres_PCS1.ref, R.pres_CHANGES.ref,
   R.stop_STATE.ref, R.stop_VC_PEAK.ref]

/-- An observation of the state that no access of the frame store reaches. -/
structure AccessKeeps {β : Type} (g : State → β) : Prop where
  store : ∀ (s : State) (x : Store), g { s with store := x } = g s
  rings : ∀ (s : State) (x : Rings), g { s with rings := x } = g s
  ingress : ∀ (s : State) (x : List (Nat × Nat × Nat)), g { s with streams := { s.streams with ingress := x } } = g s
  stale : ∀ (s : State) (x : List (Nat × MirrorMask)), g { s with sched := { s.sched with stale := x } } = g s
  took : ∀ s : State, g s.took = g s
  reg : ∀ (s : State) (r : Reg) (i v : Nat), r.ref ∈ accessRefs → g (s.setReg r i v) = g s
  raise : ∀ (s : State) (c d : Nat), g (s.raise c d) = g s

namespace AccessKeeps

variable {β : Type} {g : State → β} (k : AccessKeeps g) (s : State)
include k

theorem inc {r : Reg} (h : r.ref ∈ accessRefs) (i : Nat) : g (s.inc r i) = g s := k.reg s r i _ h

theorem peak {r : Reg} (h : r.ref ∈ accessRefs) (i n : Nat) : g (s.peak r i n) = g s := by
  unfold State.peak
  split
  · exact k.reg s r i _ h
  · rfl

theorem onPc (n : Nat) (u : PcState → PcState) : g (s.onPc n u) = g s := k.store s _

theorem putCodeWord (a : Nat) (c : CodeWord) : g (s.putCodeWord a c) = g s := k.store s _

/-! ### Answers on the rings (R267, R269) -/

theorem setBuffer (i : Nat) (vc : VC) (l : List Buffered) : g (s.setBuffer i vc l) = g s := by
  have hu : g (s.ingressUntil i) = g s := by
    unfold State.ingressUntil
    split
    · split
      · exact k.ingress s _
      · rfl
    · rfl
  exact (k.rings _ _).trans hu

theorem inject (a p : Nat) (f : Flit) : g (s.inject a p f) = g s := by
  have hpush : ∀ (u : State) (i q c : Nat), g (u.pushFlit i q c f) = g u := fun u i q c => by
    unfold State.pushFlit
    dsimp only
    split
    · exact k.setBuffer u _ _ _
    · unfold State.vcPeak
      dsimp only
      split
      · rw [k.reg _ R.stop_VC_PEAK _ _ (by decide), k.setBuffer]
      · exact k.setBuffer u _ _ _
  unfold State.inject
  rw [hpush]
  split
  · exact k.rings s _
  · rfl

theorem respond (a master tag w : Nat) (d : Option Nat) : g (s.respond a master tag w d) = g s := by
  unfold State.respond
  split
  · rfl
  · dsimp only
    split
    · exact k.rings s _
    · exact (each_keeps g _ (fun u f => k.inject u a 512 f) _ _).trans (k.rings s _)

theorem sendMasterAck (a master tag : Nat) (st : AckStatus) : g (s.sendMasterAck a master tag st) = g s := by
  unfold State.sendMasterAck
  split
  · rfl
  · exact k.rings s _

theorem wordStored (n : Nat) (r : PcReq) : g (s.wordStored n r) = g s := by
  unfold State.wordStored
  split
  · rfl
  · dsimp only
    split
    · exact k.rings s _
    · rw [k.sendMasterAck]
      exact k.rings s _

/-! ### Fencing a PC (R214, R215) -/

theorem fencedAnswer (n : Nat) (r : PcReq) : g (s.fencedAnswer n r) = g s := by
  unfold State.fencedAnswer
  split
  · exact k.inc s (r := R.pc_FENCED_WRITES) (by decide) n
  · exact k.respond s _ _ _ _ _

theorem setMoving (n : Nat) (l : List PcReq) : g (s.setMoving n l) = g s := k.rings s _

theorem shutPc (n : Nat) : g (s.shutPc n) = g s := by
  unfold State.shutPc
  dsimp only
  rw [each_keeps g, each_keeps g, k.setMoving, k.onPc, k.reg _ R.pc_QUEUE_OCC _ _ (by decide), k.reg _ R.pcb_CEILING _ _ (by decide),
    k.reg _ R.pc_PRESENT _ _ (by decide), k.reg _ R.pc_STATE _ _ (by decide)]
  · exact fun u r => k.fencedAnswer u n r
  · intro u r
    split
    · rw [k.wordStored, k.fencedAnswer]
    · exact k.fencedAnswer u n r

theorem absent {r : Reg} (h : r.ref ∈ accessRefs) (n : Nat) : g (s.absent r n) = g s := by
  unfold State.absent
  split
  · dsimp only
    rw [k.raise, k.inc (r := R.pres_CHANGES) _ (by decide), k.reg _ _ _ _ h]
  · rfl

theorem setStop (a st : Nat) : g (s.setStop a st) = g s := by
  unfold State.setStop
  split
  · rfl
  · dsimp only
    rw [k.raise, k.reg _ R.stop_STATE _ _ (by decide)]
    split
    · rfl
    · exact k.rings s _

theorem raiseNoCopy (stack : Nat) (pcs : List Nat) : g (s.raiseNoCopy stack pcs) = g s := by
  unfold State.raiseNoCopy
  refine each_keeps g _ (fun u p => ?_) _ _
  dsimp only
  split
  · exact k.raise u _ _
  · rfl

theorem fencePc (n cause : Nat) : g (s.fencePc n cause) = g s := by
  have hbit : (pcBit n).1.ref ∈ accessRefs := by
    unfold pcBit
    dsimp only
    split <;> decide
  unfold State.fencePc
  split
  · rfl
  · split
    · exact k.onPc s _ _
    · dsimp only
      rw [k.raiseNoCopy, k.setStop, k.raise, k.absent _ hbit, k.shutPc]

/-! ### Checking a word (R213, R233, R243) -/

theorem putLogEntry (n e : Nat) (x : LogEntry) : g (s.putLogEntry n e x) = g s :=
  (k.store _ _).trans (k.reg s R.mlog_VALID n _ (by decide))

theorem logFinding (n : Nat) (x : LogEntry) : g (s.logFinding n x) = g s := by
  have h0 : ∀ y : Store, g { s with store := y } = g s := k.store s
  unfold State.logFinding
  dsimp only
  split
  · rw [k.putLogEntry, h0]
  · split
    · rw [k.putLogEntry, h0]
    · split
      · rw [k.putLogEntry, h0]
      · split
        · rw [k.inc (r := R.mlog_OVERFLOW) _ (by decide), h0]
        · rw [k.raise, k.store, k.inc (r := R.mlog_OVERFLOW) _ (by decide), h0]

theorem raiseUncorrectable (n : Nat) : g (s.raiseUncorrectable n) = g s := by
  unfold State.raiseUncorrectable
  split
  · split
    · exact k.inc s (r := R.code_UNCORR_SUPPRESSED) (by decide) 0
    · rw [k.raise, k.store]
  · rw [k.raise, k.store]

theorem countDegraded (n : Nat) : g (s.countDegraded n) = g s := by
  unfold State.countDegraded
  split
  · dsimp only
    split
    · rw [k.fencePc, k.onPc]
    · exact k.onPc s _ _
  · rfl

theorem fetchWord (a : Nat) : g (s.fetchWord a).1 = g s := by
  unfold State.fetchWord
  split
  · rfl
  · exact k.took s

theorem checkWord (n a : Nat) (c : CodeWord) : g (s.checkWord n a c).1 = g s := by
  unfold State.checkWord
  split
  · rfl
  · split
    · exact k.inc s (r := R.pc_DEAD_LANE_CORRECTED) (by decide) n
    · rw [k.countDegraded, k.logFinding, k.inc (r := R.pc_CORRECTED) _ (by decide)]
  · exact k.inc s (r := R.mlog_POISON_READS) (by decide) n
  · have h : g (((s.inc R.pc_UNCORRECTABLE n).logFinding n (s.finding a c 1 0x3F 0 false)).raiseUncorrectable n) = g s := by
      rw [k.raiseUncorrectable, k.logFinding, k.inc (r := R.pc_UNCORRECTABLE) _ (by decide)]
    dsimp only
    split
    · exact (k.fencePc _ _ _).trans h
    · exact h

/-! ### One copy of a word -/

theorem readNow (a : Nat) : g (s.readNow a).1 = g s := by
  unfold State.readNow
  dsimp only
  split
  · rfl
  · rw [k.checkWord, k.inc (r := R.pc_BURSTS) _ (by decide), k.fetchWord]

theorem cancelWriteBack (n a : Nat) : g (s.cancelWriteBack n a) = g s := by
  unfold State.cancelWriteBack
  split
  · split
    · exact k.onPc s _ _
    · rfl
  · rfl

theorem writeNow (a data mask : Nat) (poison : Bool) : g (s.writeNow a data mask poison) = g s := by
  have h0 : ∀ n, g ((s.inc R.pc_BURSTS n).cancelWriteBack n a) = g s := fun n => by
    rw [k.cancelWriteBack, k.inc (r := R.pc_BURSTS) _ (by decide)]
  unfold State.writeNow
  dsimp only
  split
  · exact k.inc s (r := R.pc_FENCED_WRITES) (by decide) _
  · split
    · rw [k.putCodeWord, h0]
    · split
      · rw [k.putCodeWord, h0]
      · split
        · rw [k.putCodeWord, k.checkWord, k.inc (r := R.pc_BURSTS) _ (by decide), k.fetchWord, h0]
        · rw [k.putCodeWord, k.inc (r := R.pc_POISON_WRITES) _ (by decide), k.checkWord, k.inc (r := R.pc_BURSTS) _ (by decide),
            k.fetchWord, h0]

theorem serveWord (a : Nat) : g (s.serveWord a) = g s := by
  have hdo : ∀ (u : State) (n : Nat) (r : PcReq), g (u.doEntry n r) = g u := fun u n r => by
    unfold State.doEntry
    split
    · exact k.writeNow u _ _ _ _
    · exact (k.respond _ _ _ _ _ _).trans (k.readNow u _)
  unfold State.serveWord State.serveFirst
  dsimp only
  split
  · rfl
  · rw [each_keeps g _ fun u (e : PcEntry) => hdo u _ e.req]
    unfold State.pcOcc
    rw [k.peak (r := R.pc_QUEUE_PEAK) _ (by decide), k.reg _ R.pc_QUEUE_OCC _ _ (by decide), k.onPc]

theorem writeCopy (a data mask : Nat) (poison : Bool) : g (s.writeCopy a data mask poison) = g s :=
  (k.writeNow _ a data mask poison).trans (k.serveWord s a)

/-! ### What a master writes -/

theorem writeWord (a data mask : Nat) (poison : Bool) : g (s.writeWord a data mask poison) = g s := by
  have hcopy : ∀ (u : State) (c : Bool) (b i p m : Nat),
      g (if c then u.setStale i p m else u.writeCopy b data mask poison) = g u := fun u c b i p m => by
    split
    · exact k.stale u _
    · exact k.writeCopy u _ _ _ _
  unfold State.writeWord
  split
  · exact k.writeCopy s _ _ _ _
  · dsimp only
    rw [hcopy, hcopy]

theorem writeBytes (a : Nat) (l : List Byte) : g (s.writeBytes a l) = g s := by
  unfold State.writeBytes State.spreadBytes
  dsimp only
  split
  · rfl
  · exact each_keeps g _ (fun u w => k.writeWord u _ _ _ _) _ _

end AccessKeeps

/-- A register that no access of the frame store writes. -/
theorem accessKeeps_reg {r : Reg} (h : r.ref ∉ raiseRefs) (h2 : r.ref ∉ accessRefs) (j : Nat) : AccessKeeps fun s => s.reg r j where
  store _ _ := rfl
  rings _ _ := rfl
  ingress _ _ := rfl
  stale _ _ := rfl
  took _ := rfl
  reg s q i v hq := reg_setReg_of_ref s (fun e => h2 (by rw [e]; exact hq)) i j v
  raise s c d := raise_reg s h c d j

end Sys2Proof.Machine
end

section
/-! The stream engine: what its shared operations do and leave alone (R128, R135, R138 to R144). -/

namespace Sys2Proof.Machine

variable (s : State)

/-! ### Looking things up as time passes -/

@[simp] theorem advanceTo_flowRun (t f : Nat) : (s.advanceTo t).flowRun f = s.flowRun f := by simp [State.flowRun]
@[simp] theorem advanceTo_inFrame? (t f n : Nat) : (s.advanceTo t).inFrame? f n = s.inFrame? f n := by simp [State.inFrame?]
@[simp] theorem advanceTo_openBuffer (t f n : Nat) : (s.advanceTo t).openBuffer f n = s.openBuffer f n := by simp [State.openBuffer]
@[simp] theorem advanceTo_graph (t g : Nat) : (s.advanceTo t).graph g = s.graph g := by simp [State.graph]
@[simp] theorem advanceTo_sdiIn (t l : Nat) : (s.advanceTo t).sdiIn l = s.sdiIn l := by simp [State.sdiIn]
@[simp] theorem advanceTo_sdiFlow (t l dir : Nat) : (s.advanceTo t).sdiFlow l dir = s.sdiFlow l dir := by simp [State.sdiFlow, State.isPeer]
@[simp] theorem advanceTo_legged (t f : Nat) : (s.advanceTo t).legged f = s.legged f := by simp [State.legged, State.on, State.isPeer]

/-! ### The versions of a flow -/

@[simp] theorem flowRun_onFlow_same (f : Nat) (u : FlowRun → FlowRun) : (s.onFlow f u).flowRun f = u (s.flowRun f) :=
  tget_tput_same _ _ _ _

/-- A version changed in its content is found under its number as before. -/
theorem inFrame?_onInFrame {u : InFrame → InFrame} (hu : ∀ v, (u v).frame = v.frame) (f n : Nat) :
    (s.onInFrame f n u).inFrame? f n = (s.inFrame? f n).map u := by
  unfold State.inFrame? State.onInFrame
  rw [flowRun_onFlow_same]
  induction (s.flowRun f).frames with
  | nil => rfl
  | cons v l ih =>
    rw [List.map_cons, List.find?_cons, List.find?_cons]
    by_cases h : v.frame == n
    · simp [h, hu]
    · simpa [h] using ih

/-! ### Commit requests (R138, R139) -/

/-- The registers that a commit request may write: the scheduler's, and FRAMES of the flow. -/
def commitRefs : List Nat := raiseRefs ++ schedRefs ++ [R.flow_FRAMES.ref]

section
variable {r : Reg} (h : r.ref ∉ commitRefs)
include h

theorem notRaise_of_notCommit : r.ref ∉ raiseRefs := fun e => h (List.mem_append_left _ (List.mem_append_left _ e))
theorem notSched_of_notCommit : r.ref ∉ schedRefs := fun e => h (List.mem_append_left _ (List.mem_append_right _ e))

theorem flowCommitted_reg (f n j : Nat) : (s.flowCommitted f n).reg r j = s.reg r j := by
  unfold State.flowCommitted
  split
  · exact reg_inc_of_ref _ (fun e => h (by rw [e]; decide)) _ _
  · rfl

theorem commitSource_reg (id b f n t j : Nat) : (s.commitSource id b f n t).reg r j = s.reg r j := by
  unfold State.commitSource
  rw [schedule_reg _ (notRaise_of_notCommit h) (notSched_of_notCommit h), flowCommitted_reg _ h]
  rfl

theorem commitRequest_reg (f n t j : Nat) : (s.commitRequest f n t).1.reg r j = s.reg r j := by
  unfold State.commitRequest
  split
  · rfl
  · split
    · dsimp only
      split
      · split
        · exact commitSource_reg s h _ _ _ _ _ _
        · rfl
      · rfl
    · rfl

theorem evaluate_reg (f n j : Nat) : (s.evaluate f n).reg r j = s.reg r j := by
  unfold State.evaluate
  split
  · rfl
  · extract_lets _ _ _ u
    split
    · exact commitRequest_reg _ h _ _ _ j
    · rfl

theorem lastArrived_reg (f n leg j : Nat) : (s.lastArrived f n leg).reg r j = s.reg r j := evaluate_reg _ h f n j

/-- A leg that goes DOWN changes LEG_STATE, and what the versions it kept open change by their commits. -/
theorem legDown_reg (hl : r.ref ≠ R.flow_LEG_STATE.ref) (f leg j : Nat) : (s.legDown f leg).reg r j = s.reg r j := by
  unfold State.legDown
  split
  · rfl
  · dsimp only
    rw [each_keeps (fun u => u.reg r j) _ fun u (v : InFrame) => evaluate_reg u h _ _ j, raise_reg _ (notRaise_of_notCommit h),
      reg_setReg_of_ref _ hl]

end

/-- An incomplete version that is closed waits for the rest of its content. -/
theorem evaluate_incomplete {f n t : Nat} {v : InFrame} (hv : s.inFrame? f n = some v) (hclosed : v.closed = some t)
    (hc : v.complete = false) : s.evaluate f n = s.onInFrame f n fun v => { v with closed := some t } := by
  simp [State.evaluate, hv, hclosed, hc]

/-- LEG_STATE of a leg that goes DOWN. -/
theorem legDown_legState {f leg : Nat} (h : (s.reg R.flow_LEG_STATE f).testBit leg = true) :
    (s.legDown f leg).reg R.flow_LEG_STATE f = putBit (s.reg R.flow_LEG_STATE f) leg false % 2 ^ 8 := by
  unfold State.legDown
  rw [if_neg (by simp [h]), each_keeps (fun u => u.reg R.flow_LEG_STATE f) _ fun u (v : InFrame) => evaluate_reg u (by decide) _ _ f,
    raise_reg _ (by decide), reg_setReg_same]

/-! ### What is stored of a picture (R144) -/

/-- The registers that storing and completing a version may write. -/
def storeRefs : List Nat := commitRefs ++ accessRefs

section
variable {r : Reg} (h : r.ref ∉ storeRefs)
include h

theorem notCommit_of_notStore : r.ref ∉ commitRefs := fun e => h (List.mem_append_left _ e)

theorem writeBytes_reg (a : Nat) (l : List Byte) (j : Nat) : (s.writeBytes a l).reg r j = s.reg r j :=
  (accessKeeps_reg (notRaise_of_notCommit (notCommit_of_notStore h)) (fun e => h (List.mem_append_right _ e)) j).writeBytes s a l

theorem writePlaced_reg (f n : Nat) (b : BufferRec) (l : List (Nat × Nat × Nat)) (data : List Byte) (j : Nat) :
    (s.writePlaced f n b l data).reg r j = s.reg r j := by
  induction l generalizing s data with
  | nil => rfl
  | cons p l ih =>
    obtain ⟨row, ofs, k⟩ := p
    rw [State.writePlaced, ih]
    split
    · split
      · rfl
      · exact writeBytes_reg s h _ _ j
    · rfl

theorem padPicture_reg (a : Nat) (b : BufferRec) (j : Nat) : (s.padPicture a b).reg r j = s.reg r j := by
  have hzero : ∀ (u : State) (lo hi : Nat), (u.zeroFill a lo hi).reg r j = u.reg r j := fun u lo hi => writeBytes_reg u h _ _ j
  unfold State.padPicture
  dsimp only
  rw [hzero, each_keeps (fun u => u.reg r j) _ fun u k => hzero u _ _]

theorem finishPicture_reg (f n : Nat) (b : BufferRec) (j : Nat) : (s.finishPicture f n b).reg r j = s.reg r j := by
  unfold State.finishPicture
  split
  · split
    · exact padPicture_reg s h _ _ j
    · rfl
  · rfl

end

/-- A packet's bytes and what completes by them leave PACKETS as counted. -/
theorem storedPicture_packets (f n : Nat) (b : BufferRec) (l : List (Nat × Nat × Nat)) (data : List Byte) (j : Nat) :
    ((s.writePlaced f n b l data).finishPicture f n b).reg R.flow_PACKETS j = s.reg R.flow_PACKETS j := by
  rw [finishPicture_reg _ (by decide), writePlaced_reg _ (by decide)]

end Sys2Proof.Machine
end

section
/-! Ports and flows are switched (R128, R133, R574). -/

namespace Sys2Proof.Machine

variable (s : State)

/-! ### Ports -/

theorem laneStart_reg {r : Reg} (ht : r.ref ≠ R.lane_TX_STATE.ref) (hs : r.ref ≠ R.lane_STATE.ref) (l j : Nat) :
    (s.laneStart l).reg r j = s.reg r j := by
  unfold State.laneStart
  split
  · dsimp only
    rw [State.laneTo, onLane_reg, reg_setReg_of_ref _ hs]
    split
    · rfl
    · exact reg_setReg_of_ref s ht _ _ _
  · rfl

/-- Without ENABLE, LINK of a port that follows its lanes is DOWN; ENABLE stays. -/
theorem portRefresh_disabled {p : Nat} (h : s.reg R.eth_ENABLE p = 0) :
    (s.portRefresh p).reg R.eth_ENABLE p = 0 ∧ (s.portRefresh p).reg R.eth_LINK p = 0 := by
  have hlegs : ∀ {r : Reg}, r.ref ∉ commitRefs → r.ref ≠ R.flow_LEG_STATE.ref → ∀ (u : State) (l : List Nat),
      (u.each l fun u f =>
        let u := if u.reg R.flow_PORT_A f = p then u.legDown f 0 else u
        if u.reg R.flow_PORT_B f = p then u.legDown f 1 else u).reg r p = u.reg r p := fun hr hl u l =>
    each_keeps (fun u => u.reg _ p) _ (fun u f => by
      dsimp only
      split <;> split <;> simp only [legDown_reg _ hr hl]) u l
  unfold State.portRefresh
  simp only [State.on, h, bne_self_eq_false, Bool.false_and, Bool.not_false, Bool.true_and]
  by_cases hl : s.reg R.eth_LINK p = 0
  · simp [hl, h]
  · simp only [bne_iff_ne, ne_eq, hl, not_false_eq_true, if_true, Bool.false_eq_true, if_false]
    rw [hlegs (by decide) (by decide), hlegs (by decide) (by decide), onPtp_reg, onPtp_reg, raise_reg _ (by decide), raise_reg _ (by decide)]
    exact ⟨(reg_setReg_of_ref s (by decide) _ _ _).trans h, reg_setReg_same s _ _ _⟩

/-- ENABLE of a port whose lanes serve its TYPE. -/
theorem exec_portEnable_starts {s : State} {w : Who} {p : Nat} {ty : PortType} (hw : s.mayWrite w R.eth_ENABLE p = true)
    (hoff : s.reg R.eth_ENABLE p = 0) (hty : portType (s.reg R.eth_TYPE p) = some ty)
    (hls : ((s.portLanes p).all fun l => s.lanePresent l && s.reg R.lane_MODE l == 1 && s.reg R.lane_LINE_RATE l == ty.rate &&
      (s.portOf l).isNone && (ty.lanes != 8 || s.reg R.lane_MEDIUM l == 0)) = true) :
    exec (.portEnable w p true) s =
      .next (s.ran ((s.setReg R.eth_ENABLE p 1).each (s.portLanes p) fun s l => s.laneStart l).ok) := by
  have hop : opPortEnable w p true s = ((s.setReg R.eth_ENABLE p 1).each (s.portLanes p) fun s l => s.laneStart l).ok := by
    rw [opPortEnable, writeAs_of_mayWrite hw rfl]
    simp only [State.on, hoff, hty, hls]
    rfl
  exact hop ▸ command_next s rfl (opPortEnable w p true)

/-- ENABLE = 0 of an enabled port. -/
theorem exec_portEnable_stops {s : State} {w : Who} {p : Nat} (hw : s.mayWrite w R.eth_ENABLE p = true)
    (hon : s.reg R.eth_ENABLE p ≠ 0) : ∃ u : State, u.reg R.eth_ENABLE p = 0 ∧
      exec (.portEnable w p false) s = .next (s.ran (u.portRefresh p).ok) := by
  refine ⟨(s.each (s.portLanes p) fun s l => s.laneStop l 4).setReg R.eth_ENABLE p 0, reg_setReg_same _ _ _ _, ?_⟩
  have hop := command_next s rfl (opPortEnable w p false)
  rwa [opPortEnable, writeAs_of_mayWrite hw rfl, if_neg (by simp [State.on, hon]), if_neg Bool.false_ne_true] at hop

/-! ### Flows -/

theorem countEgress_reg {r : Reg} (h : r.ref ≠ R.eth_EGRESS_FLOWS.ref) (f j : Nat) : (s.countEgress f).reg r j = s.reg r j :=
  each_keeps (fun u => u.reg r j) _ (fun u p => reg_setReg_of_ref u h p j _) s _

@[simp] theorem countEgress_streams (f : Nat) : (s.countEgress f).streams = s.streams :=
  each_keeps State.streams _ (fun u p => setReg_streams u _ p _) s _

theorem reportGroups_reg {r : Reg} (h : r.ref ≠ R.eth_TX_FRAMES.ref) (p : Nat) (fs : List Nat) (j : Nat) :
    (s.reportGroups p fs).reg r j = s.reg r j := by
  unfold State.reportGroups
  split
  · exact reg_inc_of_ref _ h p j
  · rfl

@[simp] theorem reportGroups_active (p : Nat) (fs : List Nat) : (s.reportGroups p fs).streams.active = s.streams.active := by
  unfold State.reportGroups
  split <;> rfl

theorem mem_insertNat_self (x : Nat) (l : List Nat) : x ∈ insertNat x l := by
  induction l with
  | nil => exact List.mem_singleton_self x
  | cons y l ih =>
    unfold insertNat
    split
    · exact List.mem_cons_self
    · split
      · next h => exact h ▸ List.mem_cons_self
      · exact List.mem_cons_of_mem _ ih

/-- Flow `f` is CONFIGURED and listed, before its ports hear of it. -/
def State.flowListed (s : State) (f : Nat) : State :=
  let s := s.setReg R.flow_STATE f 1
  { s with streams := { s.streams with active := insertNat f s.streams.active } }

/-- Flow `f` is OFF and listed no more; an SDI transmitter is squelched. -/
def State.flowUnlisted (s : State) (f : Nat) : State :=
  let s := s.setReg R.flow_STATE f 0
  let s := { s with streams := { s.streams with active := s.streams.active.filter fun g => g != f } }
  if s.reg R.flow_KIND f = 4 ∧ s.reg R.flow_DIR f = 1 then s.squelch (s.reg R.flow_PORT_A f) else s

theorem flowListed_state (f : Nat) : (s.flowListed f).reg R.flow_STATE f = 1 := reg_setReg_same s _ _ _

theorem flowUnlisted_state (f : Nat) : (s.flowUnlisted f).reg R.flow_STATE f = 0 := by
  unfold State.flowUnlisted
  dsimp only
  split
  · exact (reg_setReg_of_ref _ (by decide) _ _ _).trans (reg_setReg_same s _ _ _)
  · exact reg_setReg_same s _ _ _

theorem flowUnlisted_active (f : Nat) : (s.flowUnlisted f).streams.active = s.streams.active.filter fun g => g != f := by
  unfold State.flowUnlisted
  dsimp only
  split <;> rfl

/-- CONFIGURE of an OFF flow whose values are permitted and for which there is room. -/
theorem exec_configure {s : State} {w : Who} {f : Nat} (hw : s.mayWrite w R.flow_COMMAND f = true) (hv : s.configureValues f = true)
    (hs : s.reg R.flow_STATE f = 0) (hroom : s.configureFull f = false) : exec (.configure w f) s =
      .next (s.ran (((s.flowListed f).countEgress f).each ((s.flowListed f).flowPorts f) fun s p => s.reportGroups p [f]).ok) := by
  have hop := command_next s rfl (opConfigure w f)
  rwa [opConfigure, writeAs_of_mayWrite hw hv, if_neg (by simp [State.on, hs]), if_neg (by simp [hroom])] at hop

/-- UNCONFIGURE of a CONFIGURED flow. -/
theorem exec_unconfigure {s : State} {w : Who} {f : Nat} (hw : s.mayWrite w R.flow_COMMAND f = true) (hs : s.reg R.flow_STATE f = 1) :
    exec (.unconfigure w f) s = .next (s.ran ((s.flowUnlisted f).countEgress f).ok) := by
  have hop := command_next s rfl (opUnconfigure w f)
  rwa [opUnconfigure, writeAs_of_mayWrite hw rfl, if_neg (by simp [hs])] at hop

/-- Settles O9: each command by its equation above; lanes, counts and reports leave ENABLE, STATE and the list of flows alone. -/
theorem portsAndFlowsAreSwitched : Obligations.PortsAndFlowsAreSwitched := by
  unfold Obligations.PortsAndFlowsAreSwitched
  refine ⟨fun w p ty s hw hoff hty hls => ?starts, fun w p s hw hon => ?stops, fun w f s hw hv hs hroom => ?configures,
    fun w f s hw hs => ?unconfigures⟩
  case starts =>
    refine ⟨_, exec_portEnable_starts hw hoff hty hls, ?_, ran_reply s _⟩
    rw [ran_reg _ _ (by decide), State.ok, answer_reg,
      each_keeps (fun u => u.reg R.eth_ENABLE p) _ fun u l => laneStart_reg u (by decide) (by decide) l p, reg_setReg_same]
    rfl
  case stops =>
    obtain ⟨u, hu, hexec⟩ := exec_portEnable_stops hw hon
    obtain ⟨henable, hlink⟩ := portRefresh_disabled u hu
    refine ⟨_, hexec, ?_, ?_, ran_reply s _⟩
    · rw [ran_reg _ _ (by decide), State.ok, answer_reg, henable]
    · rw [ran_reg _ _ (by decide), State.ok, answer_reg, hlink]
  case configures =>
    refine ⟨_, exec_configure hw hv hs hroom, ?_, ?_, ran_reply s _⟩
    · rw [ran_reg _ _ (by decide), State.ok, answer_reg,
        each_keeps (fun u => u.reg R.flow_STATE f) _ fun u p => reportGroups_reg u (by decide) p [f] f, countEgress_reg _ (by decide),
        flowListed_state]
    · rw [ran_streams, State.ok, answer_streams, each_keeps (fun u => u.streams.active) _ fun u p => reportGroups_active u p [f],
        countEgress_streams]
      exact mem_insertNat_self f _
  case unconfigures =>
    refine ⟨_, exec_unconfigure hw hs, ?_, ?_, ran_reply s _⟩
    · rw [ran_reg _ _ (by decide), State.ok, answer_reg, countEgress_reg _ (by decide), flowUnlisted_state]
    · rw [ran_streams, State.ok, answer_streams, countEgress_streams, flowUnlisted_active]
      simp

end Sys2Proof.Machine
end

section
/-! Ethernet ingress: frames of a port, merge windows and legs (R127 to R142, R160). -/

namespace Sys2Proof.Machine

variable (s : State)

/-! ### Spoilt frames (R379) -/

theorem clearSpoilt_of_clean {p : Nat} (h : s.portSpoilt p = false) : s.clearSpoilt p = s := by
  have hnone : (s.portLanes p).filter (fun l => (s.laneRun l).spoilt) = [] := by
    rw [List.filter_eq_nil_iff]
    rwa [State.portSpoilt, List.any_eq_false] at h
  rw [State.clearSpoilt, hnone, each_nil]

theorem clearSpoilt_reg (p : Nat) (r : Reg) (j : Nat) : (s.clearSpoilt p).reg r j = s.reg r j :=
  each_keeps (fun u => u.reg r j) _ (fun u l => onLane_reg u l _ r j) s _

/-! ### What becomes of a frame (R127, R129, R160) -/

@[simp] theorem inc_ingressFill (r : Reg) (i q : Nat) : (s.inc r i).ingressFill q = s.ingressFill q := rfl

theorem exec_ethFrameReceive {p : Nat} (hp : p < 256) (t : Nat) (fr : EthFrame) (s : State) :
    exec (.ethFrameReceive t p fr) s = .next (s.ran (opEthFrameReceive t p fr s)) := command_next s (decide_eq_true hp) _

/-- A port that is DOWN receives nothing. -/
theorem ethFrameReceive_down {p : Nat} (h : s.reg R.eth_LINK p = 0) (t : Nat) (fr : EthFrame) :
    opEthFrameReceive t p fr s = s.advanceTo t := by
  simp [opEthFrameReceive, State.on, h]

/-- A frame in error, or of a length that is not permitted, is counted and goes no further. -/
theorem ethFrameReceive_bad {t p : Nat} {fr : EthFrame} (hl : s.reg R.eth_LINK p ≠ 0)
    (h : (s.advanceTo t).portSpoilt p = true ∨ fr.body = .fcsError ∨ s.reg R.eth_MAX_FRAME p < fr.length ∨ fr.length < 64) :
    opEthFrameReceive t p fr s = (((s.advanceTo t).clearSpoilt p).inc R.eth_RX_FRAMES p).inc R.eth_RX_FCS_ERRORS p := by
  unfold opEthFrameReceive
  dsimp only
  rw [if_neg (by simp [State.on, hl]), reg_inc_of_ref _ (by decide), clearSpoilt_reg, advanceTo_reg, if_pos h]

section
variable {s} {t p n : Nat} {body : EthPayload} (hl : s.reg R.eth_LINK p ≠ 0) (hclean : (s.advanceTo t).portSpoilt p = false)
  (hbody : body ≠ .fcsError) (hmax : n ≤ s.reg R.eth_MAX_FRAME p) (hmin : 64 ≤ n)
include hl hclean hbody hmax hmin

/-- A good frame that the ingress buffer cannot hold. -/
theorem ethFrameReceive_overflows (hfull : 524288 < (s.advanceTo t).ingressFill (p / 4) + n) : ∃ concerns : Nat → Bool,
    opEthFrameReceive t p ⟨n, body⟩ s =
      (((s.advanceTo t).inc R.eth_RX_FRAMES p).inc R.eth_FIFO_OVERFLOWS p).breach 0x2103 p concerns := by
  unfold opEthFrameReceive
  dsimp only
  rw [if_neg (by simp [State.on, hl]), clearSpoilt_of_clean _ hclean, reg_inc_of_ref _ (by decide), advanceTo_reg,
    if_neg (by simp [hclean, hbody, hmax, hmin]), inc_ingressFill, if_pos hfull]
  exact ⟨_, rfl⟩

/-- A good frame for which there is room enters the ingress buffer and is what its body says. -/
theorem ethFrameReceive_enters (hroom : (s.advanceTo t).ingressFill (p / 4) + n ≤ 524288) :
    opEthFrameReceive t p ⟨n, body⟩ s = (((s.advanceTo t).inc R.eth_RX_FRAMES p).ingressEnter (p / 4) n).ethBody p body := by
  unfold opEthFrameReceive
  dsimp only
  rw [if_neg (by simp [State.on, hl]), clearSpoilt_of_clean _ hclean, reg_inc_of_ref _ (by decide), advanceTo_reg,
    if_neg (by simp [hclean, hbody, hmax, hmin]), inc_ingressFill, if_neg (Nat.not_lt.mpr hroom)]

theorem exec_ethFrame_enters (hp : p < 256) {u : State} (hroom : (s.advanceTo t).ingressFill (p / 4) + n ≤ 524288)
    (hu : u = ((s.advanceTo t).inc R.eth_RX_FRAMES p).ingressEnter (p / 4) n) :
    exec (.ethFrameReceive t p ⟨n, body⟩) s = .next (s.ran (u.ethBody p body)) := by
  rw [exec_ethFrameReceive hp, ethFrameReceive_enters hl hclean hbody hmax hmin hroom, hu]

end

/-- A frame that has come in leaves every register but RX_FRAMES. -/
theorem entered_reg {r : Reg} (h : r.ref ≠ R.eth_RX_FRAMES.ref) (t p q n j : Nat) :
    (((s.advanceTo t).inc R.eth_RX_FRAMES p).ingressEnter q n).reg r j = s.reg r j :=
  (reg_inc_of_ref _ h p j).trans (advanceTo_reg s t r j)

/-! ### What a frame is (R129, R130) -/

theorem ethBody_matched {p f : Nat} {d : Datagram} (h : s.classify p d = some f) : s.ethBody p (.udp d) = s.ingest p f d := by
  simp only [State.ethBody, h]

theorem ethBody_unmatched {p : Nat} {d : Datagram} (h : s.classify p d = none) : s.ethBody p (.udp d) = s.inc R.eth_RX_UNMATCHED p := by
  simp only [State.ethBody, h]

theorem ethBody_arp (p mac ip : Nat) : s.ethBody p (.arpRequest (s.reg R.eth_IPV4 p) mac ip) =
    s.sendControl p (.arpReply (s.reg R.eth_MAC_ADDR p) (s.reg R.eth_IPV4 p) mac ip) := if_pos rfl

/-! ### Video (R136 to R144) -/

/-- A good packet of a BOUND unpaired KIND 0 flow whose timestamp names a frame with an open version. -/
theorem ingest_video {p f m : Nat} {k : Bool} {d : Datagram} {b : BufferRec} (hpaired : s.reg R.flow_PAIRED f = 0)
    (hbound : s.reg R.flow_STATE f = 2) (hkind : s.reg R.flow_KIND f = 0) (hbad : s.badRtp f d = false)
    (hstamp : s.frameOfStamp (s.graph (s.flowRun f).slot).cad d.timestamp (s.regI R.flow_RTP_OFFSET f) = (some m, k))
    (hopen : s.openBuffer f m = some b) : s.ingest p f d = s.ingestVideo f m 0 b d := by
  have hleg : s.legged f = false := by simp [State.legged, State.on, hpaired]
  simp [State.ingest, State.on, hpaired, hleg, hbound, hkind, hbad, hstamp, hopen]

/-- A new number whose rows all lie in the picture counts in PACKETS. -/
theorem ingestVideo_packets {f n leg : Nat} {b : BufferRec} {d : Datagram} {l : List (Nat × Nat × Nat)}
    (hpos : (s.flowRun f).position (d.extSeq % 65536 * 65536 + d.seq % 65536) = .first ∨
      (s.flowRun f).position (d.extSeq % 65536 * 65536 + d.seq % 65536) = .above ∨
      (s.flowRun f).position (d.extSeq % 65536 * 65536 + d.seq % 65536) = .fill) (hplaced : placeRows b d.srds = some l) :
    (s.ingestVideo f n leg b d).reg R.flow_PACKETS f = (s.reg R.flow_PACKETS f + 1) % 2 ^ 64 := by
  have hstored : ∀ (u : State) (last : Bool), u.reg R.flow_PACKETS f = s.reg R.flow_PACKETS f →
      (let v := ((u.inc R.flow_PACKETS f).writePlaced f n b l d.payload).finishPicture f n b
        if last then v.lastArrived f n leg else v.evaluate f n).reg R.flow_PACKETS f = (s.reg R.flow_PACKETS f + 1) % 2 ^ 64 :=
    fun u last hu => by
      have hv := (storedPicture_packets (u.inc R.flow_PACKETS f) f n b l d.payload f).trans (reg_inc_same u R.flow_PACKETS f)
      rw [hu] at hv
      dsimp only
      split
      · rw [lastArrived_reg _ (by decide), hv]
      · rw [evaluate_reg _ (by decide), hv]
  unfold State.ingestVideo
  dsimp only
  rcases hpos with h | h | h <;> rw [h, hplaced] <;> exact hstored _ _ rfl

/-! ### Merge windows and legs (R139, R142) -/

/-- MERGE_WINDOW after the first last packet of an open version. -/
theorem exec_mergeWindowExpiry_due {t f n : Nat} {v : InFrame} {m : Nat × Nat} {ms : List (Nat × Nat)} {s : State} (hf : f < 262144)
    (hv : s.inFrame? f n = some v) (hm : v.markers = m :: ms) (hopen : v.closed = none)
    (hdue : (ms.map Prod.snd).foldl min m.2 + s.reg R.flow_MERGE_WINDOW f * 1000 ≤ (s.advanceTo t).now) :
    exec (.mergeWindowExpiry t f n) s = .next (s.ran
      (((s.advanceTo t).onInFrame f n fun v => { v with closed := some (s.advanceTo t).now }).evaluate f n)) := by
  have hop : opMergeWindowExpiry t f n s =
      ((s.advanceTo t).onInFrame f n fun v => { v with closed := some (s.advanceTo t).now }).evaluate f n := by
    simp [opMergeWindowExpiry, hv, hm, hopen, hdue]
  exact hop ▸ command_next s (decide_eq_true hf) (opMergeWindowExpiry t f n)

/-- An incomplete version that is closed now stays, closed. -/
theorem closed_inFrame? {f n t : Nat} {v : InFrame} (hv : s.inFrame? f n = some v) (hc : v.complete = false) :
    ((s.onInFrame f n fun v => { v with closed := some t }).evaluate f n).inFrame? f n = some { v with closed := some t } := by
  have hclosed : (s.onInFrame f n fun v => { v with closed := some t }).inFrame? f n = some { v with closed := some t } := by
    rw [inFrame?_onInFrame, hv]
    · rfl
    · exact fun _ => rfl
  rw [evaluate_incomplete _ hclosed rfl hc, inFrame?_onInFrame, hclosed]
  · rfl
  · exact fun _ => rfl

theorem inFrame?_of_streams {s u : State} (h : u.streams = s.streams) (f n : Nat) : u.inFrame? f n = s.inFrame? f n := by
  simp only [State.inFrame?, State.flowRun, h]

/-- LEG_TIMEOUT without a packet of the flow on a leg. -/
theorem exec_legTimeout_due {t f leg : Nat} {s : State} (hf : f < 262144) (hleg : leg < 2) (hlegged : s.legged f = true)
    (hdue : ((s.flowRun f).legSeen.any fun p =>
      p.1 == leg && decide (p.2 + s.reg R.flow_LEG_TIMEOUT f * 1000000 ≤ (s.advanceTo t).now)) = true) :
    exec (.legTimeout t f leg) s = .next (s.ran ((s.advanceTo t).legDown f leg)) := by
  have hop : opLegTimeout t f leg s = (s.advanceTo t).legDown f leg := by
    unfold opLegTimeout
    dsimp only
    rw [if_pos]
    rw [advanceTo_legged, hlegged, advanceTo_flowRun, advanceTo_reg, hdue]
    rfl
  exact hop ▸ command_next s (by simp [hf, hleg]) (opLegTimeout t f leg)

/-- Settles O10: the frames by what becomes of each, PACKETS by what storing a packet leaves alone, the closes and legs by their equations. -/
theorem portsReceiveFrames : Obligations.PortsReceiveFrames := by
  unfold Obligations.PortsReceiveFrames
  refine ⟨fun t p fr s hp hl h => ?bad, fun t p fr s hp hl hclean hbody hmax hmin hfull => ?overflow,
    fun t p f n d u s hp hl hclean hmax hmin hroom hu hmatch => ?matched,
    fun t p f n m k d b l u s hp hl hclean hmax hmin hroom hu hmatch hpaired hbound hkind hbad hopen hstamp hpos hplaced => ?counted,
    fun t p n d u s hp hl hclean hmax hmin hroom hu hmatch => ?unmatched,
    fun t p n target mac ip u s hp hl hclean hmax hmin hroom hu htarget => ?arp, fun t p fr s hp hl => ?down,
    fun t f n v m ms s hf hv hm hopen hc hdue => ?closes, fun t f n v m ms s => exec_mergeWindowExpiry_due,
    fun t f leg s hf hleg hlegged hup hdue => ?legDown⟩
  case bad => rw [exec_ethFrameReceive hp, ethFrameReceive_bad s hl h]
  case overflow =>
    obtain ⟨n, body⟩ := fr
    obtain ⟨concerns, hop⟩ := ethFrameReceive_overflows hl hclean hbody hmax hmin hfull
    have hreg : ∀ r : Reg, r.own → (s.ran (opEthFrameReceive t p ⟨n, body⟩ s)).reg r p =
        (((s.advanceTo t).inc R.eth_RX_FRAMES p).inc R.eth_FIFO_OVERFLOWS p).reg r p := fun r hr => by
      rw [ran_reg _ _ hr, hop]
      exact raise_reg _ hr.notRaise _ _ _
    refine ⟨_, exec_ethFrameReceive hp t _ s, ?_, ?_, ?_⟩
    · rw [hreg _ (by decide), reg_inc_same, reg_inc_of_ref _ (by decide), advanceTo_reg]
    · rw [hreg _ (by decide), reg_inc_of_ref _ (by decide), reg_inc_same, advanceTo_reg]
    · rw [ran_streams, hop]
      exact (raise_streams _ _ _).trans (advanceTo_streams s t)
  case matched => rw [exec_ethFrame_enters hl hclean (by simp) hmax hmin hp hroom hu, ethBody_matched u hmatch]
  case counted =>
    have hreg : ∀ r : Reg, r.ref ≠ R.eth_RX_FRAMES.ref → u.reg r f = s.reg r f := fun r hr => by rw [hu, entered_reg s hr]
    refine ⟨_, exec_ethFrame_enters hl hclean (by simp) hmax hmin hp hroom hu, ?_⟩
    rw [ran_reg _ _ (by decide), ethBody_matched u hmatch,
      ingest_video u ((hreg _ (by decide)).trans hpaired) ((hreg _ (by decide)).trans hbound) ((hreg _ (by decide)).trans hkind) hbad hstamp
        hopen, ingestVideo_packets u hpos hplaced, hreg _ (by decide)]
  case unmatched => rw [exec_ethFrame_enters hl hclean (by simp) hmax hmin hp hroom hu, ethBody_unmatched u hmatch]
  case arp =>
    have hip : u.reg R.eth_IPV4 p = s.reg R.eth_IPV4 p := by rw [hu, entered_reg s (by decide)]
    have hmac : u.reg R.eth_MAC_ADDR p = s.reg R.eth_MAC_ADDR p := by rw [hu, entered_reg s (by decide)]
    rw [exec_ethFrame_enters hl hclean (by simp) hmax hmin hp hroom hu, htarget, ← hip, ← hmac, ethBody_arp]
  case down => rw [exec_ethFrameReceive hp, ethFrameReceive_down s hl]
  case closes =>
    refine ⟨_, exec_mergeWindowExpiry_due hf hv hm hopen hdue, ?_⟩
    rw [inFrame?_of_streams (ran_streams s _), closed_inFrame? _ ((advanceTo_inFrame? s t f n).trans hv) hc]
  case legDown =>
    refine ⟨_, exec_legTimeout_due hf hleg hlegged hdue, ?_, rfl⟩
    rw [ran_reg _ _ (by decide), legDown_legState _ (by rw [advanceTo_reg, hup]), advanceTo_reg]

end Sys2Proof.Machine
end

section
/-! SDI ingress: frames and lines of a lane (R144, R147 to R150). -/

namespace Sys2Proof.Machine

variable (s : State)

/-! ### What a lane receives -/

@[simp] theorem sdiIn_onSdi_same (l : Nat) (u : SdiIn → SdiIn) : (s.onSdi l u).sdiIn l = u (s.sdiIn l) := tget_tput_same _ _ _ _

@[simp] theorem onSdi_reg (l : Nat) (u : SdiIn → SdiIn) (r : Reg) (j : Nat) : (s.onSdi l u).reg r j = s.reg r j := rfl

theorem sdiIn_of_streams {s u : State} (h : u.streams = s.streams) (l : Nat) : u.sdiIn l = s.sdiIn l := by simp only [State.sdiIn, h]

theorem sdiMode_of_lane {l t : Nat} (h : s.reg R.lane_MODE l = 2) : (s.advanceTo t).sdiMode l = true := by simp [State.sdiMode, h]

theorem exec_sdiFrameBegin {l : Nat} (hl : l < 256) (t : Nat) (s : State) :
    exec (.sdiFrameBegin t l) s = .next (s.ran (opSdiFrameBegin t l s)) := command_next s (decide_eq_true hl) _

theorem exec_sdiLineReceive {l : Nat} (hl : l < 256) (t : Nat) (x : SdiLine) (s : State) :
    exec (.sdiLineReceive t l x) s = .next (s.ran (opSdiLineReceive t l x s)) := command_next s (decide_eq_true hl) _

/-- A lane in another mode receives no frame and no line. -/
theorem sdi_otherMode {l : Nat} (h : s.reg R.lane_MODE l ≠ 2) (t : Nat) (x : SdiLine) :
    opSdiLineReceive t l x s = s.advanceTo t ∧ opSdiFrameBegin t l s = s.advanceTo t := by
  have hmode : (s.advanceTo t).sdiMode l = false := by simp [State.sdiMode, h]
  exact ⟨by simp [opSdiLineReceive, hmode], by simp [opSdiFrameBegin, hmode]⟩

/-! ### Frames (R148) -/

/-- A frame begins: of what the lane received before, only the interval of its last kept frame counts. -/
def State.sdiBegun (s : State) (l : Nat) : State := s.onSdi l fun r => { began := r.began }

section
variable {s} {t l f n : Nat} (hmode : s.reg R.lane_MODE l = 2) (hflow : s.sdiFlow l 0 = some f) (hbound : s.reg R.flow_STATE f = 2)
  (hn : n = (s.advanceTo t).frameAt (s.graph (s.flowRun f).slot).cad (s.advanceTo t).now)
include hmode hflow hbound hn

theorem sdiFrameBegin_eq : opSdiFrameBegin t l s =
    if (s.sdiIn l).began = some n then (((s.advanceTo t).sdiBegun l).inc R.sdi_FRAMES_DROPPED l).raise 0x2303 l
    else ((s.advanceTo t).sdiBegun l).onSdi l fun r =>
      { r with frame := if (s.inFrame? f n).isSome then some n else none, began := some n } := by
  have hflow' : ((s.advanceTo t).sdiBegun l).sdiFlow l 0 = some f := (advanceTo_sdiFlow s t l 0).trans hflow
  have hbound' : ((s.advanceTo t).sdiBegun l).reg R.flow_STATE f = 2 := (advanceTo_reg s t _ f).trans hbound
  have hn' : ((s.advanceTo t).sdiBegun l).frameAt
      (((s.advanceTo t).sdiBegun l).graph (((s.advanceTo t).sdiBegun l).flowRun f).slot).cad ((s.advanceTo t).sdiBegun l).now = n := by
    rw [hn, ← advanceTo_graph s t, ← advanceTo_flowRun s t]
    rfl
  have hbegan : (((s.advanceTo t).sdiBegun l).sdiIn l).began = (s.sdiIn l).began := by
    rw [State.sdiBegun, sdiIn_onSdi_same, advanceTo_sdiIn]
  have hversion : ((s.advanceTo t).sdiBegun l).inFrame? f n = s.inFrame? f n := advanceTo_inFrame? s t f n
  unfold opSdiFrameBegin
  dsimp only
  rw [if_neg (by simp [sdiMode_of_lane s hmode]), ← State.sdiBegun]
  simp only [hflow', hbound', hn', hbegan, hversion, ne_eq, not_true_eq_false, if_false]

/-- The first frame of an interval is kept when the version of its frame is open. -/
theorem sdiFrameBegin_first (hfirst : (s.sdiIn l).began ≠ some n) : (opSdiFrameBegin t l s).sdiIn l =
      { began := some n, frame := if (s.inFrame? f n).isSome then some n else none } ∧
    (opSdiFrameBegin t l s).reg R.sdi_FRAMES_DROPPED l = s.reg R.sdi_FRAMES_DROPPED l := by
  rw [sdiFrameBegin_eq hmode hflow hbound hn, if_neg hfirst, State.sdiBegun, sdiIn_onSdi_same, sdiIn_onSdi_same, onSdi_reg, onSdi_reg,
    advanceTo_reg]
  exact ⟨rfl, rfl⟩

/-- Another one is dropped. -/
theorem sdiFrameBegin_second (hsecond : (s.sdiIn l).began = some n) : ((opSdiFrameBegin t l s).sdiIn l).frame = none ∧
    (opSdiFrameBegin t l s).reg R.sdi_FRAMES_DROPPED l = (s.reg R.sdi_FRAMES_DROPPED l + 1) % 2 ^ 32 := by
  rw [sdiFrameBegin_eq hmode hflow hbound hn, if_pos hsecond, sdiIn_of_streams (raise_streams _ _ _), raise_reg _ (by decide),
    sdiIn_of_streams (inc_streams _ _ _), reg_inc_same, State.sdiBegun, sdiIn_onSdi_same, onSdi_reg, advanceTo_reg]
  exact ⟨rfl, rfl⟩

end

/-! ### Identifiers and CRCs of lines (R149, R150) -/

theorem sdiIdBad_reg {r : Reg} (h : r.ref ∉ raiseRefs) (l j : Nat) : (s.sdiIdBad l).reg r j = s.reg r j := by
  unfold State.sdiIdBad
  split
  · rfl
  · exact raise_reg _ h _ _ j

theorem sdiIdBad_frame (l : Nat) : ((s.sdiIdBad l).sdiIn l).frame = (s.sdiIn l).frame := by
  unfold State.sdiIdBad
  split
  · rfl
  · rw [sdiIn_of_streams (raise_streams _ _ _), sdiIn_onSdi_same]

/-- The identifier of a line: PAYLOAD_ID, the frame as it was, and the registers of neither. -/
theorem sdiIdent_effect (l : Nat) (id : Option Nat) :
    (s.sdiIdent l id).reg R.sdi_PAYLOAD_ID l = (id.map fun v => v % 2 ^ 32).getD (s.reg R.sdi_PAYLOAD_ID l) ∧
      (s.sdiIdent l id).reg R.sdi_CRC_ERRORS l = s.reg R.sdi_CRC_ERRORS l ∧ ((s.sdiIdent l id).sdiIn l).frame = (s.sdiIn l).frame := by
  cases id with
  | none => exact ⟨rfl, rfl, rfl⟩
  | some v =>
    have hframe : (((s.setReg R.sdi_PAYLOAD_ID l v).onSdi l fun r => { r with idSeen := true }).sdiIn l).frame = (s.sdiIn l).frame := by
      rw [sdiIn_onSdi_same]
      rfl
    have hcrc : (s.setReg R.sdi_PAYLOAD_ID l v).reg R.sdi_CRC_ERRORS l = s.reg R.sdi_CRC_ERRORS l := reg_setReg_of_ref s (by decide) _ _ _
    simp only [State.sdiIdent, Option.map_some, Option.getD_some]
    split
    · rw [sdiIdBad_reg _ (by decide), sdiIdBad_reg _ (by decide), sdiIdBad_frame, hframe, onSdi_reg, onSdi_reg, reg_setReg_same, hcrc]
      exact ⟨rfl, rfl, rfl⟩
    · rw [hframe, onSdi_reg, onSdi_reg, reg_setReg_same, hcrc]
      exact ⟨rfl, rfl, rfl⟩

/-- The CRC of a line: CRC_ERRORS counts one that failed, and the frame is as it was. -/
theorem sdiCrc_effect (l : Nat) (ok : Bool) :
    (s.sdiCrc l ok).reg R.sdi_PAYLOAD_ID l = s.reg R.sdi_PAYLOAD_ID l ∧
      (s.sdiCrc l ok).reg R.sdi_CRC_ERRORS l = (if ok then s.reg R.sdi_CRC_ERRORS l else (s.reg R.sdi_CRC_ERRORS l + 1) % 2 ^ 32) ∧
      ((s.sdiCrc l ok).sdiIn l).frame = (s.sdiIn l).frame := by
  cases ok with
  | true => exact ⟨rfl, rfl, rfl⟩
  | false =>
    have hid : (s.inc R.sdi_CRC_ERRORS l).reg R.sdi_PAYLOAD_ID l = s.reg R.sdi_PAYLOAD_ID l := reg_inc_of_ref s (by decide) _ _
    simp only [State.sdiCrc, Bool.false_eq_true, if_false]
    split
    · exact ⟨hid, reg_inc_same s _ _, rfl⟩
    · rw [raise_reg _ (by decide), raise_reg _ (by decide), onSdi_reg, onSdi_reg, hid, reg_inc_same, sdiIn_of_streams (raise_streams _ _ _),
        sdiIn_onSdi_same]
      exact ⟨rfl, rfl, rfl⟩

/-- The last active line of a frame that is not kept closes nothing. -/
theorem sdiFrameEnd_reg {l : Nat} (hnone : (s.sdiIn l).frame = none) {r : Reg} (h : r.ref ∉ raiseRefs) (j : Nat) :
    (s.sdiFrameEnd l).reg r j = s.reg r j := by
  have hu : ∀ c : Bool, ((if c then s.sdiIdBad l else s).sdiIn l).frame = none ∧ (if c then s.sdiIdBad l else s).reg r j = s.reg r j
    | true => ⟨(sdiIdBad_frame s l).trans hnone, sdiIdBad_reg s h l j⟩
    | false => ⟨hnone, rfl⟩
  obtain ⟨hframe, hreg⟩ := hu (s.on R.sdi_PAYLOAD_ID_EXPECT l && !(s.sdiIn l).idSeen)
  unfold State.sdiFrameEnd
  dsimp only
  rw [sdiIn_onSdi_same, hframe]
  cases ((if s.on R.sdi_PAYLOAD_ID_EXPECT l && !(s.sdiIn l).idSeen then s.sdiIdBad l else s).onSdi l _).sdiFlow l 0 <;> exact hreg

/-! ### Lines (R144, R149) -/

/-- A lane's state once the identifier and the CRC of a line have been looked at. -/
def State.sdiChecked (s : State) (l : Nat) (x : SdiLine) : State := (s.sdiIdent l x.payloadId).sdiCrc l x.crcOk

theorem sdiChecked_effect (l : Nat) (x : SdiLine) :
    (s.sdiChecked l x).reg R.sdi_PAYLOAD_ID l = (x.payloadId.map fun v => v % 2 ^ 32).getD (s.reg R.sdi_PAYLOAD_ID l) ∧
      (s.sdiChecked l x).reg R.sdi_CRC_ERRORS l =
        (if x.crcOk then s.reg R.sdi_CRC_ERRORS l else (s.reg R.sdi_CRC_ERRORS l + 1) % 2 ^ 32) ∧
      ((s.sdiChecked l x).sdiIn l).frame = (s.sdiIn l).frame := by
  obtain ⟨hid, hidCrc, hidFrame⟩ := sdiIdent_effect s l x.payloadId
  obtain ⟨hcrcId, hcrc, hcrcFrame⟩ := sdiCrc_effect (s.sdiIdent l x.payloadId) l x.crcOk
  exact ⟨hcrcId.trans hid, hidCrc ▸ hcrc, hcrcFrame.trans hidFrame⟩

/-- A line outside a kept frame is looked at, and may end the frame. -/
theorem sdiLineReceive_unkept {t l : Nat} {x : SdiLine} (hmode : s.reg R.lane_MODE l = 2) (hnone : (s.sdiIn l).frame = none) :
    opSdiLineReceive t l x s =
      if x.lastActive then ((s.advanceTo t).sdiChecked l x).sdiFrameEnd l else (s.advanceTo t).sdiChecked l x := by
  obtain ⟨-, -, hframe⟩ := sdiChecked_effect (s.advanceTo t) l x
  rw [advanceTo_sdiIn, hnone] at hframe
  unfold opSdiLineReceive
  dsimp only
  rw [if_neg (by simp [sdiMode_of_lane s hmode]), ← State.sdiChecked, hframe]
  cases ((s.advanceTo t).sdiChecked l x).sdiFlow l 0 <;> rfl

/-- A line outside a kept frame updates PAYLOAD_ID and CRC_ERRORS. -/
theorem sdiLineReceive_unkept_reads {t l : Nat} {x : SdiLine} (hmode : s.reg R.lane_MODE l = 2) (hnone : (s.sdiIn l).frame = none) :
    (opSdiLineReceive t l x s).reg R.sdi_PAYLOAD_ID l = (x.payloadId.map fun v => v % 2 ^ 32).getD (s.reg R.sdi_PAYLOAD_ID l) ∧
      (opSdiLineReceive t l x s).reg R.sdi_CRC_ERRORS l =
        if x.crcOk then s.reg R.sdi_CRC_ERRORS l else (s.reg R.sdi_CRC_ERRORS l + 1) % 2 ^ 32 := by
  obtain ⟨hid, hcrc, hframe⟩ := sdiChecked_effect (s.advanceTo t) l x
  rw [advanceTo_reg] at hid hcrc
  rw [advanceTo_sdiIn, hnone] at hframe
  rw [sdiLineReceive_unkept s hmode hnone]
  split
  · exact ⟨(sdiFrameEnd_reg _ hframe (by decide) l).trans hid, (sdiFrameEnd_reg _ hframe (by decide) l).trans hcrc⟩
  · exact ⟨hid, hcrc⟩

/-- A line of a kept picture, in its place. -/
theorem sdiLineReceive_kept {t l f n k : Nat} {data : List Byte} {b : BufferRec} {p : Nat × Nat × Nat} (hmode : s.reg R.lane_MODE l = 2)
    (hflow : s.sdiFlow l 0 = some f) (hkept : (s.sdiIn l).frame = some n) (hopen : s.openBuffer f n = some b)
    (hplaced : placeRow b ⟨k, 0, data.length, false⟩ = some p) :
    opSdiLineReceive t l { line := some k, lastActive := false, crcOk := true, payloadId := none, data := data, anc := [] } s =
      (((s.advanceTo t).writePlaced f n b [p] data).inc R.flow_PACKETS f).finishPicture f n b := by
  simp [opSdiLineReceive, sdiMode_of_lane s hmode, State.sdiIdent, State.sdiCrc, hflow, hkept, State.sdiAncLine, ancSplit, State.sdiPixels,
    hopen, hplaced]

/-- Settles O11: the frames by what begins them, a line by its identifier, its CRC and the place of its pixels. -/
theorem sdiLanesReceive : Obligations.SdiLanesReceive := by
  unfold Obligations.SdiLanesReceive
  refine ⟨fun t l f n s hl hmode hflow hbound hn hfirst => ?first, fun t l f n s hl hmode hflow hbound hn hsecond => ?second,
    fun t l x s hl hmode hnone => ?unkept, fun t l f n k data b p s hl hmode hflow hkept hopen hplaced => ?kept,
    fun t l x s hl hmode => ?other⟩
  case first =>
    obtain ⟨hin, hdropped⟩ := sdiFrameBegin_first hmode hflow hbound hn hfirst
    refine ⟨_, exec_sdiFrameBegin hl t s, ?_, ?_, ?_⟩
    · rw [sdiIn_of_streams (ran_streams s _), hin]
    · rw [sdiIn_of_streams (ran_streams s _), hin]
    · rw [ran_reg _ _ (by decide), hdropped]
  case second =>
    obtain ⟨hframe, hdropped⟩ := sdiFrameBegin_second hmode hflow hbound hn hsecond
    refine ⟨_, exec_sdiFrameBegin hl t s, ?_, ?_⟩
    · rw [sdiIn_of_streams (ran_streams s _), hframe]
    · rw [ran_reg _ _ (by decide), hdropped]
  case unkept =>
    obtain ⟨hid, hcrc⟩ := sdiLineReceive_unkept_reads s (t := t) (x := x) hmode hnone
    refine ⟨_, exec_sdiLineReceive hl t x s, ?_, ?_⟩
    · rw [ran_reg _ _ (by decide), hid]
    · rw [ran_reg _ _ (by decide), hcrc]
  case kept =>
    have hop := sdiLineReceive_kept s (t := t) hmode hflow hkept hopen hplaced
    refine ⟨_, exec_sdiLineReceive hl t _ s, ?_, by rw [hop]⟩
    rw [ran_reg _ _ (by decide), hop, finishPicture_reg _ (by decide), reg_inc_same, writePlaced_reg _ (by decide), advanceTo_reg]
  case other =>
    obtain ⟨hline, hbegin⟩ := sdi_otherMode s hmode t x
    rw [exec_sdiLineReceive hl, exec_sdiFrameBegin hl, hline, hbegin]
    exact ⟨rfl, rfl⟩

end Sys2Proof.Machine
end

section
/-! Egress: a launch in time counts no lateness (R151). -/

namespace Sys2Proof.Machine

/-! ### A register that holds more than its width -/

/-- A SINK operation of BOUND egress flow 7 has started on a picture without rows, to be launched as soon as it can be (ALIGN_OFS = 0). The register
file lists LATE_LAUNCH of the flow with 2^32, which no write leaves in its 32 bits. -/
def overfullLaunch : State :=
  { State.reset with
    regs := State.reset.regs ++ [(regKey R.flow_STATE.ref 7, 2), (regKey R.flow_DIR.ref 7, 1), (regKey R.flow_LATE_LAUNCH.ref 7, 2 ^ 32)]
    sched := { ops := [⟨0, 2, .active, false, 608, 0, 0, 9, 0, 0, false⟩],
               graphs := [(0, { bufs := [⟨0, 1, 0, false, 1, true, 0, 0, 0, 0, 0, 0⟩],
                                nodes := [⟨0, 2, 0, 0, 7, 0, 0, 0, 0, 0, 0, 1, 0, 0, 0⟩],
                                edges := [⟨0, false, 0, 0, 0, 0, 0, 0, 0, 0⟩] })] } }

/-- The operation that flow 7 launches, and the picture that it reads. -/
def overfullSink : Oper × BufferRec := (⟨0, 2, .active, false, 608, 0, 0, 9, 0, 0, false⟩, ⟨0, 1, 0, false, 1, true, 0, 0, 0, 0, 0, 0⟩)

/-- The flow is BOUND for egress, not SDI and no peer, and launches at once. -/
theorem overfullLaunch_mayLaunch : overfullLaunch.reg R.flow_STATE 7 = 2 ∧ overfullLaunch.reg R.flow_DIR 7 = 1 ∧
    overfullLaunch.reg R.flow_KIND 7 ≠ 4 ∧ overfullLaunch.isPeer 7 = false ∧
    (overfullLaunch.advanceTo 0).launchable 7 = some overfullSink ∧ overfullLaunch.reg R.flow_ALIGN_OFS 7 = 0 := by decide +kernel

/-- The launch is not late, so LATE_LAUNCH is as it was. -/
theorem overfullLaunch_lateLaunch : (opEgressLaunch 0 7 overfullLaunch).reg R.flow_LATE_LAUNCH 7 = 2 ^ 32 := by decide +kernel

theorem exec_egressLaunch {f : Nat} (hf : f < 262144) (t : Nat) (s : State) :
    exec (.egressLaunch t f) s = .next (s.ran (opEgressLaunch t f s)) := command_next s (decide_eq_true hf) _

/-- Refutes O12: its first clause takes LATE_LAUNCH modulo 2^32 after a launch that is not late too, where nothing is counted; a state that lists the
register with 2^32 keeps that value, and the statement's is 0. -/
theorem not_egressTakesEffect : ¬ Obligations.EgressTakesEffect := by
  unfold Obligations.EgressTakesEffect
  rintro ⟨hlaunch, -⟩
  obtain ⟨hstate, hdir, hkind, hpeer, hnext, hofs⟩ := overfullLaunch_mayLaunch
  obtain ⟨u, hexec, -, hlate, -⟩ :=
    hlaunch 0 7 overfullSink.1 overfullSink.2 overfullLaunch (by decide) hstate hdir hkind hpeer hnext (.inl hofs)
  rw [exec_egressLaunch (by decide)] at hexec
  injection hexec with hu
  rw [← hu, ran_reg _ _ (by decide), overfullLaunch_lateLaunch] at hlate
  have hmod : (2 ^ 32 : Nat) < 2 ^ 32 := Nat.lt_of_le_of_lt (Nat.le_of_eq hlate) (Nat.mod_lt _ (by decide))
  exact Nat.lt_irrefl _ hmod

end Sys2Proof.Machine
end

section
/-! Retraining windows, sweeps and DEGRADED PCs (R210 to R214). -/

namespace Sys2Proof.Machine

/-! ### A PC controller, and the passing of time -/

section
variable (s : State)

/-- A changed controller is what the change makes of it. -/
@[simp] theorem onPc_pcState_same (n : Nat) (f : PcState → PcState) : (s.onPc n f).pcState n = f (s.pcState n) :=
  tget_tput_same _ _ _ _

theorem pcState_of_store {s u : State} (h : u.store = s.store) (n : Nat) : u.pcState n = s.pcState n := by simp only [State.pcState, h]

@[simp] theorem setReg_pcState (r : Reg) (i v n : Nat) : (s.setReg r i v).pcState n = s.pcState n := rfl
@[simp] theorem inc_pcState (r : Reg) (i n : Nat) : (s.inc r i).pcState n = s.pcState n := rfl
@[simp] theorem raise_pcState (c d n : Nat) : (s.raise c d).pcState n = s.pcState n := pcState_of_store (raise_store s c d) n
@[simp] theorem advanceTo_pcState (t n : Nat) : (s.advanceTo t).pcState n = s.pcState n := pcState_of_store (advanceTo_store s t) n
@[simp] theorem ran_pcState (u : State) (n : Nat) : (s.ran u).pcState n = u.pcState n := pcState_of_store (ran_store s u) n

@[simp] theorem waitUntil_reg (t : Nat) (r : Reg) (i : Nat) : (s.waitUntil t).reg r i = s.reg r i := advanceTo_reg s _ r i
@[simp] theorem waitUntil_store (t : Nat) : (s.waitUntil t).store = s.store := advanceTo_store s _
@[simp] theorem waitUntil_scratch (t : Nat) : (s.waitUntil t).scratch = s.scratch := advanceTo_scratch s _
@[simp] theorem waitUntil_pcState (t n : Nat) : (s.waitUntil t).pcState n = s.pcState n := advanceTo_pcState s _ n

/-- Island time waits for an instant that has not come. -/
theorem waitUntil_mono (t : Nat) : (s.waitUntil t).mono = max s.mono t := by
  unfold State.waitUntil State.advanceTo
  split <;> dsimp only <;> omega

end

/-! ### The commands -/

theorem exec_retrainWindow {n : Nat} (h : n < 128) (pass : Nat) (s : State) :
    exec (.retrainWindow n pass) s = .next (s.ran (opRetrainWindow n pass s)) := command_next s (decide_eq_true h) _
theorem exec_sweepEnd {n : Nat} (h : n < 128) (s : State) : exec (.sweepEnd n) s = .next (s.ran (opSweepEnd n s)) :=
  command_next s (decide_eq_true h) _
theorem exec_sweepRetry {n : Nat} (h : n < 128) (s : State) : exec (.sweepRetry n) s = .next (s.ran (opSweepRetry n s)) :=
  command_next s (decide_eq_true h) _
theorem exec_degradedIntervalEnd {n : Nat} (h : n < 128) (t : Nat) (s : State) :
    exec (.degradedIntervalEnd t n) s = .next (s.ran (opDegradedIntervalEnd t n s)) := command_next s (decide_eq_true h) _

/-! ### A retraining window (R210, R212) -/

/-- What the window numbered `k` makes of a sweeping controller at a rate: the settings last chosen apply, and one candidate is tested. -/
def PcState.retrained (p : PcState) (k rate pass : Nat) : PcState :=
  { p with windows := k + 1, chosen := none, cand := p.cand + 1,
           settings := match p.chosen with
             | some c => upd p.settings rate fun _ => c
             | none => p.settings,
           passes := p.passes.zipIdx.map fun q => putBit q.1 p.cand (pass.testBit q.2) }

/-- A PC that sweeps, on a stack that issues commands, opens its next window at the window's instant. -/
theorem retrainWindow_sweeps {s : State} {n : Nat} (pass : Nat) (hstate : s.reg R.pc_STATE n < 2) (hchanging : s.reg R.stk_CHANGING (n / 32) = 0)
    (hruns : s.storeRuns = true) (hsweep : (s.pcState n).sweeping = true) (hcand : (s.pcState n).cand < 64) :
    opRetrainWindow n pass s = (s.waitStore (windowOffset n + 51200 * s.nextWindow n)).onPc n fun p =>
      p.retrained (s.nextWindow n) (s.reg R.stk_RATE (n / 32)) pass := by
  have hfree : (decide (2 ≤ s.reg R.pc_STATE n) || s.changeHolds (n / 32) || !s.storeRuns) = false := by
    simp [hstate, State.changeHolds, State.on, hchanging, hruns]
  unfold opRetrainWindow
  rw [hfree]
  simp only [State.onPc, State.waitStore, waitUntil_pcState, waitUntil_reg, PcState.retrained]
  cases hchosen : (s.pcState n).chosen <;> simp [hsweep, hcand]

/-! ### A sweep ends (R212, R213) -/

/-- A DEGRADED PC is NORMAL again. -/
def State.recoverPc (s : State) (n : Nat) : State :=
  if s.reg R.pc_STATE n = 1 then (s.setReg R.pc_STATE n 0).raise 0x3002 n else s

section
variable (s : State) (n : Nat)

@[simp] theorem recoverPc_pcState : (s.recoverPc n).pcState n = s.pcState n := by
  unfold State.recoverPc
  split <;> simp

/-- A PC that serves is NORMAL after the recovery. -/
theorem recoverPc_state (h : s.reg R.pc_STATE n < 2) : (s.recoverPc n).reg R.pc_STATE n = 0 := by
  unfold State.recoverPc
  split
  · rw [raise_reg _ (by decide), reg_setReg_same, Nat.zero_mod]
  · omega

theorem recoverPc_reg {r : Reg} (h : r.own) (hr : r.ref ≠ R.pc_STATE.ref) (j : Nat) : (s.recoverPc n).reg r j = s.reg r j := by
  unfold State.recoverPc
  split
  · rw [raise_reg _ h.notRaise, reg_setReg_of_ref _ hr]
  · rfl

/-- What the sweep of PC `n` found: the chosen setting of each lane. -/
def State.sweepFound : List (Option Nat) := (s.pcState n).passes.map chosenSetting

/-- The data lanes for which the sweep of PC `n` found no setting, but for the dead one. -/
def State.failingLanes : List Nat :=
  (List.range 36).filter fun l => l != s.reg R.pc_DEAD_LANE n && (nth (s.sweepFound n) l none).isNone

/-- The sweep of PC `n` found a setting of the command and address lanes. -/
def State.caFound : Bool := (nth (s.sweepFound n) 36 none).isSome

/-- A sweep of PC `n` has been counted, with the narrowest eye found. -/
def State.sweepCounted (eye : Nat) : State := (s.inc R.pc_SWEEPS n).setReg R.pc_EYE_MIN n eye

/-- What a sweep makes of a controller that keeps serving: its settings wait for the next window, and the next sweep begins. -/
def PcState.swept (p : PcState) (settings : List Nat) : PcState :=
  { p with cand := 0, passes := List.replicate 37 0, sweeping := true, chosen := some settings }

/-- A sweep of PC `n` has been counted, and has chosen settings for every lane but the dead one, which keeps its own. -/
def State.sweepChose (eye : Nat) : State :=
  (s.sweepCounted n eye).onPc n fun p => p.swept ((s.sweepCounted n eye).pcSettings n |>.zipIdx.map fun q =>
    if q.2 == s.reg R.pc_DEAD_LANE n then q.1 else (nth (s.sweepFound n) q.2 none).getD q.1)

theorem sweepCounted_reg {r : Reg} (h : r.ref ≠ R.pc_SWEEPS.ref) (he : r.ref ≠ R.pc_EYE_MIN.ref) (eye j : Nat) :
    (s.sweepCounted n eye).reg r j = s.reg r j := (reg_setReg_of_ref _ he _ _ _).trans (reg_inc_of_ref _ h _ _)

theorem sweepCounted_sweeps (eye : Nat) : (s.sweepCounted n eye).reg R.pc_SWEEPS n = (s.reg R.pc_SWEEPS n + 1) % 2 ^ R.pc_SWEEPS.bits :=
  (reg_setReg_of_ref _ (by decide) _ _ _).trans (reg_inc_same s _ _)

@[simp] theorem sweepChose_reg (eye : Nat) (r : Reg) (j : Nat) : (s.sweepChose n eye).reg r j = (s.sweepCounted n eye).reg r j := rfl

/-- The next sweep of a PC that keeps serving begins, with settings chosen. -/
theorem sweepChose_pcState (eye : Nat) : ((s.sweepChose n eye).pcState n).cand = 0 ∧ ((s.sweepChose n eye).pcState n).sweeping = true ∧
    ((s.sweepChose n eye).pcState n).chosen.isSome = true := by
  unfold State.sweepChose
  rw [onPc_pcState_same]
  exact ⟨rfl, rfl, rfl⟩

/-! A failed sweep (R213) -/

/-- After a failed sweep the PC is DEGRADED. -/
theorem failSweep_state : (s.failSweep n).reg R.pc_STATE n = 1 := by
  simp only [State.failSweep]
  rw [raise_reg _ (by decide)]
  split
  · assumption
  · rw [onPc_reg, reg_setReg_same]
    rfl

/-- A failed sweep is counted. -/
theorem failSweep_fails : (s.failSweep n).reg R.pc_RETRAIN_FAILS n = (s.reg R.pc_RETRAIN_FAILS n + 1) % 2 ^ R.pc_RETRAIN_FAILS.bits := by
  simp only [State.failSweep]
  rw [raise_reg _ (by decide)]
  split
  · rw [onPc_reg, reg_inc_same]
  · rw [onPc_reg, reg_setReg_of_ref _ (by decide), onPc_reg, reg_inc_same]

/-- After a failed sweep the PC keeps its settings, and sweeps no more. -/
theorem failSweep_pcState : ((s.failSweep n).pcState n).settings = (s.pcState n).settings ∧ ((s.failSweep n).pcState n).sweeping = false := by
  simp only [State.failSweep, raise_pcState]
  split <;> simp

end

/-- A data lane stands once among the 36. -/
theorem range_filter_lane : ∀ k, k < 36 → ((List.range 36).filter fun l => l == k) = [k] := by decide

section
variable {s : State} {n : Nat} (hstate : s.reg R.pc_STATE n < 2) (hsweep : (s.pcState n).sweeping = true) (hcand : 64 ≤ (s.pcState n).cand)
include hstate hsweep hcand

/-- A sweep whose 64 candidates have been tested ends in one of three outcomes. -/
theorem sweepEnd_outcome : ∃ eye, opSweepEnd n s =
    if (s.failingLanes n).isEmpty && s.caFound n then (s.sweepChose n eye).recoverPc n
    else if s.reg R.pc_DEAD_LANE n == 0xFF && (s.failingLanes n).length == 1 && s.caFound n then
      (((s.sweepChose n eye).setReg R.pc_DEAD_LANE n ((s.failingLanes n).headD 0)).raise 0x3004
        (n + (s.failingLanes n).headD 0 * 256)).recoverPc n
    else (s.sweepCounted n eye).failSweep n := by
  have hdue : ¬ (decide (2 ≤ s.reg R.pc_STATE n) || !(s.pcState n).sweeping || decide ((s.pcState n).cand < 64)) = true := by
    simp [hstate, hsweep, hcand]
  exact ⟨_, if_neg hdue⟩

/-- Every lane has a chosen setting: the PC is NORMAL, and its settings are chosen. -/
theorem sweepEnd_works (hfound : ∀ l, l < 37 → (nth (s.sweepFound n) l none).isSome = true) :
    ∃ eye, opSweepEnd n s = (s.sweepChose n eye).recoverPc n := by
  have hca : s.caFound n = true := hfound 36 (by decide)
  have hnone : s.failingLanes n = [] := List.filter_eq_nil_iff.mpr fun l hl => by
    simp [Option.isNone_eq_false_iff.mpr (hfound l (by have := List.mem_range.mp hl; omega))]
  obtain ⟨eye, hend⟩ := sweepEnd_outcome hstate hsweep hcand
  exact ⟨eye, by rw [hend, hnone, hca]; rfl⟩

/-- One data lane of a PC without a dead lane has no setting: it is the dead lane. -/
theorem sweepEnd_deadLane {k : Nat} (hdead : s.reg R.pc_DEAD_LANE n = 0xFF) (hk : k < 36)
    (hfound : ∀ l, l < 37 → (nth (s.sweepFound n) l none).isSome = (l != k)) :
    ∃ eye, opSweepEnd n s = (((s.sweepChose n eye).setReg R.pc_DEAD_LANE n k).raise 0x3004 (n + k * 256)).recoverPc n := by
  have hca : s.caFound n = true := (hfound 36 (by decide)).trans (by simp; omega)
  have hone : s.failingLanes n = [k] := by
    have hlanes : s.failingLanes n = (List.range 36).filter fun l => l == k := List.filter_congr fun l hl => by
      have hl36 := List.mem_range.mp hl
      have hlive : (l != 0xFF) = true := by simp; omega
      rw [hdead, hlive, ← Option.not_isSome, hfound l (by omega), Bool.true_and, bne, Bool.not_not]
    rw [hlanes, range_filter_lane k hk]
  obtain ⟨eye, hend⟩ := sweepEnd_outcome hstate hsweep hcand
  exact ⟨eye, by rw [hend, hone, hca, hdead]; rfl⟩

/-- The command and address lanes have no setting: the sweep fails. -/
theorem sweepEnd_fails (hfound : nth (s.sweepFound n) 36 none = none) : ∃ eye, opSweepEnd n s = (s.sweepCounted n eye).failSweep n := by
  have hca : s.caFound n = false := by rw [State.caFound, hfound]; rfl
  obtain ⟨eye, hend⟩ := sweepEnd_outcome hstate hsweep hcand
  exact ⟨eye, by rw [hend, hca]; simp⟩

end

/-! ### The next sweep, and the intervals of a DEGRADED PC (R213, R214) -/

/-- A PC whose sweep failed begins the next one a second later. -/
theorem sweepRetry_begins {s : State} {n : Nat} (hstate : s.reg R.pc_STATE n < 2) (hsweep : (s.pcState n).sweeping = false) :
    opSweepRetry n s = (s.waitUntil ((s.pcState n).failedAt + 1000000000)).onPc n fun p =>
      { p with sweeping := true, cand := 0, passes := List.replicate 37 0 } := by
  have hdue : ¬ (decide (2 ≤ s.reg R.pc_STATE n) || (s.pcState n).sweeping) = true := by simp [hstate, hsweep]
  exact if_neg hdue

/-- The interval of a DEGRADED PC ends when its second is over. -/
theorem degradedIntervalEnd_due {s : State} {t n : Nat} (hstate : s.reg R.pc_STATE n = 1)
    (hdue : (s.pcState n).degradedAt + 1000000000 ≤ (s.advanceTo t).mono) :
    opDegradedIntervalEnd t n s = (s.advanceTo t).onPc n fun p =>
      { p with errors := 0, degradedAt := (s.pcState n).degradedAt + 1000000000 } := by
  simp [opDegradedIntervalEnd, hstate, hdue]

/-- Settles O15: the window by what it makes of the controller, the end of a sweep by its three outcomes. -/
theorem sweepsAndDegradedPcs : Obligations.SweepsAndDegradedPcs := by
  unfold Obligations.SweepsAndDegradedPcs
  refine ⟨fun n pass s hn hstate hchanging hruns hsweep hcand => ?window, fun n s hn hstate hsweep hcand hfound => ?works,
    fun n k s hn hstate hsweep hcand hdead hk hfound => ?deadLane, fun n s hn hstate hsweep hcand hfound => ?fails,
    fun n s hn hstate hsweep => ?retry, fun t n s hn hstate hdue => ?interval⟩
  case window =>
    have hop := retrainWindow_sweeps pass hstate hchanging hruns hsweep hcand
    refine ⟨_, exec_retrainWindow hn pass s, ?_, ?_⟩
    · rw [ran_mono, hop, onPc_mono, State.waitStore, waitUntil_mono]
    · rw [ran_store, hop]
      simp only [State.onPc, State.waitStore, waitUntil_store, waitUntil_pcState]
      rfl
  case works =>
    obtain ⟨eye, hop⟩ := sweepEnd_works hstate hsweep hcand hfound
    obtain ⟨hbegun, hsweeps, hchosen⟩ := sweepChose_pcState s n eye
    have hserves : (s.sweepChose n eye).reg R.pc_STATE n < 2 := by
      rwa [sweepChose_reg, sweepCounted_reg _ _ (by decide) (by decide)]
    refine ⟨_, exec_sweepEnd hn s, ?_, ?_, ?_, ?_, ?_, ?_⟩ <;> rw [hop]
    · rw [ran_reg _ _ (by decide), recoverPc_state _ _ hserves]
    · rw [ran_reg _ _ (by decide), recoverPc_reg _ _ (by decide) (by decide), sweepChose_reg, sweepCounted_sweeps]
    · rw [ran_reg _ _ (by decide), recoverPc_reg _ _ (by decide) (by decide), sweepChose_reg, sweepCounted_reg _ _ (by decide) (by decide)]
    · rwa [ran_pcState, recoverPc_pcState]
    · rwa [ran_pcState, recoverPc_pcState]
    · rwa [ran_pcState, recoverPc_pcState]
  case deadLane =>
    obtain ⟨eye, hop⟩ := sweepEnd_deadLane hstate hsweep hcand hdead hk hfound
    obtain ⟨-, -, hchosen⟩ := sweepChose_pcState s n eye
    refine ⟨_, exec_sweepEnd hn s, ?_, ?_, ?_⟩ <;> rw [hop]
    · rw [ran_reg _ _ (by decide), recoverPc_state]
      rwa [raise_reg _ (by decide), reg_setReg_of_ref _ (by decide), sweepChose_reg, sweepCounted_reg _ _ (by decide) (by decide)]
    · rw [ran_reg _ _ (by decide), recoverPc_reg _ _ (by decide) (by decide), raise_reg _ (by decide), reg_setReg_same]
      exact Nat.mod_eq_of_lt (Nat.lt_trans hk (by decide))
    · rwa [ran_pcState, recoverPc_pcState, raise_pcState, setReg_pcState]
  case fails =>
    obtain ⟨eye, hop⟩ := sweepEnd_fails hstate hsweep hcand hfound
    obtain ⟨hsettings, hstops⟩ := failSweep_pcState (s.sweepCounted n eye) n
    refine ⟨_, exec_sweepEnd hn s, ?_, ?_, ?_, ?_⟩ <;> rw [hop]
    · rw [ran_reg _ _ (by decide), failSweep_state]
    · rw [ran_reg _ _ (by decide), failSweep_fails, sweepCounted_reg _ _ (by decide) (by decide)]
    · exact (congrArg PcState.settings (ran_pcState s _ n)).trans hsettings
    · rwa [ran_pcState]
  case retry =>
    refine ⟨_, exec_sweepRetry hn s, ?_, ?_, ?_⟩ <;> rw [sweepRetry_begins hstate hsweep]
    · rw [ran_pcState, onPc_pcState_same]
    · rw [ran_pcState, onPc_pcState_same]
    · rw [ran_mono, onPc_mono, waitUntil_mono]
  case interval => rw [exec_degradedIntervalEnd hn, degradedIntervalEnd_due hstate hdue]

end Sys2Proof.Machine
end

section
/-! PC controllers: a refresh that is not forced is not counted (R207). -/

namespace Sys2Proof.Machine

@[simp] theorem afterWindow_reg (s : State) (n : Nat) (r : Reg) (i : Nat) : (s.afterWindow n).reg r i = s.reg r i := by
  unfold State.afterWindow
  split <;> simp

/-- The refresh of a bank whose queue is empty is not a forced one. -/
theorem refreshIssue_idle_forced {s : State} {n b : Nat} (hidle : ((s.pcState n).entries.any fun e => e.bank == b) = false) (j : Nat) :
    (opRefreshIssue n b s).reg R.pc_REFRESH_FORCED j = s.reg R.pc_REFRESH_FORCED j := by
  simp only [opRefreshIssue, hidle]
  split <;> simp

theorem exec_refreshIssue {n b : Nat} (hn : n < 128) (hb : b < 64) (s : State) :
    exec (.refreshIssue n b) s = .next (s.ran (opRefreshIssue n b s)) := command_next s (by simp [hn, hb]) _

/-- Bank 0 of PC 0 owes a refresh and has an empty queue. The register file lists REFRESH_FORCED of the PC with 2^32, which no write leaves in
its 32 bits. -/
def overfullForced : State :=
  { State.reset with
    regs := State.reset.regs ++ [(regKey R.pc_REFRESH_FORCED.ref 0, 2 ^ 32)]
    store := { pcs := [(0, { debts := [(0, 1)] })] } }

/-- The refresh may issue. -/
theorem overfullForced_owes : overfullForced.reg R.pc_STATE 0 < 2 ∧ overfullForced.reg R.stk_CHANGING (0 / 32) = 0 ∧
    tget (fun _ => 0) (overfullForced.pcState 0).debts 0 ≠ 0 ∧ ((overfullForced.pcState 0).entries.any fun e => e.bank == 0) = false ∧
    overfullForced.reg R.pc_REFRESH_FORCED 0 = 2 ^ 32 := by decide +kernel

/-- Refutes O14: its last clause takes REFRESH_FORCED modulo 2^32 after a refresh that is not forced too, where nothing is counted; a state that
lists the register with 2^32 keeps that value, and the statement's is 0. -/
theorem not_pcControllerRuns : ¬ Obligations.PcControllerRuns := by
  unfold Obligations.PcControllerRuns
  rintro ⟨-, -, -, -, -, -, hrefresh⟩
  obtain ⟨hstate, hchanging, howes, hidle, hforced⟩ := overfullForced_owes
  obtain ⟨u, hexec, -, -, hcount⟩ := hrefresh 0 0 overfullForced (by decide) (by decide) hstate hchanging howes (.inl hidle)
  rw [exec_refreshIssue (by decide) (by decide)] at hexec
  injection hexec with hu
  rw [← hu, ran_reg _ _ (by decide), refreshIssue_idle_forced hidle, hidle, hforced] at hcount
  exact absurd hcount (by decide)

end Sys2Proof.Machine
end

section
/-! The coded memories: a scrub write-back that repairs a word counts no poison (R247, R309). -/

namespace Sys2Proof.Machine

@[simp] theorem nextPadScrub_reg (s : State) (b : Nat) (r : Reg) (i : Nat) : (s.nextPadScrub b).reg r i = s.reg r i := waitUntil_reg s _ r i
@[simp] theorem nextPadScrub_writeBack (s : State) (b : Nat) : (s.nextPadScrub b).scratch.writeBack = s.scratch.writeBack := by
  simp [State.nextPadScrub]

/-- A write-back of the scratchpad that is no poison is not counted as such. -/
theorem scratchpadScrubAccess_repair_poisoned {s : State} {b : Nat} {w : WriteBack}
    (hback : tget (fun _ => none) s.scratch.writeBack b = some w) (hrepair : w.poison = false) (j : Nat) :
    (opScratchpadScrubAccess b s).reg R.mlog_SCRUB_POISONED j = s.reg R.mlog_SCRUB_POISONED j := by
  simp only [opScratchpadScrubAccess, State.add, setReg_scratch, nextPadScrub_writeBack, hback, hrepair]
  split
  · rfl
  · rw [if_neg Bool.false_ne_true, reg_inc_of_ref _ (by decide)]
    exact (reg_setReg_of_ref _ (by decide) _ _ _).trans (nextPadScrub_reg s b _ j)

theorem exec_scratchpadScrubAccess {b : Nat} (hb : b < 512) (s : State) :
    exec (.scratchpadScrubAccess b) s = .next (s.ran (opScratchpadScrubAccess b s)) := command_next s (decide_eq_true hb) _

/-- The device is ACTIVE, and bank 0 of the scratchpad has a repaired word to write back. The register file lists SCRUB_POISONED of the bank's log
with 2^32, which no write leaves in its 32 bits. -/
def overfullPoisoned : State :=
  { State.reset with
    phase := .run
    regs := State.reset.regs ++ [(regKey R.mlog_SCRUB_POISONED.ref 128, 2 ^ 32)]
    scratch := { writeBack := [(0, some ⟨0, 0, false, 0⟩)] } }

/-- The bank is scrubbed. -/
theorem overfullPoisoned_scrubs : overfullPoisoned.phase = .run ∧ overfullPoisoned.reg R.pow_STATE = 0 ∧ overfullPoisoned.scratch.wiping = false ∧
    tget (fun _ => none) overfullPoisoned.scratch.writeBack 0 = some ⟨0, 0, false, 0⟩ ∧
    overfullPoisoned.reg R.mlog_SCRUB_POISONED (128 + 0 / 32) = 2 ^ 32 := by decide +kernel

/-- Refutes O17: its last clause takes SCRUB_POISONED modulo 2^32 after a write-back that repairs too, where no poison is counted; a state that
lists the register with 2^32 keeps that value, and the statement's is 0. -/
theorem not_storeServicesTakeEffect : ¬ Obligations.StoreServicesTakeEffect := by
  unfold Obligations.StoreServicesTakeEffect
  rintro ⟨-, -, -, -, -, -, -, -, -, -, -, hscrub⟩
  obtain ⟨hphase, hactive, hwiping, hback, hpoisoned⟩ := overfullPoisoned_scrubs
  obtain ⟨u, hexec, -, -, hcount, -⟩ := hscrub 0 ⟨0, 0, false, 0⟩ overfullPoisoned (by decide) hphase hactive hwiping hback
  rw [exec_scratchpadScrubAccess (by decide)] at hexec
  injection hexec with hu
  rw [← hu, ran_reg _ _ (by decide), scratchpadScrubAccess_repair_poisoned hback rfl, hpoisoned] at hcount
  exact absurd hcount (by decide)

end Sys2Proof.Machine
end

section
/-! Stacks: a fence that further master stops have still to record is no switchover yet (R225). -/

namespace Sys2Proof.Machine

/-- Some master stop has still to record the fence of PC `n` once stop `g` has: SWITCHOVERS waits for it. -/
theorem fenceRecord_waits {s : State} {t n g : Nat} (hmore : ((List.range 386).all fun x =>
      !(s.advanceTo t).isMasterStop x || (g :: (s.pcState n).recorded).contains x) = false) (j : Nat) :
    (opFenceRecord t n g s).reg R.fs_SWITCHOVERS j = s.reg R.fs_SWITCHOVERS j := by
  unfold opFenceRecord
  dsimp only
  split
  · exact advanceTo_reg s t _ _
  · rw [if_neg, onPc_reg, advanceTo_reg]
    simp only [onPc_pcState_same, advanceTo_pcState]
    exact (Bool.eq_false_iff).mp hmore

theorem exec_fenceRecord {n g : Nat} (hn : n < 128) (hg : g < 386) (t : Nat) (s : State) :
    exec (.fenceRecord t n g) s = .next (s.ran (opFenceRecord t n g s)) := command_next s (by simp [hn, hg]) _

/-- PC 0 is fenced, and no master stop has recorded it. The register file lists SWITCHOVERS with 2^32, which no write leaves in its 32 bits. -/
def overfullSwitchovers : State :=
  { State.reset with regs := State.reset.regs ++ [(regKey R.pc_STATE.ref 0, 2), (regKey R.fs_SWITCHOVERS.ref 0, 2 ^ 32)] }

/-- The scheduler, stop 384, may record the fence, and others have still to. -/
theorem overfullSwitchovers_fenced : overfullSwitchovers.reg R.pc_STATE 0 = 2 ∧ 384 ∉ (overfullSwitchovers.pcState 0).recorded ∧
    (overfullSwitchovers.advanceTo 0).isMasterStop 384 = true ∧
    ((List.range 386).all fun x =>
      !(overfullSwitchovers.advanceTo 0).isMasterStop x || (384 :: (overfullSwitchovers.pcState 0).recorded).contains x) = false ∧
    overfullSwitchovers.reg R.fs_SWITCHOVERS = 2 ^ 32 := by decide +kernel

/-- Refutes O16: its first clause takes SWITCHOVERS modulo 2^32 also where master stops have still to record the fence and nothing is counted; a
state that lists the register with 2^32 keeps that value, and the statement's is 0. -/
theorem not_stacksChange : ¬ Obligations.StacksChange := by
  unfold Obligations.StacksChange
  rintro ⟨hrecord, -⟩
  obtain ⟨hstate, hnew, hmaster, hmore, hswitch⟩ := overfullSwitchovers_fenced
  obtain ⟨u, hexec, -, hcount⟩ := hrecord 0 0 384 overfullSwitchovers (by decide) (by decide) hstate hnew hmaster
  rw [exec_fenceRecord (by decide) (by decide)] at hexec
  injection hexec with hu
  rw [← hu, ran_reg _ _ (by decide), fenceRecord_waits hmore, hmore, hswitch] at hcount
  exact absurd hcount (by decide)

end Sys2Proof.Machine
end

section
/-! Arithmetic of the device code: multiplication by a constant of GF(2^8) keeps bytes and distributes over their sum (R229). -/

namespace Sys2Proof.Machine

theorem byte_xor_lt {a b : Nat} (ha : a < 256) (hb : b < 256) : a ^^^ b < 256 := Nat.xor_lt_two_pow (n := 8) ha hb

/-- The shift drops bit 7, and the reduction by the primitive polynomial is added where bit 7 was set. -/
theorem gfDouble_eq_shift_xor {a : Nat} (ha : a < 256) : gfDouble a = a <<< 1 % 2 ^ 8 ^^^ if a.testBit 7 then 0x1D else 0 := by
  have hbit : a.testBit 7 = decide (128 ≤ a) := by
    rw [Nat.testBit_eq_decide_div_mod_eq, decide_eq_decide]
    omega
  rw [gfDouble, hbit, Nat.shiftLeft_eq]
  by_cases h : a < 128
  · rw [if_pos h, if_neg (by simpa using h), Nat.xor_zero]
    omega
  · rw [if_neg h, if_pos (by simpa using h), show a * 2 ^ 1 % 2 ^ 8 = 2 * a - 256 by omega]

theorem gfDouble_lt {a : Nat} (ha : a < 256) : gfDouble a < 256 := by
  rw [gfDouble_eq_shift_xor ha]
  exact byte_xor_lt (Nat.mod_lt _ (by decide)) (by split <;> decide)

theorem gfDouble_xor {a b : Nat} (ha : a < 256) (hb : b < 256) : gfDouble (a ^^^ b) = gfDouble a ^^^ gfDouble b := by
  have hreduce : (if (a ^^^ b).testBit 7 then 0x1D else 0) =
      (if a.testBit 7 then 0x1D else 0) ^^^ (if b.testBit 7 then 0x1D else 0) := by
    rw [Nat.testBit_xor]
    cases a.testBit 7 <;> cases b.testBit 7 <;> rfl
  rw [gfDouble_eq_shift_xor (byte_xor_lt ha hb), gfDouble_eq_shift_xor ha, gfDouble_eq_shift_xor hb, Nat.shiftLeft_xor_distrib,
    Nat.xor_mod_two_pow, hreduce]
  ac_rfl

theorem gfMulFrom_lt {a : Nat} (ha : a < 256) (b k : Nat) : gfMulFrom a b k < 256 := by
  induction k generalizing b with
  | zero => exact Nat.zero_lt_succ _
  | succ k ih => exact byte_xor_lt (gfDouble_lt (ih _)) (by split <;> omega)

theorem gfMulFrom_xor {a a' : Nat} (ha : a < 256) (ha' : a' < 256) (b k : Nat) :
    gfMulFrom (a ^^^ a') b k = gfMulFrom a b k ^^^ gfMulFrom a' b k := by
  induction k generalizing b with
  | zero => simp [gfMulFrom]
  | succ k ih =>
    have hbit : (if b % 2 = 1 then a ^^^ a' else 0) = (if b % 2 = 1 then a else 0) ^^^ (if b % 2 = 1 then a' else 0) := by
      split <;> simp
    simp only [gfMulFrom]
    rw [ih, gfDouble_xor (gfMulFrom_lt ha _ _) (gfMulFrom_lt ha' _ _), hbit]
    ac_rfl

theorem gfMul_lt {a : Nat} (ha : a < 256) (b : Nat) : gfMul a b < 256 := gfMulFrom_lt ha b 8

theorem gfMul_xor {a a' : Nat} (ha : a < 256) (ha' : a' < 256) (b : Nat) : gfMul (a ^^^ a') b = gfMul a b ^^^ gfMul a' b :=
  gfMulFrom_xor ha ha' b 8

@[simp] theorem gfMul_zero (b : Nat) : gfMul 0 b = 0 := by
  simpa using gfMul_xor (a := 0) (a' := 0) (by decide) (by decide) b

end Sys2Proof.Machine
end

section
/-! Horner's rule at the roots of g(x), and one step of the division by g(x): they keep the data read so far, followed by its remainder, free
of a syndrome (R229, R231). -/

namespace Sys2Proof.Machine

/-- One step of the syndrome S_k: the value `a` so far and the next symbol `c`. -/
def horner (k a c : Nat) : Nat := gfMul a (gfPow k) ^^^ c

theorem horner_lt {k a c : Nat} (ha : a < 256) (hc : c < 256) : horner k a c < 256 := byte_xor_lt (gfMul_lt ha _) hc

theorem horner_xor {a a' : Nat} (ha : a < 256) (ha' : a' < 256) (k c c' : Nat) :
    horner k (a ^^^ a') (c ^^^ c') = horner k a c ^^^ horner k a' c' := by
  simp only [horner]
  rw [gfMul_xor ha ha']
  ac_rfl

@[simp] theorem horner_zero_zero (k : Nat) : horner k 0 0 = 0 := by simp [horner]

/-- The same value `a` with two next symbols: they differ by the difference of the symbols. -/
theorem horner_eq_xor (k a c c' : Nat) : horner k a c' = horner k a c ^^^ (c ^^^ c') := by
  rw [horner, horner, Nat.xor_assoc, ← Nat.xor_assoc c, Nat.xor_self, Nat.zero_xor]

/-- The four symbols of a remainder, most significant first, are bytes. -/
def AreBytes : Nat × Nat × Nat × Nat → Prop
  | (r₃, r₂, r₁, r₀) => r₃ < 256 ∧ r₂ < 256 ∧ r₁ < 256 ∧ r₀ < 256

/-- The value S_k takes when four more symbols follow the value `a`. -/
def hornerTail (k a : Nat) : Nat × Nat × Nat × Nat → Nat
  | (r₃, r₂, r₁, r₀) => horner k (horner k (horner k (horner k a r₃) r₂) r₁) r₀

/-- The sum of two polynomials of four symbols. -/
def addFour : Nat × Nat × Nat × Nat → Nat × Nat × Nat × Nat → Nat × Nat × Nat × Nat
  | (r₃, r₂, r₁, r₀), (q₃, q₂, q₁, q₀) => (r₃ ^^^ q₃, r₂ ^^^ q₂, r₁ ^^^ q₁, r₀ ^^^ q₀)

theorem addFour_areBytes {r q : Nat × Nat × Nat × Nat} (hr : AreBytes r) (hq : AreBytes q) : AreBytes (addFour r q) := by
  obtain ⟨hr₃, hr₂, hr₁, hr₀⟩ := hr
  obtain ⟨hq₃, hq₂, hq₁, hq₀⟩ := hq
  exact ⟨byte_xor_lt hr₃ hq₃, byte_xor_lt hr₂ hq₂, byte_xor_lt hr₁ hq₁, byte_xor_lt hr₀ hq₀⟩

theorem hornerTail_addFour {a a' : Nat} {r q : Nat × Nat × Nat × Nat} (ha : a < 256) (hr : AreBytes r) (ha' : a' < 256) (hq : AreBytes q)
    (k : Nat) : hornerTail k (a ^^^ a') (addFour r q) = hornerTail k a r ^^^ hornerTail k a' q := by
  obtain ⟨hr₃, hr₂, hr₁, -⟩ := hr
  obtain ⟨hq₃, hq₂, hq₁, -⟩ := hq
  have h₃ := horner_lt (k := k) ha hr₃
  have h₂ := horner_lt (k := k) h₃ hr₂
  have h₃' := horner_lt (k := k) ha' hq₃
  have h₂' := horner_lt (k := k) h₃' hq₂
  simp only [hornerTail, addFour]
  rw [horner_xor ha ha', horner_xor h₃ h₃', horner_xor h₂ h₂', horner_xor (horner_lt h₂ hr₁) (horner_lt h₂' hq₁)]

/-- `f` times g(x), without its leading coefficient `f`. -/
def generatorTimes (f : Nat) : Nat × Nat × Nat × Nat := (gfMul f 0x0F, gfMul f 0x36, gfMul f 0x78, gfMul f 0x40)

theorem generatorTimes_areBytes {f : Nat} (hf : f < 256) : AreBytes (generatorTimes f) :=
  ⟨gfMul_lt hf _, gfMul_lt hf _, gfMul_lt hf _, gfMul_lt hf _⟩

/-- α^0 to α^3 are the roots of g(x), so of every multiple of it (R229). -/
theorem hornerTail_generatorTimes : ∀ k < 4, ∀ f < 256, hornerTail k f (generatorTimes f) = 0 := by decide +kernel

/-- A division step shifts the remainder by one place and takes off the multiple of g(x) that its new leading symbol asks for. -/
theorem encodeStep_eq_addFour (r₃ r₂ r₁ r₀ d : Nat) :
    encodeStep (r₃, r₂, r₁, r₀) d = addFour (r₂, r₁, r₀, 0) (generatorTimes (r₃ ^^^ d)) := by
  simp [encodeStep, addFour, generatorTimes]

theorem encodeStep_areBytes {r : Nat × Nat × Nat × Nat} {d : Nat} (hr : AreBytes r) (hd : d < 256) : AreBytes (encodeStep r d) := by
  obtain ⟨r₃, r₂, r₁, r₀⟩ := r
  obtain ⟨h₃, h₂, h₁, h₀⟩ := hr
  rw [encodeStep_eq_addFour]
  exact addFour_areBytes ⟨h₂, h₁, h₀, Nat.zero_lt_succ _⟩ (generatorTimes_areBytes (byte_xor_lt h₃ hd))

theorem hornerTail_encodeStep {k a d : Nat} {r : Nat × Nat × Nat × Nat} (hk : k < 4) (ha : a < 256) (hr : AreBytes r) (hd : d < 256)
    (hzero : hornerTail k a r = 0) : hornerTail k (horner k a d) (encodeStep r d) = 0 := by
  obtain ⟨r₃, r₂, r₁, r₀⟩ := r
  obtain ⟨h₃, h₂, h₁, h₀⟩ := hr
  have hf : r₃ ^^^ d < 256 := byte_xor_lt h₃ hd
  have hshift : hornerTail k (horner k a r₃) (r₂, r₁, r₀, 0) = horner k (hornerTail k a (r₃, r₂, r₁, r₀)) 0 := rfl
  rw [horner_eq_xor k a r₃ d, encodeStep_eq_addFour,
    hornerTail_addFour (horner_lt ha h₃) ⟨h₂, h₁, h₀, Nat.zero_lt_succ _⟩ hf (generatorTimes_areBytes hf),
    hornerTail_generatorTimes k hk _ hf, hshift, hzero, horner_zero_zero, Nat.xor_zero]

end Sys2Proof.Machine
end

section
/-! The code word of 32 bytes: its symbols are the data and the remainder, and it has no syndrome (R230 to R233). -/

namespace Sys2Proof.Machine

/-- S_k over the first `n` symbols read, from position 35 downwards. -/
def syndromeUpTo (w : CodeWord) (k n : Nat) : Nat := (List.range n).foldl (fun a i => horner k a (symbolAt w (35 - i))) 0

theorem syndromeUpTo_succ (w : CodeWord) (k n : Nat) :
    syndromeUpTo w k (n + 1) = horner k (syndromeUpTo w k n) (symbolAt w (35 - n)) := by
  simp [syndromeUpTo, List.range_succ]

/-- Data byte `i` of the number `d`. -/
def dataByte (d i : Nat) : Nat := d / 2 ^ (8 * i) % 256

/-- The remainder after the `n` most significant data bytes of `d`. -/
def remainderUpTo (d n : Nat) : Nat × Nat × Nat × Nat := (List.range n).foldl (fun r i => encodeStep r (dataByte d (31 - i))) (0, 0, 0, 0)

theorem remainderUpTo_succ (d n : Nat) : remainderUpTo d (n + 1) = encodeStep (remainderUpTo d n) (dataByte d (31 - n)) := by
  simp [remainderUpTo, List.range_succ]

theorem symbolAt_lt (w : CodeWord) (j : Nat) : symbolAt w j < 256 := Nat.mod_lt _ (by decide)

theorem dataByte_lt (d i : Nat) : dataByte d i < 256 := Nat.mod_lt _ (by decide)

theorem remainderUpTo_areBytes (d n : Nat) : AreBytes (remainderUpTo d n) := by
  induction n with
  | zero => exact ⟨by decide, by decide, by decide, by decide⟩
  | succ n ih => rw [remainderUpTo_succ]; exact encodeStep_areBytes ih (dataByte_lt _ _)

theorem syndromeUpTo_lt (w : CodeWord) (k n : Nat) : syndromeUpTo w k n < 256 := by
  induction n with
  | zero => exact Nat.zero_lt_succ _
  | succ n ih => rw [syndromeUpTo_succ]; exact horner_lt ih (symbolAt_lt _ _)

/-- The four check symbols as Table 08.1 packs them, check symbol 0 lowest. -/
def packFour : Nat × Nat × Nat × Nat → Nat
  | (r₃, r₂, r₁, r₀) => r₀ + r₁ * 2 ^ 8 + r₂ * 2 ^ 16 + r₃ * 2 ^ 24

theorem encodeWord_toNat (d : Nat) :
    (encodeWord d).toNat = d % 2 ^ 256 + packFour (remainderUpTo (d % 2 ^ 256) 32) * 2 ^ 256 := by
  have hbytes := remainderUpTo_areBytes (d % 2 ^ 256) 32
  have hdef : encodeWord d = BitVec.ofNat 288 (d % 2 ^ 256 + packFour (remainderUpTo (d % 2 ^ 256) 32) * 2 ^ 256) := rfl
  rw [hdef, BitVec.toNat_ofNat, Nat.mod_eq_of_lt]
  generalize remainderUpTo (d % 2 ^ 256) 32 = r at hbytes
  obtain ⟨r₃, r₂, r₁, r₀⟩ := r
  obtain ⟨h₃, h₂, h₁, h₀⟩ := hbytes
  simp only [packFour]
  omega

theorem dataOf_encodeWord (d : Nat) : dataOf (encodeWord d) = d % 2 ^ 256 := by
  rw [dataOf, encodeWord_toNat, Nat.add_mul_mod_self_right, Nat.mod_mod]

theorem symbolAt_data (w : CodeWord) {i : Nat} (hi : i < 32) : symbolAt w (i + 4) = dataByte (dataOf w) i := by
  have hsplit : 2 ^ 256 = 2 ^ (8 * i) * 2 ^ (8 * (32 - i)) := by rw [← Nat.pow_add, show 8 * i + 8 * (32 - i) = 256 by omega]
  have hbyte : 256 ∣ 2 ^ (8 * (32 - i)) := Nat.pow_dvd_pow 2 (show 8 ≤ 8 * (32 - i) by omega)
  simp only [symbolAt, dataByte, dataOf]
  rw [if_neg (by omega), Nat.add_sub_cancel, hsplit, Nat.mod_mul_right_div_self, Nat.mod_mod_of_dvd _ hbyte]

theorem symbolAt_check (w : CodeWord) {j : Nat} (hj : j < 4) : symbolAt w j = dataByte (w.toNat / 2 ^ 256) j := by
  simp only [symbolAt, dataByte]
  rw [if_pos hj, Nat.pow_add, Nat.div_div_eq_div_mul]

theorem dataByte_packFour {r₃ r₂ r₁ r₀ : Nat} (h : AreBytes (r₃, r₂, r₁, r₀)) :
    dataByte (packFour (r₃, r₂, r₁, r₀)) 3 = r₃ ∧ dataByte (packFour (r₃, r₂, r₁, r₀)) 2 = r₂ ∧
      dataByte (packFour (r₃, r₂, r₁, r₀)) 1 = r₁ ∧ dataByte (packFour (r₃, r₂, r₁, r₀)) 0 = r₀ := by
  obtain ⟨h₃, h₂, h₁, h₀⟩ := h
  simp only [dataByte, packFour]
  omega

/-- The check symbols close the word with the remainder of its data. -/
theorem syndrome_encodeWord_eq_hornerTail (d k : Nat) :
    syndrome (encodeWord d) k = hornerTail k (syndromeUpTo (encodeWord d) k 32) (remainderUpTo (d % 2 ^ 256) 32) := by
  have hcheck : ∀ j < 4, symbolAt (encodeWord d) j = dataByte (packFour (remainderUpTo (d % 2 ^ 256) 32)) j := by
    intro j hj
    rw [symbolAt_check _ hj, encodeWord_toNat, Nat.add_mul_div_right _ _ (by decide), Nat.div_eq_of_lt (Nat.mod_lt _ (by decide)),
      Nat.zero_add]
  have hfull : syndrome (encodeWord d) k = syndromeUpTo (encodeWord d) k 36 := rfl
  have hbytes := remainderUpTo_areBytes (d % 2 ^ 256) 32
  generalize remainderUpTo (d % 2 ^ 256) 32 = r at hcheck hbytes ⊢
  obtain ⟨r₃, r₂, r₁, r₀⟩ := r
  obtain ⟨h₃, h₂, h₁, h₀⟩ := dataByte_packFour hbytes
  rw [hfull, syndromeUpTo_succ, syndromeUpTo_succ, syndromeUpTo_succ, syndromeUpTo_succ, hcheck 0 (by decide), hcheck 1 (by decide),
    hcheck 2 (by decide), hcheck 3 (by decide), h₃, h₂, h₁, h₀]
  rfl

/-- After any number of data symbols, those read and their remainder have no syndrome. -/
theorem hornerTail_remainderUpTo (d : Nat) {k : Nat} (hk : k < 4) {n : Nat} (hn : n ≤ 32) :
    hornerTail k (syndromeUpTo (encodeWord d) k n) (remainderUpTo (d % 2 ^ 256) n) = 0 := by
  induction n with
  | zero =>
    simp [syndromeUpTo, remainderUpTo, hornerTail]
  | succ n ih =>
    have hsymbol : symbolAt (encodeWord d) (35 - n) = dataByte (d % 2 ^ 256) (31 - n) := by
      rw [show 35 - n = 31 - n + 4 by omega, symbolAt_data _ (by omega), dataOf_encodeWord]
    rw [syndromeUpTo_succ, remainderUpTo_succ, hsymbol]
    exact hornerTail_encodeStep hk (syndromeUpTo_lt _ _ _) (remainderUpTo_areBytes _ _) (dataByte_lt _ _) (ih (by omega))

theorem syndrome_encodeWord (d : Nat) {k : Nat} (hk : k < 4) : syndrome (encodeWord d) k = 0 := by
  rw [syndrome_encodeWord_eq_hornerTail]
  exact hornerTail_remainderUpTo d hk (Nat.le_refl _)

theorem decodeWord_of_syndromes_zero {w : CodeWord} (h : ∀ k < 4, syndrome w k = 0) (dead : Option Nat) :
    decodeWord w dead = .clean (dataOf w) := if_pos ⟨h 0 (by decide), h 1 (by decide), h 2 (by decide), h 3 (by decide)⟩

/-- Settles O60: the remainder of the data closes the word with no syndrome, and the data stand in it unchanged. -/
theorem writtenWordsReadClean : Obligations.WrittenWordsReadClean := by
  unfold Obligations.WrittenWordsReadClean
  intro d dead hd
  rw [decodeWord_of_syndromes_zero (fun _ => syndrome_encodeWord d) dead, dataOf_encodeWord, Nat.mod_eq_of_lt hd]

end Sys2Proof.Machine
end

section
/-! Ring cycles, and the flits of the old epoch (R274, R287, R289). -/

namespace Sys2Proof.Machine

/-! ### Ring cycles (R274) -/

section
variable (s : State)

@[simp] theorem waitUntil_rings (t : Nat) : (s.waitUntil t).rings = s.rings := advanceTo_rings s _
@[simp] theorem waitCycle_rings (c : Nat) : (s.waitCycle c).rings = { s.rings with cycle := max s.rings.cycle c } := by
  simp only [State.waitCycle, waitUntil_rings]
@[simp] theorem waitCycle_reg (c : Nat) (r : Reg) (i : Nat) : (s.waitCycle c).reg r i = s.reg r i := waitUntil_reg s _ r i

/-- The ring-cycle counter has come as far as it has been counted. -/
theorem le_ringCycle {s : State} {c : Nat} (h : c ≤ s.rings.cycle) : c ≤ s.ringCycle :=
  Nat.le_trans h (Nat.le_max_right _ _)

theorem ringCycle_congr {s u : State} (hm : u.mono = s.mono) (hs : u.rings.start = s.rings.start) (hc : u.rings.cycle = s.rings.cycle) :
    u.ringCycle = s.ringCycle := by simp only [State.ringCycle, hm, hs, hc]

/-! ### Breach events -/

theorem breach_reg {r : Reg} (h : r.ref ∉ raiseRefs) (c d : Nat) (p : Nat → Bool) (j : Nat) : (s.breach c d p).reg r j = s.reg r j :=
  raise_reg s h c d j
@[simp] theorem breach_rings (c d : Nat) (p : Nat → Bool) : (s.breach c d p).rings = s.rings := raise_rings s c d

/-! ### The old epoch (R287, R289) -/

/-- Which flits are old is a matter of EPOCH alone. -/
theorem oldEpoch_congr {s u : State} (h : u.reg R.rsys_EPOCH = s.reg R.rsys_EPOCH) : u.oldEpoch = s.oldEpoch := by
  funext f
  simp only [State.oldEpoch, h]

theorem oldFlits_congr {s u : State} (hb : u.rings.bufs = s.rings.bufs) (hc : u.rings.crossing = s.rings.crossing)
    (ho : u.rings.out = s.rings.out) (he : u.reg R.rsys_EPOCH = s.reg R.rsys_EPOCH) : u.oldFlits = s.oldFlits := by
  simp only [State.oldFlits, hb, hc, ho, oldEpoch_congr he]

@[simp] theorem advanceTo_oldFlits (t : Nat) : (s.advanceTo t).oldFlits = s.oldFlits :=
  oldFlits_congr (congrArg Rings.bufs (advanceTo_rings s t)) (congrArg Rings.crossing (advanceTo_rings s t))
    (congrArg Rings.out (advanceTo_rings s t)) (advanceTo_reg s t _ _)

theorem dropOld_reg (r : Reg) (i : Nat) : s.dropOld.reg r i = s.reg r i :=
  each_keeps (fun u : State => u.reg r i) (fun (u : State) (p : Nat × Nat) => u.returnCredit (p.1 / 4) (vcOf (p.1 % 4)) p.2) (fun _ _ => rfl) s _

/-- A list without its old flits counts none. -/
theorem countP_filter_not {α : Type} (p : α → Bool) (l : List α) : (l.filter fun x => !p x).countP p = 0 :=
  List.countP_eq_zero.mpr fun _ hx => Bool.eq_false_iff.mp (Bool.not_eq_true' _ |>.mp (List.mem_filter.mp hx).2)

/-- Once the flits of the old epoch have left the device, none remains. -/
theorem dropOld_oldFlits : s.dropOld.oldFlits = 0 := by
  have hold : s.dropOld.oldEpoch = s.oldEpoch := oldEpoch_congr (dropOld_reg s _ _)
  simp only [State.oldFlits, hold, Nat.add_eq_zero_iff, List.sum_eq_zero_iff_forall_eq_nat]
  refine ⟨⟨?bufs, ?crossing⟩, ?out⟩
  case bufs =>
    intro n hn
    obtain ⟨b, hmem, rfl⟩ := List.mem_map.mp hn
    obtain ⟨hb, hinj⟩ := List.mem_filter.mp hmem
    obtain ⟨a, -, rfl⟩ := List.mem_map.mp (List.mem_filter.mp hb).1
    by_cases ha : injectedAt a.1 = true
    · simp only [ha, if_true]
      exact countP_filter_not _ _
    · simp only [ha] at hinj
      exact absurd hinj ha
  case crossing =>
    intro n hn
    obtain ⟨b, hb, rfl⟩ := List.mem_map.mp hn
    obtain ⟨a, -, rfl⟩ := List.mem_map.mp (List.mem_filter.mp hb).1
    exact countP_filter_not _ _
  case out =>
    intro n hn
    obtain ⟨b, hb, rfl⟩ := List.mem_map.mp hn
    obtain ⟨a, -, rfl⟩ := List.mem_map.mp (List.mem_filter.mp hb).1
    exact countP_filter_not _ _

theorem endDrain_reg {r : Reg} (h : r.ref ∉ raiseRefs) (h1 : r.ref ≠ R.rsys_DRAINING.ref) (h2 : r.ref ≠ R.rsys_DRAIN_MAX.ref) (j : Nat) :
    s.endDrain.reg r j = s.reg r j := by
  rw [State.endDrain, raise_reg _ h, reg_peak_of_ref _ h2, reg_setReg_of_ref _ h1]

theorem endDrain_draining : s.endDrain.reg R.rsys_DRAINING = 0 := by
  rw [State.endDrain, raise_reg _ (by decide), reg_peak_of_ref _ (by decide), reg_setReg_same, Nat.zero_mod]

@[simp] theorem endDrain_rings : s.endDrain.rings = s.rings := by
  simp only [State.endDrain, raise_rings, peak_rings, setReg_rings]

end

end Sys2Proof.Machine
end

section
/-! Ring epochs, their drains, and starvation at an arbiter (R278, R286, R289). -/

namespace Sys2Proof.Machine

/-! ### The swap of the slot tables (R278) -/

theorem exec_slotTableSwap (t : Nat) (s : State) : exec (.slotTableSwap t) s = .next (s.ran (opSlotTableSwap t s)) := command_next s rfl _

theorem slotTableSwap_rings {s : State} {c : Nat} (h : s.rings.swapAt = some c) (t : Nat) :
    (opSlotTableSwap t s).rings = { s.rings with
      cycle := max s.rings.cycle c, swapAt := none, swappedAt := c, active := s.rings.shadow, shadow := s.rings.active } := by
  simp only [opSlotTableSwap, advanceTo_rings, h, waitCycle_rings]

/-! ### The two ends of a drain (R289) -/

theorem exec_epochDrainEnd {s : State} (hon : s.on R.rsys_DRAINING = true) (hnone : s.oldFlits = 0) (t : Nat) :
    exec (.epochDrainEnd t) s = .next (s.ran (s.advanceTo t).endDrain) := by
  have hop : opEpochDrainEnd t s = (s.advanceTo t).endDrain := if_pos (by
    simpa only [State.on, advanceTo_reg, advanceTo_oldFlits, hnone, beq_self_eq_true, Bool.and_true] using hon)
  exact hop ▸ command_next s rfl _

/-- At its bound a drain discards what remains of the old epoch, and ends. -/
theorem exec_epochDrainBound {s : State} {t : Nat} (hon : s.on R.rsys_DRAINING = true)
    (hbound : s.rings.drainStart + 2000 ≤ (s.advanceTo t).mono) (hsome : s.oldFlits ≠ 0) :
    exec (.epochDrainBound t) s = .next (s.ran
      (((s.advanceTo t).dropOld.add R.rsys_DRAIN_DISCARDS 0 s.oldFlits).breach 0x4006 (min s.oldFlits 0xFFFF) fun _ => true).endDrain) := by
  have hop : opEpochDrainBound t s =
      (((s.advanceTo t).dropOld.add R.rsys_DRAIN_DISCARDS 0 s.oldFlits).breach 0x4006 (min s.oldFlits 0xFFFF) fun _ => true).endDrain := by
    have hcond : ((s.advanceTo t).on R.rsys_DRAINING && decide ((s.advanceTo t).rings.drainStart + 2000 ≤ (s.advanceTo t).mono)) = true := by
      simpa only [State.on, advanceTo_reg, advanceTo_rings, hbound, decide_true, Bool.and_true] using hon
    simp only [opEpochDrainBound, hcond, if_true, advanceTo_oldFlits, hsome, if_false]
  exact hop ▸ command_next s rfl _

/-! ### Starvation (R286) -/

/-- The best-effort candidates of an arbiter that wait and are not marked starved. -/
def State.unmarked (s : State) (a : ArbId) : List Contender :=
  (s.contenders a).filter fun x => vcClass x.vc == 2 && !s.rings.starved.contains (x.input, x.vc, x.stamp) &&
    !(s.rings.holding.any fun h => h.input == x.input && h.vc == x.vc)

/-- A candidate of arbiter `a` is marked starved once its AGE has reached the arbiter's STARVE. -/
def State.marksStarved (s : State) (a : ArbId) (c : Contender) : State :=
  let w := s.waitCycle (c.stamp + (s.starveLimit a).1)
  let v : State := { w with rings := { w.rings with starved := w.rings.starved ++ [(c.input, c.vc, c.stamp)] } }
  (((v.setReg R.rq_STARVED c.requester 1).inc R.rq_STARVE_COUNT c.requester).inc R.arb_STARVE_EVENTS).raise 0x4101
    (c.requester + (s.starveLimit a).2 * 2 ^ 12)

theorem marksStarved_rings (s : State) (a : ArbId) (c : Contender) : (s.marksStarved a c).rings = { s.rings with
    cycle := max s.rings.cycle (c.stamp + (s.starveLimit a).1), starved := s.rings.starved ++ [(c.input, c.vc, c.stamp)] } := by
  simp only [State.marksStarved, raise_rings, inc_rings, setReg_rings, waitCycle_rings]

theorem exec_starvation {s : State} {a : ArbId} {c : Contender} (ha : a.wf = true) (hc : s.unmarked a = [c]) :
    exec (.starvation a) s = .next (s.ran (s.marksStarved a c)) := by
  have hop : opStarvation a s = s.marksStarved a c := by
    unfold State.unmarked at hc
    simp only [opStarvation, hc]
    rfl
  exact hop ▸ command_next s ha _

/-- Settles O18: each command by its equation, the registers and the rings it leaves by what the raising of events leaves alone. -/
theorem ringEpochsAndStarvation : Obligations.RingEpochsAndStarvation := by
  unfold Obligations.RingEpochsAndStarvation
  refine ⟨fun t c s hc => ?swap, fun t s hon hnone => ?ends, fun t s hon hbound hsome => ?bound, fun a c s ha hc => ?starves⟩
  case swap =>
    have hrings : (s.ran (opSlotTableSwap t s)).rings = { s.rings with
        cycle := max s.rings.cycle c, swapAt := none, swappedAt := c, active := s.rings.shadow, shadow := s.rings.active } :=
      (ran_rings s _).trans (slotTableSwap_rings hc t)
    refine ⟨_, exec_slotTableSwap t s, ?_, ?_, ?_, le_ringCycle ?_⟩
    · rw [hrings]
    · rw [hrings]
    · rw [hrings]
    · rw [hrings]
      exact Nat.le_max_right _ _
  case ends =>
    rw [exec_epochDrainEnd hon hnone, State.endDrain, advanceTo_rings, advanceTo_reg]
  case bound =>
    refine ⟨_, exec_epochDrainBound hon hbound hsome, ?_, ?_, ?_⟩
    · rw [ran_reg _ _ (by decide), endDrain_draining]
    · rw [ran_reg _ _ (by decide), endDrain_reg _ (by decide) (by decide) (by decide), breach_reg _ (by decide), State.add, reg_setReg_same,
        dropOld_reg, advanceTo_reg]
    · rw [← dropOld_oldFlits (s.advanceTo t)]
      refine oldFlits_congr ?_ ?_ ?_ ?_
      · rw [ran_rings, endDrain_rings, breach_rings, add_rings]
      · rw [ran_rings, endDrain_rings, breach_rings, add_rings]
      · rw [ran_rings, endDrain_rings, breach_rings, add_rings]
      · rw [ran_reg _ _ (by decide), endDrain_reg _ (by decide) (by decide) (by decide), breach_reg _ (by decide), reg_add_of_ref _ (by decide)]
  case starves =>
    refine ⟨_, exec_starvation ha hc, ?_, ?_, le_ringCycle ?_, ?_⟩
    · rw [ran_reg _ _ (by decide), State.marksStarved, raise_reg _ (by decide), reg_inc_of_ref _ (by decide), reg_inc_of_ref _ (by decide),
        reg_setReg_same]
      rfl
    · rw [ran_rings, marksStarved_rings]
    · rw [ran_rings, marksStarved_rings]
      exact Nat.le_max_right _ _
    · rw [ran_reg _ _ (by decide), State.marksStarved, raise_reg _ (by decide), reg_inc_same, reg_inc_of_ref _ (by decide),
        reg_setReg_of_ref _ (by decide)]
      exact congrArg (fun n => (n + 1) % 2 ^ R.arb_STARVE_EVENTS.bits) (waitCycle_reg s _ _ _)

end Sys2Proof.Machine
end

section
/-! Reads in several runs: a run asked of the stop's own target sets out at once (R267, R297). -/

namespace Sys2Proof.Machine

@[simp] theorem setBuffer_held (s : State) (i : Nat) (vc : VC) (l : List Buffered) : (s.setBuffer i vc l).rings.held = s.rings.held := by
  obtain ⟨x, h⟩ := ingressUntil_eq s i
  simp only [State.setBuffer, h]

@[simp] theorem pushFlit_held (s : State) (i p c : Nat) (f : Flit) : (s.pushFlit i p c f).rings.held = s.rings.held := by
  unfold State.pushFlit State.vcPeak
  dsimp only
  split
  · exact setBuffer_held s _ _ _
  · split
    · exact setBuffer_held s _ _ _
    · exact setBuffer_held s _ _ _

/-- A flit for the stop's own target needs no segment: the time limit of its transfer begins as it is handed over. -/
theorem inject_held_own {s : State} {g : Nat} {f : Flit} (hdst : flitDst f = g) (hsrc : flitSrc f = g) (p : Nat) :
    (s.inject g p f).rings.held = (s.startHeld g f.tag).rings.held := by
  simp only [State.inject, hdst, hsrc, and_self, if_true, pushFlit_held]

theorem exec_readResponseReceive {g : Nat} (hg : g < 386) (tag : Nat) (a : ReadAnswer) (s : State) :
    exec (.readResponseReceive g tag a) s = .next (s.ran (opReadResponseReceive g tag a s)) := command_next s (decide_eq_true hg) _

/-- A read of two words by move engine 0, one run to a word, whose time limit has not begun: the first word lies in slice 1, the second in slice 0, at
whose stop the engine sits. -/
def twoRuns : HeldTransfer :=
  { stop := 12, tag := 5, kind := .move, unit := 0, write := false, vc := .vc1, addrs := [scratchBase + 1024, scratchBase],
    asks := [[(0, scratchBase + 1024)], [(1, scratchBase)]] }

/-- What the read still asks for once its first run has brought a word. -/
def secondRun : HeldTransfer := { twoRuns with asks := twoRuns.asks.drop 1, got := [(0, (7, false))] }

/-- Stop 12 holds the read. -/
def holdsTwoRuns : State := { State.reset with rings := { held := [twoRuns] } }

/-- The second run sets out, and with it the time limit of the read begins. -/
theorem twoRuns_answered :
    (opReadResponseReceive 12 5 (.words [(7, false)]) holdsTwoRuns).rings.held = [{ secondRun with since := some holdsTwoRuns.mono }] := by
  have hop : opReadResponseReceive 12 5 (.words [(7, false)]) holdsTwoRuns =
      { holdsTwoRuns.silent with rings := { held := [secondRun] } }.askRun 512 secondRun := rfl
  rw [hop]
  exact inject_held_own (f := mkFlit 12 12 .vc1 .read 5 0 true (encodeWord (requestWord scratchBase 1 false)) none false false none) rfl rfl 512

/-- Refutes O19: its last clause takes a held read to change nothing but its runs when the next of them is asked. Of a read none of whose flits
has set out, a run that asks the target of the stop itself needs no segment, and so the read's time limit begins with it (R297); the clause leaves
no such read out. -/
theorem not_ringsCarryTransfers : ¬ Obligations.RingsCarryTransfers := by
  unfold Obligations.RingsCarryTransfers
  rintro ⟨-, -, -, -, -, -, -, -, hnext⟩
  obtain ⟨u, hexec, -, hsame⟩ := hnext 12 5 [(7, false)] twoRuns holdsTwoRuns (by decide) (by decide) rfl
  rw [exec_readResponseReceive (by decide)] at hexec
  injection hexec with hu
  rw [← hu, ran_rings, twoRuns_answered] at hsame
  exact absurd hsame (by decide)

end Sys2Proof.Machine
end

section
/-! Arbiter decisions (R281, R283, R284). -/

namespace Sys2Proof.Machine

/-! ### The order of the keys (R283) -/

theorem keysBefore_irrefl : ∀ x : List Nat, keysBefore x x = false
  | [] => rfl
  | a :: x => by simp only [keysBefore, Nat.lt_irrefl, decide_false, keysBefore_irrefl x, Bool.and_false, Bool.or_self]

/-- Keys of one length are ordered: what lies between two of them comes after the first or before the second. -/
theorem keysBefore_between : ∀ {x y z : List Nat}, x.length = y.length → y.length = z.length → keysBefore x z = true →
    keysBefore x y = true ∨ keysBefore y z = true
  | [], _, _, _, _, h => by simp only [keysBefore, Bool.false_eq_true] at h
  | _ :: _, [], _, hxy, _, _ => absurd hxy (Nat.succ_ne_zero _)
  | _ :: _, _ :: _, [], _, hyz, _ => absurd hyz (Nat.succ_ne_zero _)
  | a :: x, b :: y, c :: z, hxy, hyz, h => by
    have ih := keysBefore_between (x := x) (y := y) (z := z) (Nat.succ.inj hxy) (Nat.succ.inj hyz)
    simp only [keysBefore, Bool.or_eq_true, Bool.and_eq_true, decide_eq_true_eq, beq_iff_eq] at h ⊢
    rcases h with h | ⟨rfl, h⟩
    · omega
    · rcases Nat.lt_trichotomy a b with hab | rfl | hab
      · exact .inl (.inl hab)
      · rcases ih h with h | h
        · exact .inl (.inr ⟨rfl, h⟩)
        · exact .inr (.inr ⟨rfl, h⟩)
      · exact .inr (.inl hab)

/-- What does not come before one that does not come before a third does not come before that third. -/
theorem not_keysBefore_trans {x y z : List Nat} (hxy : x.length = y.length) (hyz : y.length = z.length) (h : keysBefore x y = false)
    (h' : keysBefore y z = false) : keysBefore x z = false := by
  refine Bool.eq_false_iff.mpr fun hxz => ?_
  rcases keysBefore_between hxy hyz hxz with hb | hb
  · exact Bool.eq_false_iff.mp h hb
  · exact Bool.eq_false_iff.mp h' hb

/-- Of two keys of one length only one comes before the other. -/
theorem keysBefore_asymm {x y : List Nat} (hlen : x.length = y.length) (h : keysBefore x y = true) : keysBefore y x = false := by
  refine Bool.eq_false_iff.mpr fun hyx => ?_
  induction x generalizing y with
  | nil => simp only [keysBefore, Bool.false_eq_true] at h
  | cons a x ih =>
    cases y with
    | nil => exact absurd hlen (Nat.succ_ne_zero _)
    | cons b y =>
      simp only [keysBefore, Bool.or_eq_true, Bool.and_eq_true, decide_eq_true_eq, beq_iff_eq] at h hyx
      rcases h with h | ⟨hab, h⟩
      · omega
      · rcases hyx with hyx | ⟨-, hyx⟩
        · omega
        · exact ih (Nat.succ.inj hlen) h hyx

/-- Of two candidates the one to be preferred: the second where its keys come before the first's. -/
def preferred {α : Type} (key : α → List Nat) (b y : α) : α := if keysBefore (key y) (key b) then y else b

/-- Neither of the two comes before the one preferred. -/
theorem not_keysBefore_preferred {α : Type} {key : α → List Nat} {n : Nat} (hn : ∀ x, (key x).length = n) (b y : α) :
    keysBefore (key b) (key (preferred key b y)) = false ∧ keysBefore (key y) (key (preferred key b y)) = false := by
  unfold preferred
  split
  · next h => exact ⟨keysBefore_asymm ((hn y).trans (hn b).symm) h, keysBefore_irrefl _⟩
  · next h => exact ⟨keysBefore_irrefl _, Bool.eq_false_iff.mpr h⟩

theorem preferred_eq {α : Type} (key : α → List Nat) (b y : α) : preferred key b y = b ∨ preferred key b y = y := by
  unfold preferred
  split
  · exact .inr rfl
  · exact .inl rfl

/-- The candidate preferred over a whole list is one of it, and none of it comes before. -/
theorem foldl_preferred {α : Type} {key : α → List Nat} {n : Nat} (hn : ∀ x, (key x).length = n) (x : α) (t : List α) :
    t.foldl (preferred key) x ∈ x :: t ∧ ∀ y ∈ x :: t, keysBefore (key y) (key (t.foldl (preferred key) x)) = false := by
  have hlen : ∀ a b, (key a).length = (key b).length := fun a b => (hn a).trans (hn b).symm
  induction t generalizing x with
  | nil =>
    refine ⟨List.mem_cons_self, fun y hy => ?_⟩
    rw [List.mem_singleton.mp hy]
    exact keysBefore_irrefl _
  | cons z t ih =>
    obtain ⟨hmem, hmin⟩ := ih (preferred key x z)
    obtain ⟨hx, hz⟩ := not_keysBefore_preferred hn x z
    have hfirst := hmin _ List.mem_cons_self
    rw [List.foldl_cons]
    refine ⟨?_, fun y hy => ?_⟩
    · rcases List.mem_cons.mp hmem with h | h
      · rw [h]
        rcases preferred_eq key x z with e | e
        · exact e.symm ▸ List.mem_cons_self
        · exact e.symm ▸ List.mem_cons_of_mem _ List.mem_cons_self
      · exact List.mem_cons_of_mem _ (List.mem_cons_of_mem _ h)
    · rcases List.mem_cons.mp hy with rfl | hy
      · exact not_keysBefore_trans (hlen _ _) (hlen _ _) hx hfirst
      · rcases List.mem_cons.mp hy with rfl | hy
        · exact not_keysBefore_trans (hlen _ _) (hlen _ _) hz hfirst
        · exact hmin y (List.mem_cons_of_mem _ hy)

/-! ### Grants -/

/-- Arbiter `a` grants candidate `c`: PTR advances, `c` holds the output, and the decision is counted. -/
def State.grants (s : State) (a : ArbId) (c : Contender) : State :=
  (({ s with rings := { s.rings with pointers := tput (fun _ => 0) (arbKey a) ((s.arbPtr a + 1) % 386) s.rings.pointers } } : State).holdOutput a
    c).inc R.arb_DECISIONS

/-- Where some candidate has room, one of those is granted before which none of them comes. -/
theorem arbGrant_grants {s : State} {a : ArbId} (h : ((s.contenders a).filter fun c => s.roomFor a c) ≠ []) :
    ∃ c, c ∈ s.contenders a ∧ s.roomFor a c = true ∧
      (∀ y ∈ s.contenders a, s.roomFor a y = true → keysBefore (s.candKeys a y) (s.candKeys a c) = false) ∧ s.arbGrant a = s.grants a c := by
  obtain ⟨x, t, hl⟩ := List.exists_cons_of_ne_nil h
  obtain ⟨hmem, hmin⟩ := foldl_preferred (key := s.candKeys a) (n := 5) (fun _ => rfl) x t
  rw [← hl] at hmem hmin
  obtain ⟨hc, hroom⟩ := List.mem_filter.mp hmem
  refine ⟨_, hc, hroom, fun y hy hyroom => hmin y (List.mem_filter.mpr ⟨hy, hyroom⟩), ?_⟩
  simp only [State.arbGrant, hl]
  rfl

theorem grants_holding (s : State) (a : ArbId) (c : Contender) :
    (s.grants a c).rings.holding = s.rings.holding ++ [⟨a, c.input, c.vc, 0, s.ringCycle⟩] := rfl

theorem grants_decisions (s : State) (a : ArbId) (c : Contender) :
    (s.grants a c).reg R.arb_DECISIONS = (s.reg R.arb_DECISIONS + 1) % 2 ^ R.arb_DECISIONS.bits := reg_inc_same _ _ _

/-! ### The command -/

theorem exec_arbiterDecision {a : ArbId} (ha : a.wf = true) (s : State) :
    exec (.arbiterDecision a) s = .next (s.ran (opArbiterDecision a s)) := command_next s ha _

/-- What an arbiter finds: its inputs have been dealt with. -/
def State.arbReady (s : State) (a : ArbId) : State := s.silent.each (arbInputs a) State.settleInput

/-- The output leads onto a ring. -/
def arbTowardRing : ArbId → Bool
  | .exchange k => decide (k < 16)
  | _ => false

/-- What an arbiter decides on what it finds. -/
def State.arbDecides (v : State) (a : ArbId) : State :=
  match v.holder a with
  | none => if v.vc0Holds a then v else v.arbGrant a
  | some h =>
    if arbTowardRing a || !runWhole (v.headAt h.input h.vc) then v
    else (((v.waitCycle (v.lastBeat h)).finishHolder h).settleInput h.input).arbGrant a

theorem arbiterDecision_eq (a : ArbId) (s : State) : opArbiterDecision a s = (s.arbReady a).arbDecides a := rfl

theorem arbDecides_free {v : State} {a : ArbId} (hfree : v.holder a = none) (hout : v.vc0Holds a = false) : v.arbDecides a = v.arbGrant a := by
  simp only [State.arbDecides, hfree, hout, Bool.false_eq_true, if_false]

theorem arbDecides_waits {v : State} {a : ArbId} (hfree : v.holder a = none) (hout : v.vc0Holds a = true) : v.arbDecides a = v := by
  simp only [State.arbDecides, hfree, hout, if_true]

/-- The outputs toward a ring are FLIT_SEND's to finish; at any other a transfer that has come whole is finished. -/
theorem arbDecides_finishes {v : State} {a : ArbId} {h : Holder} (hheld : v.holder a = some h) (hport : ∀ k, a = .exchange k → 16 ≤ k)
    (hwhole : runWhole (v.headAt h.input h.vc) = true) :
    v.arbDecides a = (((v.waitCycle (v.lastBeat h)).finishHolder h).settleInput h.input).arbGrant a := by
  have hother : arbTowardRing a = false := by
    cases a with
    | exchange k => exact decide_eq_false (Nat.not_lt.mpr (hport k rfl))
    | slice k => rfl
    | pc n => rfl
  simp only [State.arbDecides, hheld, hwhole, hother, Bool.not_true, Bool.or_self, Bool.false_eq_true, if_false]

end Sys2Proof.Machine
end

section
/-! Partial transfers that hear nothing for 2 µs (R296). -/

namespace Sys2Proof.Machine

/-! ### Inputs of a segment -/

theorem inputOf_div {dir : Nat} (hd : dir < 2) (g : Nat) : inputOf g dir / 3 = g := by
  unfold inputOf
  omega

theorem inputOf_lt {g dir : Nat} (hg : g < 384) (hd : dir < 2) : inputOf g dir < 1152 := by
  unfold inputOf
  omega

/-- Where nothing waits at an input of a segment, there is nothing to deal with. -/
theorem settleInput_of_empty {s : State} {input : Nat} (hi : input < 1152) (h : ∀ vc, s.buffer input vc = []) : s.settleInput input = s := by
  have hfill : s.fillPort input = s := if_pos hi
  have hvcs : s.each allVcs (fun u vc => State.settleVc input vc (u.buffer input vc).length u) = s :=
    each_of_idle s fun vc _ => by rw [h vc]; rfl
  have htake : s.takePort input = s := by
    unfold State.takePort
    split
    · rfl
    · simp only [State.contender, h .vc0]
  simp only [State.settleInput, hfill, hvcs, htake]

/-! ### A discard -/

/-- A transfer that lets an output go changes the outputs held, the transfers being sent, and the revocations to be told. -/
theorem letGo_eq (s : State) (h : Holder) :
    ∃ held busy told, s.letGo h = { s with rings := { s.rings with holding := held, busy := busy, revokes := told } } := by
  have hstop : ∀ (u : State) (g src : Nat) (vc : VC),
      ∃ busy told, u.stopSending g src vc = { u with rings := { u.rings with busy := busy, revokes := told } } := fun u g src vc => by
    refine each_induct (fun v => ∃ busy told, v = { u with rings := { u.rings with busy := busy, revokes := told } }) _ ?_ ⟨_, _, rfl⟩ _
    rintro _ d ⟨busy, told, rfl⟩
    dsimp only
    split
    · exact ⟨_, _, rfl⟩
    · exact ⟨_, _, rfl⟩
  unfold State.letGo
  dsimp only
  split
  · split
    · obtain ⟨busy, told, e⟩ := hstop { s with rings := { s.rings with holding := s.rings.holding.erase h } } _ 2 h.vc
      exact ⟨_, busy, told, e⟩
    · exact ⟨_, _, _, rfl⟩
  · exact ⟨_, _, _, rfl⟩

theorem letGo_all_eq (s : State) (l : List Holder) :
    ∃ held busy told, s.each l State.letGo = { s with rings := { s.rings with holding := held, busy := busy, revokes := told } } := by
  refine each_induct (fun v => ∃ held busy told, v = { s with rings := { s.rings with holding := held, busy := busy, revokes := told } }) _ ?_
    ⟨_, _, _, rfl⟩ l
  rintro _ h ⟨held, busy, told, rfl⟩
  obtain ⟨held', busy', told', e⟩ := letGo_eq { s with rings := { s.rings with holding := held, busy := busy, revokes := told } } h
  exact ⟨held', busy', told', e⟩

/-- The buffers of an input when VC `vc` has been emptied. -/
def State.emptiedBufs (s : State) (input : Nat) (vc : VC) : List (Nat × List Buffered) := tput (fun _ => []) (4 * input + vcCode vc) [] s.rings.bufs

/-- The credits to be returned when those of `n` flits of VC `vc` are owed again. -/
def State.owedMore (s : State) (input : Nat) (vc : VC) (n : Nat) : List (Nat × Nat) :=
  tput (fun _ => 0) (4 * input + vcCode vc) (s.owed input vc + n) s.rings.returns

theorem emptiedBufs_same (s : State) (input : Nat) (vc : VC) :
    tget (fun _ => []) (s.emptiedBufs input vc) (4 * input + vcCode vc) = [] := tget_tput_same _ _ _ _

theorem owedMore_same (s : State) (input : Nat) (vc : VC) (n : Nat) :
    tget (fun _ => 0) (s.owedMore input vc n) (4 * input + vcCode vc) = s.owed input vc + n := tget_tput_same _ _ _ _

/-- Where no last flit has come, the open transfer is all that the buffer holds. -/
theorem openTail_of_open {l : List Buffered} (h : ∀ b ∈ l, b.flit.last = false) : openTail l = l := by
  have hall : (l.reverse.takeWhile fun b => !b.flit.last) = l.reverse := by
    have hopen := List.takeWhile_append_of_pos (p := fun b : Buffered => !b.flit.last) (l₁ := l.reverse) (l₂ := [])
      fun b hb => by rw [h b (List.mem_reverse.mp hb)]; rfl
    simpa only [List.append_nil, List.takeWhile_nil] using hopen
  rw [openTail, hall, List.reverse_reverse]

/-- A buffer that holds nothing but an open transfer is emptied, its credits are owed again, and the discard is counted. -/
theorem discardTail_open {s : State} {input : Nat} {vc : VC} (hg : input / 3 < 384) (hsome : s.buffer input vc ≠ [])
    (hopen : ∀ b ∈ s.buffer input vc, b.flit.last = false) :
    ∃ streams held busy told starved acks, s.discardTail input vc true = { s.inc R.stop_PARTIAL_DISCARDS (input / 3) with
      streams := streams
      rings := { s.rings with
        bufs := s.emptiedBufs input vc, returns := s.owedMore input vc (s.buffer input vc).length, holding := held, busy := busy,
        revokes := told, starved := starved, acks := acks } } := by
  obtain ⟨b, t, hl⟩ := List.exists_cons_of_ne_nil hsome
  obtain ⟨streams, hu⟩ := ingressUntil_eq s input
  have hhead : (s.buffer input vc).head? = some b := by rw [hl]; rfl
  simp only [State.discardTail, openTail_of_open hopen, hhead, Nat.sub_self, List.take_zero, if_true, Bool.not_true, Bool.false_eq_true,
    if_false, hg]
  obtain ⟨held, busy, told, hlet⟩ := letGo_all_eq ((s.setBuffer input vc []).returnCredit input vc (s.buffer input vc).length)
    (((s.setBuffer input vc []).returnCredit input vc (s.buffer input vc).length).rings.holding.filter fun h => h.input == input && h.vc == vc)
  rw [hlet]
  simp only [State.setBuffer, hu, State.sendMasterAck]
  split
  · split
    · exact ⟨_, _, _, _, _, _, rfl⟩
    · exact ⟨_, _, _, _, _, _, rfl⟩
  · exact ⟨_, _, _, _, _, _, rfl⟩

/-! ### The command -/

theorem vcOf_vcCode (v : VC) : vcOf (vcCode v) = v := by cases v <;> rfl

theorem vcCode_injective {v w : VC} (h : vcCode v = vcCode w) : v = w := by rw [← vcOf_vcCode v, h, vcOf_vcCode]

theorem exec_partialTransferTimeout {g dir : Nat} (hg : g < 384) (hd : dir < 2) (vc : VC) (s : State) :
    exec (.partialTransferTimeout g dir vc) s = .next (s.ran (opPartialTransferTimeout g dir vc s)) :=
  command_next s (by simp only [hg, hd, decide_true, Bool.and_self]) _

/-- The buffer's last flit came 4,000 ring cycles before: what it holds of its transfer is discarded, and nothing is left to deal with. -/
theorem partialTransferTimeout_discards {s : State} {g dir : Nat} {vc : VC} {b : Buffered} (hg : g < 384) (hd : dir < 2)
    (hopen : ∀ b ∈ s.buffer (inputOf g dir) vc, b.flit.last = false) (hother : ∀ v, v ≠ vc → s.buffer (inputOf g dir) v = [])
    (hlast : (s.buffer (inputOf g dir) vc).getLast? = some b) :
    ∃ streams held busy told starved acks,
      opPartialTransferTimeout g dir vc s = { (s.waitCycle (b.since + 4000)).inc R.stop_PARTIAL_DISCARDS g with
        streams := streams
        rings := { s.rings with
          cycle := max s.rings.cycle (b.since + 4000), bufs := s.emptiedBufs (inputOf g dir) vc,
          returns := s.owedMore (inputOf g dir) vc (s.buffer (inputOf g dir) vc).length, holding := held, busy := busy, revokes := told,
          starved := starved, acks := acks } } := by
  have hbuf : ∀ v, (s.waitCycle (b.since + 4000)).buffer (inputOf g dir) v = s.buffer (inputOf g dir) v := fun v => by
    simp only [State.buffer, waitCycle_rings]
  have hsome : s.buffer (inputOf g dir) vc ≠ [] := fun h => by
    simp only [h, List.getLast?_nil, reduceCtorEq] at hlast
  obtain ⟨streams, held, busy, told, starved, acks, hdiscard⟩ := discardTail_open (s := s.waitCycle (b.since + 4000)) (input := inputOf g dir)
    (vc := vc) (by rwa [inputOf_div hd]) (by rwa [hbuf]) (by rwa [hbuf])
  refine ⟨streams, held, busy, told, starved, acks, ?_⟩
  have hempty : ∀ v, ((s.waitCycle (b.since + 4000)).discardTail (inputOf g dir) vc true).buffer (inputOf g dir) v = [] := fun v => by
    rw [hdiscard, State.buffer]
    by_cases hv : v = vc
    · rw [hv]
      exact emptiedBufs_same _ _ _
    · have hkey : 4 * inputOf g dir + vcCode v ≠ 4 * inputOf g dir + vcCode vc := fun h => hv (vcCode_injective (by omega))
      simp only [State.emptiedBufs, tget_tput_ne _ hkey]
      exact (hbuf v).trans (hother v hv)
  simp only [opPartialTransferTimeout, openTail_of_open hopen, hlast]
  rw [settleInput_of_empty (inputOf_lt hg hd) hempty, hdiscard, inputOf_div hd, hbuf]
  simp only [waitCycle_rings, State.emptiedBufs, State.owedMore, State.owed]

end Sys2Proof.Machine
end

section
/-! Transfers that get no answer in their time (R297). -/

namespace Sys2Proof.Machine

/-! ### What a master learns of a lost write -/

/-- The registers that a master's loss may write: an engine's and a port's, a core's STATE, and the scheduler's. -/
def lossRefs : List Nat :=
  [R.eng_LAST_FAULT.ref, R.eng_LAST_FAULT_NODE.ref, R.eng_PARAM_FAULTS.ref, R.eng_STATE.ref, R.eng_OPERATIONS.ref, R.eng_BUSY_NS.ref,
   R.port_LOST.ref, R.port_READS_OUT.ref, R.port_WRITES_OUT.ref, R.port_PRESENT.ref, R.core_STATE.ref] ++ schedRefs

/-- A property of the state that a master's loss does not reach, and that the passing of time keeps. -/
structure LossKeeps (P : State → Prop) : Prop where
  sched : ∀ (s : State) (x : Sched), P { s with sched := x } = P s
  adm : ∀ (s : State) (l : List Nat), P { s with adm := { s.adm with breached := l } } = P s
  engines : ∀ (s : State) (x : Engines), P { s with engines := x } = P s
  fabric : ∀ (s : State) (x : Fabric), P { s with fabric := x } = P s
  streams : ∀ (s : State) (x : Streams), P { s with streams := x } = P s
  dusk : ∀ (s : State) (x : Dusk), P { s with dusk := x } = P s
  took : ∀ s : State, P s.took = P s
  answers : ∀ (s : State) (l : List Byte), P (s.answerWith l) = P s
  reg : ∀ (s : State) (r : Reg) (i v : Nat), r.ref ∈ lossRefs → P (s.setReg r i v) = P s
  raise : ∀ (s : State) (c d : Nat), P (s.raise c d) = P s
  time : ∀ (s : State) (t : Nat), P s → P (s.waitUntil t)

namespace LossKeeps

variable {P : State → Prop} (k : LossKeeps P) (s : State)
include k

theorem schedule : P s.schedule = P s :=
  SchedKeeps.schedule ⟨fun s x _ _ _ _ _ _ => k.sched s x, k.adm, fun s r i v h => k.reg s r i v (List.mem_append_right _ h), k.raise⟩ s

theorem setRun (o : Nat) (r : Option RunOp) : P (s.setRun o r) = P s := k.engines s _

theorem inc {r : Reg} (h : r.ref ∈ lossRefs) (i : Nat) : P (s.inc r i) = P s := k.reg s r i _ h

/-! ### Engines (R163, R191) -/

theorem engineFault (e code : Nat) (r : RunOp) : P (s.engineFault e code r) = P s := by
  have hmet : ∀ u : State, P (u.metEvent e r.met) = P u := fun u => by
    unfold State.metEvent
    split
    · rfl
    · exact k.raise u _ _
  have hdone : ∀ u : State, P (u.engineDone e r) = P u := fun u => by
    rw [State.engineDone, State.add, k.reg _ R.eng_BUSY_NS _ _ (by decide), k.inc (r := R.eng_OPERATIONS) _ (by decide),
      k.reg _ R.eng_STATE _ _ (by decide), k.setRun]
  have hfault : ∀ u : State, P ((u.setReg R.eng_LAST_FAULT e code).setReg R.eng_LAST_FAULT_NODE e r.node) = P u := fun u => by
    rw [k.reg _ R.eng_LAST_FAULT_NODE _ _ (by decide), k.reg _ R.eng_LAST_FAULT _ _ (by decide)]
  simp only [State.engineFault, k.answers, hdone, k.raise, hmet]
  split
  · rw [k.inc (r := R.eng_PARAM_FAULTS) _ (by decide), hfault]
  · exact hfault s

theorem engineAcked (e : Nat) : P (s.engineAcked e) = P s := by
  unfold State.engineAcked
  split
  · split
    · exact k.engineFault s _ _ _
    · rfl
  · rfl

/-! ### Fabric ports (R331, R345) -/

theorem onPort (q : Nat) (u : PortRun → PortRun) : P (s.onPort q u) = P s := k.fabric s _

theorem portCounts (q : Nat) : P (s.portCounts q) = P s := by
  simp only [State.portCounts, k.reg _ R.port_WRITES_OUT _ _ (by decide), k.reg _ R.port_READS_OUT _ _ (by decide)]

theorem substituteAbsent (o : Oper) (n : Nat) : P (s.substituteAbsent o n) = P s :=
  SchedKeeps.substituteAbsent
    ⟨fun s x _ _ _ _ _ _ => k.sched s x, k.adm, fun s r i v h => k.reg s r i v (List.mem_append_right _ h), k.raise⟩ s o n

theorem operatorGone (o : Nat) : P (s.operatorGone o) = P s := by
  unfold State.operatorGone
  dsimp only
  rw [k.schedule, k.setRun, each_keeps P]
  intro u x
  rw [k.substituteAbsent, k.sched]

theorem refreshPort (q cause : Nat) : P (s.refreshPort q cause) = P s := by
  simp only [State.refreshPort]
  split
  · rfl
  · split
    · rw [k.raise, k.reg _ R.port_PRESENT _ _ (by decide)]
    · rw [k.operatorGone, k.portCounts, k.onPort, k.raise, k.reg _ R.port_PRESENT _ _ (by decide)]

theorem portWriteAnswer (q ring status : Nat) : P (s.portWriteAnswer q ring status) = P s := by
  unfold State.portWriteAnswer
  split
  · rfl
  · dsimp only
    rw [k.refreshPort, k.portCounts]
    split <;> split <;> simp only [k.onPort, k.inc (r := R.port_LOST) _ (by decide)]

/-! ### The window of core 1 (R444) -/

theorem onCore (c : Nat) (u : Core → Core) : P (s.onCore c u) = P s := by
  unfold State.onCore
  split
  · exact k.dusk s _
  · exact k.dusk s _

theorem coreState (c v : Nat) : P (s.coreState c v) = P s := by
  have h : P (s.setReg R.core_STATE c v) = P s := k.reg s _ _ _ (by decide)
  simp only [State.coreState]
  split
  · rfl
  · split
    · rw [k.raise, h]
    · exact h

theorem haltCore (c cause unit : Nat) (h : P s) : P (s.haltCore c cause unit) := by
  have hstep : P (s.endStep c) := by
    unfold State.endStep
    split
    · exact h
    · rw [k.onCore]
      exact k.time s _ h
  have hfreeze : ∀ u : State, P (u.freezeLeases (c + 1)) = P u := fun u => by
    unfold State.freezeLeases
    refine each_keeps P _ (fun w n => ?_) u _
    split
    · exact k.dusk w _
    · rfl
  simp only [State.haltCore]
  rwa [k.raise, k.coreState, hfreeze, k.onCore]

theorem haltIfDue (c : Nat) (h : P s) : P (s.haltIfDue c) := by
  unfold State.haltIfDue
  split
  · split
    · exact k.haltCore s _ _ _ h
    · exact h
  · exact h

theorem windowDone (tag : Nat) (h : P s) : P (s.windowDone tag none) := by
  unfold State.windowDone
  split
  · exact h
  · dsimp only
    apply k.haltIfDue
    split <;> simpa only [k.onCore, k.took] using h

/-! ### Masters (R297) -/

theorem masterLoses (h : HeldTransfer) (hP : P s) : P (s.masterLoses h) := by
  have hflag : ∀ o, P (match s.runOp o with | some r => s.setRun o (some { r with flagged := true }) | none => s) := fun o => by
    split
    · rwa [k.setRun]
    · exact hP
  unfold State.masterLoses
  dsimp only
  split
  · rw [k.engineAcked]
    exact hflag h.unit
  · exact hflag (32 + h.unit)
  · rwa [k.portWriteAnswer]
  · exact (k.streams s _).symm ▸ hP
  · exact k.windowDone s _ hP
  · exact hP

end LossKeeps

/-! ### The command -/

theorem exec_transferTimeout {g : Nat} (hg : g < 386) (tag : Nat) (s : State) :
    exec (.transferTimeout g tag) s = .next (s.ran (opTransferTimeout g tag s)) := command_next s (decide_eq_true hg) _

/-- The instant at which a held transfer's time is up. -/
def State.heldUntil (s : State) (h : HeldTransfer) (t : Nat) : Nat :=
  t + (if h.vc = .vc0 then s.reg R.rsys_GUAR_TIMEOUT else s.reg R.rsys_BE_TIMEOUT) * 1000

theorem transferTimeout_write {s : State} {g tag t : Nat} {h : HeldTransfer}
    (hheld : s.rings.held.find? (fun x => x.stop == g && x.tag == tag) = some h) (hsince : h.since = some t) (hvc : h.vc ≠ .vc3)
    (hwrite : h.write = true) : opTransferTimeout g tag s = (s.silent.waitUntil (s.heldUntil h t)).writeLost h true := by
  simp only [opTransferTimeout, silent_rings, hheld, hsince, hvc, if_false, hwrite, if_true]
  rfl

/-- `n` transfers of ring `k` have been counted lost, and instant `t` has come. -/
def State.lostBy (k n t : Nat) (s : State) : Prop := s.reg R.ring_LOST_TRANSFERS k = n ∧ t ≤ s.mono

theorem lostBy_lossKeeps (k n t : Nat) : LossKeeps (State.lostBy k n t) where
  sched _ _ := rfl
  adm _ _ := rfl
  engines _ _ := rfl
  fabric _ _ := rfl
  streams _ _ := rfl
  dusk _ _ := rfl
  took _ := rfl
  answers _ _ := rfl
  reg s r i v hr := by
    have href : R.ring_LOST_TRANSFERS.ref ≠ r.ref := fun e => absurd (e ▸ hr) (by decide)
    rw [State.lostBy, State.lostBy, reg_setReg_of_ref _ href, setReg_mono]
  raise s c d := by rw [State.lostBy, State.lostBy, raise_reg _ (by decide), raise_mono]
  time s x h := by
    refine ⟨(waitUntil_reg s x _ _).trans h.1, ?_⟩
    rw [waitUntil_mono]
    exact Nat.le_trans h.2 (Nat.le_max_left _ _)

theorem lostBy_accessKeeps (k n t : Nat) : AccessKeeps (State.lostBy k n t) where
  store _ _ := rfl
  rings _ _ := rfl
  ingress _ _ := rfl
  stale _ _ := rfl
  took _ := rfl
  reg s r i v hr := by
    have href : R.ring_LOST_TRANSFERS.ref ≠ r.ref := fun e => absurd (e ▸ hr) (by decide)
    rw [State.lostBy, State.lostBy, reg_setReg_of_ref _ href, setReg_mono]
  raise s c d := by rw [State.lostBy, State.lostBy, raise_reg _ (by decide), raise_mono]

/-- A lost write is counted once at the ring of its stop, whatever its master makes of the loss. -/
theorem writeLost_lostBy {s : State} {k n t : Nat} {h : HeldTransfer} (hstop : h.stop < 384) (hring : h.stop / 24 = k) (hs : s.lostBy k n t) :
    (s.writeLost h true).lostBy k ((n + 1) % 2 ^ R.ring_LOST_TRANSFERS.bits) t := by
  obtain ⟨hcount, htime⟩ : State.lostBy k n t (State.masterLoses
      (({ s with rings := { s.rings with held := s.rings.held.erase h } } : State).each h.addrs fun u a =>
        u.inject h.stop 512 (mkFlit h.stop (u.targetStop a) h.vc .write 0 0 true poisonWord none true false (some a))) h) := by
    apply (lostBy_lossKeeps k n t).masterLoses
    rw [each_keeps (State.lostBy k n t) _ fun u a => (lostBy_accessKeeps k n t).inject u _ _ _]
    exact hs
  simp only [State.writeLost, if_true, State.countLost, hstop, hring]
  refine ⟨?_, ?_⟩
  · rw [raise_reg _ (by decide), reg_inc_same, hcount]
  · rwa [raise_mono, inc_mono]

end Sys2Proof.Machine
end

section
/-! Segment faults (R298, R299, R300), and what this family says of arbiters and timeouts together. -/

namespace Sys2Proof.Machine

theorem exec_segmentFault {k seg dir : Nat} (hk : k < 16) (hseg : seg < 24) (hd : dir < 3) (t : Nat) (s : State) :
    exec (.segmentFault t k seg dir) s = .next (s.ran (opSegmentFault t k seg dir s)) :=
  command_next s (by simp only [hk, hseg, hd, decide_true, Bool.and_self]) _

theorem ringPresent_congr {s u : State} (h : u.reg R.pres_RINGS = s.reg R.pres_RINGS) (k : Nat) : u.ringPresent k = s.ringPresent k := by
  simp only [State.ringPresent, State.presentBit, h]

/-- The first fault of a ring is kept. -/
theorem segmentFaulty_first {s : State} {k : Nat} (hring : s.ringPresent k = true) (hnone : s.reg R.ring_FAULT_SEGMENT k = 0xFF) (seg : Nat) :
    s.segmentFaulty k seg = s.setReg R.ring_FAULT_SEGMENT k seg := by
  simp only [State.segmentFaulty, hring, hnone, Bool.not_true, Bool.false_eq_true, if_false, if_true]

theorem segmentFault_first {s : State} {k dir : Nat} (hd : dir < 2) (hring : s.ringPresent k = true)
    (hnone : s.reg R.ring_FAULT_SEGMENT k = 0xFF) (t seg : Nat) :
    opSegmentFault t k seg dir s = ((s.advanceTo t).setReg R.ring_FAULT_SEGMENT k seg).takeArrived := by
  have hring' : (s.advanceTo t).ringPresent k = true := (ringPresent_congr (advanceTo_reg s t _ _) k).trans hring
  rw [opSegmentFault, if_pos hd, segmentFaulty_first hring' ((advanceTo_reg s t _ _).trans hnone)]

theorem exec_detourEnter {k : Nat} (hk : k < 16) (t : Nat) (s : State) :
    exec (.detourEnter t k) s = .next (s.ran (opDetourEnter t k s)) := command_next s (decide_eq_true hk) _

/-- The segment directions over segment `seg` of ring `k`, by the stop that sends. -/
def segmentKeys (k seg : Nat) : List Nat := [2 * (24 * k + seg), 2 * (24 * k + (seg + 1) % 24) + 1]

/-- Ring `k` is in DETOUR, and what was on segment `seg` is lost. -/
def State.detoured (s : State) (k seg : Nat) : State :=
  let u := (s.setReg R.ring_STATE k 1).raise 0x4007 (k + seg * 16)
  { u with rings := { u.rings with out := u.rings.out.filter fun p => !(segmentKeys k seg).contains p.1 } }

/-- Impairing an admission changes its own registers. -/
theorem impair_reg {r : Reg} (h : r.ref ∉ raiseRefs) (h1 : r.ref ≠ R.sadm_STATE.ref) (h2 : r.ref ≠ R.sadm_IMPAIRED_BY.ref) (s : State)
    (g i j : Nat) : (s.impair g i).reg r j = s.reg r j := by
  unfold State.impair
  split
  · rw [raise_reg _ h, reg_setReg_of_ref _ h2, reg_setReg_of_ref _ h1]
  · rfl

theorem impair_rings (s : State) (g i : Nat) : (s.impair g i).rings = s.rings := by
  unfold State.impair
  split
  · simp only [raise_rings, setReg_rings]
  · rfl

/-- Entering DETOUR only impairs admissions beside. -/
theorem detourEnter_keeps {β : Type} {f : State → β} (hf : ∀ (u : State) (g i : Nat), f (u.impair g i) = f u) {s : State} {k : Nat}
    (hring : s.ringPresent k = true) (hfault : s.reg R.ring_FAULT_SEGMENT k ≠ 0xFF) (hstate : s.reg R.ring_STATE k = 0) (t : Nat) :
    f (opDetourEnter t k s) = f ((s.advanceTo t).detoured k (s.reg R.ring_FAULT_SEGMENT k)) := by
  have hring' : (s.advanceTo t).ringPresent k = true := (ringPresent_congr (advanceTo_reg s t _ _) k).trans hring
  have hgo : ¬(s.reg R.ring_FAULT_SEGMENT k = 0xFF ∨ s.reg R.ring_STATE k ≠ 0 ∨ (!(s.advanceTo t).ringPresent k) = true) := by
    simp only [hfault, hstate, hring', ne_eq, not_true_eq_false, Bool.not_true, Bool.false_eq_true, or_self, not_false_eq_true]
  simp only [opDetourEnter, advanceTo_reg]
  rw [if_neg hgo]
  refine each_keeps f _ (fun u g => ?_) _ _
  split
  · exact hf u g _
  · rfl

/-- Settles O20: the arbiter by what it decides on what it finds, the timeouts by what a discard or a loss leaves alone, the faults by their
equations. -/
theorem ringArbitersAndFaults : Obligations.RingArbitersAndFaults := by
  unfold Obligations.RingArbitersAndFaults
  refine ⟨fun a v s ha hv hfree hout hroom => ?grants, fun a v s ha hv hfree hout => ?waits, fun a h v s ha hv hheld hport hwhole => ?finishes,
    fun g dir vc s hg hd hsome hopen hother => ?discards, fun g tag t h s hg hheld hsince hvc hwrite => ?loses,
    fun t k seg dir s hk hseg hd hring hnone => ?first, fun t k seg s hk hseg => ?fences, fun t k s hk hring hfault hstate => ?detours⟩
  case grants =>
    obtain rfl : v = s.arbReady a := hv
    obtain ⟨c, hc, hcroom, hmin, hgrant⟩ := arbGrant_grants hroom
    have hop : opArbiterDecision a s = (s.arbReady a).grants a c := by rw [arbiterDecision_eq, arbDecides_free hfree hout, hgrant]
    refine ⟨_, c, exec_arbiterDecision ha s, hc, hcroom, hmin, ?_, ?_⟩
    · rw [ran_rings, hop, grants_holding]
    · rw [ran_reg _ _ (by decide), hop, grants_decisions]
  case waits =>
    obtain rfl : v = s.arbReady a := hv
    rw [exec_arbiterDecision ha, arbiterDecision_eq, arbDecides_waits hfree hout]
  case finishes =>
    obtain rfl : v = s.arbReady a := hv
    rw [exec_arbiterDecision ha, arbiterDecision_eq, arbDecides_finishes hheld hport hwhole]
  case discards =>
    have hlast := List.getLast?_eq_some_getLast hsome
    obtain ⟨streams, held, busy, told, starved, acks, hop⟩ := partialTransferTimeout_discards hg hd hopen hother hlast
    refine ⟨_, exec_partialTransferTimeout hg hd vc s, ?_, ?_, ?_, fun b hb => le_ringCycle ?_⟩
    · rw [State.buffer, ran_rings, hop]
      exact emptiedBufs_same _ _ _
    · rw [ran_reg _ _ (by decide), hop]
      exact (reg_inc_same _ _ _).trans (by rw [waitCycle_reg])
    · rw [State.owed, ran_rings, hop]
      exact owedMore_same _ _ _ _
    · rw [ran_rings, hop, Option.some.inj (hb.symm.trans hlast)]
      exact Nat.le_max_right _ _
  case loses =>
    have hstop : h.stop = g := by
      have hfound := List.find?_some hheld
      simp only [Bool.and_eq_true, beq_iff_eq] at hfound
      exact hfound.1
    have hready : (s.silent.waitUntil (s.heldUntil h t)).lostBy (g / 24) (s.reg R.ring_LOST_TRANSFERS (g / 24)) (s.heldUntil h t) :=
      ⟨waitUntil_reg _ _ _ _, (waitUntil_mono _ _).symm ▸ Nat.le_max_right _ _⟩
    obtain ⟨hcount, htime⟩ := writeLost_lostBy (hstop ▸ hg) (by rw [hstop]) hready
    refine ⟨_, exec_transferTimeout (by omega) tag s, ?_, ?_⟩
    · rw [ran_reg _ _ (by decide), transferTimeout_write hheld hsince hvc hwrite, hcount]
    · rw [ran_mono, transferTimeout_write hheld hsince hvc hwrite]
      exact htime
  case first =>
    rw [exec_segmentFault hk hseg (by omega), segmentFault_first hd hring hnone]
  case fences => exact exec_segmentFault hk hseg (by decide) t s
  case detours =>
    refine ⟨_, exec_detourEnter hk t s, ?_, ?_⟩
    · rw [ran_reg _ _ (by decide), detourEnter_keeps (f := fun u => u.reg R.ring_STATE k)
        (fun u g i => impair_reg (by decide) (by decide) (by decide) u g i k) hring hfault hstate]
      exact (raise_reg _ (by decide) _ _ _).trans (reg_setReg_same _ _ _ _)
    · rw [ran_rings, detourEnter_keeps (f := State.rings) impair_rings hring hfault hstate]
      simp only [State.detoured, segmentKeys, raise_rings, setReg_rings, advanceTo_rings]

end Sys2Proof.Machine
end

section
/-! Freeing locks, closing sessions and halting cores (R433, R457, R544): what they reach, said once. -/

namespace Sys2Proof.Machine

/-- The registers that freeing locks, closing sessions and halting cores may write. -/
def closeRefs : List Nat :=
  [R.lock_OWNER.ref, R.lock_SUSPECT.ref, R.lock_FORCED.ref, R.lu_HELD.ref, R.lu_SUSPECT.ref, R.core_STATE.ref, R.ses_ID.ref,
   R.ses_SOURCE.ref, R.ses_EVENT_MASK.ref, R.stw_SESSIONS.ref, R.stw_LOCK_OWNER.ref]

/-- A change of a core that leaves its program and data RAM alone. -/
def KeepsRams (u : Core → Core) : Prop := ∀ k, (u k).prog = k.prog ∧ (u k).data = k.data

/-- An observation of the state that freeing locks, closing sessions and halting cores do not reach. -/
structure CloseKeeps {β : Type} (g : State → β) : Prop where
  steward : ∀ (s : State) (x : Steward), g { s with steward := x } = g s
  lease : ∀ (s : State) (n : Nat) (l : Lease), g (s.setLease n l) = g s
  onCore : ∀ (s : State) (c : Nat) (u : Core → Core), KeepsRams u → g (s.onCore c u) = g s
  time : ∀ (s : State) (t : Nat), g (s.advanceTo t) = g s
  reg : ∀ (s : State) (r : Reg) (i v : Nat), r.ref ∈ closeRefs → g (s.setReg r i v) = g s
  raise : ∀ (s : State) (c d : Nat), g (s.raise c d) = g s

namespace CloseKeeps

variable {β : Type} {g : State → β} (k : CloseKeeps g) (s : State)
include k

/-! ### Cores that halt (R545) -/

theorem coreState (c v : Nat) : g (s.coreState c v) = g s := by
  have hset : g (s.setReg R.core_STATE c v) = g s := k.reg s _ _ _ (by decide)
  simp only [State.coreState]
  split
  · rfl
  · split
    · rw [k.raise, hset]
    · exact hset

theorem endStep (c : Nat) : g (s.endStep c) = g s := by
  unfold State.endStep
  split
  · rfl
  · refine (k.onCore _ c _ ?_).trans (k.time s _)
    exact fun _ => ⟨rfl, rfl⟩

theorem freezeLeases (who : Nat) : g (s.freezeLeases who) = g s := by
  unfold State.freezeLeases
  refine each_keeps g _ (fun u n => ?_) s _
  split
  · exact k.lease u _ _
  · rfl

theorem haltCore (c cause unit : Nat) : g (s.haltCore c cause unit) = g s := by
  simp only [State.haltCore]
  rw [k.raise, k.coreState, k.freezeLeases, k.onCore, k.endStep]
  exact fun _ => ⟨rfl, rfl⟩

theorem haltIfDue (c : Nat) : g (s.haltIfDue c) = g s := by
  unfold State.haltIfDue
  split
  · split
    · exact k.haltCore s _ _ _
    · rfl
  · rfl

theorem haltSoon (c cause unit : Nat) : g (s.haltSoon c cause unit) = g s := by
  unfold State.haltSoon
  split
  · exact k.haltCore s _ _ _
  · refine k.onCore s c _ ?_
    exact fun _ => ⟨rfl, rfl⟩

/-! ### Interrupt lines (R452) -/

theorem raiseLine (n : Nat) : g (s.raiseLine n) = g s := by
  have hwake : ∀ u : State, g (u.wakeIdle 0) = g u := fun u => by
    unfold State.wakeIdle
    split
    · rw [k.haltIfDue, k.coreState]
    · rfl
  unfold State.raiseLine State.raiseCoreLine
  dsimp only
  rw [hwake]
  split
  · rfl
  · refine k.onCore s 0 _ ?_
    exact fun _ => ⟨rfl, rfl⟩

/-! ### Locks (R457 to R459) -/

theorem lockFree (n : Nat) : g (s.lockFree n) = g s := by
  simp only [State.lockFree]
  rw [k.raiseLine, k.lease, k.reg _ R.lu_HELD _ _ (by decide), k.reg _ R.lock_OWNER _ _ (by decide)]

theorem lockForce (n cause : Nat) : g (s.lockForce n cause) = g s := by
  simp only [State.lockForce, State.inc, State.add]
  rw [k.raise, k.lockFree, k.reg _ R.lock_FORCED _ _ (by decide), k.reg _ R.lu_SUSPECT _ _ (by decide),
    k.reg _ R.lock_SUSPECT _ _ (by decide)]

theorem lockForceAll (who cause : Nat) : g (s.lockForceAll who cause) = g s := by
  unfold State.lockForceAll
  refine each_keeps g _ (fun u n => ?_) s _
  split
  · exact k.lockForce u _ _
  · rfl

/-! ### Sessions (R433) -/

theorem closeSession (n cause : Nat) : g (s.closeSession n cause) = g s := by
  have hown : ∀ u : State, g (if u.reg R.stw_LOCK_OWNER = u.reg R.ses_ID n then u.setWriteLock n 0 else u) = g u := fun u => by
    split
    · rw [State.setWriteLock, k.raise, k.reg _ R.stw_LOCK_OWNER _ _ (by decide)]
    · rfl
  unfold State.closeSession
  split
  · rfl
  · dsimp only
    rw [k.raise, k.reg _ R.stw_SESSIONS _ _ (by decide), State.onSess, k.steward, k.reg _ R.ses_EVENT_MASK _ _ (by decide),
      k.reg _ R.ses_SOURCE _ _ (by decide), k.reg _ R.ses_ID _ _ (by decide), hown, k.lockForceAll]

theorem closeClass (cls cause : Nat) : g (s.closeClass cls cause) = g s :=
  each_keeps g _ (fun u n => k.closeSession u n cause) s _

/-- The end of a service session keeps what its own registers, its key and its TAP instruction do not show. -/
theorem endService (hsession : ∀ (u : State) (i v : Nat), g (u.setReg R.dbg_SESSION i v) = g u)
    (hrights : ∀ (u : State) (i v : Nat), g (u.setReg R.dbg_RIGHTS i v) = g u)
    (hservice : ∀ (u : State) (x : Option (List Byte)) (n : Nat), g (u.onService fun y => { y with key := x, tap := n }) = g u)
    (cause : Nat) : g (s.endService cause) = g s := by
  unfold State.endService
  split
  · rfl
  · dsimp only
    rw [k.raise, k.closeClass]
    exact (hservice _ none _).trans ((hrights _ _ _).trans (hsession _ _ _))

end CloseKeeps

end Sys2Proof.Machine
end

section
/-! Tamper, life-cycle changes, fused keys and recoveries (R312, R536 to R538, R553, R563). -/

namespace Sys2Proof.Machine

variable (s : State)

/-! ### What the end of a service session leaves (R544) -/

theorem closeKeeps_scratch : CloseKeeps State.scratch where
  steward _ _ := rfl
  lease _ _ _ := rfl
  onCore s c u _ := onCore_scratch s c u
  time := advanceTo_scratch
  reg _ _ _ _ _ := rfl
  raise := raise_scratch

theorem closeKeeps_reg {r : Reg} (h : r.ref ∉ raiseRefs) (h2 : r.ref ∉ closeRefs) (j : Nat) : CloseKeeps fun s => s.reg r j where
  steward _ _ := rfl
  lease _ _ _ := rfl
  onCore s c u _ := onCore_reg s c u r j
  time s t := advanceTo_reg s t r j
  reg s q i v hq := reg_setReg_of_ref s (fun e => h2 (by rw [e]; exact hq)) i j v
  raise s c d := raise_reg s h c d j

theorem closeKeeps_adm : CloseKeeps State.adm where
  steward _ _ := rfl
  lease _ _ _ := rfl
  onCore s c u _ := by unfold State.onCore; split <;> rfl
  time := advanceTo_adm
  reg _ _ _ _ _ := rfl
  raise := raise_adm

theorem closeKeeps_commit : CloseKeeps fun s => s.service.commit where
  steward _ _ := rfl
  lease _ _ _ := rfl
  onCore s c u _ := by unfold State.onCore; split <;> rfl
  time s t := by rw [advanceTo_service]
  reg _ _ _ _ _ := rfl
  raise s c d := by rw [raise_service]

theorem endService_scratch (cause : Nat) : (s.endService cause).scratch = s.scratch :=
  closeKeeps_scratch.endService s (fun _ _ _ => rfl) (fun _ _ _ => rfl) (fun _ _ _ => rfl) cause

theorem endService_adm (cause : Nat) : (s.endService cause).adm = s.adm :=
  closeKeeps_adm.endService s (fun _ _ _ => rfl) (fun _ _ _ => rfl) (fun _ _ _ => rfl) cause

theorem endService_commit (cause : Nat) : (s.endService cause).service.commit = s.service.commit :=
  closeKeeps_commit.endService s (fun _ _ _ => rfl) (fun _ _ _ => rfl) (fun _ _ _ => rfl) cause

theorem endService_reg {r : Reg} (h : r.ref ∉ raiseRefs) (h2 : r.ref ∉ closeRefs) (hs : r.ref ≠ R.dbg_SESSION.ref)
    (hr : r.ref ≠ R.dbg_RIGHTS.ref) (cause j : Nat) : (s.endService cause).reg r j = s.reg r j :=
  (closeKeeps_reg h h2 j).endService s (fun _ _ _ => reg_setReg_of_ref _ hs _ _ _) (fun _ _ _ => reg_setReg_of_ref _ hr _ _ _)
    (fun _ _ _ => rfl) cause

/-- No service session is open when one has been ended. -/
theorem endService_session (cause : Nat) : (s.endService cause).reg R.dbg_SESSION = 0 := by
  unfold State.endService
  split
  · next h => simpa [State.on] using h
  · dsimp only
    rw [raise_reg _ (by decide), (closeKeeps_reg (by decide) (by decide) 0).closeClass, onService_reg, reg_setReg_of_ref _ (by decide),
      reg_setReg_same, Nat.zero_mod]

/-! ### Wipes begin (R312, R553) -/

theorem wipe_wiping (h : s.phase ≠ .night) (cause : Nat) : (s.wipe cause).scratch.wiping = true := by
  unfold State.wipe
  rw [if_neg h]

/-- A wipe's cause joins those of the wipe in progress. -/
theorem wipe_cause (h : s.phase ≠ .night) (cause : Nat) : (s.wipe cause).scratch.wipeCause.testBit cause = true := by
  unfold State.wipe
  rw [if_neg h]
  simp [Nat.testBit_or]

theorem wipe_other (cause : Nat) : ∃ x, s.wipe cause = { s with scratch := x } := by
  unfold State.wipe
  split
  · exact ⟨s.scratch, rfl⟩
  · exact ⟨_, rfl⟩

theorem wipe_service (cause : Nat) : (s.wipe cause).service = s.service := by
  obtain ⟨x, h⟩ := wipe_other s cause
  rw [h]

theorem wipe_reg (cause : Nat) (r : Reg) (j : Nat) : (s.wipe cause).reg r j = s.reg r j := by
  obtain ⟨x, h⟩ := wipe_other s cause
  rw [h]
  rfl

theorem wipe_dusk (cause : Nat) : (s.wipe cause).dusk = s.dusk := by
  obtain ⟨x, h⟩ := wipe_other s cause
  rw [h]

theorem startWipe_scratch (cause : Nat) : (s.startWipe cause).scratch = (s.wipe cause).scratch := by
  unfold State.startWipe
  dsimp only
  split
  · rfl
  · exact endService_scratch _ _

theorem startWipe_commit (cause : Nat) : (s.startWipe cause).service.commit = s.service.commit := by
  unfold State.startWipe
  dsimp only
  split
  · rw [wipe_service]
  · rw [endService_commit, wipe_service]

theorem startWipe_reg {r : Reg} (h : r.ref ∉ raiseRefs) (h2 : r.ref ∉ closeRefs) (hs : r.ref ≠ R.dbg_SESSION.ref)
    (hr : r.ref ≠ R.dbg_RIGHTS.ref) (cause j : Nat) : (s.startWipe cause).reg r j = s.reg r j := by
  unfold State.startWipe
  dsimp only
  split
  · exact wipe_reg s _ _ _
  · rw [endService_reg _ h h2 hs hr, wipe_reg]

/-- Unless core 1 is halted, a wipe ends the service session at once. -/
theorem startWipe_session (h : s.dusk.core1.haltedAt = none) (cause : Nat) : (s.startWipe cause).reg R.dbg_SESSION = 0 := by
  unfold State.startWipe
  rw [if_neg (by simp [wipe_dusk, h])]
  exact endService_session _ _

/-! ### The change of a fuse group (R537) -/

theorem exec_fuseBlowComplete (s : State) : exec .fuseBlowComplete s = .next (s.ran (opFuseBlowComplete s)) := command_next s rfl _

theorem fuseBlowComplete_waits (h : s.storeAccepts = false) : opFuseBlowComplete s = s := by
  unfold opFuseBlowComplete
  split
  · rfl
  · simp [h]

theorem traceEvent_groups (r : EvRec) : (s.traceEvent r).service.groups = s.service.groups := by
  unfold State.traceEvent
  split
  · unfold State.say State.fillTermOut
    dsimp only
    split <;> rfl
  · rfl

theorem notifySessions_service (r : EvRec) : (s.notifySessions r).service = s.service := by
  refine each_keeps State.service _ (fun u n => ?_) s _
  split
  · split <;> rfl
  · rfl

theorem pinRecord_service (r : EvRec) : (s.pinRecord r).service = s.service := by
  unfold State.pinRecord
  split
  · dsimp only
    split
    · rw [raise_service]
      rfl
    · rfl
  · rfl

theorem onLog_service (u : LogState → LogState) : (s.onLog u).service = s.service := rfl

theorem writeRecord_groups (r : EvRec) : (s.writeRecord r).service.groups = s.service.groups := by
  have hlatch : ∀ (u : State) (l : Nat), (if r.cls = 2 then { u with latched := l } else u).service = u.service := fun u l => by split <;> rfl
  unfold State.writeRecord
  dsimp only
  rw [traceEvent_groups, notifySessions_service, pinRecord_service, hlatch, inc_service, onLog_service]

theorem retireUnits_service : s.retireUnits.service = s.service := by
  have hlane : ∀ (u : State) (l : Nat), (((u.setReg (laneBit l).1 0 (putBit (u.reg (laneBit l).1) (laneBit l).2 false)).setReg
      R.lane_PRESENT l 0).setReg R.lane_STATE l 12).service = u.service := fun _ _ => rfl
  have hswap : ∀ (u : State) (n : Nat), ((u.setReg R.pres_SWAP 0 (putBit (u.reg R.pres_SWAP) n false)).setReg R.swap_PRESENT n 0).service =
      u.service := fun _ _ => rfl
  unfold State.retireUnits
  dsimp only
  rw [each_keeps State.service _ hswap, each_keeps State.service _ hlane]

theorem bare_groups : s.bare.service.groups = s.service.groups := by
  unfold State.bare
  dsimp only
  rw [retireUnits_service]
  rfl

theorem sessionsLost_service (d : State) : (d.sessionsLost s).service = d.service :=
  each_keeps State.service _ (fun u n => by
    split
    · dsimp only
      split <;> simp only [raise_service]
    · rfl) d _

theorem locksLost_service (d : State) : (d.locksLost s).service = d.service :=
  each_keeps State.service _ (fun u n => by dsimp only; split <;> simp only [raise_service]) d _

/-- The fuse groups survive a full reset. -/
theorem fullReset_groups (kind : Nat) : (s.fullReset kind).service.groups = s.service.groups := by
  unfold State.fullReset
  dsimp only
  rw [locksLost_service, sessionsLost_service]
  split <;> exact bare_groups s

/-- The state in which the device is about to be reset, with the records of event 0xA006 written. -/
theorem fuseBlowComplete_resets {v : Nat} (hv : s.service.commit = some v) (hwiping : s.scratch.wiping = false)
    (hstore : s.storeAccepts = true) :
    ∃ u : State, u.service.groups = s.service.groups ∧ opFuseBlowComplete s = (u.onService fun x => x.setGroup v true).fullReset 1 := by
  unfold opFuseBlowComplete
  simp only [hv, hwiping, hstore, Bool.not_true, Bool.or_self, Bool.false_eq_true, if_false]
  refine ⟨_, ?_, rfl⟩
  rw [each_keeps (fun u => u.service.groups) _ writeRecord_groups]
  exact congrArg Service.groups (raise_service _ _ _)

/-! ### Recoveries (R553) -/

theorem exec_tamperRecovery (s : State) : exec .tamperRecovery s = .next (s.ran (opTamperRecovery s)) := command_next s rfl _

/-- What the re-check of the admitted graphs may change: the state of the admissions, and the event of each that is impaired. -/
theorem recheck_keeps {β : Type} {g : State → β} (hg : ∀ (u : State) (n i : Nat), g (u.impair n i) = g u) (l : List Nat) :
    g (s.recheck l).1 = g s := by
  induction l generalizing s with
  | nil => rfl
  | cons n l ih =>
    unfold State.recheck
    dsimp only
    rw [ih]
    split
    · exact hg s _ _
    · rfl

theorem impair_scratch (n i : Nat) : (s.impair n i).scratch = s.scratch := by
  unfold State.impair
  split
  · exact raise_scratch _ _ _
  · rfl

theorem impair_adm (n i : Nat) : (s.impair n i).adm = s.adm := by
  unfold State.impair
  split
  · exact raise_adm _ _ _
  · rfl

/-- The state in which the re-check of a recovery is over. -/
def State.rechecked (s : State) : State :=
  ((s.endService 3).recheck ((s.endService 3).adm.granted.filter fun g => (s.endService 3).on R.sadm_STATE g)).1

theorem rechecked_scratch : s.rechecked.scratch = s.scratch := (recheck_keeps _ impair_scratch _).trans (endService_scratch s 3)

theorem rechecked_adm : s.rechecked.adm = s.adm := (recheck_keeps _ impair_adm _).trans (endService_adm s 3)

/-- The re-check writes no other register than those of the admissions. -/
theorem rechecked_reg {r : Reg} (h : r.ref ∉ raiseRefs) (h1 : r.ref ≠ R.sadm_STATE.ref) (h2 : r.ref ≠ R.sadm_IMPAIRED_BY.ref) (j : Nat) :
    s.rechecked.reg r j = (s.endService 3).reg r j :=
  recheck_keeps (g := fun u => u.reg r j) _ (fun u n i => impair_reg h h1 h2 u n i j) _

/-- The admission tables are written anew, and the recovery is off the list. -/
def State.tablesRewritten (s : State) : State :=
  let u := s.rewriteWords fun w => s.ownedArea w == some 5
  { u with scratch := { u.scratch with recovery := u.scratch.recovery.drop 1 } }

theorem tablesRewritten_reg (r : Reg) (j : Nat) : s.tablesRewritten.reg r j = s.reg r j := rfl
theorem tablesRewritten_adm : s.tablesRewritten.adm = s.adm := rfl
theorem tablesRewritten_recovery : s.tablesRewritten.scratch.recovery = s.scratch.recovery.drop 1 := rfl

/-- A recovery ends with BUSY as the rest of the list makes it, and with its own record. -/
theorem tamperRecovery_eq (source : Nat) : ∃ n,
    s.tamperRecovery source = (s.rechecked.tablesRewritten.showBusy.inc R.tmp_TAMPERS).raise 0xA007 (source + n * 256) :=
  ⟨((s.endService 3).recheck ((s.endService 3).adm.granted.filter fun g => (s.endService 3).on R.sadm_STATE g)).2, rfl⟩

theorem tamperRecovery_recovery (source : Nat) : (s.tamperRecovery source).scratch.recovery = s.scratch.recovery.drop 1 := by
  obtain ⟨n, h⟩ := tamperRecovery_eq s source
  rw [h, raise_scratch, inc_scratch, State.showBusy, setReg_scratch, tablesRewritten_recovery, rechecked_scratch]

theorem tamperRecovery_session (source : Nat) : (s.tamperRecovery source).reg R.dbg_SESSION = 0 := by
  obtain ⟨n, h⟩ := tamperRecovery_eq s source
  rw [h, raise_reg _ (by decide), reg_inc_of_ref _ (by decide), State.showBusy, reg_setReg_of_ref _ (by decide), tablesRewritten_reg,
    rechecked_reg s (by decide) (by decide) (by decide), endService_session]

theorem tamperRecovery_busy (source : Nat) :
    (s.tamperRecovery source).reg R.adm_BUSY = b2n (s.adm.checking.isSome || !(s.scratch.recovery.drop 1).isEmpty) := by
  obtain ⟨n, h⟩ := tamperRecovery_eq s source
  rw [h, raise_reg _ (by decide), reg_inc_of_ref _ (by decide), State.showBusy, reg_setReg_same, tablesRewritten_adm, tablesRewritten_recovery,
    rechecked_adm, rechecked_scratch]
  refine Nat.mod_eq_of_lt ?_
  unfold b2n
  split <;> decide

theorem tamperRecovery_tampers (source : Nat) :
    (s.tamperRecovery source).reg R.tmp_TAMPERS = (s.reg R.tmp_TAMPERS + 1) % 2 ^ R.tmp_TAMPERS.bits := by
  obtain ⟨n, h⟩ := tamperRecovery_eq s source
  rw [h, raise_reg _ (by decide), reg_inc_same, State.showBusy, reg_setReg_of_ref _ (by decide), tablesRewritten_reg,
    rechecked_reg s (by decide) (by decide) (by decide), endService_reg s (by decide) (by decide) (by decide) (by decide)]

variable {s}

/-- A digest or key that is not fused yet is fused. -/
theorem fuseOnce_fuses {w : Who} {r : Reg} {len : Nat} {l : List Byte} {held : Service → Option (List Byte)} (put : Service → Service)
    (hw : s.mayWrite w r 0 = true) (hl : l.length = len) (hheld : held s.service = none) (hstate : s.reg R.lc_STATE ≤ 1) :
    s.fuseOnce w r len l held put = (s.onService put).ok := by
  have hwrite : s.fuseOnce w r len l held put =
      s.writeAs w r 0 true fun s => if (held s.service).isSome ∨ 1 < s.reg R.lc_STATE then s.stateError else (s.onService put).ok := by
    simp [State.fuseOnce, State.writeAs, hl]
  rw [hwrite, writeAs_of_mayWrite hw rfl, if_neg]
  simp [hheld, hstate]

theorem lifecycleCommit_starts {w : Who} (hcommit : s.mayCommit w = true) (hw : s.mayWrite w R.lc_COMMIT 0 = true)
    (hnone : s.service.commit = none) (hnext : (nextLifecycle (s.reg R.lc_STATE)).contains (s.reg R.lc_TARGET) = true)
    (hready : s.service.ready (s.reg R.lc_TARGET) = true) :
    opLifecycleCommit w s.uniqueLow s = ((s.onService fun x => { x with commit := some (s.reg R.lc_TARGET) }).startWipe 2).ok := by
  unfold opLifecycleCommit
  rw [if_neg (by simp [hcommit]), writeAs_of_mayWrite hw (by simp)]
  exact if_neg (by simp only [hnone, hnext, hready]; decide)

/-- Settles O36: what the end of a session and a wipe leave alone, the state that is reset, and a recovery by its parts. -/
theorem tamperAndLifecycle : Obligations.TamperAndLifecycle := by
  unfold Obligations.TamperAndLifecycle
  refine ⟨fun t source s hsource hphase => ?tamper, fun w s hcommit hw hnone hnext hready => ?commits, fun v s hv hwiping hstore => ?fuses,
    fun s hstore => ?waits, fun w l s hw hl hheld hstate => ?digest, fun w l s hw hl hheld hstate => ?serviceKey,
    fun w l s hw hl hheld hstate => ?imageKey, fun source rest s hrest hhalted hrestarting hstopped hdone => ?recovers⟩
  case tamper =>
    have hnight : (s.advanceTo t).phase ≠ .night := by rwa [advanceTo_phase]
    refine ⟨_, command_next s (decide_eq_true hsource) _, ?_, ?_, ?_, fun hhalted => ?_⟩
    · rw [ran_scratch, opWipeStart, startWipe_scratch, wipe_wiping]
      exact hnight
    · rw [ran_reg _ _ (by decide), opWipeStart, startWipe_reg _ (by decide) (by decide) (by decide) (by decide),
        reg_setReg_of_ref _ (by decide), reg_setReg_same]
      exact Nat.mod_eq_of_lt (Nat.lt_trans hsource (by decide))
    · rw [ran_scratch, opWipeStart, startWipe_scratch, wipe_cause]
      exact hnight
    · rw [ran_reg _ _ (by decide)]
      refine startWipe_session _ ?_ _
      simpa only [setReg_dusk, advanceTo_dusk] using hhalted
  case commits =>
    have hop := lifecycleCommit_starts hcommit hw hnone hnext hready
    refine ⟨_, (command_next s rfl _).trans (by rw [hop]), ?_, ?_, fun hphase => ⟨?_, ?_⟩, rfl⟩
    · rw [ran_service]
      exact startWipe_commit _ 2
    · rw [ran_reply]
      rfl
    · rw [ran_scratch]
      exact (congrArg Scratch.wiping (startWipe_scratch _ 2)).trans (wipe_wiping (s.onService _) hphase 2)
    · rw [ran_scratch]
      exact (congrArg (fun x => x.wipeCause.testBit 2) (startWipe_scratch (s.onService _) 2)).trans (wipe_cause (s.onService _) hphase 2)
  case fuses =>
    obtain ⟨u, hgroups, hop⟩ := fuseBlowComplete_resets s hv hwiping hstore
    refine ⟨_, exec_fuseBlowComplete s, ?_, ?_, ?_⟩
    · rw [ran_service, hop, fullReset_groups, ← hgroups]
      rfl
    · rw [ran_phase, hop, fullReset_phase]
    · rw [ran_reg _ _ (by decide), hop, fullReset_lastWake, Nat.mod_eq_of_lt (by decide)]
  case waits => rw [exec_fuseBlowComplete, fuseBlowComplete_waits s hstore]
  case digest => exact (command_next s rfl _).trans (by rw [opDevDigest, fuseOnce_fuses _ hw hl hheld hstate])
  case serviceKey => exact (command_next s rfl _).trans (by rw [opServiceKeyDigest, fuseOnce_fuses _ hw hl hheld hstate])
  case imageKey => exact (command_next s rfl _).trans (by rw [opImageKey, fuseOnce_fuses _ hw hl hheld hstate])
  case recovers =>
    have hop : opTamperRecovery s = s.tamperRecovery source := by
      have hmay : s.mayRecover = true := by simp only [State.mayRecover, hhalted, hrestarting, hstopped, hdone]; rfl
      simp only [opTamperRecovery, hrest, hmay, if_true]
    have hleft : s.scratch.recovery.drop 1 = rest := by rw [hrest]; rfl
    refine ⟨_, (exec_tamperRecovery s).trans (by rw [hop]), ?_, ?_, ?_, ?_, rfl⟩
    · rw [ran_scratch, tamperRecovery_recovery, hleft]
    · rw [ran_reg _ _ (by decide), tamperRecovery_session]
    · rw [ran_reg _ _ (by decide), tamperRecovery_busy, hleft]
    · rw [ran_reg _ _ (by decide), tamperRecovery_tampers]

end Sys2Proof.Machine
end

section
/-! The scratchpad: bank accesses, scrub reads and the end of a wipe (R307, R309, R312, R313). -/

namespace Sys2Proof.Machine

/-! ### Bank accesses (R307) -/

theorem exec_sliceBankAccess {k b : Nat} (hk : k < 16) (hb : b < 32) (s : State) :
    exec (.sliceBankAccess k b) s = .next (s.ran (opSliceBankAccess k b s)) := command_next s (by simp [hk, hb]) _

/-- The entry that bank `b` of slice `k` serves next: the oldest that no wipe holds back (R307, R312). -/
def State.padNext (s : State) (k b : Nat) : Option PcReq := (s.bankEntries k b).find? fun r => !(s.scratch.wiping && padSecure r)

/-- The state in which an entry has left its slice, before its access. -/
def State.padLeft (s : State) (k b : Nat) (r : PcReq) : State := s.silent.leavePad k r ((s.bankEntries k b).length - 1)

theorem sliceBankAccess_serves {s : State} {k b : Nat} {r : PcReq} (h : s.padNext k b = some r) :
    opSliceBankAccess k b s =
      if r.write then (s.padLeft k b r).scratchWrite (padWord r) r.data r.mask r.poison
      else match (s.padLeft k b r).padRead k r with
        | (u, some d) => u.answerWith (leBytes 32 d)
        | (u, none) => u.resource := by
  have hfind : (s.silent.bankEntries k b).find? (fun r => !(s.silent.scratch.wiping && padSecure r)) = some r := h
  unfold opSliceBankAccess
  simp only [hfind]
  rfl

theorem padRead_answers {s u : State} {r : PcReq} {d : Nat} (h : s.scratchRead (padWord r) = (u, some d)) (k : Nat) :
    s.padRead k r = (u.respond (sliceStop k) r.master r.tag r.addr (some d), some d) := by
  simp only [State.padRead, h]

/-! ### Scrub reads (R309) -/

/-- A flow's descriptor follows the registers, the flow and the graphs. -/
theorem flowDescriptor_congr {s u : State} {f : Nat} (hreg : ∀ r : Reg, r.ref ≠ R.sp_BANK_CONFLICTS.ref → u.reg r f = s.reg r f)
    (hstreams : u.streams = s.streams) (hsched : u.sched = s.sched) : u.flowDescriptor f = s.flowDescriptor f := by
  have hgraph : ∀ g, u.graph g = s.graph g := fun g => by simp only [State.graph, hsched]
  have hrun : u.flowRun f = s.flowRun f := by simp only [State.flowRun, hstreams]
  unfold State.flowDescriptor State.on
  simp (disch := decide) only [hreg, hgraph, hrun]

theorem scratchWord_congr {s u : State} {w : Nat} (hreg : ∀ r : Reg, r.ref ≠ R.sp_BANK_CONFLICTS.ref → u.reg r w = s.reg r w)
    (hstreams : u.streams = s.streams) (hsched : u.sched = s.sched) (hwords : u.scratch.words = s.scratch.words) :
    u.scratchWord w = s.scratchWord w := by
  simp only [State.scratchWord, State.scratchOwn, hwords, flowDescriptor_congr hreg hstreams hsched]

/-- The state in which the scrub access of global bank `b` has its turn: the access is due, and the entries of the bank have waited for it. -/
def State.padScrubTurn (s : State) (b : Nat) : State :=
  let u := s.nextPadScrub b
  let u : State := { u with scratch := { u.scratch with passStart := some (u.scratch.passStart.getD u.mono) } }
  u.add R.sp_BANK_CONFLICTS 0 (u.bankEntries (b / 32) (b % 32)).length

theorem padScrubTurn_scratch (s : State) (b : Nat) : ∃ p, (s.padScrubTurn b).scratch =
    { s.scratch with passStart := p, scrubDue := tput (fun _ => 0) b ((s.padScrubTurn b).mono + 1024) s.scratch.scrubDue } := by
  refine ⟨some ((s.nextPadScrub b).scratch.passStart.getD (s.nextPadScrub b).mono), ?_⟩
  rw [← waitUntil_scratch s (tget (fun _ => 0) s.scratch.scrubDue b)]
  rfl

theorem padScrubTurn_mono (s : State) (b : Nat) : (s.padScrubTurn b).mono = max s.mono (tget (fun _ => 0) s.scratch.scrubDue b) :=
  waitUntil_mono s _

theorem padScrubTurn_scratchWord (s : State) (b w : Nat) : (s.padScrubTurn b).scratchWord w = s.scratchWord w := by
  obtain ⟨p, hscratch⟩ := padScrubTurn_scratch s b
  refine scratchWord_congr (fun r hr => ?_) (advanceTo_streams s _) (advanceTo_sched s _) (by rw [hscratch])
  exact (reg_setReg_of_ref _ hr _ _ _).trans (waitUntil_reg s _ r w)

section
variable {s : State} {b d : Nat} (hphase : s.phase = .run) (hactive : s.on R.pow_STATE = false) (hwiping : s.scratch.wiping = false)
  (hback : tget (fun _ => none) s.scratch.writeBack b = none) (hrow : tget (fun _ => 0) s.scratch.scrubRow b < 4095)
  (hword : decodeWord (s.scratchWord (scratchOffset b (tget (fun _ => 0) s.scratch.scrubRow b) / 32)) none = .clean d)
include hphase hactive hwiping hback hrow hword

/-- A clean word leaves the scrubber nothing but its next row. -/
theorem scratchpadScrubAccess_clean : opScratchpadScrubAccess b s = { s.padScrubTurn b with scratch := { (s.padScrubTurn b).scratch with
      scrubRow := tput (fun _ => 0) b (tget (fun _ => 0) s.scratch.scrubRow b + 1) s.scratch.scrubRow } } := by
  obtain ⟨p, hscratch⟩ := padScrubTurn_scratch s b
  have hruns : ¬ ((!s.dataRuns) = true ∨ s.on R.pow_STATE = true ∨ s.scratch.wiping = true) := by
    simp [State.dataRuns, hphase, hactive, hwiping]
  have hbackTurn : tget (fun _ => none) (s.padScrubTurn b).scratch.writeBack b = none := by rw [hscratch]; exact hback
  have hrowTurn : (s.padScrubTurn b).scratch.scrubRow = s.scratch.scrubRow := by rw [hscratch]
  unfold opScratchpadScrubAccess
  rw [if_neg hruns]
  extract_lets +onlyGivenNames due pad started turn
  have hturn : turn = s.padScrubTurn b := rfl
  clear_value turn
  subst hturn
  dsimp only
  simp only [hbackTurn, hrowTurn, padScrubTurn_scratchWord, hword]
  rw [if_neg (by omega), Nat.mod_eq_of_lt (by omega)]

theorem scratchpadScrubAccess_clean_scratch : ∃ p, (opScratchpadScrubAccess b s).scratch = { s.scratch with
    passStart := p
    scrubRow := tput (fun _ => 0) b (tget (fun _ => 0) s.scratch.scrubRow b + 1) s.scratch.scrubRow
    scrubDue := tput (fun _ => 0) b ((s.padScrubTurn b).mono + 1024) s.scratch.scrubDue } := by
  obtain ⟨p, hscratch⟩ := padScrubTurn_scratch s b
  refine ⟨p, ?_⟩
  rw [scratchpadScrubAccess_clean hphase hactive hwiping hback hrow hword, hscratch]

end

/-! ### The end of a wipe (R311 to R313) -/

/-- The state in which a wipe is over, before its record is made. -/
def State.wiped (s : State) : State :=
  let u := s.waitUntil (s.scratch.wipeStart + 64)
  let u : State := { u with scratch := { s.scratch with words := s.scratch.words.filter (fun p => decide (p.1 < secureOfs / 32)), wiping := false } }
  match u.service.commit with
  | some v => { u with service := u.service.setGroup v false }
  | none => u

theorem wiped_scratch (s : State) :
    s.wiped.scratch = { s.scratch with words := s.scratch.words.filter (fun p => decide (p.1 < secureOfs / 32)), wiping := false } := by
  unfold State.wiped
  dsimp only
  split <;> rfl

theorem wiped_reg (s : State) (r : Reg) (i : Nat) : s.wiped.reg r i = s.reg r i := by
  unfold State.wiped
  dsimp only
  split <;> exact waitUntil_reg s _ r i

/-- A wipe that ends is recorded with its cause and time. -/
theorem endWipe_eq (s : State) : ∃ source, s.endWipe = ((((s.wiped.toRecover source).inc R.sp_WIPES).setReg R.sp_LAST_WIPE_CAUSE 0
    s.scratch.wipeCause).setReg R.sp_LAST_WIPE_TIME 0 s.wiped.stamp).raise 0x3201 s.scratch.wipeCause := by
  refine ⟨if s.scratch.wipeCause % 4 = 0 then 15 else s.reg R.tmp_LAST_SOURCE % 16, ?_⟩
  unfold State.endWipe State.wiped
  simp only [waitUntil_scratch, waitUntil_reg] <;> rfl

theorem endWipe_scratch (s : State) : ∃ l, s.endWipe.scratch =
    { s.scratch with words := s.scratch.words.filter (fun p => decide (p.1 < secureOfs / 32)), wiping := false, recovery := l } := by
  obtain ⟨source, h⟩ := endWipe_eq s
  refine ⟨s.scratch.recovery ++ [source], ?_⟩
  have hrecover : (s.wiped.toRecover source).scratch = { s.wiped.scratch with recovery := s.wiped.scratch.recovery ++ [source] } := rfl
  rw [h, raise_scratch, setReg_scratch, setReg_scratch, inc_scratch, hrecover, wiped_scratch]

theorem endWipe_stamp (s : State) : s.endWipe.stamp = s.wiped.stamp := by
  obtain ⟨source, h⟩ := endWipe_eq s
  rw [h]
  simp only [State.stamp, State.toRecover, State.showBusy, raise_tbRun, raise_now, raise_mono, setReg_tbRun, setReg_now, setReg_mono,
    inc_tbRun, inc_now, inc_mono]

/-- A register that the record of a wipe does not write, as it was. -/
theorem toRecover_wiped_reg (s : State) (source : Nat) {r : Reg} (h : r.ref ≠ R.adm_BUSY.ref) (j : Nat) :
    (s.wiped.toRecover source).reg r j = s.reg r j :=
  (reg_setReg_of_ref _ h _ _ _).trans (wiped_reg s r j)

theorem endWipe_wipes (s : State) : s.endWipe.reg R.sp_WIPES = (s.reg R.sp_WIPES + 1) % 2 ^ 32 := by
  obtain ⟨source, h⟩ := endWipe_eq s
  rw [h, raise_reg _ (by decide), reg_setReg_of_ref _ (by decide), reg_setReg_of_ref _ (by decide), reg_inc_same,
    toRecover_wiped_reg _ _ (by decide)]

theorem endWipe_lastCause (s : State) : s.endWipe.reg R.sp_LAST_WIPE_CAUSE = s.scratch.wipeCause % 2 ^ 8 := by
  obtain ⟨source, h⟩ := endWipe_eq s
  rw [h, raise_reg _ (by decide), reg_setReg_of_ref _ (by decide), reg_setReg_same]

theorem endWipe_lastTime (s : State) : s.endWipe.reg R.sp_LAST_WIPE_TIME = s.endWipe.stamp % 2 ^ R.sp_LAST_WIPE_TIME.bits := by
  rw [endWipe_stamp]
  obtain ⟨source, h⟩ := endWipe_eq s
  rw [h, raise_reg _ (by decide), reg_setReg_same]

theorem ran_stamp (s u : State) : (s.ran u).stamp = u.stamp := by simp only [State.stamp, ran_tbRun, ran_now, ran_mono]

theorem wipeComplete_ends {s : State} {t : Nat} (h : (s.advanceTo t).scratch.wiping = true) :
    opWipeComplete t s = (s.advanceTo t).endWipe := by
  unfold opWipeComplete
  exact if_neg (by simp only [h]; decide)

/-- Settles O21: the entry that a bank serves, the turn of its scrubber, and the record of a wipe. -/
theorem scratchpadServes : Obligations.ScratchpadServes := by
  unfold Obligations.ScratchpadServes
  refine ⟨fun k b r d u s hk hb hnext hread hword => ?reads, fun k b r s hk hb hnext hwrite => ?writes,
    fun b d s hb hphase hactive hwiping hback hrow hword => ?scrubs, fun t s hwiping => ?wipes⟩
  case reads =>
    have hserved := sliceBankAccess_serves hnext
    rw [hread, if_neg Bool.false_ne_true, padRead_answers (s := s.padLeft k b r) hword] at hserved
    rw [exec_sliceBankAccess hk hb, hserved]
  case writes =>
    have hserved := sliceBankAccess_serves hnext
    rw [hwrite, if_pos rfl] at hserved
    rw [exec_sliceBankAccess hk hb, hserved]
    rfl
  case scrubs =>
    have hmono : (opScratchpadScrubAccess b s).mono = (s.padScrubTurn b).mono := by
      rw [scratchpadScrubAccess_clean hphase hactive hwiping hback hrow hword]
    obtain ⟨p, hscratch⟩ := scratchpadScrubAccess_clean_scratch hphase hactive hwiping hback hrow hword
    refine ⟨_, exec_scratchpadScrubAccess hb s, ?_, ?_, ?_, ?_, ?_⟩
    · rw [ran_scratch, hscratch]
    · rw [ran_scratch, hscratch]
    · rw [ran_scratch, hscratch]
      exact hback
    · rw [ran_mono, hmono, padScrubTurn_mono]
      exact Nat.le_max_right _ _
    · rw [ran_scratch, ran_mono, hmono, hscratch]
      exact tget_tput_same (fun _ => 0) b (_ + 1024) _
  case wipes =>
    have hop := wipeComplete_ends hwiping
    obtain ⟨l, hscratch⟩ := endWipe_scratch (s.advanceTo t)
    refine ⟨_, command_next s rfl _, ?_, ?_, ?_, ?_, ?_⟩
    · rw [ran_scratch, hop, hscratch]
    · rw [ran_scratch, hop, hscratch]
    · rw [ran_reg _ _ (by decide), hop, endWipe_wipes, advanceTo_reg]
    · rw [ran_reg _ _ (by decide), hop]
      exact endWipe_lastCause _
    · rw [ran_stamp, ran_reg _ _ (by decide), hop, endWipe_lastTime]

end Sys2Proof.Machine
end

section
/-! What leaves the addressed memories, and with them their canonical form (log entries 71 and 72), alone. -/

namespace Sys2Proof.Machine

variable (s : State)

/-! ### Shared updates -/

@[simp] theorem raiseX_memoryWf (c d x : Nat) : (s.raiseX c d x).memoryWf = s.memoryWf :=
  memoryWf_of_eq (raiseX_store s c d x) (raiseX_scratch s c d x) (raiseX_fabric s c d x) (raiseX_dusk s c d x)
@[simp] theorem raise_memoryWf (c d : Nat) : (s.raise c d).memoryWf = s.memoryWf := raiseX_memoryWf s c d 0
@[simp] theorem setReg_memoryWf (r : Reg) (i v : Nat) : (s.setReg r i v).memoryWf = s.memoryWf := rfl
@[simp] theorem add_memoryWf (r : Reg) (i n : Nat) : (s.add r i n).memoryWf = s.memoryWf := rfl
@[simp] theorem inc_memoryWf (r : Reg) (i : Nat) : (s.inc r i).memoryWf = s.memoryWf := rfl
@[simp] theorem peak_memoryWf (r : Reg) (i n : Nat) : (s.peak r i n).memoryWf = s.memoryWf := by
  unfold State.peak
  split <;> rfl
@[simp] theorem silent_memoryWf : s.silent.memoryWf = s.memoryWf := rfl
@[simp] theorem took_memoryWf : s.took.memoryWf = s.memoryWf := rfl
@[simp] theorem advanceTo_memoryWf (t : Nat) : (s.advanceTo t).memoryWf = s.memoryWf :=
  memoryWf_of_eq (advanceTo_store s t) (advanceTo_scratch s t) (advanceTo_fabric s t) (advanceTo_dusk s t)
@[simp] theorem waitUntil_memoryWf (t : Nat) : (s.waitUntil t).memoryWf = s.memoryWf := advanceTo_memoryWf s _
@[simp] theorem ran_memoryWf (u : State) : (s.ran u).memoryWf = u.memoryWf :=
  memoryWf_of_eq (ran_store s u) (ran_scratch s u) (ran_fabric s u) (ran_dusk s u)

theorem onCore_memoryWf (c : Nat) {u : Core → Core} (h : KeepsRams u) : (s.onCore c u).memoryWf = s.memoryWf := by
  unfold State.onCore State.memoryWf
  split <;> simp only [h _]

/-- The scheduler stores to none of them itself. -/
theorem schedKeeps_memoryWf : SchedKeeps State.memoryWf where
  sched _ _ _ _ _ _ _ _ := rfl
  adm _ _ := rfl
  reg _ _ _ _ _ := rfl
  raise := raise_memoryWf

theorem closeKeeps_memoryWf : CloseKeeps State.memoryWf where
  steward _ _ := rfl
  lease _ _ _ := rfl
  onCore s c _ h := onCore_memoryWf s c h
  time := advanceTo_memoryWf
  reg _ _ _ _ _ := rfl
  raise := raise_memoryWf

/-! ### Answers on the rings (R267, R269) -/

@[simp] theorem setBuffer_memoryWf (i : Nat) (vc : VC) (l : List Buffered) : (s.setBuffer i vc l).memoryWf = s.memoryWf := by
  have hu : (s.ingressUntil i).memoryWf = s.memoryWf := by
    unfold State.ingressUntil
    split
    · split <;> rfl
    · rfl
  exact hu

@[simp] theorem inject_memoryWf (a p : Nat) (f : Flit) : (s.inject a p f).memoryWf = s.memoryWf := by
  have hpush : ∀ (u : State) (i q c : Nat), (u.pushFlit i q c f).memoryWf = u.memoryWf := fun u i q c => by
    unfold State.pushFlit State.vcPeak
    dsimp only
    split
    · exact setBuffer_memoryWf u _ _ _
    · split <;> simp only [setReg_memoryWf, setBuffer_memoryWf]
  unfold State.inject
  rw [hpush]
  split <;> rfl

@[simp] theorem injectAll_memoryWf (a p : Nat) (l : List Flit) : (s.injectAll a p l).memoryWf = s.memoryWf :=
  each_keeps State.memoryWf _ (fun u f => inject_memoryWf u a p f) s l

@[simp] theorem respond_memoryWf (a master tag w : Nat) (d : Option Nat) : (s.respond a master tag w d).memoryWf = s.memoryWf := by
  unfold State.respond
  split
  · rfl
  · dsimp only
    split
    · rfl
    · exact injectAll_memoryWf _ _ _ _

theorem sendMasterAck_memoryWf (a master tag : Nat) (st : AckStatus) : (s.sendMasterAck a master tag st).memoryWf = s.memoryWf := by
  unfold State.sendMasterAck
  split <;> rfl

theorem wordStored_memoryWf (n : Nat) (r : PcReq) : (s.wordStored n r).memoryWf = s.memoryWf := by
  unfold State.wordStored
  split
  · rfl
  · dsimp only
    split
    · rfl
    · exact sendMasterAck_memoryWf _ _ _ _ _

/-! ### Fencing a PC (R214, R215) -/

@[simp] theorem onPc_memoryWf (n : Nat) (u : PcState → PcState) : (s.onPc n u).memoryWf = s.memoryWf := rfl
@[simp] theorem setMoving_memoryWf (n : Nat) (l : List PcReq) : (s.setMoving n l).memoryWf = s.memoryWf := rfl

theorem fencedAnswer_memoryWf (n : Nat) (r : PcReq) : (s.fencedAnswer n r).memoryWf = s.memoryWf := by
  unfold State.fencedAnswer
  split <;> simp

theorem shutPc_memoryWf (n : Nat) : (s.shutPc n).memoryWf = s.memoryWf := by
  have hmoved : ∀ (u : State) (r : PcReq),
      (if r.write then (u.fencedAnswer n r).wordStored n r else u.fencedAnswer n r).memoryWf = u.memoryWf := fun u r => by
    split <;> simp only [wordStored_memoryWf, fencedAnswer_memoryWf]
  unfold State.shutPc
  dsimp only
  rw [each_keeps State.memoryWf _ hmoved, each_keeps State.memoryWf _ fun u r => fencedAnswer_memoryWf u n r]
  simp

theorem absent_memoryWf (r : Reg) (n : Nat) : (s.absent r n).memoryWf = s.memoryWf := by
  unfold State.absent
  split <;> simp

theorem setStop_memoryWf (a st : Nat) : (s.setStop a st).memoryWf = s.memoryWf := by
  unfold State.setStop
  split
  · rfl
  · dsimp only
    rw [raise_memoryWf, setReg_memoryWf]
    split <;> rfl

theorem raiseNoCopy_memoryWf (stack : Nat) (pcs : List Nat) : (s.raiseNoCopy stack pcs).memoryWf = s.memoryWf :=
  each_keeps State.memoryWf _ (fun u p => by dsimp only; split <;> simp) s _

@[simp] theorem fencePc_memoryWf (n cause : Nat) : (s.fencePc n cause).memoryWf = s.memoryWf := by
  unfold State.fencePc
  split
  · rfl
  · split
    · rfl
    · dsimp only
      rw [raiseNoCopy_memoryWf, setStop_memoryWf, raise_memoryWf, absent_memoryWf, shutPc_memoryWf]

/-! ### Checking a word (R213, R233, R243) -/

@[simp] theorem putLogEntry_memoryWf (n e : Nat) (x : LogEntry) : (s.putLogEntry n e x).memoryWf = s.memoryWf := rfl

@[simp] theorem logFinding_memoryWf (n : Nat) (x : LogEntry) : (s.logFinding n x).memoryWf = s.memoryWf := by
  unfold State.logFinding
  dsimp only
  split
  · rfl
  · split
    · rfl
    · split
      · rfl
      · split
        · rfl
        · exact raise_memoryWf _ _ _

@[simp] theorem raiseUncorrectable_memoryWf (n : Nat) : (s.raiseUncorrectable n).memoryWf = s.memoryWf := by
  unfold State.raiseUncorrectable
  split
  · split
    · rfl
    · exact raise_memoryWf _ _ _
  · exact raise_memoryWf _ _ _

theorem countDegraded_memoryWf (n : Nat) : (s.countDegraded n).memoryWf = s.memoryWf := by
  unfold State.countDegraded
  split
  · dsimp only
    split <;> simp
  · rfl

@[simp] theorem fetchWord_memoryWf (a : Nat) : (s.fetchWord a).1.memoryWf = s.memoryWf := by
  unfold State.fetchWord
  split <;> rfl

@[simp] theorem checkWord_memoryWf (n a : Nat) (c : CodeWord) : (s.checkWord n a c).1.memoryWf = s.memoryWf := by
  unfold State.checkWord
  split
  · rfl
  · split
    · rfl
    · simp [countDegraded_memoryWf]
  · rfl
  · dsimp only
    split <;> simp

@[simp] theorem readNow_memoryWf (a : Nat) : (s.readNow a).1.memoryWf = s.memoryWf := by
  unfold State.readNow
  dsimp only
  split <;> simp

@[simp] theorem cancelWriteBack_memoryWf (n a : Nat) : (s.cancelWriteBack n a).memoryWf = s.memoryWf := by
  unfold State.cancelWriteBack
  split
  · split <;> rfl
  · rfl

end Sys2Proof.Machine
end

section
/-! Stores to the frame store keep its canonical form (R201, R205, R245, R249, R252). -/

namespace Sys2Proof.Machine

/-- What a fill keeps of itself is no part of the memory. -/
theorem fillRecord_memoryWf (s : State) (j : Option FillJob) (l : List (Nat × Nat × Nat)) (v : List (Nat × Nat)) :
    State.memoryWf { s with store := { s.store with fill := j, fillAt := l, valid := v } } = s.memoryWf := rfl

variable {s : State} (h : s.memoryWf = true)
include h

theorem memoryWf_writeNow (a data mask : Nat) (poison : Bool) : (s.writeNow a data mask poison).memoryWf = true := by
  unfold State.writeNow
  dsimp only
  split
  · exact h
  · split
    · exact memoryWf_putCodeWord (by simpa using h) _ _
    · split
      · exact memoryWf_putCodeWord (by simpa using h) _ _
      · split <;> exact memoryWf_putCodeWord (by simpa using h) _ _

theorem memoryWf_serveFirst (n : Nat) (p : PcReq → Bool) : (s.serveFirst n p).memoryWf = true := by
  have hentry : ∀ (u : State) (e : PcEntry), u.memoryWf = true → (u.doEntry n e.req).memoryWf = true := fun u e hu => by
    unfold State.doEntry
    split
    · exact memoryWf_writeNow hu _ _ _ _
    · simpa using hu
  unfold State.serveFirst State.pcOcc
  dsimp only
  split
  · exact h
  · exact each_induct (fun u => u.memoryWf = true) _ hentry (by simpa using h) _

theorem memoryWf_writeCopy (a data mask : Nat) (poison : Bool) : (s.writeCopy a data mask poison).memoryWf = true :=
  memoryWf_writeNow (memoryWf_serveFirst h _ _) a data mask poison

theorem memoryWf_writeWord (a data mask : Nat) (poison : Bool) : (s.writeWord a data mask poison).memoryWf = true := by
  have hcopy : ∀ (u : State) (c : Bool) (b i p m : Nat), u.memoryWf = true →
      (if c then u.setStale i p m else u.writeCopy b data mask poison).memoryWf = true := fun u c b i p m hu => by
    split
    · exact hu
    · exact memoryWf_writeCopy hu _ _ _ _
  unfold State.writeWord
  split
  · exact memoryWf_writeCopy h _ _ _ _
  · exact hcopy _ _ _ _ _ _ (hcopy _ _ _ _ _ _ h)

theorem memoryWf_fillPc (base len n : Nat) : (s.fillPc base len n).memoryWf = true := by
  unfold State.fillPc
  dsimp only
  split
  · exact h
  · split
    · exact h
    · split
      · split
        · simpa using h
        · exact h
      · exact h

theorem memoryWf_fillComplete : (opFillComplete s).memoryWf = true := by
  unfold opFillComplete
  split
  · exact h
  · split
    · exact h
    · dsimp only
      rw [raise_memoryWf, setReg_memoryWf, fillRecord_memoryWf]
      refine each_induct (fun u => u.memoryWf = true) _ (fun u n hu => memoryWf_fillPc hu _ _ n) (memoryWf_fillWords ?_ _ _) _
      exact each_induct (fun u => u.memoryWf = true) _ (fun u n hu => memoryWf_serveFirst hu n _) h _

end Sys2Proof.Machine
end

section
/-! Stores to the scratchpad, and what poison met there sets off (R307, R309, R312, R313, R502), keep its canonical form. -/

namespace Sys2Proof.Machine

/-! ### Checked reads and writes (R233, R307) -/

@[simp] theorem scratchRead_memoryWf (s : State) (w : Nat) : (s.scratchRead w).1.memoryWf = s.memoryWf := by
  unfold State.scratchRead
  dsimp only
  split <;> simp

@[simp] theorem leavePad_memoryWf (s : State) (k : Nat) (r : PcReq) (n : Nat) : (s.leavePad k r n).memoryWf = s.memoryWf := rfl
@[simp] theorem setWriteBack_memoryWf (s : State) (b : Nat) (w : Option WriteBack) : (s.setWriteBack b w).memoryWf = s.memoryWf := rfl
@[simp] theorem cancelPadWrite_memoryWf (s : State) (w : Nat) : (s.cancelPadWrite w).memoryWf = s.memoryWf := rfl
@[simp] theorem scrubRow_memoryWf (s : State) (l : List (Nat × Nat)) :
    State.memoryWf { s with scratch := { s.scratch with scrubRow := l } } = s.memoryWf := rfl
@[simp] theorem toRebuild_memoryWf (s : State) (w : Nat) : (s.toRebuild w).memoryWf = s.memoryWf := rfl
@[simp] theorem toRecover_memoryWf (s : State) (source : Nat) : (s.toRecover source).memoryWf = s.memoryWf := rfl

/-- What is left of the steward's work is no part of the memories. -/
theorem stewardRecord_memoryWf (s : State) (x : Steward) (y : Admission) : State.memoryWf { s with steward := x, adm := y } = s.memoryWf := rfl

theorem boot_memoryWf (s : State) (x : Boot) : State.memoryWf { s with boot := x } = s.memoryWf := rfl

@[simp] theorem dropSteward_memoryWf (s : State) : s.dropSteward.memoryWf = s.memoryWf := by
  unfold State.dropSteward
  dsimp only
  rw [setReg_memoryWf, stewardRecord_memoryWf, each_keeps State.memoryWf _ fun u n => closeKeeps_memoryWf.closeSession u n 4]
  rfl

variable {s : State} (h : s.memoryWf = true)
include h

theorem memoryWf_scratchWrite (w data mask : Nat) (poison : Bool) : (s.scratchWrite w data mask poison).memoryWf = true := by
  have hcancel : (s.cancelPadWrite w).memoryWf = true := h
  have hread : ((s.cancelPadWrite w).scratchRead w).1.memoryWf = true := (scratchRead_memoryWf _ _).trans hcancel
  unfold State.scratchWrite
  dsimp only
  split
  · exact memoryWf_putScratch hcancel _ _
  · split
    · exact memoryWf_putScratch hcancel _ _
    · split <;> next e => exact memoryWf_putScratch (by rwa [e] at hread) _ _

/-! ### Poison (R502) -/

/-- Words that their owners have rewritten are listed no more. -/
theorem memoryWf_rewriteWords (p : Nat → Bool) : (s.rewriteWords p).memoryWf = true := memoryWf_wipe h _ s.scratch.wiping

/-- The core of the steward keeps its program alone (R493). -/
theorem memoryWf_stewardRestart (cause : Nat) : (s.stewardRestart cause).memoryWf = true := by
  have hcore : ((s.lockForceAll 2 0).onCore 1 fun k => { prog := k.prog }).memoryWf = true :=
    memoryWf_onCore ((closeKeeps_memoryWf.lockForceAll s 2 0).trans h) 1 _ (fun _ hk => hk) fun _ _ => rfl
  have hstopped : (((s.lockForceAll 2 0).onCore 1 fun k => { prog := k.prog }).setReg R.core_STATE 1 0).dropSteward.memoryWf = true :=
    (dropSteward_memoryWf _).trans ((setReg_memoryWf _ _ _ _).trans hcore)
  unfold State.stewardRestart
  dsimp only
  split
  · rwa [raise_memoryWf, boot_memoryWf]
  · rwa [boot_memoryWf]

theorem memoryWf_schedPoison (w : Nat) : (s.schedPoison w).memoryWf = true := by
  unfold State.schedPoison
  dsimp only
  split
  · exact (raise_memoryWf _ _ _).trans h
  · exact (raise_memoryWf _ _ _).trans h
  · split
    · exact (raise_memoryWf _ _ _).trans h
    · split
      · rw [schedKeeps_memoryWf.onOp, raise_memoryWf]
        exact h
      · rw [schedKeeps_memoryWf.schedule, schedKeeps_memoryWf.onOp, raise_memoryWf]
        exact h

theorem memoryWf_ownedPoison (w : Nat) : (s.ownedPoison w).memoryWf = true := by
  unfold State.ownedPoison
  split
  · exact (raise_memoryWf _ _ _).trans h
  · exact memoryWf_schedPoison h w
  · exact memoryWf_stewardRestart ((raise_memoryWf _ _ _).trans (memoryWf_rewriteWords (s := s.toRebuild w) h _)) 0
  · exact (raise_memoryWf _ _ _).trans h
  · exact (raise_memoryWf _ _ _).trans h
  · exact h

theorem memoryWf_padRead (k : Nat) (r : PcReq) : (s.padRead k r).1.memoryWf = true := by
  have hread : (s.scratchRead (padWord r)).1.memoryWf = true := (scratchRead_memoryWf s _).trans h
  unfold State.padRead
  generalize s.scratchRead (padWord r) = read at hread ⊢
  obtain ⟨u, d⟩ := read
  cases d with
  | some d => exact (respond_memoryWf _ _ _ _ _ _).trans hread
  | none => exact memoryWf_ownedPoison ((respond_memoryWf _ _ _ _ _ _).trans hread) _

/-! ### Wipes (R311 to R313) -/

theorem memoryWf_endWipe : s.endWipe.memoryWf = true := by
  have hwiped : State.memoryWf { s.waitUntil (s.scratch.wipeStart + 64) with scratch := { (s.waitUntil (s.scratch.wipeStart + 64)).scratch with
      words := (s.waitUntil (s.scratch.wipeStart + 64)).scratch.words.filter (fun p => decide (p.1 < secureOfs / 32)), wiping := false } } = true :=
    memoryWf_wipe ((waitUntil_memoryWf s _).trans h) _ false
  unfold State.endWipe
  dsimp only
  rw [raise_memoryWf, setReg_memoryWf, setReg_memoryWf, inc_memoryWf, toRecover_memoryWf]
  split <;> exact hwiped

theorem memoryWf_wipeComplete (t : Nat) : (opWipeComplete t s).memoryWf = true := by
  have hwaited : (s.advanceTo t).memoryWf = true := (advanceTo_memoryWf s t).trans h
  unfold opWipeComplete
  dsimp only
  split
  · exact hwaited
  · exact memoryWf_endWipe hwaited

/-! ### Accesses at once and of a bank (R307) -/

theorem memoryWf_padFirst (w : Nat) : (s.padFirst w).memoryWf = true := by
  have hserve : ∀ (u : State) (k b : Nat) (r : PcReq), u.memoryWf = true →
      (if r.write then (u.leavePad k r (u.bankEntries k b).length).scratchWrite (padWord r) r.data r.mask r.poison
        else ((u.leavePad k r (u.bankEntries k b).length).padRead k r).1).memoryWf = true := fun u k b r hu => by
    have hleft : (u.leavePad k r (u.bankEntries k b).length).memoryWf = true := (leavePad_memoryWf _ _ _ _).trans hu
    split
    · exact memoryWf_scratchWrite hleft _ _ _ _
    · exact memoryWf_padRead hleft _ _
  have hwiped : (if s.scratch.wiping && decide (secureOfs ≤ w * 32) then s.endWipe else s).memoryWf = true := by
    split
    · exact memoryWf_endWipe h
    · exact h
  unfold State.padFirst
  exact each_induct (fun u => u.memoryWf = true) _ (fun u r hu => hserve u _ _ r hu) hwiped _

theorem memoryWf_padWriteNow (w data mask : Nat) (poison : Bool) : (s.padWriteNow w data mask poison).memoryWf = true :=
  memoryWf_scratchWrite (memoryWf_padFirst h w) w data mask poison

theorem memoryWf_sliceBankAccess (k b : Nat) : (opSliceBankAccess k b s).memoryWf = true := by
  unfold opSliceBankAccess
  dsimp only
  split
  · exact h
  · next r _ =>
    have hleft : (s.silent.leavePad k r ((s.silent.bankEntries k b).length - 1)).memoryWf = true := h
    split
    · exact memoryWf_scratchWrite hleft _ _ _ _
    · have hread := memoryWf_padRead hleft k r
      split <;> next e =>
        rw [e] at hread
        exact hread

/-! ### Scrubbing (R309) -/

theorem memoryWf_bankPassed (b : Nat) : (s.bankPassed b).memoryWf = true := by
  unfold State.bankPassed
  dsimp only
  split <;> exact h

theorem memoryWf_scratchpadScrubAccess (b : Nat) : (opScratchpadScrubAccess b s).memoryWf = true := by
  unfold opScratchpadScrubAccess
  split
  · exact h
  · extract_lets +onlyGivenNames n due pad started turn
    have hturn : turn.memoryWf = true := (waitUntil_memoryWf s _).trans h
    clear_value turn
    dsimp only
    split
    · next w _ =>
      have hput : ((turn.setWriteBack b none).putScratch (w.addr / 32) w.word).memoryWf = true :=
        memoryWf_putScratch ((setWriteBack_memoryWf _ _ _).trans hturn) _ _
      split
      · rwa [raiseX_memoryWf, logFinding_memoryWf, inc_memoryWf]
      · rwa [inc_memoryWf]
    · split
      · refine memoryWf_bankPassed ?_ b
        split <;> simpa using hturn
      · split <;> simpa using hturn

end Sys2Proof.Machine
end

section
/-! Block memories, the RAMs of the cores and the window of core 1 (R322, R444 to R446, R545): every store keeps the canonical form. -/

namespace Sys2Proof.Machine

/-! ### Block memories (R322, R323) -/

theorem setWritten_memoryWf (s : State) (m : Nat) (l : List BramWritten) : (s.setWritten m l).memoryWf = s.memoryWf := rfl

theorem memoryWf_bramPlace {s : State} (h : s.memoryWf = true) (m : Nat) (portB : Bool) (k v : Nat) :
    (s.bramPlace m portB k v).memoryWf = true := by
  unfold State.bramPlace
  split
  · split
    · exact h
    · exact memoryWf_putBram ((setWritten_memoryWf _ _ _).trans h) m k v
  · exact memoryWf_putBram ((setWritten_memoryWf _ _ _).trans h) m k v

theorem memoryWf_bramWrite {s : State} (h : s.memoryWf = true) (m addr data : Nat) (p : BramPort) (wpoison : Bool) :
    (opBramWrite m addr data p wpoison s).memoryWf = true := by
  have hopen : (s.bramOpen m p).memoryWf = true := by
    unfold State.bramOpen
    split
    · exact h
    · exact (setWritten_memoryWf _ _ _).trans h
  unfold opBramWrite
  dsimp only
  split
  · exact h
  · split
    · exact memoryWf_bramPlace hopen _ _ _ _
    · exact each_induct (fun u => u.memoryWf = true) _ (fun u k hu => memoryWf_bramPlace hu _ _ _ _) hopen _
    · exact hopen

/-! ### What the issue of an instruction does to the core itself (R446, R449) -/

theorem returned_keepsRams : KeepsRams Core.returned := fun k => by
  unfold Core.returned
  split <;> exact ⟨rfl, rfl⟩

theorem land_keepsRams (l : Late) : KeepsRams fun k => Late.land k l := fun k => by
  cases l with
  | data d v => exact ⟨rfl, rfl⟩
  | setting port v =>
    unfold Late.land
    dsimp only
    split
    · exact ⟨rfl, rfl⟩
    · split <;> exact ⟨rfl, rfl⟩

theorem landed_keepsRams : KeepsRams Core.landed := fun k => by
  have hfold : ∀ (l : List Late) (x : Core), (l.foldl Late.land x).prog = x.prog ∧ (l.foldl Late.land x).data = x.data := fun l => by
    induction l with
    | nil => exact fun x => ⟨rfl, rfl⟩
    | cons a l ih =>
      intro x
      obtain ⟨hp, hd⟩ := land_keepsRams a x
      exact ⟨(ih _).1.trans hp, (ih _).2.trans hd⟩
  exact hfold k.late { k with late := [], met := [] }

theorem endBlock_rams {k k' : Core} {i : Nat} {b : Bool} (h : k.endBlock i = (k', b)) : k'.prog = k.prog ∧ k'.data = k.data := by
  have hfst : k' = (k.endBlock i).1 := by rw [h]
  rw [hfst]
  unfold Core.endBlock
  dsimp only
  split <;> exact ⟨rfl, rfl⟩

theorem next_keepsRams (c : Nat) : KeepsRams (Core.next c) := fun k => by
  unfold Core.next
  dsimp only
  split
  · exact ⟨rfl, rfl⟩
  · split
    · exact ⟨rfl, rfl⟩
    · split
      · exact ⟨rfl, rfl⟩
      · split
        · split
          · next e =>
            have houter := endBlock_rams e
            exact houter
          · next e =>
            have houter := endBlock_rams e
            split
            · split <;> next e' => exact ⟨(endBlock_rams e').1.trans houter.1, (endBlock_rams e').2.trans houter.2⟩
            · exact houter
        · split
          · split <;> next e =>
              have hblock := endBlock_rams e
              exact hblock
          · exact ⟨rfl, rfl⟩

/-! ### Cores that fault and patch units that match (R450, R550) -/

@[simp] theorem patchCount_memoryWf (s : State) (u : Nat) : (s.patchCount u).memoryWf = s.memoryWf := by
  unfold State.patchCount
  dsimp only
  split <;> simp

@[simp] theorem haltSoon_memoryWf (s : State) (c cause unit : Nat) : (s.haltSoon c cause unit).memoryWf = s.memoryWf :=
  closeKeeps_memoryWf.haltSoon s c cause unit

theorem breakHits_memoryWf (s : State) (c : Nat) (us : List Nat) : (s.breakHits c us).memoryWf = s.memoryWf := by
  have hmet : ((s.each us State.patchCount).onCore c fun k => { k with met := k.met ++ us }).memoryWf = s.memoryWf := by
    rw [onCore_memoryWf, each_keeps State.memoryWf _ patchCount_memoryWf]
    exact fun _ => ⟨rfl, rfl⟩
  unfold State.breakHits
  dsimp only
  split
  · rwa [haltSoon_memoryWf]
  · exact hmet

@[simp] theorem fetchHits_memoryWf (s : State) (c : Nat) : (s.fetchHits c).memoryWf = s.memoryWf := by
  unfold State.fetchHits
  dsimp only
  split <;> split <;> simp only [breakHits_memoryWf, inc_memoryWf]

@[simp] theorem watchHits_memoryWf (s : State) (c a : Nat) (write : Bool) : (s.watchHits c a write).memoryWf = s.memoryWf := by
  have hcount : ∀ us : List Nat, (s.each us State.patchCount).memoryWf = s.memoryWf := each_keeps State.memoryWf _ patchCount_memoryWf s
  unfold State.watchHits
  split
  · rfl
  · dsimp only
    split
    · rw [State.haltLater, onCore_memoryWf, hcount]
      exact fun _ => ⟨rfl, rfl⟩
    · exact hcount _

theorem memoryWf_coreFault {s : State} (h : s.memoryWf = true) (c code : Nat) : (s.coreFault c code).memoryWf = true := by
  have hraised : ((((s.setReg R.core_LAST_FAULT c code).setReg R.core_LAST_FAULT_PC c ((s.setReg R.core_LAST_FAULT c code).core c).pc).inc
      R.core_FAULTS c).raise 0x8001 (c + code * 256)).memoryWf = true := (raise_memoryWf _ _ _).trans h
  unfold State.coreFault
  dsimp only
  split
  · rw [closeKeeps_memoryWf.coreState, onCore_memoryWf, closeKeeps_memoryWf.lockForceAll]
    · exact hraised
    · exact fun _ => ⟨rfl, rfl⟩
  · exact memoryWf_stewardRestart hraised 0

/-- The issue of an instruction keeps the form if what the instruction does keeps it. -/
theorem memoryWf_issue {s : State} (h : s.memoryWf = true) (c : Nat) (p : Places) (fault : Core → Option Nat) {act : Core → State → State}
    (hact : ∀ (k : Core) (u : State), u.memoryWf = true → (act k u).memoryWf = true) : (s.issue c p fault act).memoryWf = true := by
  have hfetched : (if !s.coreRuns c || !(s.core c).asks.isEmpty then s else s.fetchHits c).memoryWf = true := by
    split
    · exact h
    · exact (fetchHits_memoryWf s c).trans h
  unfold State.issue
  dsimp only
  generalize (if !s.coreRuns c || !(s.core c).asks.isEmpty then s else s.fetchHits c) = u at hfetched ⊢
  split
  · exact hfetched
  · split
    · exact memoryWf_coreFault hfetched _ _
    · split
      · exact memoryWf_coreFault hfetched _ _
      · rw [closeKeeps_memoryWf.haltIfDue, onCore_memoryWf _ _ returned_keepsRams]
        apply hact
        rw [onCore_memoryWf, inc_memoryWf, setReg_memoryWf]
        · exact hfetched
        · exact fun k => ⟨(next_keepsRams c _).1.trans (landed_keepsRams k).1, (next_keepsRams c _).2.trans (landed_keepsRams k).2⟩

end Sys2Proof.Machine
end

section
/-! Stores of the cores: an instruction's (R445, R446), through the window of core 1 (R444), and those of the debug port (R545). -/

namespace Sys2Proof.Machine

/-! ### Writes that set out on the rings (R267, R444) -/

theorem copiesOf_memoryWf (s : State) (l : List Nat) : (s.copiesOf l).1.memoryWf = s.memoryWf := by
  induction l generalizing s with
  | nil => rfl
  | cons a l ih =>
    have hstale : ∀ (u : State) (c : Bool) (i p m : Nat), (if c then u.setStale i p m else u).memoryWf = u.memoryWf := fun u c i p m => by
      split <;> rfl
    have hcopies : (s.writeCopies a).1.memoryWf = s.memoryWf := by
      unfold State.writeCopies
      split
      · rfl
      · exact (hstale _ _ _ _ _).trans (hstale _ _ _ _ _)
    unfold State.copiesOf
    exact (ih _).trans hcopies

theorem refuseAccess_memoryWf (s : State) {r : MasterReq} (hr : r.kind ≠ .fabric) : (s.refuseAccess r).memoryWf = s.memoryWf := by
  unfold State.refuseAccess
  rw [if_neg hr]
  rfl

theorem rings_memoryWf (s : State) (x : Rings) : State.memoryWf { s with rings := x } = s.memoryWf := rfl

theorem sendWrite_memoryWf (s : State) (g : Nat) {r : MasterReq} (hr : r.kind ≠ .fabric) (ws : List (Option Nat)) :
    (s.sendWrite g r ws).memoryWf = s.memoryWf := by
  unfold State.sendWrite
  split
  · exact refuseAccess_memoryWf s hr
  · next l _ =>
    have hcopies := copiesOf_memoryWf s l
    generalize s.copiesOf l = copies at hcopies ⊢
    obtain ⟨u, ps, qs⟩ := copies
    dsimp only at hcopies ⊢
    rw [each_keeps State.memoryWf _ fun w run => injectAll_memoryWf w _ _ _]
    generalize (if r.posted then 0 else r.tag) = tag
    split
    · exact hcopies
    · exact (rings_memoryWf u _).trans hcopies

theorem addressError_memoryWf (s : State) (g : Nat) (write : Bool) : (s.addressError g write).memoryWf = s.memoryWf := by
  unfold State.addressError
  dsimp only
  rw [raise_memoryWf, took_memoryWf]
  split <;> rfl

theorem tagPort_of_other (s : State) {r : MasterReq} (hr : r.kind ≠ .fabric) : s.tagPort r = some (s, r, (r.words.map some).take 16) :=
  if_pos hr

/-- A write that the steward asks for stores to no memory until its words come there. -/
theorem masterRequest_memoryWf (s : State) (g : Nat) {r : MasterReq} (hr : r.kind ≠ .fabric) (hw : r.write = true) :
    (opMasterRequest g r s).memoryWf = s.memoryWf := by
  unfold opMasterRequest
  extract_lets +onlyGivenNames u q
  have hkind : q.kind ≠ .fabric := hr
  have hwrite : q.write = true := hw
  have hsilent : u.memoryWf = s.memoryWf := silent_memoryWf s
  clear_value u q
  rw [tagPort_of_other u hkind]
  split
  · exact hsilent
  · dsimp only
    rw [if_pos hwrite]
    split
    · rw [refuseAccess_memoryWf _ hkind, addressError_memoryWf, hsilent]
    · rw [sendWrite_memoryWf _ _ hkind, hsilent]

theorem windowDone_memoryWf (s : State) (tag : Nat) : (s.windowDone tag none).memoryWf = s.memoryWf := by
  unfold State.windowDone
  split
  · rfl
  · dsimp only
    rw [closeKeeps_memoryWf.haltIfDue]
    split
    · rw [onCore_memoryWf, took_memoryWf, onCore_memoryWf]
      · exact fun _ => ⟨rfl, rfl⟩
      · exact fun _ => ⟨rfl, rfl⟩
    · rw [took_memoryWf, onCore_memoryWf]
      exact fun _ => ⟨rfl, rfl⟩

theorem reply_memoryWf (s : State) (x : Reply) : State.memoryWf { s with reply := x } = s.memoryWf := rfl

/-- A store through the window waits on core 1 for its answer. -/
theorem windowAsk_memoryWf (s : State) (a v : Nat) : (s.windowAsk a none v).memoryWf = s.memoryWf := by
  unfold State.windowAsk
  dsimp only
  rw [reply_memoryWf]
  split
  · rw [masterRequest_memoryWf, onCore_memoryWf]
    · exact fun _ => ⟨rfl, rfl⟩
    · exact (by decide : MasterKind.steward ≠ .fabric)
    · rfl
  · rw [windowDone_memoryWf, masterRequest_memoryWf, onCore_memoryWf]
    · exact fun _ => ⟨rfl, rfl⟩
    · exact (by decide : MasterKind.steward ≠ .fabric)
    · rfl

/-! ### ST (R445, R446) -/

theorem movePointer_memoryWf (s : State) (c : Nat) (k : Core) (p mode : Nat) : (s.movePointer c k p mode).memoryWf = s.memoryWf := by
  unfold State.movePointer State.setP
  split
  · rw [onCore_memoryWf]
    exact fun _ => ⟨rfl, rfl⟩
  · rfl

theorem memoryWf_storeFrom {s : State} (h : s.memoryWf = true) (c a v : Nat) : (s.storeFrom c a v).memoryWf = true := by
  have hwatched : (s.watchHits c a true).memoryWf = true := (watchHits_memoryWf s c a true).trans h
  unfold State.storeFrom
  dsimp only
  split
  · rwa [windowAsk_memoryWf]
  · next hx => exact memoryWf_storeData hwatched c a v (by simpa using hx)

theorem memoryWf_duskSt {s : State} (h : s.memoryWf = true) (c d p mode offset : Nat) : (opDuskSt c d p mode offset s).memoryWf = true :=
  memoryWf_issue h c _ _ fun k _ hu => (movePointer_memoryWf _ c k p mode).trans (memoryWf_storeFrom hu _ _ _)

/-! ### The debug port (R444, R545) -/

theorem putCell_memoryWf (s : State) (f w v : Nat) : (s.putCell f w v).memoryWf = s.memoryWf := rfl
theorem frameWritten_memoryWf (s : State) (f : Nat) : (s.frameWritten f).memoryWf = s.memoryWf := rfl

theorem configRead_memoryWf (s : State) (a : Nat) : (s.configRead a).1.memoryWf = s.memoryWf := by
  unfold State.configRead
  extract_lets w
  clear_value w
  split
  · exact took_memoryWf s
  · split <;> rfl

theorem configWrite_memoryWf (s : State) (a data mask : Nat) (poison : Bool) : (s.configWrite a data mask poison).memoryWf = s.memoryWf := by
  have hread := configRead_memoryWf s a
  unfold State.configWrite
  extract_lets w put
  clear_value w
  split
  · rw [frameWritten_memoryWf, putCell_memoryWf]
  · split
    · rw [frameWritten_memoryWf, putCell_memoryWf]
    · generalize s.configRead a = read at hread ⊢
      obtain ⟨u, d⟩ := read
      cases d <;> exact ((frameWritten_memoryWf _ _).trans (putCell_memoryWf _ _ _ _)).trans hread

/-- A write of a master at once, to whatever memory its address lies in. -/
theorem memoryWf_masterWrite {s : State} (h : s.memoryWf = true) (g : Nat) (kind : MasterKind) (u a data mask : Nat) (poison : Bool) :
    (s.masterWrite g kind u a data mask poison).memoryWf = true := by
  unfold State.masterWrite
  split
  · rwa [addressError_memoryWf]
  · split
    · exact memoryWf_writeWord h _ _ _ _
    · split
      · rwa [configWrite_memoryWf]
      · exact memoryWf_padWriteNow h _ _ _ _

theorem memoryWf_dataWrite {s : State} (h : s.memoryWf = true) (c a v : Nat) : (s.storeData c a v).memoryWf = true := by
  by_cases hx : external c a = true
  · unfold State.storeData
    rw [if_pos hx]
    exact memoryWf_masterWrite h _ _ _ _ _ _ _
  · exact memoryWf_storeData h c a v (by simpa using hx)

/-- A debug operation keeps the form if what it does keeps it. -/
theorem memoryWf_debugOp {s : State} (h : s.memoryWf = true) (op target right addr data : Nat) {k : State → State × Nat × Nat}
    (hk : ∀ u : State, u.memoryWf = true → (k u).1.memoryWf = true) : (s.debugOp op target right addr data k).memoryWf = true := by
  have hheard : s.heardRecord.memoryWf = true := by
    unfold State.heardRecord
    split <;> exact h
  have hreply : ∀ (u : State) (a b c d e : Nat), (u.debugReply a b c d e).memoryWf = u.memoryWf := fun _ _ _ _ _ _ => rfl
  unfold State.debugOp
  dsimp only
  split
  · exact h
  · split
    · rwa [hreply]
    · rw [hreply]
      exact hk _ hheard

theorem memoryWf_onHalted {s : State} (h : s.memoryWf = true) (c data : Nat) {k : State → State × Nat × Nat}
    (hk : ∀ u : State, u.memoryWf = true → (k u).1.memoryWf = true) : (s.onHalted c data k).1.memoryWf = true := by
  unfold State.onHalted
  split
  · exact hk s h
  · exact h

theorem memoryWf_wrData {s : State} (h : s.memoryWf = true) (c addr data : Nat) : (opWrData c addr data s).memoryWf = true := by
  refine memoryWf_debugOp h _ _ _ _ _ fun _ hu => memoryWf_onHalted hu c data fun v hv => ?_
  split
  · exact memoryWf_dataWrite hv _ _ _
  · exact hv

theorem memoryWf_wrProg {s : State} (h : s.memoryWf = true) (c addr data : Nat) : (opWrProg c addr data s).memoryWf = true := by
  refine memoryWf_debugOp h _ _ _ _ _ fun _ hu => memoryWf_onHalted hu c data fun v hv => ?_
  split
  · exact hv
  · split
    · exact hv
    · exact memoryWf_onCore hv 0 _ (fun _ hp => twf_tput _ _ _ hp) fun _ hd => hd

end Sys2Proof.Machine
end

section
/-! Eight commands that store to a memory keep its canonical form (log entries 71 and 72). -/

namespace Sys2Proof.Machine

/-- A command keeps the form if its own effect does: what follows it touches no memory. -/
theorem memoryWf_command {s t : State} {ok : Bool} {f : State → State} (ht : command ok f s = .next t) (hf : (f s).memoryWf = true) :
    t.memoryWf = true := by
  rw [(command_eq_next s ht).2, ran_memoryWf]
  exact hf

/-- Settles O58, command by command. -/
theorem memoriesStayCanonical : Obligations.MemoriesStayCanonical := by
  unfold Obligations.MemoriesStayCanonical
  intro i s t h ht hi
  split at hi
  · exact memoryWf_command ht (memoryWf_sliceBankAccess h _ _)
  · exact memoryWf_command ht (memoryWf_scratchpadScrubAccess h _)
  · exact memoryWf_command (ok := true) ht (memoryWf_wipeComplete h _)
  · exact memoryWf_command ht (memoryWf_bramWrite h _ _ _ _ _)
  · refine memoryWf_command ht ?_
    split
    · exact memoryWf_duskSt h _ _ _ _ _
    · exact h
  · exact memoryWf_command (ok := true) ht (memoryWf_wrData h _ _ _)
  · exact memoryWf_command (ok := true) ht (memoryWf_wrProg h _ _ _)
  · exact memoryWf_command (ok := true) ht (memoryWf_fillComplete h)
  · exact hi.elim

end Sys2Proof.Machine
end

section
/-! Block memories (R322): a write of a port changes more registers than its own where the integrity conditions have yet to follow the state. -/

namespace Sys2Proof.Machine

theorem exec_bramWrite {m : Nat} (hm : m < 10240) (addr data : Nat) (p : BramPort) (wpoison : Bool) (s : State) :
    exec (.bramWrite m addr data p wpoison) s = .next (s.ran (opBramWrite m addr data p wpoison s)) := command_next s (decide_eq_true hm) _

/-- The fabric is CONFIGURED and block memory 0 is in the coded mode. BREACH is latched (Table 18.4), but CONDITIONS and STATE of 0x9000 do not show it
yet: they follow after the next command. -/
def unsettledBreach : State := { (State.reset.setReg R.bm_MODE 0 1).setReg R.cfg_FABRIC_STATE 0 2 with latched := 16 }

/-- The memory answers, and STATE is still 0. -/
theorem unsettledBreach_runs : unsettledBreach.bramRuns 0 = true ∧ unsettledBreach.reg R.bm_MODE 0 = 1 ∧
    unsettledBreach.reg R.integ_STATE = 0 := by decide +kernel

/-- After a coded write STATE is AT_RISK, for the latched BREACH. -/
theorem unsettledBreach_written : (unsettledBreach.ran (opBramWrite 0 0 0 ⟨false, false⟩ true unsettledBreach)).reg R.integ_STATE = 2 := by
  decide +kernel

/-- Refutes O22: its clauses of writes take every register to stay as it was, in states too whose integrity conditions have yet to follow (R504); where
a latched BREACH is not shown yet, STATE of 0x9000 goes from 0 to 2 with the write. -/
theorem not_blockMemoriesAndPlls : ¬ Obligations.BlockMemoriesAndPlls := by
  unfold Obligations.BlockMemoriesAndPlls
  rintro ⟨-, -, -, -, -, hwrite, -⟩
  obtain ⟨hruns, hmode, hstate⟩ := unsettledBreach_runs
  obtain ⟨u, hexec, -, -, hregs⟩ := hwrite 0 0 0 ⟨false, false⟩ true unsettledBreach (by decide) hruns hmode
  rw [exec_bramWrite (by decide)] at hexec
  injection hexec with hu
  have hkept : u.reg R.integ_STATE = unsettledBreach.reg R.integ_STATE := reg_of_regs hregs _ _
  rw [← hu, unsettledBreach_written, hstate] at hkept
  exact absurd hkept (by decide)

end Sys2Proof.Machine
end

section
/-! Operator ports: what the operations on a port leave, for all their handshakes (R331 to R345). -/

namespace Sys2Proof.Machine

theorem port_of_fabric {s u : State} (h : u.fabric = s.fabric) (q : Nat) : u.port q = s.port q := by simp only [State.port, h]

/-- A port reads back what it was changed to. -/
@[simp] theorem onPort_port_same (s : State) (q : Nat) (f : PortRun → PortRun) : (s.onPort q f).port q = f (s.port q) :=
  tget_tput_same _ _ _ _

@[simp] theorem portCounts_fabric (s : State) (q : Nat) : (s.portCounts q).fabric = s.fabric := rfl

/-- A register that is neither READS_OUT nor WRITES_OUT. -/
theorem portCounts_reg (s : State) {r : Reg} (hreads : r.ref ≠ R.port_READS_OUT.ref) (hwrites : r.ref ≠ R.port_WRITES_OUT.ref) (q j : Nat) :
    (s.portCounts q).reg r j = s.reg r j :=
  (reg_setReg_of_ref _ hwrites _ _ _).trans (reg_setReg_of_ref _ hreads _ _ _)

end Sys2Proof.Machine
end

section
/-! Operator port operations: presence, descriptor, parameters, completions and aborts (R331 to R336, R344). -/

namespace Sys2Proof.Machine

/-! ### PRESENT (R331) -/

theorem exec_portUpChange {q : Nat} (hq : q < 512) (t : Nat) (up : Bool) (s : State) :
    exec (.portUpChange t q up) s = .next (s.ran (opPortUpChange t q up s)) := command_next s (decide_eq_true hq) _

/-- An operator that goes leaves a register that the scheduler does not write. -/
theorem operatorGone_reg (s : State) (o : Nat) {r : Reg} (hraise : r.ref ∉ raiseRefs) (hsched : r.ref ∉ schedRefs) (j : Nat) :
    (s.operatorGone o).reg r j = s.reg r j := by
  unfold State.operatorGone
  dsimp only
  rw [schedule_reg _ hraise hsched, setRun_reg]
  refine each_keeps (fun u => u.reg r j) _ (fun u x => ?_) s _
  exact (schedKeeps_reg hraise hsched j).substituteAbsent _ x _

/-- PRESENT follows the conditions of R331. -/
theorem refreshPort_portUp (s : State) (q cause : Nat) : (s.refreshPort q cause).portUp q = s.portOffered q := by
  have hset : ∀ b : Bool, ((s.setReg R.port_PRESENT q (b2n b)).raise 0x7003 (q + b2n b * 512 + cause * 2 ^ 12)).reg R.port_PRESENT q =
      b2n b := fun b => by
    rw [raise_reg _ (by decide), reg_setReg_same]
    cases b <;> rfl
  simp only [State.refreshPort]
  split
  · next hsame => exact eq_of_beq hsame
  · cases hoffered : s.portOffered q with
    | true =>
      rw [if_pos rfl, State.portUp, State.on, hset]
      rfl
    | false =>
      rw [if_neg Bool.false_ne_true, State.portUp, State.on, operatorGone_reg _ _ (by decide) (by decide),
        portCounts_reg _ (by decide) (by decide), onPort_reg, hset]
      rfl

/-! ### Descriptor and parameters (R333, R334) -/

theorem exec_descriptorHandshake {q : Nat} (hq : q < 512) (s : State) :
    exec (.descriptorHandshake q) s = .next (s.ran (opDescriptorHandshake q s)) := command_next s (decide_eq_true hq) _

theorem exec_parameterHandshake {q : Nat} (hq : q < 512) (s : State) :
    exec (.parameterHandshake q) s = .next (s.ran (opParameterHandshake q s)) := command_next s (decide_eq_true hq) _

theorem descriptorHandshake_taken {s : State} {q : Nat} {r : RunOp} (hup : s.portUp q = true) (hop : s.portOp q = some r)
    (hnew : (s.port q).taken = false) : opDescriptorHandshake q s =
      (s.onPort q fun p => { p with taken := true, param := 0, paramLen := none }).answerWith (s.descriptor r) := by
  simp only [opDescriptorHandshake, hup, hop, hnew]
  rfl

section
variable {s u : State} {q : Nat} {r : RunOp} (hup : s.portUp q = true) (hop : s.portOp q = some r) (hpresents : (s.port q).presents = true)
include hup hop hpresents

theorem parameterHandshake_word {d : Nat} (hword : s.paramWord q r (s.port q).param = (u, some d)) {n : Nat}
    (hn : n = if (s.port q).param = 0 then max 1 (bits d 47 32) else (s.port q).paramLen.getD 1) : opParameterHandshake q s =
      (u.onPort q fun p => { p with param := (s.port q).param + 1, paramLen := some n }).answerWith
        (pmReply d ((s.port q).param + 1 == n) false) := by
  subst hn
  simp only [opParameterHandshake, hup, hop, hpresents, Bool.and_self, hword]

theorem parameterHandshake_poison (hword : s.paramWord q r (s.port q).param = (u, none)) {n : Nat}
    (hn : n = if (s.port q).param = 0 then 1 else (s.port q).paramLen.getD 1) : opParameterHandshake q s =
      ((u.onPort q fun p => { p with param := (s.port q).param + 1, paramLen := some n, flagged := true }).inc
        R.port_POISON_WORDS q).answerWith (pmReply 0 ((s.port q).param + 1 == n) true) := by
  subst hn
  simp only [opParameterHandshake, hup, hop, hpresents, Bool.and_self, hword]

end

/-! ### Completions (R335, R336) -/

theorem exec_doneHandshake {q : Nat} (hq : q < 512) (t tag status code : Nat) (s : State) :
    exec (.doneHandshake t q tag status code) s = .next (s.ran (opDoneHandshake t q tag status code s)) :=
  command_next s (decide_eq_true hq) _

theorem exec_completionForward {q : Nat} (hq : q < 512) (t : Nat) (s : State) :
    exec (.completionForward t q) s = .next (s.ran (opCompletionForward t q s)) := command_next s (decide_eq_true hq) _

/-- What becomes of a completion with the TAG of the operation: ABORTED under an abort, a fault with status 3, which is a violation, else as it
is. -/
theorem doneHandshake_accepts {s : State} {t q : Nat} {r : RunOp} (hup : (s.advanceTo t).portUp q = true)
    (hrun : (s.advanceTo t).runOp (96 + q) = some r) (hdone : ((s.advanceTo t).port q).done = none) (status code : Nat) :
    opDoneHandshake t q ((s.advanceTo t).fullTag r) status code s =
      if r.aborting then ((s.advanceTo t).dropBlock q r).onPort q fun p => { p with done := some (3, code) }
      else if status = 3 then (((s.advanceTo t).dropBlock q r).violation q 3).onPort q fun p => { p with done := some (2, code) }
      else ((s.advanceTo t).dropBlock q r).onPort q fun p => { p with done := some (status, code) } := by
  simp only [opDoneHandshake, hup, hrun, hdone, ne_eq, not_true_eq_false, if_false, Bool.not_true, Bool.false_eq_true, Option.isSome_none]

theorem doneHandshake_discards {s : State} {t q tag : Nat} (hup : (s.advanceTo t).portUp q = true)
    (hother : ∀ r, (s.advanceTo t).runOp (96 + q) = some r → tag ≠ (s.advanceTo t).fullTag r) (status code : Nat) :
    opDoneHandshake t q tag status code s = ((s.advanceTo t).inc R.port_BAD_COMPLETIONS q).raise 0x7004 q := by
  simp only [opDoneHandshake, hup, Bool.not_true, Bool.false_eq_true, if_false]
  split
  · rfl
  · next r hrun => exact if_pos (hother r hrun)

/-- The status a completion is forwarded with: DONE becomes a fault where poison or a lost write flags the operation (R336). -/
def PortRun.forwardStatus (p : PortRun) (r : RunOp) (status : Nat) : Nat :=
  if status = 0 ∧ (p.flagged ∨ r.flagged ∨ p.showsPoison r.tag) then 1 else status

/-- A port whose completion has been forwarded: its slot is empty, and the responses to an aborted TAG are gone (R344). -/
def PortRun.forwarded (p : PortRun) (r : RunOp) : PortRun :=
  { p with done := none, taken := false, param := 0, paramLen := none, flagged := false,
           responses := if r.aborting then p.responses.filter fun x => x.tag != r.tag else p.responses }

/-- The state in which the accepted completion of port `q` is on its way to the scheduler. -/
def State.forwarded (s : State) (q : Nat) (r : RunOp) (status : Nat) : State :=
  ((s.onPort q fun p => p.forwarded r).setRun (96 + q) none).forward (96 + q) (s.fullTag r) ((s.port q).forwardStatus r status)

theorem forwarded_port (s : State) (q : Nat) (r : RunOp) (status : Nat) : (s.forwarded q r status).port q = (s.port q).forwarded r :=
  onPort_port_same s q fun p => p.forwarded r

theorem forwarded_runOp (s : State) (q : Nat) (r : RunOp) (status : Nat) : (s.forwarded q r status).runOp (96 + q) = none :=
  tget_tput_same (fun _ => none) (96 + q) none s.engines.running

theorem forwarded_list (s : State) (q : Nat) (r : RunOp) (status : Nat) : (s.forwarded q r status).fabric.forwarded =
    s.fabric.forwarded ++ [(96 + q, s.fullTag r, (s.port q).forwardStatus r status)] := rfl

theorem completionForward_forwards {s : State} {t q status code : Nat} {r : RunOp} (hup : (s.advanceTo t).portUp q = true)
    (hrun : (s.advanceTo t).runOp (96 + q) = some r) (hdone : ((s.advanceTo t).port q).done = some (status, code))
    (hout : ((s.advanceTo t).port q).outstanding r.tag = false) : opCompletionForward t q s =
      ((s.advanceTo t).forwarded q r status).answerWith
        (leBytes 1 (((s.advanceTo t).port q).forwardStatus r status) ++ leBytes 1 code) := by
  simp only [opCompletionForward, hup, hrun, hdone, hout, Bool.false_eq_true, if_false]
  rfl

/-! ### Aborts (R344) -/

theorem exec_forcedAbort {q : Nat} (hq : q < 512) (t : Nat) (s : State) :
    exec (.forcedAbort t q) s = .next (s.ran (opForcedAbort t q s)) := command_next s (decide_eq_true hq) _

theorem forcedAbort_aborts {s : State} {t q : Nat} {r : RunOp} (hop : (s.advanceTo t).portOp q = some r) (haborting : r.aborting = true)
    (htime : r.abortedAt + 2000 ≤ (s.advanceTo t).mono) (hup : (s.advanceTo t).portUp q = true) : opForcedAbort t q s =
      ((((s.advanceTo t).dropBlock q r).onPort q fun p => { p with done := some (3, 0) }).inc R.port_FORCED_ABORTS q).raise 0x7005 q := by
  simp only [opForcedAbort, hop]
  exact if_pos (by simp only [haborting, htime, hup, decide_true, Bool.and_self])

/-- Settles O23: each handshake by its equation; PRESENT as its conditions say, and a forwarded completion read field by field. -/
theorem portOperationsHandshake : Obligations.PortOperationsHandshake := by
  unfold Obligations.PortOperationsHandshake
  refine ⟨fun t q p v s hq hv => ?up, fun q r s hq hup hop hnew => ?descriptor, fun q n d r u s hq hup hop hpresents hn hword => ?word,
    fun q n r u s hq hup hop hpresents hn hword => ?poison, fun t q status code r s hq hup hrun hdone hlive hstatus => ?done,
    fun t q code r s hq hup hrun hdone hlive => ?violation, fun t q status code r s hq hup hrun hdone haborting => ?aborted,
    fun t q tag status code s hq hup hother => ?bad, fun t q status code r p s hq hup hrun hp hdone hout => ?forward,
    fun t q r s hq hop haborting htime hup => ?forced⟩
  case up =>
    subst hv
    exact ⟨exec_portUpChange hq t p s, refreshPort_portUp _ q 1⟩
  case descriptor => rw [exec_descriptorHandshake hq, descriptorHandshake_taken hup hop hnew]
  case word => rw [exec_parameterHandshake hq, parameterHandshake_word hup hop hpresents hword hn]
  case poison => rw [exec_parameterHandshake hq, parameterHandshake_poison hup hop hpresents hword hn]
  case done =>
    rw [exec_doneHandshake hq, doneHandshake_accepts hup hrun hdone, hlive, if_neg Bool.false_ne_true, if_neg hstatus]
  case violation => rw [exec_doneHandshake hq, doneHandshake_accepts hup hrun hdone, hlive, if_neg Bool.false_ne_true, if_pos rfl]
  case aborted => rw [exec_doneHandshake hq, doneHandshake_accepts hup hrun hdone, haborting, if_pos rfl]
  case bad => rw [exec_doneHandshake hq, doneHandshake_discards hup hother]
  case forward =>
    subst hp
    have hop := completionForward_forwards hup hrun hdone hout
    have hfabric : (s.ran (opCompletionForward t q s)).fabric = ((s.advanceTo t).forwarded q r status).fabric := by
      rw [ran_fabric, hop, answerWith_fabric]
    have hport : (s.ran (opCompletionForward t q s)).port q = ((s.advanceTo t).port q).forwarded r := by
      rw [port_of_fabric hfabric, forwarded_port]
    refine ⟨_, exec_completionForward hq t s, ?_, ?_, ?_, ?_, ?_, ?_⟩
    · rw [State.runOp, ran_engines, hop, answerWith_engines]
      exact forwarded_runOp (s.advanceTo t) q r status
    · rw [hport, PortRun.forwarded]
    · rw [hport, PortRun.forwarded]
    · rw [hfabric, forwarded_list, advanceTo_fabric]
      rfl
    · rw [ran_reply, hop]
      rfl
    · rw [hport, PortRun.forwarded]
  case forced => rw [exec_forcedAbort hq, forcedAbort_aborts hop haborting htime hup]

end Sys2Proof.Machine
end

section
/-! Operator port transfers: read requests, responses and write flits (R337, R339, R340, R342). -/

namespace Sys2Proof.Machine

/-! ### Reads (R339, R342) -/

theorem exec_readRequestHandshake {q : Nat} (hq : q < 512) (addr count : Nat) (mirror : Bool) (ident : Nat) (s : State) :
    exec (.readRequestHandshake q addr count mirror ident) s = .next (s.ran (opReadRequestHandshake q addr count mirror ident s)) :=
  command_next s (decide_eq_true hq) _

theorem exec_readResponseHandshake {q : Nat} (hq : q < 512) (s : State) :
    exec (.readResponseHandshake q) s = .next (s.ran (opReadResponseHandshake q s)) := command_next s (decide_eq_true hq) _

/-- The request as the port keeps it, with the TAG and the class of the operation now active (R337). -/
def State.readRequest (s : State) (q addr count : Nat) (mirror : Bool) (ident : Nat) : PortRead :=
  { tag := s.portTag q, ident := ident % 64, addr := addr % 2 ^ 35 * 32, count := count % 16 + 1, mirror := mirror,
    guaranteed := s.portGuaranteed q }

theorem readRequestHandshake_accepts {s : State} {q count : Nat} (hup : s.portUp q = true) (hlive : s.portAborting q = false)
    (hlimit : (s.port q).reads.length < 64) (hroom : (s.port q).bufferUsed + ceilDiv (count % 16 + 1) 2 ≤ 128) (addr : Nat) (mirror : Bool)
    (ident : Nat) : opReadRequestHandshake q addr count mirror ident s =
      (s.onPort q fun p => { p with reads := p.reads ++ [s.readRequest q addr count mirror ident] }).portCounts q := by
  have htaken : ¬ (!s.portUp q || s.portAborting q || decide (64 ≤ (s.port q).reads.length) ||
      decide (128 < (s.port q).bufferUsed + ceilDiv (count % 16 + 1) 2)) = true := by
    simp [hup, hlive, hlimit, hroom]
  exact if_neg htaken

theorem readResponseHandshake_hands {s : State} {q : Nat} {r : RsFlit} {rest : List RsFlit} (hup : s.portUp q = true)
    (hnext : (s.port q).responses = r :: rest) : opReadResponseHandshake q s =
      ((((s.onPort q fun p => { p with
          responses := rest
          flagged := p.flagged || ((r.tag != 0 && r.tag == (s.runOp (96 + q)).elim 0 RunOp.tag) && r.poison != 0) }).add
        R.port_POISON_WORDS q (popCount 2 r.poison)).add
        R.port_BYTES_READ q (32 * (if r.err = 1 then 0 else if r.two then 2 else 1))).answerWith (rsReply r)) := by
  unfold opReadResponseHandshake
  simp only [hup, hnext]

/-! ### Writes (R340) -/

theorem exec_writeFlitHandshake {q : Nat} (hq : q < 512) (f : WrFlit) (s : State) :
    exec (.writeFlitHandshake q f) s = .next (s.ran (opWriteFlitHandshake q f s)) := command_next s (decide_eq_true hq) _

/-- The transfer that a flit would open, before its words, with the TAG and the class of the operation now active (R337). -/
def State.freshWrite (s : State) (q : Nat) (f : WrFlit) : PortWrite :=
  { tag := s.portTag q, ident := f.ident % 64, addr := f.addr % 2 ^ 35 * 32, mask := f.mask % 2 ^ 32, posted := f.posted,
    guaranteed := s.portGuaranteed q }

/-- A transfer with the words of one more flit; a mask on more than one word spoils it (Table 11.6, code 1). -/
def PortWrite.grown (w : PortWrite) (f : WrFlit) : PortWrite :=
  { w with words := w.words ++ wrWords f, flits := w.flits + 1,
           bad := if (f.mask % 2 ^ 32 != fullMask || w.mask != fullMask) && (f.two || decide (1 < w.flits + 1)) then 1 else w.bad }

theorem grown_unmasked {w : PortWrite} {f : WrFlit} (hmask : w.mask = fullMask) (hflit : f.mask % 2 ^ 32 = fullMask) :
    w.grown f = { w with words := w.words ++ wrWords f, flits := w.flits + 1 } := by
  simp only [PortWrite.grown, hmask, hflit, bne_self_eq_false, Bool.or_self, Bool.false_and, Bool.false_eq_true, if_false]

theorem grown_fresh (s : State) (q : Nat) (f : WrFlit) : (s.freshWrite q f).grown f =
    { s.freshWrite q f with words := wrWords f, flits := 1, bad := if f.mask % 2 ^ 32 ≠ fullMask ∧ f.two = true then 1 else 0 } := by
  simp [PortWrite.grown, State.freshWrite]

/-- A flit that would open a transfer has to wait: no new one of its operation is taken (R344), or 64 await their acknowledgements (R340). -/
def State.writeWaits (s : State) (q : Nat) (f : WrFlit) : Bool :=
  s.portAborting q || (decide (64 ≤ ((s.port q).writes.filter fun w => !w.posted).length) && !f.posted)

/-- What becomes of a flit that a port takes without a violation: it grows its transfer, which WR_LAST ends, or the eighth flit (Table 11.6,
code 2). -/
theorem writeFlitHandshake_takes {s : State} {q : Nat} {f : WrFlit} (hup : s.portUp q = true)
    (htaken : ((s.port q).cur.isNone && s.writeWaits q f) = false) (hpoison : (f.poison.testBit 1 && !f.two) = false) {w : PortWrite}
    (hw : ((s.port q).cur.getD (s.freshWrite q f)).grown f = w) : opWriteFlitHandshake q f s =
      if f.last then s.endWrite q w
      else if w.flits = 8 then s.endWrite q { w with bad := if w.bad = 0 then 2 else w.bad }
      else s.onPort q fun p => { p with cur := some w } := by
  subst hw
  unfold opWriteFlitHandshake
  simp only [hup, hpoison]
  exact if_neg (Bool.eq_false_iff.mp htaken)

theorem writeFlitHandshake_opens {s : State} {q : Nat} {f : WrFlit} (hup : s.portUp q = true) (hcur : (s.port q).cur = none)
    (hlive : s.portAborting q = false) (hroom : f.posted = true ∨ ((s.port q).writes.filter fun w => !w.posted).length < 64)
    (hpoison : (f.poison.testBit 1 && !f.two) = false) (hlast : f.last = false) : opWriteFlitHandshake q f s =
      s.onPort q fun p => { p with cur := some ((s.freshWrite q f).grown f) } := by
  have hwaits : s.writeWaits q f = false := by
    rcases hroom with hposted | hlimit
    · simp [State.writeWaits, hlive, hposted]
    · simp [State.writeWaits, hlive, Nat.not_le.mpr hlimit]
  have hw : ((s.port q).cur.getD (s.freshWrite q f)).grown f = (s.freshWrite q f).grown f := by rw [hcur, Option.getD_none]
  have hflits : ((s.freshWrite q f).grown f).flits ≠ 8 := by
    rw [grown_fresh]
    exact (by decide : (1 : Nat) ≠ 8)
  rw [writeFlitHandshake_takes hup (by rw [hwaits, Bool.and_false]) hpoison hw, hlast, if_neg Bool.false_ne_true, if_neg hflits]

/-- A flit of a transfer that is open and has no mask: neither can be spoilt. -/
theorem writeFlitHandshake_grows {s : State} {q : Nat} {f : WrFlit} {w : PortWrite} (hup : s.portUp q = true) (hcur : (s.port q).cur = some w)
    (hpoison : (f.poison.testBit 1 && !f.two) = false) (hmask : w.mask = fullMask) (hflit : f.mask % 2 ^ 32 = fullMask) {x : PortWrite}
    (hx : x = { w with words := w.words ++ wrWords f, flits := w.flits + 1 }) : opWriteFlitHandshake q f s =
      if f.last then s.endWrite q x
      else if x.flits = 8 then s.endWrite q { x with bad := if x.bad = 0 then 2 else x.bad }
      else s.onPort q fun p => { p with cur := some x } :=
  writeFlitHandshake_takes hup (by rw [hcur, Option.isNone_some, Bool.false_and]) hpoison
    (by rw [hcur, Option.getD_some, grown_unmasked hmask hflit, hx])

/-- A whole transfer without a violation is accepted, and its bytes are counted. -/
theorem endWrite_accepts {s : State} {q : Nat} {w : PortWrite} (hgood : w.bad = 0) :
    ((s.endWrite q w).port q).cur = none ∧ ((s.endWrite q w).port q).writes = (s.port q).writes ++ [w] ∧
      (s.endWrite q w).reg R.port_BYTES_WRITTEN q =
        (s.reg R.port_BYTES_WRITTEN q + 32 * w.words.length) % 2 ^ R.port_BYTES_WRITTEN.bits := by
  have hend : s.endWrite q w = ((((s.onPort q fun p => { p with cur := none }).onPort q fun p => { p with writes := p.writes ++ [w] }).add
      R.port_BYTES_WRITTEN q (32 * w.words.length)).portCounts q) := if_pos hgood
  have hport : (s.endWrite q w).port q = { s.port q with cur := none, writes := (s.port q).writes ++ [w] } := by
    rw [hend, port_of_fabric (portCounts_fabric _ _), port_of_fabric (add_fabric _ _ _ _), onPort_port_same, onPort_port_same]
  refine ⟨by rw [hport], by rw [hport], ?_⟩
  rw [hend, portCounts_reg _ (by decide) (by decide), State.add, reg_setReg_same, onPort_reg, onPort_reg]

/-- Settles O24: a request and a response by what the port keeps of them, a write flit by the transfer it grows. -/
theorem portTransfersHandshake : Obligations.PortTransfersHandshake := by
  unfold Obligations.PortTransfersHandshake
  refine ⟨fun q addr count ident mirror r s hq hup hlive hlimit hroom hr => ?request, fun q own r rest s hq hup hnext hown => ?response,
    fun q f x s hq hup hcur hlive hroom hpoison hlast hx => ?opened, fun q f w s hq hup hcur hpoison hlast hflits hmask hflit => ?grown,
    fun q f w s hq hup hcur hpoison hlast hgood hmask hflit => ?ended⟩
  case request =>
    rw [exec_readRequestHandshake hq, readRequestHandshake_accepts hup hlive hlimit hroom, hr]
    rfl
  case response => rw [exec_readResponseHandshake hq, readResponseHandshake_hands hup hnext, hown]
  case opened =>
    rw [exec_writeFlitHandshake hq, writeFlitHandshake_opens hup hcur hlive hroom hpoison hlast, grown_fresh, hx]
    rfl
  case grown =>
    rw [exec_writeFlitHandshake hq, writeFlitHandshake_grows hup hcur hpoison hmask hflit rfl, hlast, if_neg Bool.false_ne_true,
      if_neg (Nat.ne_of_lt (Nat.succ_lt_succ hflits))]
  case ended =>
    have hop := writeFlitHandshake_grows hup hcur hpoison hmask hflit rfl
    rw [hlast, if_pos rfl] at hop
    obtain ⟨hclosed, hwrites, hbytes⟩ :=
      endWrite_accepts (s := s) (q := q) (w := { w with words := w.words ++ wrWords f, flits := w.flits + 1 }) hgood
    refine ⟨_, exec_writeFlitHandshake hq f s, ?_, ?_, ?_⟩
    · rw [port_of_fabric (ran_fabric s _), hop, hclosed]
    · rw [port_of_fabric (ran_fabric s _), hop, hwrites]
    · rw [ran_reg _ _ (by decide), hop, hbytes]

end Sys2Proof.Machine
end

section
/-! The configuration loader: what beginning a load, holding the fabric in reset and changing a shadow leave (R356 to R359). -/

namespace Sys2Proof.Machine

variable (s : State)

@[simp] theorem ok_reg (r : Reg) (j : Nat) : s.ok.reg r j = s.reg r j := rfl
@[simp] theorem ok_config : s.ok.config = s.config := rfl
@[simp] theorem ok_reply : s.ok.reply = ⟨true, 0, []⟩ := rfl

/-! ### Registers that the ports do not reach (R331) -/

theorem lossKeeps_reg {r : Reg} (hraise : r.ref ∉ raiseRefs) (hloss : r.ref ∉ lossRefs) (j n : Nat) : LossKeeps fun s => s.reg r j = n where
  sched _ _ := rfl
  adm _ _ := rfl
  engines _ _ := rfl
  fabric _ _ := rfl
  streams _ _ := rfl
  dusk _ _ := rfl
  took _ := rfl
  answers _ _ := rfl
  reg s q i v hq := by rw [reg_setReg_of_notMem s hloss hq]
  raise s c d := by rw [raise_reg s hraise]
  time s t h := (waitUntil_reg s t r j).trans h

/-- Ports that come and go leave every register but those that a loss may write. -/
theorem refreshPorts_reg {r : Reg} (hraise : r.ref ∉ raiseRefs) (hloss : r.ref ∉ lossRefs) (l : List Nat) (cause j : Nat) :
    (s.refreshPorts l cause).reg r j = s.reg r j :=
  each_keeps (fun u => u.reg r j) _ (fun u q => ((lossKeeps_reg hraise hloss j (u.reg r j)).refreshPort u q cause).mpr rfl) s l

/-- A fabric held in reset: beside FABRIC_STATE the registers of the ports alone change. -/
theorem resetFabric_reg {r : Reg} (hraise : r.ref ∉ raiseRefs) (hloss : r.ref ∉ lossRefs) (st j : Nat) :
    (s.resetFabric st).reg r j = (s.setReg R.cfg_FABRIC_STATE 0 st).reg r j := by
  simp only [State.resetFabric]
  rw [refreshPorts_reg _ hraise hloss]
  refine each_keeps (fun u => u.reg r j) _ (fun u q => ?_) _ _
  split
  · exact onPort_reg u _ _ _ _
  · rfl

/-! ### The shadow of a swap region (Table 12.8) -/

@[simp] theorem shadowState_config (n v : Nat) : (s.shadowState n v).config = s.config := by
  simp only [State.shadowState]
  split <;> split <;> simp

theorem shadowState_shadow (n : Nat) {v : Nat} (hv : v < 2 ^ R.swap_SHADOW.bits) : (s.shadowState n v).reg R.swap_SHADOW n = v := by
  simp only [State.shadowState]
  generalize (if v = 0 ∨ v = 1 then s.setReg R.swap_SHADOW_ID n 0 else s) = u
  split
  · next hsame => exact hsame
  · rw [raise_reg _ (by decide), reg_setReg_same, Nat.mod_eq_of_lt hv]

/-! ### A load begins (R356) -/

theorem beginLoad_job (target location : Nat) : (s.beginLoad target location).config.job =
    some { target := target, streamed := location == 0, start := s.mono, last := s.mono } := rfl

theorem beginLoad_target (target location : Nat) :
    (s.beginLoad target location).reg R.cfg_LOAD_TARGET = (if target = 16 then 0xFF else target) % 2 ^ R.cfg_LOAD_TARGET.bits :=
  (reg_setReg_of_ref _ (by decide) _ _ _).trans (reg_setReg_same _ _ _ _)

end Sys2Proof.Machine
end

section
/-! The commands of the loader and the swap regions (R356, R358 to R360, R366). -/

namespace Sys2Proof.Machine

/-! ### LOAD (R358, R359) -/

theorem exec_fullLoad (w : Who) (s : State) : exec (.fullLoad w) s = .next (s.ran (opFullLoad w s)) := command_next s rfl _

theorem exec_partialLoad (w : Who) (n : Nat) (s : State) : exec (.partialLoad w n) s = .next (s.ran (opPartialLoad w n s)) :=
  command_next s rfl _

theorem fullLoad_begins {w : Who} {s : State} (hw : s.mayWrite w R.cfg_COMMAND 0 = true) (hjob : s.config.job = none)
    (hops : s.opInUse (fun o => decide (96 ≤ o)) = false) (harmed : s.exchangeArmed (fun _ => true) = false)
    (hon : ((List.range 4).any fun d => !s.quadrantOn d) = false) :
    opFullLoad w s = ((s.beginLoad 16 (s.reg R.cfg_LOCATION)).resetFabric 1).ok := by
  have hfree : ¬ (s.config.job.isSome || s.opInUse (fun o => decide (96 ≤ o)) || s.exchangeArmed (fun _ => true) ||
      (List.range 4).any fun d => !s.quadrantOn d) = true := by
    simp only [hjob, hops, harmed, hon, Option.isSome_none, Bool.or_self, Bool.false_eq_true, not_false_eq_true]
  exact (writeAs_of_mayWrite hw rfl _).trans (if_neg hfree)

theorem partialLoad_begins {w : Who} {n : Nat} {s : State} (hw : s.mayWrite w R.swap_COMMAND n = true) (hjob : s.config.job = none)
    (hfree : s.on R.swap_ARMED n = false) (hconfigured : s.reg R.cfg_FABRIC_STATE = 2) (hpresent : s.swapPresent n = true) :
    opPartialLoad w n s = ((s.beginLoad n (s.reg R.swap_LOCATION n)).shadowState n 1).ok := by
  have hloads : ¬ (s.config.job.isSome || s.on R.swap_ARMED n || s.reg R.cfg_FABRIC_STATE != 2 || !s.swapPresent n) = true := by
    simp [hjob, hfree, hconfigured, hpresent]
  exact (writeAs_of_mayWrite hw rfl _).trans (if_neg hloads)

/-! ### IMAGE_DATA (R356) -/

/-- A piece that comes in its turn, of a good value, is the write itself. -/
theorem writeOrdered_of_mayWrite {s : State} {w : Who} {r : Reg} {inst : Nat} (h : s.mayWrite w r inst = true) (k : State → State) :
    s.writeOrdered w r inst true true true k = k s := writeAs_of_mayWrite h rfl k

theorem exec_imageData (w : Who) (offset : Nat) (data : List Byte) (s : State) :
    exec (.imageData w offset data) s = .next (s.ran (opImageData w offset data s)) := command_next s rfl _

/-- A streamed load that has taken one more piece from a source, with the check that the bytes so far fail. -/
def State.streamed (s : State) (j : LoadJob) (src : Nat) (data : List Byte) : LoadJob :=
  { j with source := some src, data := j.data ++ data, last := s.mono,
           bad := match s.parseImage j.target (j.data ++ data) with | .bad c => some c | _ => none }

theorem imageData_extends {w : Who} {src : Nat} {data : List Byte} {j : LoadJob} {s : State} (hw : s.mayWrite w R.cfg_IMAGE_DATA 0 = true)
    (hjob : s.config.job = some j) (hsrc : streamSource w.cls = some src) (hstreamed : j.streamed = true) (hgood : j.bad = none)
    (hsource : j.source = none ∨ j.source = some src) : opImageData w j.data.length data s =
      (({ s with config := { s.config with job := some (s.streamed j src data) } } : State).setReg R.cfg_BYTES_LOADED 0
        (j.data ++ data).length).ok := by
  have htaken : ¬ (!j.streamed || j.bad.isSome || (j.source.isSome && j.source != some src)) = true := by
    rcases hsource with hnew | hsame
    · simp [hstreamed, hgood, hnew]
    · simp [hstreamed, hgood, hsame]
  simp only [opImageData, hjob, hsrc]
  rw [if_neg htaken, beq_self_eq_true, writeOrdered_of_mayWrite hw]
  rfl

/-! ### ARM_EXCHANGE, DISARM and CLEAR (R360) -/

theorem exec_armExchange (w : Who) (n : Nat) (s : State) : exec (.armExchange w n) s = .next (s.ran (opArmExchange w n s)) :=
  command_next s rfl _

theorem exec_exchangeDisarm (w : Who) (n : Nat) (s : State) : exec (.exchangeDisarm w n) s = .next (s.ran (opExchangeDisarm w n s)) :=
  command_next s rfl _

theorem exec_shadowClear (w : Who) (n : Nat) (s : State) : exec (.shadowClear w n) s = .next (s.ran (opShadowClear w n s)) :=
  command_next s rfl _

/-- The frame that ARM_EXCHANGE of region `n` uses: TARGET_FRAME, but none before the first that can still be armed (R54). -/
def State.exchangeFrame (s : State) (n : Nat) : Nat := s.armFrame (s.reg R.swap_CADENCE n) (s.reg R.swap_TARGET_FRAME n)

theorem armExchange_arms {w : Who} {n : Nat} {s : State} (hw : s.mayWrite w R.swap_COMMAND n = true) (hshadow : 2 ≤ s.reg R.swap_SHADOW n)
    (hpresent : s.swapPresent n = true) (hfree : s.on R.swap_ARMED n = false) (hcad : s.reg R.swap_CADENCE n < 16)
    (hruns : s.on R.cad_ENABLE (s.reg R.swap_CADENCE n) = true) : opArmExchange w n s =
      (((s.armMember (s.reg R.swap_CADENCE n) (s.exchangeFrame n) (.exchange n)).setReg R.swap_ARMED n 1).setReg R.swap_TARGET_FRAME n
        (s.exchangeFrame n)).answerWith (leBytes 8 (s.exchangeFrame n)) := by
  have harms : ¬ (s.reg R.swap_SHADOW n < 2 ∨ (!s.swapPresent n) = true ∨ s.on R.swap_ARMED n = true ∨ 16 ≤ s.reg R.swap_CADENCE n ∨
      (!s.on R.cad_ENABLE (s.reg R.swap_CADENCE n)) = true) := by
    simp [hpresent, hfree, hruns, hcad, Nat.lt_of_succ_le hshadow]
  exact (writeAs_of_mayWrite hw rfl _).trans (if_neg harms)

theorem exchangeDisarm_disarms {w : Who} {n : Nat} {s : State} (hw : s.mayWrite w R.swap_COMMAND n = true)
    (harmed : s.on R.swap_ARMED n = true) :
    opExchangeDisarm w n s = (((s.dropMembers fun m => m == .exchange n).dropLate n).setReg R.swap_ARMED n 0).ok :=
  (writeAs_of_mayWrite hw rfl _).trans (if_pos harmed)

theorem shadowClear_clears {w : Who} {n : Nat} {s : State} (hw : s.mayWrite w R.swap_COMMAND n = true)
    (hfree : s.on R.swap_ARMED n = false) (hidle : s.reg R.swap_SHADOW n ≠ 1) : opShadowClear w n s = ((s.dropLate n).shadowState n 0).ok := by
  have hclears : ¬ (s.on R.swap_ARMED n || s.reg R.swap_SHADOW n == 1) = true := by
    simp [hfree, hidle]
  exact (writeAs_of_mayWrite hw rfl _).trans (if_neg hclears)

/-! ### RETIRE (R366) -/

theorem exec_swapRegionRetire (w : Who) (n : Nat) (s : State) :
    exec (.swapRegionRetire w n) s = .next (s.ran (opSwapRegionRetire w n s)) := command_next s rfl _

/-- Settles O25: each command by what it does once its checks pass; a load that begins, and a piece that extends it, read field by field. -/
theorem configurationCommandsTakeEffect : Obligations.ConfigurationCommandsTakeEffect := by
  unfold Obligations.ConfigurationCommandsTakeEffect
  refine ⟨fun w s hw hjob hops harmed hon => ?full, fun w offset src data j s hw hjob hsrc hstreamed hgood hsource hoffset => ?piece,
    fun w n s hw hjob hfree hconfigured hpresent => ?region, fun w n s hw hshadow hpresent hfree hcad hruns => ?arm,
    fun w n s hw harmed => ?disarm, fun w n s hw hfree hidle => ?clear, fun w n s hw => ?retire⟩
  case full =>
    have hop := fullLoad_begins hw hjob hops harmed hon
    refine ⟨_, exec_fullLoad w s, ?_, ?_, ?_, by rw [hop]⟩
    · rw [ran_reg _ _ (by decide), hop, ok_reg, resetFabric_reg _ (by decide) (by decide), reg_setReg_same]
      rfl
    · rw [ran_reg _ _ (by decide), hop, ok_reg, resetFabric_reg _ (by decide) (by decide), reg_setReg_of_ref _ (by decide),
        beginLoad_target, if_pos rfl]
      rfl
    · rw [ran_reply, hop, ok_reply]
  case piece =>
    subst hoffset
    have hop := imageData_extends (data := data) hw hjob hsrc hstreamed hgood hsource
    refine ⟨_, exec_imageData w _ data s, ⟨s.streamed j src data, ?_, rfl, rfl, rfl⟩, ?_, ?_, ?_⟩
    · rw [ran_config, hop, ok_config, setReg_config]
    · rw [ran_reg _ _ (by decide), hop, ok_reg, reg_setReg_same, List.length_append]
    · rw [ran_reply, hop, ok_reply]
    · rw [ran_reply, hop, ok_reply]
  case region =>
    have hop := partialLoad_begins hw hjob hfree hconfigured hpresent
    refine ⟨_, exec_partialLoad w n s, ?_, ?_, ?_, by rw [hop]⟩
    · rw [ran_config, hop, ok_config, shadowState_config, beginLoad_job]
    · rw [ran_reg _ _ (by decide), hop, ok_reg, shadowState_shadow _ n (by decide)]
    · rw [ran_reply, hop, ok_reply]
  case arm =>
    rw [exec_armExchange, armExchange_arms hw hshadow hpresent hfree hcad hruns]
    rfl
  case disarm => rw [exec_exchangeDisarm, exchangeDisarm_disarms hw harmed]
  case clear => rw [exec_shadowClear, shadowClear_clears hw hfree hidle]
  case retire =>
    rw [exec_swapRegionRetire, opSwapRegionRetire, writeAs_of_mayWrite hw rfl]

end Sys2Proof.Machine
end

section
/-! An exchange that is released (R362): LIVE_ID takes all 64 bits of the IMAGE_ID that goes live (Table 12.11). -/

namespace Sys2Proof.Machine

theorem exec_exchangeComplete {n : Nat} (hn : n < 16) (t : Nat) (s : State) :
    exec (.exchangeComplete t n) s = .next (s.ran (opExchangeComplete t n s)) := command_next s (decide_eq_true hn) _

/-- A shadow that becomes PREVIOUS leaves the registers that neither it nor an event writes. -/
theorem shadowPrevious_reg {r : Reg} (h : r.ref ∉ stepRefs) (s : State) (n live j : Nat) :
    (s.shadowPrevious n live).reg r j = s.reg r j := by
  simp only [State.shadowPrevious]
  split
  · rfl
  · rw [reg_setReg_of_notMem _ h (by decide)]
    split
    · exact raise_reg s (notRaise_of_notStep h) _ _ _
    · exact shadowState_reg s h j n 3

/-- 1,000 ns after its mark an exchange leaves the IMAGE_ID that went live in LIVE_ID, cut to the register's width. -/
theorem exchangeComplete_liveId {s : State} {t n start f id : Nat}
    (hexchange : s.config.exchanging.find? (fun p => p.1 == n) = some (n, start, f, id)) (htime : start + 1000 ≤ (s.advanceTo t).mono) :
    (opExchangeComplete t n s).reg R.swap_LIVE_ID n = id % 2 ^ R.swap_LIVE_ID.bits := by
  simp only [opExchangeComplete, advanceTo_config, hexchange]
  rw [if_neg (Nat.not_lt.mpr htime), refreshPorts_reg _ (by decide) (by decide), raise_reg _ (by decide), shadowPrevious_reg (by decide),
    reg_setReg_of_ref _ (by decide), reg_inc_of_ref _ (by decide), reg_setReg_of_ref _ (by decide), reg_setReg_same]

/-- Since instant 0 swap region 0 is being exchanged at frame 0; the IMAGE_ID that goes live needs 33 bits. -/
def wideExchange : State := { State.reset with config := { State.reset.config with exchanging := [(0, 0, 0, 2 ^ 32)] } }

theorem wideExchange_due : 0 + 1000 ≤ (wideExchange.advanceTo 1000).mono := by decide +kernel

/-- Refutes O26: its clause of exchanges cuts LIVE_ID to 32 bits, where LIVE_ID and IMAGE_ID have 64 (Table 12.11, R362); after the exchange to
image 2^32 LIVE_ID reads 2^32, where the clause says 0. -/
theorem not_configurationEventsTakeEffect : ¬ Obligations.ConfigurationEventsTakeEffect := by
  unfold Obligations.ConfigurationEventsTakeEffect
  rintro ⟨-, -, -, -, hexchange, -⟩
  obtain ⟨u, hexec, -, hcut, -⟩ := hexchange 1000 0 0 0 (2 ^ 32) _ wideExchange (by decide) (by rw [advanceTo_config]; rfl) wideExchange_due rfl
  have hwide := exchangeComplete_liveId (s := wideExchange) (n := 0) rfl wideExchange_due
  rw [exec_exchangeComplete (by decide)] at hexec
  injection hexec with hu
  rw [← hu, ran_reg _ _ (by decide), hwide] at hcut
  exact absurd hcut (by decide)

end Sys2Proof.Machine
end

section
/-! The words of the Dusk instructions (R446, Table 15.3): each field of a format is read back from the word that the encoder makes of it. -/

namespace Sys2Proof.Machine

theorem wordBits (w hi lo : Nat) : bits w hi lo = w / 2 ^ lo % 2 ^ (hi + 1 - lo) := rfl

theorem b2n_lt_two (b : Bool) : b2n b < 2 := by cases b <;> decide

/-- A bit of a word, by the field of one bit. -/
theorem testBit_of_bits {w i : Nat} {b : Bool} (h : w / 2 ^ i % 2 = b2n b) : w.testBit i = b := by
  rw [Nat.testBit_eq_decide_div_mod_eq, h]
  cases b <;> rfl

/-- A signed 6-bit shift is read back from its two's complement pattern. -/
theorem toSigned_ofSigned_six {z : Int} (hlo : -32 ≤ z) (hhi : z ≤ 31) : toSigned 6 (ofSigned 6 z) = z := by
  unfold toSigned ofSigned
  by_cases h : (z % (2 ^ 6 : Nat)).toNat % 2 ^ 6 < 2 ^ (6 - 1)
  · rw [if_pos h]
    omega
  · rw [if_neg h]
    omega

theorem duskAluWord_fields {w op dst a b : Nat} (h : duskAluWord op dst a b = w) (hop : op < 16) (hdst : dst < 8) (ha : a < 8) (hb : b < 8) :
    w < 16777216 ∧ bits w 23 20 = 0 ∧ bits w 19 16 = op ∧
      bits w 15 13 = dst ∧ bits w 12 10 = a ∧ bits w 9 7 = b ∧
      bits w 6 0 = 0 := by
  simp only [duskAluWord, duskWord] at h
  simp only [wordBits]
  omega

theorem duskImmediateWord_fields {w op dst imm : Nat} (h : duskImmediateWord op dst imm = w) (hop : op < 16) (hdst : dst < 8) (himm : imm < 8192) :
    w < 16777216 ∧ bits w 23 20 = 1 ∧ bits w 19 16 = op ∧
      bits w 15 13 = dst ∧ bits w 12 0 = imm := by
  simp only [duskImmediateWord, duskWord] at h
  simp only [wordBits]
  omega

theorem duskMemoryWord_fields {w cls d p mode offset : Nat} (h : duskMemoryWord cls d p mode offset = w) (hcls : cls < 16) (hd : d < 8) (hp : p < 4) (hmode : mode < 8)
    (hoffset : offset < 4096) : w < 16777216 ∧ bits w 23 20 = cls ∧
      bits w 19 17 = d ∧ bits w 16 15 = p ∧
      bits w 14 12 = mode ∧ bits w 11 0 = offset := by
  simp only [duskMemoryWord] at h
  simp only [wordBits]
  omega

theorem duskMultiplyWord_fields {w op acc dx dy : Nat} (f l : Bool) (h : duskMultiplyWord op acc f dx dy l = w) (hop : op < 8) (hacc : acc < 2) (hdx : dx < 8) (hdy : dy < 8) :
    w < 16777216 ∧ bits w 23 20 = 5 ∧
      bits w 19 17 = op ∧ bits w 16 16 = acc ∧
      bits w 14 12 = dx ∧ bits w 11 9 = dy ∧
      bits w 7 0 = 0 := by
  have hf := b2n_lt_two f
  have hl := b2n_lt_two l
  simp only [duskMultiplyWord] at h
  simp only [wordBits]
  omega

theorem duskMultiplyWord_flags {w op acc dx dy : Nat} (f l : Bool) (h : duskMultiplyWord op acc f dx dy l = w) (hdx : dx < 8) (hdy : dy < 8) :
    w.testBit 15 = f ∧ w.testBit 8 = l := by
  have hl := b2n_lt_two l
  have hf := b2n_lt_two f
  simp only [duskMultiplyWord] at h
  exact ⟨testBit_of_bits (by omega), testBit_of_bits (by omega)⟩

theorem duskAccumulatorWord_fields {w op acc d : Nat} (shift : Int) (h : duskAccumulatorWord op acc d shift = w) (hop : op < 16) (hacc : acc < 2) (hd : d < 8) :
    w < 16777216 ∧ bits w 23 20 = 6 ∧
      bits w 19 16 = op ∧ bits w 15 15 = acc ∧
      bits w 14 12 = d ∧ bits w 11 6 = ofSigned 6 shift ∧
      bits w 5 0 = 0 := by
  have hshift := ofSigned_lt 6 shift
  simp only [duskAccumulatorWord, duskWord] at h
  simp only [wordBits]
  omega

/-- Class and operation of a word whose rest fits [15:0]. -/
theorem duskWord_fields {w cls op rest : Nat} (h : duskWord cls op rest = w) (hcls : cls < 16) (hop : op < 16) (hrest : rest < 65536) :
    w < 16777216 ∧ bits w 23 20 = cls ∧ bits w 19 16 = op ∧
      bits w 15 0 = rest := by
  simp only [duskWord] at h
  simp only [wordBits]
  omega

/-- A branch's fields: the register over the 12-bit target, with bit 12 reserved. -/
theorem duskWord_target {w cls op d n : Nat} (h : duskWord cls op (d * 2 ^ 13 + n) = w) (hd : d < 8) (hn : n < 4096) :
    bits w 15 13 = d ∧ bits w 11 0 = n ∧
      w.testBit 12 = false := by
  simp only [duskWord] at h
  refine ⟨?_, ?_, testBit_of_bits (b := false) ?_⟩
  · simp only [wordBits]
    omega
  · simp only [wordBits]
    omega
  · rw [show b2n false = 0 from rfl]
    omega

theorem duskWord_count {w cls op n : Nat} (h : duskWord cls op n = w) (hop : op < 16) (hn : n < 4096) :
    bits w 19 12 = op * 16 ∧ bits w 15 12 = 0 ∧ bits w 18 16 = op % 8 ∧
      bits w 11 0 = n := by
  simp only [duskWord] at h
  simp only [wordBits]
  omega

/-- Bit 19 of a word is the high bit of its operation. -/
theorem duskWord_bit_nineteen {w cls op rest : Nat} {b : Bool} (h : duskWord cls op rest = w) (hop : op / 8 = b2n b) (hrest : rest < 65536) :
    w.testBit 19 = b :=
  testBit_of_bits (by
    have hb := b2n_lt_two b
    simp only [duskWord] at h
    omega)

theorem duskWord_port {w cls op port : Nat} (h : duskWord cls op (port * 2 ^ 6) = w) (hport : port < 1024) :
    bits w 18 16 = op % 8 ∧ bits w 15 6 = port ∧
      bits w 5 0 = 0 := by
  simp only [duskWord] at h
  simp only [wordBits]
  omega

/-- Settles O59: each Dusk instruction is read back through the fields of its format. -/
theorem duskWordsDecode : Obligations.DuskWordsDecode := by
  unfold Obligations.DuskWordsDecode
  intro i w hwf henc
  cases i with
  | duskAdd c dst a b | duskSub c dst a b | duskAnd c dst a b | duskOr c dst a b | duskXor c dst a b | duskShl c dst a b
  | duskShra c dst a b | duskShrl c dst a b | duskMin c dst a b | duskMax c dst a b =>
    simp only [Instr.wf, Bool.and_eq_true, decide_eq_true_eq] at hwf
    obtain ⟨⟨⟨hc, hdst⟩, ha⟩, hb⟩ := hwf
    have h := Option.some.inj henc
    obtain ⟨hw, hcls, hop, hd, hs1, hs2, hres⟩ := duskAluWord_fields h (by decide) hdst ha hb
    refine ⟨hw, c, hc, ?_⟩
    simp [duskDecode, hw, hcls, duskAlu, hop, hd, hs1, hs2, hres]
  | duskMov c dst a | duskTop c dst a | duskFromp c dst a =>
    simp only [Instr.wf, Bool.and_eq_true, decide_eq_true_eq] at hwf
    obtain ⟨⟨hc, hdst⟩, ha⟩ := hwf
    have h := Option.some.inj henc
    obtain ⟨hw, hcls, hop, hd, hs1, -, hres⟩ := duskAluWord_fields h (by decide) hdst ha (b := 0) (by decide)
    refine ⟨hw, c, hc, ?_⟩
    simp [duskDecode, hw, hcls, duskAlu, hop, hd, hs1, hres]
  | duskAddi c dst imm | duskAndi c dst imm | duskOri c dst imm | duskXori c dst imm =>
    simp only [Instr.wf, Bool.and_eq_true, decide_eq_true_eq] at hwf
    obtain ⟨⟨hc, hdst⟩, himm⟩ := hwf
    have h := Option.some.inj henc
    obtain ⟨hw, hcls, hop, hd, hi⟩ := duskImmediateWord_fields h (by decide) hdst himm
    refine ⟨hw, c, hc, ?_⟩
    simp [duskDecode, hw, hcls, duskImmediate, hop, hd, hi]
  | duskMovi c target imm =>
    simp only [Instr.wf, Bool.and_eq_true, decide_eq_true_eq] at hwf
    obtain ⟨⟨hc, htarget⟩, himm⟩ := hwf
    have h := Option.some.inj henc
    obtain ⟨hw, hcls, hop, hi⟩ := duskWord_fields h (by decide) htarget himm
    refine ⟨hw, c, hc, ?_⟩
    simp [duskDecode, hw, hcls, hop, hi]
  | duskLd c d p mode offset | duskSt c d p mode offset =>
    simp only [Instr.wf, Bool.and_eq_true, decide_eq_true_eq] at hwf
    obtain ⟨⟨⟨⟨hc, hd⟩, hp⟩, hmode⟩, hoffset⟩ := hwf
    have h := Option.some.inj henc
    obtain ⟨hw, hcls, hfd, hfp, hfm, hfo⟩ := duskMemoryWord_fields h (by decide) hd hp hmode hoffset
    refine ⟨hw, c, hc, ?_⟩
    simp [duskDecode, hw, hcls, hfd, hfp, hfm, hfo]
  | duskMpy c acc f dx dy l | duskMac c acc f dx dy l | duskMsu c acc f dx dy l =>
    simp only [Instr.wf, Bool.and_eq_true, decide_eq_true_eq] at hwf
    obtain ⟨⟨⟨hc, hacc⟩, hdx⟩, hdy⟩ := hwf
    have h := Option.some.inj henc
    obtain ⟨hw, hcls, hop, ha, hx, hy, hres⟩ := duskMultiplyWord_fields f l h (by decide) hacc hdx hdy
    obtain ⟨hf, hl⟩ := duskMultiplyWord_flags f l h hdx hdy
    refine ⟨hw, c, hc, ?_⟩
    simp [duskDecode, hw, hcls, duskMultiply, hop, ha, hx, hy, hf, hl, hres]
  | duskClr c acc l =>
    simp only [Instr.wf, Bool.and_eq_true, decide_eq_true_eq] at hwf
    obtain ⟨hc, hacc⟩ := hwf
    have h := Option.some.inj henc
    obtain ⟨hw, hcls, hop, ha, -, -, hres⟩ := duskMultiplyWord_fields false l h (by decide) hacc (by decide) (by decide)
    obtain ⟨-, hl⟩ := duskMultiplyWord_flags false l h (by decide) (by decide)
    refine ⟨hw, c, hc, ?_⟩
    simp [duskDecode, hw, hcls, duskMultiply, hop, ha, hl, hres]
  | duskLda c acc d | duskLdal c acc d | duskNorm c acc d | duskMovh c d acc | duskMovl c d acc | duskExp c d acc =>
    simp only [Instr.wf, Bool.and_eq_true, decide_eq_true_eq] at hwf
    obtain ⟨⟨hc, hone⟩, htwo⟩ := hwf
    have h := Option.some.inj henc
    obtain ⟨hw, hcls, hop, ha, hd, -, hres⟩ := duskAccumulatorWord_fields 0 h (by decide) (by assumption) (by assumption)
    refine ⟨hw, c, hc, ?_⟩
    simp [duskDecode, hw, hcls, duskAccumulator, hop, ha, hd, hres]
  | duskAsh c acc shift =>
    simp only [Instr.wf, Bool.and_eq_true, decide_eq_true_eq] at hwf
    obtain ⟨⟨⟨hc, hacc⟩, hlo⟩, hhi⟩ := hwf
    have h := Option.some.inj henc
    obtain ⟨hw, hcls, hop, ha, -, hs, hres⟩ := duskAccumulatorWord_fields shift h (by decide) hacc (by decide)
    refine ⟨hw, c, hc, ?_⟩
    simp [duskDecode, hw, hcls, duskAccumulator, hop, ha, hs, hres, toSigned_ofSigned_six hlo hhi]
  | duskAdda c acc | duskNeg c acc | duskAbs c acc =>
    simp only [Instr.wf, Bool.and_eq_true, decide_eq_true_eq] at hwf
    obtain ⟨hc, hacc⟩ := hwf
    have h := Option.some.inj henc
    obtain ⟨hw, hcls, hop, ha, -, -, hres⟩ := duskAccumulatorWord_fields 0 h (by decide) hacc (by decide)
    refine ⟨hw, c, hc, ?_⟩
    simp [duskDecode, hw, hcls, duskAccumulator, hop, ha, hres]
  | duskBranch c cond d target =>
    simp only [Instr.wf, Bool.and_eq_true, decide_eq_true_eq] at hwf
    obtain ⟨⟨⟨hc, hcond⟩, hd⟩, htarget⟩ := hwf
    have h := Option.some.inj henc
    obtain ⟨hw, hcls, hop, -⟩ := duskWord_fields h (by decide) hcond (by omega)
    obtain ⟨hfd, hft, hres⟩ := duskWord_target h hd htarget
    refine ⟨hw, c, hc, ?_⟩
    simp [duskDecode, hw, hcls, hop, hfd, hft, hres]
  | duskCall c target =>
    simp only [Instr.wf, Bool.and_eq_true, decide_eq_true_eq] at hwf
    obtain ⟨hc, htarget⟩ := hwf
    have h := Option.some.inj henc
    obtain ⟨hw, hcls, -, -⟩ := duskWord_fields h (by decide) (by decide) (Nat.lt_trans htarget (by decide))
    obtain ⟨hres, -, -, ht⟩ := duskWord_count h (by decide) htarget
    refine ⟨hw, c, hc, ?_⟩
    simp [duskDecode, hw, hcls, hres, ht]
  | duskRet c | duskReti c | duskNop c | duskIdle c | duskEi c | duskDi c | duskTrap c | duskLjmp c =>
    simp only [Instr.wf, decide_eq_true_eq] at hwf
    have h := Option.some.inj henc
    obtain ⟨hw, hcls, hop, hres⟩ := duskWord_fields h (by decide) (by decide) (by decide)
    refine ⟨hw, c, hwf, ?_⟩
    simp [duskDecode, hw, hcls, duskReturn, duskMisc, hop, hres]
  | duskRepeat c reg d n =>
    simp only [Instr.wf, Bool.and_eq_true, decide_eq_true_eq] at hwf
    obtain ⟨⟨hc, hd⟩, hn⟩ := hwf
    have h := Option.some.inj henc
    have hop : b2n reg * 8 + d < 16 := by have := b2n_lt_two reg; omega
    obtain ⟨hw, hcls, -, -⟩ := duskWord_fields h (by decide) hop (Nat.lt_trans hn (by decide))
    obtain ⟨-, hres, hfd, hfn⟩ := duskWord_count h hop hn
    have hreg := duskWord_bit_nineteen (b := reg) h (by have := b2n_lt_two reg; omega) (Nat.lt_trans hn (by decide))
    refine ⟨hw, c, hc, ?_⟩
    simp [duskDecode, hw, hcls, hres, hreg, hfd, hfn, Nat.mod_eq_of_lt hd]
  | duskBrep c d last =>
    simp only [Instr.wf, Bool.and_eq_true, decide_eq_true_eq] at hwf
    obtain ⟨⟨hc, hd⟩, hlast⟩ := hwf
    have h := Option.some.inj henc
    have hop : d < 16 := Nat.lt_trans hd (by decide)
    obtain ⟨hw, hcls, -, -⟩ := duskWord_fields h (by decide) hop (Nat.lt_trans hlast (by decide))
    obtain ⟨-, hres, hfd, hfn⟩ := duskWord_count h hop hlast
    have htop := duskWord_bit_nineteen (b := false) h (Nat.div_eq_of_lt hd) (Nat.lt_trans hlast (by decide))
    refine ⟨hw, c, hc, ?_⟩
    simp [duskDecode, hw, hcls, hres, htop, hfd, hfn, Nat.mod_eq_of_lt hd]
  | duskIn c d port =>
    simp only [Instr.wf, Bool.and_eq_true, decide_eq_true_eq] at hwf
    obtain ⟨⟨hc, hd⟩, hport⟩ := hwf
    have h := Option.some.inj henc
    have hop : d < 16 := Nat.lt_trans hd (by decide)
    have hrest : port * 2 ^ 6 < 65536 := by omega
    obtain ⟨hw, hcls, -, -⟩ := duskWord_fields h (by decide) hop hrest
    obtain ⟨hfd, hfp, hres⟩ := duskWord_port h hport
    have hdir := duskWord_bit_nineteen (b := false) h (Nat.div_eq_of_lt hd) hrest
    refine ⟨hw, c, hc, ?_⟩
    simp [duskDecode, hw, hcls, duskInOut, hres, hdir, hfd, hfp, Nat.mod_eq_of_lt hd]
  | duskOut c port d =>
    simp only [Instr.wf, Bool.and_eq_true, decide_eq_true_eq] at hwf
    obtain ⟨⟨hc, hport⟩, hd⟩ := hwf
    have h := Option.some.inj henc
    have hop : 8 + d < 16 := Nat.add_lt_add_left hd 8
    have hrest : port * 2 ^ 6 < 65536 := by omega
    obtain ⟨hw, hcls, -, -⟩ := duskWord_fields h (by decide) hop hrest
    obtain ⟨hfd, hfp, hres⟩ := duskWord_port h hport
    have hdir := duskWord_bit_nineteen (b := true) h (show (8 + d) / 8 = 1 by omega) hrest
    refine ⟨hw, c, hc, ?_⟩
    simp [duskDecode, hw, hcls, duskInOut, hres, hdir, hfd, hfp, Nat.mod_eq_of_lt hd]
  | _ => cases henc

end Sys2Proof.Machine
end

section
/-! The conditions after every step (R504): settling makes them true whatever the state before, and every step ends by settling. -/

namespace Sys2Proof.Machine

/-! ### What the live conditions read -/

theorem pcPattern_of_reg {u s : State} (hreg : ∀ (r : Reg) (j : Nat), r.own → u.reg r j = s.reg r j) (n : Nat) :
    u.pcPattern n = s.pcPattern n := by
  simp only [State.pcPattern, hreg R.stk_MAP _ (by decide)]

theorem mirroredFenced_of_reg {u s : State} (hreg : ∀ (r : Reg) (j : Nat), r.own → u.reg r j = s.reg r j) (hsched : u.sched = s.sched) :
    u.mirroredFenced = s.mirroredFenced := by
  simp only [State.mirroredFenced, State.pcFenced, State.wordsOnPc, pcPattern_of_reg hreg, hreg R.pc_STATE _ (by decide), hsched]

theorem copyDown_of_reg {u s : State} (hreg : ∀ (r : Reg) (j : Nat), r.own → u.reg r j = s.reg r j) (hstreams : u.streams = s.streams) :
    u.copyDown = s.copyDown := by
  simp (disch := decide) only [State.copyDown, State.flowPorts, State.isPeer, State.on, hreg, hstreams]
  rfl

theorem fabricMissing_of_reg {u s : State} (hreg : ∀ (r : Reg) (j : Nat), r.own → u.reg r j = s.reg r j) (hsched : u.sched = s.sched) :
    u.fabricMissing = s.fabricMissing := by
  simp (disch := decide) only [State.fabricMissing, State.bindsOp, State.graph, hreg, hsched]

/-- Settling leaves the live conditions: they read no register that an event or STATE writes. -/
@[simp] theorem settle_liveConditions (s : State) : s.settle.liveConditions = s.liveConditions := by
  have hreg : ∀ (r : Reg) (j : Nat), r.own → s.settle.reg r j = s.reg r j := fun r j h => settle_reg s h j
  simp (disch := decide) only [State.liveConditions, State.singleCopy, State.on, hreg, copyDown_of_reg hreg (settle_streams s),
    mirroredFenced_of_reg hreg (settle_sched s), fabricMissing_of_reg hreg (settle_sched s), settle_dusk, settle_config, settle_sched,
    settle_boot]

/-! ### What settling makes of CONDITIONS and STATE -/

@[simp] theorem toConditions_conds (s : State) (v : Nat) : (s.toConditions v).conds = v :=
  (each_keeps (fun u => u.conds) _ (fun u _ => raise_conds u _ _) _ _).trans rfl

@[simp] theorem toIntegrity_conds (s : State) (v : Nat) : (s.toIntegrity v).conds = s.conds := by
  simp only [State.toIntegrity]
  split
  · rfl
  · simp

theorem toIntegrity_state (s : State) {v : Nat} (hv : v < 2 ^ R.integ_STATE.bits) : (s.toIntegrity v).reg R.integ_STATE 0 = v := by
  simp only [State.toIntegrity]
  split
  · next h => exact h
  · rw [raise_reg _ (by decide), reg_inc_of_ref _ (by decide), reg_setReg_same, Nat.mod_eq_of_lt hv]

theorem integrityState_lt (conds : Nat) : integrityState conds < 2 ^ R.integ_STATE.bits := by
  unfold integrityState
  split
  · decide
  · split <;> decide

/-- CONDITIONS after settling are the live and latched ones. -/
theorem settle_conds (s : State) : s.settle.conds = s.liveConditions ||| s.latched := by
  simp only [State.settle, toIntegrity_conds]
  split
  · next h => exact h.symm
  · exact toConditions_conds s _

/-- STATE after settling follows from the conditions. -/
theorem settle_state (s : State) : s.settle.reg R.integ_STATE = integrityState (s.liveConditions ||| s.latched) :=
  toIntegrity_state _ (integrityState_lt _)

theorem settle_truthful (s : State) : s.settle.Truthful := by
  refine ⟨?_, ?_⟩
  · rw [settle_conds, settle_liveConditions, settle_latched]
  · rw [settle_state, settle_conds]

/-- The queue is no part of the conditions. -/
theorem ran_truthful (s u : State) : (s.ran u).Truthful := settle_truthful u

/-! ### Every step settles -/

theorem command_truthful {ok : Bool} {f : State → State} {s t : State} (h : command ok f s = .next t) : t.Truthful := by
  obtain ⟨-, rfl⟩ := command_eq_next s h
  exact ran_truthful s (f s)

/-- Every command ends by settling, whichever it is. -/
theorem exec_truthful {i : Instr} {s t : State} (h : exec i s = .next t) : t.Truthful := by
  cases i <;> (unfold exec at h; exact command_truthful h)

theorem clockTick_truthful {s t : State} (h : clockTick s = .next t) : t.Truthful := by
  simp only [clockTick] at h
  split at h
  · obtain rfl := Host.Outcome.next.inj h
    exact settle_truthful _
  · split at h
    · exact exec_truthful h
    · split at h
      · exact exec_truthful h
      · exact command_truthful h

/-- Settles O56: whatever the state before, a step ends in a settled state. -/
theorem conditionsStayTruthful : Obligations.ConditionsStayTruthful := by
  unfold Obligations.ConditionsStayTruthful
  intro s t _ h
  unfold step at h
  split at h
  · exact clockTick_truthful h
  · exact exec_truthful h

end Sys2Proof.Machine
end

section
/-! What a step runs (R444): the front command, or on an empty queue what the block's own clock makes due. -/

namespace Sys2Proof.Machine

theorem step_of_pending {s : State} {i : Instr} {rest : List Instr} (h : s.pending = i :: rest) :
    step s = exec i { s with pending := rest } := by
  simp only [step, h]

theorem step_of_empty {s : State} (h : s.pending = []) : step s = clockTick s := by
  simp only [step, h]

/-- A core 0 that does not run leaves the clock's changes, settled. -/
theorem clockTick_of_not_runs {s : State} (h : s.logicTick.wireTick.coreRuns 0 = false) : clockTick s = .next s.logicTick.wireTick.settle := by
  simp [clockTick, h]

theorem clockTick_of_lineDue {s : State} (hruns : s.logicTick.wireTick.coreRuns 0 = true) (hline : s.logicTick.wireTick.lineDue = true) :
    clockTick s = exec (.interruptEntry 0) s.logicTick.wireTick := by
  simp [clockTick, hruns, hline]

theorem clockTick_of_fetched {s : State} {i : Instr} (hruns : s.logicTick.wireTick.coreRuns 0 = true)
    (hline : s.logicTick.wireTick.lineDue = false) (hfetch : s.logicTick.wireTick.fetched = some i) :
    clockTick s = exec i s.logicTick.wireTick := by
  simp [clockTick, hruns, hline, hfetch]

theorem clockTick_of_illegal {s : State} (hruns : s.logicTick.wireTick.coreRuns 0 = true) (hline : s.logicTick.wireTick.lineDue = false)
    (hfetch : s.logicTick.wireTick.fetched = none) :
    clockTick s = .next (s.logicTick.wireTick.ran (opDuskIllegal s.logicTick.wireTick)) := by
  simp [clockTick, hruns, hline, hfetch, command_next]

/-- Settles O54: the queue's front, then the clock's cases in their order. -/
theorem stepRunsTheFrontCommand : Obligations.StepRunsTheFrontCommand := by
  unfold Obligations.StepRunsTheFrontCommand
  refine ⟨fun c rest s h => step_of_pending h, fun s t h ht hruns => ?still, fun s t h ht hruns hline => ?line,
    fun s t i h ht hruns hline hfetch => ?instruction, fun s t k h ht hruns hline hfetch hpatch hk hasks hfault => ?illegal⟩
  case still =>
    subst ht
    rw [step_of_empty h, clockTick_of_not_runs hruns]
  case line =>
    subst ht
    rw [step_of_empty h, clockTick_of_lineDue hruns hline]
  case instruction =>
    subst ht
    rw [step_of_empty h, clockTick_of_fetched hruns hline hfetch]
  case illegal =>
    subst ht hk
    have hidle : (s.logicTick.wireTick.core 0).asks.isEmpty = true := List.isEmpty_iff.mpr hasks
    rw [step_of_empty h, clockTick_of_illegal hruns hline hfetch, opDuskIllegal, issue_of_placeFault hruns hidle hpatch hfault]

end Sys2Proof.Machine
end

section
/-! The ALU instructions of the Dusk cores (R446, Table 15.3). -/

namespace Sys2Proof.Machine

/-- An instruction of a core on which no patch unit works, with operands that its fields hold, runs. -/
theorem duskCommand_next {s : State} {c : Nat} {i : Instr} {ok : Bool} {f : State → State} (h : s.unpatched c = true) (hok : ok = true) :
    duskCommand c i ok f s = .next (s.ran (f s)) :=
  (duskCommand_of_unpatched h).trans (command_next s hok f)

/-- An ALU instruction that may issue writes the value of its operands, modulo 2^16. -/
theorem aluCommand_next {s : State} {c dst : Nat} {i : Instr} {ok : Bool} {f : Core → Int} {v : Nat} (h : s.mayIssue c {} = true) (hok : ok = true)
    (hv : ofSigned 16 (f (s.core c)) = v % 2 ^ 16) :
    duskCommand c i ok (fun s => s.alu c dst f) s = .next (s.ran (s.issued c fun u => u.setD c dst v)) := by
  rw [duskCommand_next (unpatched_of_mayIssue h) hok, State.alu, issue_of_mayIssue h rfl]
  simp only [State.setD, hv, Nat.mod_mod]

theorem ofSigned_mod (w : Nat) (z : Int) : ofSigned w z = ofSigned w z % 2 ^ w := (Nat.mod_eq_of_lt (ofSigned_lt w z)).symm

/-- The sum and the difference of two words as 16-bit patterns. -/
theorem ofSigned_add (a b : Nat) : ofSigned 16 ((a : Int) + b) = (a + b) % 2 ^ 16 := ofSigned_natCast 16 (a + b)

theorem ofSigned_sub (a b : Nat) : ofSigned 16 ((a : Int) - b) = (a + (2 ^ 16 - b % 2 ^ 16)) % 2 ^ 16 := by
  simp only [ofSigned]
  omega

/-- ADDI's constant is signed. -/
theorem ofSigned_addi (a : Nat) {imm : Nat} (h : imm < 8192) :
    ofSigned 16 ((a : Int) + toSigned 13 imm) = (a + (if imm < 4096 then imm else imm + (2 ^ 16 - 2 ^ 13))) % 2 ^ 16 := by
  unfold ofSigned toSigned
  rw [Nat.mod_eq_of_lt (show imm < 2 ^ 13 from h)]
  by_cases hneg : imm < 4096
  · rw [if_pos (show imm < 2 ^ (13 - 1) from hneg), if_pos hneg]
    omega
  · rw [if_neg (show ¬ imm < 2 ^ (13 - 1) from hneg), if_neg hneg]
    omega

/-- Settles O46: an ALU instruction that may issue is its value, written to its register. -/
theorem duskAluInstructions : Obligations.DuskAluInstructions := by
  unfold Obligations.DuskAluInstructions
  refine ⟨fun c dst a b k s hc hdst ha hb hk h => ?three, fun c dst a k s hc hdst ha hk h => ?two, fun c dst imm k s hc hdst himm hk h => ?imm,
    fun c target imm s hc htarget himm h => ?movi⟩
  case three =>
    subst hk
    have hok : (decide (c < 2) && decide (dst < 8) && decide (a < 8) && decide (b < 8)) = true := by simp [hc, hdst, ha, hb]
    have hshra : ofSigned 16 ((s.core c).dInt a / ((2 ^ ((s.core c).dAt b % 16) : Nat) : Int)) =
        ofSigned 16 ((s.core c).dInt a / 2 ^ ((s.core c).dAt b % 16)) % 2 ^ 16 := by
      rw [Nat.cast_pow]
      exact ofSigned_mod 16 _
    exact ⟨aluCommand_next h hok (ofSigned_add _ _), aluCommand_next h hok (ofSigned_natCast 16 _), aluCommand_next h hok (ofSigned_natCast 16 _),
      aluCommand_next h hok (ofSigned_natCast 16 _), aluCommand_next h hok (ofSigned_natCast 16 _), aluCommand_next h hok (ofSigned_natCast 16 _),
      aluCommand_next h hok (ofSigned_sub _ _), aluCommand_next h hok hshra, aluCommand_next h hok (ofSigned_mod 16 _),
      aluCommand_next h hok (ofSigned_mod 16 _)⟩
  case two =>
    subst hk
    have hok : (decide (c < 2) && decide (dst < 8) && decide (a < 8)) = true := by simp [hc, hdst, ha]
    refine ⟨aluCommand_next h hok (ofSigned_natCast 16 _), ?_, aluCommand_next h hok (ofSigned_natCast 16 _)⟩
    refine (duskCommand_next (unpatched_of_mayIssue h) hok).trans ?_
    rw [opDuskTop, issue_of_mayIssue h rfl]
  case imm =>
    subst hk
    have hok : (decide (c < 2) && decide (dst < 8) && decide (imm < 8192)) = true := by simp [hc, hdst, himm]
    have hfield : imm % 2 ^ 13 = imm := Nat.mod_eq_of_lt himm
    refine ⟨aluCommand_next h hok (ofSigned_addi _ himm), aluCommand_next h hok ?_, aluCommand_next h hok ?_, aluCommand_next h hok ?_⟩
    all_goals
      rw [hfield]
      exact ofSigned_natCast 16 _
  case movi =>
    have hok : (decide (c < 2) && decide (target < 16) && decide (imm < 65536)) = true := by simp [hc, himm, Nat.lt_trans htarget]
    have hplaces : ({ illegal := decide (12 ≤ target) } : Places) = {} := by simp [Nat.not_le.mpr htarget]
    refine (duskCommand_next (unpatched_of_mayIssue h) hok).trans ?_
    rw [opDuskMovi, hplaces, issue_of_mayIssue h rfl]

end Sys2Proof.Machine
end

section
/-! Loads, stores, multiplies and the accumulators of the Dusk cores (R447, R448, Table 15.3). -/

namespace Sys2Proof.Machine

/-! ### An instruction that may issue, and what it acts on -/

/-- The state that an instruction's own work starts from. -/
def State.issuing (s : State) (c : Nat) : State :=
  ((s.setReg R.core_PC c (s.core c).pc).inc R.core_CYCLES c).onCore c fun k => k.landed.next c

/-- An instruction's effect is told by what it does to the state that it starts from. -/
theorem issued_congr {s : State} {c : Nat} {act act' : State → State} (h : act (s.issuing c) = act' (s.issuing c)) :
    s.issued c act = s.issued c act' := by
  simp only [State.issuing] at h
  simp only [State.issued, h]

theorem issuing_unpatched {s : State} {c : Nat} (h : s.unpatched c = true) : (s.issuing c).unpatched c = true := by
  simpa (disch := decide) [State.unpatched, State.issuing, reg_inc_of_ref, reg_setReg_of_ref] using h

/-- A command of an instruction that may issue, whose own conditions hold. -/
theorem issueCommand_next {s : State} {c : Nat} {i : Instr} {ok : Bool} {p p' : Places} {fault : Core → Option Nat} {act : Core → State → State}
    {act' : State → State} (h : s.mayIssue c p = true) (hok : ok = true) (hp : p' = p) (hfault : fault (s.core c) = none)
    (hact : act (s.core c) (s.issuing c) = act' (s.issuing c)) :
    duskCommand c i ok (fun s => s.issue c p' fault act) s = .next (s.ran (s.issued c act')) := by
  subst hp
  rw [duskCommand_next (unpatched_of_mayIssue h) hok, issue_of_mayIssue h hfault, issued_congr hact]

/-! ### Memory -/

theorem loadTo_internal {s : State} {c a : Nat} (hu : s.unpatched c = true) (ha : external c a = false) (d : Nat) :
    s.loadTo c d a = s.lateD c d ((s.core c).dataWord a) := by
  simp [State.loadTo, watchHits_of_unpatched hu, ha]

theorem loadTo_external {s : State} {c a : Nat} (hu : s.unpatched c = true) (ha : external c a = true) (d : Nat) :
    s.loadTo c d a = s.windowAsk a (some d) 0 := by
  simp [State.loadTo, watchHits_of_unpatched hu, ha]

theorem storeFrom_internal {s : State} {c a : Nat} (hu : s.unpatched c = true) (ha : external c a = false) (v : Nat) :
    s.storeFrom c a v = s.storeData c a v := by
  simp [State.storeFrom, watchHits_of_unpatched hu, ha]

theorem storeFrom_external {s : State} {c a : Nat} (hu : s.unpatched c = true) (ha : external c a = true) (v : Nat) :
    s.storeFrom c a v = s.windowAsk a none v := by
  simp [State.storeFrom, watchHits_of_unpatched hu, ha]

theorem movePointer_still {mode : Nat} (h : mode = 0 ∨ mode = 5) (s : State) (c : Nat) (k : Core) (p : Nat) : s.movePointer c k p mode = s := by
  rcases h with rfl | rfl <;> rfl

theorem movePointer_moves {mode : Nat} (h1 : 1 ≤ mode) (h4 : mode ≤ 4) (s : State) (c : Nat) (k : Core) (p : Nat) :
    s.movePointer c k p mode = s.setP c p (k.pointerAfter p mode) := if_pos ⟨h1, h4⟩

theorem lateD_mod (s : State) (c i v : Nat) : s.lateD c i (v % 2 ^ 16) = s.lateD c i v := by
  simp only [State.lateD, Nat.mod_mod]

theorem accessPlaces {mode : Nat} (h : mode < 6) : ({ illegal := decide (6 ≤ mode) } : Places) = {} := by
  simp [Nat.not_le.mpr h]

section
variable {s : State} {c d p mode offset : Nat} (hc : c < 2) (hd : d < 8) (hp : p < 4) (hmode : mode < 6) (hoffset : offset < 4096)
  (h : s.mayIssue c {} = true)
include hc hd hp hmode hoffset h

/-- A load that may issue does what its access and its pointer do. -/
theorem exec_duskLd {act : State → State} (hfault : (s.core c).memFault c p mode offset true = none)
    (hact : ((s.issuing c).loadTo c d ((s.core c).dataAddr p mode offset)).movePointer c (s.core c) p mode = act (s.issuing c)) :
    exec (.duskLd c d p mode offset) s = .next (s.ran (s.issued c act)) :=
  issueCommand_next h (by simp [hc, hd, hp, hoffset, Nat.lt_of_lt_of_le hmode]) (accessPlaces hmode) hfault hact

theorem exec_duskSt {act : State → State} (hfault : (s.core c).memFault c p mode offset false = none)
    (hact : ((s.issuing c).storeFrom c ((s.core c).dataAddr p mode offset) ((s.core c).dAt d)).movePointer c (s.core c) p mode =
      act (s.issuing c)) : exec (.duskSt c d p mode offset) s = .next (s.ran (s.issued c act)) :=
  issueCommand_next h (by simp [hc, hd, hp, hoffset, Nat.lt_of_lt_of_le hmode]) (accessPlaces hmode) hfault hact
end

/-! ### Multiplies and accumulators -/

/-- A MAC-class instruction that may issue: the accumulator gets its value, and D6 and D7 are loaded where L says so. -/
theorem macCommand_next {s : State} {c acc : Nat} {load : Bool} {i : Instr} {ok : Bool} {f : Core → Int} (h : s.mayIssue c {} = true)
    (hok : ok = true) (hfault : (s.core c).dualFault c load = none) :
    duskCommand c i ok (fun s => s.mac c acc load f) s =
      .next (s.ran (s.issued c fun u => (u.setA c acc (f (s.core c))).dualLoad c (s.core c) load)) :=
  issueCommand_next h hok rfl hfault rfl

/-- Without L nothing is loaded. -/
theorem accCommand_next {s : State} {c acc : Nat} {i : Instr} {ok : Bool} {f : Core → Int} (h : s.mayIssue c {} = true) (hok : ok = true) :
    duskCommand c i ok (fun s => s.mac c acc false f) s = .next (s.ran (s.issued c fun u => u.setA c acc (f (s.core c)))) :=
  issueCommand_next h hok rfl rfl rfl

theorem accOpCommand_next {s : State} {c acc : Nat} {i : Instr} {ok : Bool} {f : Core → Int} (h : s.mayIssue c {} = true) (hok : ok = true) :
    duskCommand c i ok (fun s => s.accOp c acc f) s = .next (s.ran (s.issued c fun u => u.setA c acc (f (s.core c)))) :=
  accCommand_next h hok

/-- A result that 40 bits hold is the accumulator's. -/
theorem accExactCommand_next {s : State} {c acc : Nat} {i : Instr} {ok : Bool} {f : Core → Int} (h : s.mayIssue c {} = true) (hok : ok = true)
    (hf : -(2 ^ 39) ≤ f (s.core c) ∧ f (s.core c) < 2 ^ 39) :
    duskCommand c i ok (fun s => s.accExact c acc f) s = .next (s.ran (s.issued c fun u => u.setA c acc (f (s.core c)))) :=
  issueCommand_next h hok rfl rfl (if_pos hf)

/-- A result that 40 bits do not hold is some value. -/
theorem accExactCommand_free {s : State} {c acc : Nat} {i : Instr} {ok : Bool} {f : Core → Int} (h : s.mayIssue c {} = true) (hok : ok = true)
    (hf : ¬ (-(2 ^ 39) ≤ f (s.core c) ∧ f (s.core c) < 2 ^ 39)) :
    duskCommand c i ok (fun s => s.accExact c acc f) s =
      .next (s.ran (s.issued c fun u => (u.setA c acc ((s.issuing c).freeBits 40)).took)) :=
  issueCommand_next h hok rfl rfl (if_neg hf)

theorem high_of_not_sat {k : Core} (h : k.sat = false) (acc : Nat) : k.high acc = bits (k.aAt acc) 31 16 := by
  simp [Core.high, h]

theorem high_of_sat {k : Core} {acc : Nat} (h : k.sat = true) (h0 : bits (k.aAt acc) 39 31 ≠ 0) (h1 : bits (k.aAt acc) 39 31 ≠ 511) :
    k.high acc = if (k.aAt acc).testBit 39 then 0x8000 else 0x7FFF := by
  simp [Core.high, h, h0, h1]

/-- MOVH writes the high half that saturation leaves. -/
theorem exec_duskMovh {s : State} {c d acc v : Nat} (hc : c < 2) (hd : d < 8) (hacc : acc < 2) (h : s.mayIssue c {} = true)
    (hv : (s.core c).high acc = v) : exec (.duskMovh c d acc) s = .next (s.ran (s.issued c fun u => u.setD c d v)) :=
  aluCommand_next h (by simp [hc, hd, hacc]) (by rw [hv]; exact ofSigned_natCast 16 v)

/-- Settles O47: a load, a store, a multiply or an accumulator instruction is its own work on the state it starts from. -/
theorem duskMemoryAndAccumulators : Obligations.DuskMemoryAndAccumulators := by
  unfold Obligations.DuskMemoryAndAccumulators
  refine ⟨fun c d p mode offset k s hc hd hp hmode hoffset hk h hin => ?own, fun d p mode offset k s hd hp hmode hoffset hk h hout => ?window,
    fun c acc dx dy frac k x s hc hacc hdx hdy hk h hx => ?mac, fun c acc d k s hc hacc hd hk h => ?acc,
    fun c acc n k s hc hacc hlo hhi hk h => ?shift⟩
  case own =>
    subst hk
    have hu := issuing_unpatched (unpatched_of_mayIssue h)
    refine ⟨fun hf hm => ?_, fun hf h1 h4 => ?_, fun hf hm => ?_, fun hf h1 h4 => ?_⟩
    · exact exec_duskLd hc hd hp hmode hoffset h hf (by rw [loadTo_internal hu hin, movePointer_still hm, lateD_mod])
    · exact exec_duskLd hc hd hp hmode hoffset h hf (by rw [loadTo_internal hu hin, movePointer_moves h1 h4, lateD_mod])
    · exact exec_duskSt hc hd hp hmode hoffset h hf (by rw [storeFrom_internal hu hin, movePointer_still hm])
    · exact exec_duskSt hc hd hp hmode hoffset h hf (by rw [storeFrom_internal hu hin, movePointer_moves h1 h4])
  case window =>
    subst hk
    have hu := issuing_unpatched (unpatched_of_mayIssue h)
    refine ⟨fun hf hm => ?_, fun hf h1 h4 => ?_, fun hf hm => ?_, fun hf h1 h4 => ?_⟩
    · exact exec_duskLd (by decide) hd hp hmode hoffset h hf (by rw [loadTo_external hu hout, movePointer_still hm])
    · exact exec_duskLd (by decide) hd hp hmode hoffset h hf (by rw [loadTo_external hu hout, movePointer_moves h1 h4])
    · exact exec_duskSt (by decide) hd hp hmode hoffset h hf (by rw [storeFrom_external hu hout, movePointer_still hm])
    · exact exec_duskSt (by decide) hd hp hmode hoffset h hf (by rw [storeFrom_external hu hout, movePointer_moves h1 h4])
  case mac =>
    subst hk hx
    have hok : (decide (c < 2) && decide (acc < 2) && decide (dx < 8) && decide (dy < 8)) = true := by simp [hc, hacc, hdx, hdy]
    have hclr : (decide (c < 2) && decide (acc < 2)) = true := by simp [hc, hacc]
    exact ⟨accCommand_next h hok, accCommand_next h hok, accCommand_next h hok, accCommand_next h hclr, fun hf =>
      ⟨macCommand_next h hok hf, macCommand_next h hok hf, macCommand_next h hok hf, macCommand_next h hclr hf⟩⟩
  case acc =>
    subst hk
    have hok : (decide (c < 2) && decide (acc < 2) && decide (d < 8)) = true := by simp [hc, hacc, hd]
    have hok' : (decide (c < 2) && decide (d < 8) && decide (acc < 2)) = true := by simp [hc, hacc, hd]
    refine ⟨accOpCommand_next h hok, accOpCommand_next h hok, fun hsat => exec_duskMovh hc hd hacc h (high_of_not_sat hsat acc),
      fun hsat h0 h1 => exec_duskMovh hc hd hacc h (high_of_sat hsat h0 h1), ?_, aluCommand_next h hok' (ofSigned_mod 16 _), fun hlo hhi => ?_,
      fun hbad => ?_⟩
    · exact aluCommand_next h hok' ((ofSigned_natCast 16 _).trans (Nat.mod_mod _ _))
    · exact issueCommand_next h hok rfl (if_pos ⟨hlo, hhi⟩) rfl
    · refine (duskCommand_next (unpatched_of_mayIssue h) hok).trans ?_
      rw [opDuskNorm, issue_of_fault h (if_neg (by omega))]
  case shift =>
    subst hk
    have hok : (decide (c < 2) && decide (acc < 2)) = true := by simp [hc, hacc]
    refine ⟨accOpCommand_next h (by simp [hc, hacc, hlo, hhi]), accOpCommand_next h hok, fun hmin hmax => ⟨?_, ?_⟩, fun hmin => ⟨⟨(s.issuing c).freeBits 40, ?_⟩,
      ⟨(s.issuing c).freeBits 40, ?_⟩⟩⟩
    · exact accExactCommand_next h hok ⟨by omega, by omega⟩
    · exact accExactCommand_next h hok ⟨by omega, by omega⟩
    · exact accExactCommand_free h hok (by omega)
    · exact accExactCommand_free h hok (by omega)

end Sys2Proof.Machine
end

section
/-! Branches, calls, repeats, ports and the rest of the Dusk cores' instructions (R449, R451, R452, Table 15.3). -/

namespace Sys2Proof.Machine

/-- The places of a branch, whose condition code is none of the reserved ones. -/
theorem branchPlaces {cond : Nat} (h : cond < 7) : ({ jumpPlaces with illegal := decide (7 ≤ cond) } : Places) = jumpPlaces := by
  simp [Nat.not_le.mpr h, jumpPlaces]

/-- A count that a register may give. -/
theorem countBad_eq_false {n : Nat} (h1 : 1 ≤ n) (h2 : n ≤ 4096) : countBad n = false := by
  simp [countBad, Nat.not_lt.mpr h2, Nat.ne_of_gt h1]

theorem countBad_eq_true {n : Nat} (h : n = 0 ∨ 4096 < n) : countBad n = true := by
  rcases h with rfl | h
  · rfl
  · simp [countBad, h]

/-- A return that may issue goes on at the top of the stack, after two delay slots. -/
theorem returnCommand_next {s : State} {c x : Nat} {rest : List Nat} {i : Instr} {ok int : Bool} (h : s.mayIssue c jumpPlaces = true)
    (hok : ok = true) (hstack : (s.core c).stack = x :: rest) :
    duskCommand c i ok (fun s => s.returnFrom c int) s = .next (s.ran (s.issued c fun u =>
      (u.onCore c fun y => { y with stack := y.stack.drop 1, retInt := int }).onCore c fun y => { y with slots := 2, target := x })) := by
  refine issueCommand_next h hok rfl ?_ ?_
  · simp [hstack]
  · rw [hstack]
    rfl

/-- Settles O48: an instruction that may issue, with its own condition where it has one, is its own work on the state it starts from. -/
theorem duskControlFlow : Obligations.DuskControlFlow := by
  unfold Obligations.DuskControlFlow
  refine ⟨fun c cond d target k s hc hcond hd htarget hk h => ?jump, fun c x rest k s hc hk hstack h => ?back,
    fun c d n k s hc hd hn hk h => ?again, fun c d last k s hc hd hlast hk h1 h2 hloop h => ?block, fun k s hk h => ?long,
    fun c d port k s hc hd hport hk h => ?port, fun c s hc h => ?rest⟩
  case jump =>
    subst hk
    refine ⟨issueCommand_next h (by simp [hc, hd, htarget, Nat.lt_trans hcond]) (branchPlaces hcond) rfl rfl, fun hroom => ?_⟩
    exact issueCommand_next h (by simp [hc, htarget]) rfl (if_neg (Nat.not_le.mpr hroom)) rfl
  case back =>
    subst hk
    exact ⟨returnCommand_next h (decide_eq_true hc) hstack, returnCommand_next h (decide_eq_true hc) hstack⟩
  case again =>
    subst hk
    have hok : (decide (c < 2) && decide (d < 8) && decide (n < 4096)) = true := by simp [hc, hd, hn]
    refine ⟨issueCommand_next h hok rfl rfl ?_, fun h1 h2 => issueCommand_next h hok rfl ?_ rfl,
      issueCommand_next h (decide_eq_true hc) rfl rfl rfl⟩
    · simp only [Nat.mod_eq_of_lt hn, Bool.false_eq_true, if_false]
    · simp [countBad_eq_false h1 h2]
  case block =>
    subst hk
    refine issueCommand_next h (by simp [hc, hd, hlast]) rfl ?_ rfl
    simp [hloop, countBad_eq_false h1 h2]
  case long =>
    subst hk
    exact issueCommand_next h rfl rfl rfl rfl
  case port =>
    subst hk
    refine ⟨fun hin => ?_, fun hout => ?_⟩
    · exact issueCommand_next h (by simp [hc, hd, hport]) rfl (if_pos hin) rfl
    · exact issueCommand_next h (by simp [hc, hd, hport]) rfl (if_pos hout) rfl
  case rest =>
    have hok := decide_eq_true hc
    refine ⟨issueCommand_next h hok rfl rfl rfl, issueCommand_next h hok rfl rfl rfl, issueCommand_next h hok rfl rfl rfl, ?_⟩
    refine (duskCommand_next (unpatched_of_mayIssue h) hok).trans ?_
    rw [opDuskTrap, issue_of_fault h rfl]

end Sys2Proof.Machine
end

section
/-! Instructions in forbidden places (R450): the fault is all that they do. -/

namespace Sys2Proof.Machine

/-! ### The places -/

/-- The fetch of an instruction that may stand anywhere is good. -/
theorem fetch_of_mayIssue {s : State} {c : Nat} (h : s.mayIssue c {} = true) :
    ¬ (c = 0 ∧ (s.core c).words ≤ (s.core c).pc) ∧ ¬ (c = 0 ∧ (!parityOk 32 ((s.core c).progWord (s.core c).pc)) = true) := by
  simp only [State.mayIssue, Bool.and_eq_true, Option.isNone_iff_eq_none] at h
  obtain ⟨-, hplace⟩ := h
  simp only [Core.placeFault] at hplace
  split at hplace
  · cases hplace
  · next hwords =>
    split at hplace
    · cases hplace
    · next hparity => exact ⟨hwords, hparity⟩

/-- After a good fetch a legal instruction is judged by its places alone. -/
theorem placeFault_eq {c : Nat} {k : Core} {p : Places} (hwords : ¬ (c = 0 ∧ k.words ≤ k.pc))
    (hparity : ¬ (c = 0 ∧ (!parityOk 32 (k.progWord k.pc)) = true)) (hlegal : p.illegal = false) :
    k.placeFault c p = if (decide (0 < k.slots) && !p.inSlot) || ((k.atEnd 0 || k.atEnd 1) && (decide (0 < k.slots) || !p.atEnd)) then some 2
      else if decide (0 < k.rep) && !p.inRepeat then some 3 else none := by
  rw [Core.placeFault, if_neg hwords, if_neg hparity, if_neg (by simp [hlegal])]

section
variable {s : State} {c : Nat} {p : Places} (h : s.mayIssue c {} = true) (hlegal : p.illegal = false)
include h hlegal

theorem placeFault_in_slot (hp : p.inSlot = false) (hslots : 0 < (s.core c).slots) : (s.core c).placeFault c p = some 2 := by
  obtain ⟨hwords, hparity⟩ := fetch_of_mayIssue h
  rw [placeFault_eq hwords hparity hlegal, if_pos (by simp [hp, hslots])]

theorem placeFault_at_end (hp : p.atEnd = false) (hend : (s.core c).atEnd 0 = true ∨ (s.core c).atEnd 1 = true) :
    (s.core c).placeFault c p = some 2 := by
  obtain ⟨hwords, hparity⟩ := fetch_of_mayIssue h
  rw [placeFault_eq hwords hparity hlegal, if_pos (by simp [hp, hend])]

theorem placeFault_in_repeat (hp : p.inRepeat = false) (hslots : (s.core c).slots = 0) (hend0 : (s.core c).atEnd 0 = false)
    (hend1 : (s.core c).atEnd 1 = false) (hrep : 0 < (s.core c).rep) : (s.core c).placeFault c p = some 3 := by
  obtain ⟨hwords, hparity⟩ := fetch_of_mayIssue h
  rw [placeFault_eq hwords hparity hlegal, if_neg (by simp [hslots, hend0, hend1]), if_pos (by simp [hp, hrep])]
end

/-! ### Commands that only fault -/

/-- The command of an instruction in a forbidden place. -/
theorem placeCommand_faults {s : State} {c code : Nat} {i : Instr} {ok : Bool} {p : Places} {fault : Core → Option Nat}
    {act : Core → State → State} (h : s.mayIssue c {} = true) (hok : ok = true) (hplace : (s.core c).placeFault c p = some code) :
    duskCommand c i ok (fun s => s.issue c p fault act) s = .next (s.ran (s.coreFault c code)) := by
  have hu := unpatched_of_mayIssue h
  simp only [State.mayIssue, Bool.and_eq_true] at h
  obtain ⟨⟨⟨hruns, hasks⟩, -⟩, -⟩ := h
  rw [duskCommand_next hu hok, issue_of_placeFault hruns hasks hu hplace]

/-- The command of an instruction whose own condition fails. -/
theorem issueCommand_faults {s : State} {c code : Nat} {i : Instr} {ok : Bool} {p p' : Places} {fault : Core → Option Nat}
    {act : Core → State → State} (h : s.mayIssue c p = true) (hok : ok = true) (hp : p' = p) (hfault : fault (s.core c) = some code) :
    duskCommand c i ok (fun s => s.issue c p' fault act) s = .next (s.ran (s.coreFault c code)) := by
  subst hp
  rw [duskCommand_next (unpatched_of_mayIssue h) hok, issue_of_fault h hfault]

theorem returnCommand_placed {s : State} {c code : Nat} {i : Instr} {ok int : Bool} (h : s.mayIssue c {} = true) (hok : ok = true)
    (hplace : (s.core c).placeFault c jumpPlaces = some code) :
    duskCommand c i ok (fun s => s.returnFrom c int) s = .next (s.ran (s.coreFault c code)) :=
  placeCommand_faults h hok hplace

theorem returnCommand_empty {s : State} {c : Nat} {i : Instr} {ok int : Bool} (h : s.mayIssue c jumpPlaces = true) (hok : ok = true)
    (hstack : (s.core c).stack = []) : duskCommand c i ok (fun s => s.returnFrom c int) s = .next (s.ran (s.coreFault c 9)) :=
  issueCommand_faults h hok rfl (by simp [hstack])

theorem macCommand_faults {s : State} {c acc code : Nat} {load : Bool} {i : Instr} {ok : Bool} {f : Core → Int} (h : s.mayIssue c {} = true)
    (hok : ok = true) (hfault : (s.core c).dualFault c load = some code) :
    duskCommand c i ok (fun s => s.mac c acc load f) s = .next (s.ran (s.coreFault c code)) :=
  issueCommand_faults h hok rfl hfault

/-! ### Accesses of external memory in a REPEAT -/

theorem accessFault_external {c a : Nat} {k : Core} (hc : c ≠ 0) (ha : external c a = true) (hrep : 0 < k.rep) (read : Bool) :
    k.accessFault c a read = some 3 := by
  rw [Core.accessFault, if_neg (fun h => hc h.1), if_pos (by simp [ha, hrep])]

theorem memFault_external {c p mode offset : Nat} {k : Core} (hc : c ≠ 0) (hlen : k.lengthBad p mode = false)
    (ha : external c (k.dataAddr p mode offset) = true) (hrep : 0 < k.rep) (read : Bool) : k.memFault c p mode offset read = some 3 := by
  rw [Core.memFault, if_neg (by simp [hlen]), accessFault_external hc ha hrep]

/-- A dual load that touches external memory first, or after a good first access. -/
theorem dualFault_external {c : Nat} {k : Core} (hc : c ≠ 0) (hrep : 0 < k.rep)
    (ha : external c (k.pAt 0) = true ∨ (k.accessFault c (k.pAt 0) true = none ∧ external c (k.pAt 1) = true)) : k.dualFault c true = some 3 := by
  rcases ha with h0 | ⟨h0, h1⟩
  · simp [Core.dualFault, accessFault_external hc h0 hrep]
  · simp [Core.dualFault, h0, accessFault_external hc h1 hrep]

/-- Settles O49: each instruction by the first of its place's faults, or by its own condition. -/
theorem placementsFault : Obligations.PlacementsFault := by
  unfold Obligations.PlacementsFault
  refine ⟨fun c cond d n target reg s hc hcond hd hn htarget h hslots => ?slot, fun c cond d target s hc hcond hd htarget h hend => ?atEnd,
    fun c p k hfetch hlegal hslots hend => ?slotEnd,
    fun c cond d n port target reg s hc hcond hd hn hport htarget h hslots hend0 hend1 hrep => ?inRepeat,
    fun d p mode offset s hd hp hmode hoffset h hrep hlen hext => ?window, fun acc dx dy frac s hacc hdx hdy h hrep hext => ?dual,
    fun c d n target s hc hd hn htarget h => ?counts, fun c target s hc htarget h => ?stack⟩
  case slot =>
    have hjump : (s.core c).placeFault c jumpPlaces = some 2 := placeFault_in_slot h rfl rfl hslots
    refine ⟨placeCommand_faults h (by simp [hc, hd, htarget, Nat.lt_trans hcond]) ?_, placeCommand_faults h (by simp [hc, htarget]) hjump,
      returnCommand_placed h (decide_eq_true hc) hjump, returnCommand_placed h (decide_eq_true hc) hjump,
      placeCommand_faults h (by simp [hc, hd, hn]) (placeFault_in_slot h rfl rfl hslots),
      placeCommand_faults h (by simp [hc, hd, htarget]) (placeFault_in_slot h rfl rfl hslots),
      placeCommand_faults h (decide_eq_true hc) (placeFault_in_slot h rfl rfl hslots), fun hone => ?_⟩
    · rw [branchPlaces hcond, hjump]
    · subst hone
      exact placeCommand_faults h rfl (placeFault_in_slot h rfl rfl hslots)
  case atEnd =>
    have hjump : (s.core c).placeFault c jumpPlaces = some 2 := placeFault_at_end h rfl rfl hend
    refine ⟨placeCommand_faults h (by simp [hc, hd, htarget, Nat.lt_trans hcond]) ?_, placeCommand_faults h (by simp [hc, htarget]) hjump,
      returnCommand_placed h (decide_eq_true hc) hjump, returnCommand_placed h (decide_eq_true hc) hjump⟩
    rw [branchPlaces hcond, hjump]
  case slotEnd =>
    rw [placeFault_eq (fun hw => Nat.not_le.mpr (hfetch hw.1).1 hw.2) (fun hp => by simp [(hfetch hp.1).2] at hp) hlegal,
      if_pos (by simp [hslots, hend])]
  case inRepeat =>
    have hjump : (s.core c).placeFault c jumpPlaces = some 3 := placeFault_in_repeat h rfl rfl hslots hend0 hend1 hrep
    refine ⟨placeCommand_faults h (by simp [hc, hd, htarget, Nat.lt_trans hcond]) ?_, placeCommand_faults h (by simp [hc, htarget]) hjump,
      returnCommand_placed h (decide_eq_true hc) hjump, returnCommand_placed h (decide_eq_true hc) hjump,
      placeCommand_faults h (by simp [hc, hd, hn]) (placeFault_in_repeat h rfl rfl hslots hend0 hend1 hrep),
      placeCommand_faults h (by simp [hc, hd, htarget]) (placeFault_in_repeat h rfl rfl hslots hend0 hend1 hrep),
      placeCommand_faults h (decide_eq_true hc) (placeFault_in_repeat h rfl rfl hslots hend0 hend1 hrep),
      placeCommand_faults h (by simp [hc, hd, hport]) (placeFault_in_repeat h rfl rfl hslots hend0 hend1 hrep),
      placeCommand_faults h (by simp [hc, hd, hport]) (placeFault_in_repeat h rfl rfl hslots hend0 hend1 hrep), fun hone => ?_⟩
    · rw [branchPlaces hcond, hjump]
    · subst hone
      exact placeCommand_faults h rfl (placeFault_in_repeat h rfl rfl hslots hend0 hend1 hrep)
  case window =>
    have hok : (decide (1 < 2) && decide (d < 8) && decide (p < 4) && decide (mode < 8) && decide (offset < 4096)) = true := by
      simp [hd, hp, hoffset, Nat.lt_of_lt_of_le hmode]
    exact ⟨issueCommand_faults h hok (accessPlaces hmode) (memFault_external (by decide) hlen hext hrep true),
      issueCommand_faults h hok (accessPlaces hmode) (memFault_external (by decide) hlen hext hrep false)⟩
  case dual =>
    have hfault := dualFault_external (k := s.core 1) (by decide) hrep hext
    have hok : (decide (1 < 2) && decide (acc < 2) && decide (dx < 8) && decide (dy < 8)) = true := by simp [hacc, hdx, hdy]
    exact ⟨macCommand_faults h hok hfault, macCommand_faults h hok hfault, macCommand_faults h hok hfault,
      macCommand_faults h (by simp [hacc]) hfault⟩
  case counts =>
    have hrepeat : (decide (c < 2) && decide (d < 8) && decide (n < 4096)) = true := by simp [hc, hd, hn]
    have hbrep : (decide (c < 2) && decide (d < 8) && decide (target < 4096)) = true := by simp [hc, hd, htarget]
    refine ⟨fun hcount => ⟨issueCommand_faults h hrepeat rfl ?_, issueCommand_faults h hbrep rfl ?_⟩, fun h0 h1 =>
      issueCommand_faults h hbrep rfl ?_⟩
    · simp [countBad_eq_true hcount]
    · simp [countBad_eq_true hcount]
    · simp [h0, h1]
  case stack =>
    have hok := decide_eq_true hc
    refine ⟨fun hfull => issueCommand_faults h (by simp [hc, htarget]) rfl (if_pos hfull), fun hempty => ?_⟩
    exact ⟨returnCommand_empty h hok hempty, returnCommand_empty h hok hempty⟩

end Sys2Proof.Machine
end

section
/-! Halts and interrupt lines (R452, R545): what they leave alone. -/

namespace Sys2Proof.Machine

/-- A change of a core's halt: nothing of its registers, its program counter or its lines. -/
def HaltChange (u : Core → Core) : Prop :=
  ∀ k, ∃ halted due idle from', u k = { k with haltedAt := halted, haltDue := due, wasIdle := idle, stepFrom := from' }

/-- An observation that a halt of core `c` does not reach. -/
structure HaltKeeps (c : Nat) {β : Type} (g : State → β) : Prop where
  lease : ∀ (s : State) (n : Nat) (l : Lease), g (s.setLease n l) = g s
  onCore : ∀ (s : State) (u : Core → Core), HaltChange u → g (s.onCore c u) = g s
  time : ∀ (s : State) (t : Nat), g (s.advanceTo t) = g s
  state : ∀ (s : State) (v : Nat), g (s.setReg R.core_STATE c v) = g s
  raise : ∀ (s : State) (code d : Nat), g (s.raise code d) = g s

namespace HaltKeeps

variable {c : Nat} {β : Type} {g : State → β} (k : HaltKeeps c g) (s : State)
include k

theorem coreState (v : Nat) : g (s.coreState c v) = g s := by
  simp only [State.coreState]
  split
  · rfl
  · split
    · rw [k.raise, k.state]
    · exact k.state s v

theorem haltCore (cause unit : Nat) : g (s.haltCore c cause unit) = g s := by
  have hleases : ∀ u : State, g (u.freezeLeases (c + 1)) = g u := fun u => by
    unfold State.freezeLeases
    refine each_keeps g _ (fun u n => ?_) u _
    split
    · exact k.lease u _ _
    · rfl
  have hstep : g (s.endStep c) = g s := by
    unfold State.endStep
    split
    · rfl
    · exact (k.onCore _ _ fun x => ⟨_, _, _, _, rfl⟩).trans (k.time s _)
  simp only [State.haltCore]
  rw [k.raise, k.coreState, hleases, k.onCore _ _ fun x => ⟨_, _, _, _, rfl⟩, hstep]

theorem haltIfDue : g (s.haltIfDue c) = g s := by
  unfold State.haltIfDue
  split
  · split
    · exact k.haltCore s _ _
    · rfl
  · rfl

theorem haltSoon (cause unit : Nat) : g (s.haltSoon c cause unit) = g s := by
  unfold State.haltSoon State.haltLater
  split
  · exact k.haltCore s _ _
  · exact k.onCore s _ fun x => ⟨_, _, _, _, rfl⟩

theorem wakeIdle : g (s.wakeIdle c) = g s := by
  unfold State.wakeIdle
  split
  · rw [k.haltIfDue, k.coreState]
  · rfl

end HaltKeeps

/-- A register that is neither a core's STATE nor written by events. -/
theorem haltKeeps_reg {r : Reg} (hevent : r.ref ∉ raiseRefs) (hstate : r.ref ≠ R.core_STATE.ref) (c j : Nat) :
    HaltKeeps c fun s => s.reg r j where
  lease := fun s n l => setLease_reg s n l r j
  onCore := fun s u _ => onCore_reg s c u r j
  time := fun s t => advanceTo_reg s t r j
  state := fun s v => reg_setReg_of_ref s hstate c j v
  raise := fun s code d => raise_reg s hevent code d j

/-- The STATE of the other core. -/
theorem haltKeeps_otherState {c d : Nat} (h : d % 2 ^ 24 ≠ c % 2 ^ 24) : HaltKeeps c fun s => s.reg R.core_STATE d where
  lease := fun s n l => setLease_reg s n l _ _
  onCore := fun s u _ => onCore_reg s c u _ _
  time := fun s t => advanceTo_reg s t _ _
  state := fun s v => reg_setReg_of_inst s _ h v
  raise := fun s code x => raise_reg s (by decide) code x _

/-- The lines of a core. -/
theorem haltKeeps_irqPend (d c : Nat) : HaltKeeps d fun s => (s.core c).irqPend where
  lease := fun s n l => by simp [State.core, State.setLease]
  onCore := fun s u hu => by
    obtain ⟨x0, x1, x2, x3, h0⟩ := hu s.dusk.core0
    obtain ⟨y0, y1, y2, y3, h1⟩ := hu s.dusk.core1
    unfold State.core State.onCore
    split
    · split
      · rw [h0]
      · rfl
    · split
      · rfl
      · rw [h1]
  time := fun s t => by simp [State.core]
  state := fun s v => rfl
  raise := fun s code x => by simp [State.core]

section
variable (s : State)

theorem raiseCoreLine_reg {r : Reg} (hevent : r.ref ∉ raiseRefs) (hstate : r.ref ≠ R.core_STATE.ref) (c n j : Nat) :
    (s.raiseCoreLine c n).reg r j = s.reg r j := by
  simp only [State.raiseCoreLine]
  rw [(haltKeeps_reg hevent hstate c j).wakeIdle]
  split
  · rfl
  · exact onCore_reg s c _ r j

theorem raiseLine_reg {r : Reg} (hevent : r.ref ∉ raiseRefs) (hstate : r.ref ≠ R.core_STATE.ref) (n j : Nat) :
    (s.raiseLine n).reg r j = s.reg r j := raiseCoreLine_reg s hevent hstate 0 n j

theorem testBit_putBit (v n : Nat) : (putBit v n true).testBit n = true := by
  unfold putBit
  rw [if_pos rfl]
  split
  · assumption
  · next h => rw [Nat.add_comm, Nat.testBit_two_pow_add_eq, Bool.eq_false_iff.mpr h]; rfl

/-- A raised line is pending. -/
theorem raiseCoreLine_pending (c n : Nat) : ((s.raiseCoreLine c n).core c).irqPend.testBit n = true := by
  simp only [State.raiseCoreLine]
  rw [(haltKeeps_irqPend c c).wakeIdle]
  split
  · assumption
  · rw [onCore_core]
    exact testBit_putBit _ n

theorem raiseLine_pending (n : Nat) : (s.raiseLine n).dusk.core0.irqPend.testBit n = true := raiseCoreLine_pending s 0 n

end

/-! ### Leases -/

@[simp] theorem lease_setLease_same (s : State) (n : Nat) (l : Lease) : (s.setLease n l).lease n = l := tget_tput_same _ _ _ _

theorem lease_setLease_ne (s : State) {n m : Nat} (h : m ≠ n) (l : Lease) : (s.setLease n l).lease m = s.lease m := tget_tput_ne _ h _ _

theorem lease_of_dusk {u s : State} (h : u.dusk = s.dusk) (n : Nat) : u.lease n = s.lease n := by
  simp only [State.lease, h]

theorem lease_onCore (s : State) (c : Nat) (u : Core → Core) (n : Nat) : (s.onCore c u).lease n = s.lease n := by
  unfold State.onCore
  split <;> rfl

/-- A lock that the core does not own keeps its lease when the core's leases freeze. -/
theorem lease_freezeLeases {s : State} {n who : Nat} (hn : s.reg R.lock_OWNER n ≠ who) : (s.freezeLeases who).lease n = s.lease n := by
  have h : (s.freezeLeases who).reg R.lock_OWNER n = s.reg R.lock_OWNER n ∧ (s.freezeLeases who).lease n = s.lease n := by
    unfold State.freezeLeases
    refine each_induct (fun u => u.reg R.lock_OWNER n = s.reg R.lock_OWNER n ∧ u.lease n = s.lease n) _ (fun u m hu => ?_) ⟨rfl, rfl⟩ _
    obtain ⟨hown, hlease⟩ := hu
    dsimp only
    split
    · next hm =>
      have hne : n ≠ m := fun e => hn (by rw [← hown, e, hm])
      exact ⟨(setLease_reg u m _ _ _).trans hown, (lease_setLease_ne u hne _).trans hlease⟩
    · exact ⟨hown, hlease⟩
  exact h.2

section
variable {s : State} {n c : Nat}

theorem lease_coreState (v : Nat) : (s.coreState c v).lease n = s.lease n := by
  simp only [State.coreState]
  split
  · rfl
  · split
    · exact lease_of_dusk (by simp) n
    · rfl

theorem lease_haltCore (hn : s.reg R.lock_OWNER n ≠ c + 1) (cause unit : Nat) : (s.haltCore c cause unit).lease n = s.lease n := by
  have hstep : ∀ {r : Reg}, (s.endStep c).reg r n = s.reg r n := fun {r} => by
    unfold State.endStep
    split
    · rfl
    · exact (onCore_reg _ _ _ _ _).trans (waitUntil_reg s _ _ _)
  have hlease : (s.endStep c).lease n = s.lease n := by
    unfold State.endStep
    split
    · rfl
    · rw [lease_onCore]
      exact lease_of_dusk (advanceTo_dusk s _) n
  simp only [State.haltCore]
  rw [lease_of_dusk (raise_dusk _ _ _), lease_coreState, lease_freezeLeases, lease_onCore, hlease]
  rw [onCore_reg, hstep]
  exact hn

theorem lease_raiseLine (hn : s.reg R.lock_OWNER n ≠ 1) (m : Nat) : (s.raiseLine m).lease n = s.lease n := by
  have hwake : ∀ u : State, u.reg R.lock_OWNER n ≠ 1 → (u.wakeIdle 0).lease n = u.lease n := fun u hu => by
    unfold State.wakeIdle State.haltIfDue
    split
    · have hown : (u.coreState 0 1).reg R.lock_OWNER n ≠ 0 + 1 := by
        rwa [(haltKeeps_reg (by decide) (by decide) 0 n).coreState]
      split
      · split
        · rw [lease_haltCore hown, lease_coreState]
        · rw [lease_coreState]
      · rw [lease_coreState]
    · rfl
  simp only [State.raiseLine, State.raiseCoreLine]
  split
  · exact hwake s hn
  · rw [hwake _ (by rwa [onCore_reg]), lease_onCore]

end

end Sys2Proof.Machine
end

section
/-! The lock unit (R457 to R459): what an acquire, a release and a renewal do. -/

namespace Sys2Proof.Machine

section
variable (s : State) (n : Nat)

/-! ### Rules of the lock operations -/

theorem lockFree_reg {r : Reg} (hevent : r.ref ∉ raiseRefs) (hstate : r.ref ≠ R.core_STATE.ref) (hown : r.ref ≠ R.lock_OWNER.ref)
    (hheld : r.ref ≠ R.lu_HELD.ref) (j : Nat) : (s.lockFree n).reg r j = s.reg r j := by
  simp only [State.lockFree]
  rw [raiseLine_reg _ hevent hstate, setLease_reg, reg_setReg_of_ref _ hheld, reg_setReg_of_ref _ hown]

@[simp] theorem lockFree_owner : (s.lockFree n).reg R.lock_OWNER n = 0 := by
  simp only [State.lockFree]
  rw [raiseLine_reg _ (by decide) (by decide), setLease_reg, reg_setReg_of_ref _ (by decide), reg_setReg_same]
  rfl

/-- A free lock has no lease: the line it raises may halt core 0, which freezes the leases of its own locks only. -/
theorem lockFree_lease : (s.lockFree n).lease n = {} := by
  simp only [State.lockFree]
  rw [lease_raiseLine, lease_setLease_same]
  rw [setLease_reg, reg_setReg_of_ref _ (by decide), reg_setReg_same]
  decide

theorem lockFree_pending : (s.lockFree n).dusk.core0.irqPend.testBit 6 = true := raiseLine_pending _ 6

/-- The timer of a lease runs while its owner is no halted core. -/
theorem runLease_of_not_halted {s : State} {n : Nat} (h : s.ownerHalted n = false) (span : Nat) :
    s.runLease n span = s.setLease n { span := span, ends := s.mono + span * 1000 } := by
  simp [State.runLease, h]

theorem runLease_of_halted {s : State} {n : Nat} (h : s.ownerHalted n = true) (span : Nat) :
    s.runLease n span = s.setLease n { span := span, frozen := some (span * 1000) } := by
  simp [State.runLease, h]

/-- The owner of a core's lock is halted exactly when that core is. -/
theorem ownerHalted_of_core {s : State} {c n : Nat} (hc : c < 2) (h : s.reg R.lock_OWNER n = c + 1) :
    s.ownerHalted n = (s.core c).haltedAt.isSome := by
  interval_cases c <;> simp [State.ownerHalted, h]

theorem ownerHalted_of_session {s : State} {k n : Nat} (h : s.reg R.lock_OWNER n = 16 + k) : s.ownerHalted n = false := by
  simp [State.ownerHalted, h]
  omega

end

/-! ### Who acts on a lock -/

theorem lockAct_owner {s : State} {c n : Nat} (hruns : s.coreRuns c = true) (h : s.reg R.lock_OWNER n = c + 1) (r : Reg)
    (act : State → State) : s.lockAct (.core c) n r act = act s := by
  simp [State.lockAct, hruns, h]

theorem lockAct_misuse {s : State} {c n : Nat} (hruns : s.coreRuns c = true) (h : s.reg R.lock_OWNER n ≠ c + 1) (r : Reg)
    (act : State → State) : s.lockAct (.core c) n r act = s.inc R.lu_MISUSE := by
  simp [State.lockAct, hruns, h]

theorem lockAct_session {s : State} {w : Who} {n : Nat} {r : Reg} (hw : s.mayWrite w r n = true)
    (h : ownerId (.session w) = some (s.reg R.lock_OWNER n)) (act : State → State) : s.lockAct (.session w) n r act = (act s).ok :=
  (writeAs_of_mayWrite hw rfl _).trans (if_pos h)

theorem lockAct_refused {s : State} {w : Who} {n : Nat} {r : Reg} (hw : s.mayWrite w r n = true)
    (h : ownerId (.session w) ≠ some (s.reg R.lock_OWNER n)) (act : State → State) : s.lockAct (.session w) n r act = s.stateError :=
  (writeAs_of_mayWrite hw rfl _).trans (if_neg h)

theorem ownerId_of_slot {w : Who} {k : Nat} (h : w.slot = some k) : ownerId (.session w) = some (16 + k) := by
  simp [ownerId, h]

/-! ### The commands -/

theorem exec_lockRelease {p : LockParty} {n : Nat} (h : p.wf n = true) (s : State) :
    exec (.lockRelease p n) s = .next (s.ran (s.lockAct p n R.lock_RELEASE fun s => s.lockFree n)) := command_next s h _

theorem exec_lockRenew {p : LockParty} {n : Nat} (h : p.wf n = true) (s : State) :
    exec (.lockRenew p n) s = .next (s.ran (s.lockAct p n R.lock_RENEW fun s => s.renewLease n)) := command_next s h _

theorem exec_lockClearSuspect {p : LockParty} {n : Nat} (h : p.wf n = true) (s : State) :
    exec (.lockClearSuspect p n) s = .next (s.ran (s.lockAct p n R.lock_CLEAR_SUSPECT fun s => s.lockTrust n)) := command_next s h _

theorem corePartyWf {c n : Nat} (hc : c < 2) (hn : n < 64) : (LockParty.core c).wf n = true := by
  simp [LockParty.wf, hc, hn]

/-- Settles O51: by who owns the lock; what a release leaves is read off its rules. -/
theorem onlyTheOwnerChangesALock : Obligations.OnlyTheOwnerChangesALock := by
  unfold Obligations.OnlyTheOwnerChangesALock
  refine ⟨fun c n s hc hn hruns hown => ?core, fun c n s hc hn hruns hown => ?misuse, fun w k n s hn hslot hown => ?session,
    fun w k n s hn hslot hown => ?refused, fun n s hn => ?free⟩
  case core =>
    have hwf := corePartyWf hc hn
    rw [exec_lockRelease hwf, exec_lockRenew hwf, exec_lockClearSuspect hwf]
    rw [lockAct_owner hruns hown R.lock_RELEASE, lockAct_owner hruns hown R.lock_RENEW, lockAct_owner hruns hown R.lock_CLEAR_SUSPECT]
    refine ⟨rfl, fun hhalt hspan => ?_, rfl⟩
    rw [State.renewLease, runLease_of_not_halted (by rw [ownerHalted_of_core hc hown, hhalt]; rfl), hspan]
  case misuse =>
    have hwf := corePartyWf hc hn
    rw [exec_lockRelease hwf, exec_lockRenew hwf, exec_lockClearSuspect hwf]
    rw [lockAct_misuse hruns hown R.lock_RELEASE, lockAct_misuse hruns hown R.lock_RENEW, lockAct_misuse hruns hown R.lock_CLEAR_SUSPECT]
    exact ⟨rfl, rfl, rfl⟩
  case session =>
    have hid : ownerId (.session w) = some (s.reg R.lock_OWNER n) := by rw [ownerId_of_slot hslot, hown]
    refine ⟨fun hw => ?_, fun hw hspan => ?_, fun hw => ?_⟩
    · rw [exec_lockRelease rfl, lockAct_session hw hid]
    · rw [exec_lockRenew rfl, lockAct_session hw hid, State.renewLease, runLease_of_not_halted (ownerHalted_of_session hown), hspan]
    · rw [exec_lockClearSuspect rfl, lockAct_session hw hid]
      rfl
  case refused =>
    have hid : ownerId (.session w) ≠ some (s.reg R.lock_OWNER n) := by
      rw [ownerId_of_slot hslot]
      exact fun e => hown (Option.some.inj e).symm
    refine ⟨fun hw => ?_, fun hw => ?_, fun hw => ?_⟩
    · rw [exec_lockRelease rfl, lockAct_refused hw hid]
    · rw [exec_lockRenew rfl, lockAct_refused hw hid]
    · rw [exec_lockClearSuspect rfl, lockAct_refused hw hid]
  case free =>
    exact ⟨lockFree_owner s n, lockFree_reg s n (by decide) (by decide) (by decide) (by decide) n, lockFree_lease s n, lockFree_pending s n⟩

end Sys2Proof.Machine
end

section
/-! Locks that are acquired, renewed and expire (R457 to R459, Table 15.8). -/

namespace Sys2Proof.Machine

/-! ### Acquires -/

theorem lockTake_held {s : State} {n : Nat} (h : s.reg R.lock_OWNER n ≠ 0) (who : Nat) :
    s.lockTake n who = (s.inc R.lu_CONTESTS, lockWord (s.reg R.lock_OWNER n) (s.reg R.lock_SUSPECT n) false) := by
  simp [State.lockTake, h]

/-- The lock unit's registers after a free lock has been taken. -/
def State.taken (s : State) (n who : Nat) : State :=
  ((s.setReg R.lock_OWNER n who).setReg R.lu_HELD 0 (putBit (s.reg R.lu_HELD) n true)).inc R.lu_ACQUIRES

theorem lockTake_free {s : State} {n : Nat} (h : s.reg R.lock_OWNER n = 0) (who : Nat) :
    s.lockTake n who = ((s.taken n who).startLease n, lockWord who (s.reg R.lock_SUSPECT n) true) := by
  simp only [State.lockTake, h, if_pos, State.taken, reg_inc_of_ref (r := R.lu_ACQUIRES) (r' := R.lock_SUSPECT) _ (by decide),
    reg_setReg_of_ref (r := R.lu_HELD) (r' := R.lock_SUSPECT) _ (by decide),
    reg_setReg_of_ref (r := R.lock_OWNER) (r' := R.lock_SUSPECT) _ (by decide)]

theorem taken_owner (s : State) (n : Nat) {who : Nat} (h : who < 256) : (s.taken n who).reg R.lock_OWNER n = who := by
  rw [State.taken, reg_inc_of_ref _ (by decide), reg_setReg_of_ref _ (by decide), reg_setReg_same]
  exact Nat.mod_eq_of_lt h

theorem taken_lease (s : State) (n who : Nat) : (s.taken n who).reg R.lock_LEASE n = s.reg R.lock_LEASE n := by
  rw [State.taken, reg_inc_of_ref _ (by decide), reg_setReg_of_ref _ (by decide), reg_setReg_of_ref _ (by decide)]

theorem lockWord_granted (who suspect : Nat) : lockWord who suspect true = who + suspect * 2 ^ 14 + 2 ^ 15 := by
  simp [lockWord, b2n]

theorem lockWord_held (who suspect : Nat) : lockWord who suspect false = who + suspect * 2 ^ 14 := by
  simp [lockWord, b2n]

/-- A lease that starts leaves the registers. -/
theorem startLease_reg (s : State) (n : Nat) (r : Reg) (j : Nat) : (s.startLease n).reg r j = s.reg r j := setLease_reg s n _ r j

theorem answerWith_lease (s : State) (l : List Byte) (n : Nat) : (s.answerWith l).lease n = s.lease n := rfl

theorem exec_lockAcquire {p : LockParty} {n : Nat} (h : p.wf n = true) (s : State) :
    exec (.lockAcquire p n) s = .next (s.ran (opLockAcquire p n s)) := command_next s h _

theorem lockAcquire_core {s : State} {c : Nat} (hruns : s.coreRuns c = true) (n : Nat) :
    opLockAcquire (.core c) n s = (s.lockTake n (c + 1)).1.answerWith (leBytes 2 (s.lockTake n (c + 1)).2) := by
  simp [opLockAcquire, hruns]

/-- A read that the checks of Table 14.8 permit. -/
theorem readAs_of_readable {s : State} {w : Who} {r : ObjRef} {row : Row} (hup : s.dictAnswers w = true) (hrow : findRow r = some row)
    (hacc : row.acc.readable = true) (hopen : s.readsClosed w r.index = false) (k : State → Row → State) : s.readAs w r k = k s row := by
  simp [State.readAs, hup, hrow, hacc, hopen]

/-- ACQUIRE of every lock is a readable object (Table 15.8). -/
theorem acquire_readable {n : Nat} (hn : n < 64) : ∃ row, findRow ⟨0x8101, n, 2⟩ = some row ∧ row.acc.readable = true := by
  have h : ∀ n < 64, ((findRow ⟨0x8101, n, 2⟩).any fun row => row.acc.readable) = true := by decide +kernel
  cases hrow : findRow ⟨0x8101, n, 2⟩ with
  | none => simpa [hrow] using h n hn
  | some row => exact ⟨row, rfl, by simpa [hrow] using h n hn⟩

theorem lockAcquire_session {s : State} {w : Who} {k n : Nat} (hn : n < 64) (hslot : w.slot = some k) (hup : s.dictAnswers w = true)
    (hopen : s.readsClosed w 0x8101 = false) :
    opLockAcquire (.session w) n s = (s.lockTake n (16 + k)).1.answerWith (leBytes 2 (s.lockTake n (16 + k)).2) := by
  obtain ⟨row, hrow, hacc⟩ := acquire_readable hn
  rw [opLockAcquire, readAs_of_readable hup hrow hacc hopen, ownerId_of_slot hslot]

/-! ### Forced releases -/

section
variable (s : State) (n : Nat)

theorem lockForce_reg {r : Reg} (hevent : r.ref ∉ raiseRefs) (hstate : r.ref ≠ R.core_STATE.ref) (hown : r.ref ≠ R.lock_OWNER.ref)
    (hheld : r.ref ≠ R.lu_HELD.ref) (cause j : Nat) : (s.lockForce n cause).reg r j =
      (((s.setReg R.lock_SUSPECT n 1).setReg R.lu_SUSPECT 0 (putBit (s.reg R.lu_SUSPECT) n true)).inc R.lock_FORCED n).reg r j := by
  simp only [State.lockForce]
  rw [raise_reg _ hevent, lockFree_reg _ n hevent hstate hown hheld]

theorem lockForce_owner (cause : Nat) : (s.lockForce n cause).reg R.lock_OWNER n = 0 := by
  simp only [State.lockForce]
  rw [raise_reg _ (by decide), lockFree_owner]

theorem lockForce_suspect (cause : Nat) : (s.lockForce n cause).reg R.lock_SUSPECT n = 1 := by
  rw [lockForce_reg s n (by decide) (by decide) (by decide) (by decide), reg_inc_of_ref _ (by decide), reg_setReg_of_ref _ (by decide),
    reg_setReg_same]
  rfl

theorem lockForce_forced (cause : Nat) : (s.lockForce n cause).reg R.lock_FORCED n = (s.reg R.lock_FORCED n + 1) % 2 ^ 32 := by
  rw [lockForce_reg s n (by decide) (by decide) (by decide) (by decide), reg_inc_same, reg_setReg_of_ref _ (by decide),
    reg_setReg_of_ref _ (by decide)]

end

theorem exec_leaseExpiry {n : Nat} (hn : n < 64) (t : Nat) (s : State) : exec (.leaseExpiry t n) s = .next (s.ran (opLeaseExpiry t n s)) :=
  command_next s (decide_eq_true hn) _

/-- Settles O52: a free lock is taken, a held one is not; a lease runs unless its core is halted; one that has run out is a forced release. -/
theorem locksAreAcquiredAndExpire : Obligations.LocksAreAcquiredAndExpire := by
  unfold Obligations.LocksAreAcquiredAndExpire
  refine ⟨fun c n s hc hn hruns hfree => ?core, fun p c n s hp hc hn hruns hheld => ?contest,
    fun w k n s hn hslot hk hup hopen hfree => ?session, fun t n s hn hown hfrozen hends => ?expiry,
    fun c n s hc hn hruns hown => ?renew, fun w k n s hn hslot hown hw => ?renewSession, fun w n s hn hslot => ?slotless⟩
  case core =>
    have howner := taken_owner s n (who := c + 1) (by omega)
    refine ⟨_, exec_lockAcquire (corePartyWf hc hn) s, ?_, ?_, ?_⟩
    · rw [ran_reg _ _ (by decide), lockAcquire_core hruns, lockTake_free hfree, answerWith_reg, startLease_reg, howner]
    · rw [lease_of_dusk (ran_dusk _ _), lockAcquire_core hruns, lockTake_free hfree, answerWith_lease]
      rw [State.startLease, State.runLease, ownerHalted_of_core hc howner, lease_setLease_same, taken_lease]
      cases hhalt : (s.core c).haltedAt with
      | none => exact if_neg (by rw [show (s.taken n (c + 1)).core c = s.core c from rfl, hhalt]; decide)
      | some at' => exact if_pos (by rw [show (s.taken n (c + 1)).core c = s.core c from rfl, hhalt]; rfl)
    · rw [ran_reply, lockAcquire_core hruns, lockTake_free hfree, lockWord_granted]
      rfl
  case contest =>
    subst hp
    rw [exec_lockAcquire (corePartyWf hc hn), lockAcquire_core hruns, lockTake_held hheld, lockWord_held]
  case session =>
    have howner := taken_owner s n (who := 16 + k) (by omega)
    refine ⟨_, exec_lockAcquire rfl s, ?_, ?_, ?_⟩
    · rw [ran_reg _ _ (by decide), lockAcquire_session hn hslot hup hopen, lockTake_free hfree, answerWith_reg, startLease_reg, howner]
    · rw [lease_of_dusk (ran_dusk _ _), lockAcquire_session hn hslot hup hopen, lockTake_free hfree, answerWith_lease]
      rw [State.startLease, runLease_of_not_halted (ownerHalted_of_session howner), lease_setLease_same, taken_lease]
      rfl
    · rw [ran_reply, lockAcquire_session hn hslot hup hopen, lockTake_free hfree, lockWord_granted]
      rfl
  case expiry =>
    have hop : opLeaseExpiry t n s = (s.advanceTo t).lockForce n 1 := by
      rw [advanceTo_reg] at hown
      exact if_pos (by simp [State.on, hown, hfrozen, hends])
    refine ⟨_, exec_leaseExpiry hn t s, ?_, ?_, ?_⟩
    · rw [ran_reg _ _ (by decide), hop, lockForce_owner]
    · rw [ran_reg _ _ (by decide), hop, lockForce_suspect]
    · rw [ran_reg _ _ (by decide), hop, lockForce_forced, advanceTo_reg]
  case renew =>
    rw [exec_lockRenew (corePartyWf hc hn), lockAct_owner hruns hown, State.renewLease]
    refine ⟨fun hhalt => ?_, fun hhalt => ?_⟩
    · rw [runLease_of_not_halted (by rw [ownerHalted_of_core hc hown, hhalt]; rfl)]
    · rw [runLease_of_halted (by rw [ownerHalted_of_core hc hown]; exact Option.isSome_iff_ne_none.mpr hhalt)]
  case renewSession =>
    have hid : ownerId (.session w) = some (s.reg R.lock_OWNER n) := by rw [ownerId_of_slot hslot, hown]
    rw [exec_lockRenew rfl, lockAct_session hw hid, State.renewLease, runLease_of_not_halted (ownerHalted_of_session hown)]
  case slotless =>
    have hid : ownerId (.session w) ≠ some (s.reg R.lock_OWNER n) := by simp [ownerId, hslot]
    refine ⟨fun hw => ?_, fun hw => ?_, fun hw => ?_⟩
    · rw [exec_lockRelease rfl, lockAct_refused hw hid]
    · rw [exec_lockRenew rfl, lockAct_refused hw hid]
    · rw [exec_lockClearSuspect rfl, lockAct_refused hw hid]

end Sys2Proof.Machine
end

section
/-! Interrupts, timers, watchdogs and watch programs of the Dusk cores (R452, R455, R460 to R462, Table 15.5). -/

namespace Sys2Proof.Machine

/-! ### A steward that restarts leaves core 1 STOPPED (R493) -/

section
variable (s : State)

/-- Freeing a lock reaches core 0 alone. -/
theorem lockFree_core1State (n : Nat) : (s.lockFree n).reg R.core_STATE 1 = s.reg R.core_STATE 1 := by
  have hwake : ∀ u : State, (u.raiseLine 6).reg R.core_STATE 1 = u.reg R.core_STATE 1 := fun u => by
    simp only [State.raiseLine, State.raiseCoreLine]
    rw [(haltKeeps_otherState (c := 0) (d := 1) (by decide)).wakeIdle]
    split
    · rfl
    · exact onCore_reg u 0 _ _ _
  simp only [State.lockFree]
  rw [hwake, setLease_reg, reg_setReg_of_ref _ (by decide), reg_setReg_of_ref _ (by decide)]

theorem lockForceAll_core1State (who cause : Nat) : (s.lockForceAll who cause).reg R.core_STATE 1 = s.reg R.core_STATE 1 := by
  unfold State.lockForceAll
  refine each_keeps (fun u => u.reg R.core_STATE 1) _ (fun u n => ?_) s _
  split
  · simp only [State.lockForce]
    rw [raise_reg _ (by decide), lockFree_core1State, reg_inc_of_ref _ (by decide), reg_setReg_of_ref _ (by decide),
      reg_setReg_of_ref _ (by decide)]
  · rfl

theorem closeSession_core1State (n cause : Nat) : (s.closeSession n cause).reg R.core_STATE 1 = s.reg R.core_STATE 1 := by
  have hown : ∀ u : State, (if u.reg R.stw_LOCK_OWNER = u.reg R.ses_ID n then u.setWriteLock n 0 else u).reg R.core_STATE 1 =
      u.reg R.core_STATE 1 := fun u => by
    split
    · rw [State.setWriteLock, raise_reg _ (by decide), reg_setReg_of_ref _ (by decide)]
    · rfl
  unfold State.closeSession
  split
  · rfl
  · dsimp only
    rw [raise_reg _ (by decide), reg_setReg_of_ref _ (by decide), onSess_reg, reg_setReg_of_ref _ (by decide),
      reg_setReg_of_ref _ (by decide), reg_setReg_of_ref _ (by decide), hown, lockForceAll_core1State]

/-- What the restart of the steward leaves of a register but BUSY is what its sessions leave. -/
theorem dropSteward_reg_eq {r : Reg} (h : r.ref ≠ R.adm_BUSY.ref) (j : Nat) : s.dropSteward.reg r j =
    (({ s with dusk := { s.dusk with mbx := 0, mbxReply := none } } : State).each (List.range 56) fun s n => s.closeSession n 4).reg r j := by
  unfold State.dropSteward
  dsimp only
  generalize (State.each _ (List.range 56) _) = u
  exact reg_setReg_of_ref _ h 0 j _

theorem dropSteward_core1State : s.dropSteward.reg R.core_STATE 1 = s.reg R.core_STATE 1 := by
  rw [dropSteward_reg_eq s (by decide), each_keeps (fun u => u.reg R.core_STATE 1) _ fun u n => closeSession_core1State u n 4]
  rfl

/-- A restart of the steward keeps the registers that closing sessions does not reach, but BUSY. -/
theorem dropSteward_reg {r : Reg} (h : r.ref ∉ raiseRefs) (h2 : r.ref ∉ closeRefs) (h3 : r.ref ≠ R.adm_BUSY.ref) (j : Nat) :
    s.dropSteward.reg r j = s.reg r j := by
  rw [dropSteward_reg_eq s h3, each_keeps (fun u => u.reg r j) _ fun u n => (closeKeeps_reg h h2 j).closeSession u n 4]
  rfl

theorem stewardRestart_reg {r : Reg} (h : r.ref ∉ raiseRefs) (h2 : r.ref ∉ closeRefs) (h3 : r.ref ≠ R.adm_BUSY.ref) (cause j : Nat) :
    (s.stewardRestart cause).reg r j = s.reg r j := by
  have hcore : r.ref ≠ R.core_STATE.ref := fun e => h2 (by rw [e]; decide)
  have hdrop : ((((s.lockForceAll 2 0).onCore 1 fun k => { prog := k.prog }).setReg R.core_STATE 1 0).dropSteward).reg r j = s.reg r j := by
    rw [dropSteward_reg _ h h2 h3, reg_setReg_of_ref _ hcore, onCore_reg, (closeKeeps_reg h h2 j).lockForceAll]
  unfold State.stewardRestart
  dsimp only
  generalize State.dropSteward _ = v at hdrop ⊢
  split
  · exact (raise_reg _ h _ _ _).trans hdrop
  · exact hdrop

theorem stewardRestart_stopped (cause : Nat) : (s.stewardRestart cause).reg R.core_STATE 1 = 0 := by
  have hdrop : ((((s.lockForceAll 2 0).onCore 1 fun k => { prog := k.prog }).setReg R.core_STATE 1 0).dropSteward).reg R.core_STATE 1 = 0 := by
    rw [dropSteward_core1State, reg_setReg_same]
    rfl
  unfold State.stewardRestart
  dsimp only
  generalize State.dropSteward _ = v at hdrop ⊢
  split
  · exact (raise_reg _ (by decide) _ _ _).trans hdrop
  · exact hdrop

/-! ### Core 0 and its watch program (R460) -/

theorem coreState_reg {r : Reg} (h : r.ref ∉ raiseRefs) (hstate : r.ref ≠ R.core_STATE.ref) (c v j : Nat) :
    (s.coreState c v).reg r j = s.reg r j := (haltKeeps_reg h hstate c j).coreState s v

theorem coreState_same (c : Nat) {v : Nat} (hv : v < 2 ^ 8) : (s.coreState c v).reg R.core_STATE c = v := by
  rw [coreState_state, Nat.mod_eq_of_lt hv, ite_self]

@[simp] theorem dropMailbox_reg (r : Reg) (j : Nat) : s.dropMailbox.reg r j = s.reg r j := rfl

theorem resetCore0_reg {r : Reg} (h : r.ref ∉ raiseRefs) (h2 : r.ref ∉ closeRefs) (j : Nat) : s.resetCore0.reg r j = s.reg r j := by
  have hcore : r.ref ≠ R.core_STATE.ref := fun e => h2 (by rw [e]; decide)
  simp only [State.resetCore0]
  rw [coreState_reg _ h hcore, dropMailbox_reg, onCore_reg, (closeKeeps_reg h h2 j).lockForceAll]

theorem resetCore0_stopped : s.resetCore0.reg R.core_STATE 0 = 0 := coreState_same _ 0 (by decide)

/-- The state of core 0 with an image's program in its RAM, as it starts. -/
def State.imageStarted (s : State) (l : List Byte) : State :=
  let prog := ((List.range (leAt l 6 2)).map fun i => (i, withParity 32 (leAt l (16 + 4 * i) 4))).filter fun e => e.2 != 0
  ((s.setReg R.wp_LOAD_RESULT 0 (watchCheck l)).dropMailbox.onCore 0 fun _ => { prog := prog, words := leAt l 6 2 }).startCore 0 (leAt l 8 2)

theorem runImage_refused {l : List Byte} (h : watchCheck l ≠ 0) : s.runImage l = s.setReg R.wp_LOAD_RESULT 0 (watchCheck l) := by
  simp [State.runImage, h]

theorem runImage_starts {l : List Byte} (h : watchCheck l = 0) :
    s.runImage l = if s.power.fifo.isEmpty then s.imageStarted l else (s.imageStarted l).raiseLine 0 := by
  have hpower : (s.imageStarted l).power = s.power := by
    simp only [State.imageStarted, State.startCore, State.coreState]
    split
    · simp [State.onCore, State.dropMailbox]
    · simp [State.onCore, State.dropMailbox]
  simp only [State.runImage, h, ne_eq, not_true_eq_false, if_false]
  rw [show ((s.setReg R.wp_LOAD_RESULT 0 0).dropMailbox.onCore 0 _).startCore 0 (leAt l 8 2) = s.imageStarted l by
    simp only [State.imageStarted, h]]
  rw [hpower]

theorem imageStarted_reg {r : Reg} (h : r.ref ∉ raiseRefs) (hstate : r.ref ≠ R.core_STATE.ref) (l : List Byte) (j : Nat) :
    (s.imageStarted l).reg r j = (s.setReg R.wp_LOAD_RESULT 0 (watchCheck l)).reg r j := by
  simp only [State.imageStarted, State.startCore]
  rw [coreState_reg _ h hstate, onCore_reg, onCore_reg, dropMailbox_reg]

/-- An image that is checked writes its result, whether it runs or not. -/
theorem runImage_reg {r : Reg} (h : r.ref ∉ raiseRefs) (hstate : r.ref ≠ R.core_STATE.ref) (l : List Byte) (j : Nat) :
    (s.runImage l).reg r j = (s.setReg R.wp_LOAD_RESULT 0 (watchCheck l)).reg r j := by
  by_cases hgood : watchCheck l = 0
  · rw [runImage_starts s hgood]
    split
    · exact imageStarted_reg s h hstate l j
    · rw [raiseLine_reg _ h hstate, imageStarted_reg s h hstate]
  · rw [runImage_refused s hgood]

theorem runImage_result (l : List Byte) : (s.runImage l).reg R.wp_LOAD_RESULT = watchCheck l % 2 ^ R.wp_LOAD_RESULT.bits := by
  rw [runImage_reg s (by decide) (by decide), reg_setReg_same]

theorem imageStarted_runs (l : List Byte) : (s.imageStarted l).reg R.core_STATE 0 = 1 := coreState_same _ 0 (by decide)

theorem coreState_core (c v d : Nat) : (s.coreState c v).core d = s.core d := by
  simp only [State.coreState]
  split
  · rfl
  · split
    · simp [State.core]
    · rfl

/-- A line that is raised leaves a core that is not IDLE running on. -/
theorem raiseLine_of_runs {s : State} (h : s.reg R.core_STATE 0 = 1) (n : Nat) :
    (s.raiseLine n).reg R.core_STATE 0 = 1 ∧ (s.raiseLine n).dusk.core0.pc = s.dusk.core0.pc ∧
      (s.raiseLine n).dusk.core0.words = s.dusk.core0.words := by
  have hwake : ∀ u : State, u.reg R.core_STATE 0 = 1 → u.wakeIdle 0 = u := fun u hu => by
    rw [State.wakeIdle, if_neg (by simp [hu])]
  simp only [State.raiseLine, State.raiseCoreLine]
  split
  · rw [hwake s h]
    exact ⟨h, rfl, rfl⟩
  · rw [hwake _ (by rwa [onCore_reg])]
    exact ⟨(onCore_reg s 0 _ _ _).trans h, rfl, rfl⟩

/-- A good image runs from its ENTRY. -/
theorem runImage_runs {l : List Byte} (h : watchCheck l = 0) :
    (s.runImage l).reg R.core_STATE 0 = 1 ∧ (s.runImage l).dusk.core0.pc = leAt l 8 2 ∧ (s.runImage l).dusk.core0.words = leAt l 6 2 := by
  have hcore : (s.imageStarted l).dusk.core0.pc = leAt l 8 2 ∧ (s.imageStarted l).dusk.core0.words = leAt l 6 2 := by
    have he : (s.imageStarted l).dusk.core0 = (s.imageStarted l).core 0 := rfl
    rw [he]
    simp only [State.imageStarted, State.startCore, coreState_core, onCore_core, and_self]
  rw [runImage_starts s h]
  split
  · exact ⟨imageStarted_runs s l, hcore.1, hcore.2⟩
  · obtain ⟨hruns, hpc, hwords⟩ := raiseLine_of_runs (imageStarted_runs s l) 0
    exact ⟨hruns, hpc.trans hcore.1, hwords.trans hcore.2⟩

/-! ### Watchdogs (R455) -/

theorem watchdogExpire_core1 (cause : Nat) : s.watchdogExpire 1 cause =
    ((s.inc R.core_WDT_EXPIRIES 1).raise 0x8002 (1 + cause * 256)).stewardRestart 1 := by
  simp [State.watchdogExpire]

/-- Core 0 as its watchdog resets it, with the expiry noted. -/
def State.watchdogReset (s : State) (cause : Nat) : State :=
  let u := (s.inc R.core_WDT_EXPIRIES 0).raise 0x8002 (0 + cause * 256)
  ({ u with dusk := { u.dusk with expiries := u.mono :: u.recentExpiries } } : State).resetCore0

theorem watchdogReset_reg {r : Reg} (h : r.ref ∉ raiseRefs) (h2 : r.ref ∉ closeRefs) (cause j : Nat) :
    (s.watchdogReset cause).reg r j = (s.inc R.core_WDT_EXPIRIES 0).reg r j := by
  simp only [State.watchdogReset]
  rw [resetCore0_reg _ h h2]
  exact raise_reg _ h _ _ _

theorem watchdogReset_stopped (cause : Nat) : (s.watchdogReset cause).reg R.core_STATE 0 = 0 := resetCore0_stopped _

theorem closeKeeps_stored : CloseKeeps fun s => s.dusk.stored where
  steward _ _ := rfl
  lease _ _ _ := rfl
  onCore s c u _ := by unfold State.onCore; split <;> rfl
  time s t := by rw [advanceTo_dusk]
  reg _ _ _ _ _ := rfl
  raise s c d := by rw [raise_dusk]

theorem resetCore0_stored : s.resetCore0.dusk.stored = s.dusk.stored := by
  have hforce := closeKeeps_stored.lockForceAll s 1 0
  unfold State.resetCore0
  dsimp only
  generalize State.lockForceAll s 1 0 = v at hforce ⊢
  simp only [State.coreState]
  split
  · exact hforce
  · rw [if_pos trivial, raise_dusk]
    exact hforce

theorem watchdogReset_stored (cause : Nat) : (s.watchdogReset cause).dusk.stored = s.dusk.stored := by
  simp only [State.watchdogReset, resetCore0_stored, raise_dusk]
  rfl

/-- What an expiry of core 0's watchdog does after the reset: a third one within 10 s only an event, else the stored program may start again. -/
theorem watchdogExpire_core0 (cause : Nat) : s.watchdogExpire 0 cause = (s.watchdogReset cause).raise 0x8004 0 ∨
    s.watchdogExpire 0 cause = s.watchdogReset cause ∨
    ∃ l, s.dusk.stored = some l ∧ s.watchdogExpire 0 cause = ((s.watchdogReset cause).runImage l).inc R.wp_RESTARTS := by
  have hstored := watchdogReset_stored s cause
  unfold State.watchdogExpire
  dsimp only
  rw [if_pos rfl]
  simp only [State.watchdogReset] at hstored ⊢
  generalize State.resetCore0 _ = v at hstored ⊢
  split
  · exact .inl rfl
  · split
    · next l hl =>
      split
      · exact .inr (.inr ⟨l, by rw [← hstored, hl], rfl⟩)
      · exact .inr (.inl rfl)
    · exact .inr (.inl rfl)

theorem watchdogExpire_expiries {c : Nat} (hc : c < 2) (cause : Nat) :
    (s.watchdogExpire c cause).reg R.core_WDT_EXPIRIES c = (s.reg R.core_WDT_EXPIRIES c + 1) % 2 ^ R.core_WDT_EXPIRIES.bits := by
  interval_cases c
  · have hreset : (s.watchdogReset cause).reg R.core_WDT_EXPIRIES 0 = (s.reg R.core_WDT_EXPIRIES 0 + 1) % 2 ^ R.core_WDT_EXPIRIES.bits := by
      rw [watchdogReset_reg s (by decide) (by decide), reg_inc_same]
    rcases watchdogExpire_core0 s cause with h | h | ⟨l, -, h⟩
    · rw [h, raise_reg _ (by decide), hreset]
    · rw [h, hreset]
    · rw [h, reg_inc_of_ref _ (by decide), runImage_reg _ (by decide) (by decide), reg_setReg_of_ref _ (by decide), hreset]
  · rw [watchdogExpire_core1, stewardRestart_reg _ (by decide) (by decide) (by decide), raise_reg _ (by decide), reg_inc_same]

/-- A core whose watchdog expires is STOPPED, unless a stored program starts again. -/
theorem watchdogExpire_stopped {c : Nat} (hc : c < 2) (h : c = 1 ∨ s.dusk.stored = none) (cause : Nat) :
    (s.watchdogExpire c cause).reg R.core_STATE c = 0 := by
  interval_cases c
  · have hstored : s.dusk.stored = none := h.resolve_left (by decide)
    rcases watchdogExpire_core0 s cause with h | h | ⟨l, hl, -⟩
    · rw [h, raise_reg _ (by decide), watchdogReset_stopped]
    · rw [h, watchdogReset_stopped]
    · rw [hstored] at hl
      cases hl
  · rw [watchdogExpire_core1, stewardRestart_stopped]

end

/-! ### The commands -/

theorem exec_interruptEntry {c : Nat} (hc : c < 2) (s : State) : exec (.interruptEntry c) s = .next (s.ran (opInterruptEntry c s)) :=
  command_next s (decide_eq_true hc) _

theorem exec_watchdogExpiry {c : Nat} (hc : c < 2) (t : Nat) (s : State) :
    exec (.watchdogExpiry t c) s = .next (s.ran (opWatchdogExpiry t c s)) := command_next s (decide_eq_true hc) _

theorem exec_watchStart (w : Who) (s : State) : exec (.watchStart w) s = .next (s.ran (opWatchStart w s)) := command_next s rfl _

theorem exec_watchStop (w : Who) (s : State) : exec (.watchStop w) s = .next (s.ran (opWatchStop w s)) := command_next s rfl _

theorem exec_watchStore (w : Who) (s : State) : exec (.watchStore w) s = .next (s.ran (opWatchStore w s)) := command_next s rfl _

theorem exec_mbxGo (addr : Nat) (s : State) : exec (.mbxGo addr) s = .next (s.ran (opMbxGo addr s)) := command_next s rfl _

/-- A pending enabled line at a boundary is entered, while the call stack has room. -/
theorem interruptEntry_enters {s : State} {c n : Nat} (hruns : s.coreRuns c = true) (hie : (s.core c).ie = true)
    (hboundary : (s.core c).atBoundary = true) (hline : (s.core c).lowestLine = some n) (hroom : (s.core c).stack.length < 8) :
    opInterruptEntry c s =
      ((((s.onCore c fun x => { x.landed with stack := x.landed.pc :: x.landed.stack, ie := false, pc := 4 * n }).add R.core_CYCLES c 4).peak
        R.core_IRQ_LATENCY_MAX c (s.mono - nth (s.core c).pendSince n 0 + 10)).haltIfDue c) := by
  simp [opInterruptEntry, hruns, hie, hboundary, hline, Nat.not_le.mpr hroom]

/-- A kick with the key inside the window restarts the watchdog. -/
theorem kick_inWindow {s : State} {c : Nat} (hrunning : (s.core c).haltedAt = none)
    (hopen : s.reg R.core_WDT_OPEN c * 1000 ≤ s.mono - (s.core c).kickAt)
    (hclose : s.mono - (s.core c).kickAt < s.reg R.core_WDT_CLOSE c * 1000) :
    s.kick c 0x5AC3 = (s.onCore c fun k => { k with kickAt := s.mono, warned := false }).inc R.core_KICKS c := by
  simp [State.kick, hrunning, Nat.not_lt.mpr hopen, Nat.not_le.mpr hclose]

/-- A request that the steward takes waits in the WATCH queue, and is counted. -/
theorem mailboxGo_takes {s : State} (hfree : s.dusk.mbx ≠ 1) (hopen : s.mailboxOpen = true) (addr : Nat) :
    (s.mailboxGo addr).dusk.mbx = 1 ∧ (s.mailboxGo addr).dusk.mbxAddr = addr % 2 ^ 16 ∧ (s.mailboxGo addr).dusk.mbxReply = none ∧
      (s.mailboxGo addr).reg R.wp_MBX_REQUESTS = (s.reg R.wp_MBX_REQUESTS + 1) % 2 ^ 32 := by
  simp only [State.mailboxGo, hfree, hopen, Bool.not_true, Bool.false_eq_true, or_self, if_false]
  refine ⟨by rw [peak_dusk, inc_dusk], by rw [peak_dusk, inc_dusk], by rw [peak_dusk, inc_dusk], ?_⟩
  rw [reg_peak_of_ref _ (by decide), reg_inc_same]
  rfl

theorem mailboxGo_refuses {s : State} (h : s.dusk.mbx = 1 ∨ s.mailboxOpen = false) (addr : Nat) :
    s.mailboxGo addr = s.inc R.wp_MBX_REFUSED := if_pos (by simpa using h)

/-- Settles O50: each command by its guard, and what its effect writes. -/
theorem interruptsTimersAndWatchPrograms : Obligations.InterruptsTimersAndWatchPrograms := by
  unfold Obligations.InterruptsTimersAndWatchPrograms
  refine ⟨fun c n k s hc hk hruns hie hboundary hline hroom => ?entry, fun t k s hk htimer hdue hwatched => ?timer,
    fun t c x s hc hruns hhalt hx hopen hclose => ?kick, fun t c s hc hwatched hwarned hdue => ?warning,
    fun t c s hc hwatched hdue => ?expiry, fun w s hw hstill => ?start, fun w s hw => ?stop, fun w s hw himage => ?store,
    fun data s hruns hroom => ?event, fun addr s hruns hshut => ?refuse, fun addr s hruns hfree hopen => ?request, fun l s hreply => ?answer⟩
  case entry =>
    subst hk
    rw [exec_interruptEntry hc, interruptEntry_enters hruns hie hboundary hline hroom]
  case timer =>
    subst hk
    refine (command_next s rfl _).trans ?_
    rw [opTimerExpiry, if_pos ⟨htimer, hdue, .inl hwatched⟩]
  case kick =>
    subst hx
    refine (command_next s (decide_eq_true hc) _).trans ?_
    rw [opWatchdogKick, if_pos hruns, kick_inWindow hhalt hopen hclose]
  case warning =>
    refine (command_next s (decide_eq_true hc) _).trans ?_
    rw [opWatchdogWarning, if_pos ⟨hwatched, by simp [hwarned], hdue⟩]
  case expiry =>
    have hop : opWatchdogExpiry t c s = (s.advanceTo t).watchdogExpire c 0 := if_pos ⟨hwatched, hdue⟩
    refine ⟨_, exec_watchdogExpiry hc t s, ?_, fun h => ?_, by rw [hop]⟩
    · rw [ran_reg _ _ (by decide), hop, watchdogExpire_expiries _ hc, advanceTo_reg]
    · rw [ran_reg _ _ (by decide), hop, watchdogExpire_stopped _ hc (by rwa [advanceTo_dusk])]
  case start =>
    have hop : opWatchStart w s = (s.runImage (s.dom R.wp_IMAGE)).ok := by
      rw [opWatchStart, writeAs_of_mayWrite hw rfl, if_neg (by simp [hstill])]
    refine ⟨_, exec_watchStart w s, ?_, fun hgood => ?_, ?_, by rw [hop]⟩
    · rw [ran_reg _ _ (by decide), hop, ok_reg, runImage_result]
    · obtain ⟨hruns, hpc, hwords⟩ := runImage_runs s hgood
      refine ⟨?_, by rw [ran_dusk, hop]; exact hpc, by rw [ran_dusk, hop]; exact hwords⟩
      rw [State.coreRuns, ran_reg _ _ (by decide), hop]
      exact beq_iff_eq.mpr hruns
    · rw [ran_reply, hop]
      rfl
  case stop =>
    have hop : opWatchStop w s = s.resetCore0.ok := by rw [opWatchStop, writeAs_of_mayWrite hw rfl]
    refine ⟨_, exec_watchStop w s, ?_, ?_, by rw [hop]⟩
    · rw [ran_reg _ _ (by decide), hop, ok_reg, resetCore0_stopped]
    · rw [ran_reply, hop]
      rfl
  case store =>
    have hfull : (s.dom R.wp_IMAGE).isEmpty = false := by simpa using himage
    rw [exec_watchStore, opWatchStore, writeAs_of_mayWrite hw rfl]
    simp only [hfull, Bool.false_eq_true, if_false]
  case event =>
    refine (command_next s rfl _).trans ?_
    rw [opRaiseData, if_pos hruns, State.raiseFromWatch, if_neg (Nat.not_le.mpr hroom)]
  case refuse => rw [exec_mbxGo, opMbxGo, if_pos hruns, mailboxGo_refuses hshut]
  case request =>
    obtain ⟨hmbx, haddr, hreply, hcount⟩ := mailboxGo_takes hfree hopen addr
    have hop : opMbxGo addr s = s.mailboxGo addr := if_pos hruns
    refine ⟨_, exec_mbxGo addr s, ?_, ?_, ?_, ?_⟩
    · rw [ran_dusk, hop, hmbx]
    · rw [ran_dusk, hop, haddr]
    · rw [ran_dusk, hop, hreply]
    · rw [ran_reg _ _ (by decide), hop, hcount]
  case answer =>
    refine (command_next s rfl _).trans ?_
    rw [opMailboxAnswer, hreply]

end Sys2Proof.Machine
end

section
/-! The event log (R509 to R513): what raising an event and writing a record leave of it. -/

namespace Sys2Proof.Machine

/-! ### What raising an event leaves of the log -/

/-- The written part of the log: all but its queue and its drops. -/
def LogState.book (l : LogState) : LogState := { l with queue := [], dropCount := 0, dropStart := none }

theorem raiseX_book (s : State) (c d x : Nat) : (s.raiseX c d x).log.book = s.log.book := by
  simp only [State.raiseX, State.queueRecord]
  split
  · simp [State.countDrop, State.countRaise, LogState.book, State.setQueue, apply_ite]
  · simp [State.countRaise, LogState.book, State.setQueue, apply_ite]

theorem raise_book (s : State) (c d : Nat) : (s.raise c d).log.book = s.log.book := raiseX_book s c d 0

theorem settle_book (s : State) : s.settle.log.book = s.log.book := by
  have hcond : ∀ (u : State) (v : Nat), (u.toConditions v).log.book = u.log.book := fun u v =>
    (each_keeps (fun u => u.log.book) _ (fun u _ => raise_book u _ _) _ _).trans rfl
  have hint : ∀ (u : State) (v : Nat), (u.toIntegrity v).log.book = u.log.book := fun u v => by
    simp only [State.toIntegrity]
    split
    · rfl
    · rw [raise_book, inc_log, setReg_log]
  simp only [State.settle]
  rw [hint]
  split
  · rfl
  · rw [hcond]

theorem ran_book (s u : State) : (s.ran u).log.book = u.log.book := settle_book u

/-! ### Writing a record (R510, R511, R513) -/

section
variable (s : State) (r : EvRec)

theorem notifySessions_log : (s.notifySessions r).log = s.log := by
  unfold State.notifySessions
  refine each_keeps State.log _ (fun u n => ?_) s _
  split
  · split
    · exact onSess_log u n _
    · exact inc_log u _ _
  · rfl

theorem notifySessions_latched : (s.notifySessions r).latched = s.latched := by
  unfold State.notifySessions
  refine each_keeps State.latched _ (fun u n => ?_) s _
  split
  · split
    · exact onSess_latched u n _
    · exact inc_latched u _ _
  · rfl

theorem traceEvent_keeps : (s.traceEvent r).log = s.log ∧ (s.traceEvent r).latched = s.latched := by
  unfold State.traceEvent State.say State.fillTermOut
  split
  · dsimp only
    split
    · exact ⟨rfl, rfl⟩
    · exact ⟨rfl, rfl⟩
  · exact ⟨rfl, rfl⟩

theorem pinRecord_latched : (s.pinRecord r).latched = s.latched := by
  simp only [State.pinRecord]
  split
  · split
    · rw [raise_latched _ (by decide), onLog_latched]
    · exact onLog_latched s _
  · rfl

/-- The written part of a log whose pinned area has taken a record. -/
def LogState.pinning (l : LogState) (r : EvRec) : LogState :=
  { l.book with pinned := if 2 ≤ r.cls ∧ l.pinned.length < 256 then l.pinned ++ [r] else l.pinned }

section
variable (l : LogState)

theorem pinning_nextSeq : (l.pinning r).nextSeq = l.nextSeq := rfl

theorem pinning_ring : (l.pinning r).ring = l.ring := rfl

theorem pinning_evt0 : (l.pinning r).evt0 = l.evt0 := rfl

theorem pinning_sinceHead : (l.pinning r).sinceHead = l.sinceHead := rfl

theorem pinning_pinned (hcls : 2 ≤ r.cls) (hroom : l.pinned.length < 256) : (l.pinning r).pinned = l.pinned ++ [r] := if_pos ⟨hcls, hroom⟩

theorem pinning_pinned_of_low (hcls : r.cls < 2) : (l.pinning r).pinned = l.pinned := if_neg fun h => Nat.not_le.mpr hcls h.1

end

theorem pinRecord_book : (s.pinRecord r).log.book = s.log.pinning r := by
  simp only [State.pinRecord, LogState.pinning]
  split
  · split
    · rw [raise_book]
      rfl
    · rfl
  · rfl

/-- The record with the next SEQ. -/
def State.numbered (s : State) (r : EvRec) : EvRec := { r with seq := s.log.nextSeq }

/-- The ring with a record, of which it holds 65,536. -/
def LogState.ringWith (l : LogState) (r : EvRec) : List EvRec := (l.ring ++ [r]).drop (l.ring.length + 1 - 65536)

theorem ringWith_congr {l m : LogState} {r r' : EvRec} (hring : l.ring = m.ring) (hr : r = r') :
    l.ringWith r = (m.ring ++ [r']).drop (m.ring.length + 1 - 65536) := by
  unfold LogState.ringWith
  rw [hring, hr]

/-- What a record does to the log before the pinned area takes it, with the ring it makes. -/
def State.entry (s : State) (r : EvRec) (ring : List EvRec) (l : LogState) : LogState :=
  let r := s.numbered r
  { l with ring := ring, nextSeq := (l.nextSeq + 1) % 2 ^ 32, writes := s.recentWrites ++ [s.mono],
           sinceHead := l.sinceHead || s.drivesPin r, evt0 := l.evt0 || s.drivesPin r }

section
variable (ring : List EvRec) (l : LogState)

theorem entry_nextSeq : (s.entry r ring l).nextSeq = (l.nextSeq + 1) % 2 ^ 32 := rfl

theorem entry_ring : (s.entry r ring l).ring = ring := rfl

theorem entry_pinned : (s.entry r ring l).pinned = l.pinned := rfl

theorem entry_evt0 : (s.entry r ring l).evt0 = (l.evt0 || s.drivesPin (s.numbered r)) := rfl

theorem entry_sinceHead : (s.entry r ring l).sinceHead = (l.sinceHead || s.drivesPin (s.numbered r)) := rfl

end

/-- The state before the pinned area takes the record. -/
def State.booked (s : State) (r : EvRec) : State :=
  let u := (s.onLog fun l => s.entry r (l.ringWith (s.numbered r)) l).inc R.log_WRITES
  if r.cls = 2 then { u with latched := u.latched ||| 2048 } else u

theorem writeRecord_eq :
    s.writeRecord r = (((s.booked r).pinRecord (s.numbered r)).notifySessions (s.numbered r)).traceEvent (s.numbered r) := rfl

theorem booked_log : (s.booked r).log = s.entry r (s.log.ringWith (s.numbered r)) s.log := by
  unfold State.booked
  dsimp only
  split <;> rfl

theorem booked_latched (h : r.cls = 2) : (s.booked r).latched.testBit 11 = true := by
  unfold State.booked
  dsimp only
  rw [if_pos h, Nat.testBit_or, show Nat.testBit 2048 11 = true by decide, Bool.or_true]

/-- The written part of the log after a record. -/
theorem writeRecord_book : (s.writeRecord r).log.book = (s.entry r (s.log.ringWith (s.numbered r)) s.log).pinning (s.numbered r) := by
  rw [writeRecord_eq, (traceEvent_keeps _ _).1, notifySessions_log, pinRecord_book, booked_log]

theorem writeRecord_latched (h : r.cls = 2) : (s.writeRecord r).latched.testBit 11 = true := by
  rw [writeRecord_eq, (traceEvent_keeps _ _).2, notifySessions_latched, pinRecord_latched, booked_latched s r h]

end

/-! ### The commands -/

theorem exec_latched (w : Who) (mask : Nat) (s : State) : exec (.latched w mask) s = .next (s.ran (opLatched w mask s)) :=
  command_next s rfl _

theorem exec_logRecordWrite (t : Nat) (s : State) : exec (.logRecordWrite t) s = .next (s.ran (opLogRecordWrite t s)) :=
  command_next s rfl _

theorem latched_clears {w : Who} {mask : Nat} {s : State} (hw : s.mayWrite w R.integ_LATCHED 0 = true) (hmask : mask < 4096) :
    opLatched w mask s = State.ok { s with latched := s.latched ^^^ (s.latched &&& mask) } :=
  writeAs_of_mayWrite hw (decide_eq_true hmask) _

theorem testBit_cleared (v mask j : Nat) : (v ^^^ (v &&& mask)).testBit j = (v.testBit j && !mask.testBit j) := by
  rw [Nat.testBit_xor, Nat.testBit_and]
  cases v.testBit j <;> cases mask.testBit j <;> rfl

/-- Time is no part of what the store accepts. -/
theorem advanceTo_storeAccepts (s : State) (t : Nat) : (s.advanceTo t).storeAccepts = s.storeAccepts := by
  unfold State.storeAccepts
  congr 1
  funext c
  simp [State.channelOk]

/-- The front record is written while the rate, the store and core 1 permit it. -/
theorem logRecordWrite_writes {t : Nat} {r : EvRec} {rest : List EvRec} {s : State} (hqueue : s.log.queue = r :: rest)
    (hrate : (s.advanceTo t).recentWrites.length < 4000) (hstore : s.storeAccepts = true)
    (hhalt : s.dusk.core1.haltedAt = none ∨ s.phase = .night) :
    opLogRecordWrite t s = ((s.advanceTo t).onLog fun l => { l with queue := rest }).writeRecord r := by
  have hwrites : ¬ (4000 ≤ (s.advanceTo t).recentWrites.length ∨ (!(s.advanceTo t).storeAccepts) = true ∨
      ((s.advanceTo t).dusk.core1.haltedAt.isSome = true ∧ (s.advanceTo t).phase ≠ .night)) := by
    rw [advanceTo_storeAccepts, advanceTo_dusk, advanceTo_phase, hstore]
    rcases hhalt with h | h
    · simp [h, hrate]
    · simp [h, hrate]
  simp only [opLogRecordWrite, advanceTo_log, hqueue]
  exact if_neg hwrites

/-- Settles O44: each command by its checks; a written record field by field of the log's book. -/
theorem logCommandsTakeEffect : Obligations.LogCommandsTakeEffect := by
  unfold Obligations.LogCommandsTakeEffect
  refine ⟨fun w mask s hw hmask => ?latched, fun w s hw => ?ack, fun w s hw => ?pinned, fun w s hup hopen => ?records,
    fun t r rest s hqueue hrate hstore hhalt => ?write, fun t b s hstart hdue => ?drop⟩
  case latched =>
    refine ⟨_, exec_latched w mask s, fun j => ?_, by rw [ran_reply, latched_clears hw hmask]; rfl⟩
    rw [ran_latched, latched_clears hw hmask]
    exact testBit_cleared _ _ _
  case ack =>
    refine (command_next s rfl _).trans ?_
    rw [opAck, writeAs_of_mayWrite hw rfl]
  case pinned =>
    refine (command_next s rfl _).trans ?_
    rw [opClearPinned, writeAs_of_mayWrite hw rfl]
  case records =>
    obtain ⟨row, hrow, hacc⟩ : ∃ row, findRow ⟨0x9001, 0, 4⟩ = some row ∧ row.acc.readable = true := ⟨_, rfl, rfl⟩
    refine (command_next s rfl _).trans ?_
    rw [opRecords, readAs_of_readable hup hrow hacc hopen]
  case write =>
    have hop := logRecordWrite_writes hqueue hrate hstore hhalt
    obtain ⟨v, hv⟩ : ∃ v, v = (s.advanceTo t).onLog fun l => { l with queue := rest } := ⟨_, rfl⟩
    have hring : v.log.ring = s.log.ring := by rw [hv, State.onLog, advanceTo_log]
    have hpinned : v.log.pinned = s.log.pinned := by rw [hv, State.onLog, advanceTo_log]
    have hseq : v.log.nextSeq = s.log.nextSeq := by rw [hv, State.onLog, advanceTo_log]
    have hdrives : v.drivesPin (v.numbered r) = (s.advanceTo t).drivesPin (v.numbered r) := by rw [hv]; rfl
    have hnumbered : v.numbered r = { r with seq := s.log.nextSeq } := by rw [← hseq]; rfl
    obtain ⟨ring, hcut⟩ : ∃ ring, v.log.ringWith (v.numbered r) = ring := ⟨_, rfl⟩
    have hbook := writeRecord_book v r
    rw [hcut] at hbook
    rw [hnumbered] at hdrives
    rw [hv, ← hop, ← ran_book s, ← hv] at hbook
    refine ⟨_, exec_logRecordWrite t s, ?_, ?_, fun hcls hroom => ?_, fun hcls => ?_, fun hcls => ?_, fun hpin => ⟨?_, ?_⟩, by rw [hop]⟩
    · exact (congrArg LogState.nextSeq hbook).trans (by rw [pinning_nextSeq, entry_nextSeq, hseq])
    · exact (congrArg LogState.ring hbook).trans (hcut.symm.trans (ringWith_congr hring hnumbered))
    · exact (congrArg LogState.pinned hbook).trans (by rw [pinning_pinned (v.numbered r) _ hcls (hpinned ▸ hroom), entry_pinned, hpinned, hnumbered])
    · exact (congrArg LogState.pinned hbook).trans (by rw [pinning_pinned_of_low (v.numbered r) _ hcls, entry_pinned, hpinned])
    · rw [ran_latched, hop]
      exact writeRecord_latched _ r hcls
    · exact (congrArg LogState.evt0 hbook).trans (by rw [pinning_evt0, entry_evt0, hnumbered, hdrives, hpin, Bool.or_true])
    · exact (congrArg LogState.sinceHead hbook).trans (by rw [pinning_sinceHead, entry_sinceHead, hnumbered, hdrives, hpin, Bool.or_true])
  case drop =>
    refine (command_next s rfl _).trans ?_
    have hlate : ¬ (s.advanceTo t).mono < b + 1000000000 := Nat.not_lt.mpr hdue
    simp only [opDropIntervalEnd, advanceTo_log, hstart, if_neg hlate]

end Sys2Proof.Machine
end


section
/-! The test access port (R540, R570, Table 20.2). -/

namespace Sys2Proof.Machine

variable (s : State)

/-! ### What loading an instruction leaves of the state -/

theorem tapTo_board (v : Nat) : (s.tapTo v).board = s.board := rfl

theorem tapTo_reg (v : Nat) (r : Reg) (j : Nat) : (s.tapTo v).reg r j = s.reg r j := by
  unfold State.tapTo
  rw [ok_reg, onService_reg]

theorem tapTo_held {s : State} (h : s.board.trstN = false) (v : Nat) : s.tapTo v = s.tapTo 0x01 := by
  simp only [State.tapTo, State.tapHeld, h, Bool.not_false, if_true]

theorem tapTo_service {s : State} (h : s.board.trstN = true) (v : Nat) : (s.tapTo v).service = { s.service with tap := v } := by
  simp only [State.tapTo, State.tapHeld, h, Bool.not_true]
  rfl

theorem tapHeld_of_high {s : State} (h : s.board.trstN = true) : ¬ s.tapHeld = true := by simp [State.tapHeld, h]

theorem tapHeld_of_low {s : State} (h : s.board.trstN = false) : s.tapHeld = true := by simp [State.tapHeld, h]

/-- The codes that need the SCAN right. -/
theorem tapCode_scan {s : State} {code : Nat} (hcode : code = 3 ∨ code = 4 ∨ code = 5) :
    s.tapCode code = if (s.reg R.dbg_RIGHTS).testBit 3 then code else 0xFF := by
  rcases hcode with rfl | rfl | rfl <;> rfl

theorem tapLoad_scan {s : State} {code v : Nat} (hcode : code = 3 ∨ code = 4 ∨ code = 5)
    (hv : (if (s.reg R.dbg_RIGHTS).testBit 3 then code else 0xFF) = v) : s.tapLoad code = s.tapTo v := by
  rw [State.tapLoad, tapCode_scan hcode, hv]

/-! ### The service stream (R541) -/

/-- A zero byte between records is dropped. -/
theorem pumpRecords_zero {s : State} {b : Byte} {rest : List Byte} (hstream : s.service.stream = b :: rest)
    (hskip : s.service.skipping = false) (hb : b = 0) (n : Nat) :
    s.pumpRecords (n + 1) = (s.onService fun x => { x with stream := rest }).pumpRecords n := by
  subst hb
  rw [State.pumpRecords, hstream]
  dsimp only
  rw [if_neg (by rw [hskip]; decide), if_pos (show BitVec.toNat (0 : Byte) = 0 from rfl)]
  rfl

/-- Zero bytes alone change the stream and nothing else. -/
theorem pumpRecords_zeros {data : List Byte} (hzero : ∀ b ∈ data, b = 0) :
    ∀ s : State, s.service.stream = data → s.service.skipping = false →
      s.pumpRecords data.length = s.onService fun x => { x with stream := [] } := by
  induction data with
  | nil =>
    intro s hstream _
    rw [List.length_nil, State.pumpRecords, State.onService, ← hstream]
  | cons b rest ih =>
    intro s hstream hskip
    rw [List.length_cons, pumpRecords_zero hstream hskip (hzero b (List.mem_cons_self ..)),
      ih (fun c hc => hzero c (List.mem_cons_of_mem b hc)) (s.onService fun x => { x with stream := rest }) rfl hskip]
    rfl

/-- A shift under SVC while the port runs, outside END. -/
theorem opTapSvc_shifts {s : State} (data : List Byte) (htrst : s.board.trstN = true) (hlc : s.reg R.lc_STATE ≠ 4) :
    opTapSvc data s =
      (((s.tapTo 0x10).onService fun x => { x with out := x.out.drop data.length, stream := x.stream ++ data }).pumpRecords
        (s.service.stream ++ data).length).answerWith ((padTo data.length s.service.out).take data.length) := by
  have hheld : ¬ (s.tapLoad 0x10).tapHeld = true := tapHeld_of_high (s := s.tapTo 0x10) htrst
  have hstate : ¬ (s.tapLoad 0x10).reg R.lc_STATE = 4 := by rwa [State.tapLoad, tapTo_reg]
  simp only [opTapSvc, if_neg hheld, if_neg hstate]
  rfl

/-- Settles O37: each instruction by the code the port acts on; under SVC, zeros by induction on the bytes shifted in. -/
theorem tapInstructionsTakeEffect : Obligations.TapInstructionsTakeEffect := by
  unfold Obligations.TapInstructionsTakeEffect
  refine ⟨fun s => command_next s rfl _, fun s htrst => ?idcode, fun s htrst => ?sample, fun s htrst => ⟨?_, ?_, ?_⟩, fun s hscan => ⟨?_, ?_, ?_⟩,
    fun s hscan => ⟨?_, ?_, ?_⟩, fun data v s htrst hlc hv => ?svc, fun data s htrst hlc => ?svcEnd, fun data s htrst => ?svcLow,
    fun s => ⟨_, command_next s rfl opTestLogicReset, ?tap, ?session, rfl⟩⟩
  case idcode =>
    refine (command_next s rfl _).trans ?_
    rw [opTapIdcode, if_neg (tapHeld_of_high htrst)]
    rfl
  case sample =>
    refine (command_next s rfl _).trans ?_
    have hheld : ¬ (s.tapLoad 0x02).tapHeld = true := tapHeld_of_high (s := s.tapTo 0x02) htrst
    simp only [opTapSamplePreload, if_neg hheld]
    rfl
  · refine (command_next s rfl _).trans ?_
    rw [opTapIdcode, if_pos (tapHeld_of_low htrst)]
    rfl
  · refine (command_next s rfl _).trans ?_
    have hheld : (s.tapLoad 0x02).tapHeld = true := tapHeld_of_low (s := s.tapTo 0x02) htrst
    simp only [opTapSamplePreload, if_pos hheld]
    exact congrArg (fun u => Host.Outcome.next (s.ran u)) (tapTo_held htrst 0x02)
  · exact (command_next s rfl _).trans (congrArg (fun u => Host.Outcome.next (s.ran u)) (tapTo_held htrst 0xFF))
  · refine (command_next s rfl _).trans ?_
    rw [opTapExtest, tapLoad_scan (by decide) (if_pos hscan)]
  · refine (command_next s rfl _).trans ?_
    rw [opTapClamp, tapLoad_scan (by decide) (if_pos hscan)]
  · refine (command_next s rfl _).trans ?_
    rw [opTapHighz, tapLoad_scan (by decide) (if_pos hscan)]
  · refine (command_next s rfl _).trans ?_
    rw [opTapExtest, tapLoad_scan (by decide) (if_neg (by rw [hscan]; decide))]
  · refine (command_next s rfl _).trans ?_
    rw [opTapClamp, tapLoad_scan (by decide) (if_neg (by rw [hscan]; decide))]
  · refine (command_next s rfl _).trans ?_
    rw [opTapHighz, tapLoad_scan (by decide) (if_neg (by rw [hscan]; decide))]
  case svc =>
    have hop := opTapSvc_shifts data htrst hlc
    rw [← hv] at hop
    have hservice : v.service = { s.service with tap := 0x10, out := s.service.out.drop data.length, stream := s.service.stream ++ data } := by
      rw [hv, State.onService, tapTo_service htrst]
    refine ⟨_, command_next s rfl (opTapSvc data), by rw [ran_reply, hop]; rfl, fun hstream hskip hzero => ?_, by rw [hop]⟩
    rw [hstream, List.nil_append] at hservice hop
    rw [ran_service, hop, pumpRecords_zeros hzero v (by rw [hservice]) (by rw [hservice]; exact hskip), answerWith_service, State.onService,
      hservice, ← hstream]
  case svcEnd =>
    refine (command_next s rfl _).trans ?_
    have hheld : ¬ (s.tapLoad 0x10).tapHeld = true := tapHeld_of_high (s := s.tapTo 0x10) htrst
    have hstate : (s.tapLoad 0x10).reg R.lc_STATE = 4 := by rwa [State.tapLoad, tapTo_reg]
    simp only [opTapSvc, if_neg hheld, if_pos hstate]
    rfl
  case svcLow =>
    refine (command_next s rfl _).trans ?_
    have hheld : (s.tapLoad 0x10).tapHeld = true := tapHeld_of_low (s := s.tapTo 0x10) htrst
    simp only [opTapSvc, if_pos hheld]
    exact congrArg (fun u => Host.Outcome.next (s.ran u)) (tapTo_held htrst 0x10)
  case tap =>
    rw [ran_service]
    simp [opTestLogicReset, State.tapTo, State.ok, State.onService]
  case session =>
    rw [ran_reg s _ (by decide), opTestLogicReset, tapTo_reg, endService_session]

end Sys2Proof.Machine
end


section
/-! Lanes lost (R391): a loss that is none of the signal's leaves LOS_COUNT as it is, at a value too that its register does not hold. -/

namespace Sys2Proof.Machine

theorem exec_laneLoss {l : Nat} (hl : l < 256) (t : Nat) (c : LossCause) (s : State) :
    exec (.laneLoss t l c) s = .next (s.ran (opLaneLoss t l c s)) := command_next s (decide_eq_true hl) _

/-- Lane 0 is in AUTO_NEG, and the register file holds 2^32 as its LOS_COUNT, a register of 32 bits. -/
def wideLosCount : State := (State.reset.setReg R.lane_STATE 0 3).putNum ⟨0x2000, 0, 23⟩ (2 ^ 32)

theorem wideLosCount_alone : wideLosCount.laneState 0 = 3 ∧ wideLosCount.reg R.lane_LOS_COUNT 0 = 2 ^ 32 ∧
    wideLosCount.linkOf 0 = none ∧ wideLosCount.portOf 0 = none := by decide +kernel

/-- A loss of lock counts no loss of signal: the register is not written. -/
theorem wideLosCount_kept : (wideLosCount.ran (opLaneLoss 0 0 .lock wideLosCount)).reg R.lane_LOS_COUNT 0 = 2 ^ 32 := by decide +kernel

/-- Refutes O27: its clause of losses takes LOS_COUNT modulo its width after every loss, in states too whose LOS_COUNT is wider than the register; a loss
of lock does not write it. -/
theorem not_lanesComeAndGo : ¬ Obligations.LanesComeAndGo := by
  unfold Obligations.LanesComeAndGo
  rintro ⟨-, -, -, -, hloss, -⟩
  obtain ⟨hstate, hcount, hlink, hport⟩ := wideLosCount_alone
  obtain ⟨u, hexec, -, hkept⟩ := hloss 0 0 .lock wideLosCount (by decide) (by rw [hstate]) (by rw [hstate]; decide)
  obtain ⟨-, -, hcut⟩ := hkept hlink hport
  rw [exec_laneLoss (by decide)] at hexec
  injection hexec with hu
  rw [← hu, wideLosCount_kept, hcount] at hcut
  exact absurd hcut (by decide)

end Sys2Proof.Machine
end


section
/-! FILLER rows (R395): a row that is neither deleted nor inserted leaves the two counters as they are, at values too that their registers do not hold. -/

namespace Sys2Proof.Machine

theorem exec_fillerRowArrive {k : Nat} (hk : k < 256) (s : State) : exec (.fillerRowArrive k) s = .next (s.ran (opFillerRowArrive k s)) :=
  command_next s (decide_eq_true hk) _

/-- A row is deleted or inserted, not both: of two counters at 2^32, one is left. -/
def State.fillersWide (s : State) : Prop := s.reg R.link_FILLERS_DELETED 0 = 2 ^ 32 ∨ s.reg R.link_FILLERS_INSERTED 0 = 2 ^ 32

/-- Link 0 has no lane, and the register file holds 2^32 as each of its FILLER counters, registers of 32 bits. -/
def wideFillers : State := ((State.reset.setReg R.link_WIDTH 0 0).putNum ⟨0x2010, 0, 15⟩ (2 ^ 32)).putNum ⟨0x2010, 0, 16⟩ (2 ^ 32)

theorem wideFillers_lanes : (wideFillers.linkLanes 0).all (fun l => decide (10 ≤ wideFillers.laneState l) && decide (wideFillers.laneState l ≤ 11)) = true := by
  decide +kernel

theorem opFillerRowArrive_fillersWide : (wideFillers.ran (opFillerRowArrive 0 wideFillers)).fillersWide := by
  have hwide : ∀ v : State, v.reg R.link_FILLERS_DELETED 0 = 2 ^ 32 → v.reg R.link_FILLERS_INSERTED 0 = 2 ^ 32 → ∀ rows : Nat,
      (if 12 < rows then v.inc R.link_FILLERS_DELETED 0 else if rows < 4 then v.inc R.link_FILLERS_INSERTED 0 else v).fillersWide := by
    intro v hdeleted hinserted rows
    split
    · exact .inr (by rw [reg_inc_of_ref _ (by decide), hinserted])
    · split
      · exact .inl (by rw [reg_inc_of_ref _ (by decide), hdeleted])
      · exact .inl hdeleted
  have hrow : (opFillerRowArrive 0 wideFillers).fillersWide := by
    simp only [opFillerRowArrive, if_pos wideFillers_lanes]
    refine hwide _ ?_ ?_ _
    · decide +kernel
    · decide +kernel
  exact hrow.imp (fun h => (ran_reg _ _ (by decide) 0).trans h) (fun h => (ran_reg _ _ (by decide) 0).trans h)

/-- Refutes O30: its clause of FILLER rows takes both counters modulo their width, in states too whose counters are wider than the registers; a row
writes at most one of them. -/
theorem not_linksAlign : ¬ Obligations.LinksAlign := by
  unfold Obligations.LinksAlign
  rintro ⟨-, -, -, -, -, -, hfiller, -⟩
  obtain ⟨rows, -, u, hexec, -, hdeleted, hinserted⟩ := hfiller 0 _ wideFillers (by decide) wideFillers_lanes rfl
  rw [exec_fillerRowArrive (by decide)] at hexec
  injection hexec with hu
  have hcut : ∀ n : Nat, n % 2 ^ 32 < 2 ^ 32 := fun n => Nat.mod_lt n (by decide)
  rcases opFillerRowArrive_fillersWide with h | h
  · rw [← hu, h] at hdeleted
    exact absurd hdeleted (hcut _).ne'
  · rw [← hu, h] at hinserted
    exact absurd hinserted (hcut _).ne'

end Sys2Proof.Machine
end


section
/-! Profiles (R435, R438 to R440): their records, and the switch that waits for its frame. -/

namespace Sys2Proof.Machine

/-- The bytes of another object read as before. -/
theorem dom_setDom_of_ref (s : State) {r r' : Reg} (h : r'.ref ≠ r.ref) (i j : Nat) (l : List Byte) : (s.setDom r i l).dom r' j = s.dom r' j :=
  tget_tput_ne _ (fun e => h (regKey_eq e).1) _ _

/-- A number of bytes, least significant first, lies below the power of 256 of their count. -/
theorem ofLe_lt (l : List Byte) : ofLe l < 256 ^ l.length := by
  induction l with
  | nil => decide
  | cons b t ih =>
    have hb : b.toNat < 256 := b.isLt
    simp only [ofLe, List.length_cons, Nat.pow_succ]
    omega

theorem leAt_lt (l : List Byte) (off k : Nat) : leAt l off k < 256 ^ k :=
  Nat.lt_of_lt_of_le (ofLe_lt _) (Nat.pow_le_pow_right (by decide) (List.length_take_le _ _))

section
variable (s : State) (p kind : Nat) (l : List Byte)

/-! ### What a record leaves (R439) -/

theorem putRecord_reply : (s.putRecord p kind l).reply = s.reply := by
  simp only [State.putRecord, raise_reply, setReg_reply, setDom_reply, State.add]

theorem putRecord_record : (s.putRecord p kind l).dom R.sprof_RECORD p = l := by
  simp only [State.putRecord]
  rw [dom_of_doms (raise_doms _ _ _), dom_setReg, dom_setReg, dom_setReg, dom_setReg, dom_setDom_of_ref _ (by decide), dom_setDom_same]

theorem putRecord_name : (s.putRecord p kind l).dom R.sprof_NAME p = recordName l := by
  simp only [State.putRecord]
  rw [dom_of_doms (raise_doms _ _ _), dom_setReg, dom_setReg, dom_setReg, dom_setReg, dom_setDom_same]

theorem putRecord_valid : (s.putRecord p kind l).reg R.sprof_VALID p = b2n (!l.isEmpty) := by
  simp only [State.putRecord]
  rw [raise_reg _ (by decide), reg_setReg_of_ref _ (by decide), reg_setReg_of_ref _ (by decide), reg_setReg_of_ref _ (by decide), reg_setReg_same]
  cases l <;> rfl

theorem putRecord_length (hl : l.length ≤ 262144) : (s.putRecord p kind l).reg R.sprof_LENGTH p = l.length := by
  simp only [State.putRecord]
  rw [raise_reg _ (by decide), reg_setReg_of_ref _ (by decide), reg_setReg_of_ref _ (by decide), reg_setReg_same]
  exact Nat.mod_eq_of_lt (Nat.lt_of_le_of_lt hl (by decide))

theorem putRecord_crc : (s.putRecord p kind l).reg R.sprof_CRC p = leAt l 60 4 % 2 ^ 32 := by
  simp only [State.putRecord]
  rw [raise_reg _ (by decide), reg_setReg_of_ref _ (by decide), reg_setReg_same]

theorem putRecord_writes : (s.putRecord p kind l).reg R.sprof_WRITES p =
    (s.reg R.sprof_WRITES p + changedWords (s.dom R.sprof_RECORD p) l) % 2 ^ R.sprof_WRITES.bits := by
  simp only [State.putRecord]
  rw [raise_reg _ (by decide), reg_setReg_of_ref _ (by decide), reg_setReg_of_ref _ (by decide), reg_setReg_of_ref _ (by decide),
    reg_setReg_of_ref _ (by decide), setDom_reg, setDom_reg, State.add, reg_setReg_same]

end

/-- A record that is one is not empty. -/
theorem profileRecordOk_nonempty {l : List Byte} (h : profileRecordOk l = true) : l.isEmpty = false := by
  cases l with
  | nil => exact absurd h (by decide)
  | cons b t => rfl

/-! ### The switch (R440) -/

theorem armMember_keeps (s : State) (c f : Nat) (m : Member) : (s.armMember c f m).regs = s.regs ∧ (s.armMember c f m).steward = s.steward := ⟨rfl, rfl⟩

theorem setReg_armed (s : State) (r : Reg) (i v : Nat) : (s.setReg r i v).armed = s.armed := rfl

/-- What has left its sets is not armed. -/
theorem armed_dropMembers {s : State} {f : Member → Bool} {m : Member} (h : f m = true) : m ∉ (s.dropMembers f).armed := by
  simp only [State.armed, State.dropMembers, List.mem_flatMap, List.mem_filter, List.mem_map]
  rintro ⟨x, ⟨⟨y, -, rfl⟩, -⟩, hm⟩
  simp [h] at hm

/-- Settles O35: each command by its checks, then register by register of the record it puts. -/
theorem profilesChange : Obligations.ProfilesChange := by
  unfold Obligations.ProfilesChange
  refine ⟨fun w p l s hw hok hlen => ?record, fun w s hw hvalid hunarmed hcad hon => ?arm, fun w s hw harmed => ?disarm,
    fun w p l s hw hp huse hcount hl hlen hvalues => ?capture, fun w p s hw hp huse => ?erase⟩
  case record =>
    have hop : opProfileRecordWrite w p l s = (s.putRecord p 0 l).ok := by
      rw [opProfileRecordWrite, writeAs_of_mayWrite hw (by rw [hok, Bool.or_true]), if_neg (Nat.not_lt.mpr hlen)]
    refine ⟨_, command_next s rfl (opProfileRecordWrite w p l), ?_, ?_, ?_, ?_, ?_, ?_, ?_, by rw [hop]⟩
    · rw [dom_of_doms (ran_doms s _), hop]
      exact putRecord_record s p 0 l
    · rw [ran_reg _ _ (by decide), hop, ok_reg, putRecord_valid, profileRecordOk_nonempty hok]
      rfl
    · rw [ran_reg _ _ (by decide), hop, ok_reg, putRecord_length s p 0 l hlen]
    · rw [ran_reg _ _ (by decide), hop, ok_reg, putRecord_crc]
      exact Nat.mod_eq_of_lt (leAt_lt l 60 4)
    · rw [dom_of_doms (ran_doms s _), hop]
      exact putRecord_name s p 0 l
    · rw [ran_reg _ _ (by decide), hop, ok_reg, putRecord_writes]
    · rw [ran_reply, hop, ok_reply]
  case arm =>
    have hready : ¬ (!s.on R.sprof_VALID (s.reg R.prof_TARGET) || s.on R.prof_ARMED || decide (16 ≤ s.reg R.prof_CADENCE) ||
        !s.on R.cad_ENABLE (s.reg R.prof_CADENCE)) = true := by
      simp [hvalid, hunarmed, hon, hcad]
    refine ⟨_, command_next s rfl (opProfileArmSwitch w), ?_, ?_, ?_, ?_, ?_⟩
    all_goals simp only [opProfileArmSwitch, writeAs_of_mayWrite hw rfl, if_neg hready]
    · rw [ran_reg _ _ (by decide), answerWith_reg]
      exact (reg_setReg_of_ref _ (by decide) _ _ _).trans (reg_setReg_same _ _ _ _)
    · rw [ran_reg _ _ (by decide), answerWith_reg]
      exact reg_setReg_same _ _ _ _
    · rw [ran_reply]
      rfl
    · rw [ran_steward]
      rfl
    · rw [ran_tb]
      rfl
  case disarm =>
    refine ⟨_, command_next s rfl (opProfileDisarm w), ?_, ?_, ?_, fun p => ?_⟩
    all_goals simp only [opProfileDisarm, writeAs_of_mayWrite hw rfl, if_pos harmed]
    · rw [ran_reg _ _ (by decide), ok_reg, reg_setReg_same, Nat.zero_mod]
    · rw [ran_steward]
      rfl
    · rw [ran_reply]
      rfl
    · rw [State.armed, ran_tb]
      exact armed_dropMembers (s := s) rfl
  case capture =>
    have hop : opCapture w s = (s.putRecord p 1 l).ok := by
      rw [opCapture, writeAs_of_mayWrite hw rfl]
      simp only [← hp, huse, ← hl, hvalues]
      have hroom : ¬ (4096 < s.captureEntries.length ∨ 262144 < l.length ∨ false = true) := by simp [hcount, hlen]
      rw [if_neg Bool.false_ne_true, if_neg hroom]
    refine ⟨_, command_next s rfl (opCapture w), ?_, ?_, by rw [ran_reply, hop, ok_reply], by rw [hop]⟩
    · rw [dom_of_doms (ran_doms s _), hop]
      exact putRecord_record s p 1 l
    · rw [ran_reg _ _ (by decide), hop, ok_reg, putRecord_length s p 1 l hlen]
  case erase =>
    have hop : opErase w s = (s.putRecord p 2 []).ok := by
      rw [opErase, writeAs_of_mayWrite hw rfl]
      simp only [← hp, huse]
      exact if_neg Bool.false_ne_true
    refine ⟨_, command_next s rfl (opErase w), ?_, ?_, ?_, by rw [ran_reply, hop, ok_reply], by rw [hop]⟩
    · rw [dom_of_doms (ran_doms s _), hop]
      exact putRecord_record s p 2 []
    · rw [ran_reg _ _ (by decide), hop, ok_reg, putRecord_valid]
      rfl
    · rw [ran_reg _ _ (by decide), hop, ok_reg, putRecord_length s p 2 [] (Nat.zero_le _)]
      rfl

end Sys2Proof.Machine
end


section
/-! Operations on objects (R413, R415, R427, R442): the checks of Table 14.8, writes whole and in pieces, reads and INFO. -/

namespace Sys2Proof.Machine

/-! ### Numbers in bytes -/

theorem ofLe_leBytes_two {v : Nat} (h : v < 65536) : ofLe (leBytes 2 v) = v := by
  simp only [leBytes, List.range_succ, List.range_zero, List.nil_append, List.map_cons, List.map_nil, List.cons_append, ofLe,
    BitVec.toNat_ofNat]
  omega

theorem leBytes_length (k n : Nat) : (leBytes k n).length = k := by simp [leBytes]

/-! ### What lets a party write an object (R413, R414, R416) -/

/-- The object that a party may write is in a table, it is not closed, and the rights and the lock permit the write of any value of two bytes or more. -/
theorem row_of_mayWrite {s : State} {w : Who} {r : Reg} {inst : Nat} (h : s.mayWrite w r inst = true) :
    s.dictAnswers w = true ∧ s.writesClosed w = false ∧ ∃ row, findRow ⟨r.ref / 256, inst, r.ref % 256⟩ = some row ∧ row.acc.writable = true ∧
      classWrites w.cls (r.ref / 256) (r.ref % 256) = true ∧ s.lockBlocks w (r.ref / 256) inst (r.ref % 256) true = false := by
  simp only [State.mayWrite, Bool.and_eq_true, Bool.not_eq_true'] at h
  obtain ⟨⟨hanswers, hclosed⟩, hrow⟩ := h
  refine ⟨hanswers, hclosed, ?_⟩
  cases e : findRow ⟨r.ref / 256, inst, r.ref % 256⟩ with
  | none => simp [e] at hrow
  | some row =>
    simp only [e, Bool.and_eq_true, Bool.not_eq_true'] at hrow
    obtain ⟨⟨⟨hacc, hclass⟩, -⟩, hlock⟩ := hrow
    exact ⟨row, rfl, hacc, hclass, hlock⟩

/-! ### REPLAY_TIMEOUT (R403) -/

/-- The row of REPLAY_TIMEOUT: 5 µs to 1,000 µs. -/
def replayRow : Row := ⟨7, .u16, .rw, 5, 1000, 0, false⟩

theorem findRow_replay {k : Nat} {row : Row} (h : findRow ⟨0x2010, k, 7⟩ = some row) : row = replayRow := by
  obtain ⟨o, ho, hrow⟩ : ∃ o, findObj 0x2010 = some o ∧ o.row 7 = some replayRow :=
    ⟨(findObj 0x2010).get (by decide +kernel), (Option.some_get _).symm, by decide +kernel⟩
  unfold findRow at h
  simp only [ho, hrow, Option.map_some] at h
  split at h
  · exact (Option.some.inj h).symm
  · cases h

theorem setReg_replay (s : State) (k : Nat) {v : Nat} (hv : v < 65536) : s.setReg R.link_REPLAY_TIMEOUT k v = s.putNum ⟨0x2010, k, 7⟩ v := by
  have hcut : v % 2 ^ R.link_REPLAY_TIMEOUT.bits = v := Nat.mod_eq_of_lt hv
  have href : R.link_REPLAY_TIMEOUT.ref = 0x2010 * 256 + 7 := by decide
  rw [State.setReg, hcut, State.putNum, href]

theorem replay_inRange {v : Nat} (hv : v < 65536) : replayRow.inRange (leBytes 2 v) = (decide (5 ≤ v) && decide (v ≤ 1000)) := by
  have hsize : ¬ (replayRow.ty.size = 0 ∨ replayRow.ty = .time80) := by decide
  have hunsigned : replayRow.ty.signed ≠ true := by decide
  simp only [Row.inRange, if_neg hsize, if_neg hunsigned, ofLe_leBytes_two hv]
  rw [show replayRow.lo = 5 from rfl, show replayRow.hi = 1000 from rfl, decide_eq_decide.mpr (show (5 : Int) ≤ v ↔ 5 ≤ v by omega),
    decide_eq_decide.mpr (show (v : Int) ≤ 1000 ↔ v ≤ 1000 by omega)]

/-- The write of REPLAY_TIMEOUT is refused by its range alone. -/
theorem registerWrite_replay {s : State} {w : Who} {k v : Nat} (hw : s.mayWrite w R.link_REPLAY_TIMEOUT k = true) (hv : v < 65536) :
    opRegisterWrite w ⟨0x2010, k, 7⟩ (leBytes 2 v) s =
      if 5 ≤ v ∧ v ≤ 1000 then (s.setReg R.link_REPLAY_TIMEOUT k v).ok else s.badValue := by
  obtain ⟨hanswers, hclosed, row, hrow, -, hclass, hlock⟩ := row_of_mayWrite hw
  have hrow : findRow ⟨0x2010, k, 7⟩ = some row := hrow
  have hreplay := findRow_replay hrow
  subst hreplay
  have hdenied : s.writeDenied w ⟨0x2010, k, 7⟩ replayRow (leBytes 2 v) = false := by
    have hclass : classWrites w.cls 0x2010 7 = true := hclass
    have hlock : s.lockBlocks w 0x2010 k 7 ((leBytes 2 v : List Byte) == [1]) = false := hlock
    simp only [State.writeDenied, hclass, hlock]
    rfl
  have heffect : s.writeEffect w ⟨0x2010, k, 7⟩ replayRow (leBytes 2 v) = (s.setReg R.link_REPLAY_TIMEOUT k v).ok := by
    have hruled : s.writeEffect w ⟨0x2010, k, 7⟩ replayRow (leBytes 2 v) = s.ruled w true true fun s => s.putNum ⟨0x2010, k, 7⟩ (ofLe (leBytes 2 v)) := rfl
    rw [hruled, ofLe_leBytes_two hv, setReg_replay s k hv]
    simp [State.ruled, hclosed]
  have hlength : replayRow.lengthOk (leBytes 2 v).length = true := by rw [leBytes_length]; rfl
  simp only [opRegisterWrite, State.writeValue, hanswers, hrow, hdenied, hlength, replay_inRange hv, heffect, Bool.and_eq_true, decide_eq_true_eq]
  rfl

/-! ### Writes and reads of any object -/

section
variable {s : State} {w : Who} {r : ObjRef} {row : Row}

/-- Without a session's buffer only a piece from the start goes on. -/
theorem writePiece_holds {data value : List Byte} {offset : Nat} (hvalue : value = (if offset = 0 then [] else (s.heldBytes w r).getD []) ++ data)
    (hlength : value.length = offset + data.length) (hheld : offset ≠ 0 → (s.heldBytes w r).isSome = true) (hroom : value.length ≤ row.maxLen)
    (hslot : w.slot.isSome = true) (hclosed : s.writesClosed w = false) :
    s.writePiece w r row offset false data = (s.holdBytes w (some (r, value))).ok := by
  obtain ⟨held, hget⟩ : ∃ held, (if offset = 0 then some [] else s.heldBytes w r) = some held := by
    split
    · exact ⟨[], rfl⟩
    · next h => exact Option.isSome_iff_exists.mp (hheld h)
  have hwhole : held ++ data = value := by
    rw [hvalue]
    split at hget
    · next h => rw [if_pos h, Option.some.inj hget]
    · next h => rw [if_neg h, hget, Option.getD_some]
  have hoffset : held.length = offset := by
    have h := congrArg List.length hwhole
    rw [List.length_append, hlength] at h
    omega
  simp [State.writePiece, hget, hwhole, hoffset, Nat.not_lt.mpr hroom, hclosed, Option.isSome_iff_ne_none.mp hslot]

end

theorem readEffect_same {s : State} {r : ObjRef} {row : Row} (hlog : ¬ (r.index = 0x9001 ∧ r.sub = 1)) (hacc : row.acc ≠ .rc) :
    s.readEffect r row = s := by
  simp only [State.readEffect, if_neg hlog]
  exact if_pos (by simpa using hacc)

/-- SNAPSHOT is a whole DOMAIN whose read changes nothing. -/
theorem findRow_snapshot {row : Row} (h : findRow ⟨0x1010, 0, 32⟩ = some row) : row.ty.isDomain = true ∧ row.acc = .ro := by
  have hrow : (findRow ⟨0x1010, 0, 32⟩).all fun row => row.ty.isDomain && row.acc == .ro := by decide +kernel
  rw [h] at hrow
  simpa using hrow

/-- Settles O32: each operation by the checks of Table 14.8 in their order. -/
theorem objectsAreReadAndWritten : Obligations.ObjectsAreReadAndWritten := by
  unfold Obligations.ObjectsAreReadAndWritten
  refine ⟨fun w k v s hw hlo hhi => ?replay, fun w k v s hw hv hout => ?replayOut, fun w r raw s hanswers hrow => ⟨?_, ?_⟩,
    fun w r row raw s hanswers hrow hdenied hdomain himage hlength hrange => ?write,
    fun w r row data value offset s hanswers hrow hdenied hdomain himage hvalue hlength hheld hroom hslot hclosed => ?piece,
    fun w r row s hanswers hrow hread hrs hdenied hdomain hclosed hroom => ?read,
    fun w r row len room s hanswers hrow hread hdenied hdomain hclosed hroom => ?domain,
    fun w r row len s hanswers hrow hclosed => ?info, fun w row s hanswers hrow hclosed => ?snapshot⟩
  case replay =>
    refine (command_next s rfl _).trans ?_
    rw [registerWrite_replay hw (by omega), if_pos ⟨hlo, hhi⟩]
  case replayOut =>
    refine (command_next s rfl _).trans ?_
    rw [registerWrite_replay hw hv, if_neg (by omega)]
  · refine (command_next s rfl _).trans ?_
    simp only [opRegisterWrite, State.writeValue, hanswers, hrow]
    rfl
  · refine (command_next s rfl _).trans ?_
    simp only [opObpWrite, hanswers, hrow]
    rfl
  case write =>
    refine (command_next s rfl _).trans ?_
    simp only [opObpWrite, State.writeValue, hanswers, hrow, hdenied, hdomain, himage, hlength, hrange]
    rfl
  case piece =>
    refine (command_next s rfl _).trans ?_
    have hop : opObpWrite w r offset false data s = s.writePiece w r row offset false data := by
      simp only [opObpWrite, hanswers, hrow, hdenied, hdomain, himage]
      rfl
    rw [hop, writePiece_holds hvalue hlength hheld hroom hslot hclosed]
  case read =>
    refine (command_next s rfl _).trans ?_
    have hop : opObpRead w r 0 0 s = (s.readEffect r row).answerWith (s.valueOf r row) := by
      simp [opObpRead, State.readRoom, hanswers, hrow, hread, hrs, hdenied, hdomain, hclosed, Nat.not_lt.mpr hroom]
    rw [hop]
  case domain =>
    refine (command_next s rfl _).trans ?_
    have hop : opObpRead w r 0 len s = ((s.latchValue w r (s.valueOf r row)).readEffect r row).answerWith ((s.valueOf r row).take room) := by
      simp [opObpRead, State.readRoom, State.readDomain, hanswers, hrow, hread, hdenied, hdomain, hclosed, hroom]
    rw [hop]
  case info =>
    refine (command_next s rfl _).trans ?_
    have hop : opObpInfo w r len s = s.answerWith (s.infoRecord r row ++ if 16 < len ∧ row.ty.isDomain = false then factoryValue r row else []) := by
      simp [opObpInfo, State.infoAt, State.othersClosed, hanswers, hrow, hclosed]
    rw [hop]
  case snapshot =>
    obtain ⟨hdomain, hacc⟩ := findRow_snapshot hrow
    refine (command_next s rfl _).trans ?_
    have hop : opSnapshotRead w s = ((s.latchValue w ⟨0x1010, 0, 32⟩ (s.valueOf ⟨0x1010, 0, 32⟩ row)).readEffect ⟨0x1010, 0, 32⟩ row).answerWith
        ((s.valueOf ⟨0x1010, 0, 32⟩ row).take (frameLimit w.cls - 40)) := by
      simp [opSnapshotRead, State.readRoom, State.readDomain, State.readDenied, Access.readable, hanswers, hrow, hdomain, hacc, hclosed]
    rw [hop, readEffect_same (by decide) (by rw [hacc]; decide)]

end Sys2Proof.Machine
end


section
/-! Frames and records that leave a port (R411, R421, R541): they change its outbound side only. -/

namespace Sys2Proof.Machine

section
variable (s : State)

/-! ### Records of the service stream (R541) -/

@[simp] theorem sendRecord_reg (ty : Nat) (l : List Byte) (r : Reg) (j : Nat) : (s.sendRecord ty l).reg r j = s.reg r j := by
  unfold State.sendRecord
  exact onService_reg s _ r j

@[simp] theorem sendRecord_steward (ty : Nat) (l : List Byte) : (s.sendRecord ty l).steward = s.steward := rfl

@[simp] theorem sendRecord_dusk (ty : Nat) (l : List Byte) : (s.sendRecord ty l).dusk = s.dusk := rfl

@[simp] theorem sendRecord_reply (ty : Nat) (l : List Byte) : (s.sendRecord ty l).reply = s.reply := rfl

/-! ### Frames -/

theorem queuePacket_keeps (k c : Nat) (l : List Byte) :
    (s.queuePacket k c l).regs = s.regs ∧ (s.queuePacket k c l).steward = s.steward := by
  unfold State.queuePacket
  split
  · exact ⟨rfl, rfl⟩
  · exact ⟨rfl, rfl⟩

@[simp] theorem sendFrame_reply (port : ObpPort) (l : List Byte) : (s.sendFrame port l).reply = ⟨true, 0, l⟩ := rfl

theorem sendFrame_regs (port : ObpPort) (l : List Byte) : (s.sendFrame port l).regs = s.regs := by
  cases port with
  | spi => rfl
  | mgmt a p => rfl
  | link k => exact (queuePacket_keeps s k 0 l).1
  | service => rfl

theorem sendFrame_reg (port : ObpPort) (l : List Byte) (r : Reg) (j : Nat) : (s.sendFrame port l).reg r j = s.reg r j :=
  reg_of_regs (sendFrame_regs s port l) r j

/-- Of the steward's state a frame changes the SPI port's outbound frames only. -/
theorem sendFrame_steward (port : ObpPort) (l : List Byte) : ∃ out, (s.sendFrame port l).steward = { s.steward with spiOut := out } := by
  cases port with
  | spi => exact ⟨_, rfl⟩
  | mgmt a p => exact ⟨_, rfl⟩
  | link k => exact ⟨s.steward.spiOut, (queuePacket_keeps s k 0 l).2⟩
  | service => exact ⟨_, rfl⟩

theorem sendFrame_sess (port : ObpPort) (l : List Byte) (n : Nat) : (s.sendFrame port l).sess n = s.sess n := by
  obtain ⟨out, hout⟩ := sendFrame_steward s port l
  rw [State.sess, hout]
  rfl

end

end Sys2Proof.Machine
end


section
/-! Sessions (R414, R416, R431, R433): their slots, the write lock, their end and the NOTIFY. -/

namespace Sys2Proof.Machine

/-! ### What the locks of a closing session leave (R459) -/

/-- The registers that freeing locks may write. -/
def lockRefs : List Nat := [R.core_STATE.ref, R.lock_OWNER.ref, R.lock_SUSPECT.ref, R.lock_FORCED.ref, R.lu_HELD.ref, R.lu_SUSPECT.ref]

section
variable (s : State)

theorem lockForceAll_reg {r : Reg} (hevent : r.ref ∉ raiseRefs) (hlock : r.ref ∉ lockRefs) (who cause j : Nat) :
    (s.lockForceAll who cause).reg r j = s.reg r j := by
  unfold State.lockForceAll
  refine each_keeps (fun u => u.reg r j) _ (fun u n => ?_) s _
  have hne : ∀ q : Reg, q.ref ∈ lockRefs → r.ref ≠ q.ref := fun q hq e => hlock (e ▸ hq)
  split
  · rw [lockForce_reg u n hevent (hne R.core_STATE (by decide)) (hne R.lock_OWNER (by decide)) (hne R.lu_HELD (by decide)),
      reg_inc_of_ref _ (hne R.lock_FORCED (by decide)), reg_setReg_of_ref _ (hne R.lu_SUSPECT (by decide)),
      reg_setReg_of_ref _ (hne R.lock_SUSPECT (by decide))]
  · rfl

/-! ### A session that closes (R433) -/

theorem closeKeeps_reply : CloseKeeps State.reply where
  steward _ _ := rfl
  lease _ _ _ := rfl
  onCore s c u _ := by unfold State.onCore; split <;> rfl
  time s t := by simp only [State.advanceTo]; split <;> rfl
  reg _ _ _ _ _ := rfl
  raise := raise_reply

theorem closeSession_reply (n cause : Nat) : (s.closeSession n cause).reply = s.reply := closeKeeps_reply.closeSession s n cause

theorem closeSession_ident (n cause : Nat) : (s.closeSession n cause).reg R.ses_ID n = 0 := by
  unfold State.closeSession
  split
  · next h => exact h
  · dsimp only
    rw [raise_reg _ (by decide), reg_setReg_of_ref _ (by decide), onSess_reg, reg_setReg_of_ref _ (by decide), reg_setReg_of_ref _ (by decide),
      reg_setReg_same, Nat.zero_mod]

theorem sess_onSess_same (n : Nat) (f : SessRun → SessRun) : (s.onSess n f).sess n = f (s.sess n) := tget_tput_same _ _ _ _

theorem sess_of_steward {s u : State} (h : u.steward = s.steward) (n : Nat) : u.sess n = s.sess n := by simp only [State.sess, h]

theorem closeSession_sess {n : Nat} (hopen : s.reg R.ses_ID n ≠ 0) (cause : Nat) : (s.closeSession n cause).sess n = {} := by
  unfold State.closeSession
  rw [if_neg hopen]
  dsimp only
  rw [sess_of_steward (raise_steward _ _ _), sess_of_steward (setReg_steward _ _ _ _), sess_onSess_same]

/-- The write lock of a session goes with it. -/
theorem closeSession_lockOwner {n : Nat} (hopen : s.reg R.ses_ID n ≠ 0) (hown : s.reg R.stw_LOCK_OWNER = s.reg R.ses_ID n) (cause : Nat) :
    (s.closeSession n cause).reg R.stw_LOCK_OWNER = 0 := by
  have howns : (s.lockForceAll (16 + n) 2).reg R.stw_LOCK_OWNER = (s.lockForceAll (16 + n) 2).reg R.ses_ID n := by
    rw [lockForceAll_reg s (by decide) (by decide), lockForceAll_reg s (by decide) (by decide), hown]
  unfold State.closeSession
  rw [if_neg hopen]
  simp only [if_pos howns]
  rw [raise_reg _ (by decide), reg_setReg_of_ref _ (by decide), onSess_reg, reg_setReg_of_ref _ (by decide), reg_setReg_of_ref _ (by decide),
    reg_setReg_of_ref _ (by decide), State.setWriteLock, raise_reg _ (by decide), reg_setReg_same, Nat.zero_mod]

/-! ### A session that opens (R431) -/

section
variable (n c nonce source : Nat)

/-- The slot `n` with the registers of a session that opens, before the session has its window. -/
def State.slotted (s : State) (n cls nonce source : Nat) : State :=
  let c := s.nextCounter n
  let ident := s.reg R.stw_BOOT_COUNT % 1024 * 2 ^ 22 + c * 2 ^ 6 + n
  let s := { s with steward := { s.steward with
    counters := tput (fun _ => 0) n c s.steward.counters,
    opens := ({ cls := cls, nonce := nonce, source := source, ident := ident } : OpenRec) ::
      ((s.steward.opens.filter fun o : OpenRec => o.cls == cls).take 63 ++ s.steward.opens.filter fun o : OpenRec => o.cls != cls) } }
  let s := ((s.setReg R.ses_ID n ident).setReg R.ses_SOURCE n source).setReg R.ses_HIGH n 0
  ((s.setReg R.ses_TIMEOUT n 60).setReg R.ses_NOTIFY_SEQ n 0).setReg R.ses_REQUESTS n 0

theorem slotted_mono : (s.slotted n c nonce source).mono = s.mono := by
  unfold State.slotted
  rw [setReg_mono, setReg_mono, setReg_mono, setReg_mono, setReg_mono, setReg_mono]

theorem openSlot_eq : s.openSlot n c nonce source =
    ((((s.slotted n c nonce source).onSess n fun _ => { done := openWindow, lastReq := (s.slotted n c nonce source).mono }).inc R.stw_SESSIONS).raise
      0x1101 (n + c * 256)).answerWith (leBytes 4 (s.reg R.stw_BOOT_COUNT % 1024 * 2 ^ 22 + s.nextCounter n * 2 ^ 6 + n)) := rfl

theorem openSlot_reply : (s.openSlot n c nonce source).reply =
    ⟨true, 0, leBytes 4 (s.reg R.stw_BOOT_COUNT % 1024 * 2 ^ 22 + s.nextCounter n * 2 ^ 6 + n)⟩ := rfl

theorem openSlot_ident : (s.openSlot n c nonce source).reg R.ses_ID n =
    (s.reg R.stw_BOOT_COUNT % 1024 * 2 ^ 22 + s.nextCounter n * 2 ^ 6 + n) % 2 ^ 32 := by
  simp only [State.openSlot]
  rw [answerWith_reg, raise_reg _ (by decide), reg_inc_of_ref _ (by decide), onSess_reg, reg_setReg_of_ref _ (by decide),
    reg_setReg_of_ref _ (by decide), reg_setReg_of_ref _ (by decide), reg_setReg_of_ref _ (by decide), reg_setReg_of_ref _ (by decide), reg_setReg_same]

theorem openSlot_timeout : (s.openSlot n c nonce source).reg R.ses_TIMEOUT n = 60 := by
  simp only [State.openSlot]
  rw [answerWith_reg, raise_reg _ (by decide), reg_inc_of_ref _ (by decide), onSess_reg, reg_setReg_of_ref _ (by decide),
    reg_setReg_of_ref _ (by decide), reg_setReg_same]
  rfl

theorem openSlot_high : (s.openSlot n c nonce source).reg R.ses_HIGH n = 0 := by
  simp only [State.openSlot]
  rw [answerWith_reg, raise_reg _ (by decide), reg_inc_of_ref _ (by decide), onSess_reg, reg_setReg_of_ref _ (by decide),
    reg_setReg_of_ref _ (by decide), reg_setReg_of_ref _ (by decide), reg_setReg_same, Nat.zero_mod]

theorem openSlot_requests : (s.openSlot n c nonce source).reg R.ses_REQUESTS n = 0 := by
  simp only [State.openSlot]
  rw [answerWith_reg, raise_reg _ (by decide), reg_inc_of_ref _ (by decide), onSess_reg, reg_setReg_same, Nat.zero_mod]

theorem openSlot_sessions : (s.openSlot n c nonce source).reg R.stw_SESSIONS = (s.reg R.stw_SESSIONS + 1) % 2 ^ R.stw_SESSIONS.bits := by
  simp only [State.openSlot]
  rw [answerWith_reg, raise_reg _ (by decide), reg_inc_same, onSess_reg, reg_setReg_of_ref _ (by decide), reg_setReg_of_ref _ (by decide),
    reg_setReg_of_ref _ (by decide), reg_setReg_of_ref _ (by decide), reg_setReg_of_ref _ (by decide), reg_setReg_of_ref _ (by decide)]
  rfl

theorem openSlot_sess : (s.openSlot n c nonce source).sess n = { done := openWindow, lastReq := s.mono } := by
  rw [openSlot_eq, sess_of_steward (answerWith_steward _ _), sess_of_steward (raise_steward _ _ _), sess_of_steward (inc_steward _ _ _),
    sess_onSess_same, slotted_mono]

end

end

/-! ### The commands -/

/-- A port that carries a session opens one in the first free slot of its class. -/
theorem obpOpen_opens {port : ObpPort} {nonce n : Nat} {s : State} (hup : (match port with
      | .link k => decide (k < 256) && s.reg R.link_STATE k == 2 | .service => s.on R.dbg_SESSION | _ => true) = true)
    (hanswers : s.dictAnswers ⟨portClass port, none⟩ = true) (hclosed : s.opensClosed ⟨portClass port, none⟩ = false)
    (hnew : s.sameOpen (classCode (portClass port)) nonce (s.sourceOfPort port) = none)
    (hfree : (classSlots (classCode (portClass port))).find? (fun n => !s.on R.ses_ID n) = some n) :
    port.wf = true ∧ opObpOpen port nonce s = s.openSlot n (classCode (portClass port)) nonce (s.sourceOfPort port) := by
  cases port with
  | spi => exact ⟨rfl, by simp [opObpOpen, hanswers, hclosed, hnew, hfree]⟩
  | mgmt a p => exact ⟨rfl, by simp [opObpOpen, hanswers, hclosed, hnew, hfree]⟩
  | link k =>
    obtain ⟨hk, hlink⟩ := Bool.and_eq_true_iff.mp hup
    exact ⟨hk, by simp only [opObpOpen, hanswers, hclosed, hnew, hfree, hlink]; rfl⟩
  | service =>
    have hsession : s.on R.dbg_SESSION = true := hup
    exact ⟨rfl, by simp [opObpOpen, hanswers, hclosed, hnew, hfree, hsession]⟩

/-- An OPEN repeated with its NONCE is answered its ID again. -/
theorem obpOpen_again {nonce n : Nat} {s : State} (hanswers : s.dictAnswers ⟨.host, none⟩ = true) (hclosed : s.opensClosed ⟨.host, none⟩ = false)
    (hsame : s.sameOpen (classCode .host) nonce (s.sourceOfPort .spi) = some n) :
    opObpOpen .spi nonce s = s.answerWith (leBytes 4 (s.reg R.ses_ID n)) := by
  simp [opObpOpen, portClass, hanswers, hclosed, hsame]

/-- The session of slot `n` that is about to close. -/
def State.closingNow (s : State) (n : Nat) : State := (s.onSess n fun x => { x with closing := true }).ok

theorem obpClose_closes {w : Who} {n : Nat} {s : State} (hanswers : s.dictAnswers w = true) (hclosed : s.readsClosed w 0 = false)
    (hslot : w.slot = some n) (hopen : s.on R.ses_ID n = true) : opObpClose w s = (s.closingNow n).closeSession n 0 := by
  have hmark : s.markClose w = s.closingNow n := by
    rw [State.markClose, hslot]
    exact if_pos hopen
  have hclosing : ((s.closingNow n).sess n).closing = true :=
    congrArg SessRun.closing (sess_onSess_same s n fun x => { x with closing := true })
  simp only [opObpClose, State.othersClosed, hanswers, hclosed, hmark, State.finishClose, hslot, hclosing]
  rfl

theorem lockDenied_own {w : Who} {n : Nat} {s : State} (hslot : w.slot = some n) (hident : s.reg R.ses_ID n ≠ 0) :
    s.lockDenied w (s.reg R.ses_ID n) = false := by
  simp [State.lockDenied, State.ownId, hslot, hident]

theorem writeLockClaim_claims {w : Who} {n : Nat} {s : State} (hw : s.mayWrite w R.stw_LOCK_OWNER 0 = true) (hslot : w.slot = some n)
    (hident : s.reg R.ses_ID n ≠ 0) (hfree : s.reg R.stw_LOCK_OWNER = 0) :
    opWriteLockClaim w (s.reg R.ses_ID n) s =
      (((s.setReg R.stw_LOCK_OWNER 0 (s.reg R.ses_ID n)).raise 0x1103 (n + 256)).inc R.stw_LOCK_CLAIMS).ok := by
  have hdenied : ¬ (s.dictAnswers w && s.lockDenied w (s.reg R.ses_ID n)) = true := by rw [lockDenied_own hslot hident, Bool.and_false]; decide
  have hclaim : (s.reg R.ses_ID n != 0 && s.reg R.ses_ID n == s.ownId w) = true := by simp [State.ownId, hslot, hident]
  rw [opWriteLockClaim, if_neg hdenied, writeAs_of_mayWrite hw hclaim, hfree, if_neg (Ne.symm hident), if_neg (by simp [State.on, hfree]),
    State.setWriteLock, hslot]
  simp [b2n, hident]

theorem writeLockRelease_releases {w : Who} {n : Nat} {s : State} (hw : s.mayWrite w R.stw_LOCK_OWNER 0 = true) (hslot : w.slot = some n)
    (hown : s.reg R.stw_LOCK_OWNER = s.reg R.ses_ID n) (hident : s.reg R.ses_ID n ≠ 0) :
    opWriteLockRelease w s = ((s.setReg R.stw_LOCK_OWNER 0 0).raise 0x1103 n).ok := by
  have hdenied : ¬ (s.dictAnswers w && s.lockDenied w 0) = true := by simp [State.lockDenied, State.lockForeign, hslot, hown]
  have hheld : ¬ (!s.on R.stw_LOCK_OWNER) = true := by simp [State.on, hown, hident]
  have howner : ¬ s.reg R.stw_LOCK_OWNER ≠ s.ownId w := by simp [State.ownId, hslot, hown]
  rw [opWriteLockRelease, if_neg hdenied, writeAs_of_mayWrite hw rfl, if_neg hheld, if_neg howner, State.setWriteLock, hslot]
  rfl

/-- A state that has counted a NOTIFY to session `n` and taken its events. -/
def State.notified (s : State) (n : Nat) : State :=
  (s.inc R.ses_NOTIFY_SEQ n).onSess n fun x => { x with events := [], sentAt := s.mono :: s.recentNotify n }

theorem notifySend_sends {t n : Nat} {s : State} (hopen : s.on R.ses_ID n = true) (hevents : (s.sess n).events ≠ [])
    (hroom : slotClass n ≠ some 0 ∨ s.steward.spiOut.length < 8) (hrate : ((s.advanceTo t).recentNotify n).length < 1000)
    (hup : (s.advanceTo t).dictUp ⟨.service, none⟩ = true) :
    opNotifySend t n s = ((s.advanceTo t).silent.notified n).sendFrame (((s.advanceTo t).silent.notified n).sessionPort n)
      (obpFrame 3 (((s.advanceTo t).silent.notified n).reg R.ses_ID n) (((s.advanceTo t).silent.notified n).reg R.ses_NOTIFY_SEQ n)
        (s.sess n).events.length 0 0 ((s.sess n).events.flatMap recordBytesOf)) := by
  have hsess : (s.advanceTo t).silent.sess n = s.sess n := sess_of_steward (advanceTo_steward s t) n
  have hid : (s.advanceTo t).silent.on R.ses_ID n = true := by rw [State.on, silent_reg, advanceTo_reg]; exact hopen
  have hspi : (s.advanceTo t).silent.steward.spiOut.length = s.steward.spiOut.length := by
    rw [show (s.advanceTo t).silent.steward = s.steward from advanceTo_steward s t]
  have hempty : (s.sess n).events.isEmpty = false := by simpa using hevents
  have hfull : (slotClass n == some 0 && decide (8 ≤ s.steward.spiOut.length)) = false := by
    rcases hroom with h | h
    · simp [h]
    · simp [Nat.not_le.mpr h]
  have hrecent : ((s.advanceTo t).silent.recentNotify n).length < 1000 := hrate
  have hup' : (s.advanceTo t).silent.dictUp ⟨.service, none⟩ = true := hup
  simp only [opNotifySend, hsess, hid, hspi, hempty, hfull, hup', decide_eq_false (Nat.not_le.mpr hrecent)]
  rfl

/-- Settles O34: each command by its checks, and the registers and the slot that the session's opening or end leaves. -/
theorem sessionsOpenAndClose : Obligations.SessionsOpenAndClose := by
  unfold Obligations.SessionsOpenAndClose
  refine ⟨fun port c nonce n s hup hc hanswers hclosed hnew hfree => ?opens, fun nonce n s hanswers hclosed hsame => ?again,
    fun w n s hanswers hclosed hslot hopen => ?close, fun t n s hn hhalt hlate => ?timeout, fun w n s hw hopen => ?command,
    fun w n s hw hslot hident hfree => ?claim, fun w n s hw hslot hown hident => ?release,
    fun t n s hn hopen hevents hroom hrate hup => ?notify⟩
  case opens =>
    subst hc
    obtain ⟨hwf, hop⟩ := obpOpen_opens hup hanswers hclosed hnew hfree
    refine ⟨_, command_next s hwf (opObpOpen port nonce), ?_, ?_, ?_, ?_, ?_, ?_, ?_, by rw [hop]⟩
    · rw [ran_reg _ _ (by decide), hop, openSlot_ident]
    · rw [ran_reply, hop, openSlot_reply]
    · rw [ran_reg _ _ (by decide), hop, openSlot_timeout]
    · rw [ran_reg _ _ (by decide), hop, openSlot_high]
    · rw [ran_reg _ _ (by decide), hop, openSlot_requests]
    · rw [sess_of_steward (ran_steward s _), hop, openSlot_sess]
    · rw [ran_reg _ _ (by decide), hop, openSlot_sessions]
  case again =>
    refine (command_next s rfl _).trans ?_
    rw [obpOpen_again hanswers hclosed hsame]
  case close =>
    have hop := obpClose_closes hanswers hclosed hslot hopen
    have hident : (s.closingNow n).reg R.ses_ID n ≠ 0 := by
      rw [State.closingNow, ok_reg, onSess_reg]
      simpa [State.on] using hopen
    refine ⟨_, command_next s rfl (opObpClose w), ?_, ?_, ?_, fun hown => ?_, by rw [hop]; rfl⟩
    · rw [ran_reg _ _ (by decide), hop, closeSession_ident]
    · rw [sess_of_steward (ran_steward s _), hop, closeSession_sess _ hident]
    · rw [ran_reply, hop, closeSession_reply]
      rfl
    · rw [ran_reg _ _ (by decide), hop, closeSession_lockOwner _ hident]
      rw [State.closingNow, ok_reg, ok_reg, onSess_reg, onSess_reg, hown]
  case timeout =>
    have hop : opSessionTimeout t n s = (s.advanceTo t).closeSession n 1 := by
      have hdue : ((s.advanceTo t).dusk.core1.haltedAt.isNone &&
          decide (((s.advanceTo t).sess n).lastReq + (s.advanceTo t).reg R.ses_TIMEOUT n * 1000000000 ≤ (s.advanceTo t).mono)) = true := by
        rw [advanceTo_dusk, hhalt, sess_of_steward (advanceTo_steward s t), advanceTo_reg, decide_eq_true hlate]
        rfl
      exact if_pos hdue
    refine ⟨_, command_next s (decide_eq_true hn) (opSessionTimeout t n), ?_, by rw [hop]⟩
    rw [ran_reg _ _ (by decide), hop, closeSession_ident]
  case command =>
    have hop : opSessionCloseCommand w n s = (s.closeSession n (if w.slot = some n then 0 else 2)).ok := by
      rw [opSessionCloseCommand, writeAs_of_mayWrite hw rfl, hopen]
      rfl
    refine ⟨_, command_next s rfl (opSessionCloseCommand w n), ?_, by rw [ran_reply, hop, ok_reply], by rw [hop]⟩
    rw [ran_reg _ _ (by decide), hop, ok_reg, closeSession_ident]
  case claim =>
    have hop := writeLockClaim_claims hw hslot hident hfree
    refine ⟨_, command_next s rfl (opWriteLockClaim w (s.reg R.ses_ID n)), ?_, by rw [ran_reply, hop, ok_reply], by rw [hop]⟩
    rw [ran_reg _ _ (by decide), hop, ok_reg, reg_inc_of_ref _ (by decide), raise_reg _ (by decide), reg_setReg_same]
  case release =>
    have hop := writeLockRelease_releases hw hslot hown hident
    refine ⟨_, command_next s rfl (opWriteLockRelease w), ?_, by rw [ran_reply, hop, ok_reply], by rw [hop]⟩
    rw [ran_reg _ _ (by decide), hop, ok_reg, raise_reg _ (by decide), reg_setReg_same, Nat.zero_mod]
  case notify =>
    have hop := notifySend_sends hopen hevents hroom hrate hup
    have hseq : ((s.advanceTo t).silent.notified n).reg R.ses_NOTIFY_SEQ n = (s.reg R.ses_NOTIFY_SEQ n + 1) % 2 ^ 32 := by
      rw [State.notified, onSess_reg, reg_inc_same, silent_reg, advanceTo_reg]
    have hid : ((s.advanceTo t).silent.notified n).reg R.ses_ID n = s.reg R.ses_ID n := by
      rw [State.notified, onSess_reg, reg_inc_of_ref _ (by decide), silent_reg, advanceTo_reg]
    have hsess : ((s.ran (opNotifySend t n s)).sess n) = { (s.advanceTo t).sess n with
        events := [], sentAt := (s.advanceTo t).mono :: (s.advanceTo t).recentNotify n } := by
      rw [sess_of_steward (ran_steward s _), hop, sendFrame_sess, State.notified, sess_onSess_same]
      rfl
    refine ⟨_, command_next s (decide_eq_true hn) (opNotifySend t n), ?_, congrArg SessRun.events hsess, congrArg SessRun.sentAt hsess, ?_⟩
    · rw [ran_reg _ _ (by decide), hop, sendFrame_reg, hseq]
    · rw [ran_reply, hop, sendFrame_reply, hid, hseq]

end Sys2Proof.Machine
end


section
/-! The ports of the dictionary (R411, R412, R419, R421, R423, R552): frames in and out, the next request, the console's text. -/

namespace Sys2Proof.Machine

/-! ### Queues -/

theorem nth_upd_same {α : Type} {l : List α} {i : Nat} {d a : α} (f : α → α) (h : l[i]? = some a) : nth (upd l i f) i d = f a := by
  rw [nth, upd, List.getElem?_modify_eq, h]
  rfl

section
variable (s : State)

/-- The registers that a frame received may write beside those of an event. -/
def frameRefs : List Nat := [R.spi_FRAME_ERRORS.ref, R.mgmt_FRAME_ERRORS.ref, R.stw_BUSY_REFUSALS.ref, R.stw_QUEUE_PEAK.ref]

theorem frameError_reg {r : Reg} (hevent : r.ref ∉ raiseRefs) (hframe : r.ref ∉ frameRefs) (port : ObpPort) (j : Nat) :
    (s.frameError port).reg r j = s.reg r j := by
  have hne : ∀ q : Reg, q.ref ∈ frameRefs → r.ref ≠ q.ref := fun q hq e => hframe (e ▸ hq)
  have hspi := reg_inc_of_ref s (hne R.spi_FRAME_ERRORS (by decide)) 0 j
  have hmgmt := reg_inc_of_ref s (hne R.mgmt_FRAME_ERRORS (by decide)) 0 j
  have hraised : ∀ (u : State) (f : Steward → Steward) (c : Nat), ((u.onSteward f).raise 0x1105 c).reg r j = u.reg r j :=
    fun u f c => by rw [raise_reg _ hevent, onSteward_reg]
  cases port with
  | spi =>
    simp only [State.frameError]
    split
    · exact hspi
    · rw [hraised, hspi]
  | mgmt a p =>
    simp only [State.frameError]
    split
    · exact hmgmt
    · rw [hraised, hmgmt]
  | link k =>
    simp only [State.frameError]
    split
    · rfl
    · exact hraised s _ _
  | service =>
    simp only [State.frameError]
    split
    · rfl
    · exact hraised s _ _

theorem enqueueRequest_reg {r : Reg} (hframe : r.ref ∉ frameRefs) (c : Nat) (q : Request) (j : Nat) :
    (s.enqueueRequest c q).reg r j = s.reg r j := by
  have hne : r.ref ≠ R.stw_QUEUE_PEAK.ref := fun e => hframe (e ▸ by decide)
  simp only [State.enqueueRequest]
  rw [reg_peak_of_ref _ hne, onSteward_reg]

theorem takeFrame_reg {r : Reg} (hevent : r.ref ∉ raiseRefs) (hframe : r.ref ∉ frameRefs) (port : ObpPort) (l : List Byte) (j : Nat) :
    (s.takeFrame port l).reg r j = s.reg r j := by
  have hne : r.ref ≠ R.stw_BUSY_REFUSALS.ref := fun e => hframe (e ▸ by decide)
  simp only [State.takeFrame]
  split
  · exact frameError_reg s hevent hframe port j
  · split
    · rw [sendFrame_reg, reg_inc_of_ref _ hne]
    · exact enqueueRequest_reg s hframe _ _ j

theorem pumpSpi_reg {r : Reg} (hevent : r.ref ∉ raiseRefs) (hframe : r.ref ∉ frameRefs) (n j : Nat) :
    ∀ s : State, (s.pumpSpi n).reg r j = s.reg r j := by
  induction n with
  | zero => exact fun _ => rfl
  | succ n ih =>
    intro s
    rw [State.pumpSpi]
    split
    · split
      · rfl
      · rw [ih, takeFrame_reg _ hevent hframe, onSteward_reg]
    · rfl

theorem enqueueRequest_steward (c : Nat) (q : Request) :
    (s.enqueueRequest c q).steward = { s.steward with queues := upd s.steward.queues c fun l => l ++ [q] } := by
  simp only [State.enqueueRequest, State.peak]
  split <;> rfl

/-- A good frame joins the queue of its class while that has room. -/
theorem takeFrame_queued {port : ObpPort} {l : List Byte} (hgood : parseFrame (portFrame port l) ≠ none)
    (hroom : (s.queueOf (portCode port)).length < 64) :
    (s.takeFrame port l).steward =
      { s.steward with queues := upd s.steward.queues (portCode port) fun q => q ++ [⟨port, portFrame port l, false⟩] } := by
  obtain ⟨f, hf⟩ := Option.ne_none_iff_exists'.mp hgood
  simp only [State.takeFrame, hf, if_neg (Nat.not_le.mpr hroom)]
  exact enqueueRequest_steward s _ _

theorem pumpSpi_idle {s : State} (h : s.steward.spiIn = []) (n : Nat) : s.pumpSpi n = s := by
  cases n with
  | zero => rfl
  | succ n => rw [State.pumpSpi, h]

/-- The steward of one frame that the SPI port holds, taken at once. -/
theorem pumpSpi_one {s : State} {l : List Byte} {n : Nat} (hone : s.steward.spiIn = [l]) (hroom : (s.queueOf 0).length < 64)
    (hup : s.dictUp ⟨.host, none⟩ = true) (hgood : parseFrame l ≠ none) :
    (s.pumpSpi (n + 1)).steward = { s.steward with
      spiIn := [], rxFull := false, queues := upd s.steward.queues 0 fun q => q ++ [⟨.spi, l, false⟩] } := by
  have hopen : ¬ (64 ≤ (s.queueOf 0).length ∨ (!s.dictUp ⟨.host, none⟩) = true) := by simp [hroom, hup]
  have htaken := takeFrame_queued (s.onSteward fun w => { w with spiIn := [], rxFull := false }) (port := .spi) (l := l) hgood hroom
  rw [State.pumpSpi, hone]
  simp only [if_neg hopen]
  rw [pumpSpi_idle (by rw [htaken]; rfl), htaken]
  rfl

end

/-- Whether the steward serves the SPI port is no matter of the registers. -/
theorem dictUp_host {s u : State} (hboot : u.boot = s.boot) (hdusk : u.dusk = s.dusk) (hphase : u.phase = s.phase) :
    u.dictUp ⟨.host, none⟩ = s.dictUp ⟨.host, none⟩ := by
  have hclass : (AccessClass.host != AccessClass.operator) = true := rfl
  simp [State.dictUp, hboot, hdusk, hphase, hclass]

/-! ### The console (R552) -/

theorem say_console {s : State} (hfull : s.service.termOut.isSome = true) (l : List Byte) :
    (s.say l).service.console = s.service.console ++ l ++ [0x0A] := by
  simp [State.say, State.fillTermOut, hfull]

theorem say_reg (s : State) (l : List Byte) (r : Reg) (j : Nat) : (s.say l).reg r j = s.reg r j := by
  simp only [State.say, State.fillTermOut]
  split <;> rfl

theorem sayReply_reg (s : State) (r : Reg) (j : Nat) : s.sayReply.reg r j = s.reg r j := by
  simp only [State.sayReply]
  split
  · exact say_reg s _ r j
  · exact say_reg s _ r j

theorem sayReply_error {s : State} (hfull : s.service.termOut.isSome = true) (hreply : s.reply = ⟨true, 1, []⟩) :
    s.sayReply.service.console = s.service.console ++ ascii "err 1" ++ [0x0A] := by
  simp only [State.sayReply, hreply]
  exact say_console hfull _

theorem sayReply_value {s : State} {v : List Byte} (hfull : s.service.termOut.isSome = true) (hreply : s.reply = ⟨true, 0, v⟩) (hv : v ≠ []) :
    s.sayReply.service.console = s.service.console ++ (ascii "ok" ++ (ascii " " ++ hexBytes v)) ++ [0x0A] := by
  have hvalue : v.isEmpty = false := by simpa using hv
  have hsaid : s.sayReply = s.say (ascii "ok" ++ (ascii " " ++ hexBytes v)) := by
    simp only [State.sayReply, hreply, hvalue]
    rfl
  rw [hsaid, say_console hfull]

theorem readEffect_service (s : State) (r : ObjRef) (row : Row) : (s.readEffect r row).service = s.service := by
  have hpower : ∀ (u : State) (f : Power → Power), (u.onPower f).service = u.service := fun _ _ => rfl
  simp only [State.readEffect, apply_ite State.service, onLog_service, hpower, ite_self]

/-- A console command that has been counted and answered, with what it leaves of the console's text. -/
theorem said_requests (s u : State) (hcount : u.reg R.stw_REQUESTS = s.reg R.stw_REQUESTS) :
    (s.ran (u.inc R.stw_REQUESTS).sayReply).reg R.stw_REQUESTS = (s.reg R.stw_REQUESTS + 1) % 2 ^ R.stw_REQUESTS.bits := by
  rw [ran_reg _ _ (by decide), sayReply_reg, reg_inc_same, hcount]

/-! ### The next request (R423) -/

/-- A frame of a session that its source does not have is answered with SESSION. -/
theorem runFrame_unbound {s : State} {port : ObpPort} {f : ObpFrame} (hsession : f.session ≠ 0) (hbound : s.boundSlot port f.session = none) :
    s.runFrame port f = s.sendFrame port (frameStatus f 11) := by
  unfold State.runFrame
  split
  · next h _ _ => exact absurd h hsession
  · rw [hbound]

/-- The steward with the oldest request of class `c` taken. -/
def State.served (s : State) (c : Nat) (rest : List Request) : State :=
  s.onSteward fun w => { w with queues := upd w.queues c fun _ => rest, served := if c = 4 then w.served else c }

theorem requestExecute_runs {t c : Nat} {q : Request} {rest : List Request} {v s : State}
    (hv : v = (((s.advanceTo t).serveTerminal).silent).pumpSpi 4) (hup : v.dictUp ⟨.service, none⟩ = true) (hclass : v.nextClass = some c)
    (hqueue : v.queueOf c = q :: rest) :
    opRequestExecute t s = if c = 4 then (v.served c rest).runMailbox else if q.console then (v.served c rest).runLine q.data
      else match parseFrame q.data with
        | some f => (v.served c rest).runFrame q.port f
        | none => v.served c rest := by
  subst hv
  simp only [opRequestExecute, hup, hclass, hqueue]
  rfl

theorem queueOf_some {s : State} {c : Nat} {q : Request} {rest : List Request} (h : s.queueOf c = q :: rest) :
    s.steward.queues[c]? = some (q :: rest) := by
  unfold State.queueOf nth at h
  cases e : s.steward.queues[c]? with
  | none => simp [e] at h
  | some l => rw [e] at h; exact congrArg some h

theorem served_queueOf {s : State} {c : Nat} {q : Request} {rest : List Request} (h : s.queueOf c = q :: rest) :
    (s.served c rest).queueOf c = rest := nth_upd_same (fun _ => rest) (queueOf_some h)

/-! ### The management port (R411, R412) -/

section
variable {s : State} {t src srcPort : Nat} (hlink : s.on R.mgmt_LINK = true) (hip : s.on R.mgmt_IPV4 = true)
  (hup : (s.advanceTo t).silent.dictUp ⟨.operator, none⟩ = true)
include hlink hip hup

/-- The management port is open: its link is up, it has an address and the steward serves the class OPERATOR. -/
theorem mgmtShut_eq_false : (!(s.advanceTo t).silent.on R.mgmt_LINK || !(s.advanceTo t).silent.on R.mgmt_IPV4 ||
    !(s.advanceTo t).silent.dictUp ⟨.operator, none⟩) = false := by
  have hlink' : (s.advanceTo t).silent.on R.mgmt_LINK = true := by rw [← hlink]; simp [State.on]
  have hip' : (s.advanceTo t).silent.on R.mgmt_IPV4 = true := by rw [← hip]; simp [State.on]
  simp [hlink', hip', hup]

theorem mgmtDatagram_udp (hsrc : (s.advanceTo t).silent.mgmtAllows src = true) (data : List Byte) :
    opMgmtDatagram t src srcPort (.udp (s.reg R.mgmt_UDP_PORT) data) s =
      ((s.advanceTo t).silent.inc R.mgmt_RX_FRAMES).takeFrame (.mgmt src srcPort) data := by
  simp [opMgmtDatagram, mgmtShut_eq_false hlink hip hup, hsrc]

theorem mgmtDatagram_arp : opMgmtDatagram t src srcPort (.arpRequest (s.reg R.mgmt_IPV4)) s =
    (s.advanceTo t).silent.answerWith (leBytes 6 (s.reg R.mgmt_MAC_ADDR)) := by
  simp [opMgmtDatagram, mgmtShut_eq_false hlink hip hup]

theorem mgmtDatagram_fragment (hsrc : (s.advanceTo t).silent.mgmtAllows src = true) :
    opMgmtDatagram t src srcPort .fragment s = (s.advanceTo t).silent.inc R.mgmt_FRAGMENTS := by
  simp [opMgmtDatagram, mgmtShut_eq_false hlink hip hup, hsrc]

theorem mgmtDatagram_notAllowed (hsrc : (s.advanceTo t).silent.mgmtAllows src = false) {b : MgmtBody} (hb : ∀ a, b ≠ .arpRequest a) :
    opMgmtDatagram t src srcPort b s = (s.advanceTo t).silent.inc R.mgmt_NOT_ALLOWED := by
  cases b with
  | arpRequest a => exact absurd rfl (hb a)
  | fragment => simp [opMgmtDatagram, mgmtShut_eq_false hlink hip hup, hsrc]
  | other => simp [opMgmtDatagram, mgmtShut_eq_false hlink hip hup, hsrc]
  | udp dst data => simp [opMgmtDatagram, mgmtShut_eq_false hlink hip hup, hsrc]

theorem obpFrameReceive_mgmt (hsrc : (s.advanceTo t).silent.mgmtAllows src = true) (data : List Byte) :
    opObpFrameReceive t (.mgmt src srcPort) data s =
      ((s.advanceTo t).silent.inc R.mgmt_RX_FRAMES).takeFrame (.mgmt src srcPort) data := by
  simp [opObpFrameReceive, portClass, mgmtShut_eq_false hlink hip hup, hsrc]

end

/-- A source that the addresses allow, at any time. -/
theorem mgmtAllows_of_addr {s : State} {src : Nat} (h : ((src ^^^ s.reg R.mgmt_ALLOW_ADDR) &&& s.reg R.mgmt_ALLOW_MASK) = 0) (t : Nat) :
    (s.advanceTo t).silent.mgmtAllows src = true := by
  simp [State.mgmtAllows, h]

/-- No register that every command may change lies in the management port's object. -/
theorem settleRefs_outside_mgmt : ∀ q ∈ settleRefs, q < 0x110100 ∨ 0x110200 ≤ q := by decide

theorem mgmt_own {sub : Nat} (h : sub < 256) : (⟨0x110100 + sub, 64⟩ : Reg).own := fun hmem => by
  have := settleRefs_outside_mgmt _ hmem
  simp only at this
  omega

theorem reg_putNum (s : State) (index sub bits v : Nat) : (s.putNum ⟨index, 0, sub⟩ v).reg ⟨index * 256 + sub, bits⟩ 0 = v := by
  rw [State.reg, State.putNum]
  exact tget_tput_same _ _ _ _

theorem tget_eq_reg (s : State) (ref bits : Nat) : tget regKeyDefault s.regs (regKey ref 0) = s.reg ⟨ref, bits⟩ 0 := rfl

/-- The settings that a request has left waiting take effect in their order. -/
theorem mgmtConfigApply_one {s : State} {sub v : Nat} (hsub : sub < 256) (hone : s.steward.mgmtWait = [(sub, v)]) :
    tget regKeyDefault (s.ran (opMgmtConfigApply s)).regs (regKey (0x110100 + sub) 0) = v := by
  have hbase : 0x110100 + sub = 0x1101 * 256 + sub := by omega
  have hop : opMgmtConfigApply s = (s.onSteward fun w => { w with mgmtWait := [] }).putNum ⟨0x1101, 0, sub⟩ v := by
    rw [opMgmtConfigApply, hone]
    rfl
  rw [tget_eq_reg _ _ 64, ran_reg _ _ (mgmt_own hsub), hop, hbase, reg_putNum]

/-! ### The settlement of this family -/

/-! ### The SPI port (R421) -/

section
variable {s : State} {data : List Byte} (hopen : s.silent.spiOpen = true)
include hopen

theorem writeFrame_whole (hroom : s.steward.spiIn.length < 4) : opWriteFrame data true s =
    ((s.silent.onSteward fun w => { w with spiIn := w.spiIn ++ [data] }).inc R.spi_RX_FRAMES).pumpSpi 4 := by
  simp [opWriteFrame, hopen, Nat.not_le.mpr hroom]

theorem writeFrame_broken (hroom : s.steward.spiIn.length < 4) : opWriteFrame data false s =
    (s.silent.inc R.spi_RX_FRAMES).frameError .spi := by
  simp [opWriteFrame, hopen, Nat.not_le.mpr hroom]

theorem writeFrame_full (hfull : 4 ≤ s.steward.spiIn.length) (whole : Bool) : opWriteFrame data whole s =
    (s.silent.onSteward fun w => { w with rxFull := true }).inc R.spi_RX_FULL_DROPS := by
  simp [opWriteFrame, hopen, hfull]

end

/-- A frame on a port other than the SPI port joins the queue of its class, which is the third here. -/
theorem takeFrame_link {s : State} {k : Nat} {data : List Byte} {a b c : List Request} {rest : List (List Request)}
    (hqueues : s.steward.queues = a :: b :: c :: rest) (hroom : c.length < 64) (hgood : parseFrame (portFrame (.link k) data) ≠ none) :
    (s.takeFrame (.link k) data).steward.queues = a :: b :: (c ++ [⟨.link k, portFrame (.link k) data, false⟩]) :: rest := by
  have hlength : (s.queueOf (portCode (.link k))).length < 64 := by
    rw [State.queueOf, hqueues]
    exact hroom
  rw [takeFrame_queued s hgood hlength, hqueues]
  rfl

theorem takeFrame_mgmt {s : State} {src srcPort : Nat} {data : List Byte} {a b : List Request} {rest : List (List Request)}
    (hqueues : s.steward.queues = a :: b :: rest) (hroom : b.length < 64) (hgood : parseFrame data ≠ none) :
    (s.takeFrame (.mgmt src srcPort) data).steward.queues = a :: (b ++ [⟨.mgmt src srcPort, data, false⟩]) :: rest := by
  have hlength : (s.queueOf (portCode (.mgmt src srcPort))).length < 64 := by
    rw [State.queueOf, hqueues]
    exact hroom
  rw [takeFrame_queued s (port := .mgmt src srcPort) (l := data) hgood hlength, hqueues]
  rfl

/-! ### What the console answers (R552) -/

theorem readRoom_noObject {s : State} {w : Who} {r : ObjRef} (hanswers : s.dictAnswers w = true) (hrow : findRow r = none) (room : Nat) :
    s.readRoom w r 0 0 room = s.noSuchObject := by
  simp [State.readRoom, hanswers, hrow]

theorem obpWrite_noObject {s : State} {w : Who} {r : ObjRef} (hanswers : s.dictAnswers w = true) (hrow : findRow r = none) (data : List Byte) :
    opObpWrite w r 0 true data s = s.noSuchObject := by
  simp [opObpWrite, hanswers, hrow]

theorem readRoom_value {s : State} {w : Who} {r : ObjRef} {row : Row} {room : Nat} (hanswers : s.dictAnswers w = true)
    (hrow : findRow r = some row) (hread : row.acc.readable = true) (hacc : row.acc ≠ .rs) (hdenied : s.readDenied r = false)
    (hdomain : row.ty.isDomain = false) (hclosed : s.readsClosed w r.index = false) (hroom : (s.valueOf r row).length ≤ room) :
    s.readRoom w r 0 0 room = (s.readEffect r row).answerWith (s.valueOf r row) := by
  simp [State.readRoom, hanswers, hrow, hread, hacc, hdenied, hdomain, hclosed, Nat.not_lt.mpr hroom]

theorem sayReply_noObject {s : State} (hfull : s.service.termOut.isSome = true) :
    (s.noSuchObject.inc R.stw_REQUESTS).sayReply.service.console = s.service.console ++ ascii "err 1" ++ [0x0A] :=
  sayReply_error (s := s.noSuchObject.inc R.stw_REQUESTS) hfull rfl

/-! ### The settlement -/

/-- Settles O33: each command of a port in its own branch of the port's operation. -/
theorem portsOfTheDictionary : Obligations.PortsOfTheDictionary := by
  unfold Obligations.PortsOfTheDictionary
  refine ⟨fun data s hopen hroom => ?whole, fun data whole s hopen hfull => ?full, fun data s hopen hroom => ?broken,
    fun l rest s hopen hout => ?read, fun s hopen hout => ?idle, fun l rest s hopen hout => ?status,
    fun t src srcPort data s haddr hlink hip hup => ?udp, fun t src srcPort s hlink hip hup => ?arp,
    fun t src srcPort s hlink hip hup hsrc => ?fragment, fun t src srcPort b s hlink hip hup hsrc hb => ?notAllowed,
    fun t k data s hk hlink hup => ?link, fun t data s hsession hup => ?service,
    fun t src srcPort data s hlink hip hup hsrc haddr hport => ?mgmt,
    fun t c q rest f v s hv hup hclass hc hqueue hframe hparse => ?request, fun t c q rest v s hv hup hclass hqueue hother => ?text,
    fun s => ?apply, fun goes s hlink => ?change, fun r s hruns => ?consoleRead, fun r data s hruns => ?consoleWrite⟩
  case whole =>
    have hop := writeFrame_whole (data := data) hopen hroom
    refine ⟨_, command_next s rfl (opWriteFrame data true), ?_, fun q rest hin hqueues hlength hup hgood => ?_, by rw [hop]⟩
    · rw [ran_reg _ _ (by decide), hop, pumpSpi_reg (by decide) (by decide), reg_inc_same, onSteward_reg, silent_reg]
    · have hone : ((s.silent.onSteward fun w => { w with spiIn := w.spiIn ++ [data] }).inc R.spi_RX_FRAMES).steward.spiIn = [data] := by
        rw [inc_steward]
        exact congrArg (· ++ [data]) hin
      have hqueue : ((s.silent.onSteward fun w => { w with spiIn := w.spiIn ++ [data] }).inc R.spi_RX_FRAMES).queueOf 0 = q :=
        congrArg (fun l => nth l 0 []) hqueues
      rw [ran_steward, hop, pumpSpi_one (n := 3) hone (hqueue ▸ hlength) ((dictUp_host rfl rfl rfl).trans hup) hgood]
      refine ⟨rfl, rfl, ?_⟩
      simp only [inc_steward]
      exact congrArg (fun l : List (List Request) => upd l 0 fun q => q ++ [⟨.spi, data, false⟩]) hqueues
  case full => exact (command_next s rfl (opWriteFrame data whole)).trans (by rw [writeFrame_full hopen hfull])
  case broken => exact (command_next s rfl (opWriteFrame data false)).trans (by rw [writeFrame_broken hopen hroom])
  case read =>
    have hop : opReadFrame s = (s.onSteward fun w => { w with spiOut := rest }).answerWith l := by simp [opReadFrame, hopen, hout]
    refine ⟨_, command_next s rfl opReadFrame, ?_, ?_, by rw [hop]⟩
    · rw [ran_steward, hop]
      rfl
    · rw [ran_reply, hop]
      rfl
  case idle =>
    refine ⟨(command_next s rfl opReadFrame).trans (by simp [opReadFrame, hopen, hout]), (command_next s rfl opReadStatus).trans ?_⟩
    simp [opReadStatus, hopen, hout, b2n]
  case status => exact (command_next s rfl opReadStatus).trans (by simp [opReadStatus, hopen, hout, b2n])
  case udp =>
    have hop := mgmtDatagram_udp (srcPort := srcPort) hlink hip hup (mgmtAllows_of_addr haddr t) data
    refine ⟨_, command_next s rfl (opMgmtDatagram t src srcPort (.udp (s.reg R.mgmt_UDP_PORT) data)), ?_,
      fun a b rest hqueues hlength hgood => ?_, by rw [hop]⟩
    · rw [ran_reg _ _ (by decide), hop, takeFrame_reg _ (by decide) (by decide), reg_inc_same, silent_reg, advanceTo_reg]
    · rw [ran_steward, hop]
      refine takeFrame_mgmt ?_ hlength hgood
      rw [inc_steward]
      exact (congrArg Steward.queues (advanceTo_steward s t)).trans hqueues
  case arp =>
    exact (command_next s rfl (opMgmtDatagram t src srcPort (.arpRequest (s.reg R.mgmt_IPV4)))).trans
      (by rw [mgmtDatagram_arp hlink hip hup])
  case fragment =>
    exact (command_next s rfl (opMgmtDatagram t src srcPort .fragment)).trans (by rw [mgmtDatagram_fragment hlink hip hup hsrc])
  case notAllowed =>
    exact (command_next s rfl (opMgmtDatagram t src srcPort b)).trans (by rw [mgmtDatagram_notAllowed hlink hip hup hsrc hb])
  case link =>
    have hlink' : (s.advanceTo t).silent.linkUp k = true := by rw [← hlink]; simp [State.linkUp]
    have hop : opObpFrameReceive t (.link k) data s = (s.advanceTo t).silent.takeFrame (.link k) data := by
      simp [opObpFrameReceive, portClass, hlink', hup]
    refine ⟨_, command_next s (decide_eq_true hk) (opObpFrameReceive t (.link k) data),
      fun a b c rest hqueues hlength hgood => ?_, by rw [hop]⟩
    rw [ran_steward, hop]
    exact takeFrame_link ((congrArg Steward.queues (advanceTo_steward s t)).trans hqueues) hlength hgood
  case service =>
    have hsession' : (s.advanceTo t).silent.on R.dbg_SESSION = true := by rw [← hsession]; simp [State.on]
    exact (command_next s rfl (opObpFrameReceive t .service data)).trans
      (by simp [opObpFrameReceive, portClass, hsession', hup])
  case mgmt =>
    exact (command_next s rfl (opObpFrameReceive t (.mgmt src srcPort) data)).trans
      (by rw [obpFrameReceive_mgmt hlink hip hup hsrc])
  case request =>
    have hserved : v.served c rest = v.onSteward fun w => { w with queues := upd w.queues c fun _ => rest, served := c } := by
      simp only [State.served, if_neg (Nat.ne_of_lt hc)]
    have hop : opRequestExecute t s = (v.served c rest).runFrame q.port f := by
      rw [requestExecute_runs hv hup hclass hqueue, if_neg (Nat.ne_of_lt hc), hframe, hparse]
      rfl
    refine ⟨_, command_next s rfl (opRequestExecute t), fun hsession hbound => ?_, by rw [hop, hserved]⟩
    have hrun : opRequestExecute t s = (v.served c rest).sendFrame q.port (frameStatus f 11) := by
      rw [hop]
      exact runFrame_unbound hsession hbound
    obtain ⟨out, hout⟩ := sendFrame_steward (v.served c rest) q.port (frameStatus f 11)
    have hsteward : (s.ran (opRequestExecute t s)).steward = { (v.served c rest).steward with spiOut := out } := by
      rw [ran_steward, hrun, hout]
    refine ⟨?_, ?_, ?_⟩
    · rw [State.queueOf, hsteward]
      exact served_queueOf hqueue
    · rw [hsteward, hserved]
      rfl
    · rw [ran_reply, hrun, sendFrame_reply]
      rfl
  case text =>
    refine (command_next s rfl (opRequestExecute t)).trans ?_
    rw [requestExecute_runs hv hup hclass hqueue]
    rcases Decidable.em (c = 4) with hwatch | hclass4
    · subst hwatch
      rfl
    · rw [if_neg hclass4, if_neg hclass4, if_pos (hother.resolve_left hclass4), State.served]
      simp only [if_neg hclass4]
  case apply =>
    refine ⟨_, command_next s rfl opMgmtConfigApply, ?_, fun sub v hsub hone => mgmtConfigApply_one hsub hone, rfl⟩
    rw [ran_steward, opMgmtConfigApply, each_keeps State.steward (fun u (e : Nat × Nat) => u.putNum ⟨0x1101, 0, e.1⟩ e.2) (fun _ _ => rfl)]
    rfl
  case change =>
    have hne : (s.on R.mgmt_LINK == goes) = false := by rw [hlink]; cases goes <;> rfl
    have hop : opMgmtLinkChange goes s = (s.setReg R.mgmt_LINK 0 (b2n goes)).raise 0x1104 (b2n goes) := by
      simp only [opMgmtLinkChange, hne, Bool.false_eq_true, if_false]
    refine ⟨_, command_next s rfl (opMgmtLinkChange goes), ?_, by rw [hop]⟩
    rw [ran_reg _ _ (by decide), hop, raise_reg _ (by decide), reg_setReg_same]
    cases goes <;> rfl
  case consoleRead =>
    have hop : opConsoleRead r s = ((s.readRoom ⟨.service, none⟩ r 0 0 4056).inc R.stw_REQUESTS).sayReply := by
      simp [opConsoleRead, hruns, frameLimit]
    refine ⟨_, command_next s rfl (opConsoleRead r), fun hrow hanswers hfull => ?_,
      fun row hrow hanswers hfull hread hacc hdenied hdomain hclosed hroom hvalue => ?_, by rw [hop]⟩
    · rw [hop, readRoom_noObject hanswers hrow]
      exact ⟨(congrArg Service.console (ran_service s _)).trans (sayReply_noObject hfull), said_requests s _ rfl⟩
    · have hconsole : ((((s.readEffect r row).answerWith (s.valueOf r row)).inc R.stw_REQUESTS)).service = s.service :=
        readEffect_service s r row
      rw [ran_service, hop, readRoom_value hanswers hrow hread hacc hdenied hdomain hclosed hroom,
        sayReply_value (hconsole ▸ hfull) rfl hvalue, hconsole]
  case consoleWrite =>
    have hop : opConsoleWrite r data s = ((opObpWrite ⟨.service, none⟩ r 0 true data s).inc R.stw_REQUESTS).sayReply := by
      simp [opConsoleWrite, hruns]
    refine ⟨_, command_next s rfl (opConsoleWrite r data), fun hrow hanswers hfull => ?_, by rw [hop]⟩
    rw [hop, obpWrite_noObject hanswers hrow]
    exact ⟨(congrArg Service.console (ran_service s _)).trans (sayReply_noObject hfull), said_requests s _ rfl⟩

end Sys2Proof.Machine
end


section
/-! HELLO in BLANK (R542): the session that it ends may hold a lock, whose release wakes a core at whose boundary time passes. -/

namespace Sys2Proof.Machine

theorem exec_hello (t : Nat) (s : State) : exec (.hello t) s = .next (s.ran (opHello t s)) := command_next s rfl _

/-- A blank device in a service session that owns lock 0, with core 0 idle, line 6 enabled, and a halt due at its next boundary. -/
def sleepingOwner : State :=
  ((((State.reset.setReg R.dbg_SESSION 0 1).setReg R.ses_ID 52 1).setReg R.lock_OWNER 0 68).setReg R.core_STATE 0 2).setReg R.core_CYCLES 0 100
    |>.onCore 0 fun k => { k with irqEn := 64, haltDue := some (1, 0), stepFrom := some (0, 0) }

theorem sleepingOwner_blank : sleepingOwner.board.trstN = true ∧ sleepingOwner.reg R.lc_STATE = 0 ∧
    sleepingOwner.service.lockUntil ≤ (sleepingOwner.advanceTo 0).mono ∧ (sleepingOwner.advanceTo 0).mono = 0 := by decide +kernel

/-- The cycles of core 0 up to its halt have passed before the new session's first record. -/
theorem sleepingOwner_lastRecord : (sleepingOwner.ran (opHello 0 sleepingOwner)).service.lastRecord = 250 := by decide +kernel

/-- Refutes O38: its clause of HELLO in BLANK takes the session's first record at the time of the command; the session that HELLO ends may release a
lock, whose line wakes core 0, and a halt due there takes its time first. -/
theorem not_serviceSessionsOpenAndEnd : ¬ Obligations.ServiceSessionsOpenAndEnd := by
  unfold Obligations.ServiceSessionsOpenAndEnd
  rintro ⟨-, hblank, -⟩
  obtain ⟨hboard, hstate, hlockout, hmono⟩ := sleepingOwner_blank
  obtain ⟨u, hexec, -, -, -, -, hrecord, -⟩ := hblank 0 sleepingOwner hboard hstate hlockout
  rw [exec_hello] at hexec
  injection hexec with hu
  rw [← hu, sleepingOwner_lastRecord, hmono] at hrecord
  exact absurd hrecord (by decide)

end Sys2Proof.Machine
end


section
/-! Lanes (R375, R391, Table 13.4): what a change of state, a return and a lane that comes UP leave unchanged. -/

namespace Sys2Proof.Machine

theorem regKey_congr (ref : Nat) {i j : Nat} (h : i % 2 ^ 24 = j % 2 ^ 24) : regKey ref i = regKey ref j := by
  rw [regKey, regKey, h]

theorem reg_congr_inst (s : State) (r : Reg) {i j : Nat} (h : i % 2 ^ 24 = j % 2 ^ 24) : s.reg r i = s.reg r j := by
  rw [State.reg, State.reg, regKey_congr _ h]

/-! ### The run of a lane -/

theorem laneRun_of_lanes {s u : State} (h : u.lanes = s.lanes) (l : Nat) : u.laneRun l = s.laneRun l := by simp only [State.laneRun, h]

section
variable (s : State)

@[simp] theorem laneRun_onLane_same (l : Nat) (f : LaneRun → LaneRun) : (s.onLane l f).laneRun l = f (s.laneRun l) := tget_tput_same _ _ _ _

theorem laneRun_onLane_ne {l x : Nat} (h : x ≠ l) (f : LaneRun → LaneRun) : (s.onLane l f).laneRun x = s.laneRun x := tget_tput_ne _ h _ _

@[simp] theorem laneRun_advanceTo (t l : Nat) : (s.advanceTo t).laneRun l = s.laneRun l := laneRun_of_lanes (advanceTo_lanes s t) l
@[simp] theorem laneRun_setReg (r : Reg) (i v l : Nat) : (s.setReg r i v).laneRun l = s.laneRun l := rfl
@[simp] theorem laneRun_setDom (r : Reg) (i : Nat) (d : List Byte) (l : Nat) : (s.setDom r i d).laneRun l = s.laneRun l := rfl
@[simp] theorem laneRun_raise (c d l : Nat) : (s.raise c d).laneRun l = s.laneRun l := laneRun_of_lanes (raise_lanes s c d) l
@[simp] theorem laneRun_ran (u : State) (l : Nat) : (s.ran u).laneRun l = u.laneRun l := laneRun_of_lanes (ran_lanes s u) l

/-! ### The groups of lanes -/

theorem portLanes_congr {s u : State} (h : ∀ i, u.reg R.eth_TYPE i = s.reg R.eth_TYPE i) (p : Nat) : u.portLanes p = s.portLanes p := by
  simp only [State.portLanes, h]

theorem portOf_congr {s u : State} (htype : ∀ i, u.reg R.eth_TYPE i = s.reg R.eth_TYPE i)
    (henable : ∀ i, u.reg R.eth_ENABLE i = s.reg R.eth_ENABLE i) (l : Nat) : u.portOf l = s.portOf l := by
  simp only [State.portOf, State.on, henable, portLanes_congr htype]

theorem linkOf_congr {s u : State} (hwidth : ∀ i, u.reg R.link_WIDTH i = s.reg R.link_WIDTH i)
    (henable : ∀ i, u.reg R.link_ENABLE i = s.reg R.link_ENABLE i) (l : Nat) : u.linkOf l = s.linkOf l := by
  simp only [State.linkOf, State.on, henable, State.linkLanes, hwidth]

/-- The registers that make the groups of lanes. -/
def groupRefs : List Nat := [R.eth_TYPE.ref, R.eth_ENABLE.ref, R.link_WIDTH.ref, R.link_ENABLE.ref]

/-- A lane is in the groups it was in, when the registers that make them are as they were. -/
theorem groups_congr {s u : State} (h : ∀ r : Reg, r.ref ∈ groupRefs → ∀ i, u.reg r i = s.reg r i) (l : Nat) :
    u.portOf l = s.portOf l ∧ u.linkOf l = s.linkOf l :=
  ⟨portOf_congr (h R.eth_TYPE (by decide)) (h R.eth_ENABLE (by decide)) l,
    linkOf_congr (h R.link_WIDTH (by decide)) (h R.link_ENABLE (by decide)) l⟩

theorem laneGroup_congr {s u : State} (h : ∀ r : Reg, r.ref ∈ groupRefs → ∀ i, u.reg r i = s.reg r i) (l : Nat) :
    u.laneGroup l = s.laneGroup l := by
  obtain ⟨hport, hlink⟩ := groups_congr h l
  simp only [State.laneGroup, State.linkLanes, hport, hlink, h R.link_WIDTH (by decide), portLanes_congr (h R.eth_TYPE (by decide))]

theorem laneGroup_alone {l : Nat} (hlink : s.linkOf l = none) (hport : s.portOf l = none) : s.laneGroup l = [l] := by
  simp only [State.laneGroup, hlink, hport]

theorem laneFollow_alone {l : Nat} (hlink : s.linkOf l = none) (hport : s.portOf l = none) : s.laneFollow l = s := by
  simp only [State.laneFollow, hport, hlink]

/-! ### A lane goes to a state -/

theorem laneTo_reg {r : Reg} (h : r.ref ≠ R.lane_STATE.ref) (l st j : Nat) : (s.laneTo l st).reg r j = s.reg r j := by
  rw [State.laneTo, onLane_reg, reg_setReg_of_ref _ h]

@[simp] theorem laneTo_state (l st : Nat) : (s.laneTo l st).laneState l = st % 2 ^ R.lane_STATE.bits := by
  rw [State.laneState, State.laneTo, onLane_reg, reg_setReg_same]

theorem laneTo_state_ne {l x : Nat} (h : x % 2 ^ 24 ≠ l % 2 ^ 24) (st : Nat) : (s.laneTo l st).laneState x = s.laneState x := by
  rw [State.laneState, State.laneTo, onLane_reg, reg_setReg_of_inst _ _ h]
  rfl

theorem laneTo_run (l st : Nat) : (s.laneTo l st).laneRun l =
    { s.laneRun l with since := s.mono, tried := s.mono, rateIdx := if st = 5 then 0 else (s.laneRun l).rateIdx, fir := [], spoilt := false } := by
  rw [State.laneTo, laneRun_onLane_same, laneRun_setReg]

@[simp] theorem laneTo_mono (l st : Nat) : (s.laneTo l st).mono = s.mono := rfl

/-! ### A lane comes UP -/

/-- The registers of a lane that comes UP. -/
def laneUpRefs : List Nat := raiseRefs ++ [R.lane_STATE.ref, R.lane_ATTEMPTS.ref, R.lane_UP_COUNT.ref]

theorem laneUp_reg {r : Reg} (h : r.ref ∉ laneUpRefs) (l j : Nat) : (s.laneUp l).reg r j = s.reg r j := by
  have hraise : r.ref ∉ raiseRefs := fun e => h (List.mem_append_left _ e)
  have hne : ∀ q : Reg, q.ref ∈ laneUpRefs → r.ref ≠ q.ref := fun q hq e => h (e ▸ hq)
  rw [State.laneUp, raise_reg _ hraise, reg_inc_of_ref _ (hne R.lane_UP_COUNT (by decide)), onLane_reg, laneTo_reg _ (hne R.lane_STATE (by decide)),
    reg_setReg_of_ref _ (hne R.lane_ATTEMPTS (by decide)), setDom_reg, State.setEq, onLane_reg, setDom_reg]

@[simp] theorem laneUp_state (l : Nat) : (s.laneUp l).laneState l = 11 := by
  rw [State.laneState, State.laneUp, raise_reg _ (by decide), reg_inc_of_ref _ (by decide), onLane_reg]
  exact laneTo_state _ l 11

theorem laneUp_attempts (l : Nat) : (s.laneUp l).reg R.lane_ATTEMPTS l = 0 := by
  rw [State.laneUp, raise_reg _ (by decide), reg_inc_of_ref _ (by decide), onLane_reg, laneTo_reg _ (by decide), reg_setReg_same]
  rfl

theorem laneUp_count (l : Nat) : (s.laneUp l).reg R.lane_UP_COUNT l = (s.reg R.lane_UP_COUNT l + 1) % 2 ^ R.lane_UP_COUNT.bits := by
  rw [State.laneUp, raise_reg _ (by decide), reg_inc_same, onLane_reg, laneTo_reg _ (by decide), reg_setReg_of_ref _ (by decide), setDom_reg,
    State.setEq, onLane_reg, setDom_reg]

@[simp] theorem laneUp_mono (l : Nat) : (s.laneUp l).mono = s.mono := by
  rw [State.laneUp, raise_mono, inc_mono, onLane_mono, laneTo_mono, setReg_mono, setDom_mono, State.setEq, onLane_mono, setDom_mono]

theorem laneUp_since (l : Nat) : ((s.laneUp l).laneRun l).since = s.mono := by
  rw [State.laneUp, laneRun_raise, laneRun_of_lanes (inc_lanes _ _ _), laneRun_onLane_same, laneTo_run, setReg_mono, setDom_mono, State.setEq,
    onLane_mono, setDom_mono]

/-! ### A lane is dropped and returns -/

/-- The registers of a lane that is dropped. -/
def dropLaneRefs : List Nat := raiseRefs ++
  [R.lane_STATE.ref, R.lane_GROUP_POS.ref, R.lane_FROZEN.ref, R.lane_PRBS_LOCK.ref, R.lane_PRBS_BITS.ref, R.lane_PRBS_ERRORS.ref, R.sdi_RATE.ref]

theorem endPrbs_reg {r : Reg} (hlock : r.ref ≠ R.lane_PRBS_LOCK.ref) (hbits : r.ref ≠ R.lane_PRBS_BITS.ref) (herrors : r.ref ≠ R.lane_PRBS_ERRORS.ref)
    (l b e j : Nat) : (s.endPrbs l b e).reg r j = s.reg r j := by
  by_cases hon : s.on R.lane_PRBS_LOCK l = true
  · rw [State.endPrbs, if_pos hon, reg_setReg_of_ref _ hlock, State.holdPrbs, if_pos hon, onLane_reg, State.add48, reg_setReg_of_ref _ herrors,
      State.add48, reg_setReg_of_ref _ hbits]
  · rw [State.endPrbs, if_neg hon]

theorem dropLane_reg {r : Reg} (h : r.ref ∉ dropLaneRefs) (l cause st j : Nat) : (s.dropLane l cause st).reg r j = s.reg r j := by
  have hraise : r.ref ∉ raiseRefs := fun e => h (List.mem_append_left _ e)
  have hne : ∀ q : Reg, q.ref ∈ dropLaneRefs → r.ref ≠ q.ref := fun q hq e => h (e ▸ hq)
  have hevent : ∀ u : State, (if u.laneState l = 11 then u.raise 0x2002 (l + cause * 256) else u).reg r j = u.reg r j := by
    intro u
    split
    · exact raise_reg u hraise _ _ j
    · rfl
  have hrate : ∀ u : State, (if u.reg R.lane_MODE l = 2 then u.setReg R.sdi_RATE l 0 else u).reg r j = u.reg r j := by
    intro u
    split
    · exact reg_setReg_of_ref u (hne R.sdi_RATE (by decide)) _ _ _
    · rfl
  unfold State.dropLane
  split
  · rfl
  · rw [laneTo_reg _ (hne R.lane_STATE (by decide)), onLane_reg, hrate,
      endPrbs_reg _ (hne R.lane_PRBS_LOCK (by decide)) (hne R.lane_PRBS_BITS (by decide)) (hne R.lane_PRBS_ERRORS (by decide)),
      reg_setReg_of_ref _ (hne R.lane_FROZEN (by decide)), reg_setReg_of_ref _ (hne R.lane_GROUP_POS (by decide)), hevent]

theorem dropLane_state {l st : Nat} (h0 : s.laneState l ≠ 0) (h12 : s.laneState l ≠ 12) (cause : Nat) :
    (s.dropLane l cause st).laneState l = st % 2 ^ R.lane_STATE.bits := by
  simp only [State.dropLane, if_neg (show ¬ (s.laneState l = 0 ∨ s.laneState l = 12) from fun h => h.elim h0 h12)]
  exact laneTo_state _ l st

/-- A lane in no port and no link returns alone. -/
theorem laneReturn_alone {l : Nat} (hlink : s.linkOf l = none) (hport : s.portOf l = none) (cause : Nat) :
    s.laneReturn l cause = s.dropLane l cause 1 := by
  obtain ⟨hport', hlink'⟩ := groups_congr (s := s) (u := s.dropLane l cause 1)
    (fun r hr i => dropLane_reg s ((by decide : ∀ q ∈ groupRefs, q ∉ dropLaneRefs) _ hr) l cause 1 i) l
  have hothers : ([l].filter fun x => x != l) = [] := by simp
  simp only [State.laneReturn, laneGroup_alone s hlink hport, hothers, each_nil]
  exact laneFollow_alone _ (hlink'.trans hlink) (hport'.trans hport)

end

end Sys2Proof.Machine
end


section
/-! The steps of a lane's bring-up (R380, R382 to R384, R388 to R390, Tables 13.4 and 13.5). -/

namespace Sys2Proof.Machine

/-! ### The end of a negotiation (R380) -/

/-- The distance of two instances that read the same registers. -/
theorem find_map_shift (p q : Nat → Bool) (d : Nat) (l : List Nat) (h : ∀ i ∈ l, q (i + d) = p i) :
    (l.map (· + d)).find? q = (l.find? p).map (· + d) := by
  induction l with
  | nil => rfl
  | cons a l ih =>
    have ha := h a (by simp)
    have htail := ih fun i hi => h i (by simp [hi])
    cases hp : p a with
    | true => simp [ha, hp]
    | false => simpa [ha, hp] using htail

section
variable (s : State)

theorem groupStarts_shift (x m : Nat) : groupStarts (x + 2 ^ 24 * m) = (groupStarts x).map (· + 2 ^ 24 * m) := by
  simp only [groupStarts, List.map_cons, List.map_nil, List.cons.injEq, and_true, true_and]
  omega

theorem portLanes_shift (p m : Nat) : s.portLanes (p + 2 ^ 24 * m) = (s.portLanes p).map (· + 2 ^ 24 * m) := by
  have htype : s.reg R.eth_TYPE (p + 2 ^ 24 * m) = s.reg R.eth_TYPE p := reg_congr_inst s _ (by omega)
  simp only [State.portLanes, htype]
  cases portType (s.reg R.eth_TYPE p) with
  | none => rfl
  | some x =>
    simp only [List.map_map]
    refine List.map_congr_left fun i _ => ?_
    simp only [Function.comp_apply]
    omega

theorem portOf_shift (x m : Nat) : s.portOf (x + 2 ^ 24 * m) = (s.portOf x).map (· + 2 ^ 24 * m) := by
  rw [State.portOf, State.portOf, groupStarts_shift]
  refine find_map_shift _ _ _ _ fun i _ => ?_
  have henable : s.on R.eth_ENABLE (i + 2 ^ 24 * m) = s.on R.eth_ENABLE i := by
    rw [State.on, State.on, reg_congr_inst s _ (i := i + 2 ^ 24 * m) (j := i) (by omega)]
  rw [henable, portLanes_shift, Bool.eq_iff_iff]
  simp

theorem afterAn_shift (x m : Nat) : s.afterAn (x + 2 ^ 24 * m) = s.afterAn x := by
  have hreg : ∀ (r : Reg) (i : Nat), s.reg r (i + 2 ^ 24 * m) = s.reg r i := fun r i => reg_congr_inst s r (by omega)
  have htraining : s.laneTraining (x + 2 ^ 24 * m) = s.laneTraining x := by
    simp only [State.laneTraining, State.laneTrains, State.on, hreg, portOf_shift, Option.any_map]
  rw [State.afterAn, State.afterAn, htraining]

/-- Two lanes that read the same registers go on to the same state after the negotiation. -/
theorem afterAn_congr_inst {x y : Nat} (h : x % 2 ^ 24 = y % 2 ^ 24) : s.afterAn x = s.afterAn y := by
  have hx := afterAn_shift s (x % 2 ^ 24) (x / 2 ^ 24)
  have hy := afterAn_shift s (y % 2 ^ 24) (y / 2 ^ 24)
  rw [Nat.mod_add_div] at hx hy
  rw [hx, hy, h]

theorem afterAn_congr {s u : State} (h : ∀ r : Reg, r.ref ≠ R.lane_STATE.ref → ∀ i, u.reg r i = s.reg r i) (x : Nat) : u.afterAn x = s.afterAn x := by
  have htraining : u.laneTraining x = s.laneTraining x := by
    simp only [State.laneTraining, State.laneTrains, State.on, portOf_congr (h R.eth_TYPE (by decide)) (h R.eth_ENABLE (by decide)),
      h R.lane_MODE (by decide), h R.eth_TYPE (by decide), h R.lane_MEDIUM (by decide), h R.lane_TRAIN_ENABLE (by decide)]
  rw [State.afterAn, State.afterAn, htraining]

theorem afterAn_lt (x : Nat) : s.afterAn x < 2 ^ R.lane_STATE.bits := by
  unfold State.afterAn
  split <;> decide

/-- The lanes whose negotiation ends, each in the state that comes after it. -/
def State.endAn (s : State) (lanes : List Nat) : State := s.each lanes fun s x => s.laneTo x (s.afterAn x)

theorem endAn_reg {r : Reg} (h : r.ref ≠ R.lane_STATE.ref) (lanes : List Nat) (j : Nat) : (s.endAn lanes).reg r j = s.reg r j :=
  each_keeps (fun u => u.reg r j) _ (fun u x => laneTo_reg u h x _ j) s lanes

theorem afterAn_endAn (lanes : List Nat) (x : Nat) : (s.endAn lanes).afterAn x = s.afterAn x :=
  afterAn_congr (fun _ h i => endAn_reg s h lanes i) x

/-- A lane that has gone on stays where it is while the others of its group follow. -/
theorem endAn_state_stays {x : Nat} (lanes : List Nat) (h : s.laneState x = s.afterAn x) : (s.endAn lanes).laneState x = s.afterAn x := by
  refine (each_induct (fun u => (∀ y, u.afterAn y = s.afterAn y) ∧ u.laneState x = s.afterAn x) _ (fun u y hu => ?_) ⟨fun _ => rfl, h⟩ lanes).2
  obtain ⟨hafter, hstate⟩ := hu
  refine ⟨fun z => (afterAn_congr (fun _ h i => laneTo_reg u h y _ i) z).trans (hafter z), ?_⟩
  rcases Decidable.em (x % 2 ^ 24 = y % 2 ^ 24) with hxy | hxy
  · have hsame : (u.laneTo y (u.afterAn y)).laneState x = (u.laneTo y (u.afterAn y)).laneState y := reg_congr_inst _ _ hxy
    rw [hsame, laneTo_state, Nat.mod_eq_of_lt (afterAn_lt u y), hafter, afterAn_congr_inst s hxy]
  · rw [laneTo_state_ne u hxy, hstate]

theorem endAn_state {x : Nat} {lanes : List Nat} (hx : x ∈ lanes) : (s.endAn lanes).laneState x = s.afterAn x := by
  obtain ⟨before, after, rfl⟩ := List.append_of_mem hx
  have hcut : s.endAn (before ++ x :: after) = (((s.endAn before).laneTo x ((s.endAn before).afterAn x)).endAn after) := by
    simp only [State.endAn, State.each, List.foldl_append, List.foldl_cons]
  have hafter := afterAn_congr (fun _ h i => laneTo_reg (s.endAn before) h x ((s.endAn before).afterAn x) i) x
  have hhere : ((s.endAn before).laneTo x ((s.endAn before).afterAn x)).laneState x =
      ((s.endAn before).laneTo x ((s.endAn before).afterAn x)).afterAn x := by
    rw [laneTo_state, Nat.mod_eq_of_lt (afterAn_lt _ x), hafter]
  rw [hcut, endAn_state_stays _ after hhere, hafter, afterAn_endAn]

/-- The page that ends a negotiation stays. -/
theorem endAn_page (lanes : List Nat) {l : Nat} (h : (s.laneRun l).page = true) : ((s.endAn lanes).laneRun l).page = true := by
  refine each_induct (fun u => (u.laneRun l).page = true) _ (fun u y hu => ?_) h lanes
  rcases Decidable.em (l = y) with rfl | hne
  · rw [laneTo_run]
    exact hu
  · rw [State.laneTo, laneRun_onLane_ne _ hne, laneRun_setReg]
    exact hu

/-! ### Time alone changes no lane -/

@[simp] theorem laneState_advanceTo (t l : Nat) : (s.advanceTo t).laneState l = s.laneState l := advanceTo_reg s t _ l

@[simp] theorem laneGroup_advanceTo (t l : Nat) : (s.advanceTo t).laneGroup l = s.laneGroup l :=
  laneGroup_congr (fun r _ i => advanceTo_reg s t r i) l

@[simp] theorem afterAn_advanceTo (t l : Nat) : (s.advanceTo t).afterAn l = s.afterAn l :=
  afterAn_congr (fun r _ i => advanceTo_reg s t r i) l

@[simp] theorem rxRate_advanceTo (t l : Nat) : (s.advanceTo t).rxRate l = s.rxRate l := by
  have hon : (s.advanceTo t).on R.lane_SDI_AUTO l = s.on R.lane_SDI_AUTO l := by rw [State.on, State.on, advanceTo_reg]
  rw [State.rxRate, State.rxRate, hon, laneRun_advanceTo, advanceTo_reg, advanceTo_reg, advanceTo_reg]

/-! ### A state that times out (R388) -/

theorem laneAttempt_reg {r : Reg} (hraise : r.ref ∉ raiseRefs) (h : r.ref ≠ R.lane_ATTEMPTS.ref) (l j : Nat) :
    (s.laneAttempt l).reg r j = s.reg r j := by
  simp only [State.laneAttempt]
  split
  · rw [raise_reg _ hraise, onLane_reg, reg_inc_of_ref _ h]
  · exact reg_inc_of_ref s h l j

theorem laneAttempt_attempts (l : Nat) :
    (s.laneAttempt l).reg R.lane_ATTEMPTS l = (s.reg R.lane_ATTEMPTS l + 1) % 2 ^ R.lane_ATTEMPTS.bits := by
  simp only [State.laneAttempt]
  split
  · rw [raise_reg _ (by decide), onLane_reg, reg_inc_same]
  · exact reg_inc_same s _ l

/-- The lane of a state that timed out, before the attempt is counted. -/
def State.timedOut (s : State) (l : Nat) : State := if s.laneState l ≤ 2 then s.laneTo l 2 else s.laneReturn l 3

theorem timedOut_alone {l : Nat} (hlo : 1 ≤ s.laneState l) (hhi : s.laneState l < 11) (hlink : s.linkOf l = none) (hport : s.portOf l = none) :
    (s.timedOut l).laneState l = (if s.laneState l ≤ 2 then 2 else 1) ∧
      (s.timedOut l).reg R.lane_ATTEMPTS l = s.reg R.lane_ATTEMPTS l := by
  unfold State.timedOut
  split
  · exact ⟨laneTo_state s l 2, laneTo_reg s (by decide) l 2 l⟩
  · rw [laneReturn_alone s hlink hport]
    exact ⟨dropLane_state s (by omega) (by omega) 3, dropLane_reg s (by decide) l 3 1 l⟩

theorem bringupTimeout_runs {t l : Nat} {s : State} (hlo : 1 ≤ s.laneState l) (hhi : s.laneState l < 11)
    (htime : (s.advanceTo t).stateBegan l + (s.advanceTo t).laneTimeout l ≤ (s.advanceTo t).mono) :
    opBringupTimeout t l s = (((s.advanceTo t).timedOut l).laneAttempt l).raise 0x2003 (l + s.laneState l * 256) := by
  have hgo : ¬ (s.laneState l = 0 ∨ 11 ≤ s.laneState l ∨
      (s.advanceTo t).mono < (s.advanceTo t).stateBegan l + (s.advanceTo t).laneTimeout l) := by omega
  simp only [opBringupTimeout, laneState_advanceTo, if_neg hgo, State.timedOut]

/-! ### Lanes that come UP together (R390) -/

theorem laneUps_alone {l : Nat} (hlink : s.linkOf l = none) (hport : s.portOf l = none) :
    ((s.each (s.laneGroup l) fun s x => s.laneUp x).laneFollow l) = s.laneUp l := by
  obtain ⟨hport', hlink'⟩ := groups_congr (s := s) (u := s.laneUp l)
    (fun r hr i => laneUp_reg s ((by decide : ∀ q ∈ groupRefs, q ∉ laneUpRefs) _ hr) l i) l
  rw [laneGroup_alone s hlink hport]
  exact laneFollow_alone _ (hlink'.trans hlink) (hport'.trans hport)

end

/-! ### The settlement -/

theorem anPageReceive_ends {t l : Nat} {s : State} (hstate : s.laneState l = 3)
    (hend : (s.laneGroup l).head? = some l ∨ (s.laneGroup l).getLast? = some l) :
    opAnPageReceive t l true s =
      ((s.advanceTo t).onLane l fun r => { r with page := true }).endAn ((s.laneGroup l).filter fun x => s.laneState x == 3) := by
  have hheard : (true && s.laneState l == 3 && ((s.laneGroup l).head? == some l || (s.laneGroup l).getLast? == some l)) = true := by
    simpa [hstate] using hend
  have hlane : ∀ x, ((s.advanceTo t).onLane l fun r => { r with page := true }).laneState x = s.laneState x := fun x => laneState_advanceTo s t x
  simp only [opAnPageReceive, laneState_advanceTo, laneGroup_advanceTo, if_pos hheard, hlane, State.endAn]

/-- Settles O28: each step of a lane's bring-up in its state of Table 13.4. -/
theorem lanesComeUp : Obligations.LanesComeUp := by
  unfold Obligations.LanesComeUp
  refine ⟨fun t l s hl hlo hhi htime => ?timeout, fun t l s hl hstate hend => ?page, fun t l s hl hstate htime => ?polarity,
    fun t l s hl hstate hmode hauto hidx htime => ?rate, fun t l s hl hstate => ?training, fun t l s hl hstate => ?clock,
    fun t l s hl hall => ?block, fun t l levelB s hl hstate => ?word⟩
  case timeout =>
    have hop := bringupTimeout_runs hlo hhi htime
    refine ⟨_, command_next s (decide_eq_true hl) (opBringupTimeout t l), by rw [hop, State.timedOut, laneState_advanceTo], fun hlink hport => ?_⟩
    obtain ⟨hport', hlink'⟩ := groups_congr (s := s) (u := s.advanceTo t) (fun r _ i => advanceTo_reg s t r i) l
    obtain ⟨hstate, hattempts⟩ := timedOut_alone (s.advanceTo t) (by rwa [laneState_advanceTo]) (by rwa [laneState_advanceTo])
      (hlink'.trans hlink) (hport'.trans hport)
    rw [laneState_advanceTo] at hstate
    refine ⟨?_, ?_⟩
    · rw [State.laneState, ran_reg _ _ (by decide), hop, raise_reg _ (by decide), laneAttempt_reg _ (by decide) (by decide)]
      exact hstate
    · rw [ran_reg _ _ (by decide), hop, raise_reg _ (by decide), laneAttempt_attempts, hattempts, advanceTo_reg]
  case page =>
    have hop := anPageReceive_ends (t := t) hstate hend
    have hmem : l ∈ s.laneGroup l := hend.elim List.mem_of_head? List.mem_of_getLast?
    have hafter : ∀ x, ((s.advanceTo t).onLane l fun r => { r with page := true }).afterAn x = s.afterAn x := fun x =>
      (afterAn_congr (fun r _ i => onLane_reg _ l _ r i) x).trans (afterAn_advanceTo s t x)
    have hgone : ∀ x ∈ s.laneGroup l, s.laneState x = 3 → (s.ran (opAnPageReceive t l true s)).laneState x = s.afterAn x := by
      intro x hx hx3
      rw [State.laneState, ran_reg _ _ (by decide), hop]
      exact (endAn_state _ (List.mem_filter.mpr ⟨hx, by simp [hx3]⟩)).trans (hafter x)
    refine ⟨_, command_next s (decide_eq_true hl) (opAnPageReceive t l true), hgone l hmem hstate, ?_, hgone⟩
    rw [laneRun_ran, hop]
    exact endAn_page _ _ (congrArg LaneRun.page (laneRun_onLane_same _ l _))
  case polarity =>
    refine (command_next s (decide_eq_true hl) (opPolarityToggle t l)).trans ?_
    simp only [opPolarityToggle, laneState_advanceTo, laneRun_advanceTo, advanceTo_reg, if_pos (And.intro hstate htime)]
  case rate =>
    refine (command_next s (decide_eq_true hl) (opSdiRateTry t l)).trans ?_
    have hgo : s.laneState l = 5 ∧ s.reg R.lane_MODE l = 2 ∧ (s.advanceTo t).on R.lane_SDI_AUTO l = true ∧ (s.laneRun l).rateIdx < 9 ∧
        (s.laneRun l).tried + 1000000 ≤ (s.advanceTo t).mono := ⟨hstate, hmode, by rw [← hauto]; simp [State.on], hidx, htime⟩
    simp only [opSdiRateTry, laneState_advanceTo, laneRun_advanceTo, advanceTo_reg, if_pos hgo]
  case training =>
    have hop : opTrainingComplete t l s =
        ((((s.advanceTo t).setReg R.lane_RX_INVERTED l ((s.advanceTo t).freeBits 1)).took).laneTo l 5) := by
      simp only [opTrainingComplete, laneState_advanceTo, if_pos hstate]
    refine ⟨_, command_next s (decide_eq_true hl) (opTrainingComplete t l), ?_, ?_, ?_⟩
    · rw [State.laneState, ran_reg _ _ (by decide), hop]
      exact laneTo_state _ l 5
    · rw [ran_reg _ _ (by decide), hop, laneTo_reg _ (by decide), took_reg, reg_setReg_same]
      exact Nat.lt_of_le_of_lt (Nat.mod_le _ _) (Nat.mod_lt _ (by decide))
    · rw [laneRun_ran, hop, laneTo_run]
      rfl
  case clock =>
    have hlocked : ∀ v : State, v = (match s.reg R.lane_MODE l with
        | 1 => (s.advanceTo t).laneTo l 6
        | 2 => (s.advanceTo t).laneTo l 7
        | 3 => (s.advanceTo t).laneTo l 8
        | _ => (s.advanceTo t).laneUp l) →
        v.laneState l = (match s.reg R.lane_MODE l with | 1 => 6 | 2 => 7 | 3 => 8 | _ => 11) ∧ (v.laneRun l).since = v.mono := by
      rintro v rfl
      split
      · exact ⟨laneTo_state _ l 6, by rw [laneTo_run, laneTo_mono]⟩
      · exact ⟨laneTo_state _ l 7, by rw [laneTo_run, laneTo_mono]⟩
      · exact ⟨laneTo_state _ l 8, by rw [laneTo_run, laneTo_mono]⟩
      · exact ⟨laneUp_state _ l, by rw [laneUp_since, laneUp_mono]⟩
    have hop : opClockLockAchieved t l s = (match s.reg R.lane_MODE l with
        | 1 => (s.advanceTo t).laneTo l 6
        | 2 => (s.advanceTo t).laneTo l 7
        | 3 => (s.advanceTo t).laneTo l 8
        | _ => (s.advanceTo t).laneUp l) := by
      simp only [opClockLockAchieved, laneState_advanceTo, if_pos hstate, advanceTo_reg] <;> rfl
    obtain ⟨hnext, hsince⟩ := hlocked _ hop
    refine ⟨_, command_next s (decide_eq_true hl) (opClockLockAchieved t l), ?_, ?_⟩
    · rw [State.laneState, ran_reg _ _ (by decide)]
      exact hnext
    · rw [laneRun_ran, ran_mono]
      exact hsince
  case block =>
    have hop : opBlockLockAchieved t l s = ((s.advanceTo t).each (s.laneGroup l) fun s x => s.laneUp x).laneFollow l := by
      simp only [opBlockLockAchieved, laneGroup_advanceTo, laneState_advanceTo, if_pos hall]
    refine ⟨_, command_next s (decide_eq_true hl) (opBlockLockAchieved t l), by rw [hop], fun hlink hport => ?_⟩
    obtain ⟨hport', hlink'⟩ := groups_congr (s := s) (u := s.advanceTo t) (fun r _ i => advanceTo_reg s t r i) l
    have halone : opBlockLockAchieved t l s = (s.advanceTo t).laneUp l := by
      rw [hop, ← laneGroup_advanceTo s t l]
      exact laneUps_alone _ (hlink'.trans hlink) (hport'.trans hport)
    rw [State.laneState, ran_reg _ _ (by decide), ran_reg _ _ (by decide), halone]
    exact ⟨laneUp_state _ l, laneUp_attempts _ l⟩
  case word =>
    have hop : opWordLockAchieved t l levelB s =
        (((s.advanceTo t).setReg R.sdi_RATE l (sdiRateCode (s.rxRate l).1 levelB)).setReg R.lane_RX_INVERTED l 0).laneUp l := by
      simp only [opWordLockAchieved, laneState_advanceTo, if_pos hstate, rxRate_advanceTo]
    have hcode : sdiRateCode (s.rxRate l).1 levelB < 2 ^ R.sdi_RATE.bits := by
      unfold sdiRateCode
      cases levelB <;> (repeat' split) <;> decide
    refine ⟨_, command_next s (decide_eq_true hl) (opWordLockAchieved t l levelB), ?_, ?_, ?_, ?_⟩
    · rw [State.laneState, ran_reg _ _ (by decide), hop]
      exact laneUp_state _ l
    · rw [ran_reg _ _ (by decide), hop, laneUp_reg _ (by decide), reg_setReg_same]
      rfl
    · rw [ran_reg _ _ (by decide), hop, laneUp_reg _ (by decide), reg_setReg_of_ref _ (by decide), reg_setReg_same, Nat.mod_eq_of_lt hcode]
    · rw [ran_reg _ _ (by decide), hop, laneUp_count, reg_setReg_of_ref _ (by decide), reg_setReg_of_ref _ (by decide), advanceTo_reg]

end Sys2Proof.Machine
end


section
/-! Adaptation, saved equalisers, PRBS and eye scans of lanes (R396 to R398, R406, R408). -/

namespace Sys2Proof.Machine

/-! ### Two writes of one key -/

theorem tins_tins {α : Type} (k : Nat) (v w : α) (t : List (Nat × α)) : tins k w (tins k v t) = tins k w t := by
  induction t with
  | nil => simp [tins]
  | cons p t ih =>
    obtain ⟨j, x⟩ := p
    rcases Nat.lt_trichotomy j k with hlt | rfl | hgt
    · simp [tins, hlt, ih]
    · simp [tins]
    · simp [tins, Nat.not_lt.mpr (Nat.le_of_lt hgt), Nat.ne_of_gt hgt]

section
variable (s : State)

/-- Two changes of a lane's run are one, when neither leaves it as at reset. -/
theorem onLane_onLane (l : Nat) {f g : LaneRun → LaneRun} (hf : f (s.laneRun l) ≠ {}) (hg : g (f (s.laneRun l)) ≠ {}) :
    (s.onLane l f).onLane l g = s.onLane l fun r => g (f r) := by
  have hrun : (s.onLane l f).laneRun l = f (s.laneRun l) := laneRun_onLane_same s l f
  have htable : tput (fun _ => {}) l (g (f (s.laneRun l))) (tput (fun _ => {}) l (f (s.laneRun l)) s.lanes.lanes) =
      tput (fun _ => ({} : LaneRun)) l (g (f (s.laneRun l))) s.lanes.lanes := by
    simp only [tput, if_neg hf, if_neg hg, tins_tins]
  rw [State.onLane, hrun, State.onLane, State.onLane]
  simp only [htable]

/-! ### Waiting changes no lane -/

@[simp] theorem laneRun_waitUntil (t l : Nat) : (s.waitUntil t).laneRun l = s.laneRun l := laneRun_advanceTo s _ l

@[simp] theorem laneState_waitUntil (t l : Nat) : (s.waitUntil t).laneState l = s.laneState l := waitUntil_reg s t _ l

@[simp] theorem dom_waitUntil (t : Nat) (r : Reg) (i : Nat) : (s.waitUntil t).dom r i = s.dom r i := dom_of_doms (advanceTo_doms s _) r i

@[simp] theorem dom_onLane (l : Nat) (f : LaneRun → LaneRun) (r : Reg) (i : Nat) : (s.onLane l f).dom r i = s.dom r i :=
  dom_of_doms (onLane_doms s l f) r i

@[simp] theorem dom_ran (u : State) (r : Reg) (i : Nat) : (s.ran u).dom r i = u.dom r i := dom_of_doms (ran_doms s u) r i

@[simp] theorem dom_raise (c d : Nat) (r : Reg) (i : Nat) : (s.raise c d).dom r i = s.dom r i := dom_of_doms (raise_doms s c d) r i

@[simp] theorem dom_inc (q : Reg) (k : Nat) (r : Reg) (i : Nat) : (s.inc q k).dom r i = s.dom r i := dom_of_doms (inc_doms s q k) r i

theorem dom_ok (r : Reg) (i : Nat) : s.ok.dom r i = s.dom r i := rfl

theorem laneRun_ok (l : Nat) : s.ok.laneRun l = s.laneRun l := rfl

theorem on_waitUntil (t : Nat) (r : Reg) (i : Nat) : (s.waitUntil t).on r i = s.on r i := by rw [State.on, State.on, waitUntil_reg]

/-! ### Coefficients (R396) -/

@[simp] theorem setEq_reg (l : Nat) (eq : List Byte) (r : Reg) (i : Nat) : (s.setEq l eq).reg r i = s.reg r i := by
  rw [State.setEq, onLane_reg, setDom_reg]

@[simp] theorem setEq_mono (l : Nat) (eq : List Byte) : (s.setEq l eq).mono = s.mono := rfl

theorem setEq_rxEq (l : Nat) (eq : List Byte) : (s.setEq l eq).dom R.lane_RX_EQ l = eq := by
  rw [State.setEq, dom_onLane, dom_setDom_same]

theorem setEq_saved (l : Nat) (eq : List Byte) : (s.setEq l eq).dom R.lane_SAVED_EQ l = s.dom R.lane_SAVED_EQ l := by
  rw [State.setEq, dom_onLane, dom_setDom_of_ref _ (by decide)]

/-- The coefficients at work of a lane whose adaptation is frozen are those that were held. -/
theorem rxEq_frozen {l : Nat} (h : s.reg R.lane_FROZEN l = 1) : s.rxEq l = padTo 14 (s.dom R.lane_RX_EQ l) := by
  have hfrozen : s.on R.lane_FROZEN l = true := by rw [State.on, h]; rfl
  simp [State.rxEq, hfrozen]

/-! ### The checker (R406) -/

theorem prbsLockLoss_errors {l : Nat} (hlock : s.on R.lane_PRBS_LOCK l = true) :
    min (s.reg R.lane_PRBS_ERRORS l + 257) (2 ^ 48 - 1) ≤ (s.endPrbs l 257 257).reg R.lane_PRBS_ERRORS l := by
  have hbound : min (s.reg R.lane_PRBS_ERRORS l + (s.prbsErrors l + 257)) (2 ^ 48 - 1) < 2 ^ R.lane_PRBS_ERRORS.bits :=
    Nat.lt_of_le_of_lt (Nat.min_le_right _ _) (by decide)
  rw [State.endPrbs, if_pos hlock, reg_setReg_of_ref _ (by decide), State.holdPrbs, if_pos hlock, onLane_reg, State.add48, reg_setReg_same,
    State.add48, reg_setReg_of_ref _ (by decide), Nat.mod_eq_of_lt hbound]
  omega

end

/-! ### The settlement -/

/-- The lane whose margin, 4 µs after its adaptation resumed, is too low. -/
theorem marginCheck_low {l margin t : Nat} {v s : State} (hresumed : (s.laneRun l).resumed = some t) (hlow : margin < s.reg R.lane_MARGIN_MIN l)
    (hv : v = ((s.waitUntil (t + 4000)).setReg R.lane_MARGIN l margin).onLane l (fun r =>
      { r with resumed := none, marginAt := some ((s.waitUntil (t + 4000)).mono / 100000), eqBad := true })) :
    opMarginCheck l margin s = ((v.setEq l (s.dom R.lane_SAVED_EQ l)).inc R.lane_REVERTS l).raise 0x2004 l := by
  have hmerge := onLane_onLane ((s.waitUntil (t + 4000)).setReg R.lane_MARGIN l margin) l
    (f := fun r => { r with resumed := none, marginAt := some ((s.waitUntil (t + 4000)).mono / 100000) }) (g := fun r => { r with eqBad := true })
    (fun h => by injections) (fun h => by injections)
  have hmin : (((s.waitUntil (t + 4000)).setReg R.lane_MARGIN l margin).onLane l fun r =>
      { r with resumed := none, marginAt := some ((s.waitUntil (t + 4000)).mono / 100000) }).reg R.lane_MARGIN_MIN l = s.reg R.lane_MARGIN_MIN l := by
    rw [onLane_reg, reg_setReg_of_ref _ (by decide), waitUntil_reg]
  have hsaved : v.dom R.lane_SAVED_EQ l = s.dom R.lane_SAVED_EQ l := by rw [hv, dom_onLane, dom_setReg, dom_waitUntil]
  simp only [opMarginCheck, hresumed, hmin, if_pos hlow, hmerge]
  rw [← hv, hsaved]

/-- A known-good millisecond, and what it leaves of one that is not. -/
theorem eqSave_eq {l : Nat} {eq : List Byte} {v s : State} (hstate : s.laneState l = 11) (hv : v = s.waitUntil ((s.laneRun l).eqFrom + 1000000)) :
    opEqSave l eq s =
      (if !(s.laneRun l).eqBad && !s.on R.lane_FROZEN l && v.marginStayed l (v.mono - 1000000) then
        (((v.onLane l fun r => { r with eqFrom := r.eqFrom + (v.mono - r.eqFrom) / 1000000 * 1000000, eqBad := s.on R.lane_FROZEN l }).setEq l eq).setDom
          R.lane_SAVED_EQ l eq)
       else v.onLane l fun r => { r with eqFrom := r.eqFrom + (v.mono - r.eqFrom) / 1000000 * 1000000, eqBad := s.on R.lane_FROZEN l }) := by
  subst hv
  simp only [opEqSave, if_pos hstate, laneRun_waitUntil, on_waitUntil]

/-- Settles O29: each event of a lane that adapts or is tested, by its operation. -/
theorem lanesAdaptAndAreTested : Obligations.LanesAdaptAndAreTested := by
  unfold Obligations.LanesAdaptAndAreTested
  refine ⟨fun l s hl hadapt hfrozen => ?freeze, fun t l s hl hadapt hfrozen => ?resume, fun l margin t s hl hresumed hmargin => ?good,
    fun l margin t v s hl hresumed hlow hv => ?low, fun l eq v s hl hstate hv hfrozen hbad hstayed => ?save,
    fun l eq v s hl hstate hv hbad => ?unsaved, fun w l s hw => ?clear, fun l s hl hmode hstate hrx hlock hheard => ?lock,
    fun l s hl hlock hlost => ?loss, fun w l raw s hw hlength hlo hhi hlevel hdlo hdhi => ?scan,
    fun l errors bits s hl hstate hlength hflag => ?complete⟩
  case freeze =>
    have hop : opAdaptationFreeze l s =
        ((s.setEq l (s.rxEq l)).setReg R.lane_FROZEN l 1).onLane l fun r => { r with eqBad := true, resumed := none } := by
      simp [opAdaptationFreeze, hadapt, hfrozen]
    have hone : (s.ran (opAdaptationFreeze l s)).reg R.lane_FROZEN l = 1 := by
      rw [ran_reg _ _ (by decide), hop, onLane_reg, reg_setReg_same]
      rfl
    refine ⟨_, command_next s (decide_eq_true hl) (opAdaptationFreeze l), hone, ?_, ?_, ?_⟩
    · rw [laneRun_ran, hop, laneRun_onLane_same]
    · rw [rxEq_frozen _ hone, dom_ran, hop, dom_onLane, dom_setReg, setEq_rxEq]
    · rw [dom_ran, hop, dom_onLane, dom_setReg, setEq_saved]
  case resume =>
    have hadapt' : (s.advanceTo t).adapting l = true := by rw [← hadapt]; simp only [State.adapting, laneState_advanceTo]
    have hfrozen' : (s.advanceTo t).on R.lane_FROZEN l = true := by rw [← hfrozen, State.on, State.on, advanceTo_reg]
    refine (command_next s (decide_eq_true hl) (opAdaptationResume t l)).trans ?_
    simp [opAdaptationResume, hadapt', hfrozen']
  case good =>
    have hmin : (((s.waitUntil (t + 4000)).setReg R.lane_MARGIN l margin).onLane l fun r =>
        { r with resumed := none, marginAt := some ((s.waitUntil (t + 4000)).mono / 100000) }).reg R.lane_MARGIN_MIN l =
        s.reg R.lane_MARGIN_MIN l := by
      rw [onLane_reg, reg_setReg_of_ref _ (by decide), waitUntil_reg]
    have hop : opMarginCheck l margin s = ((s.waitUntil (t + 4000)).setReg R.lane_MARGIN l margin).onLane l fun r =>
        { r with resumed := none, marginAt := some ((s.waitUntil (t + 4000)).mono / 100000) } := by
      simp only [opMarginCheck, hresumed, hmin, if_neg (Nat.not_lt.mpr hmargin)]
    refine ⟨_, command_next s (decide_eq_true hl) (opMarginCheck l margin), ?_, ?_, ?_, ?_⟩
    · rw [ran_reg _ _ (by decide), hop, onLane_reg, reg_setReg_same]
    · rw [laneRun_ran, hop, laneRun_onLane_same]
    · rw [dom_ran, hop, dom_onLane, dom_setReg, dom_waitUntil]
    · rw [ran_mono, hop, onLane_mono, setReg_mono, waitUntil_mono]
  case low =>
    have hop := marginCheck_low hresumed hlow hv
    have hreverts : v.reg R.lane_REVERTS l = s.reg R.lane_REVERTS l := by
      rw [hv, onLane_reg, reg_setReg_of_ref _ (by decide), waitUntil_reg]
    have hmono : v.mono = max s.mono (t + 4000) := by rw [hv, onLane_mono, setReg_mono, waitUntil_mono]
    refine ⟨_, command_next s (decide_eq_true hl) (opMarginCheck l margin), ?_, ?_, ?_, by rw [hop]⟩
    · rw [dom_ran, hop, dom_raise, dom_inc, setEq_rxEq]
    · rw [ran_reg _ _ (by decide), hop, raise_reg _ (by decide), reg_inc_same, setEq_reg, hreverts]
    · rw [ran_mono, hop, raise_mono, inc_mono, setEq_mono, hmono]
  case save =>
    have hgood : (!(s.laneRun l).eqBad && !s.on R.lane_FROZEN l && v.marginStayed l (v.mono - 1000000)) = true := by
      simp [hfrozen, hbad, hstayed]
    have hop := eqSave_eq (eq := eq) hstate hv
    rw [if_pos hgood] at hop
    refine ⟨_, command_next s (decide_eq_true hl) (opEqSave l eq), ?_, ?_, ?_⟩
    · rw [dom_ran, hop, dom_setDom_same]
    · rw [dom_ran, hop, dom_setDom_of_ref _ (by decide), setEq_rxEq]
    · rw [ran_mono, hop, setDom_mono, setEq_mono, onLane_mono, hv, waitUntil_mono]
  case unsaved =>
    have hpoor : ¬ (!(s.laneRun l).eqBad && !s.on R.lane_FROZEN l && v.marginStayed l (v.mono - 1000000)) = true := by
      rcases hbad with h | h | h <;> simp [h]
    have hop := eqSave_eq (eq := eq) hstate hv
    rw [if_neg hpoor] at hop
    refine ⟨_, command_next s (decide_eq_true hl) (opEqSave l eq), ?_, ?_⟩
    · rw [dom_ran, hop, dom_onLane, hv, dom_waitUntil]
    · rw [laneRun_ran, hop, laneRun_onLane_same]
  case clear => exact (command_next s rfl (opPrbsClear w l)).trans (by rw [opPrbsClear, writeAs_of_mayWrite hw rfl])
  case lock =>
    refine (command_next s (decide_eq_true hl) (opPrbsLock l)).trans ?_
    simp [opPrbsLock, hmode, hstate, hrx, hlock, hheard]
  case loss =>
    have hop : opPrbsLockLoss l s = s.endPrbs l 257 257 := by simp [opPrbsLockLoss, hlost]
    refine ⟨_, command_next s (decide_eq_true hl) (opPrbsLockLoss l), ?_, ?_⟩
    · rw [ran_reg _ _ (by decide), hop, State.endPrbs, if_pos hlock, reg_setReg_same]
      rfl
    · rw [ran_reg _ _ (by decide), hop]
      exact prbsLockLoss_errors s hlock
  case scan =>
    have hop : opEyeScan w l raw s =
        ((s.setDom R.lane_EYE_SCAN l (raw ++ List.replicate 17 0)).onLane l fun r => { r with scanAt := s.mono }).ok := by
      have hvalue : (decide (-32 ≤ toSigned 8 (leAt raw 0 1)) && decide (toSigned 8 (leAt raw 0 1) ≤ 31) && leAt raw 1 1 != 128 &&
          decide (10 ≤ leAt raw 2 1) && decide (leAt raw 2 1 ≤ 40)) = true := by
        simp [hlo, hhi, hlevel, hdlo, hdhi]
      have hlen : (raw.length == 3) = true := by simp [hlength]
      simp only [opEyeScan, hlen]
      exact writeAs_of_mayWrite hw hvalue _
    refine ⟨_, command_next s rfl (opEyeScan w l raw), ?_, ?_, ?_⟩
    · rw [dom_ran, hop, dom_ok, dom_onLane, dom_setDom_same]
    · rw [laneRun_ran, hop, laneRun_ok, laneRun_onLane_same]
    · rw [ran_reply, hop, ok_reply]
  case complete =>
    have hop : opEyeScanComplete l errors bits s = (s.waitUntil (max (s.laneRun l).scanAt (s.laneRun l).since +
        ceilDiv (2 ^ leAt (s.dom R.lane_EYE_SCAN l) 2 1 * 1000000 * (s.rxRate l).2) (s.rxRate l).1)).setDom R.lane_EYE_SCAN l
          ((s.dom R.lane_EYE_SCAN l).take 3 ++ leBytes 8 errors ++ leBytes 8 bits ++ [1]) := by
      simp only [opEyeScanComplete, if_pos (And.intro hstate (And.intro hlength hflag))]
    refine ⟨_, command_next s (decide_eq_true hl) (opEyeScanComplete l errors bits), ?_, ?_⟩
    · rw [dom_ran, hop, dom_setDom_same]
    · rw [ran_mono, hop, setDom_mono, waitUntil_mono]
      exact Nat.le_max_right _ _

end Sys2Proof.Machine
end


section
/-! Debug accesses to registers, ports, data, program and store, RESET and the terminal's words (R541, R545, R549, R551). -/

namespace Sys2Proof.Machine

/-! ### A record inside a session (R541) -/

section
variable (s : State)

@[simp] theorem heardRecord_reg (r : Reg) (j : Nat) : s.heardRecord.reg r j = s.reg r j := by
  unfold State.heardRecord
  split
  · exact onService_reg s _ r j
  · rfl

@[simp] theorem heardRecord_dusk : s.heardRecord.dusk = s.dusk := by
  unfold State.heardRecord
  split <;> rfl

@[simp] theorem heardRecord_mono : s.heardRecord.mono = s.mono := by
  unfold State.heardRecord
  split <;> rfl

@[simp] theorem heardRecord_core (c : Nat) : s.heardRecord.core c = s.core c := by simp only [State.core, heardRecord_dusk]

@[simp] theorem heardRecord_halted (c : Nat) : s.heardRecord.coreHalted c = s.coreHalted c := by
  simp only [State.coreHalted, heardRecord_reg]

theorem heardRecord_store : s.heardRecord.service.store = s.service.store := by
  unfold State.heardRecord
  split <;> rfl

theorem heardRecord_out : s.heardRecord.service.out = s.service.out := by
  unfold State.heardRecord
  split <;> rfl

theorem heardRecord_key : s.heardRecord.service.key = s.service.key := by
  unfold State.heardRecord
  split <;> rfl

theorem heardRecord_storeAccepts : s.heardRecord.storeAccepts = s.storeAccepts := by
  unfold State.heardRecord
  split <;> rfl

theorem heardRecord_portPeek (c : Nat) (k : Core) (port : Nat) : s.heardRecord.portPeek c k port = s.portPeek c k port := by
  unfold State.heardRecord
  split <;> rfl

theorem debugReply_reg (op target status addr value : Nat) (r : Reg) (j : Nat) : (s.debugReply op target status addr value).reg r j = s.reg r j :=
  sendRecord_reg s 3 _ r j

@[simp] theorem debugReply_dusk (op target status addr value : Nat) : (s.debugReply op target status addr value).dusk = s.dusk := rfl

theorem sendRecord_store (ty : Nat) (l : List Byte) : (s.sendRecord ty l).service.store = s.service.store := by
  unfold State.sendRecord State.onService
  dsimp only
  split <;> rfl

theorem sendRecord_termIn (ty : Nat) (l : List Byte) : (s.sendRecord ty l).service.termIn = s.service.termIn := by
  unfold State.sendRecord State.onService
  dsimp only
  split <;> rfl

/-- Without a session key a record goes out in the clear. -/
theorem sendRecord_out {s : State} (h : s.service.key = none) (ty : Nat) (l : List Byte) :
    (s.sendRecord ty l).service.out = s.service.out ++ (leBytes 1 ty ++ leBytes 2 l.length ++ l) := by
  simp [State.sendRecord, State.onService, h]

end

/-- The reply to a DEBUG record goes out as a record of 12 bytes. -/
theorem debugReply_out {s : State} (h : s.service.key = none) (op target status addr value : Nat) :
    (s.debugReply op target status addr value).service.out =
      s.service.out ++ ([3, 12, 0] ++ (leBytes 1 op ++ leBytes 1 target ++ leBytes 1 status ++ [0] ++ leBytes 4 addr ++ leBytes 4 value)) := by
  have htype : leBytes 1 3 = [3] := rfl
  have hlength : leBytes 2 12 = [12, 0] := rfl
  rw [State.debugReply, sendRecord_out h, htype]
  simp [leBytes_length, hlength]

/-! ### Operations that need a right (R545) -/

/-- A DEBUG operation of a session that has the right. -/
theorem debugOp_runs {s v : State} {op target right addr data status value : Nat} {k : State → State × Nat × Nat} (hsession : s.on R.dbg_SESSION = true)
    (hright : (s.reg R.dbg_RIGHTS).testBit right = true) (hk : k s.heardRecord = (v, status, value)) :
    s.debugOp op target right addr data k = v.debugReply op target status addr value := by
  simp [State.debugOp, hsession, hright, hk]

/-- The same on a halted core. -/
theorem debugHalted_runs {s v : State} {op target right addr data c x status value : Nat} {k : State → State × Nat × Nat}
    (hsession : s.on R.dbg_SESSION = true) (hright : (s.reg R.dbg_RIGHTS).testBit right = true) (hhalted : s.coreHalted c = true)
    (hk : k s.heardRecord = (v, status, value)) :
    s.debugOp op target right addr data (fun s => s.onHalted c x k) = v.debugReply op target status addr value := by
  refine debugOp_runs hsession hright ?_
  rw [State.onHalted, heardRecord_halted, if_pos hhalted, hk]

/-- The port that an address of Table 20.7 names. -/
theorem portOf_addr (port : Nat) : 0x1000 + port - 0x1000 = port := by omega

/-- The addresses of the ports name no register of Table 20.7. -/
theorem debugReg_port (k : Core) {addr : Nat} (h : 0x1000 ≤ addr) : k.debugReg addr = none := by
  unfold Core.debugReg
  rw [if_neg (by omega), if_neg (by omega)]
  split
  · omega
  · omega
  · omega
  · omega
  · omega
  · rfl

section
variable {s : State} {c addr : Nat} (hsession : s.on R.dbg_SESSION = true)
include hsession

section
variable (hright : (s.reg R.dbg_RIGHTS).testBit 0 = true) (hhalted : s.coreHalted c = true)
include hright hhalted

theorem rdReg_register {v : Nat} (hreg : (s.core c).debugReg addr = some v) (take : Bool) :
    opRdReg c addr take s = s.heardRecord.debugReply 4 c 0 addr v := by
  rw [opRdReg, State.readReg]
  exact debugHalted_runs hsession hright hhalted (by simp only [heardRecord_core, hreg])

theorem rdReg_peek {port v : Nat} (haddr : 0x1000 ≤ addr) (hsub : addr - 0x1000 = port) (hport : inPort c port = true)
    (hpeek : s.portPeek c (s.core c) port = some v) :
    opRdReg c addr false s = s.heardRecord.debugReply 4 c 0 addr (v % 2 ^ 16) := by
  have hexists : ¬ (addr < 0x1000 ∨ (!inPort c port) = true) := by simp [haddr, hport]
  rw [opRdReg, State.readReg]
  refine debugHalted_runs hsession hright hhalted ?_
  rw [heardRecord_core, debugReg_port _ haddr, hsub]
  simp only [if_neg hexists, heardRecord_portPeek, hpeek, Bool.false_eq_true, if_false]

theorem rdReg_take {port : Nat} (haddr : 0x1000 ≤ addr) (hsub : addr - 0x1000 = port) (hport : inPort c port = true) :
    opRdReg c addr true s = (s.heardRecord.portTake c (s.core c) port).1.debugReply 4 c 0 addr (s.heardRecord.portTake c (s.core c) port).2 := by
  have hexists : ¬ (addr < 0x1000 ∨ (!inPort c port) = true) := by simp [haddr, hport]
  rw [opRdReg, State.readReg]
  refine debugHalted_runs hsession hright hhalted ?_
  rw [heardRecord_core, debugReg_port _ haddr, hsub]
  simp only [if_neg hexists, if_true]

theorem wrReg_port (haddr : 0x1000 ≤ addr) (hport : outPort c (addr - 0x1000) = true) (data : Nat) :
    opWrReg c addr data s = (s.heardRecord.portPut c (addr - 0x1000) (data % 2 ^ 16)).debugReply 5 c 0 addr data := by
  have hnoReg : ¬ addr ≤ 16 := by omega
  have hexists : ¬ (addr < 0x1000 ∨ (!outPort c (addr - 0x1000)) = true) := by simp [haddr, hport]
  rw [opWrReg]
  exact debugHalted_runs hsession hright hhalted (by rw [if_neg hnoReg, if_neg hexists])

theorem wrReg_register (haddr : addr ≤ 16) (data : Nat) :
    opWrReg c addr data s = (s.heardRecord.onCore c fun k => Core.putDebugReg c k addr data).debugReply 5 c 0 addr data :=
  debugHalted_runs hsession hright hhalted (if_pos haddr)

theorem rdData_reads (hdata : dataExists c addr = true) :
    opRdData c addr s = (s.heardRecord.loadData c addr).1.debugReply 6 c 0 addr (s.heardRecord.loadData c addr).2 := by
  rw [opRdData, State.readDebugData]
  exact debugHalted_runs hsession hright hhalted (if_pos hdata)

theorem wrData_writes (hdata : dataExists c addr = true) (data : Nat) :
    opWrData c addr data s = (s.heardRecord.storeData c addr (data % 2 ^ 16)).debugReply 7 c 0 addr data :=
  debugHalted_runs hsession hright hhalted (if_pos hdata)

end

/-- The program RAM of core 0 with one word written. -/
theorem wrProg_writes (hright : (s.reg R.dbg_RIGHTS).testBit 0 = true) (hhalted : s.coreHalted 0 = true) (haddr : addr < 4096) (data : Nat) :
    opWrProg 0 addr data s = (s.heardRecord.onCore 0 fun k =>
      { k with prog := tput (fun _ => 0) addr (withParity 32 data) k.prog, words := max k.words (addr + 1) }).debugReply 8 0 0 addr data :=
  debugHalted_runs hsession hright hhalted (by rw [if_neg (by omega), if_neg (by omega)])

theorem wrProg_refused (hright : (s.reg R.dbg_RIGHTS).testBit 0 = true) (hhalted : s.coreHalted 1 = true) (data : Nat) :
    opWrProg 1 addr data s = s.heardRecord.debugReply 8 1 2 addr data :=
  debugHalted_runs hsession hright hhalted (if_pos (by decide))

section
variable (hright : (s.reg R.dbg_RIGHTS).testBit 1 = true) (haligned : addr % 4 = 0) (hfirmware : addr < firmwareBytes)
include hright haligned hfirmware

theorem rdStore_reads : opRdStore addr s =
    s.heardRecord.debugReply 9 2 0 addr (tget (fun a => Config.firmwareStore a % 2 ^ 32) s.service.store (addr / 4)) := by
  rw [opRdStore, State.readStore]
  exact debugOp_runs hsession hright (by rw [if_neg (by omega), if_pos hfirmware, heardRecord_store])

theorem wrStore_writes (hhalted : s.coreHalted 1 = true) (haccepts : s.storeAccepts = true) (data : Nat) : opWrStore addr data s =
    ((s.heardRecord.onService fun x => { x with store := tput (fun a => Config.firmwareStore a % 2 ^ 32) (addr / 4) (data % 2 ^ 32) x.store }).raise
      0xA009 addr).debugReply 10 2 0 addr data := by
  rw [opWrStore, State.writeStore]
  refine debugOp_runs hsession hright ?_
  have hopen : ¬ (firmwareBytes ≤ addr ∨ (!s.heardRecord.storeAccepts) = true ∨
      (!(s.heardRecord.coreHalted 1 || s.heardRecord.reg R.core_STATE 1 == 0 || s.heardRecord.phase == .dark)) = true) := by
    rw [heardRecord_storeAccepts, haccepts, heardRecord_halted, hhalted]
    simp [hfirmware]
  rw [if_neg (by omega), if_neg hopen]

end

/-! ### The terminal's words (R551) -/

theorem termRecord_writes (hfree : s.heardRecord.serveTerminal.service.termIn = none) (word : Nat) : opTermRecord true false word s =
    (s.heardRecord.serveTerminal.onService fun x => { x with termIn := some (word % 2 ^ 32) }).sendRecord 4
      (leBytes 1 (5 + 2 * b2n s.heardRecord.serveTerminal.service.termOut.isSome) ++ [0, 0, 0] ++
        leBytes 4 (s.heardRecord.serveTerminal.service.termOut.getD 0)) := by
  have hservice : ∀ (u : State) (f : Service → Service), (u.onService f).service = f u.service := fun _ _ => rfl
  have hflags : ∀ n : Nat, 1 + n + 4 = 5 + n := by omega
  simp [opTermRecord, hsession, hfree, hservice, b2n, hflags]

theorem termRecord_takes {x : Nat} (hout : s.heardRecord.serveTerminal.service.termOut = some x) (word : Nat) : opTermRecord false true word s =
    ((s.heardRecord.serveTerminal.onService fun y => { y with termOut := none }).fillTermOut).sendRecord 4
      (leBytes 1 (b2n s.heardRecord.serveTerminal.service.termIn.isSome + 2) ++ [0, 0, 0] ++ leBytes 4 x) := by
  have hin : ∀ u : State, u.fillTermOut.service.termIn = u.service.termIn := fun u => by
    simp only [State.fillTermOut]
    split <;> rfl
  have hservice : ∀ (u : State) (f : Service → Service), (u.onService f).service = f u.service := fun _ _ => rfl
  simp [opTermRecord, hsession, hout, hin, hservice, b2n]

end

/-! ### The settlement -/

/-- Settles O40: each access of a session with its right, by the reply that ends it. -/
theorem debugAccessesTakeEffect : Obligations.DebugAccessesTakeEffect := by
  unfold Obligations.DebugAccessesTakeEffect
  refine ⟨fun c addr v take s hsession hright hc hhalted hreg => ?read, fun c port v s hsession hright hc hhalted hport hpeek => ?peek,
    fun c port s hsession hright hc hhalted hport => ?take, fun c port data s hsession hright hc hhalted hport => ?put,
    fun c addr data s hsession hright hc hhalted haddr => ?write, fun c addr s hsession hright hc hhalted hdata => ?load,
    fun c addr data s hsession hright hc hhalted hdata => ?store, fun addr data s hsession hright hhalted haddr => ?prog,
    fun addr data s hsession hright hhalted => ?noProg, fun addr s hsession hright haligned hfirmware => ?rdStore,
    fun addr data s hsession hright haligned hfirmware hhalted haccepts => ?wrStore, fun s hsession hright => ?reset,
    fun word s hsession hfree => ?termIn, fun word x s hsession hout => ?termOut⟩
  case read =>
    have hop := rdReg_register hsession hright hhalted hreg take
    refine ⟨_, command_next s rfl (opRdReg c addr take), fun hkey => ?_, by rw [hop]⟩
    rw [ran_service, hop, debugReply_out ((heardRecord_key s).trans hkey), heardRecord_out]
    simp [leBytes]
  case peek =>
    have hop := rdReg_peek hsession hright hhalted (Nat.le_add_right 0x1000 port) (portOf_addr port) hport hpeek
    exact (command_next s rfl (opRdReg c (0x1000 + port) false)).trans (by rw [hop])
  case take =>
    have hop := rdReg_take hsession hright hhalted (Nat.le_add_right 0x1000 port) (portOf_addr port) hport
    exact (command_next s rfl (opRdReg c (0x1000 + port) true)).trans (by rw [hop])
  case put =>
    have hop := wrReg_port (addr := 0x1000 + port) hsession hright hhalted (Nat.le_add_right _ _) (by rwa [portOf_addr]) data
    rw [portOf_addr] at hop
    exact (command_next s rfl (opWrReg c (0x1000 + port) data)).trans (by rw [hop])
  case write =>
    have hop := wrReg_register hsession hright hhalted haddr data
    refine ⟨_, command_next s rfl (opWrReg c addr data), fun hpc => ?_, by rw [hop]⟩
    subst hpc
    have hcore : (s.ran (opWrReg c 12 data s)).core c = Core.putDebugReg c (s.core c) 12 data := by
      have hdusk : (s.ran (opWrReg c 12 data s)).dusk = (s.heardRecord.onCore c fun k => Core.putDebugReg c k 12 data).dusk := by
        rw [ran_dusk, hop, debugReply_dusk]
      rw [State.core, hdusk]
      exact (onCore_core _ c _).trans (by rw [heardRecord_core])
    rw [hcore]
    exact ⟨rfl, rfl, rfl⟩
  case load => exact (command_next s rfl (opRdData c addr)).trans (by rw [rdData_reads hsession hright hhalted hdata])
  case store => exact (command_next s rfl (opWrData c addr data)).trans (by rw [wrData_writes hsession hright hhalted hdata])
  case prog =>
    have hop := wrProg_writes hsession hright hhalted haddr data
    have hprog : (s.ran (opWrProg 0 addr data s)).dusk.core0.prog = tput (fun _ => 0) addr (withParity 32 data) s.dusk.core0.prog := by
      rw [ran_dusk, hop, debugReply_dusk]
      exact congrArg (fun d : Dusk => tput (fun _ => 0) addr (withParity 32 data) d.core0.prog) (heardRecord_dusk s)
    refine ⟨_, command_next s rfl (opWrProg 0 addr data), ?_, fun a ha => ?_, by rw [hop]⟩
    · rw [hprog, tget_tput_same]
    · rw [hprog, tget_tput_ne _ ha]
  case noProg => exact (command_next s rfl (opWrProg 1 addr data)).trans (by rw [wrProg_refused hsession hright hhalted])
  case rdStore => exact (command_next s rfl (opRdStore addr)).trans (by rw [rdStore_reads hsession hright haligned hfirmware])
  case wrStore =>
    have hop := wrStore_writes hsession hright haligned hfirmware hhalted haccepts data
    refine ⟨_, command_next s rfl (opWrStore addr data), ?_, by rw [hop]⟩
    rw [ran_service, hop, State.debugReply, sendRecord_store, raise_service]
    exact tget_tput_same _ _ _ _
  case reset =>
    have hop : opDebugReset s = s.fullReset 1 := by simp [opDebugReset, State.debugReset, hsession, hright]
    refine ⟨_, command_next s rfl opDebugReset, ?_, ?_, by rw [hop]⟩
    · rw [ran_phase, hop, fullReset_phase]
    · rw [ran_reg _ _ (by decide), hop, fullReset_lastWake, Nat.mod_eq_of_lt (by decide)]
  case termIn =>
    have hop := termRecord_writes hsession hfree word
    refine ⟨_, command_next s rfl (opTermRecord true false word), ?_, by rw [hop]⟩
    rw [ran_service, hop, sendRecord_termIn]
    rfl
  case termOut => exact (command_next s rfl (opTermRecord false true word)).trans (by rw [termRecord_takes hsession hout])

end Sys2Proof.Machine
end


section
/-! The debug operations on the cores and the patch units (R545 to R547, R550). -/

namespace Sys2Proof.Machine

/-! ### Halts (R545) -/

section
variable (s : State)

theorem core_of_dusk {s u : State} (h : u.dusk = s.dusk) (c : Nat) : u.core c = s.core c := by simp only [State.core, h]

theorem core_setLease (n : Nat) (l : Lease) (c : Nat) : (s.setLease n l).core c = s.core c := by
  unfold State.core State.setLease
  split <;> rfl

theorem core_raise (code d c : Nat) : (s.raise code d).core c = s.core c := core_of_dusk (raise_dusk s code d) c

theorem core_freezeLeases (who c : Nat) : (s.freezeLeases who).core c = s.core c := by
  unfold State.freezeLeases
  refine each_keeps (fun u => u.core c) _ (fun u n => ?_) s _
  split
  · exact core_setLease u n _ c
  · rfl

theorem core_thawLeases (who c : Nat) : (s.thawLeases who).core c = s.core c := by
  unfold State.thawLeases
  refine each_keeps (fun u => u.core c) _ (fun u n => ?_) s _
  split
  · exact core_setLease u n _ c
  · rfl

theorem endStep_idle {c : Nat} (h : (s.core c).stepFrom = none) : s.endStep c = s := by rw [State.endStep, h]

theorem haltCore_halted (c cause unit : Nat) : (s.haltCore c cause unit).coreHalted c = true := by
  have hstate : (s.haltCore c cause unit).reg R.core_STATE c = 4 := by
    simp only [State.haltCore]
    rw [raise_reg _ (by decide), coreState_same _ c (by decide)]
  simp [State.coreHalted, hstate]

theorem haltCore_at {c : Nat} (h : (s.core c).stepFrom = none) (cause unit : Nat) :
    ((s.haltCore c cause unit).core c).haltedAt = some s.mono := by
  simp only [State.haltCore]
  rw [core_raise, coreState_core, core_freezeLeases, onCore_core, endStep_idle s h]

theorem haltSoon_halted {c : Nat} (h : (s.core c).atBoundary = true) (cause unit : Nat) : (s.haltSoon c cause unit).coreHalted c = true := by
  rw [State.haltSoon, if_pos h]
  exact haltCore_halted s c cause unit

theorem haltSoon_due {c : Nat} (h : (s.core c).atBoundary = false) (cause unit : Nat) :
    ((s.haltSoon c cause unit).core c).haltDue = some (cause, unit) := by
  rw [State.haltSoon, if_neg (by simp [h]), State.haltLater, onCore_core]

theorem debugReply_halted (op target status addr value c : Nat) :
    (s.debugReply op target status addr value).coreHalted c = s.coreHalted c := by
  simp only [State.coreHalted, debugReply_reg]

theorem ran_core (u : State) (c : Nat) : (s.ran u).core c = u.core c := core_of_dusk (ran_dusk s u) c

theorem ran_halted (u : State) (c : Nat) : (s.ran u).coreHalted c = u.coreHalted c := by
  simp only [State.coreHalted, ran_reg s u (r := R.core_STATE) (by decide)]

theorem debugReply_core (op target status addr value c : Nat) : (s.debugReply op target status addr value).core c = s.core c := rfl

/-! ### Interrupts of a core that does not sleep (R452) -/

theorem wakeIdle_of_runs {s : State} {c : Nat} (h : s.coreRuns c = true) : s.wakeIdle c = s := by
  have hruns : s.reg R.core_STATE c = 1 := eq_of_beq h
  rw [State.wakeIdle, if_neg (by simp [hruns])]

theorem raiseCoreLine_of_runs {s : State} {c : Nat} (h : s.coreRuns c = true) (n : Nat) : (s.raiseCoreLine c n).coreRuns c = true := by
  simp only [State.raiseCoreLine]
  split
  · rwa [wakeIdle_of_runs h]
  · rw [wakeIdle_of_runs (by rwa [onCore_coreRuns]), onCore_coreRuns]
    exact h

/-! ### A core that leaves its halt (R547) -/

/-- Core `c` runs on with its watchdog counting from `kick`, no halt due, and the recoveries `l` waiting. -/
def State.ranOn (s : State) (c kick : Nat) (l : List Nat) : Prop :=
  (s.core c).haltedAt = none ∧ (s.core c).haltDue = none ∧ (s.core c).kickAt = kick ∧ s.scratch.recovery = l

theorem ranOn_congr {s u : State} {c kick : Nat} {l : List Nat} (hcore : u.core c = s.core c) (hscratch : u.scratch = s.scratch)
    (h : s.ranOn c kick l) : u.ranOn c kick l := by
  rwa [State.ranOn, hcore, hscratch]

theorem coreState_scratch (c v : Nat) : (s.coreState c v).scratch = s.scratch := by
  simp only [State.coreState]
  split
  · rfl
  · split
    · rw [raise_scratch]
      rfl
    · rfl

theorem ranOn_wakeIdle {s : State} {c kick : Nat} {l : List Nat} (h : s.ranOn c kick l) : (s.wakeIdle c).ranOn c kick l := by
  have hstate := ranOn_congr (coreState_core s c 1 c) (coreState_scratch s c 1) h
  unfold State.wakeIdle
  split
  · have hdue : ((s.coreState c 1).core c).haltDue = none := hstate.2.1
    rw [State.haltIfDue, hdue]
    exact hstate
  · exact h

theorem scratch_onCore (c : Nat) (f : Core → Core) : (s.onCore c f).scratch = s.scratch := by
  unfold State.onCore
  split <;> rfl

theorem ranOn_raiseCoreLine {s : State} {c kick : Nat} {l : List Nat} (h : s.ranOn c kick l) (n : Nat) : (s.raiseCoreLine c n).ranOn c kick l := by
  simp only [State.raiseCoreLine]
  refine ranOn_wakeIdle ?_
  split
  · exact h
  · rw [State.ranOn, onCore_core, scratch_onCore]
    exact h

theorem shiftTimers_keeps (dt : Nat) : (s.shiftTimers dt).dusk = s.dusk ∧ (s.shiftTimers dt).regs = s.regs ∧ (s.shiftTimers dt).scratch = s.scratch := by
  unfold State.shiftTimers
  refine each_induct (fun u => u.dusk = s.dusk ∧ u.regs = s.regs ∧ u.scratch = s.scratch) _ (fun u n hu => ?_) ⟨rfl, rfl, rfl⟩ _
  split
  · exact hu
  · exact hu

/-- The core of a halt that is left, before the interrupts pended meanwhile. -/
def State.leftHalt (s : State) (c age : Nat) (due : Option (Nat × Nat)) : State :=
  let t := s.onCore c fun k => { k with
    haltedAt := none, haltDue := due, kickAt := s.mono - age, wasIdle := false, warned := k.warned && decide (s.warnAge c ≤ age),
    stepFrom := due.map fun _ => (s.mono, s.reg R.core_CYCLES c) }
  (t.thawLeases (c + 1)).coreState c (if (s.core c).wasIdle then 2 else 1)

theorem leftHalt_core (c age : Nat) (due : Option (Nat × Nat)) : (s.leftHalt c age due).core c = { s.core c with
    haltedAt := none, haltDue := due, kickAt := s.mono - age, wasIdle := false, warned := (s.core c).warned && decide (s.warnAge c ≤ age),
    stepFrom := due.map fun _ => (s.mono, s.reg R.core_CYCLES c) } := by
  rw [State.leftHalt, coreState_core, core_thawLeases, onCore_core]

theorem leftHalt_scratch (c age : Nat) (due : Option (Nat × Nat)) : (s.leftHalt c age due).scratch = s.scratch := by
  rw [State.leftHalt, coreState_scratch]
  unfold State.thawLeases
  refine (each_keeps State.scratch _ (fun u n => ?_) _ _).trans (scratch_onCore s c _)
  split <;> rfl

theorem leftHalt_runs {c : Nat} (hidle : (s.core c).wasIdle = false) (age : Nat) (due : Option (Nat × Nat)) :
    (s.leftHalt c age due).coreRuns c = true := by
  have hstate : (s.leftHalt c age due).reg R.core_STATE c = 1 := by
    rw [State.leftHalt, hidle]
    exact coreState_same _ c (by decide)
  simp [State.coreRuns, hstate]

theorem leaveHalt_eq (c age : Nat) (due : Option (Nat × Nat)) : s.leaveHalt c age due =
    (if c = 1 then (s.leftHalt c age due).shiftTimers (s.mono - (s.core c).haltedAt.getD s.mono) else s.leftHalt c age due).wakeIdle c := rfl

/-- The session timers that ran on change neither the cores nor the registers. -/
theorem shifted_keeps (c dt : Nat) : (if c = 1 then s.shiftTimers dt else s).core c = s.core c ∧
    (if c = 1 then s.shiftTimers dt else s).coreRuns c = s.coreRuns c ∧ (if c = 1 then s.shiftTimers dt else s).scratch = s.scratch := by
  obtain ⟨hdusk, hregs, hscratch⟩ := shiftTimers_keeps s dt
  split
  · exact ⟨core_of_dusk hdusk c, by simp only [State.coreRuns, reg_of_regs hregs], hscratch⟩
  · exact ⟨rfl, rfl, rfl⟩

theorem leaveHalt_ranOn (c age : Nat) : (s.leaveHalt c age none).ranOn c (s.mono - age) s.scratch.recovery := by
  obtain ⟨hcore, -, hscratch⟩ := shifted_keeps (s.leftHalt c age none) c (s.mono - (s.core c).haltedAt.getD s.mono)
  rw [leaveHalt_eq]
  refine ranOn_wakeIdle (ranOn_congr hcore hscratch ?_)
  rw [State.ranOn, leftHalt_core, leftHalt_scratch]
  exact ⟨rfl, rfl, rfl, rfl⟩

/-- A core that did not sleep when it halted runs at once. -/
theorem leaveHalt_runs {c : Nat} (hidle : (s.core c).wasIdle = false) (age : Nat) (due : Option (Nat × Nat)) :
    (s.leaveHalt c age due).coreRuns c = true ∧ (s.leaveHalt c age due).core c = (s.leftHalt c age due).core c := by
  obtain ⟨hcore, hruns, -⟩ := shifted_keeps (s.leftHalt c age due) c (s.mono - (s.core c).haltedAt.getD s.mono)
  have hon := hruns.trans (leftHalt_runs s hidle age due)
  rw [leaveHalt_eq, wakeIdle_of_runs hon]
  exact ⟨hon, hcore⟩

theorem frozenAge_heardRecord (c : Nat) : s.heardRecord.frozenAge c = s.frozenAge c := by
  simp only [State.frozenAge, heardRecord_core, heardRecord_mono]

theorem heardRecord_scratch : s.heardRecord.scratch = s.scratch := by
  unfold State.heardRecord
  split <;> rfl

end

/-! ### Patch units (R550) -/

section
variable (s : State)

theorem patchCount_reg {r : Reg} (hraise : r.ref ∉ raiseRefs) (h : r.ref ≠ R.pu_HITS.ref) (n j : Nat) : (s.patchCount n).reg r j = s.reg r j := by
  simp only [State.patchCount]
  split
  · exact reg_inc_of_ref s h n j
  · rw [raise_reg _ hraise, reg_inc_of_ref _ h]

theorem patchCount_hits (n : Nat) : (s.patchCount n).reg R.pu_HITS n = (s.reg R.pu_HITS n + 1) % 2 ^ R.pu_HITS.bits := by
  simp only [State.patchCount]
  split
  · exact reg_inc_same s _ n
  · rw [raise_reg _ (by decide), reg_inc_same]

theorem patchCount_core (n c : Nat) : (s.patchCount n).core c = s.core c := by
  simp only [State.patchCount]
  split
  · rfl
  · rw [core_raise]
    rfl

theorem patchHalts_congr {s u : State} (h : ∀ r : Reg, r.ref ≠ R.pu_HITS.ref → r.ref ∉ raiseRefs → ∀ j, u.reg r j = s.reg r j) (n : Nat) :
    u.patchHalts n = s.patchHalts n := by
  simp only [State.patchHalts, State.on, h R.pu_ACTION (by decide) (by decide), h R.dbg_SESSION (by decide) (by decide)]

theorem haltSoon_hits (c cause unit n : Nat) : (s.haltSoon c cause unit).reg R.pu_HITS n = s.reg R.pu_HITS n :=
  (haltKeeps_reg (by decide) (by decide) c n).haltSoon s cause unit

/-- The units of a mode and a core, by their numbers. -/
theorem mem_patchUnits {n mode c : Nat} : n ∈ s.patchUnits mode c ↔ n < 32 ∧ s.reg R.pu_MODE n = mode ∧ s.reg R.pu_CORE n = c := by
  simp [State.patchUnits]

/-- One unit matches: it is counted, and acts once for the instruction. -/
def State.breakMet (s : State) (c n : Nat) : State := (s.patchCount n).onCore c fun k => { k with met := k.met ++ [n] }

theorem breakHits_one (c n : Nat) : s.breakHits c [n] = if s.patchHalts n then (s.breakMet c n).haltSoon c 2 n else s.breakMet c n := by
  have hhalts : (s.breakMet c n).patchHalts n = s.patchHalts n :=
    patchHalts_congr (fun r hr he j => (onCore_reg _ _ _ _ _).trans (patchCount_reg s he hr n j)) n
  have hone : s.each [n] State.patchCount = s.patchCount n := rfl
  simp only [State.breakHits, hone]
  rw [← State.breakMet]
  cases h : s.patchHalts n with
  | true => simp [hhalts, h]
  | false => simp [hhalts, h]

theorem breakHits_hits (c n : Nat) : (s.breakHits c [n]).reg R.pu_HITS n = (s.reg R.pu_HITS n + 1) % 2 ^ R.pu_HITS.bits := by
  have hmet : (s.breakMet c n).reg R.pu_HITS n = (s.reg R.pu_HITS n + 1) % 2 ^ R.pu_HITS.bits := (onCore_reg _ _ _ _ _).trans (patchCount_hits s n)
  rw [breakHits_one]
  split
  · rw [haltSoon_hits, hmet]
  · exact hmet

end

/-! ### An instruction that a FIX unit serves -/

theorem issued_hits (s : State) (c n : Nat) : (s.issued c id).reg R.pu_HITS n = s.reg R.pu_HITS n := by
  rw [State.issued, (haltKeeps_reg (by decide) (by decide) c n).haltIfDue, onCore_reg]
  exact (onCore_reg _ c _ _ _).trans ((reg_inc_of_ref _ (by decide) c n).trans (reg_setReg_of_ref s (by decide) c n _))

theorem patchUnits_inc (s : State) (n mode c : Nat) : (s.inc R.pu_HITS n).patchUnits mode c = s.patchUnits mode c := by
  simp (disch := decide) only [State.patchUnits, reg_inc_of_ref]

/-- The NOP of a patch word issues, and the unit that served it is counted. -/
theorem duskNop_fixed {s : State} {n w : Nat} (hunit : s.fixUnit 1 = some n) (hword : s.fixWord 1 = some w) (hnop : duskEncode (.duskNop 1) = some w)
    (hruns : s.coreRuns 1 = true) (hasks : (s.core 1).asks = []) (hbreak : s.breakUnits 1 = []) (hplace : (s.core 1).placeFault 1 plain = none) :
    exec (.duskNop 1) s = .next (s.ran ((s.inc R.pu_HITS n).issued 1 id)) := by
  have hserves : s.serves 1 (.duskNop 1) = true := by simp [State.serves, hword, hnop]
  have hunbroken : (s.inc R.pu_HITS n).breakUnits 1 = [] := by
    rw [← hbreak]
    simp only [State.breakUnits, patchUnits_inc, reg_inc_of_ref s (r := R.pu_HITS) (r' := R.pu_ADDRESS) (by decide)]
    rfl
  have hfetch : s.fetchHits 1 = s.inc R.pu_HITS n := by simp only [State.fetchHits, hunit, hunbroken]
  have hruns' : (s.inc R.pu_HITS n).coreRuns 1 = true := by rwa [State.coreRuns, reg_inc_of_ref _ (by decide)]
  have hcore : (s.inc R.pu_HITS n).core 1 = s.core 1 := rfl
  refine (command_next s (ok := decide (1 < 2)) rfl _).trans ?_
  simp only [hserves, if_true, opDuskNop, State.issue, hruns, hasks, hfetch, hruns', hcore, hplace, noFault, List.isEmpty_nil, Bool.not_true,
    Bool.or_false, Bool.false_eq_true, if_false]
  rfl

/-! ### The settlement -/

/-- Settles O39: each debug operation on the core it halts, releases or steps, and each patch unit by its match. -/
theorem debugControlsTheCores : Obligations.DebugControlsTheCores := by
  unfold Obligations.DebugControlsTheCores
  have hsession' : ∀ (s : State) (t : Nat), s.on R.dbg_SESSION = true → (s.advanceTo t).on R.dbg_SESSION = true := fun s t h => by
    rw [← h, State.on, State.on, advanceTo_reg]
  have hright' : ∀ (s : State) (t n : Nat), (s.reg R.dbg_RIGHTS).testBit n = true → ((s.advanceTo t).reg R.dbg_RIGHTS).testBit n = true :=
    fun s t n h => by rwa [advanceTo_reg]
  have hcore' : ∀ (s : State) (t c : Nat), (s.advanceTo t).heardRecord.core c = s.core c := fun s t c => by
    rw [heardRecord_core]
    exact core_of_dusk (advanceTo_dusk s t) c
  have hhalted' : ∀ (s : State) (t c : Nat), (s.advanceTo t).heardRecord.coreHalted c = s.coreHalted c := fun s t c => by
    simp only [State.coreHalted, heardRecord_reg, advanceTo_reg]
  refine ⟨fun t c s hsession hright hawake => ?halt, fun t c age v w s hsession hright hc hhalted hage hv hw => ?resume,
    fun t c s hsession hright hc hhalted => ?step, fun n s hn hmode hruns hasks hpc hmet => ?break',
    fun n a s hn hmode hcore hruns haddr haccess => ?watch, fun n w s hunit hword hnop hruns hasks hbreak hplace => ?fix,
    fun w dst a b s hdst ha hb hword hother => ?other⟩
  case halt =>
    have hawake' : (s.advanceTo t).heardRecord.coreAwake c = true := by
      rw [← hawake]
      simp only [State.coreAwake, heardRecord_reg, advanceTo_reg]
    have hop : opDebugHalt t c s = ((s.advanceTo t).heardRecord.haltSoon c 0 0).debugReply 1 c 0 0 0 := by
      rw [opDebugHalt, State.debugHalt]
      exact debugOp_runs (hsession' s t hsession) (hright' s t 0 hright) (if_pos hawake')
    refine ⟨_, command_next s rfl (opDebugHalt t c), fun hc hbound hstep => ⟨?_, ?_⟩, fun hc hbound => ?_, by rw [hop]⟩
    · rw [ran_halted, hop, debugReply_halted]
      exact haltSoon_halted _ (by rwa [hcore']) 0 0
    · rw [ran_core, hop, debugReply_core, State.haltSoon, if_pos (by rwa [hcore']), haltCore_at _ (by rwa [hcore']), heardRecord_mono]
    · rw [ran_core, hop, debugReply_core]
      exact haltSoon_due _ (by rwa [hcore']) 0 0
  case resume =>
    have hop : opCoreResume t c s = (if c = 1 then (w.raise 0xA005 c).recoverIfDue else w.raise 0xA005 c).debugReply 2 c 0 0 0 := by
      rw [opCoreResume, State.debugResume]
      refine debugOp_runs (hsession' s t hsession) (hright' s t 0 hright) ?_
      have hwarn : (s.advanceTo t).heardRecord.warnAge c = (s.reg R.core_WDT_CLOSE c - s.reg R.core_WDT_WARN c) * 1000 := by
        simp only [State.warnAge, heardRecord_reg, advanceTo_reg]
      simp only [hhalted', hhalted, Bool.not_true, Bool.false_eq_true, if_false, frozenAge_heardRecord, heardRecord_reg, advanceTo_reg, ← hage, hwarn,
        decide_eq_true_eq, ← hv, ← hw]
    refine ⟨_, command_next s rfl (opCoreResume t c), by rw [hop], fun hquiet => ?_⟩
    have hleft : v.ranOn c ((s.advanceTo t).mono - age) s.scratch.recovery := by
      have h := leaveHalt_ranOn (s.advanceTo t).heardRecord c age
      rwa [heardRecord_mono, heardRecord_scratch, advanceTo_scratch, ← hv] at h
    have hwarned : w.ranOn c ((s.advanceTo t).mono - age) s.scratch.recovery ∧ (v.coreRuns c = true → w.coreRuns c = true) := by
      rw [hw]
      split
      · refine ⟨ranOn_raiseCoreLine ?_ 4, fun h => raiseCoreLine_of_runs (by rwa [onCore_coreRuns]) 4⟩
        rw [State.ranOn, onCore_core, scratch_onCore]
        exact hleft
      · exact ⟨hleft, id⟩
    obtain ⟨hon, hrunning⟩ := hwarned
    have hraised := ranOn_congr (core_raise w 0xA005 c c) (raise_scratch w 0xA005 c) hon
    have hplain : (if c = 1 then (w.raise 0xA005 c).recoverIfDue else w.raise 0xA005 c) = w.raise 0xA005 c := by
      split
      · next h1 =>
        have hnone : (w.raise 0xA005 c).scratch.recovery = [] := hraised.2.2.2.trans (hquiet.resolve_left (by omega))
        rw [State.recoverIfDue, hnone, each_nil, ite_self]
      · rfl
    obtain ⟨hat, hdue, hkick, -⟩ := hraised
    rw [ran_core, hop, debugReply_core, hplain]
    refine ⟨hat, hdue, hkick, fun hidle => ?_⟩
    have hruns := hrunning (hv ▸ (leaveHalt_runs _ (by rwa [hcore']) age none).1)
    rw [State.coreRuns, ran_reg _ _ (by decide), debugReply_reg, raise_reg _ (by decide)]
    exact hruns
  case step =>
    have hop : opDebugStep t c s = ((s.advanceTo t).heardRecord.leaveHalt c ((s.advanceTo t).frozenAge c) (some (1, 0))).debugReply 3 c 0 0 0 := by
      rw [opDebugStep, State.debugStep]
      refine debugOp_runs (hsession' s t hsession) (hright' s t 0 hright) ?_
      rw [hhalted', if_pos hhalted, frozenAge_heardRecord]
    refine ⟨_, command_next s rfl (opDebugStep t c), fun hidle => ?_, by rw [hop]⟩
    obtain ⟨hruns, hcore⟩ := leaveHalt_runs (s.advanceTo t).heardRecord (c := c) (by rwa [hcore']) ((s.advanceTo t).frozenAge c) (some (1, 0))
    rw [ran_core, hop, debugReply_core, hcore, leftHalt_core]
    refine ⟨rfl, rfl, ?_, ?_⟩
    · rw [State.coreRuns, ran_reg _ _ (by decide), debugReply_reg]
      exact hruns
    · dsimp only
      rw [heardRecord_mono, heardRecord_reg, advanceTo_reg]
      rfl
  case break' =>
    have hmem : (s.breakUnits (s.reg R.pu_CORE n)).contains n = true := by
      simp [State.breakUnits, mem_patchUnits, hn, hmode, hpc, hmet]
    have hop : opPatchBreakHit n s = s.breakHits (s.reg R.pu_CORE n) [n] := by
      simp only [opPatchBreakHit, hruns, hasks, hmem, List.isEmpty_nil, and_self, if_true]
    refine ⟨_, command_next s (decide_eq_true hn) (opPatchBreakHit n), ?_, fun hc haction hsession hbound => ?_, by rw [hop]⟩
    · rw [ran_reg _ _ (by decide), hop, breakHits_hits]
    · have hhalts : s.patchHalts n = true := by simp [State.patchHalts, haction, hsession]
      rw [ran_halted, hop, breakHits_one, if_pos hhalts]
      refine haltSoon_halted _ ?_ 2 n
      rw [State.breakMet, onCore_core, patchCount_core]
      exact hbound
  case watch =>
    have hmem : (s.watchUnits (s.reg R.pu_CORE n) a.addr a.write).contains n = true := by
      simp [State.watchUnits, mem_patchUnits, hn, hmode, haddr, haccess]
    have hhalts : (s.patchCount n).patchHalts n = s.patchHalts n := patchHalts_congr (fun r hr he j => patchCount_reg s he hr n j) n
    have hop : opPatchWatchHit n a s = if s.patchHalts n then (s.patchCount n).haltSoon a.core 3 n else s.patchCount n := by
      rw [hcore] at hruns
      simp only [opPatchWatchHit, hruns, hcore, hmem, and_self, if_true, hhalts]
    refine ⟨_, command_next s (decide_eq_true hn) (opPatchWatchHit n a), ?_, fun hc haction hsession hbound => ?_, by rw [hop]⟩
    · rw [ran_reg _ _ (by decide), hop]
      split
      · rw [haltSoon_hits, patchCount_hits]
      · exact patchCount_hits s n
    · have hpatch : s.patchHalts n = true := by simp [State.patchHalts, haction, hsession]
      rw [ran_halted, hop, if_pos hpatch]
      exact haltSoon_halted _ (by rwa [patchCount_core]) 3 n
  case fix =>
    refine ⟨_, duskNop_fixed hunit hword hnop hruns hasks hbreak hplace, ?_, rfl⟩
    rw [ran_reg _ _ (by decide), issued_hits, reg_inc_same]
  case other =>
    have hserves : s.serves 1 (.duskAdd 1 dst a b) = false := by simpa [State.serves, hword] using hother
    refine (command_next s (by simp [hdst, ha, hb]) _).trans ?_
    rw [hserves]
    rfl

end Sys2Proof.Machine
end


section
/-! What a SINK operation reads of its version's place (R67, R531): an access of the frame store, and a packet that leaves, do not change it. -/

namespace Sys2Proof.Machine

/-- The registers that say where a SINK operation's version lies. -/
def sinkRefs : List Nat :=
  [R.cad_KIND.ref, R.cad_RATE_NUM.ref, R.cad_RATE_DEN.ref, R.cad_SAMPLES.ref, R.slot_STATE.ref, R.slot_FIRST_FRAME.ref, R.pf_LINK.ref]

/-- The graphs, handles and versions, the starts of the cadences, and those registers are the same in two states. -/
structure SameSinks (s u : State) : Prop where
  graphs : u.sched.graphs = s.sched.graphs
  handles : u.sched.handles = s.sched.handles
  versions : u.sched.versions = s.sched.versions
  cadFrom : u.tb.cadFrom = s.tb.cadFrom
  reg : ∀ r : Reg, r.ref ∈ sinkRefs → ∀ j, u.reg r j = s.reg r j

namespace SameSinks

theorem refl (s : State) : SameSinks s s := ⟨rfl, rfl, rfl, rfl, fun _ _ _ => rfl⟩

theorem trans {s u v : State} (h : SameSinks s u) (k : SameSinks u v) : SameSinks s v :=
  ⟨k.graphs.trans h.graphs, k.handles.trans h.handles, k.versions.trans h.versions, k.cadFrom.trans h.cadFrom,
    fun r hr j => (k.reg r hr j).trans (h.reg r hr j)⟩

section
variable {s u : State} (h : SameSinks s u)
include h

theorem markTime : u.markTime = s.markTime := by
  funext c n
  rw [State.markTime, State.markTime, h.reg R.cad_KIND (by decide), h.reg R.cad_RATE_DEN (by decide), h.reg R.cad_RATE_NUM (by decide),
    h.reg R.cad_SAMPLES (by decide)]

theorem frameAt : u.frameAt = s.frameAt := by
  funext c t
  rw [State.frameAt, State.frameAt, h.reg R.cad_KIND (by decide), h.reg R.cad_RATE_DEN (by decide), h.reg R.cad_RATE_NUM (by decide),
    h.reg R.cad_SAMPLES (by decide)]

theorem graph : u.graph = s.graph := by
  funext g
  rw [State.graph, State.graph, h.graphs]

theorem version? : u.version? = s.version? := by
  funext n f
  rw [State.version?, State.version?, h.versions]

theorem slotAddr : u.slotAddr = s.slotAddr := by
  funext n j
  rw [State.slotAddr, State.slotAddr, State.handleDef, State.handleDef, h.handles]

theorem running : u.running = s.running := by
  funext g
  rw [State.running, State.running, h.reg R.slot_STATE (by decide)]

theorem cadStart : u.cadStart = s.cadStart := by
  funext c
  rw [State.cadStart, State.cadStart, h.cadFrom]

theorem willProduce : u.willProduce = s.willProduce := by
  funext n f
  unfold State.willProduce
  refine congrArg allSlots.any (funext fun g => ?_)
  rw [h.graph, h.running, h.reg R.slot_FIRST_FRAME (by decide), h.cadStart, h.markTime]

theorem edgeReads : u.edgeReads = s.edgeReads := by
  funext g e n
  unfold State.edgeReads
  rw [h.markTime, h.frameAt, h.version?, h.willProduce]

theorem inputAddr : u.inputAddr = s.inputAddr := by
  funext g e n
  unfold State.inputAddr
  rw [h.edgeReads, h.version?, h.slotAddr]

theorem sinkInput (o : Oper) : u.sinkInput o = s.sinkInput o := by
  unfold State.sinkInput
  rw [h.graph, h.inputAddr, h.edgeReads, h.version?]

end

end SameSinks

section
variable (s : State)

theorem sameSinks_setReg {q : Reg} (hq : q.ref ∉ sinkRefs) (i v : Nat) : SameSinks s (s.setReg q i v) :=
  ⟨rfl, rfl, rfl, rfl, fun _ hr j => reg_setReg_of_ref s (fun e => hq (e ▸ hr)) i j v⟩

theorem sameSinks_advanceTo (t : Nat) : SameSinks s (s.advanceTo t) := by
  have hcad : (s.advanceTo t).tb.cadFrom = s.tb.cadFrom := by
    unfold State.advanceTo
    split <;> rfl
  exact ⟨by rw [advanceTo_sched], by rw [advanceTo_sched], by rw [advanceTo_sched], hcad, fun r _ j => advanceTo_reg s t r j⟩

theorem sameSinks_raise (c d : Nat) : SameSinks s (s.raise c d) :=
  ⟨by rw [raise_sched], by rw [raise_sched], by rw [raise_sched], by rw [raise_tb],
    fun r hr j => raise_reg s ((by decide : ∀ q ∈ sinkRefs, q ∉ raiseRefs) _ hr) c d j⟩

/-- What a SINK operation sees, as one value. -/
def State.sinkView (s : State) : List (Nat × Graph) × List (Nat × HandleDef) × List Version × List Nat × (Reg → Nat → Nat) :=
  (s.sched.graphs, s.sched.handles, s.sched.versions, s.tb.cadFrom, fun r j => if r.ref ∈ sinkRefs then s.reg r j else 0)

theorem sameSinks_of_view {s u : State} (h : u.sinkView = s.sinkView) : SameSinks s u := by
  simp only [State.sinkView, Prod.mk.injEq] at h
  obtain ⟨hgraphs, hhandles, hversions, hcad, hreg⟩ := h
  refine ⟨hgraphs, hhandles, hversions, hcad, fun r hr j => ?_⟩
  have hview := congrFun (congrFun hreg r) j
  rwa [if_pos hr, if_pos hr] at hview

theorem view_of_sameSinks {s u : State} (h : SameSinks s u) : u.sinkView = s.sinkView := by
  have hreg : (fun (r : Reg) (j : Nat) => if r.ref ∈ sinkRefs then u.reg r j else 0) =
      fun r j => if r.ref ∈ sinkRefs then s.reg r j else 0 := by
    funext r j
    split
    · next hr => exact h.reg r hr j
    · rfl
  rw [State.sinkView, State.sinkView, h.graphs, h.handles, h.versions, h.cadFrom, hreg]

theorem accessKeeps_sinkView : AccessKeeps State.sinkView where
  store _ _ := rfl
  rings _ _ := rfl
  ingress _ _ := rfl
  stale _ _ := rfl
  took _ := rfl
  reg u r i v hr := view_of_sameSinks (sameSinks_setReg u ((by decide : ∀ q ∈ accessRefs, q ∉ sinkRefs) _ hr) i v)
  raise u c d := view_of_sameSinks (sameSinks_raise u c d)

theorem sinkView_inc {q : Reg} (hq : q.ref ∉ sinkRefs) (i : Nat) : (s.inc q i).sinkView = s.sinkView := view_of_sameSinks (sameSinks_setReg s hq i _)

/-! ### A packet of a version (R157, R531) -/

theorem sinkView_readCopy (a : Nat) : (s.readCopy a).1.sinkView = s.sinkView :=
  (accessKeeps_sinkView.readNow _ a).trans (accessKeeps_sinkView.serveWord s a)

theorem sinkView_readWord (g a : Nat) : (s.readWord g a).1.sinkView = s.sinkView := by
  unfold State.readWord
  split
  · exact sinkView_readCopy s a
  · dsimp only
    split
    · exact sinkView_readCopy s a
    · split
      · exact (sinkView_readCopy _ _).trans (sinkView_inc s (by decide) 0)
      · rfl

theorem sinkView_readMirror (g a : Nat) : (s.readMirror g a).1.sinkView = s.sinkView := by
  unfold State.readMirror
  split
  · rfl
  · dsimp only
    split
    · exact sinkView_readCopy s _
    · rfl

theorem sinkView_egressWord (g policy a : Nat) : (s.egressWord g policy a).1.sinkView = s.sinkView := by
  have hword := sinkView_readWord s g a
  unfold State.egressWord
  generalize s.readWord g a = r at hword ⊢
  obtain ⟨u, d⟩ := r
  cases d with
  | some v => exact hword
  | none =>
    dsimp only
    split
    · exact (sinkView_readMirror u g a).trans hword
    · exact hword

theorem sinkView_egressWords (g policy k : Nat) : ∀ (s : State) (a : Nat), (s.egressWords g policy a k).1.sinkView = s.sinkView := by
  induction k with
  | zero => exact fun _ _ => rfl
  | succ k ih => exact fun s a => (ih _ (a + 32)).trans (sinkView_egressWord s g policy a)

theorem sinkView_queuePacket (k c : Nat) (l : List Byte) : (s.queuePacket k c l).sinkView = s.sinkView := by
  unfold State.queuePacket
  split
  · rfl
  · rfl

/-- A packet that leaves changes nothing of what the operation sees. -/
theorem sinkView_peerPacket (f k n base info i : Nat) (b : BufferRec) : (s.peerPacket f k n base info i b).sinkView = s.sinkView := by
  have hspan : ∀ policy a m, (s.egressSpan (quadStop (k / 4)) policy a m).1.sinkView = s.sinkView := fun policy a m =>
    sinkView_egressWords _ policy _ s _
  have hmet : ∀ (u : State) (met : Bool), (if met then u.inc R.flow_POISON_PACKETS f else u).sinkView = u.sinkView := fun u met => by
    split
    · exact sinkView_inc u (by decide) f
    · rfl
  unfold State.peerPacket
  dsimp only
  rw [sinkView_inc _ (by decide), sinkView_inc _ (by decide), sinkView_queuePacket, hmet, hspan]

theorem each_congr {α : Type} {f g : State → α → State} (Inv : State → Prop) (h : ∀ u a, Inv u → f u a = g u a ∧ Inv (g u a)) {s : State} (hs : Inv s)
    (l : List α) : s.each l f = s.each l g := by
  unfold State.each
  induction l generalizing s with
  | nil => rfl
  | cons a l ih =>
    obtain ⟨heq, hinv⟩ := h s a hs
    rw [List.foldl_cons, List.foldl_cons, heq, ih hinv]

/-- The packets of a version: its place read once, or for each packet again. -/
theorem peerPackets_eq (t f n : Nat) (o : Oper) (b : BufferRec) (l : List Nat) :
    ((s.advanceTo t).each l fun u i =>
      u.peerPacket f ((u.advanceTo t).reg R.pf_LINK f) n ((u.advanceTo t).sinkInput o).1 ((u.advanceTo t).sinkInput o).2 i b) =
    (s.advanceTo t).each l fun u i =>
      u.peerPacket f (s.reg R.pf_LINK f) n ((s.advanceTo t).sinkInput o).1 ((s.advanceTo t).sinkInput o).2 i b := by
  refine each_congr (fun u => u.sinkView = (s.advanceTo t).sinkView) (fun u i hu => ?_) rfl l
  have hsame := sameSinks_of_view hu
  have hlink : (u.advanceTo t).reg R.pf_LINK f = s.reg R.pf_LINK f := by
    rw [advanceTo_reg, hsame.reg R.pf_LINK (by decide), advanceTo_reg]
  have hinput : (u.advanceTo t).sinkInput o = (s.advanceTo t).sinkInput o := (hsame.trans (sameSinks_advanceTo u t)).sinkInput o
  rw [hlink, hinput]
  exact ⟨rfl, (sinkView_peerPacket u _ _ _ _ _ _ _).trans hu⟩

end

end Sys2Proof.Machine
end


section
/-! The ensemble: JOIN, ENABLE, PLAN, council messages and peer data (R518 to R534). -/

namespace Sys2Proof.Machine

/-- A round over a list reaches a goal at one of its elements, when every other keeps it. -/
theorem each_reaches {α : Type} {Inv Goal : State → Prop} {f : State → α → State} {m : α} (hset : ∀ u, Inv u → Goal (f u m)) :
    ∀ l : List α, (∀ u, Inv u → ∀ x ∈ l, Inv (f u x) ∧ (Goal u → Goal (f u x))) → ∀ u, Inv u → (Goal u ∨ m ∈ l) → Goal (u.each l f) := by
  intro l
  induction l with
  | nil =>
    intro _ u _ hgoal
    exact hgoal.resolve_right List.not_mem_nil
  | cons x l ih =>
    intro hkeep u hinv hgoal
    obtain ⟨hnext, hstays⟩ := hkeep u hinv x List.mem_cons_self
    refine ih (fun u hu y hy => hkeep u hu y (List.mem_cons_of_mem x hy)) (f u x) hnext ?_
    rcases hgoal with hgoal | hmem
    · exact .inl (hstays hgoal)
    · rcases List.mem_cons.mp hmem with rfl | hmem
      · exact .inl (hset u hinv)
      · exact .inr hmem

section
variable (s : State)

/-! ### The registers of the ensemble -/

/-- The registers that the view may change. -/
def viewRefs : List Nat := raiseRefs ++ [R.mem_IN_VIEW.ref, R.mem_LINK.ref, R.ens_VIEW.ref, R.ens_COMMON_VERSION.ref]

/-- An observation that the view does not reach. -/
structure ViewKeeps {β : Type} (g : State → β) : Prop where
  duplicate : ∀ (u : State) (k : Nat), g (u.onEns fun e => { e with duplicates := k :: e.duplicates }) = g u
  reg : ∀ (u : State) (r : Reg) (i v : Nat), r.ref ∈ viewRefs → g (u.setReg r i v) = g u
  raise : ∀ (u : State) (c d : Nat), g (u.raise c d) = g u

namespace ViewKeeps

variable {β : Type} {g : State → β} (k : ViewKeeps g)
include k

theorem duplicateIds : g s.duplicateIds = g s := each_keeps g _ (fun u n => (k.raise _ _ _).trans (k.duplicate u n)) s _

/-- IN_VIEW and LINK of the members. -/
theorem members (ms : List Nat) : g (s.each (List.range 8) fun s m =>
    (s.setReg R.mem_IN_VIEW m (b2n (ms.contains m))).setReg R.mem_LINK m ((s.partnerLink m).getD 0xFFFF)) = g s :=
  each_keeps g _ (fun u m => (k.reg _ R.mem_LINK _ _ (by decide)).trans (k.reg u R.mem_IN_VIEW _ _ (by decide))) s _

/-- VIEW, with its event. -/
theorem view (v : Nat) : g (if s.reg R.ens_VIEW = v then s else (s.setReg R.ens_VIEW 0 v).raise 0x9103 v) = g s := by
  split
  · rfl
  · rw [k.raise, k.reg _ _ _ _ (by decide)]

/-- COMMON_VERSION, with its event. -/
theorem common (low old : Nat) :
    g (if low < old then (s.setReg R.ens_COMMON_VERSION 0 low).raise 0x9108 low else s.setReg R.ens_COMMON_VERSION 0 low) = g s := by
  split
  · rw [k.raise, k.reg _ _ _ _ (by decide)]
  · exact k.reg _ _ _ _ (by decide)

theorem refreshView : g s.refreshView = g s := by
  unfold State.refreshView
  split
  · rfl
  · refine (k.common _ _ _).trans ?_
    refine (k.view _ _).trans ?_
    refine (k.members _ _).trans ?_
    exact k.duplicateIds s

end ViewKeeps

theorem viewKeeps_reg {r : Reg} (h : r.ref ∉ viewRefs) (j : Nat) : ViewKeeps fun s => s.reg r j where
  duplicate u _ := reg_of_regs (onEns_regs u _) r j
  reg u _ i v hq := reg_setReg_of_notMem u h hq i v j
  raise u c d := raise_reg u (fun e => h (List.mem_append_left _ e)) c d j

theorem refreshView_reg {r : Reg} (h : r.ref ∉ viewRefs) (j : Nat) : s.refreshView.reg r j = s.reg r j := (viewKeeps_reg h j).refreshView s

theorem ensTo_reg {r : Reg} (hraise : r.ref ∉ raiseRefs) (h : r.ref ≠ R.ens_STATE.ref) (v j : Nat) : (s.ensTo v).reg r j = s.reg r j := by
  simp only [State.ensTo]
  split
  · rfl
  · rw [raise_reg _ hraise, reg_setReg_of_ref _ h]

theorem ensTo_state {v : Nat} (hv : v < 2 ^ 8) : (s.ensTo v).reg R.ens_STATE = v := by
  simp only [State.ensTo]
  split
  · assumption
  · rw [raise_reg _ (by decide), reg_setReg_same, Nat.mod_eq_of_lt hv]

theorem leaderTo_reg {r : Reg} (hraise : r.ref ∉ raiseRefs) (h : r.ref ≠ R.ens_LEADER.ref) (v j : Nat) : (s.leaderTo v).reg r j = s.reg r j := by
  unfold State.leaderTo
  split
  · rfl
  · rw [raise_reg _ hraise, reg_setReg_of_ref _ h]

theorem leaderTo_leader {v : Nat} (hv : v < 2 ^ 8) : (s.leaderTo v).reg R.ens_LEADER = v := by
  unfold State.leaderTo
  split
  · assumption
  · rw [raise_reg _ (by decide), reg_setReg_same, Nat.mod_eq_of_lt hv]

theorem beginJoin_state : s.beginJoin.reg R.ens_STATE = 1 := by
  rw [State.beginJoin, refreshView_reg _ (by decide), ensTo_state _ (by decide)]

theorem beginJoin_enable : s.beginJoin.reg R.ens_ENABLE = s.reg R.ens_ENABLE := by
  rw [State.beginJoin, refreshView_reg _ (by decide), ensTo_reg _ (by decide) (by decide)]
  rfl

theorem leave_state (cause : Nat) : (s.leave cause).reg R.ens_STATE = 0 := by
  simp only [State.leave]
  rw [each_keeps (fun u => u.reg R.ens_STATE) _ (fun u g => (reg_setReg_of_ref _ (by decide) _ _ _).trans
      (impair_reg (by decide) (by decide) (by decide) u g _ _)),
    raise_reg _ (by decide), reg_setReg_of_ref _ (by decide), reg_inc_of_ref _ (by decide), ensTo_state _ (by decide)]

/-! ### ENABLE taken back (R534) -/

/-- The device without an ensemble. -/
def State.ensLeft (s : State) : State :=
  let s : State := if s.on R.ens_STATE then s.leave 1 else s
  let s := s.setReg R.ens_ENABLE 0 0
  let s : State := if s.on R.ens_VIEW then (s.setReg R.ens_VIEW 0 0).raise 0x9103 0 else s
  let s := s.each (List.range 8) fun s m => s.setReg R.mem_IN_VIEW m 0
  (s.leaderTo 0xFF).setReg R.ens_OFFSET 0 0

theorem setEnsEnable_off (h : s.on R.ens_ENABLE = true) : s.setEnsEnable false = s.ensLeft := by
  rw [State.setEnsEnable, h]
  rfl

/-- The view is empty once the device has left. -/
theorem clearView_reg {r : Reg} (hraise : r.ref ∉ raiseRefs) (h : r.ref ≠ R.ens_VIEW.ref) (j : Nat) :
    (if s.on R.ens_VIEW then (s.setReg R.ens_VIEW 0 0).raise 0x9103 0 else s).reg r j = s.reg r j := by
  split
  · rw [raise_reg _ hraise, reg_setReg_of_ref _ h]
  · rfl

theorem clearView_view : (if s.on R.ens_VIEW then (s.setReg R.ens_VIEW 0 0).raise 0x9103 0 else s).reg R.ens_VIEW = 0 := by
  split
  · rw [raise_reg _ (by decide), reg_setReg_same]
    rfl
  · next h => simpa [State.on] using h

theorem clearMembers_reg {r : Reg} (h : r.ref ≠ R.mem_IN_VIEW.ref) (j : Nat) :
    (s.each (List.range 8) fun s m => s.setReg R.mem_IN_VIEW m 0).reg r j = s.reg r j :=
  each_keeps (fun u => u.reg r j) _ (fun u m => reg_setReg_of_ref u h m j 0) s _

theorem ensLeft_solo : s.ensLeft.reg R.ens_ENABLE = 0 ∧ s.ensLeft.reg R.ens_STATE = 0 ∧ s.ensLeft.reg R.ens_VIEW = 0 ∧
    s.ensLeft.reg R.ens_LEADER = 0xFF ∧ s.ensLeft.reg R.ens_OFFSET = 0 := by
  have hstate : (if s.on R.ens_STATE then s.leave 1 else s).reg R.ens_STATE = 0 := by
    split
    · exact leave_state s 1
    · next h => simpa [State.on] using h
  unfold State.ensLeft
  dsimp only
  refine ⟨?_, ?_, ?_, ?_, ?_⟩
  · rw [reg_setReg_of_ref _ (by decide), leaderTo_reg _ (by decide) (by decide), clearMembers_reg _ (by decide),
      clearView_reg _ (by decide) (by decide), reg_setReg_same]
    rfl
  · rw [reg_setReg_of_ref _ (by decide), leaderTo_reg _ (by decide) (by decide), clearMembers_reg _ (by decide),
      clearView_reg _ (by decide) (by decide), reg_setReg_of_ref _ (by decide), hstate]
  · rw [reg_setReg_of_ref _ (by decide), leaderTo_reg _ (by decide) (by decide), clearMembers_reg _ (by decide), clearView_view]
  · rw [reg_setReg_of_ref _ (by decide), leaderTo_leader _ (by decide)]
  · rw [reg_setReg_same]
    rfl

theorem setEnsEnable_enable (on : Bool) : (s.setEnsEnable on).on R.ens_ENABLE = on := by
  rcases Bool.eq_or_eq_not (s.on R.ens_ENABLE) on with heq | hne
  · rw [State.setEnsEnable, if_pos (by simp [heq]), heq]
  · cases on with
    | true =>
      rw [State.setEnsEnable, if_neg (by simp [hne]), if_pos rfl, State.on, beginJoin_enable, reg_setReg_same]
      rfl
    | false =>
      rw [setEnsEnable_off s hne, State.on, (ensLeft_solo s).1]
      rfl

/-! ### PLAN (R526) -/

theorem setPlan_plan (plan : List Byte) : (s.setPlan plan).dom R.ens_PLAN = plan := by
  unfold State.setPlan
  refine (each_keeps (fun u => u.dom R.ens_PLAN) _ (fun u m => ?_) _ _).trans (dom_setDom_same s _ _ _)
  split
  · rfl
  · exact dom_setReg u _ _ _ _ _

/-- The members that a plan is compared with keep their STATE and their digests; the plan stays. -/
def State.comparing (s u : State) (plan : List Byte) : Prop :=
  u.ens = s.ens ∧ u.dom R.ens_PLAN = plan ∧ ∀ m, u.reg R.mem_STATE m = s.reg R.mem_STATE m

theorem setPlan_match (plan : List Byte) {m : Nat} (hm : m < 8) (hstate : s.reg R.mem_STATE m ≠ 4) :
    (s.setPlan plan).reg R.mem_DIGEST_MATCH m = b2n (tget (fun _ => []) s.ens.digests m == (sha384 plan).take 16) := by
  have hb2n : ∀ b : Bool, b2n b % 2 ^ R.mem_DIGEST_MATCH.bits = b2n b := by decide
  have hvalue : ∀ u, s.comparing u plan →
      (u.setReg R.mem_DIGEST_MATCH m (b2n (tget (fun _ => []) u.ens.digests m == u.planDigest))).reg R.mem_DIGEST_MATCH m =
        b2n (tget (fun _ => []) s.ens.digests m == (sha384 plan).take 16) := by
    rintro u ⟨hens, hplan, -⟩
    rw [reg_setReg_same, State.planDigest, hens, hplan, hb2n]
  unfold State.setPlan
  refine each_reaches (Inv := fun u => s.comparing u plan)
    (Goal := fun u => u.reg R.mem_DIGEST_MATCH m = b2n (tget (fun _ => []) s.ens.digests m == (sha384 plan).take 16)) (m := m)
    (fun u hu => ?_) (List.range 8) (fun u hu x hx => ?_) (s.setDom R.ens_PLAN 0 plan) ⟨rfl, dom_setDom_same s _ _ _, fun _ => rfl⟩
    (.inr (List.mem_range.mpr hm))
  · rw [if_neg (by rwa [hu.2.2])]
    exact hvalue u hu
  · have hx8 := List.mem_range.mp hx
    obtain ⟨hens, hplan, hstates⟩ := hu
    split
    · exact ⟨⟨hens, hplan, hstates⟩, id⟩
    · refine ⟨⟨hens, (dom_setReg u _ _ _ _ _).trans hplan, fun i => (reg_setReg_of_ref u (by decide) _ _ _).trans (hstates i)⟩, fun hgoal => ?_⟩
      rcases Decidable.em (m = x) with rfl | hne
      · exact hvalue u ⟨hens, hplan, hstates⟩
      · rw [reg_setReg_of_inst u _ (by omega)]
        exact hgoal

/-! ### Council messages (R521, R522, R524) -/

theorem heardFrom_state (m : Nat) (x : CouncilMsg) : (s.heardFrom m x).reg R.mem_STATE m = x.state % 2 ^ R.mem_STATE.bits := by
  unfold State.heardFrom
  dsimp only
  rw [reg_of_regs (onEns_regs _ _), reg_setReg_of_ref _ (by decide), reg_setReg_of_ref _ (by decide), reg_setReg_of_ref _ (by decide),
    reg_setReg_of_ref _ (by decide), reg_setReg_of_ref _ (by decide), reg_setReg_same]

theorem heardFrom_uniqueId (m : Nat) (x : CouncilMsg) : (s.heardFrom m x).reg R.mem_UNIQUE_ID m = x.uniqueId % 2 ^ 64 := by
  unfold State.heardFrom
  dsimp only
  rw [reg_of_regs (onEns_regs _ _), reg_setReg_of_ref _ (by decide), reg_setReg_of_ref _ (by decide), reg_setReg_of_ref _ (by decide),
    reg_setReg_of_ref _ (by decide), reg_setReg_same]

theorem heardFrom_echo (m : Nat) (x : CouncilMsg) : tget (fun _ => (0, 0)) (s.heardFrom m x).ens.echo m = (x.tSend, s.mono) :=
  tget_tput_same _ _ _ _

theorem heardFrom_cadence (m : Nat) (x : CouncilMsg) : (s.heardFrom m x).reg R.ens_COUNCIL_CADENCE = s.reg R.ens_COUNCIL_CADENCE := by
  unfold State.heardFrom
  dsimp only
  rw [reg_of_regs (onEns_regs _ _), reg_setReg_of_ref _ (by decide), reg_setReg_of_ref _ (by decide), reg_setReg_of_ref _ (by decide),
    reg_setReg_of_ref _ (by decide), reg_setReg_of_ref _ (by decide), reg_setReg_of_ref _ (by decide)]

theorem heardFrom_councils (m : Nat) (x : CouncilMsg) : (s.heardFrom m x).ens.councils = s.ens.councils := rfl

theorem councils_onIdents (m : Nat) (l : List Nat) :
    (s.onEns fun e => { e with idents := tput (fun _ => []) m l e.idents }).ens.councils = s.ens.councils := rfl

theorem counted_heard (m : Nat) (x : CouncilMsg) : tget (fun _ => 0) (s.counted m x).ens.heard m = s.ens.councils + 1 := by
  have hheard : (s.counted m x).ens.heard = tput (fun _ => 0) m (s.ens.councils + 1) s.ens.heard := rfl
  rw [hheard, tget_tput_same]

/-- Which councils have heard whom is no matter of the view. -/
theorem heard_refreshView : s.refreshView.ens.heard = s.ens.heard :=
  ViewKeeps.refreshView s (g := fun u => u.ens.heard) ⟨fun _ _ => rfl, fun _ _ _ _ _ => rfl, fun u c d => by rw [raise_ens]⟩

theorem ens_ensTo (v : Nat) : (s.ensTo v).ens = s.ens := by
  simp only [State.ensTo]
  split
  · rfl
  · rw [raise_ens, setReg_ens]

theorem ens_impair (g i : Nat) : (s.impair g i).ens = s.ens := by
  unfold State.impair
  split
  · rw [raise_ens]
    rfl
  · rfl

theorem heard_leave (cause : Nat) : (s.leave cause).ens.heard = s.ens.heard := by
  simp only [State.leave]
  rw [each_keeps (fun u => u.ens.heard) _ (fun u g => by rw [setReg_ens, ens_impair]), raise_ens, setReg_ens, inc_ens, ens_ensTo]
  rfl

theorem ens_shadowState (n v : Nat) : (s.shadowState n v).ens = s.ens := by
  have hid : (if v = 0 ∨ v = 1 then s.setReg R.swap_SHADOW_ID n 0 else s).ens = s.ens := by
    split
    · rfl
    · rfl
  simp only [State.shadowState]
  generalize (if v = 0 ∨ v = 1 then s.setReg R.swap_SHADOW_ID n 0 else s) = u at hid ⊢
  split
  · exact hid
  · rw [raise_ens, setReg_ens, hid]

theorem ens_cancel (m : Member) : (m.cancel s).ens = s.ens := by
  cases m with
  | exchange n =>
    simp only [Member.cancel]
    split
    · rw [ens_shadowState, setReg_ens]
    · rfl
  | profile p => rfl
  | epoch g add =>
    simp only [Member.cancel]
    split
    · rfl
    · rfl
  | graphStart g => rfl
  | graphStop g => rfl
  | graphSwitch g b => rfl

theorem ens_cancelSet (x : CommitSet) : (s.cancelSet x).ens = s.ens := by
  simp only [State.cancelSet]
  rw [raise_ens, each_keeps State.ens _ (fun u m => ens_cancel u m)]

theorem ens_stopBestEffort (g : Nat) : (s.stopBestEffort g).ens = s.ens := by
  unfold State.stopBestEffort
  split
  · rw [raise_ens, raise_ens]
    rfl
  · rfl

theorem schedKeeps_ens : SchedKeeps State.ens := ⟨fun _ _ _ _ _ _ _ _ => rfl, fun _ _ => rfl, fun _ _ _ _ _ => rfl, fun s c d => raise_ens s c d⟩

theorem ens_stepTime (new : Nat) : (s.stepTime new).ens = s.ens := by
  have hclear : ∀ n, (s.clearedFor n).ens = s.ens := fun n => by
    unfold State.clearedFor
    dsimp only
    rw [each_keeps State.ens _ (fun u g => ens_stopBestEffort u g), each_keeps State.ens _ (fun u x => ens_cancelSet u x), raise_ens]
  have hresume : ∀ (u : State) (n : Nat), (u.resumeAt n).ens = u.ens := fun _ _ => rfl
  rw [stepTime_eq, schedKeeps_ens.schedule, schedKeeps_ens.freeVersions, hresume, hclear]

theorem ens_discipline (off : Int) : (s.discipline off).ens = s.ens := by
  unfold State.discipline State.correct
  split
  · rfl
  · exact ens_stepTime s _

theorem heard_countOut (out : Bool) : (s.countOut out).ens.heard = s.ens.heard := by
  simp only [State.countOut]
  generalize (if out = true then s.reg R.ens_OUT_COUNT + 1 else 0) = n
  split
  · rw [heard_leave, setReg_ens]
  · rfl

theorem heard_offsetMeasured (off : Int) : (s.offsetMeasured off).ens.heard = s.ens.heard := by
  have hfirst : ∀ (u : State) (b far : Bool), (if b then u.countOut far else u).ens.heard = u.ens.heard := fun u b far => by
    split
    · exact heard_countOut u far
    · rfl
  have hsync : ∀ (u : State) (fine : Nat),
      (if !u.ens.resync then u else (u.onEns fun e => { e with fine := fine, resync := decide (fine < 4) }).discipline off).ens.heard = u.ens.heard :=
    fun u fine => by
      split
      · rfl
      · rw [ens_discipline]
        rfl
  have heither : ∀ (c : Prop) [Decidable c] {x y : State}, x.ens.heard = s.ens.heard → y.ens.heard = s.ens.heard →
      (if c then x else y).ens.heard = s.ens.heard := fun c _ x y hx hy => by
    split
    · exact hx
    · exact hy
  unfold State.offsetMeasured
  refine heither _ (heither _ ?_ rfl) ((hsync _ _).trans (hfirst _ _ _))
  rw [ens_discipline, raise_ens]
  rfl

theorem heard_councilMeasure (m : Nat) (x : CouncilMsg) : (s.councilMeasure m x).ens.heard = s.ens.heard := by
  simp only [State.councilMeasure]
  split
  · rfl
  · split
    · rfl
    · split
      · rw [heard_offsetMeasured]
        rfl
      · rfl

/-- A council message of an ensemble on a link that is UP. -/
theorem councilReceive_known {t k : Nat} {x : CouncilMsg} {s : State} (henable : s.on R.ens_ENABLE = true) (hlink : s.linkUp k = true)
    (hpartner : s.reg R.link_PARTNER_ID k ≠ s.reg R.ens_ENS_ID) (hmagic : x.magicOk = true) (hident : x.ident % 8 ≠ s.reg R.ens_ENS_ID) {v : State}
    {ids : List Nat} (hids : ids = tget (fun _ => []) s.ens.idents (x.ident % 8))
    (hv : v = ((s.advanceTo t).onEns fun e =>
      { e with idents := tput (fun _ => []) (x.ident % 8) (if ids.contains x.uniqueId then ids else ids ++ [x.uniqueId]) e.idents }))
    (hok : v.partnerOk (x.ident % 8) = true) :
    opCouncilReceive t k x s = if x.cadence = s.reg R.ens_COUNCIL_CADENCE ∧
        (x.frame = (v.heardFrom (x.ident % 8) x).councilFrame ∨ x.frame + 1 = (v.heardFrom (x.ident % 8) x).councilFrame) then
      (((v.heardFrom (x.ident % 8) x).counted (x.ident % 8) x).refreshView).councilMeasure (x.ident % 8) x
    else v.heardFrom (x.ident % 8) x := by
  have hopen : (!(s.advanceTo t).on R.ens_ENABLE || !(s.advanceTo t).linkUp k) = false := by
    simp only [State.on, State.linkUp, advanceTo_reg] at henable hlink ⊢
    simp [henable, hlink]
  have hvalid : ¬ (s.reg R.link_PARTNER_ID k = s.reg R.ens_ENS_ID ∨ (!x.magicOk) = true ∨ x.ident % 8 = s.reg R.ens_ENS_ID) := by
    simp [hpartner, hmagic, hident]
  have hcadence : (v.heardFrom (x.ident % 8) x).reg R.ens_COUNCIL_CADENCE = s.reg R.ens_COUNCIL_CADENCE := by
    rw [heardFrom_cadence, hv, reg_of_regs (onEns_regs _ _), advanceTo_reg]
  simp only [opCouncilReceive, hopen, Bool.false_eq_true, if_false, advanceTo_reg, if_neg hvalid, advanceTo_ens, ← hids, ← hv, hok, Bool.not_true,
    hcadence]

end

/-! ### The settlement -/

/-- Settles O45: each command by its operation, and each message by what it counts. -/
theorem ensembleCommandsTakeEffect : Obligations.EnsembleCommandsTakeEffect := by
  unfold Obligations.EnsembleCommandsTakeEffect
  refine ⟨fun w s hw henable hstate => ?join, fun w on s hw => ?enable, fun w plan s hw hlength => ?plan,
    fun t k x ids v s hk henable hlink hpartner hmagic hident hcadence hids hv hok => ?heard,
    fun t k x ids v s hk henable hlink hpartner hmagic hident hcadence hids hv hok hframe => ?counts,
    fun t k x s hk henable hlink hbad => ?unheard, fun t k p s hk hflow hdir hlink h0 h2 => ?paused,
    fun t k p s hk hflow hdir hlink hstate hframe => ?closed, fun t k p v s hk hflow hdir hstate hlink hframe => ?data,
    fun t f o b v s hf hstate hdir hpeer hlaunch hv => ?send⟩
  case join =>
    have hop : opJoin w s = s.beginJoin.ok := by
      rw [opJoin, writeAs_of_mayWrite hw rfl, if_pos (by simp [henable, hstate])]
    refine ⟨_, command_next s rfl (opJoin w), ?_, ?_, by rw [hop]⟩
    · rw [ran_reg _ _ (by decide), hop, ok_reg, beginJoin_state]
    · rw [ran_reply, hop, ok_reply]
  case enable =>
    have hop : opEnsembleEnable w on s = (s.setEnsEnable on).ok := by rw [opEnsembleEnable, writeAs_of_mayWrite hw rfl]
    have hreg : ∀ r : Reg, r.own → (s.ran (opEnsembleEnable w on s)).reg r = (s.setEnsEnable on).reg r := fun r hr => by
      rw [ran_reg _ _ hr, hop, ok_reg]
    refine ⟨_, command_next s rfl (opEnsembleEnable w on), ?_, ?_, fun hon hoff => ?_, fun hoff hon => ?_, by rw [hop]⟩
    · rw [State.on, hreg _ (by decide)]
      exact setEnsEnable_enable s on
    · rw [ran_reply, hop, ok_reply]
    · subst hon
      rw [hreg _ (by decide), State.setEnsEnable, if_neg (by simp [hoff]), if_pos rfl, beginJoin_state]
    · subst hoff
      rw [hreg _ (by decide), hreg _ (by decide), hreg _ (by decide), hreg _ (by decide), setEnsEnable_off s hon]
      exact (ensLeft_solo s).2
  case plan =>
    have hop : opPlanWrite w plan s = (s.setPlan plan).ok := by
      rw [opPlanWrite, writeAs_of_mayWrite hw rfl, if_neg (Nat.not_lt.mpr hlength)]
    refine ⟨_, command_next s rfl (opPlanWrite w plan), ?_, ?_, fun m hm hstate => ?_, by rw [hop]⟩
    · rw [dom_ran, hop, dom_ok, setPlan_plan]
    · rw [ran_reply, hop, ok_reply]
    · rw [ran_reg _ _ (by decide), hop, ok_reg, setPlan_match s plan hm hstate]
  case heard =>
    have hop := councilReceive_known henable hlink hpartner hmagic hident hids hv hok
    rw [if_neg (fun h => hcadence h.1)] at hop
    have hmono : v.mono = (s.advanceTo t).mono := by rw [hv, onEns_mono]
    refine ⟨_, command_next s (decide_eq_true hk) (opCouncilReceive t k x), ?_, ?_, ?_, by rw [hop]⟩
    · rw [ran_reg _ _ (by decide), hop, heardFrom_state]
    · rw [ran_reg _ _ (by decide), hop, heardFrom_uniqueId]
    · rw [ran_ens, hop, heardFrom_echo, hmono]
  case counts =>
    have hop := councilReceive_known henable hlink hpartner hmagic hident hids hv hok
    rw [if_pos ⟨hcadence, hframe⟩] at hop
    refine ⟨_, command_next s (decide_eq_true hk) (opCouncilReceive t k x), ?_, by rw [hop]⟩
    have hcouncils : v.ens.councils = s.ens.councils := by
      rw [hv, councils_onIdents, advanceTo_ens]
    rw [ran_ens, hop, heard_councilMeasure, heard_refreshView, counted_heard, heardFrom_councils, hcouncils]
  case unheard =>
    have hopen : (!(s.advanceTo t).on R.ens_ENABLE || !(s.advanceTo t).linkUp k) = false := by
      simp only [State.on, State.linkUp, advanceTo_reg] at henable hlink ⊢
      simp [henable, hlink]
    have hinvalid : s.reg R.link_PARTNER_ID k = s.reg R.ens_ENS_ID ∨ (!x.magicOk) = true ∨ x.ident % 8 = s.reg R.ens_ENS_ID := by
      simpa using hbad
    have hop : opCouncilReceive t k x s = s.advanceTo t := by
      simp only [opCouncilReceive, hopen, Bool.false_eq_true, if_false, advanceTo_reg, if_pos hinvalid]
    exact (command_next s (decide_eq_true hk) (opCouncilReceive t k x)).trans (by rw [hop])
  case paused =>
    have hlink' : (s.advanceTo t).linkUp k = true := by rw [← hlink]; simp only [State.linkUp, advanceTo_reg]
    have hop : opPeerDataReceive t k p s = (s.advanceTo t).inc R.flow_PAUSED_DROPS p.flow := by
      simp [opPeerDataReceive, hflow, hdir, h0, h2, hlink']
    exact (command_next s (decide_eq_true hk) (opPeerDataReceive t k p)).trans (by rw [hop])
  case closed =>
    have hlink' : (s.advanceTo t).linkUp k = true := by rw [← hlink]; simp only [State.linkUp, advanceTo_reg]
    have hop : opPeerDataReceive t k p s =
        (s.advanceTo t).notOpen p.flow (fullFrame ((s.flowRun p.flow).newest.getD 0) p.frame) 1 := by
      simp [opPeerDataReceive, hflow, hdir, hstate, hlink', hframe]
    exact (command_next s (decide_eq_true hk) (opPeerDataReceive t k p)).trans (by rw [hop])
  case data =>
    have hlink' : (s.advanceTo t).linkUp k = true := by rw [← hlink]; simp only [State.linkUp, advanceTo_reg]
    have hop : opPeerDataReceive t k p s =
        (s.advanceTo t).peerWrite p.flow (fullFrame ((s.flowRun p.flow).newest.getD 0) p.frame) v.buf v p := by
      simp [opPeerDataReceive, hflow, hdir, hstate, hlink', hframe]
    exact (command_next s (decide_eq_true hk) (opPeerDataReceive t k p)).trans (by rw [hop])
  case send =>
    have hpeer' : (s.advanceTo t).isPeer f = true := by rw [← hpeer]; simp only [State.isPeer, advanceTo_reg]
    have hready : ¬ (s.reg R.flow_STATE f ≠ 2 ∨ s.reg R.flow_DIR f ≠ 1 ∨ (!(s.advanceTo t).isPeer f) = true) := by
      simp [hstate, hdir, hpeer']
    refine (command_next s (decide_eq_true hf) (opPeerDataSend t f)).trans ?_
    have hpackets := hv.trans (peerPackets_eq s t f o.frame o b _)
    simp only [opPeerDataSend, advanceTo_reg, if_neg hready, hlaunch]
    rw [← hpackets]
    rcases Decidable.em (v.reg R.flow_POISON_PACKETS f = s.reg R.flow_POISON_PACKETS f) with hsame | hmet
    · simp [hsame]
    · simp [hmet, bne_iff_ne.mpr hmet]

end Sys2Proof.Machine
end

section
/-! What the power unit keeps of the state (chapter 16), and the units' operations that leave it alone. -/

namespace Sys2Proof.Machine

/-- The registers of the power unit that its commands and events act by. -/
def powerRefs : List Nat := [R.dom_STATE.ref, R.pow_STATE.ref, R.pow_ABANDONED.ref]

/-- The power unit: its own record, STATE of every domain, STATE and ABANDONED of the device. -/
def State.powerView (s : State) : Power × (Nat → Nat) × Nat × Nat :=
  (s.power, fun d => s.reg R.dom_STATE d, s.reg R.pow_STATE, s.reg R.pow_ABANDONED)

section
variable (s : State)

theorem powerView_eq_of {u : State} (hpower : u.power = s.power) (hreg : ∀ r : Reg, r.ref ∈ powerRefs → ∀ i, u.reg r i = s.reg r i) :
    u.powerView = s.powerView := by
  have hdom : (fun d => u.reg R.dom_STATE d) = fun d => s.reg R.dom_STATE d := funext fun d => hreg _ (by decide) d
  simp only [State.powerView, hpower, hdom, hreg R.pow_STATE (by decide), hreg R.pow_ABANDONED (by decide)]

theorem powerView_iff {u : State} : u.powerView = s.powerView ↔ u.power = s.power ∧ (∀ d, u.reg R.dom_STATE d = s.reg R.dom_STATE d) ∧
    u.reg R.pow_STATE = s.reg R.pow_STATE ∧ u.reg R.pow_ABANDONED = s.reg R.pow_ABANDONED := by
  simp only [State.powerView, Prod.mk.injEq, funext_iff]

theorem powerView_of_regs {u : State} (hpower : u.power = s.power) (hregs : u.regs = s.regs) : u.powerView = s.powerView :=
  powerView_eq_of s hpower fun r _ i => reg_of_regs hregs r i

/-! ### Registers, events and time -/

theorem setReg_powerView {r : Reg} (h : r.ref ∉ powerRefs) (i v : Nat) : (s.setReg r i v).powerView = s.powerView :=
  powerView_eq_of s rfl fun _ hq j => reg_setReg_of_ref s (fun e => h (e ▸ hq)) i j v

theorem inc_powerView {r : Reg} (h : r.ref ∉ powerRefs) (i : Nat) : (s.inc r i).powerView = s.powerView := setReg_powerView s h i _

@[simp] theorem raiseX_powerView (c d x : Nat) : (s.raiseX c d x).powerView = s.powerView :=
  powerView_eq_of s (by simp) fun r hr i =>
    raiseX_reg s ((by decide : ∀ q ∈ powerRefs, q ∉ raiseRefs) _ hr) c d x i

@[simp] theorem raise_powerView (c d : Nat) : (s.raise c d).powerView = s.powerView := raiseX_powerView s c d 0

@[simp] theorem advanceTo_powerView (t : Nat) : (s.advanceTo t).powerView = s.powerView :=
  powerView_eq_of s (by simp) fun r _ i => advanceTo_reg s t r i

@[simp] theorem waitUntil_powerView (t : Nat) : (s.waitUntil t).powerView = s.powerView := advanceTo_powerView s _

theorem schedKeeps_powerView : SchedKeeps State.powerView where
  sched _ _ _ _ _ _ _ _ := rfl
  adm _ _ := rfl
  reg s r i v h := setReg_powerView s (fun e => (by decide : ∀ q ∈ schedRefs, q ∉ powerRefs) _ h e) i v
  raise := raise_powerView

theorem accessKeeps_powerView : AccessKeeps State.powerView where
  store _ _ := rfl
  rings _ _ := rfl
  ingress _ _ := rfl
  stale _ _ := rfl
  took _ := rfl
  reg s r i v h := setReg_powerView s (fun e => (by decide : ∀ q ∈ accessRefs, q ∉ powerRefs) _ h e) i v
  raise := raise_powerView

theorem onCore_powerView (c : Nat) (u : Core → Core) : (s.onCore c u).powerView = s.powerView :=
  powerView_eq_of s (by unfold State.onCore; split <;> rfl) fun r _ i => onCore_reg s c u r i

theorem closeKeeps_powerView : CloseKeeps State.powerView where
  steward _ _ := rfl
  lease s n l := powerView_eq_of s rfl fun r _ i => setLease_reg s n l r i
  onCore s c u _ := onCore_powerView s c u
  time := advanceTo_powerView
  reg s r i v h := setReg_powerView s (fun e => (by decide : ∀ q ∈ closeRefs, q ∉ powerRefs) _ h e) i v
  raise := raise_powerView

theorem viewKeeps_powerView : ViewKeeps State.powerView where
  duplicate _ _ := rfl
  reg s r i v h := setReg_powerView s (fun e => (by decide : ∀ q ∈ viewRefs, q ∉ powerRefs) _ h e) i v
  raise := raise_powerView

/-! ### Completions and operators -/

theorem complete_powerView (o tag status : Nat) : (s.complete o tag status).powerView = s.powerView := by
  have hfault : ∀ (u : State) (n c d : Nat),
      ((((u.inc R.opr_FAULTS o).inc R.sched_FAULTS).inc R.node_FAULTS n).raise c d).powerView = u.powerView := fun u n c d => by
    rw [raise_powerView, inc_powerView _ (by decide), inc_powerView _ (by decide), inc_powerView _ (by decide)]
  unfold State.complete
  split
  · exact raise_powerView _ _ _
  · dsimp only
    rw [schedKeeps_powerView.schedule, schedKeeps_powerView.onOp]
    split
    · exact inc_powerView s (by decide) o
    · exact (hfault _ _ _ _).trans (inc_powerView s (by decide) o)

theorem completed_powerView (o tag status : Nat) : (s.completed o tag status).powerView = s.powerView := by
  unfold State.completed
  dsimp only
  rw [complete_powerView]
  split <;> rfl

@[simp] theorem takeArrived_powerView : s.takeArrived.powerView = s.powerView := by
  unfold State.takeArrived
  split
  · rfl
  · exact (each_keeps State.powerView _ (fun u x => completed_powerView u _ _ _) _ _).trans rfl

theorem operatorGone_powerView (o : Nat) : (s.operatorGone o).powerView = s.powerView := by
  unfold State.operatorGone
  dsimp only
  rw [schedKeeps_powerView.schedule]
  refine Eq.trans rfl (each_keeps State.powerView _ (fun u x => ?_) s _)
  exact (schedKeeps_powerView.substituteAbsent _ _ _).trans rfl

/-! ### Flows, ports and links that go down (R128, R142, R405) -/

theorem evaluate_powerView (f n : Nat) : (s.evaluate f n).powerView = s.powerView := by
  have hcommitted : ∀ u : State, (u.flowCommitted f n).powerView = u.powerView := fun u => by
    unfold State.flowCommitted
    split
    · exact inc_powerView _ (by decide) _
    · rfl
  have hsource : ∀ (u : State) (id b t : Nat), (u.commitSource id b f n t).powerView = u.powerView := fun u id b t => by
    unfold State.commitSource
    rw [schedKeeps_powerView.schedule, hcommitted]
    rfl
  have hrequest : ∀ (u : State) (t : Nat), (u.commitRequest f n t).1.powerView = u.powerView := fun u t => by
    unfold State.commitRequest
    split
    · rfl
    · split
      · dsimp only
        split
        · split
          · exact hsource u _ _ _
          · rfl
        · rfl
      · rfl
  unfold State.evaluate
  split
  · rfl
  · extract_lets _ _ _ u
    split
    · exact hrequest _ _
    · rfl

theorem legDown_powerView (f leg : Nat) : (s.legDown f leg).powerView = s.powerView := by
  unfold State.legDown
  split
  · rfl
  · dsimp only
    rw [each_keeps State.powerView _ fun u (v : InFrame) => evaluate_powerView u _ _, raise_powerView, setReg_powerView _ (by decide)]

theorem reportGroups_powerView (p : Nat) (fs : List Nat) : (s.reportGroups p fs).powerView = s.powerView := by
  unfold State.reportGroups
  split
  · exact inc_powerView s (by decide) p
  · rfl

theorem portRefresh_powerView (p : Nat) : (s.portRefresh p).powerView = s.powerView := by
  have hlegs : ∀ (u : State) (f : Nat),
      (let u := if u.reg R.flow_PORT_A f = p then u.legDown f 0 else u
       if u.reg R.flow_PORT_B f = p then u.legDown f 1 else u).powerView = u.powerView := fun u f => by
    dsimp only
    split <;> split <;> simp only [legDown_powerView]
  unfold State.portRefresh
  dsimp only
  split
  · rw [reportGroups_powerView, raise_powerView, inc_powerView _ (by decide), setReg_powerView _ (by decide)]
  · split
    · rw [each_keeps State.powerView _ hlegs]
      exact (raise_powerView _ _ _).trans (setReg_powerView s (by decide) _ _)
    · rfl

/-! ### Lanes (R388, R391, R469) -/

theorem dropLane_powerView (l cause st : Nat) : (s.dropLane l cause st).powerView = s.powerView := by
  refine powerView_eq_of s ?_ fun r hr i => dropLane_reg s ((by decide : ∀ q ∈ powerRefs, q ∉ dropLaneRefs) _ hr) l cause st i
  have hrun : ∀ (u : State) (f : LaneRun → LaneRun), (u.onLane l f).power = u.power := fun _ _ => rfl
  have hadd : ∀ (u : State) (r : Reg) (n : Nat), (u.add48 r l n).power = u.power := fun u r n => setReg_power u r l _
  have hends : ∀ u : State, (u.endPrbs l 0 0).power = u.power := fun u => by
    by_cases hon : u.on R.lane_PRBS_LOCK l = true
    · rw [State.endPrbs, if_pos hon, setReg_power, State.holdPrbs, if_pos hon, hrun, hadd, hadd]
    · rw [State.endPrbs, if_neg hon]
  have hdown : ∀ (u : State) (c d : Nat), (if u.laneState l = 11 then u.raise c d else u).power = u.power := fun u c d => by
    split
    · exact raise_power u _ _
    · rfl
  have hrate : ∀ u : State, (if u.reg R.lane_MODE l = 2 then u.setReg R.sdi_RATE l 0 else u).power = u.power := fun u => by
    split <;> rfl
  by_cases hoff : s.laneState l = 0 ∨ s.laneState l = 12
  · rw [State.dropLane, if_pos hoff]
  · rw [State.dropLane, if_neg hoff, State.laneTo, hrun, setReg_power, hrun, hrate, hends, setReg_power, setReg_power, hdown]

theorem laneStart_powerView (l : Nat) : (s.laneStart l).powerView = s.powerView := by
  refine powerView_eq_of s ?_ fun r hr i => laneStart_reg s
    (fun e => (by decide : ∀ q ∈ powerRefs, q ≠ R.lane_TX_STATE.ref) _ hr e) (fun e => (by decide : ∀ q ∈ powerRefs, q ≠ R.lane_STATE.ref) _ hr e) l i
  unfold State.laneStart
  split
  · dsimp only
    split <;> rfl
  · rfl

theorem laneStop_powerView (l cause : Nat) : (s.laneStop l cause).powerView = s.powerView := by
  unfold State.laneStop
  dsimp only
  split
  · exact dropLane_powerView s l cause 0
  · exact (setReg_powerView _ (by decide) _ _).trans (dropLane_powerView s l cause 0)

theorem linkDown_powerView (k cause : Nat) : (s.linkDown k cause).powerView = s.powerView := by
  have hclose : ∀ u : State, (u.closeLinkSessions k).powerView = u.powerView := fun u => by
    unfold State.closeLinkSessions
    refine each_keeps State.powerView _ (fun v n => ?_) u _
    split
    · exact closeKeeps_powerView.closeSession v _ _
    · rfl
  have hdropped : ∀ (u : State) (n : Nat), (if n = 0 then u else u.raise 0x2014 (k + min n 0xFFFF * 256)).powerView = u.powerView := fun u n => by
    split
    · rfl
    · exact raise_powerView u _ _
  unfold State.linkDown
  split
  · rfl
  · refine (viewKeeps_powerView.refreshView _).trans ((hclose _).trans ((hdropped _ _).trans ((raise_powerView _ _ _).trans ?_)))
    rw [State.add, setReg_powerView _ (by decide), inc_powerView _ (by decide), setReg_powerView _ (by decide)]
    exact each_keeps State.powerView _ (fun u l => dropLane_powerView u _ _ _) s _

theorem laneFollow_powerView (l : Nat) : (s.laneFollow l).powerView = s.powerView := by
  have hlink : ∀ (u : State) (k : Nat), (u.linkFollow k).powerView = u.powerView := fun u k => by
    unfold State.linkFollow
    dsimp only
    split
    · split
      · rfl
      · exact linkDown_powerView u k 0
    · exact setReg_powerView u (by decide) _ _
  have hport : (match s.portOf l with | some p => s.portRefresh p | none => s).powerView = s.powerView := by
    split
    · exact portRefresh_powerView s _
    · rfl
  unfold State.laneFollow
  dsimp only
  split
  · exact (hlink _ _).trans hport
  · exact hport

theorem lanesOff_powerView (ls : List Nat) : (s.lanesOff ls).powerView = s.powerView := by
  unfold State.lanesOff
  rw [each_keeps State.powerView _ fun u l => laneFollow_powerView u l]
  exact each_keeps State.powerView _ (fun u l => laneStop_powerView u l 4) s _

theorem quadOn_powerView (q : Nat) : (s.quadOn q).powerView = s.powerView :=
  each_keeps State.powerView _ (fun u l => by
    split
    · exact laneStart_powerView u l
    · rfl) s _

/-! ### Stops, stacks and quadrants (R465) -/

theorem setStop_powerView (g st : Nat) : (s.setStop g st).powerView = s.powerView := accessKeeps_powerView.setStop s g st

theorem stopsTo_powerView (d st : Nat) : (s.stopsTo d st).powerView = s.powerView :=
  each_keeps State.powerView _ (fun u g => by
    split
    · rfl
    · exact setStop_powerView u g st) s _

theorem loseQuadrant_powerView (q : Nat) : (s.loseQuadrant q).powerView = s.powerView := by
  have hpll : ∀ (u : State) (p : Nat), (if regionQuadrant (pllRegion p) = q then opPllLockLoss p u else u).powerView = u.powerView := fun u p => by
    unfold opPllLockLoss
    split
    · split
      · rw [raise_powerView, inc_powerView _ (by decide), setReg_powerView _ (by decide)]
      · rfl
    · rfl
  have hshadow : ∀ (u : State) (n v : Nat), (u.shadowState n v).powerView = u.powerView := fun u n v => by
    have hid : (if v = 0 ∨ v = 1 then u.setReg R.swap_SHADOW_ID n 0 else u).powerView = u.powerView := by
      split
      · exact setReg_powerView u (by decide) _ _
      · rfl
    unfold State.shadowState
    dsimp only
    generalize hw : (if v = 0 ∨ v = 1 then u.setReg R.swap_SHADOW_ID n 0 else u) = w
    rw [hw] at hid
    split
    · exact hid
    · rw [raise_powerView, setReg_powerView _ (by decide), hid]
  have hport : ∀ (u : State) (p cause : Nat), (u.refreshPort p cause).powerView = u.powerView := fun u p cause => by
    have hevent : ∀ (v : State) (i c d : Nat), ((v.setReg R.port_PRESENT p i).raise c d).powerView = v.powerView := fun v i c d => by
      rw [raise_powerView, setReg_powerView _ (by decide)]
    have hlose : ∀ v : State, ((v.onPort p fun x => x.lose cause).portCounts p).powerView = v.powerView := fun v => by
      rw [State.portCounts, setReg_powerView _ (by decide), setReg_powerView _ (by decide)]
      rfl
    simp only [State.refreshPort]
    split
    · rfl
    · split
      · rw [hevent]
      · rw [operatorGone_powerView, hlose, hevent]
  have hup : ∀ (u : State) (p : Nat), (u.onPort p fun x => { x with up := false }).powerView = u.powerView := fun _ _ => rfl
  have hswap : ∀ (u : State) (n : Nat), ((u.setShadow n {}).shadowState n 0).powerView = u.powerView := fun u n => (hshadow _ n 0).trans rfl
  simp only [State.loseQuadrant, State.refreshPorts]
  rw [each_keeps State.powerView _ fun u p => hport u p _, each_keeps State.powerView _ hup, each_keeps State.powerView _ hswap,
    each_keeps State.powerView _ hpll]
  rfl

theorem fencePc_powerView (n cause : Nat) : (s.fencePc n cause).powerView = s.powerView := accessKeeps_powerView.fencePc s n cause

end

end Sys2Proof.Machine
end

section
/-! Power domains that drain, go and come back (R465, R466), and sequences that switch them (R468, R469). -/

namespace Sys2Proof.Machine

/-- The record of the power unit once stack `k` is in self-refresh, its PCs having been as `was` says. -/
def Power.refreshes (p : Power) (k : Nat) (was : List (Nat × Nat)) : Power :=
  { p with refreshing := p.refreshing ++ [k], pcWas := p.pcWas ++ was }

/-- The record of the power unit once stack `k` is in self-refresh no more. -/
def Power.wakes (p : Power) (k : Nat) : Power :=
  { p with refreshing := p.refreshing.erase k, pcWas := p.pcWas.filter fun e => e.1 / 32 != k }

section
variable (s : State)

/-! ### STATE of a domain and of the device -/

theorem domState_state {v : Nat} (hv : v < 2 ^ 8) (d : Nat) : (s.domState d v).reg R.dom_STATE d = v := by
  unfold State.domState
  split
  · assumption
  · rw [raise_reg _ (by decide), reg_setReg_same, Nat.mod_eq_of_lt hv]

theorem domState_state_ne {d e : Nat} (h : e % 2 ^ 24 ≠ d % 2 ^ 24) (v : Nat) : (s.domState d v).reg R.dom_STATE e = s.reg R.dom_STATE e := by
  unfold State.domState
  split
  · rfl
  · rw [raise_reg _ (by decide), reg_setReg_of_inst _ _ h]

@[simp] theorem domState_power (d v : Nat) : (s.domState d v).power = s.power := by
  unfold State.domState
  split
  · rfl
  · rw [raise_power, setReg_power]

@[simp] theorem domState_mono (d v : Nat) : (s.domState d v).mono = s.mono := by
  unfold State.domState
  split
  · rfl
  · rw [raise_mono, setReg_mono]

theorem raiseLine_powerView (n : Nat) : (s.raiseLine n).powerView = s.powerView := closeKeeps_powerView.raiseLine s n

theorem powerChanged_powerView (v cause : Nat) : (s.powerChanged v cause).powerView = s.powerView :=
  (raiseLine_powerView _ 7).trans (raise_powerView s _ _)

theorem powerState_powerView (v cause : Nat) : (s.powerState v cause).powerView = (s.setReg R.pow_STATE 0 v).powerView :=
  powerChanged_powerView _ v cause

@[simp] theorem powerState_power (v cause : Nat) : (s.powerState v cause).power = s.power :=
  ((powerView_iff _).mp (powerState_powerView s v cause)).1

theorem powerState_state {v : Nat} (hv : v < 2 ^ 8) (cause : Nat) : (s.powerState v cause).reg R.pow_STATE = v := by
  obtain ⟨-, -, hstate, -⟩ := (powerView_iff _).mp (powerState_powerView s v cause)
  rw [hstate, reg_setReg_same, Nat.mod_eq_of_lt hv]

theorem powerState_domain (v cause d : Nat) : (s.powerState v cause).reg R.dom_STATE d = s.reg R.dom_STATE d := by
  obtain ⟨-, hdom, -, -⟩ := (powerView_iff _).mp (powerState_powerView s v cause)
  rw [hdom, reg_setReg_of_ref _ (by decide)]

/-! ### The registers alone, while the record of the power unit changes -/

theorem powerView_regs {u : State} (h : u.powerView.2 = s.powerView.2) : (∀ d, u.reg R.dom_STATE d = s.reg R.dom_STATE d) ∧
    u.reg R.pow_STATE = s.reg R.pow_STATE ∧ u.reg R.pow_ABANDONED = s.reg R.pow_ABANDONED := by
  simpa only [State.powerView, Prod.mk.injEq, funext_iff] using h

theorem onPower_powerRegs (f : Power → Power) : (s.onPower f).powerView.2 = s.powerView.2 := rfl

theorem domDrained_regs (d : Nat) : (s.domDrained d).powerView.2 = s.powerView.2 := by
  unfold State.domDrained
  dsimp only
  rw [setReg_powerView _ (by decide), onPower_powerRegs]

@[simp] theorem domDrained_power (d : Nat) : (s.domDrained d).power = { s.power with drains := s.power.drains.filter fun e => e.1 != d } := rfl

/-- PCs that change their state: no register of the power unit. -/
theorem eachPc_powerView (l : List Nat) (v : State → Nat → Nat) (f : State → Nat → PcState → PcState) :
    (s.each l fun s n => if s.pcFenced n then s else (s.setReg R.pc_STATE n (v s n)).onPc n (f s n)).powerView = s.powerView :=
  each_keeps State.powerView _ (fun u n => by
    split
    · rfl
    · exact (accessKeeps_powerView.onPc _ n _).trans (setReg_powerView u (by decide) n _)) s l

theorem onPower_view {u : State} {f : Power → Power} (h : u.powerView = (s.onPower f).powerView) :
    u.powerView.2 = s.powerView.2 ∧ u.power = f s.power := ⟨(congrArg Prod.snd h).trans (onPower_powerRegs s f), congrArg Prod.fst h⟩

theorem selfRefresh_view (k : Nat) : (s.selfRefresh k).powerView = (s.onPower fun p =>
    p.refreshes k ((stackPcs k).map fun n => (n, s.reg R.pc_STATE n))).powerView :=
  eachPc_powerView _ (stackPcs k) (fun _ _ => 3) fun _ _ p => { p with openRows := [] }

theorem selfRefresh_power (k : Nat) : (s.selfRefresh k).powerView.2 = s.powerView.2 ∧
    (s.selfRefresh k).power = s.power.refreshes k ((stackPcs k).map fun n => (n, s.reg R.pc_STATE n)) :=
  onPower_view s (selfRefresh_view s k)

/-- A stack that loses its power leaves self-refresh. -/
theorem loseDomain_stack {d : Nat} (h : d < 4) : (s.loseDomain d).powerView.2 = s.powerView.2 ∧ (s.loseDomain d).power = s.power.wakes d := by
  have hpcs : (s.each (stackPcs d) fun s n => if s.pcFenced n then s else (s.setReg R.pc_STATE n 4).onPc n fun p =>
      { scrubPos := p.scrubPos, scrubStart := p.scrubStart, settings := p.settings }).powerView = s.powerView :=
    eachPc_powerView s (stackPcs d) (fun _ _ => 4) fun _ _ p => { scrubPos := p.scrubPos, scrubStart := p.scrubStart, settings := p.settings }
  have hleave : ∀ u : State, u.powerView = s.powerView → ((u.onPower fun p => p.wakes d).loseStack d).powerView =
      (s.onPower fun p => p.wakes d).powerView := fun u hu => congrArg (fun x => (x.1.wakes d, x.2)) hu
  rw [State.loseDomain, if_pos h]
  exact onPower_view s (hleave _ hpcs)

/-- Any other domain leaves the power unit as it is. -/
theorem loseDomain_powerView {d : Nat} (h : 4 ≤ d) : (s.loseDomain d).powerView = s.powerView := by
  have hslots : ∀ u : State, (u.each allSlots fun s g => s.setReg R.slot_STATE g 0).powerView = u.powerView := fun u =>
    each_keeps State.powerView _ (fun v g => setReg_powerView v (by decide) g 0) u _
  rw [State.loseDomain, if_neg (Nat.not_lt.mpr h)]
  split
  · exact lanesOff_powerView s _
  · split
    · rfl
    · split
      · exact loseQuadrant_powerView s _
      · split
        · exact closeKeeps_powerView.lockForceAll s 2 0
        · split
          · rw [hslots]
            rfl
          · rfl

theorem loseDomain_regs (d : Nat) : (s.loseDomain d).powerView.2 = s.powerView.2 := by
  rcases Nat.lt_or_ge d 4 with h | h
  · exact (loseDomain_stack s h).1
  · exact congrArg Prod.snd (loseDomain_powerView s h)

/-! ### A domain goes OFF and comes back (R465, R466) -/

theorem drainBegan_of_power {u : State} (h : u.power.drains = s.power.drains) (d : Nat) : u.drainBegan d = s.drainBegan d := by
  simp only [State.drainBegan, h]

/-- A drain that is over is forgotten. -/
theorem find?_drained (l : List (Nat × Nat)) (d : Nat) : ((l.filter fun e => e.1 != d).find? fun e => e.1 == d) = none := by
  simp [List.find?_eq_none]

theorem find?_drained_ne (l : List (Nat × Nat)) {d e : Nat} (h : e ≠ d) :
    ((l.filter fun x => x.1 != d).find? fun x => x.1 == e) = l.find? fun x => x.1 == e := by
  rw [List.find?_filter]
  congr 1
  funext x
  rcases Decidable.em (x.1 = e) with rfl | hx
  · simp [h]
  · simp [hx]

/-- What the record of the power unit keeps of a domain that goes: only its drain ends, and only a stack's self-refresh begins or ends. -/
structure Power.PutsOff (p q : Power) (d : Nat) : Prop where
  drains : q.drains = p.drains.filter fun e => e.1 != d
  doing : q.doing = p.doing
  group : q.group = p.group
  slept : q.slept = p.slept
  trip : q.trip = p.trip
  revive : q.revive = p.revive
  refreshing : 4 ≤ d → q.refreshing = p.refreshing

theorem powerOff_power (d : Nat) : s.power.PutsOff (s.powerOff d).power d := by
  have hrefresh : ∀ u : State, (s.power.PutsOff u.power d) → s.power.PutsOff
      ((if d < 4 ∧ !u.power.refreshing.contains d then (u.waitUntil (u.mono + 1000)).selfRefresh d else u)).power d := fun u hu => by
    split
    · next h =>
      rw [(selfRefresh_power _ d).2, State.waitUntil, advanceTo_power]
      exact { hu with refreshing := fun hd => absurd h.1 (Nat.not_lt.mpr hd) }
    · exact hu
  have hlose : ∀ u : State, s.power.PutsOff u.power d → s.power.PutsOff (u.loseDomain d).power d := fun u hu => by
    rcases Nat.lt_or_ge d 4 with h | h
    · rw [(loseDomain_stack u h).2]
      exact { hu with refreshing := fun hd => absurd h (Nat.not_lt.mpr hd) }
    · rwa [((powerView_iff _).mp (loseDomain_powerView u h)).1]
  have hstops : ∀ u : State, ((u.stopsTo d 2).inc R.dom_OFF_COUNT d).power = u.power := fun u => congrArg Prod.fst (stopsTo_powerView u d 2)
  simp only [State.powerOff]
  rw [domState_power, hstops]
  exact hlose _ (hrefresh _ ⟨rfl, rfl, rfl, rfl, rfl, rfl, fun _ => rfl⟩)

/-- Before its STATE changes, a domain that goes leaves the registers of the power unit alone. -/
theorem powerOff_regs (d : Nat) : (∀ e, e % 2 ^ 24 ≠ d % 2 ^ 24 → (s.powerOff d).reg R.dom_STATE e = s.reg R.dom_STATE e) ∧
    (s.powerOff d).reg R.dom_STATE d = 2 ∧ (s.powerOff d).reg R.pow_STATE = s.reg R.pow_STATE ∧
    (s.powerOff d).reg R.pow_ABANDONED = s.reg R.pow_ABANDONED := by
  have hrefresh : ∀ u : State,
      (if d < 4 ∧ !u.power.refreshing.contains d then (u.waitUntil (u.mono + 1000)).selfRefresh d else u).powerView.2 = u.powerView.2 := fun u => by
    split
    · rw [(selfRefresh_power _ d).1, waitUntil_powerView]
    · rfl
  have hstops : ∀ u : State, ((u.stopsTo d 2).inc R.dom_OFF_COUNT d).powerView.2 = u.powerView.2 := fun u =>
    congrArg Prod.snd ((inc_powerView _ (by decide) d).trans (stopsTo_powerView u d 2))
  have hall : ∀ u : State, u.powerView.2 = s.powerView.2 → (∀ e, e % 2 ^ 24 ≠ d % 2 ^ 24 → (u.domState d 2).reg R.dom_STATE e = s.reg R.dom_STATE e) ∧
      (u.domState d 2).reg R.dom_STATE d = 2 ∧ (u.domState d 2).reg R.pow_STATE = s.reg R.pow_STATE ∧
      (u.domState d 2).reg R.pow_ABANDONED = s.reg R.pow_ABANDONED := fun u hu => by
    obtain ⟨hdom, hstate, habandoned⟩ := powerView_regs s hu
    refine ⟨fun e he => (domState_state_ne u he 2).trans (hdom e), domState_state u (by decide) d, ?_, ?_⟩
    · exact (domState_reg u (by decide) (by decide) d 2 0).trans hstate
    · exact (domState_reg u (by decide) (by decide) d 2 0).trans habandoned
  simp only [State.powerOff]
  refine hall _ ?_
  rw [hstops, loseDomain_regs, hrefresh, domDrained_regs]

theorem powerReady_state (d : Nat) : (s.powerReady d).reg R.dom_STATE d = 0 := domState_state _ (by decide) d

@[simp] theorem powerReady_power (d : Nat) : (s.powerReady d).power = s.power :=
  (domState_power _ d 0).trans (congrArg Prod.fst (stopsTo_powerView s d 0))

theorem powerReady_abandoned (d : Nat) : (s.powerReady d).reg R.pow_ABANDONED = s.reg R.pow_ABANDONED :=
  (domState_reg _ (by decide) (by decide) d 0 0).trans ((powerView_iff _).mp (stopsTo_powerView s d 0)).2.2.2

/-- A unit that is ready reads ON, and but for a stack that goes back to self-refresh the record stays. -/
theorem unitReady_facts (d : Nat) : (s.unitReady d).reg R.dom_STATE d = 0 ∧ (s.unitReady d).reg R.pow_ABANDONED = s.reg R.pow_ABANDONED ∧
    (s.unitReady d).power.drains = s.power.drains ∧ (s.unitReady d).power.doing = s.power.doing ∧
    (s.unitReady d).power.revive = s.power.revive := by
  have hready := powerReady_state s d
  have habandoned := powerReady_abandoned s d
  have hpower := powerReady_power s d
  simp only [State.unitReady]
  generalize s.powerReady d = u at hready habandoned hpower ⊢
  split
  · obtain ⟨hp, hdom, -, hab⟩ := (powerView_iff _).mp (quadOn_powerView u (d - 4))
    rw [hdom, hab, hp, hpower]
    exact ⟨hready, habandoned, rfl, rfl, rfl⟩
  · split
    · obtain ⟨hregs, hp⟩ := selfRefresh_power (u.stopsTo d 2) d
      obtain ⟨hdom, -, hab⟩ := powerView_regs u (hregs.trans (congrArg Prod.snd (stopsTo_powerView u d 2)))
      have hstops : (u.stopsTo d 2).power = s.power := (congrArg Prod.fst (stopsTo_powerView u d 2)).trans hpower
      rw [hdom, hab, hp, hstops]
      exact ⟨hready, habandoned, rfl, rfl, rfl⟩
    · rw [hpower]
      exact ⟨hready, habandoned, rfl, rfl, rfl⟩

/-! ### Sequences (R468, R469) -/

/-- A sequence that runs waits while a domain of its group drains. -/
theorem sequence_waits {d : Nat} (hd : d ∈ powerGroup s.power.doing s.power.group) (hdrains : (s.drainBegan d).isSome = true) (n : Nat) :
    State.sequence n s = s := by
  cases n with
  | zero => rfl
  | succ n => rw [State.sequence, if_pos (.inr (List.any_eq_true.mpr ⟨d, hd, hdrains⟩))]

theorem sequence_idle (h : s.power.doing = 0) (n : Nat) : State.sequence n s = s := by
  cases n with
  | zero => rfl
  | succ n => rw [State.sequence, if_pos (.inl h)]

end

end Sys2Proof.Machine
end

section
/-! The power commands (R465 to R471, Table 16.6). -/

namespace Sys2Proof.Machine

section
variable (s : State)

/-! ### Stops that drain -/

theorem setStop_same {st : Nat} (h : st < 2 ^ 8) (g : Nat) : (s.setStop g st).reg R.stop_STATE g = st := by
  unfold State.setStop
  split
  · assumption
  · dsimp only
    rw [raise_reg _ (by decide), reg_setReg_same, Nat.mod_eq_of_lt h]

theorem setStop_other {g e : Nat} (h : e % 2 ^ 24 ≠ g % 2 ^ 24) (st : Nat) : (s.setStop g st).reg R.stop_STATE e = s.reg R.stop_STATE e := by
  unfold State.setStop
  split
  · rfl
  · dsimp only
    rw [raise_reg _ (by decide), reg_setReg_of_inst _ _ h]
    split <;> rfl

/-- Every stop of a domain that is not DEAD takes the state. -/
theorem stopsTo_stop {st d g : Nat} (hst : st < 2 ^ 8) (hne : st ≠ 3) (hg : g ∈ domainStops d) (hlive : s.reg R.stop_STATE g ≠ 3) :
    (s.stopsTo d st).reg R.stop_STATE g = st := by
  have hrange : ∀ e ∈ domainStops d, e < 384 := fun e he => List.mem_range.mp (List.mem_of_mem_filter he)
  refine each_reaches (Inv := fun u => u.reg R.stop_STATE g ≠ 3) (Goal := fun u => u.reg R.stop_STATE g = st) (m := g)
    (fun u hu => ?_) (domainStops d) (fun u hu e he => ?_) s hlive (.inr hg)
  · rw [if_neg hu]
    exact setStop_same u hst g
  · split
    · exact ⟨hu, id⟩
    · rcases Decidable.em (g = e) with rfl | hge
      · rw [setStop_same u hst]
        exact ⟨hne, fun _ => rfl⟩
      · rw [setStop_other u (by have := hrange e he; have := hrange g hg; omega)]
        exact ⟨hu, id⟩

/-! ### A quad that is switched off drains first (R469) -/

theorem domDrain_power (d : Nat) : (s.domDrain d).power = { s.power with drains := s.power.drains ++ [(d, s.mono)] } := by
  have hpower : ((s.domState d 1).stopsTo d 1).power = s.power :=
    (congrArg Prod.fst (stopsTo_powerView _ d 1)).trans (domState_power s d 1)
  have hmono : ((s.domState d 1).stopsTo d 1).mono = s.mono := by
    refine (each_keeps State.mono _ (fun u g => ?_) _ _).trans (domState_mono s d 1)
    split
    · rfl
    · unfold State.setStop
      split
      · rfl
      · dsimp only
        rw [raise_mono, setReg_mono]
        split <;> rfl
  simp only [State.domDrain, State.onPower, hpower, hmono]

theorem domDrain_regs (d : Nat) : (∀ e, (s.domDrain d).reg R.dom_STATE e = (s.domState d 1).reg R.dom_STATE e) ∧
    (s.domDrain d).reg R.pow_STATE = s.reg R.pow_STATE := by
  obtain ⟨-, hdom, hstate, -⟩ := (powerView_iff _).mp (stopsTo_powerView (s.domState d 1) d 1)
  exact ⟨hdom, hstate.trans (domState_reg s (by decide) (by decide) d 1 0)⟩

/-- Domain `d` is still ON while the first group of sequence `k` goes, the device in state `v`. -/
structure State.Waits (s : State) (d k v : Nat) : Prop where
  domain : s.reg R.dom_STATE d = 0
  refreshing : d ∉ s.power.refreshing
  doing : s.power.doing = k
  group : s.power.group = 0
  state : s.reg R.pow_STATE = v

/-- Domain `d` drains while the first group of sequence `k` goes, the device in state `v`. -/
structure State.Drains (s : State) (d k v : Nat) : Prop where
  domain : s.reg R.dom_STATE d = 1
  began : (s.drainBegan d).isSome = true
  doing : s.power.doing = k
  group : s.power.group = 0
  state : s.reg R.pow_STATE = v

/-- What another domain that goes leaves of domain `d`. -/
structure SparesDomain (s u : State) (d : Nat) : Prop where
  domain : u.reg R.dom_STATE d = s.reg R.dom_STATE d
  began : u.drainBegan d = s.drainBegan d
  refreshing : u.power.refreshing = s.power.refreshing
  doing : u.power.doing = s.power.doing
  group : u.power.group = s.power.group
  state : u.reg R.pow_STATE = s.reg R.pow_STATE

theorem State.Waits.spared {s u : State} {d k v : Nat} (h : s.Waits d k v) (hu : SparesDomain s u d) : u.Waits d k v :=
  ⟨hu.domain.trans h.domain, hu.refreshing ▸ h.refreshing, hu.doing.trans h.doing, hu.group.trans h.group, hu.state.trans h.state⟩

theorem State.Drains.spared {s u : State} {d k v : Nat} (h : s.Drains d k v) (hu : SparesDomain s u d) : u.Drains d k v :=
  ⟨hu.domain.trans h.domain, hu.began ▸ h.began, hu.doing.trans h.doing, hu.group.trans h.group, hu.state.trans h.state⟩

theorem powerOff_spares {d e : Nat} (he : 4 ≤ e) (hne : d % 2 ^ 24 ≠ e % 2 ^ 24) : SparesDomain s (s.powerOff e) d := by
  obtain ⟨hdom, -, hstate, -⟩ := powerOff_regs s e
  have hpower := powerOff_power s e
  refine ⟨hdom d hne, ?_, hpower.refreshing he, hpower.doing, hpower.group, hstate⟩
  rw [State.drainBegan, State.drainBegan, hpower.drains, find?_drained_ne _ (fun h => hne (by rw [h]))]

theorem domDrain_spares {d e : Nat} (hne : d % 2 ^ 24 ≠ e % 2 ^ 24) : SparesDomain s (s.domDrain e) d := by
  obtain ⟨hdom, hstate⟩ := domDrain_regs s e
  have hpower := domDrain_power s e
  refine ⟨(hdom d).trans (domState_state_ne s hne 1), ?_, by rw [hpower], by rw [hpower], by rw [hpower], hstate⟩
  have hed : (e == d) = false := by simpa using fun h : e = d => hne (by rw [h])
  simp [State.drainBegan, hpower, hed]

theorem goes_spares (d e : Nat) : SparesDomain s (s.onPower fun p => p.goes e) d := by
  refine ⟨rfl, ?_, ?_, ?_, ?_, rfl⟩ <;> simp only [State.onPower, State.drainBegan, Power.goes] <;> split <;> rfl

theorem SparesDomain.trans {s u w : State} {d : Nat} (h1 : SparesDomain s u d) (h2 : SparesDomain u w d) : SparesDomain s w d :=
  ⟨h2.domain.trans h1.domain, h2.began.trans h1.began, h2.refreshing.trans h1.refreshing, h2.doing.trans h1.doing, h2.group.trans h1.group,
    h2.state.trans h1.state⟩

theorem sequenceDown_spares {d e : Nat} (he : 4 ≤ e) (hne : d % 2 ^ 24 ≠ e % 2 ^ 24) : SparesDomain s (s.sequenceDown e) d := by
  have hgoes := goes_spares s d e
  unfold State.sequenceDown
  split
  · rw [if_neg (fun h => absurd h.2 (Nat.not_lt.mpr he))]
    dsimp only
    split
    · exact hgoes.trans (powerOff_spares _ he hne)
    · exact hgoes.trans (domDrain_spares _ hne)
  · exact hgoes.trans (powerOff_spares _ he hne)
  · exact ⟨rfl, rfl, rfl, rfl, rfl, rfl⟩

/-- A domain that waits begins its drain. -/
theorem sequenceDown_waits {d k v : Nat} (hd : 4 ≤ d) (h : s.Waits d k v) : (s.sequenceDown d).Drains d k v := by
  have hgone := h.spared (goes_spares s d d)
  have hrefresh : ((s.onPower fun p => p.goes d).power.refreshing.contains d) = false := by simpa using hgone.refreshing
  have hdown : s.sequenceDown d = (s.onPower fun p => p.goes d).domDrain d := by
    simp only [State.sequenceDown, h.domain]
    rw [if_neg (fun h => absurd h.2 (Nat.not_lt.mpr hd)), if_neg (by rw [hrefresh]; exact Bool.false_ne_true)]
  rw [hdown]
  generalize (s.onPower fun p => p.goes d) = u at hgone ⊢
  obtain ⟨hdom, hstate⟩ := domDrain_regs u d
  have hpower := domDrain_power u d
  refine ⟨(hdom d).trans (domState_state u (by decide) d), ?_, by rw [hpower]; exact hgone.doing, by rw [hpower]; exact hgone.group,
    hstate.trans hgone.state⟩
  simp [State.drainBegan, hpower]

/-- One that drains already goes on. -/
theorem sequenceDown_drains {d k v : Nat} (h : s.Drains d k v) : (s.sequenceDown d).Drains d k v := by
  have hsame : s.sequenceDown d = s := by simp only [State.sequenceDown, h.domain]
  rwa [hsame]

/-- The first group of a sequence. -/
theorem beginGroup_first {k : Nat} (hk : k = 1 ∨ k = 2) (hdoing : s.power.doing = k) (hgroup : s.power.group = 0) :
    s.beginGroup = (s.lanesOff (List.range 256)).each (powerGroup k 0) fun s d => s.sequenceDown d := by
  rcases hk with rfl | rfl <;> simp only [State.beginGroup, hdoing, hgroup] <;> rfl

/-- The first group of each sequence: every quad, and no stack. -/
theorem mem_firstGroup {k : Nat} (hk : k = 1 ∨ k = 2) : (∀ q < 64, 4 + q ∈ powerGroup k 0) ∧ ∀ e ∈ powerGroup k 0, 4 ≤ e ∧ e < 107 := by
  rcases hk with rfl | rfl
  · refine ⟨fun q hq => List.mem_append_left _ (List.mem_map_of_mem (List.mem_range.mpr hq)), ?_⟩
    decide +kernel
  · refine ⟨fun q hq => List.mem_map_of_mem (List.mem_range.mpr hq), ?_⟩
    decide +kernel

/-- A sequence that starts: the quads that are ON drain, and it waits for them. -/
theorem startSequence_drains {k q : Nat} (hk : k = 1 ∨ k = 2) (hq : q < 64) (hon : s.reg R.dom_STATE (4 + q) = 0)
    (hrefresh : 4 + q ∉ s.power.refreshing) :
    (s.startSequence k false).Drains (4 + q) k (if k = 1 then 1 else 4) := by
  obtain ⟨hquads, hgroup⟩ := mem_firstGroup hk
  have hv : (if k = 1 then 1 else 4) < 2 ^ 8 := by split <;> decide
  have hgo : ∀ u : State, u.Waits (4 + q) k (if k = 1 then 1 else 4) → (State.sequence 8 u.beginGroup).Drains (4 + q) k (if k = 1 then 1 else 4) := by
    intro u hu
    have hfirst : u.beginGroup.Drains (4 + q) k (if k = 1 then 1 else 4) := by
      obtain ⟨hpower, hdom, hstate, -⟩ := (powerView_iff _).mp (lanesOff_powerView u (List.range 256))
      have hlanes : (u.lanesOff (List.range 256)).Waits (4 + q) k (if k = 1 then 1 else 4) :=
        hu.spared ⟨hdom _, drainBegan_of_power u (by rw [hpower]) _, by rw [hpower], by rw [hpower], by rw [hpower], hstate⟩
      rw [beginGroup_first u hk hu.doing hu.group]
      refine each_reaches (Inv := fun u => u.Waits (4 + q) k (if k = 1 then 1 else 4) ∨ u.Drains (4 + q) k (if k = 1 then 1 else 4))
        (Goal := fun u => u.Drains (4 + q) k (if k = 1 then 1 else 4)) (m := 4 + q) (fun w hw => ?_) _ (fun w hw e he => ?_) _ (.inl hlanes) (.inr (hquads q hq))
      · exact hw.elim (sequenceDown_waits w (by omega)) (sequenceDown_drains w)
      · obtain ⟨he4, he107⟩ := hgroup e he
        rcases Decidable.em (e = 4 + q) with rfl | hne
        · exact ⟨.inr (hw.elim (sequenceDown_waits w (by omega)) (sequenceDown_drains w)), sequenceDown_drains w⟩
        · have hspares := sequenceDown_spares w (d := 4 + q) he4 (by omega)
          exact ⟨hw.imp (·.spared hspares) (·.spared hspares), (·.spared hspares)⟩
    rwa [sequence_waits _ (by rw [hfirst.doing, hfirst.group]; exact hquads q hq) hfirst.began]
  rw [State.startSequence]
  refine hgo _ ⟨(powerState_domain _ _ _ _).trans hon, ?_, ?_, ?_, powerState_state _ hv _⟩
  · rw [powerState_power]
    exact hrefresh
  · rw [powerState_power]
    rfl
  · rw [powerState_power]
    rfl

/-! ### RESUME (R470) -/

/-- Domains that are commanded ON: their STATE reads POWERING ON. -/
theorem eachOn_state {d : Nat} {l : List Nat} (hd : d ∈ l) : (s.each l fun s d => s.domState d 3).reg R.dom_STATE d = 3 := by
  refine each_reaches (Inv := fun _ => True) (Goal := fun u => u.reg R.dom_STATE d = 3) (m := d) (fun u _ => domState_state u (by decide) d) l
    (fun u _ e _ => ⟨trivial, fun hgoal => ?_⟩) s trivial (.inr hd)
  rcases Decidable.em (d % 2 ^ 24 = e % 2 ^ 24) with heq | hne
  · rw [reg_congr_inst _ _ heq]
    exact domState_state u (by decide) e
  · exact (domState_state_ne u hne 3).trans hgoal

theorem checkResumed_waits (h : s.power.refreshing ≠ []) : s.checkResumed = s := by
  rw [State.checkResumed, if_neg (fun hx => h hx.2)]

theorem checkResumed_done (hstate : s.reg R.pow_STATE = 3) (h : s.power.refreshing = []) :
    s.checkResumed.reg R.pow_STATE = 0 ∧ s.checkResumed.power.slept = [] ∧ ∀ d ∈ s.power.slept, s.checkResumed.reg R.dom_STATE d = 3 := by
  rw [State.checkResumed, if_pos ⟨hstate, h⟩]
  refine ⟨powerState_state _ (by decide) 0, ?_, fun d hd => ?_⟩
  · rw [powerState_power]
    rfl
  · rw [powerState_domain]
    exact eachOn_state s (List.mem_reverse.mpr hd)

end

/-! ### The commands -/

section
variable {s : State} {w : Who}

theorem domainCommand_answers {d : Nat} (hw : s.mayWrite w R.dom_COMMAND d = true) (hd : ¬ (104 ≤ d ∧ d ≤ 106)) (k : State → State) :
    s.domainCommand w d k = if !s.isActive || s.reg R.dom_STATE d == 1 || s.reg R.dom_STATE d == 3 then s.stateError else k s := by
  have hdenied : (s.dictAnswers w && decide (104 ≤ d) && decide (d ≤ 106)) = false := by
    rw [Bool.and_assoc]
    simp only [Bool.and_eq_false_iff, decide_eq_false_iff_not]
    omega
  rw [State.domainCommand, hdenied, if_neg Bool.false_ne_true, writeAs_of_mayWrite hw rfl]

theorem domainOff_drains {d : Nat} (hw : s.mayWrite w R.dom_COMMAND d = true) (hd : ¬ (104 ≤ d ∧ d ≤ 106)) (hactive : s.isActive = true)
    (hon : s.reg R.dom_STATE d = 0) (hbusy : s.domainBusy d = false) : opDomainOff w d s = (s.domDrain d).ok := by
  rw [opDomainOff, domainCommand_answers hw hd, if_neg (by simp [hactive, hon]), if_neg (by simp [hon]), if_neg (by simp [hbusy])]

theorem domainOn_powers {d : Nat} (hw : s.mayWrite w R.dom_COMMAND d = true) (hd : ¬ (104 ≤ d ∧ d ≤ 106)) (hactive : s.isActive = true)
    (hoff : s.reg R.dom_STATE d = 2) (hsource : d < 100 ∨ s.on R.cfg_SOURCE = false) : opDomainOn w d s = (s.domState d 3).ok := by
  have hflash : ¬ ((decide (100 ≤ d) && s.on R.cfg_SOURCE) = true) := by
    rcases hsource with h | h
    · simp [Nat.not_le.mpr h]
    · simp [h]
  rw [opDomainOn, domainCommand_answers hw hd, if_neg (by simp [hactive, hoff]), if_neg (by simp [hoff]), if_neg hflash]

end

/-- Settles O41: what each command does to the domains, the record of the power unit and STATE; a quad that is ON drains first because the
sequence waits for it. -/
theorem powerCommandsTakeEffect : Obligations.PowerCommandsTakeEffect := by
  unfold Obligations.PowerCommandsTakeEffect
  refine ⟨?_, ?_, ?_, ?_, ?_, ?_⟩
  · intro w d s hw hd hactive hon hbusy
    have hop := domainOff_drains hw hd hactive hon hbusy
    obtain ⟨hdom, -⟩ := domDrain_regs s d
    refine ⟨_, command_next s rfl (opDomainOff w d), ?_, ?_, ?_, fun g hg hlive => ?_, by rw [hop]⟩
    · rw [ran_reg _ _ (by decide), hop, ok_reg, hdom, domState_state s (by decide)]
    · rw [ran_power, hop]
      exact congrArg Power.drains (domDrain_power s d)
    · rw [ran_reply, hop, ok_reply]
    · rw [ran_reg _ _ (by decide), hop, ok_reg]
      exact stopsTo_stop _ (by decide) (by decide) hg (by rwa [domState_reg s (by decide) (by decide)])
  · intro w d s hw hd hactive hoff hsource
    have hop := domainOn_powers hw hd hactive hoff hsource
    refine ⟨_, command_next s rfl (opDomainOn w d), ?_, ?_, by rw [hop]⟩
    · rw [ran_reg _ _ (by decide), hop, ok_reg, domState_state s (by decide)]
    · rw [ran_reply, hop, ok_reply]
  · intro w d s hw hd hactive
    have hoff : opDomainOff w d s = s.stateError := by
      rw [opDomainOff, domainCommand_answers hw hd, if_pos (by simp [hactive])]
    have hon : opDomainOn w d s = s.stateError := by
      rw [opDomainOn, domainCommand_answers hw hd, if_pos (by simp [hactive])]
    exact ⟨hoff ▸ command_next s rfl (opDomainOff w d), hon ▸ command_next s rfl (opDomainOn w d)⟩
  · intro w s hw hactive hbusy
    have hop : opStandby w s = (s.startSequence 1 false).ok := by
      rw [opStandby, writeAs_of_mayWrite hw rfl, if_neg (by simp [hactive, hbusy])]
    refine ⟨_, command_next s rfl (opStandby w), ?_, fun q hq hon hrefresh => ?_, by rw [hop]⟩
    · rw [ran_reply, hop, ok_reply]
    · have hdrains := startSequence_drains s (.inl rfl) hq hon hrefresh
      rw [ran_reg _ _ (by decide), ran_reg _ _ (by decide), hop, ok_reg, ok_reg]
      exact ⟨hdrains.domain, hdrains.state⟩
  · intro w s hw hstate hbusy
    have hop : opNightfall w s = (s.startSequence 2 false).ok := by
      rw [opNightfall, writeAs_of_mayWrite hw rfl, if_neg (by rcases hstate with h | h <;> simp [h, hbusy])]
    refine ⟨_, command_next s rfl (opNightfall w), ?_, fun q hq hon hrefresh => ?_, by rw [hop]⟩
    · rw [ran_reply, hop, ok_reply]
    · have hdrains := startSequence_drains s (.inr rfl) hq hon hrefresh
      rw [ran_reg _ _ (by decide), ran_reg _ _ (by decide), hop, ok_reg, ok_reg]
      exact ⟨hdrains.domain, hdrains.state⟩
  · intro w s hw hstandby
    have hop : opPowerResume w s = ((s.powerState 3 0).checkResumed).ok := by
      rw [opPowerResume, writeAs_of_mayWrite hw rfl, if_neg (by simp [hstandby])]
    have hstate := powerState_state s (v := 3) (by decide) 0
    have hpower := powerState_power s 3 0
    refine ⟨_, command_next s rfl (opPowerResume w), ?_, by rw [hop], fun hrefresh => ?_, fun hrefresh => ?_⟩
    · rw [ran_reply, hop, ok_reply]
    · rw [ran_reg _ _ (by decide), ran_power, hop, checkResumed_waits _ (by rwa [hpower]), ok_reg]
      exact ⟨hstate, congrArg Power.slept hpower⟩
    · obtain ⟨hactive, hslept, hdomains⟩ := checkResumed_done _ hstate (by rwa [hpower])
      rw [ran_power, hop]
      refine ⟨?_, hslept, fun d hd => ?_⟩
      · rw [ran_reg _ _ (by decide), ok_reg]
        exact hactive
      · rw [ran_reg _ _ (by decide), ok_reg]
        exact hdomains d (by rwa [hpower])

end Sys2Proof.Machine
end

section
/-! The island of the power unit (R473 to R478): trips, wakes, the walk of the ADC, and stacks that are trained or leave self-refresh. -/

namespace Sys2Proof.Machine

section
variable (s : State)

theorem closeKeeps_phase : CloseKeeps State.phase where
  steward _ _ := rfl
  lease := setLease_phase
  onCore s c u _ := onCore_phase s c u
  time := advanceTo_phase
  reg _ _ _ _ _ := rfl
  raise := raise_phase

@[simp] theorem raiseLine_phase (n : Nat) : (s.raiseLine n).phase = s.phase := closeKeeps_phase.raiseLine s n

@[simp] theorem raiseLine_power (n : Nat) : (s.raiseLine n).power = s.power := congrArg Prod.fst (raiseLine_powerView s n)

/-! ### Trips (R473, R478) -/

/-- A trip within a Nightfall: counted with its cause, and the Nightfall is never abandoned. -/
theorem thermalTrip_nightfall (hdoing : s.power.doing = 2) (hrevive : s.power.revive = []) (hheld : s.phase ≠ .held) (hdark : s.phase ≠ .dark)
    {cause : Nat} (hcause : cause < 2 ^ 8) (unit extra : Nat) :
    (s.thermalTrip cause unit extra).power.trip = true ∧ (s.thermalTrip cause unit extra).reg R.pow_LAST_TRIP_CAUSE = cause ∧
      (s.thermalTrip cause unit extra).reg R.pow_TRIPS = (s.reg R.pow_TRIPS + 1) % 2 ^ R.pow_TRIPS.bits := by
  have hcounted : ∀ d : Nat, ((((s.inc R.pow_TRIPS).setReg R.pow_LAST_TRIP_CAUSE 0 cause).raiseX 0x8203 d extra).reg R.pow_LAST_TRIP_CAUSE = cause) ∧
      (((s.inc R.pow_TRIPS).setReg R.pow_LAST_TRIP_CAUSE 0 cause).raiseX 0x8203 d extra).reg R.pow_TRIPS =
        (s.reg R.pow_TRIPS + 1) % 2 ^ R.pow_TRIPS.bits := fun d => by
    rw [raiseX_reg _ (by decide), raiseX_reg _ (by decide), reg_setReg_same, reg_setReg_of_ref _ (by decide), reg_inc_same, Nat.mod_eq_of_lt hcause]
    exact ⟨rfl, rfl⟩
  have hline : ∀ (u : State) (r : Reg), r.ref ∉ raiseRefs → r.ref ≠ R.core_STATE.ref →
      ((u.onPower fun p => { p with trip := true }).powerChanged 4 1).reg r = u.reg r := fun u r hevent hstate => by
    rw [State.powerChanged, raiseLine_reg _ hevent hstate, raise_reg _ hevent, onPower_reg]
  have hpower : ∀ u : State, ((u.onPower fun p => { p with trip := true }).powerChanged 4 1).power.trip = true := fun u => by
    rw [State.powerChanged, raiseLine_power, raise_power]
    rfl
  simp only [State.thermalTrip]
  specialize hcounted (cause + unit * 16)
  have hphase : (((s.inc R.pow_TRIPS).setReg R.pow_LAST_TRIP_CAUSE 0 cause).raiseX 0x8203 (cause + unit * 16) extra).phase = s.phase := by
    rw [raiseX_phase, setReg_phase, inc_phase]
  have hsame : (((s.inc R.pow_TRIPS).setReg R.pow_LAST_TRIP_CAUSE 0 cause).raiseX 0x8203 (cause + unit * 16) extra).power = s.power := by
    rw [raiseX_power, setReg_power, inc_power]
  generalize (((s.inc R.pow_TRIPS).setReg R.pow_LAST_TRIP_CAUSE 0 cause).raiseX 0x8203 (cause + unit * 16) extra) = u at hcounted hphase hsame ⊢
  rw [if_neg (by rw [hphase]; exact fun h => h.elim hheld hdark), if_pos (by rw [hsame]; exact ⟨hdoing, hrevive⟩)]
  split
  · exact ⟨by assumption, hcounted⟩
  · rw [hline u _ (by decide) (by decide), hline u _ (by decide) (by decide)]
    exact ⟨hpower u, hcounted⟩

/-! ### Wakes (R474, R476) -/

theorem startWake_facts : s.startWake.phase = .daybreak ∧ s.startWake.power = s.power ∧ s.startWake.dusk = s.dusk := by
  have hpower := each_keeps State.power _ (fun u i => domState_power u i 0) s (List.range 106)
  have hdusk := each_keeps State.dusk _ (fun u i => show (u.domState i 0).dusk = u.dusk by
    unfold State.domState
    split
    · rfl
    · rw [raise_dusk, setReg_dusk]) s (List.range 106)
  simp only [State.startWake]
  generalize (s.each (List.range 106) fun s i => s.domState i 0) = u at hpower hdusk ⊢
  exact ⟨trivial, hpower, hdusk⟩

/-- The device wakes: Daybreak, its source in LAST_WAKE, and the timer is taken back. -/
theorem wakeNow_facts {src : Nat} (hsrc : src < 2 ^ 8) : (s.wakeNow src).phase = .daybreak ∧ (s.wakeNow src).reg R.pow_LAST_WAKE = src ∧
    (s.wakeNow src).power.timerFrom = none ∧ (s.wakeNow src).dusk = s.dusk := by
  simp only [State.wakeNow]
  obtain ⟨hphase, hpower, hdusk⟩ := startWake_facts (s.onPower fun p => { p with held := none, timerFrom := none })
  rw [raise_phase, raise_reg _ (by decide), raise_power, raise_dusk, reg_setReg_same, setReg_phase, setReg_power, setReg_dusk, hphase, hpower, hdusk,
    Nat.mod_eq_of_lt hsrc]
  exact ⟨rfl, rfl, rfl, rfl⟩

theorem wakeBy_night (hnight : s.phase = .night) (hcold : s.reg R.pow_LAST_NIGHTFALL ≠ 2) (src : Nat) : s.wakeBy src = s.wakeNow src := by
  rw [State.wakeBy, if_pos hnight, if_neg (fun h => hcold h.1)]

theorem wakeBy_nightfall (hnight : s.phase ≠ .night) (hdoing : s.power.doing = 2) (src : Nat) :
    (s.wakeBy src).power.held = some (s.power.held.getD src) := by
  rw [State.wakeBy, if_neg hnight, if_pos hdoing]
  rfl

theorem wakeBy_dusk {src : Nat} (hsrc : src < 2 ^ 8) : (s.wakeBy src).dusk = s.dusk := by
  unfold State.wakeBy
  split
  · split
    · rw [raise_dusk, onPower_dusk]
    · exact (wakeNow_facts s hsrc).2.2.2
  · split <;> rfl

/-! ### The ADC (R477) -/

/-- What a sample's walk of the ADC goes by. -/
def Power.walkView (p : Power) : Nat × Nat × List Nat × List (Nat × Nat) := (p.adcAt, p.pos, p.walk, p.hot)

theorem samplePush_reg {r : Reg} (hevent : r.ref ∉ raiseRefs) (hstate : r.ref ≠ R.core_STATE.ref) (hover : r.ref ≠ R.seq_OVERRUNS.ref) (c code j : Nat) :
    (s.samplePush c code).reg r j = s.reg r j := by
  unfold State.samplePush
  dsimp only
  split
  · rfl
  · split
    · rfl
    · split
      · exact reg_inc_of_ref _ hover _ _
      · rw [raiseLine_reg _ hevent hstate]
        rfl

theorem samplePush_walk (c code : Nat) : (s.samplePush c code).power.walkView = s.power.walkView := by
  unfold State.samplePush
  dsimp only
  split
  · rfl
  · split
    · rfl
    · split
      · rfl
      · rw [raiseLine_power]
        rfl

theorem walkOn_reg {r : Reg} (hevent : r.ref ∉ raiseRefs) (hstate : r.ref ≠ R.core_STATE.ref) (j : Nat) : s.walkOn.reg r j = s.reg r j := by
  unfold State.walkOn
  split
  · rfl
  · exact raiseLine_reg _ hevent hstate 1 j

theorem walkOn_next (h : s.power.pos + 1 < s.power.walk.length) : s.walkOn.power = { s.power with pos := s.power.pos + 1 } := by
  rw [State.walkOn, if_pos h]
  rfl

/-- Whether the walk ends or goes on, the instant of the next sample and the runs stay. -/
theorem walkOn_keeps : s.walkOn.power.adcAt = s.power.adcAt ∧ s.walkOn.power.hot = s.power.hot := by
  unfold State.walkOn
  split
  · exact ⟨rfl, rfl⟩
  · rw [raiseLine_power]
    exact ⟨rfl, rfl⟩

theorem toSigned_ofSigned_word {z : Int} (hlo : -2 ^ 31 ≤ z) (hhi : z < 2 ^ 31) : toSigned 32 (ofSigned 32 z % 2 ^ 32) = z := by
  unfold toSigned ofSigned
  split <;> omega

theorem adcValue_range (c : Nat) {code : Nat} (h : code < 4096) : -2 ^ 31 ≤ adcValue c code ∧ adcValue c code < 2 ^ 31 := by
  unfold adcValue
  split <;> omega

/-- CODE and VALUE of the channel that was converted. -/
theorem sampleTo_channel (c : Nat) {code : Nat} (h : code < 4096) :
    (s.sampleTo c code).reg R.adc_CODE c = code ∧ (s.sampleTo c code).regI R.adc_VALUE c = adcValue c code := by
  have hmin : ∀ (u : State) (b : Bool) (r : Reg), r.ref ≠ R.adc_MIN.ref →
      (if b = true then u.setRegI R.adc_MIN c (adcValue c code) else u).reg r c = u.reg r c := fun u b r hr => by
    split
    · exact reg_setReg_of_ref u hr _ _ _
    · rfl
  have hmax : ∀ (u : State) (b : Bool) (r : Reg), r.ref ≠ R.adc_MAX.ref →
      (if b = true then u.setRegI R.adc_MAX c (adcValue c code) else u).reg r c = u.reg r c := fun u b r hr => by
    split
    · exact reg_setReg_of_ref u hr _ _ _
    · rfl
  have hset : ∀ r : Reg, r.ref ≠ R.adc_MIN.ref → r.ref ≠ R.adc_MAX.ref → (s.sampleTo c code).reg r c =
      (((s.boardSample c code).setReg R.adc_CODE c code).setRegI R.adc_VALUE c (adcValue c code)).reg r c := fun r h1 h2 =>
    (hmax _ _ r h2).trans (hmin _ _ r h1)
  obtain ⟨hlo, hhi⟩ := adcValue_range c h
  rw [State.regI, hset _ (by decide) (by decide), hset _ (by decide) (by decide), State.setRegI, reg_setReg_same,
    reg_setReg_of_ref _ (by decide), reg_setReg_same]
  exact ⟨Nat.mod_eq_of_lt (lt_trans h (by decide)), toSigned_ofSigned_word hlo hhi⟩

theorem sampleTo_walk (c code : Nat) : (s.sampleTo c code).power.walkView = s.power.walkView := by
  have hset : ∀ (u : State) (b : Bool) (r : Reg), (if b = true then u.setRegI r c (adcValue c code) else u).power = u.power := fun u b r => by
    split <;> rfl
  have hboard : (s.boardSample c code).power = s.power := by
    unfold State.boardSample
    split <;> rfl
  have hseen : ∀ (u : State) (mins maxs : Power → List Nat),
      (u.onPower fun p => { p with minSeen := mins p, maxSeen := maxs p }).power.walkView = u.power.walkView := fun _ _ _ => rfl
  simp only [State.sampleTo]
  rw [hseen, hset, hset, State.setRegI, setReg_power, setReg_power, hboard]

/-- A sample of channel `c`, before what the island decides of it. -/
def State.converted (s : State) (c code : Nat) : State :=
  ((((s.waitUntil s.power.adcAt).onPower fun p => { p with adcAt := (s.waitUntil s.power.adcAt).mono + 1000 }).sampleTo c code).samplePush c code).walkOn

/-- A sample converted at its instant: CODE and VALUE, the next instant and the walk. -/
structure State.Sampled (s u : State) (c code : Nat) : Prop where
  codeReads : u.reg R.adc_CODE c = code
  valueReads : u.regI R.adc_VALUE c = adcValue c code
  next : u.power.adcAt = (s.waitUntil s.power.adcAt).mono + 1000
  walk : s.power.pos + 1 < s.power.walk.length → u.power.pos = s.power.pos + 1 ∧ u.power.walk = s.power.walk

theorem converted_sampled (c : Nat) {code : Nat} (h : code < 4096) : s.Sampled (s.converted c code) c code ∧
    (s.converted c code).power.hot = s.power.hot := by
  have hwait : (s.waitUntil s.power.adcAt).power = s.power := by rw [State.waitUntil, advanceTo_power]
  have hfirst : ((s.waitUntil s.power.adcAt).onPower fun p => { p with adcAt := (s.waitUntil s.power.adcAt).mono + 1000 }).power.walkView =
      ((s.waitUntil s.power.adcAt).mono + 1000, s.power.pos, s.power.walk, s.power.hot) := by
    simp only [State.onPower, hwait, Power.walkView]
  unfold State.converted
  generalize ((s.waitUntil s.power.adcAt).onPower _) = v at hfirst ⊢
  obtain ⟨hcode, hvalue⟩ := sampleTo_channel v c h
  have hwalk := (samplePush_walk (v.sampleTo c code) c code).trans ((sampleTo_walk v c code).trans hfirst)
  have hregs : ∀ r : Reg, r.ref ∉ raiseRefs → r.ref ≠ R.core_STATE.ref → r.ref ≠ R.seq_OVERRUNS.ref →
      (((v.sampleTo c code).samplePush c code).walkOn).reg r c = (v.sampleTo c code).reg r c := fun r h1 h2 h3 =>
    (walkOn_reg _ h1 h2 c).trans (samplePush_reg _ h1 h2 h3 c code c)
  simp only [Power.walkView, Prod.mk.injEq] at hwalk
  obtain ⟨hat, hpos, hlist, hhot⟩ := hwalk
  obtain ⟨hkeepAt, hkeepHot⟩ := walkOn_keeps ((v.sampleTo c code).samplePush c code)
  refine ⟨⟨(hregs _ (by decide) (by decide) (by decide)).trans hcode, ?_, hkeepAt.trans hat, fun hmore => ?_⟩, hkeepHot.trans hhot⟩
  · rw [State.regI, hregs _ (by decide) (by decide) (by decide)]
    exact hvalue
  · rw [walkOn_next _ (by rw [hpos, hlist]; exact hmore), hpos]
    exact ⟨rfl, hlist⟩

/-- What the island decides of a converted sample: the eighth hot die sample in a row trips, the third of a rail out of range is logged. -/
def State.sampleDecided (s : State) (c code : Nat) : State :=
  if c < 24 then
    let n := runOf s.power.hot c (decide (3300 ≤ code))
    let s := s.onPower fun p => { p with hot := tput (fun _ => 0) c n p.hot }
    if n = 8 then s.thermalTrip 0 c 0 else s
  else if c < 36 then
    let n := runOf s.power.bad c (railOut c code)
    let s := s.onPower fun p => { p with bad := tput (fun _ => 0) c n p.bad }
    if n = 3 then s.raise 0x8207 c else s
  else s

theorem opAdcSample_eq {c : Nat} (hc : nth s.power.walk s.power.pos 0 = c) (t code : Nat) :
    opAdcSample t code s = ((s.advanceTo t).converted c (code % 4096)).sampleDecided c (code % 4096) := by
  have hchannel : ∀ v : State, v.power = s.power →
      (let u := v.onPower fun p => { p with adcAt := v.mono + 1000 }; nth u.power.walk u.power.pos 0) = c := fun v hv => by
    simp only [State.onPower, hv, hc]
  have hwait := hchannel ((s.advanceTo t).waitUntil (s.advanceTo t).power.adcAt) (by rw [State.waitUntil, advanceTo_power, advanceTo_power])
  rw [← hwait]
  rfl

/-- No trip: what was converted stands. -/
theorem sampleDecided_sampled {u : State} {c code : Nat} (h : s.Sampled u c code) (hcold : c < 24 → runOf u.power.hot c (decide (3300 ≤ code)) ≠ 8) :
    s.Sampled (u.sampleDecided c code) c code := by
  have hruns : ∀ f : Power → Power, (∀ p, (f p).adcAt = p.adcAt ∧ (f p).pos = p.pos ∧ (f p).walk = p.walk) → s.Sampled (u.onPower f) c code :=
    fun f hf => by
      obtain ⟨hat, hpos, hwalk⟩ := hf u.power
      exact ⟨h.codeReads, h.valueReads, hat.trans h.next, fun hmore => ⟨hpos.trans (h.walk hmore).1, hwalk.trans (h.walk hmore).2⟩⟩
  unfold State.sampleDecided
  split
  · next hc =>
    dsimp only
    rw [if_neg (hcold hc)]
    exact hruns _ fun p => ⟨rfl, rfl, rfl⟩
  · split
    · dsimp only
      have hbad := hruns (fun p => { p with bad := tput (fun _ => 0) c (runOf u.power.bad c (railOut c code)) p.bad }) fun p => ⟨rfl, rfl, rfl⟩
      split
      · refine ⟨?_, ?_, ?_, ?_⟩
        · rw [raise_reg _ (by decide)]
          exact hbad.codeReads
        · rw [State.regI, raise_reg _ (by decide)]
          exact hbad.valueReads
        · rw [raise_power]
          exact hbad.next
        · rw [raise_power]
          exact hbad.walk
      · exact hbad
    · exact h

/-! ### Stacks (R216, R470) -/

theorem trainPc_powerView (n : Nat) (results : List TrainResult) : (s.trainPc n results).powerView = s.powerView := by
  have hset : ∀ (u : State) (v : Nat) (f : PcState → PcState) (rate : Nat),
      (((u.setReg R.pcb_CEILING n rate).setReg R.pc_STATE n v).onPc n f).powerView = u.powerView := fun u v f rate =>
    (accessKeeps_powerView.onPc _ n f).trans ((setReg_powerView _ (by decide) _ _).trans (setReg_powerView u (by decide) _ _))
  have hdead : ∀ (u : State) (p q : Prop) [Decidable p] [Decidable q] (lane d : Nat),
      (if p then (u.setReg R.pc_DEAD_LANE n lane).raise 0x3004 d else if q then u else u.setReg R.pc_DEAD_LANE n 0xFF).powerView = u.powerView := by
    intro u p q _ _ lane d
    split
    · rw [raise_powerView, setReg_powerView _ (by decide)]
    · split
      · rfl
      · exact setReg_powerView u (by decide) _ _
  have hrates : ∀ (u : State) (l : List Nat) (v : State → Nat → Nat),
      (u.each l fun u x => u.setReg R.stk_RATES_OK (n / 32) (v u x)).powerView = u.powerView := fun u l v =>
    each_keeps State.powerView _ (fun u x => setReg_powerView u (by decide) _ _) u l
  have hfence : ∀ (u : State) (b : Bool), (if b = true then u.fencePc n 1 else u).powerView = u.powerView := fun u b => by
    split
    · exact fencePc_powerView u n 1
    · rfl
  simp only [State.trainPc]
  split
  · rfl
  · rw [hfence, hrates _ _ fun u x => putBit (u.reg R.stk_RATES_OK (n / 32)) x false, hdead, hset]

theorem trainStack_powerView (k : Nat) (results : List TrainResult) : (s.trainStack k results).powerView = s.powerView := by
  rw [State.trainStack, each_keeps State.powerView _ fun u n => trainPc_powerView u n results]
  exact setReg_powerView s (by decide) _ _

theorem leaveRefresh_power (k : Nat) : (s.leaveRefresh k).powerView.2 = s.powerView.2 ∧ (s.leaveRefresh k).power = s.power.wakes k := by
  have hpcs := eachPc_powerView s (stackPcs k) (fun s n => ((s.power.pcWas.find? fun e => e.1 == n).map Prod.snd).getD 0)
    fun s _ p => { p with dues := [], dueFrom := s.storeTime }
  have hwake : ∀ u : State, u.powerView = s.powerView →
      ((u.onPower fun p => p.wakes k).stopsTo k 0).powerView = (s.onPower fun p => p.wakes k).powerView := fun u hu =>
    (stopsTo_powerView _ k 0).trans (congrArg (fun x => (x.1.wakes k, x.2)) hu)
  exact onPower_view s (hwake _ hpcs)

theorem revived_of_not {d : Nat} (h : s.power.revive.contains d = false) : s.revived d = s := by
  rw [State.revived, h, if_neg Bool.false_ne_true]

end

end Sys2Proof.Machine
end

section
/-! The events of power and monitoring (R465 to R478). -/

namespace Sys2Proof.Machine

section
variable (s : State)

theorem drainBegan_advanceTo (t d : Nat) : (s.advanceTo t).drainBegan d = s.drainBegan d := drainBegan_of_power s (by rw [advanceTo_power]) d

/-- A drain of a domain that has gone is over. -/
theorem powerOff_drainBegan (d : Nat) : (s.powerOff d).drainBegan d = none := by
  rw [State.drainBegan, (powerOff_power s d).drains, find?_drained]
  rfl

theorem powerOff_drainBegan_ne {d e : Nat} (h : e ≠ d) : (s.powerOff d).drainBegan e = s.drainBegan e := by
  rw [State.drainBegan, (powerOff_power s d).drains, find?_drained_ne _ h]
  rfl

/-! ### Drains that end -/

/-- What a drain that completes does, on a state whose time has come. -/
theorem drainComplete_effect {t d b : Nat} (hbegan : s.drainBegan d = some b) (hdrained : (s.advanceTo t).drained d = true) :
    opDrainComplete t d s = if s.power.doing = 1 ∧ d < 4 ∧ s.reg R.dom_STATE d = 0 then
        (State.sequence 8 ((((s.advanceTo t).domDrained d).stopsTo d 2).selfRefresh d)).takeArrived
      else (State.sequence 8 ((s.advanceTo t).powerOff d)).takeArrived := by
  simp only [opDrainComplete, drainBegan_advanceTo, hbegan, hdrained, Option.isNone_some, Bool.not_true, Bool.or_self, Bool.false_eq_true, if_false,
    advanceTo_power, advanceTo_reg]
  split <;> rfl

/-- Of no sequence, it turns its domain off. -/
theorem drainComplete_off {t d : Nat} (hidle : s.power.doing = 0) (a : State) (ha : a = s.advanceTo t) :
    (State.sequence 8 (a.powerOff d)).takeArrived.reg R.dom_STATE d = 2 ∧ (State.sequence 8 (a.powerOff d)).takeArrived.drainBegan d = none := by
  have hdoing : (a.powerOff d).power.doing = 0 := by rw [(powerOff_power a d).doing, ha, advanceTo_power, hidle]
  rw [sequence_idle _ hdoing]
  obtain ⟨hpower, hdom, -, -⟩ := (powerView_iff _).mp (takeArrived_powerView (a.powerOff d))
  refine ⟨(hdom d).trans (powerOff_regs a d).2.1, ?_⟩
  rw [drainBegan_of_power (a.powerOff d) (by rw [hpower]), powerOff_drainBegan]

/-- A drain abandoned outside a Nightfall, before the sequence goes on. -/
def State.drainTaken (s : State) (d : Nat) : State :=
  ((((s.domDrained d).unitReady d).inc R.pow_ABANDONED).onPower fun p => { p with slept := p.slept.erase d }).raise 0x8204 d

theorem drainTaken_facts (d : Nat) : (s.drainTaken d).reg R.dom_STATE d = 0 ∧ (s.drainTaken d).drainBegan d = none ∧
    (s.drainTaken d).reg R.pow_ABANDONED = (s.reg R.pow_ABANDONED + 1) % 2 ^ R.pow_ABANDONED.bits ∧
    (s.drainTaken d).power.doing = s.power.doing := by
  obtain ⟨hdom, habandoned, hdrains, hdoing, -⟩ := unitReady_facts (s.domDrained d) d
  obtain ⟨-, -, hbefore⟩ := powerView_regs s (domDrained_regs s d)
  unfold State.drainTaken
  refine ⟨?_, ?_, ?_, ?_⟩
  · rw [raise_reg _ (by decide), onPower_reg, reg_inc_of_ref _ (by decide), hdom]
  · rw [State.drainBegan, raise_power]
    exact congrArg (fun l => (l.find? fun e => e.1 == d).map Prod.snd) hdrains |>.trans (by rw [domDrained_power, find?_drained, Option.map_none])
  · rw [raise_reg _ (by decide), onPower_reg, reg_inc_same, habandoned, hbefore]
  · rw [raise_power]
    exact hdoing

/-- A domain that a trip cuts, before the sequence goes on. -/
def State.drainCut (s : State) (d : Nat) : State := ((s.powerOff d).inc R.pow_ABANDONED).raise 0x8204 (d + 256)

theorem drainCut_facts (d : Nat) : (s.drainCut d).reg R.dom_STATE d = 2 ∧ (∀ e, (s.drainCut d).drainBegan e = (s.powerOff d).drainBegan e) ∧
    (s.drainCut d).reg R.pow_ABANDONED = (s.reg R.pow_ABANDONED + 1) % 2 ^ R.pow_ABANDONED.bits ∧
    (s.drainCut d).power = (s.powerOff d).power := by
  obtain ⟨-, hdom, -, habandoned⟩ := powerOff_regs s d
  have hpower : (s.drainCut d).power = (s.powerOff d).power := by rw [State.drainCut, raise_power, inc_power]
  refine ⟨?_, drainBegan_of_power _ (by rw [hpower]), ?_, hpower⟩
  · rw [State.drainCut, raise_reg _ (by decide), reg_inc_of_ref _ (by decide), hdom]
  · rw [State.drainCut, raise_reg _ (by decide), reg_inc_same, habandoned]

/-- While another domain of the group drains, the sequence waits. -/
theorem sequence_drainCut {d e : Nat} (hgroup : e ∈ powerGroup s.power.doing s.power.group) (hne : e ≠ d) (hdrains : s.drainBegan e ≠ none) :
    State.sequence 8 (s.drainCut d) = s.drainCut d := by
  obtain ⟨-, hbegan, -, hpower⟩ := drainCut_facts s d
  have hoff := powerOff_power s d
  refine sequence_waits _ (d := e) ?_ ?_ 8
  · rwa [hpower, hoff.doing, hoff.group]
  · rw [hbegan, powerOff_drainBegan_ne s hne]
    exact Option.isSome_iff_ne_none.mpr hdrains

/-! ### A domain that is powered -/

theorem unitReady_on {u : State} (d : Nat) (hu : u.powerView = s.powerView) (hrevive : s.power.revive.contains d = false) :
    ((u.unitReady d).revived d).reg R.dom_STATE d = 0 := by
  obtain ⟨hdom, -, -, -, hsame⟩ := unitReady_facts u d
  have hpower : u.power = s.power := congrArg Prod.fst hu
  rw [revived_of_not _ (by rw [hsame, hpower, hrevive]), hdom]

/-- DOMAIN_POWER_ON_COMPLETE of a domain that is powering on, the device not resuming. -/
theorem powerOnComplete_effect {d : Nat} (hstate : s.reg R.pow_STATE ≠ 3) (hon : s.reg R.dom_STATE d = 3) (t : Nat) (image : List Byte)
    (results : List TrainResult) : opDomainPowerOnComplete t d image results s =
      if d < 4 then (((s.advanceTo t).trainStack d results).unitReady d).revived d
      else if d < 100 then ((s.advanceTo t).unitReady d).revived d
      else ((s.advanceTo t).reloadQuadrant (d - 100) image).revived d := by
  rw [opDomainPowerOnComplete]
  rw [if_neg (by rw [advanceTo_reg]; exact fun h => hstate h.1), if_neg (by rw [advanceTo_reg]; exact not_not.mpr hon)]

/-- A stack leaves self-refresh while another is still in it. -/
theorem leaveRefresh_waits {k j : Nat} (hstate : s.reg R.pow_STATE = 3) (hne : j ≠ k) (hj : j ∈ s.power.refreshing) :
    (s.leaveRefresh k).checkResumed.power.refreshing = s.power.refreshing.erase k ∧ (s.leaveRefresh k).checkResumed.reg R.pow_STATE = 3 := by
  obtain ⟨hregs, hpower⟩ := leaveRefresh_power s k
  have hleft : (s.leaveRefresh k).power.refreshing = s.power.refreshing.erase k := congrArg Power.refreshing hpower
  have hmore : (s.leaveRefresh k).power.refreshing ≠ [] := by
    rw [hleft]
    exact List.ne_nil_of_mem ((List.mem_erase_of_ne hne).mpr hj)
  rw [checkResumed_waits _ hmore]
  exact ⟨hleft, (powerView_regs s hregs).2.1.trans hstate⟩

/-! ### Samples, trips and wakes -/

theorem adcSample_sampled {t code c : Nat} (hc : nth s.power.walk s.power.pos 0 = c)
    (hcold : c < 24 → runOf s.power.hot c (decide (3300 ≤ code % 4096)) ≠ 8) :
    (s.advanceTo t).Sampled (opAdcSample t code s) c (code % 4096) := by
  obtain ⟨hsampled, hhot⟩ := converted_sampled (s.advanceTo t) c (Nat.mod_lt code (by decide : 0 < 4096))
  rw [opAdcSample_eq s hc]
  refine sampleDecided_sampled _ hsampled fun h => ?_
  rw [hhot, advanceTo_power]
  exact hcold h

/-- A run of samples that are not hot is none. -/
theorem runOf_cold {l : List (Nat × Nat)} {c code : Nat} (h : 24 ≤ c ∨ code < 3300) (hc : c < 24) : runOf l c (decide (3300 ≤ code)) ≠ 8 := by
  rw [decide_eq_false (by omega)]
  exact (by decide : (0 : Nat) ≠ 8)

/-- The run of hot samples of a die channel, as the trip decides of it. -/
theorem adcSample_hot {t code c n : Nat} (hc : nth s.power.walk s.power.pos 0 = c) (hdie : c < 24) (hhot : 3300 ≤ code % 4096)
    (hn : runOf s.power.hot c true = n) :
    opAdcSample t code s = if n = 8 then
        (((s.advanceTo t).converted c (code % 4096)).onPower fun p => { p with hot := tput (fun _ => 0) c n p.hot }).thermalTrip 0 c 0
      else ((s.advanceTo t).converted c (code % 4096)).onPower fun p => { p with hot := tput (fun _ => 0) c n p.hot } := by
  obtain ⟨-, hkept⟩ := converted_sampled (s.advanceTo t) c (Nat.mod_lt code (by decide : 0 < 4096))
  rw [opAdcSample_eq s hc, State.sampleDecided, if_pos hdie, hkept, advanceTo_power, decide_eq_true hhot, hn]

theorem adcDataRead_empty (h : s.power.fifo = []) : (opAdcDataRead s).reply = ⟨true, 0, [0, 0]⟩ := by
  simp only [opAdcDataRead, State.takeSample, h]
  rfl

theorem adcDataRead_oldest {c code : Nat} {rest : List (Nat × Nat)} (h : s.power.fifo = (c, code) :: rest) :
    (opAdcDataRead s).power = { s.power with fifo := rest, chan := c } ∧ (opAdcDataRead s).reply = ⟨true, 0, leBytes 2 code⟩ := by
  have hline : ∀ u : State, (if rest.isEmpty = true then u.clearLine 0 else u).power = u.power := fun u => by
    split
    · rw [State.clearLine]
      exact congrArg Prod.fst (onCore_powerView u 0 fun k => { k with irqPend := putBit k.irqPend 0 false })
    · rfl
  simp only [opAdcDataRead, State.takeSample, h]
  exact ⟨hline _, rfl⟩

/-- What a wake source does, in NIGHT and during a Nightfall. -/
theorem wakeBy_facts {src : Nat} (hsrc : src < 2 ^ 8) :
    (s.phase = .night → s.reg R.pow_LAST_NIGHTFALL ≠ 2 → (s.wakeBy src).phase = .daybreak ∧ (s.wakeBy src).reg R.pow_LAST_WAKE = src ∧
      (s.wakeBy src).power.timerFrom = none) ∧
    (s.phase ≠ .night → s.power.doing = 2 → (s.wakeBy src).power.held = some (s.power.held.getD src)) := by
  refine ⟨fun hnight hcold => ?_, fun hnight hdoing => wakeBy_nightfall s hnight hdoing src⟩
  obtain ⟨hphase, hlast, htimer, -⟩ := wakeNow_facts s hsrc
  rw [wakeBy_night s hnight hcold]
  exact ⟨hphase, hlast, htimer⟩

/-- The same of a state that differs by time, events and lines only. -/
theorem wakeBy_later {u : State} (hphase : u.phase = s.phase) (hpower : u.power = s.power)
    (hlast : u.reg R.pow_LAST_NIGHTFALL = s.reg R.pow_LAST_NIGHTFALL) {src : Nat} (hsrc : src < 2 ^ 8) :
    (s.phase = .night → s.reg R.pow_LAST_NIGHTFALL ≠ 2 → (u.wakeBy src).phase = .daybreak ∧ (u.wakeBy src).reg R.pow_LAST_WAKE = src ∧
      (u.wakeBy src).power.timerFrom = none) ∧
    (s.phase ≠ .night → s.power.doing = 2 → (u.wakeBy src).power.held = some (s.power.held.getD src)) := by
  have h := wakeBy_facts u hsrc
  rwa [hphase, hpower, hlast] at h

/-- A trip within a Nightfall, some time later. -/
theorem thermalTrip_later {t cause : Nat} (hcause : cause < 2 ^ 8) (unit extra : Nat) (hdoing : s.power.doing = 2) (hrevive : s.power.revive = [])
    (hheld : s.phase ≠ .held) (hdark : s.phase ≠ .dark) :
    ((s.advanceTo t).thermalTrip cause unit extra).power.trip = true ∧
      ((s.advanceTo t).thermalTrip cause unit extra).reg R.pow_LAST_TRIP_CAUSE = cause ∧
      ((s.advanceTo t).thermalTrip cause unit extra).reg R.pow_TRIPS = (s.reg R.pow_TRIPS + 1) % 2 ^ R.pow_TRIPS.bits := by
  have h := thermalTrip_nightfall (s.advanceTo t) (by rwa [advanceTo_power]) (by rwa [advanceTo_power]) (by rwa [advanceTo_phase])
    (by rwa [advanceTo_phase]) hcause unit extra
  rwa [advanceTo_reg] at h

end

/-- Settles O42: what each event does to the domains, the record of the power unit and STATE; the ADC's samples by what was converted and what
the island decides of it. -/
theorem powerEventsTakeEffect : Obligations.PowerEventsTakeEffect := by
  unfold Obligations.PowerEventsTakeEffect
  refine ⟨?_, ?_, ?_, ?_, ?_, ?_, ?_, ?_, ?_, ?_, ?_, ?_, ?_, ?_, ?_, ?_, ?_⟩
  · intro t d b s hd hbegan hdrained
    have hop := drainComplete_effect s hbegan hdrained
    refine ⟨_, command_next s (decide_eq_true hd) (opDrainComplete t d), fun hidle _ => ?_, by rw [hop]⟩
    obtain ⟨hdom, hover⟩ := drainComplete_off s (t := t) (d := d) hidle _ rfl
    rw [if_neg (fun h => absurd (hidle ▸ h.1) (by decide))] at hop
    rw [ran_reg _ _ (by decide), drainBegan_of_power (opDrainComplete t d s) (by rw [ran_power]), hop]
    exact ⟨hdom, hover⟩
  · intro t d b s hd hbegan hlimit hdoing htrip
    have hop : opDrainAbandon t d s = (s.advanceTo t).abandonNightfall d := by
      simp only [opDrainAbandon, drainBegan_advanceTo, hbegan, advanceTo_power, advanceTo_reg, hdoing, htrip]
      rw [if_neg (by simpa using hlimit), if_pos trivial]
    exact hop ▸ command_next s (decide_eq_true hd) (opDrainAbandon t d)
  · intro t d b s hd hbegan hlimit hdoing
    have hop : opDrainAbandon t d s = State.sequence 8 ((s.advanceTo t).drainTaken d) := by
      simp only [opDrainAbandon, drainBegan_advanceTo, hbegan, advanceTo_power, advanceTo_reg]
      rw [if_neg (fun h => h.elim (Nat.not_lt.mpr hlimit) fun h => hdoing h.1), if_neg hdoing]
      rfl
    refine ⟨_, command_next s (decide_eq_true hd) (opDrainAbandon t d), fun hidle => ?_, by rw [hop]; rfl⟩
    obtain ⟨hdom, hover, habandoned, hsame⟩ := drainTaken_facts (s.advanceTo t) d
    rw [sequence_idle _ (by rw [hsame, advanceTo_power, hidle])] at hop
    rw [ran_reg _ _ (by decide), ran_reg _ _ (by decide), drainBegan_of_power (opDrainAbandon t d s) (by rw [ran_power]), hop]
    rw [advanceTo_reg] at habandoned
    exact ⟨hdom, hover, habandoned⟩
  · intro t d b s hd hbegan hdoing htrip hlimit
    have hop : opTripDrainCut t d s = (State.sequence 8 ((s.advanceTo t).drainCut d)).takeArrived := by
      simp only [opTripDrainCut, drainBegan_advanceTo, hbegan, advanceTo_power]
      rw [if_pos ⟨hdoing, htrip, hlimit⟩]
      rfl
    refine ⟨_, command_next s (decide_eq_true hd) (opTripDrainCut t d), fun e he hne hdrains _ => ?_, by rw [hop]; rfl⟩
    obtain ⟨hdom, hover, habandoned, -⟩ := drainCut_facts (s.advanceTo t) d
    rw [sequence_drainCut _ (by rwa [advanceTo_power, hdoing]) hne (by rwa [drainBegan_advanceTo])] at hop
    obtain ⟨hpower, hdoms, -, hcount⟩ := (powerView_iff _).mp (takeArrived_powerView ((s.advanceTo t).drainCut d))
    rw [ran_reg _ _ (by decide), ran_reg _ _ (by decide), drainBegan_of_power (opTripDrainCut t d s) (by rw [ran_power]), hop, hdoms, hcount,
      drainBegan_of_power ((s.advanceTo t).drainCut d) (by rw [hpower]), hover, hdom, habandoned, powerOff_drainBegan, advanceTo_reg]
    exact ⟨rfl, rfl, rfl⟩
  · intro t d image results s hd hstate hon
    have hop := powerOnComplete_effect s hstate hon t image results
    rw [if_pos hd] at hop
    refine ⟨_, command_next s (decide_eq_true (by omega)) (opDomainPowerOnComplete t d image results), fun hrevive => ?_, by rw [hop]⟩
    rw [ran_reg _ _ (by decide), hop]
    exact unitReady_on s d ((trainStack_powerView _ d results).trans (advanceTo_powerView s t)) hrevive
  · intro t d image results s hd4 hd hstate hon
    have hop := powerOnComplete_effect s hstate hon t image results
    rw [if_neg (Nat.not_lt.mpr hd4), if_pos hd] at hop
    refine ⟨_, command_next s (decide_eq_true (by omega)) (opDomainPowerOnComplete t d image results), fun hrevive => ?_, by rw [hop]⟩
    rw [ran_reg _ _ (by decide), hop]
    exact unitReady_on s d (advanceTo_powerView s t) hrevive
  · intro t d image results s hd100 hd hstate hon
    have hop := powerOnComplete_effect s hstate hon t image results
    rw [if_neg (by omega), if_neg (by omega)] at hop
    exact hop ▸ command_next s (decide_eq_true (by omega)) (opDomainPowerOnComplete t d image results)
  · intro t k image results s hk hstate hmem
    have hop : opDomainPowerOnComplete t k image results s = ((s.advanceTo t).leaveRefresh k).checkResumed := by
      rw [opDomainPowerOnComplete]
      exact if_pos ⟨by rwa [advanceTo_reg], by rw [advanceTo_power]; simpa using hmem⟩
    refine ⟨_, command_next s (decide_eq_true (by omega)) (opDomainPowerOnComplete t k image results), fun j hne hj => ?_, by rw [hop]⟩
    obtain ⟨hleft, hresuming⟩ := leaveRefresh_waits (s.advanceTo t) (by rwa [advanceTo_reg]) hne (by rwa [advanceTo_power])
    rw [ran_reg _ _ (by decide), ran_power, hop, hleft, hresuming, advanceTo_power]
    exact ⟨rfl, rfl⟩
  · intro t code c v s hv hc hcold
    obtain ⟨hcode, hvalue, hnext, hwalk⟩ := adcSample_sampled s (t := t) hc (runOf_cold hcold)
    rw [advanceTo_power] at hnext hwalk
    refine ⟨_, command_next s rfl (opAdcSample t code), ?_, ?_, ?_, ?_, fun h36 => ?_⟩
    · rw [ran_reg _ _ (by decide), hcode]
    · rw [ran_power, hnext, hv]
    · rw [State.regI, ran_reg _ _ (by decide)]
      exact hvalue
    · rw [ran_power]
      exact hwalk
    · rw [opAdcSample_eq s hc, State.sampleDecided, if_neg (by omega), if_neg (by omega), State.converted, advanceTo_power, hv]
  · intro t code c s hc hdie hhot hrun
    obtain ⟨hcode, -, -, -⟩ := adcSample_sampled s (t := t) hc fun _ => by rwa [decide_eq_true hhot]
    have hop := adcSample_hot s (t := t) hc hdie hhot rfl
    rw [if_neg hrun] at hop
    refine ⟨_, command_next s rfl (opAdcSample t code), ?_, ?_⟩
    · rw [ran_reg _ _ (by decide), hcode]
    · rw [ran_power, hop]
      exact tget_tput_same _ _ _ _
  · intro t code c v s hv hc hdie hhot hrun
    have hop := adcSample_hot s (t := t) hc hdie hhot hrun
    rw [if_pos rfl, State.converted, advanceTo_power, ← hv] at hop
    exact (command_next s rfl (opAdcSample t code)).trans (by rw [hop])
  · intro s
    refine ⟨_, command_next s rfl opAdcDataRead, fun hempty => ?_, fun c code rest hfifo => ?_⟩
    · rw [ran_reply, adcDataRead_empty s hempty]
    · obtain ⟨hpower, hreply⟩ := adcDataRead_oldest s hfifo
      rw [ran_power, ran_reply, hpower, hreply]
      exact ⟨rfl, rfl, rfl⟩
  · intro t value s hruns
    have hop : opTripPortWrite t value s = (s.advanceTo t).thermalTrip 2 0 (value % 65536) := by
      rw [opTripPortWrite]
      exact if_pos (by simpa [State.coreRuns] using hruns)
    refine ⟨_, command_next s rfl (opTripPortWrite t value), fun hdoing hrevive hheld hdark => ?_, by rw [hop]⟩
    rw [ran_reg _ _ (by decide), ran_reg _ _ (by decide), ran_power, hop]
    exact thermalTrip_later s (by decide) 0 _ hdoing hrevive hheld hdark
  · intro t k b s hk hhot hb hb0 hlong
    have hop : opStackTemperatureTrip t k s = (s.advanceTo t).thermalTrip 1 k 0 := by
      simp only [opStackTemperatureTrip, State.regI, advanceTo_reg, advanceTo_power, ← hb]
      exact if_pos ⟨hhot, hb0, hlong⟩
    refine ⟨_, command_next s (decide_eq_true hk) (opStackTemperatureTrip t k), fun hdoing hrevive hheld hdark => ?_, by rw [hop]⟩
    rw [ran_reg _ _ (by decide), ran_reg _ _ (by decide), ran_power, hop]
    exact thermalTrip_later s (by decide) k 0 hdoing hrevive hheld hdark
  · intro t s hruns
    have hop : opWakePortWrite t s = (s.advanceTo t).wakeBy 3 := by
      rw [opWakePortWrite]
      exact if_pos (by simpa [State.coreRuns] using hruns)
    obtain ⟨hwakes, hholds⟩ := wakeBy_later s (advanceTo_phase s t) (advanceTo_power s t) (advanceTo_reg s t _ _) (src := 3) (by decide)
    refine ⟨_, command_next s rfl (opWakePortWrite t), fun hnight hcold => ?_, fun hnight hdoing => ?_, by rw [hop]⟩
    · obtain ⟨hphase, hlast, -⟩ := hwakes hnight hcold
      rw [ran_phase, ran_reg _ _ (by decide), hop]
      exact ⟨hphase, hlast⟩
    · rw [ran_power, hop]
      exact hholds hnight hdoing
  · intro t s
    have hphase : ((s.advanceTo t).raiseLine 5).phase = s.phase := by rw [raiseLine_phase, advanceTo_phase]
    have hpower : ((s.advanceTo t).raiseLine 5).power = s.power := by rw [raiseLine_power, advanceTo_power]
    have hlast : ((s.advanceTo t).raiseLine 5).reg R.pow_LAST_NIGHTFALL = s.reg R.pow_LAST_NIGHTFALL := by
      rw [raiseLine_reg _ (by decide) (by decide), advanceTo_reg]
    obtain ⟨hwakes, hholds⟩ := wakeBy_later s hphase hpower hlast (src := 2) (by decide)
    refine ⟨_, command_next s rfl (opWakePin t), ?_, fun hnight hcold => ?_, fun hnight hdoing => ?_, rfl⟩
    · rw [ran_dusk, opWakePin, wakeBy_dusk _ (by decide)]
      exact raiseLine_pending _ 5
    · obtain ⟨hday, hsource, -⟩ := hwakes hnight hcold
      rw [ran_phase, ran_reg _ _ (by decide)]
      exact ⟨hday, hsource⟩
    · rw [ran_power]
      exact hholds hnight hdoing
  · intro t b s hfrom hnight hdue
    have hop : opWakeTimer t s = (s.advanceTo t).wakeBy 4 := by
      simp only [opWakeTimer, advanceTo_power, advanceTo_phase, hfrom]
      exact if_pos ⟨hnight, hdue⟩
    obtain ⟨hwakes, -⟩ := wakeBy_later s (advanceTo_phase s t) (advanceTo_power s t) (advanceTo_reg s t _ _) (src := 4) (by decide)
    refine ⟨_, command_next s rfl (opWakeTimer t), fun hcold => ?_, by rw [hop]⟩
    rw [ran_phase, ran_reg _ _ (by decide), ran_power, hop]
    exact hwakes hnight hcold

end Sys2Proof.Machine
end
